-- ==== Sys2Proof/Word.lean ====
section
/-! DEFINITION. The word types of the register map (R12) and of byte strings. -/

namespace Sys2Proof

/-- A 32-bit register word (R12). -/
abbrev Word := BitVec 32

/-- One byte of a frame, entry or memory. -/
abbrev Byte := BitVec 8

end Sys2Proof
end

