-- ==== Sys2Proof/Machine/Table.lean ====
section
/-! DEFINITION. Tables: sparse plain data by key in one canonical form, the byte memories among them, and
the byte-order, bit-field and rounding helpers of R9, R11, R12 and R551. -/

namespace Sys2Proof.Machine

/-- A sparse table: keys strictly rising, no entry equal to what an unlisted key reads as. -/
abbrev Tbl (α : Type) := List (Nat × α)

/-- The entry of a key; `d` where it is not listed. -/
def tget {α : Type} (d : α) (k : Nat) : Tbl α → α
  | [] => d
  | (k', v) :: t => if k = k' then v else tget d k t

/-- The entry of a key, where listed. -/
def tfind {α : Type} (k : Nat) : Tbl α → Option α
  | [] => none
  | (k', v) :: t => if k = k' then some v else tfind k t

/-- Insert or replace an entry, keeping the keys in order. -/
def tset {α : Type} (k : Nat) (v : α) : Tbl α → Tbl α
  | [] => [(k, v)]
  | (k', v') :: t =>
    if k < k' then (k, v) :: (k', v') :: t
    else if k = k' then (k, v) :: t
    else (k', v') :: tset k v t

/-- Remove a key. -/
def tdel {α : Type} (k : Nat) (t : Tbl α) : Tbl α := t.filter (fun e => !(e.1 == k))

/-- Write a key: the value an unlisted key reads as removes the entry. -/
def tput {α : Type} [DecidableEq α] (d : α) (k : Nat) (v : α) (t : Tbl α) : Tbl α :=
  if v = d then tdel k t else tset k v t

/-- The canonical form: keys strictly rising and no entry equal to the default of its key. -/
abbrev tblWf {α : Type} [DecidableEq α] (d : Nat → α) (t : Tbl α) : Prop :=
  t.Pairwise (fun a b => a.1 < b.1) ∧ ∀ e ∈ t, e.2 ≠ d e.1

/-- A byte memory: a table of cells in canonical form; an unlisted address reads 0. -/
abbrev Memory := List (Nat × BitVec 8)

/-- One byte of a memory. -/
def memByte (m : Memory) (a : Nat) : Byte := tget 0 a m

/-- Store one byte. -/
def memStore (m : Memory) (a : Nat) (b : Byte) : Memory := tput 0 a b m

/-- `n` bytes from address `a` up. -/
def memBytes (m : Memory) (a : Nat) : Nat → List Byte
  | 0 => []
  | n + 1 => memByte m a :: memBytes m (a + 1) n

/-- Store a byte string from address `a` up. -/
def memStores (m : Memory) (a : Nat) : List Byte → Memory
  | [] => m
  | b :: bs => memStores (memStore m a b) (a + 1) bs

/-- The canonical form of a memory. -/
abbrev Memory.wf (m : Memory) : Prop := tblWf (fun _ => (0 : Byte)) m

/-- A byte from a number, modulo 256. -/
def byte (n : Nat) : Byte := BitVec.ofNat 8 n

/-- `n` bytes of a number, least significant first (R12, the management path). -/
def le (n : Nat) (v : Nat) : List Byte :=
  match n with
  | 0 => []
  | n + 1 => byte v :: le n (v / 256)

/-- `n` bytes of a number, most significant first (R12, every other format). -/
def be (n : Nat) (v : Nat) : List Byte := (le n v).reverse

/-- The number a byte string spells, least significant byte first. -/
def ofLe : List Byte → Nat
  | [] => 0
  | b :: bs => b.toNat + 256 * ofLe bs

/-- The number a byte string spells, most significant byte first. -/
def ofBe (bs : List Byte) : Nat := ofLe bs.reverse

/-- `n` bytes of a string at an offset; bytes beyond its end read 0. -/
def slice (bs : List Byte) (off n : Nat) : List Byte :=
  let t := (bs.drop off).take n
  t ++ List.replicate (n - t.length) 0

/-- The `n`-byte number at an offset, most significant byte first. -/
def beAt (bs : List Byte) (off n : Nat) : Nat := ofBe (slice bs off n)

/-- The `n`-byte number at an offset, least significant byte first. -/
def leAt (bs : List Byte) (off n : Nat) : Nat := ofLe (slice bs off n)

/-- Bits `[lo + w - 1 : lo]` of a number (R9). -/
def bits (v lo w : Nat) : Nat := v / 2 ^ lo % 2 ^ w

/-- One bit of a number. -/
def bit (v i : Nat) : Bool := v.testBit i

/-- A number with its bit `i` set to `b`. -/
def setBit (v i : Nat) (b : Bool) : Nat :=
  if b then v ||| 2 ^ i else v - (if v.testBit i then 2 ^ i else 0)

/-- 1 for true, 0 for false. -/
def b2n (b : Bool) : Nat := if b then 1 else 0

/-- The two's complement reading of a `w`-bit field (R11). -/
def signed (w v : Nat) : Int :=
  if v % 2 ^ w < 2 ^ (w - 1) then (v % 2 ^ w : Nat) else (v % 2 ^ w : Nat) - (2 ^ w : Nat)

/-- The `w`-bit two's complement field of an integer. -/
def unsigned (w : Nat) (v : Int) : Nat := (v % (2 ^ w : Nat)).toNat

/-- An integer held within limits. -/
def clampInt (lo hi v : Int) : Int := if v < lo then lo else if hi < v then hi else v

/-- round(n / d), halves away from zero (R551). `d` is positive. -/
def roundDiv (n : Int) (d : Nat) : Int :=
  if 0 ≤ n then ((2 * n.toNat + d) / (2 * d) : Nat)
  else -(((2 * (-n).toNat + d) / (2 * d) : Nat) : Int)

/-- ceil(n / d). -/
def ceilDiv (n d : Nat) : Nat := (n + d - 1) / d

/-- The bits of a number, most significant first, `n` of them. -/
def bitsMsb (n v : Nat) : List Bool := (List.range n).map (fun i => v.testBit (n - 1 - i))

/-- The number a bit list spells, most significant first. -/
def ofBitsMsb (l : List Bool) : Nat := l.foldl (fun a b => 2 * a + b2n b) 0

/-- The bits of a byte string, each byte most significant bit first (R12). -/
def bytesToBits (bs : List Byte) : List Bool := bs.flatMap (fun b => bitsMsb 8 b.toNat)

/-- The bytes of a bit string, most significant bit first; a short last byte is filled with 0. -/
def bitsToBytes : List Bool → List Byte
  | a :: b :: c :: d :: e :: f :: g :: h :: t => byte (ofBitsMsb [a, b, c, d, e, f, g, h]) :: bitsToBytes t
  | [] => []
  | l => [byte (ofBitsMsb (l ++ List.replicate (8 - l.length) false))]

/-- The k-th element from the end of a rotating order: the list turned left by `k`. -/
def rotate {α : Type} (l : List α) (k : Nat) : List α :=
  l.drop (k % (l.length + b2n l.isEmpty)) ++ l.take (k % (l.length + b2n l.isEmpty))

/-- Replace the first element that satisfies `p`. -/
def updFirst {α : Type} (p : α → Bool) (f : α → α) : List α → List α
  | [] => []
  | a :: t => if p a then f a :: t else a :: updFirst p f t

/-- A remainder register shifted by one input bit: CRC of `w` bits with generator `g`. -/
def crcStep (w g : Nat) (r : Nat) (b : Bool) : Nat :=
  let fb := xor (r.testBit (w - 1)) b
  let r' := r * 2 % 2 ^ w
  if fb then r' ^^^ g else r'

/-- The CRC of a bit string, first bit first, from an initial register value. -/
def crc (w g init : Nat) (l : List Bool) : Nat := l.foldl (crcStep w g) init

end Sys2Proof.Machine
end

