-- ==== Sys2Proof/Machine/Types.lean ====
section
/-! DEFINITION. The plain data types the commands' operands and the state are made of. -/

namespace Sys2Proof.Machine

/-- Who issued an OHI command: the panel, and the tag of its entry (R78). -/
structure Cmd where
  pnl : Nat
  tag : Nat
  deriving DecidableEq, Repr

/-- The fields of a frame control (R96): bits [127:24]; `body` is bits [75:24]. -/
structure FC where
  typ : Nat
  ver : Nat
  prio : Nat
  link : Nat
  src : Nat
  dst : Nat
  body : Nat
  deriving DecidableEq, Repr

/-- A complex number with rational parts. -/
structure Cx where
  re : Rat
  im : Rat
  deriving DecidableEq, Repr, Inhabited

/-- A mask of a band plan (R86). -/
structure Mask where
  first : Nat
  last : Nat
  db : Nat
  deriving DecidableEq, Repr

/-- A BAND_PLAN item (R86); `chan` is byte 7, the channel of a panel pattern's item (R89). -/
structure BandPlan where
  plan : Nat := 0
  low : Nat := 74
  high : Nat := 3522
  chan : Nat := 0
  notches : List (Nat × Nat) := []
  masks : List Mask := []
  deriving DecidableEq, Repr

/-- A CHANNEL_MAP item (R118). -/
structure ChanItem where
  channel : Nat
  initial : Nat
  role : Nat
  coupling : Nat
  profile : Nat
  panel : Nat
  link : Nat
  plan : Nat
  ramp : Nat
  timeout : Nat
  flags : Nat
  deriving DecidableEq, Repr

/-- A HEM_WINDOWS item (R231); `chans` is the 192-bit channel bitmap, bit c for channel c. -/
structure Window where
  typ : Nat
  localPhase : Bool
  start : Nat
  stop : Nat
  owner : Nat
  chans : Nat
  deriving DecidableEq, Repr

/-- The window map of a channel for a Hem, final once fixed (R228, R241): its windows, the θ `local` ones are shifted by, and
the Δ a MEMBER adds to its own phase. -/
structure WinMap where
  wins : List Window := []
  theta : Nat := 0
  delta : Nat := 0
  deriving DecidableEq, Repr

/-- The HEM_WINDOWS header (R230). -/
structure HemHdr where
  refSrc : Nat := 0
  refChan : Nat := 0
  nominal : Nat := 0
  refLine : Nat := 0
  slew : Nat := 1
  supplyOfs : Nat := 0
  deriving DecidableEq, Repr

/-- A DUTY_LEDGERS item (R249). -/
structure Ledger where
  channel : Nat
  segment : Nat
  first : Nat
  last : Nat
  windowS : Nat
  limit : Nat
  reenable : Nat
  protExempt : Bool
  deriving DecidableEq, Repr

/-- The DELIVERY header (R278); the defaults are the section's when it is absent. -/
structure DlvHdr where
  abandonMs : Nat := 2000
  protAbandonMs : Nat := 100
  retxMax : Nat := 7
  window : Nat := 64
  seenLife : Nat := 10
  floodTtl : Nat := 7
  protInflight : Nat := 256
  protDesc : Nat := 1024
  floodRep : Nat := 2
  quotas : List Nat := List.replicate 16 0xFFFFFFFF
  deriving DecidableEq, Repr

/-- A DELIVERY endpoint item (R278). -/
structure Endpoint where
  ep : Nat
  panel : Nat
  kind : Nat
  target : Nat
  cls : Nat
  deriving DecidableEq, Repr

/-- A DELIVERY domain item (R278): its channel bitmap. -/
structure Domain where
  domain : Nat
  chans : Nat
  deriving DecidableEq, Repr

/-- A PANELS item (R405). -/
structure PanelItem where
  panel : Nat
  transport : Nat := 0
  rights : Nat := 0
  dataVid : Nat := 0
  mgmtVid : Nat := 0
  ipv4 : Nat := 0
  hostMac : Nat := 0
  domains : Nat := 0
  ser : Nat := 0
  portCfg : Nat := 1
  cmd : Nat := 0
  keyLen : Nat := 0
  key : List Byte := []
  deriving DecidableEq, Repr

/-- The THIMBLE header (R408). -/
structure ThimbleHdr where
  memOlr : Nat := 0
  memProt : Nat := 0
  memCast : Nat := 0
  memLi : Nat := 0
  memOlw : Nat := 0
  memBg : Nat := 0
  airPool : Nat := 0
  protDec : Nat := 0
  actBorrow : Nat := 0
  deriving DecidableEq, Repr

/-- A THIMBLE item (R408). -/
structure ThimbleItem where
  panel : Nat
  borrow : Nat := 0
  air : Nat := 0
  dec : Nat := 0
  mem : Nat := 0
  credits : List Nat := List.replicate 8 0
  classAir : List Nat := List.replicate 3 255
  deriving DecidableEq, Repr

/-- A HOST_PORTS GOOSE map item (R399). -/
structure GooseMap where
  appid : Nat
  panel : Nat
  kind : Nat
  target : Nat
  ackReq : Bool
  dst : Nat
  ep : Nat
  deriving DecidableEq, Repr

/-- A HOST_PORTS publication item (R399). -/
structure Publication where
  index : Nat
  ports : Nat
  vid : Nat
  pcp : Nat
  panel : Nat
  deriving DecidableEq, Repr

/-- The HOST_PORTS section (R399); the defaults are the section's when it is absent. -/
structure HostPorts where
  mode0 : Nat := 0
  mode1 : Nat := 0
  prpOn : Bool := false
  an : Bool := true
  goosePcp : Nat := 4
  prpLifeMs : Nat := 0
  prpForgetMs : Nat := 10
  maps : List GooseMap := []
  pubs : List Publication := []
  deriving DecidableEq, Repr

/-- A tone map (R163): the loadings are those of the data carriers in ascending order. -/
structure ToneMap where
  use : Nat
  code : Nat
  caps : Nat
  liSpan : Nat
  bs : Nat
  margin : Nat
  robo : Nat
  loads : List Nat
  deriving DecidableEq, Repr

/-- A channel and noise estimate of one carrier (R153). -/
structure Est where
  h : Cx
  s2 : Rat
  deriving DecidableEq, Repr

/-- What a TONEMAP message the station sends is (R163). -/
inductive TmOp where
  | map | soundReq | invalidateAll | fallback | mapNak
  deriving DecidableEq, Repr

/-- A TONEMAP message waiting to be sent or acknowledged (R163). -/
structure TmMsg where
  op : TmOp
  tmi : Nat := 0
  soundN : Nat := 0
  robo : Nat := 0
  map : Option ToneMap := none
  deriving DecidableEq, Repr

/-- The phases of a channel's preamble detector (R101 to R107). -/
inductive DetPhase where
  | armed | triggered | qualified | inFrame
  deriving DecidableEq, Repr

/-- The states of a segment (R265); the states a segment leaves the books in are not held. -/
inductive SegState where
  | queued | outstanding | lost
  deriving DecidableEq, Repr

/-- Where a descriptor or an in-flight slot was taken from (R261, R269). -/
inductive Pool where
  | shared | reserve | quota (panel : Nat)
  deriving DecidableEq, Repr

/-- A segment held by the sender (R254, R261, R265). `space3` is space P of R258; `launch` the tick of R319; `cipher` its
encrypted data field once made (R472); `part` its place in the message. -/
structure Seg where
  mid : Nat
  ch : Nat
  peer : Nat
  space3 : Bool
  prio : Nat
  ackReq : Bool
  enc : Bool
  ep : Nat
  frag : Nat
  data : List Byte
  seq : Option Nat := none
  state : SegState := .queued
  sent : Nat := 0
  deadline : Nat
  slotOf : Option Pool := none
  toneMsg : Option TmMsg := none
  launch : Option Nat := none
  cipher : Option (List Byte) := none
  part : Nat := 0
  deriving DecidableEq, Repr

/-- A message handed over: its transmit descriptor (R265, R269), its panel and its message buffers (R449). -/
structure TxMsg where
  mid : Nat
  panel : Nat
  ch : Nat
  pool : Pool
  bufs : Nat := 0
  floodCopy : Bool := false
  deriving DecidableEq, Repr

/-- A message in a source queue of a panel (R395, R396): `cls` is the queue class, `prio` 3 the protection queue. -/
structure QMsg where
  panel : Nat
  cls : Nat
  prio : Nat
  flood : Bool
  target : Nat
  dst : Nat
  ep : Nat
  ackReq : Bool
  enc : Bool
  data : List Byte
  tickIn : Nat
  launch : Option Nat := none
  deriving DecidableEq, Repr

/-- A flood copy waiting for its repetitions (R274 to R276). -/
structure FloodCopy where
  mid : Nat
  ch : Nat
  ttl : Nat
  origin : Nat
  oseq : Nat
  prio : Nat
  segs : List Byte
  reps : Nat
  enc : Bool := false
  deriving DecidableEq, Repr

/-- An accepted segment of a partly delivered message of a flow (R266, R268). -/
structure RxSeg where
  seq : Nat
  ep : Nat
  frag : Nat
  data : List Byte
  deriving DecidableEq, Repr

/-- A receive flow (R258, R266): base, map bit d for segment b + d, and the accepted segments not yet delivered. -/
structure RxFlow where
  ch : Nat
  peer : Nat
  space3 : Bool
  base : Nat := 0
  map : Nat := 0
  held : List RxSeg := []
  pools : List (Nat × Pool) := []
  deriving DecidableEq, Repr

/-- A transmit flow (R258, R263): next new number, and whether new segments are held back by `rx_full`. -/
structure TxFlow where
  ch : Nat
  peer : Nat
  space3 : Bool
  next : Nat := 0
  rxFull : Bool := false
  deriving DecidableEq, Repr

/-- A complete received message not yet taken by its consumer (R268, R269). -/
structure RxMsg where
  ep : Nat
  ch : Nat
  src : Nat
  prio : Nat
  flood : Bool
  data : List Byte
  pool : Option Pool
  hems : Nat := 0
  deriving DecidableEq, Repr

/-- An entry of the seen-cache (R275, R277). -/
structure Seen where
  domain : Nat
  origin : Nat
  oseq : Nat
  tick : Nat
  life : Nat
  deriving DecidableEq, Repr

/-- A PTP message (R313, R316): its type, the header fields the module reads or rewrites, and the whole message. -/
structure PtpMsg where
  typ : Nat
  ver : Nat
  domain : Nat
  twoStep : Bool
  corr : Int
  srcId : Nat
  srcPort : Nat
  seq : Nat
  ts : Nat
  tsNs : Nat
  body : List Byte
  deriving DecidableEq, Repr

/-- What a PTP message on its way to a port still needs at its departure (R315 to R317). -/
inductive PtpNeed where
  | plain | residence | hold | addHeld | turnaround | request
  deriving DecidableEq, Repr

/-- A PTP message on its way to a port: 0 EP0, 1 EP1, 2 + c channel c. `nIn` is its ingress timestamp in ns, `dIn` the
link delay of its ingress port in 2^-16 ns, `launch` the tick a launch-time queue sends it at (R320). -/
structure PtpOut where
  port : Nat
  msg : PtpMsg
  need : PtpNeed
  nIn : Rat := 0
  dIn : Int := 0
  launch : Option Nat := none
  deriving DecidableEq, Repr

/-- What kind of transmission a committed frame is. -/
inductive FrameKind where
  | data | ack | beacon | sound | fill | wakeReply | prs | flood | ptp | sync
  deriving DecidableEq, Repr

/-- Where the airtime tokens of a frame came from (R410 to R412). -/
inductive AirSrc where
  | exempt | own | borrowed
  deriving DecidableEq, Repr

/-- A committed frame (R36): slot, frame control, payload, the tone map it is sent with, the segments it carries, and its charges. -/
structure Frame where
  ch : Nat
  slot : Nat
  kind : FrameKind
  fc : FC
  payload : List Byte
  mids : List (Nat × Nat) := []
  firsts : List Nat := []
  len : Nat
  panel : Nat := 0
  hem : Nat := 0
  air : List AirSrc := []
  map : Option ToneMap := none
  liPos : Option Nat := none
  aux : Nat := 0
  ptp : Option PtpOut := none
  deriving DecidableEq, Repr

/-- A transmission on the air (R83, R84, R98, R135, R203, R246): for the frame-control symbol and each payload symbol of a
frame, or for the one symbol of a sync slot, the cells of its carriers before precoding: carrier, I and Q before scaling,
and E (R137). A priority resolution signal has none; `half` is its half-slot. -/
structure AirFrame where
  ch : Nat
  slot : Nat
  kind : FrameKind
  fcBits : Nat := 0
  cells : List (List (Nat × (Int × Int) × Nat)) := []
  half : Nat := 0
  ramp : Nat := 0
  level : Nat := 0
  deriving DecidableEq, Repr

/-- A contention cycle of a channel (R246): priority slot, class the station entered with, whether it withdrew. -/
structure Cont where
  prio : Nat
  cls : Nat
  withdrawn : Bool := false
  deriving DecidableEq, Repr

/-- An acknowledgement owed (R243, R267): its slot and frame control. -/
structure AckDue where
  slot : Nat
  fc : FC
  deriving DecidableEq, Repr

/-- A peer address of a channel (R258), the last arrival offset δ of its frames (R194) and the Hem it arrived in. -/
structure Peer where
  addr : Nat
  delta : Nat := 0
  hem : Nat := 0
  deriving DecidableEq, Repr

/-- A block or codeword of a decoder pool (R150 to R152): pool 0 Viterbi, 1 LDPC. `age` counts the slots it has waited,
`served` tells a unit decodes it in the slot in progress; `frame` and `block` name the received frame and its block. -/
structure Work where
  pool : Nat
  ch : Nat
  prio : Nat
  panel : Nat
  age : Nat := 0
  served : Bool := false
  frame : Nat := 0
  block : Nat := 0
  deriving DecidableEq, Repr

/-- Receive samples of a channel in a row (R26): the tick of the first, and the 14-bit samples. -/
structure SampRun where
  start : Nat := 0
  xs : List Int := []
  deriving DecidableEq, Repr

/-- What a station takes up from a TONEMAP message once it has acknowledged it (R165, R169): the slot its ACK is due in, the map with
its index, or the repetition mode of a FALLBACK. -/
structure TmDue where
  slot : Nat
  map : Option (Nat × ToneMap) := none
  robo : Nat := 0
  deriving DecidableEq, Repr

/-- A data cell of a payload symbol after the array (R138, R143, R155, R176): its value, the estimate that equalises it, the
effective noise, whether it may update the estimates, whether it was erased, and whether it is to be where that noise is too high. -/
structure RxCell where
  y : Cx
  h : Cx
  noise : Rat
  free : Bool
  erased : Bool
  weighed : Bool
  deriving DecidableEq, Repr

/-- A block or codeword of a received frame (R127, R133, R150): where its coded bits start, how many were sent, the bits it
carries, the symbol its last soft bit comes in (a link-symbol index in an interleaved frame), whether it was handed to its pool,
and what came out: bits, and whether it failed (R134, R151). -/
structure RxBlock where
  start : Nat
  sent : Nat
  k : Nat
  due : Nat
  queued : Bool := false
  out : Option (List Bool × Bool) := none
  deriving DecidableEq, Repr

/-- A frame whose frame control was taken: its number (twice the tick of its preamble slot's start in sixteenths, and the suspect
bit, R310, R312), frame control, the map that demaps it (R143), the index of its first link symbol where it is interleaved (R139),
the cells of the payload symbols so far, its blocks, and whether a rebase was in progress in it (R155). -/
structure RxFrame where
  at_ : Nat
  fc : FC
  map : Option ToneMap := none
  li : Option Nat := none
  cells : List (List RxCell) := []
  blocks : List RxBlock := []
  stepped : Bool := false
  deriving DecidableEq, Repr

/-- What a symbol is: a frame control, a payload symbol, an upstream sync symbol, the channel's own, or none (the window a
channel keeps at δ = 0 while it receives no frame, R194). -/
inductive SymKind where
  | fc | payload (n : Nat) | sync | own | idle
  deriving DecidableEq, Repr

/-- A received symbol (R196): its slot and kind, the body samples blanked (R175), whether it was erased whole, δ in
sixteenths of a sample, its power before the AGC in quarter decibels, Y, Z1, and the noise NEXT adds to a carrier (R199);
`frame` is the number of the frame it belongs to. -/
structure RxSym where
  ch : Nat
  slot : Nat
  frame : Nat := 0
  kind : SymKind
  blanked : Nat
  erased : Bool
  delta : Int
  power : Int
  y : Tbl Cx
  z1 : Tbl Cx
  extra : Tbl Rat
  deriving DecidableEq, Repr

/-- What a channel holds beside its register fields. `trigAt` is the tick of the energy trigger and `detAt` that of the trigger or of
the latest qualifier pass; `rx` the receive samples (R26, R30), `floor` F of R101; `syncAt` twice the tick of the preamble slot's start in sixteenths plus the suspect bit (R310, R312) of the frame
being detected, `trigTick` the same of the last frame handled; `fcWord` the decoded frame control (R98), `winMove` the moves of the FFT window (R110), `rxq` the frames being received and decoded, oldest first; `lockHems` the Hems since a frame set the lock;
`cplMode` the coupling mode on its way to the head, `cplFail` tells that the head refused one (R114), `cplAgain` that the mode on
its way is the lane's own repeat of it; `changed` the slot of
the last state change, `rangeSlot` that of the last gain-range change its head reported (R211); `liCells` the cells of the link symbols received `liSpanRx` the span in force on receive (R140) and `liLoads` the first link symbol and the loadings of the frames received, newest first (R143); `bcn…` a MEMBER's count of beacons (R238 to
R241) and a COORDINATOR's turn; `banned` holds the stations that sent a BEACON of the link, with the Hem the last one came in and
its ticks from that Hem's start (R238, R239); `mapWait` holds the uses whose MAP waits (R165, R168), `tmDue` what is taken up with an
ACK still to be sent, `stepMap` tells that a step calls for a MAP (R180), `lowRuns` and `lowRunsP` count the frames in which the GENERAL and the PROTECT map fell short (R168); `map` is the window map of the Hem in force and `nextMap` that fixed for the next; `sense` is what
the pipe last reported for carrier sense, priority and end slot of a frame (R100). -/
structure Chan where
  quietHems : Nat := 0
  quietOk : Bool := false
  autoStart : Bool := false
  trainHems : Nat := 0
  rxHems : Nat := 0
  det : DetPhase := .armed
  trigAt : Nat := 0
  detAt : Nat := 0
  rx : SampRun := {}
  floor : Option Rat := none
  syncAt : Nat := 0
  fcWord : Option Nat := none
  winMove : Int := 0
  rxq : List RxFrame := []
  trigTick : Nat := 0
  agcFrozen : Bool := false
  agcGain : Int := 0
  idleSlots : Nat := 0
  curFc : Option FC := none
  symIdx : Nat := 0
  rxEnd : Nat := 0
  lockHems : Nat := 0
  changed : Option Nat := none
  rangeSlot : Option Nat := none
  rampRefusals : Nat := 0
  cplMode : Option Nat := none
  cplFail : Bool := false
  cplAgain : Bool := false
  rxMaps : Tbl ToneMap := []
  txMaps : Tbl ToneMap := []
  rxGeneral : Option Nat := none
  rxProtect : Option Nat := none
  retire : List (Nat × Nat) := []
  mapWait : List Nat := []
  tmDue : List TmDue := []
  est : Tbl Est := []
  rebased : Tbl Cx := []
  soundOut : Option Nat := none
  soundOwe : Option Nat := none
  partnerCaps : Nat := 0
  partnerRobo : Nat := 0
  fallRobo : Nat := 0
  mapHems : Nat := 0
  soundHems : Nat := 0
  lowRuns : Nat := 0
  lowRunsP : Nat := 0
  stepMap : Bool := false
  failRuns : Nat := 0
  stepRuns : Nat := 0
  ackedRx : Bool := false
  chisel2 : Rat := 0
  chiselRun : Nat := 0
  armedUntil : Nat := 0
  liTxT : Nat := 0
  liTxLeft : Nat := 0
  liIdleHems : Nat := 0
  filling : Bool := false
  liRxT : Nat := 0
  liSpanRx : Nat := 0
  liLine : List (List ((Int × Int) × Nat)) := []
  liCells : Tbl (List RxCell) := []
  liLoads : List (Nat × List Nat) := []
  idleSlot : Nat := 0
  sense : Option (Nat × Nat) := none
  noPrs : Bool := false
  cont : Option Cont := none
  bc : List (Option Nat) := [none, none, none]
  cw : List (Option Nat) := [none, none, none]
  acks : List AckDue := []
  await : List Frame := []
  peers : List Peer := []
  banned : List (Nat × Nat × Nat) := []
  layout : Tbl Window := []
  layoutTotal : Nat := 0
  map : Option WinMap := none
  nextMap : Option WinMap := none
  bcnTheta : Nat := 0
  bcnCount : Nat := 0
  bcnHeard : Nat := 0
  bcnMissed : Nat := 0
  bcnGot : Bool := false
  bcnHem : Option Nat := none
  bcnIn : Option Window := none
  bcnEval : Option Nat := none
  bcnLost : Option Nat := none
  bcnNext : Nat := 0
  bcnSent : Bool := false
  conflictHem : Option Nat := none
  crossings : Nat := 0
  lastCross : Nat := 0
  deriving DecidableEq, Repr

/-- An event ring entry (R529); `data` is its 8 data bytes as a little-endian number, `hem` the Hem it was raised in (R530). -/
structure Ev where
  code : Nat
  sev : Nat
  panel : Nat
  inst : Nat
  rep : Nat
  tick : Nat
  data : Nat
  hem : Nat
  deriving DecidableEq, Repr

/-- A telemetry snapshot (R534): header and the accumulators it sampled. -/
structure Snap where
  seq : Nat
  hem : Nat
  tick : Nat
  accs : Tbl Nat
  deriving DecidableEq, Repr

/-- A shadow of R13: panel, lowest address of the group, and the words not yet read. -/
structure Shadow where
  panel : Nat
  start : Nat
  words : List (Nat × Nat)
  deriving DecidableEq, Repr

/-- A write group of R14 in progress: panel, lowest address, the words written so far. -/
structure WLatch where
  panel : Nat
  start : Nat
  words : List Nat
  deriving DecidableEq, Repr

/-- The result codes of R527. -/
inductive Res where
  | ok | busy | badState | badArg | noBudget | denied | notNegotiated | conflict | fault | notPresent
  deriving DecidableEq, Repr

/-- A command's response: result and at most 24 bytes of data (R78). -/
structure Resp where
  res : Res
  data : List Byte := []
  deriving DecidableEq, Repr

/-- A response on its way to an in-band panel (R76). -/
structure OhiRsp where
  panel : Nat
  tag : Nat
  opcode : Nat
  resp : Resp
  deriving DecidableEq, Repr

/-- An in-band datagram being served (R76, R475): where its responses go, its sequence, the key it came under, how many
entries it holds and the responses so far. -/
structure Dgram where
  panel : Nat
  ip : Nat
  port : Nat
  seq : Nat
  key : List Byte
  want : Nat
  rsps : List OhiRsp
  deriving DecidableEq, Repr

/-- A command that completes later: its opcode, its issuer, what it waits for and the transport it came on (R76). -/
structure Deferred where
  opcode : Nat
  cmd : Cmd
  key : Nat
  inBand : Bool
  deriving DecidableEq, Repr

/-- The states of an Overlock pair (R212). -/
inductive PairSt where
  | empty | learn | active | held
  deriving DecidableEq, Repr

/-- An Overlock pair (R212): state, updates counted per carrier index 0 to 1,023, Hems in HELD. -/
structure Pair where
  st : PairSt := .empty
  counts : Tbl Nat := []
  hold : Nat := 0
  deriving DecidableEq, Repr

/-- An OLA_PARTITION item (R187). -/
structure OlaClass where
  base : Nat
  victims : Nat
  nd : Nat
  deriving DecidableEq, Repr

/-- An OLA_DISTURBERS item (R189). -/
structure OlaItem where
  cls : Nat
  victim : Nat
  code : Nat
  dists : List Nat
  deriving DecidableEq, Repr

/-- A part of an error report held for its companion (R206). -/
structure RepPart where
  ch : Nat
  t : Nat
  part : Nat
  scale : Nat
  errs : List (Int × Int)
  deriving DecidableEq, Repr

/-- Residuals still to be applied (R209, R210): class, victim, sync index, the error or residual by carrier index, the disturbers
that took part, and the update phases left. -/
structure Resid where
  cls : Nat
  victim : Nat
  t : Nat
  vals : Tbl Cx
  dists : List Nat
  left : Nat
  deriving DecidableEq, Repr

/-- A coefficient word computed for an entry and not yet in effect (R207, R221): entry, word and slots left. -/
structure CoefWr where
  entry : Nat
  word : Nat
  left : Nat
  deriving DecidableEq, Repr

/-- A term of the precoder that a lost head leaves in the symbols already precoded (R214): victim and disturber, the last slot it is
in, and the pair's words by carrier. -/
structure PrecTerm where
  victim : Nat
  dist : Nat
  upto : Nat
  words : Tbl Nat
  deriving DecidableEq, Repr

/-- The Overlock array. `dsync` holds the indices of the last four downstream sync slots each channel sent in, newest first, and
`dsHem` the Hem of the last downstream sync slot of each index (R206); `bad` the first entries of the bursts that count as 0 in
the slot in progress (R217); `terms` what symbols already precoded hold of a lost head, `ghosts` and `ghostTx` the transmissions they were built from (R214). -/
structure OlaSt where
  pairs : Tbl Pair := []
  coef : Tbl Nat := []
  writes : List CoefWr := []
  parts : List RepPart := []
  resid : List Resid := []
  divRuns : Tbl Nat := []
  divHem : Tbl Nat := []
  repPow : Tbl (List Rat) := []
  repHigh : Tbl Nat := []
  dsync : List (Nat × Nat) := []
  dsHem : Tbl Nat := []
  missUp : Tbl Nat := []
  missDn : Tbl Nat := []
  dup : List (Nat × Nat) := []
  bad : List Nat := []
  terms : List PrecTerm := []
  ghosts : List AirFrame := []
  ghostTx : List Frame := []
  deriving DecidableEq, Repr

/-- A segment abandoned while exchanges of its flow were under way (R265): the slots of the frames committed before. -/
structure Abandoned where
  ch : Nat
  peer : Nat
  space3 : Bool
  seq : Nat
  slots : List Nat
  deriving DecidableEq, Repr

/-- A message of the device that waits for a transmit descriptor (R163, R269, R284). -/
structure DevMsg where
  ch : Nat
  peer : Nat
  ackReq : Bool
  ep : Nat
  data : List Byte
  tm : Option TmMsg
  deriving DecidableEq, Repr

/-- Delivery: message numbers, segments, descriptors, flows, completed messages, flooding, abandoned segments that an ACK may still
name, and messages of the device without a descriptor (chapter 8). -/
structure DlvSt where
  nextMid : Nat := 0
  segs : List Seg := []
  txMsgs : List TxMsg := []
  txFlows : List TxFlow := []
  rxFlows : List RxFlow := []
  done : List RxMsg := []
  copies : List FloodCopy := []
  seen : List Seen := []
  oseq : Nat := 0
  evictHem : Option Nat := none
  abandoned : List Abandoned := []
  devQ : List DevMsg := []
  descShared : Nat := 0
  descProt : Nat := 0
  quotaFree : Tbl Nat := []
  ifShared : Nat := 0
  ifProt : Nat := 0
  deriving DecidableEq, Repr

/-- What changes at a slot boundary on request (R31). -/
inductive SlotChange where
  | state (ch st cause : Nat)
  | coupling (ch mode : Nat)
  | coupled (ch : Nat) (ok : Bool)
  | pair (cls vi slot : Nat) (dest : PairSt)
  | olaFence
  | decUnits (pool unit : Nat)
  | decBack (pool unit : Nat)
  | offer (bit : Nat)
  | arm (ch : Nat)
  deriving DecidableEq, Repr

/-- A ledger's books (R251): carrier-symbols per bucket, newest first, the oldest of the 65 last; bucket number. -/
structure LedgerSt where
  buckets : List Nat := []
  bucket : Nat := 0
  deriving DecidableEq, Repr

/-- A mains source (R224, R226): the crossings in a row at good intervals, and the last one. -/
structure Source where
  run : Nat := 0
  last : Option Nat := none
  deriving DecidableEq, Repr

/-- The grid and the Hem (chapters 1 and 7). `b` and `p` are B and P of the Hem in force, `prevP` the P of the one before, `nxt` the P
fixed for the next; `hemDue` tells that the Hem has begun and its first slot has not (R33);
`late` holds the values that register fields written since the last slot boundary keep until the next,
`launched` the frames whose slots have not all passed. -/
structure GridSt where
  slot : Nat := 0
  epoch : Nat := 0
  running : Bool := false
  guard : Nat := 1
  hem : Nat := 0
  b : Nat := 0
  p : Nat := 4000000
  prevP : Nat := 4000000
  nxt : Option Nat := none
  hemDue : Bool := false
  pf : Nat := 4000000
  a : Nat := 0
  srcChosen : Bool := false
  supply : Source := {}
  gauge : Source := {}
  supplyZ : List Nat := []
  gaugeZ : List Nat := []
  changes : List SlotChange := []
  late : Tbl Nat := []
  committed : List Frame := []
  launched : List Frame := []
  onAir : List AirFrame := []
  ledgers : Tbl LedgerSt := []
  airPool : Nat := 0
  classAir : Tbl Nat := []
  airWaited : List Nat := []
  work : List Work := []
  symbols : List RxSym := []
  decUsed : Tbl Nat := []
  deriving DecidableEq, Repr

/-- A frame waiting to leave a host port (R404): the order class, panel, ports it may use, queue class (8 where it is of no
to-host queue) and bytes; `copy` marks the second of a PRP pair. -/
structure EgFrame where
  order : Nat
  panel : Nat
  ports : Nat
  cls : Nat
  bytes : List Byte
  copy : Bool := false
  deriving DecidableEq, Repr

/-- Host ports and panels (chapter 13): messages from the hosts, the free credits of each panel and class, the panels whose
returned credits changed, frames waiting to leave and those sent, the turn of each port and class, the bytes a panel
sent in the current millisecond, PRP's counters and discard table, failed ports, and in-band datagrams being served. -/
structure HostSt where
  queues : List QMsg := []
  credits : Tbl Nat := []
  creditChanged : List Nat := []
  egress : List EgFrame := []
  turn : Tbl Nat := []
  egBytes : Tbl Nat := []
  supAt : Nat := 0
  egMs : Nat := 0
  sent : List (Nat × List Byte) := []
  prpSeq : Nat := 0
  supSeq : Nat := 0
  prpSeen : List (Nat × Nat × Nat) := []
  failed : List Nat := []
  ohiIn : List Dgram := []
  deriving DecidableEq, Repr

/-- Events, telemetry and the management path (chapters 2, 13 and 19). `snapWr` is the snapshot being written to the telemetry
region and the bytes left (R453, R534). -/
structure MgmtSt where
  ring : Tbl Ev := []
  live : Nat := 0
  snaps : List Snap := []
  window : Option Snap := none
  snapSeq : Nat := 0
  snapPend : Bool := false
  snapWr : Option (Snap × Nat) := none
  shadows : List Shadow := []
  latches : List WLatch := []
  ringRam : Memory := []
  deferred : List Deferred := []
  spiOut : List Byte := []
  lostFeat : Nat := 0
  deriving DecidableEq, Repr

/-- The states of a dormant record (R301). -/
inductive RecSt where
  | free | syncing | dormant | awake | waking
  deriving DecidableEq, Repr

/-- A dormant record (R282). `refs` holds the tick and `ws_count` of the last two replies, newest first; `drift` is
signed and `bound` unsigned, both Q16 ppm; `winOpen` is the last listen window opened and `kept` its rendezvous;
`seqs` counts the wake sequences sent, `toneWait` tells one is still to start; `lastCount` is the last reply's count, `grantAck` the
slot its grant was acknowledged in and `wsSeen` a WAKE_SYNC that came while SYNCING (R286), `closed` that the window opened last has
closed (R291), `since` and `hold` the Hem it entered AWAKE in and its `ws_hold` (R301). -/
structure DrmRec where
  st : RecSt := .free
  ch : Nat := 0
  addr : Nat := 0
  group : Nat := 0
  carrier : Nat := 0
  period : Nat := 0
  drift : Int := 0
  bound : Nat := 0
  tol : Nat := 0
  misses : Nat := 0
  refs : List (Nat × Nat) := []
  measured : Bool := false
  kept : Bool := false
  winOpen : Option (Nat × Nat) := none
  seqs : Nat := 0
  toneWait : Bool := false
  lastCount : Nat := 0
  grantAck : Option Nat := none
  wsSeen : Bool := false
  closed : Bool := false
  since : Nat := 0
  hold : Nat := 0
  deriving DecidableEq, Repr

/-- A DORMANT item (R300). -/
structure DormItem where
  channel : Nat
  carrier : Nat
  groups : Nat
  periodMin : Nat
  periodMax : Nat
  margin : Nat
  missLimit : Nat
  toneReps : Nat
  hold : Nat
  deriving DecidableEq, Repr

/-- The DORMANT header (R300). -/
structure DormHdr where
  driftShift : Nat := 1
  uncFloor : Nat := 0
  toneTries : Nat := 1
  deriving DecidableEq, Repr

/-- A WAKE_SYNC reply the module owes (R288): the frame's kind and `ws_pend`, and the first and last slot it may take. -/
structure WakeOwe where
  ch : Nat
  addr : Nat
  kind : Nat
  pend : Nat
  first : Nat
  last : Nat
  deriving DecidableEq, Repr

/-- A tone on a channel (R295): record, first chip's slot, repetitions, carrier and group. -/
structure Tone where
  ch : Nat
  rix : Nat
  slot : Nat
  reps : Nat
  carrier : Nat
  group : Nat
  deriving DecidableEq, Repr

/-- The dormant records, the wake tones and the replies owed (chapter 9). The DRM counter of R281 runs from `zero`;
`listens` holds channel, first and last tick of the listening after a tone (R299). -/
structure DrmSt where
  recs : Tbl DrmRec := []
  zero : Nat := 0
  owe : List WakeOwe := []
  tones : List Tone := []
  listens : List (Nat × Nat × Nat) := []
  deriving DecidableEq, Repr

/-- An ENGINE_ALLOC item (R442). -/
structure EngItem where
  engine : Nat
  role : Nat
  share : Bool
  owner : List Nat
  deriving DecidableEq, Repr

/-- A MEM_CARVE item (R449). -/
structure CarveItem where
  kind : Nat
  memory : Nat
  channel : Nat
  offset : Nat
  size : Nat
  deriving DecidableEq, Repr

/-- A TIMEBASES item (R307). -/
structure TbItem where
  tb : Nat
  role : Nat
  domain : Nat := 0
  ports : Nat := 0
  plcChan : Nat := 0xFF
  classMax : Nat := 0
  lockNs : Nat := 0
  kp : Nat := 0
  ki : Nat := 0
  stepNs : Nat := 0
  deriving DecidableEq, Repr

/-- A pair item (R308). -/
structure PairItem where
  out : Nat
  primary : Nat
  secondary : Nat
  slewPpb : Nat
  revertS : Nat
  deriving DecidableEq, Repr

/-- The TIMEBASES section (R306); the defaults are those of an absent section: TB0 FREE, the rest OFF. -/
structure TbSec where
  tcOn : Bool := false
  tcEth0 : Bool := false
  tcEth1 : Bool := false
  ppsSrc : Nat := 0
  ppsWidth : Nat := 1
  ptpPcp : Nat := 0
  pdelayMs : Nat := 1000
  tcChans : Nat := 0
  tbs : List TbItem := [{ tb := 0, role := 1 }]
  pairs : List PairItem := []
  deriving DecidableEq, Repr

/-- A GAUGE item (R378), with the section's defaults. -/
structure GaugeItem where
  channel : Nat
  flags : Nat := 0
  ranges : Nat := 0x44
  scale : Nat := 0
  ftw : Nat := 274877907
  amp : Nat := 8192
  dIq : Nat := 1024
  dV : Nat := 256
  nm : Nat := 0x11
  dcbK : Nat := 16
  blankPause : Nat := 0
  blankErase : Nat := 0
  chkInterval : Nat := 0
  chkFtw : Nat := 274877907
  chkAmp : Nat := 8192
  chkTol : Nat := 10
  fltN : Nat := 16
  zMin : Nat := 0
  zMax : Nat := 65535
  vOfs : Nat := 0
  vHyst : Nat := 256
  excLen : Nat := 100
  excPeriod : Nat := 10
  deriving DecidableEq, Repr

/-- The GAUGE section (R378). -/
structure GaugeSec where
  blankExt : Nat := 0
  items : List GaugeItem := []
  deriving DecidableEq, Repr

/-- A CAST detector item (R387). -/
structure CastItem where
  channel : Nat
  wfLag : Nat := 4
  wfMult : Nat := 32
  txMult : Nat := 16
  wfMin : Nat := 64
  wfDead : Nat := 50
  deriving DecidableEq, Repr

/-- The CAST section (R387). -/
structure CastSec where
  ringGib : Nat := 0
  regions : Nat := 0
  preMs : Nat := 0
  postMs : Nat := 0
  trigN : Nat := 0
  trigBlank : Nat := 0
  trigWin : Nat := 0
  overwrite : Bool := false
  castTb : Nat := 0
  chans : Nat := 0
  items : List CastItem := []
  deriving DecidableEq, Repr

/-- A SERIAL item (R426). -/
structure SerItem where
  port : Nat
  cls : Nat
  function : Nat
  fmt : Nat
  div : Nat
  addr : Nat
  mask : Nat
  gap : Nat
  de : Nat
  maxLen : Nat
  kind : Nat
  target : Nat
  dst : Nat
  ep : Nat
  prio : Nat
  flags : Nat
  oscHold : Nat
  deriving DecidableEq, Repr

/-- A contact item of CONTACTS (R435). -/
structure ContactItem where
  contact : Nat
  function : Nat
  group : Nat
  bitpos : Nat
  debounce : Nat
  mode : Nat
  invert : Bool
  pulseMs : Nat
  watchMs : Nat
  deriving DecidableEq, Repr

/-- A group item of CONTACTS (R435). -/
structure GroupItem where
  group : Nat
  kind : Nat
  target : Nat
  ackReq : Bool
  dst : Nat
  ep : Nat
  refreshMs : Nat
  deriving DecidableEq, Repr

/-- The CONTACTS section (R435). -/
structure ContactSec where
  contacts : List ContactItem := []
  groups : List GroupItem := []
  deriving DecidableEq, Repr

end Sys2Proof.Machine
end

