-- ==== Sys2Proof/Syntax.lean ====
section
/-! DEFINITION. The commands the block takes: one constructor per row of the opcode table, in the table's order.
An OHI command carries its issuer and its arguments; an event carries what the spec says is observed at it. -/

namespace Sys2Proof

open Sys2Proof.Machine

/-- The rows of the opcode table. -/
inductive Instr where
  | patternBegin (c : Cmd) (kind panel : Nat)
  | patternData (c : Cmd) (off : Nat) (data : List Byte)
  | patternCommit (c : Cmd)
  | patternAbort (c : Cmd)
  | patternStore (c : Cmd) (slot : Nat)
  | featureAccept (c : Cmd) (w0 w1 w2 w3 : Nat)
  | patternQuery (c : Cmd)
  | loaderVerifyDone
  | loaderCheckDone
  | patternSeal
  | panelPatternEffect (panel : Nat)
  | patternStoreDone (readBack : Bool)
  | flashPatternLoad
  | ringDoorbell (p word : Nat)
  | ohiDatagram (header cipher tag : List Byte) (srcIp srcPort : Nat)
  | spiTransaction (write : Bool) (p addr count : Nat) (words : List Nat)
  | spiCsEarlyRise (write : Bool) (p addr : Nat) (words : List Nat) (partialBits : Nat)
  | registerWrite (p addr w : Nat)
  | groupRead (p addr : Nat)
  | rcFieldRead (p addr : Nat) (incs : List Nat)
  | w1cWrite (p addr w hwSet : Nat)
  | featAcceptWrite (p w0 w1 w2 w3 : Nat)
  | evtPnlRdWrite (p target idx : Nat)
  | telStatusRead (p : Nat)
  | serRxDataRead (p port : Nat)
  | serTxDataWrite (p port data : Nat)
  | serDivWrite (p port div : Nat)
  | chnStart (c : Cmd) (ch : Nat)
  | chnStop (c : Cmd) (ch : Nat)
  | chnQuiet (c : Cmd) (ch : Nat)
  | chnResume (c : Cmd) (ch : Nat)
  | chnRetrain (c : Cmd) (ch : Nat)
  | chnSetCoupling (c : Cmd) (ch mode : Nat)
  | chnSetRole (c : Cmd) (ch role : Nat)
  | chnQuery (c : Cmd) (ch : Nat)
  | trainTimeout (ch : Nat)
  | faultAutoRearm (ch : Nat)
  | gridSlotBoundary
  | hemBoundary
  | hemMapFix
  | mainsCrossing (gauge : Bool) (tick : Nat)
  | sourceTimeout (gauge : Bool)
  | transmitCommit
  | contentionCycleEnd (ch : Nat)
  | frameLaunch (ch : Nat)
  | ackMissing (ch : Nat)
  | liIdleFill (ch : Nat)
  | energyTrigger (ch tick : Nat)
  | qualifierPass (ch tick : Nat)
  | qualFail (ch : Nat)
  | syncPoint (ch tick : Nat)
  | detectorRearm (ch : Nat)
  | frameControlRx (ch len : Nat)
  | symbolRx (ch : Nat)
  | stepRebaseEnd (ch : Nat)
  | decodeComplete (pool unit : Nat)
  | decodeDrop
  | dataFrameRx (ch : Nat)
  | ackSend (ch : Nat)
  | ackRx (ch : Nat)
  | floodFrameRx (ch : Nat)
  | beaconRx (ch : Nat)
  | soundRx (ch : Nat)
  | mapRx (ch src : Nat) (msg : List Byte)
  | mapNakRx (ch src : Nat) (msg : List Byte)
  | soundReqRx (ch src : Nat) (msg : List Byte)
  | invalidateAllRx (ch src : Nat) (msg : List Byte)
  | fallbackRx (ch src : Nat) (msg : List Byte)
  | soundTimeout (ch : Nat)
  | toneMapRetire (ch : Nat)
  | tmRefresh (ch : Nat)
  | errorReportRx (ch : Nat) (msg : List Byte)
  | errReportDeadline (ch t : Nat)
  | pairHoldExpiry (cls victim slot : Nat)
  | olaPairQuery (c : Cmd) (cls v slot : Nat)
  | olaVictimReset (c : Cmd) (cls v : Nat)
  | olaCoefRead (c : Cmd) (cls v slot carrier count : Nat)
  | olaCoefWrite (c : Cmd) (cls v slot carrier : Nat) (words : List Nat)
  | messageHandover (ch : Nat)
  | segmentDeadline (ch : Nat)
  | rxMessageDiscard
  | qAgeDrop (panel q : Nat)
  | seenEntryExpiry
  | send (p q : Nat) (msg : List Byte)
  | flood (p q : Nat) (msg : List Byte)
  | hostFrameRx (port : Nat) (frame : List Byte) (fcsOk : Bool) (tick : Nat)
  | arpRequest (port vid : Nat) (frame : List Byte)
  | prpSupervisionRx (port : Nat) (frame : List Byte)
  | prpSupervisionSend
  | hostLinkChange (port : Nat) (up : Bool)
  | ethernetEgress (port : Nat)
  | launchTimeFrame (port tick : Nat)
  | sync (port : Nat) (msg : PtpMsg) (tIn : Nat) (suspect : Bool)
  | followUp (port : Nat) (msg : PtpMsg) (tIn : Nat) (suspect : Bool)
  | pdelayReq (port : Nat) (msg : PtpMsg) (tIn : Nat) (suspect : Bool)
  | pdelayResp (port : Nat) (msg : PtpMsg) (tIn : Nat) (suspect : Bool)
  | pdelayRespFollowUp (port : Nat) (msg : PtpMsg) (tIn : Nat) (suspect : Bool)
  | announce (port : Nat) (msg : PtpMsg) (tIn : Nat) (suspect : Bool)
  | signaling (port : Nat) (msg : PtpMsg) (tIn : Nat) (suspect : Bool)
  | management (port : Nat) (msg : PtpMsg) (tIn : Nat) (suspect : Bool)
  | pdelayInterval (port : Nat)
  | heldCorrectionExpiry
  | ppsInEdge (tick16 : Nat)
  | timebaseLossTimeout (k : Nat)
  | slewEnd (pair : Nat)
  | ppsOutEdge (tick : Nat)
  | todTxLine
  | timQuery (c : Cmd) (tb : Nat)
  | timSet (c : Cmd) (tb sec ns rate : Nat)
  | timFeed (c : Cmd) (tb off : Nat)
  | timPairSelect (c : Cmd) (tb which : Nat)
  | timAt (c : Cmd) (tb tick : Nat)
  | upstreamFrame (lane : Nat) (bits : BitVec 5600)
  | frameLock (lane : Nat)
  | frameLockLost (lane : Nat)
  | lossOfSignal (lane : Nat)
  | readRsp (lane tag addr data : Nat)
  | writeAck (lane tag addr : Nat)
  | nak (lane tag cause : Nat)
  | event (lane code : Nat)
  | controlRepeat (lane tag : Nat)
  | couplingTimeout (ch : Nat)
  | laneRecalculate (lane : Nat) (rtts : List Nat)
  | alignmentDelayFix
  | laneFaultRetry (lane : Nat)
  | hlkQuery (c : Cmd) (lane : Nat)
  | hlkHeadRead (c : Cmd) (lane addr : Nat)
  | hlkHeadWrite (c : Cmd) (lane addr data : Nat)
  | hlkRealign (c : Cmd) (lane : Nat)
  | gaugeSampleDeadline (ch path period : Nat)
  | chainOutput (ch chain : Nat)
  | excitationInterval (ch : Nat) (start : Bool)
  | checkDue (ch : Nat)
  | gauQuery (c : Cmd) (ch : Nat)
  | gauCheck (c : Cmd) (ch : Nat)
  | gauCalibrate (c : Cmd) (ch : Nat) (args : List Nat)
  | gauExcite (c : Cmd) (ch : Nat) (args : List Nat)
  | blankEdge (i : Nat) (rising : Bool) (tick : Nat)
  | blankExtensionEnd (i : Nat)
  | armExpiry (ch : Nat)
  | wavefrontArrival (ch tick : Nat)
  | deadTimeEnd (ch : Nat)
  | regionCollected (r : Nat)
  | exportMessage (r : Nat)
  | srgQuery (c : Cmd) (r : Nat)
  | srgFreeze (c : Cmd) (args : List Nat)
  | srgExport (c : Cmd) (args : List Nat)
  | srgRelease (c : Cmd) (r : Nat)
  | srgArrivalRead (c : Cmd) (index : Nat)
  | serialCharacterRx (port data : Nat) (falseStart parityOk stopOk : Bool) (tick : Nat)
  | framingRearm (port : Nat)
  | serialGapClose (port : Nat)
  | serialCharacterTx (port : Nat)
  | deRelease (port : Nat)
  | oscStop (port : Nat)
  | serQuery (c : Cmd) (port : Nat)
  | serFlush (c : Cmd) (port which : Nat)
  | contactChangeAccepted (i : Nat)
  | commandRefresh (g : Nat)
  | commandMessage (g : Nat) (msg : List Byte)
  | cmdWatch (i : Nat)
  | pulseEnd (i : Nat)
  | cmdForceEnd (i : Nat)
  | cmdQuery (c : Cmd) (i : Nat)
  | cmdForce (c : Cmd) (i state secs : Nat)
  | cmdRelease (c : Cmd) (i : Nat)
  | sleepReq (ch src : Nat) (msg : List Byte)
  | syncingTimeout (r : Nat)
  | wakeSyncRx (ch : Nat)
  | wakeSyncReply (ch : Nat)
  | listenWindowOpen (r : Nat)
  | listenWindowClose (r : Nat)
  | wakeSequenceStart (r : Nat)
  | wakeListenExpiry (r : Nat)
  | awakeHoldExpiry (r : Nat)
  | drmQuery (c : Cmd) (r : Nat)
  | drmWake (c : Cmd) (r : Nat)
  | drmRelease (c : Cmd) (r : Nat)
  | pnlQuery (c : Cmd) (part : Nat)
  | regRead (c : Cmd) (addr count : Nat)
  | regWrite (c : Cmd) (addr : Nat) (words : List Nat)
  | bobQuery (c : Cmd) (b : Nat)
  | hbmQuery (c : Cmd)
  | bobbinFault (b cause : Nat)
  | bobMove (b : Nat)
  | hbmUe (addr client : Nat)
  | hbmRecalibration (pc : Nat)
  | logFlashWrite (ok : Bool)
  | pipeFence (p : Nat)
  | codUnitFenced (pool unit : Nat)
  | overlockFence
  | memFence
  | hostPortFail (port : Nat)
  | evtRead (c : Cmd)
  | evtCfg (c : Cmd) (sevMin irqEn : Nat)
  | telSnap (c : Cmd)
  | telRead (c : Cmd) (back word count : Nat)
  | telemetrySnapshot
  | secQuery (c : Cmd)
  | secStage (c : Cmd) (off : Nat) (data : List Byte)
  | secEnrol (c : Cmd) (args : List Byte)
  | secFwWrite (c : Cmd) (args : List Byte)
  | secFwCommit (c : Cmd) (args : List Byte)
  | secRollbackAdvance (c : Cmd) (args : List Byte)
  | secAttest (c : Cmd) (args : List Byte)
  | secRead (c : Cmd) (args : List Byte)
  | secDebugChallenge (c : Cmd) (args : List Byte)
  | secDebugOpen (c : Cmd) (args : List Byte)
  | debugClose
  | secKeySet (c : Cmd) (args : List Byte)
  | secKeyTx (c : Cmd) (args : List Byte)
  | secKeyClear (c : Cmd) (args : List Byte)
  | secOhiKey (c : Cmd) (args : List Byte)
  | secTamperClear (c : Cmd) (args : List Byte)
  | tamperOpen
  | rstQuery (c : Cmd)
  | rstRequest (c : Cmd) (level : Nat)
  | rstBlock (c : Cmd) (typ idx : Nat)
  | blockResetComplete (typ idx : Nat) (pass : Bool)
  | pwrQuery (c : Cmd)
  | pwrKeep (c : Cmd) (args : List Byte)
  | powerOn (bootSel modAddr : Nat)
  | brownOut
  | resetNLow
  | watchdogExpiry (d : Nat)
  | dbgReqNLow
  | clockFailure
  | lockUp
  | resetRelease
  | firmwareVerified (ok : Bool)
  | memoryTrainingDone (ok : Bool)
  | inputLost (dc : Bool) (bulk : Nat)
  | inputReturn (bulk : Nat)
  | gaspEntry
  | keepEntry
  | blank0KeepWake (tick : Nat)
  | aonStoresExhausted
  | refclkValid (mhz25 : Bool) (ofs : Nat)
  | clkRefLost
  | clockSlewEnd
  | pwrXtal
  | pwrHot (temp : Nat)
  | signalAndSymbolLock (lane : Nat)
  | softwareResetAssert
  | tamperLoopClosed
  | ppsInTimeout
  | vbatLevelChange (ok : Bool)
  | contactInputEdge (i : Nat) (high : Bool) (tick : Nat)
  deriving DecidableEq, Repr

end Sys2Proof
end

