-- ==== Sys2Proof/Machine/Coding.lean ====
section
/-! DEFINITION. Chapters 3 and 4: frame control, carrier sets, repetition placement, pilots and preamble, scrambler,
convolutional and QC-LDPC codes, mapping to cells, and the long-span interleaver's arithmetic. Everything here is exact. -/

namespace Sys2Proof.Machine

/-- The 52-bit `body` of DATA, PROTECT, SOUND and TONEMAP, as R96 lays it out. -/
def dataBody (nSym tmi robo : Nat) (enc ack flood : Bool) (dlv : Nat) : Nat :=
  nSym % 512 * 2 ^ 43 + tmi % 8 * 2 ^ 40 + robo % 4 * 2 ^ 38 + b2n enc * 2 ^ 37 + b2n ack * 2 ^ 36
    + b2n flood * 2 ^ 35 + dlv % 2 ^ 32

/-- `n_sym` of a body. -/
def fcNSym (f : FC) : Nat := bits f.body 43 9
/-- Payload symbols of a frame (R84, R96, R235): ACK and WAKE_SYNC frames have none. -/
def fcPayload (fc : FC) : Nat := if fc.typ = 1 ∨ fc.typ = 6 then 0 else fcNSym fc

/-- `tmi` of a body. -/
def fcTmi (f : FC) : Nat := bits f.body 40 3
/-- `robo` of a body. -/
def fcRobo (f : FC) : Nat := bits f.body 38 2
/-- `enc` of a body. -/
def fcEnc (f : FC) : Bool := bit f.body 37
/-- `ack_req` of a body. -/
def fcAckReq (f : FC) : Bool := bit f.body 36
/-- `flood` of a body. -/
def fcFlood (f : FC) : Bool := bit f.body 35
/-- `dlv` of a body. -/
def fcDlv (f : FC) : Nat := bits f.body 0 32

/-- A frame has the `body` of R96. -/
def fcIsData (fc : FC) : Bool := fc.typ == 0 || fc.typ == 3 || fc.typ == 4 || fc.typ == 5

/-- Bits [127:24] of the frame control, as a 104-bit number (R96). -/
def fcHead (f : FC) : Nat :=
  f.typ % 16 * 2 ^ 100 + f.ver % 4 * 2 ^ 98 + f.prio % 4 * 2 ^ 96 + f.link % 4096 * 2 ^ 84
    + f.src % 65536 * 2 ^ 68 + f.dst % 65536 * 2 ^ 52 + f.body % 2 ^ 52

/-- The `fccs` of R97: CRC-24 over bits [127:24], initial 0xFF_FFFF, complemented. -/
def fccs (head : Nat) : Nat := 0xFFFFFF - crc 24 0x864CFB 0xFFFFFF (bitsMsb 104 head)

/-- The 128 bits of a frame control. -/
def fcPack (f : FC) : Nat := fcHead f * 2 ^ 24 + fccs (fcHead f)

/-- The frame control 128 received bits spell. -/
def fcParse (w : Nat) : FC :=
  { typ := bits w 124 4, ver := bits w 122 2, prio := bits w 120 2, link := bits w 108 12
    src := bits w 92 16, dst := bits w 76 16, body := bits w 24 52 }

/-- `fccs` holds in 128 received bits. -/
def fcsOk (w : Nat) : Bool := fccs (bits w 24 104) == bits w 0 24

/-- Samples of a guard code (R85). -/
def guardSamples : Nat → Nat
  | 0 => 556
  | 1 => 1112
  | _ => 2224

/-- Samples of a grid slot (R27). -/
def slotSamples (code : Nat) : Nat := guardSamples code + 8192

/-- The sync point of the station's own preambles (R95): Ls - 1,024. -/
def ownSync (ls : Nat) : Nat := ls - 1024

/-- A carrier a plan notches (R86). -/
def notched (p : BandPlan) (c : Nat) : Bool := p.notches.any (fun n => n.1 ≤ c && c ≤ n.2)

/-- The attenuation in dB the plan's masks give a carrier (R86). What two masks over one carrier give together, the spec does not
say: their attenuations add (DESIGN CHOICE, log 181). -/
def maskDb (p : BandPlan) (c : Nat) : Nat :=
  (p.masks.filter (fun m => m.first ≤ c && c ≤ m.last)).foldl (fun a m => a + m.db) 0

/-- A pilot position of the frame-control or payload set (R87). -/
def isPilot (c : Nat) : Bool := c % 24 == 2

/-- The payload range of a profile (R91). -/
def profileHigh : Nat → Nat
  | 0 => 585
  | 1 => 1797
  | 2 => 3522
  | _ => 585

/-- The carriers from `lo` to `hi`. -/
def carrierRange (lo hi : Nat) : List Nat := (List.range (hi + 1 - lo)).map (· + lo)

/-- The preamble set (R87). -/
def preambleSet (p : BandPlan) : List Nat :=
  ((carrierRange 10 137).map (· * 8)).filter (fun c => !notched p c)

/-- The frame-control set (R87). -/
def fcSet (p : BandPlan) : List Nat := (carrierRange 74 1097).filter (fun c => !notched p c)

/-- The payload set (R87). -/
def payloadSet (profile : Nat) (p : BandPlan) : List Nat :=
  (carrierRange (max 74 p.low) (min (profileHigh profile) p.high)).filter (fun c => !notched p c)

/-- The data carriers of a set. -/
def dataOf (l : List Nat) : List Nat := l.filter (fun c => !isPilot c)

/-- The pilots of a set. -/
def pilotsOf (l : List Nat) : List Nat := l.filter isPilot

/-- One step of the pilot generator x^9 + x^5 + 1 (R92). Which of its bits is the output, the rule does not say: the bit fed back
(DESIGN CHOICE, log 182). -/
def pilotStep (r : Nat) : Nat × Bool :=
  let fb := xor (r.testBit 8) (r.testBit 4)
  ((r * 2 + b2n fb) % 512, fb)

/-- `n` pilot signs from a register value, and the register after them; `true` is -1. -/
def pilotSigns : Nat → Nat → List Bool × Nat
  | 0, r => ([], r)
  | n + 1, r =>
    let (r', b) := pilotStep r
    let (l, r'') := pilotSigns n r'
    (b :: l, r'')

/-- The phase index of preamble carrier 8m: P_m = exp(jπ (m² mod 256) / 128) (R93). -/
def preamblePhase (m : Nat) : Nat := m * m % 256

/-- Preamble sample k of a slot of Ls samples (R94): the index into the short symbol and whether it is inverted. -/
def preambleIndex (ls k : Nat) : Nat × Bool :=
  let j : Int := (k : Int) + 9216 - ls
  if j < 8192 then ((j % 1024).toNat, false) else ((j - 8192).toNat, true)

/-- The position of copy `r` of cell `i` in a repetition mode (R99). -/
def repPos (m R r i : Nat) : Nat := r * m + (i + m / R * r) % m

/-- The cells of a symbol of D data carriers sent in a repetition mode with M cells (R99): for each position the
cell it carries, none for a position that carries +1. -/
def repLayout (d m R : Nat) : List (Option Nat) :=
  (List.range d).map (fun pos =>
    if m = 0 ∨ R * m ≤ pos then none
    else some (((pos % m) + m - (m / R * (pos / m)) % m) % m))

/-- R of a ROBO code (R99). -/
def roboR : Nat → Nat
  | 1 => 4
  | _ => 6

/-- One step of the R124 scrambler: the register after it and the bit it produces. -/
def scrStep (r : Nat) : Nat × Bool :=
  let fb := xor (r.testBit 14) (r.testBit 13)
  ((r * 2 + b2n fb) % 32768, fb)

/-- Scramble or descramble a bit string from a register value. -/
def scrambleFrom (r : Nat) : List Bool → List Bool
  | [] => []
  | d :: ds => let (r', b) := scrStep r; xor d b :: scrambleFrom r' ds

/-- Scrambling of a frame's payload (R124). -/
def scramble (link : Nat) (l : List Bool) : List Bool := scrambleFrom (0x7000 + link % 4096) l

/-- The two outputs of the convolutional encoder for an input and the six before it, newest first (R126). -/
def convOut (u : Bool) (h : List Bool) : Bool × Bool :=
  let g (i : Nat) : Bool := h.getD (i - 1) false
  (xor (xor (xor (xor u (g 2)) (g 3)) (g 5)) (g 6), xor (xor (xor (xor u (g 1)) (g 2)) (g 3)) (g 6))

/-- The output pairs of a block's inputs. -/
def convPairs (h : List Bool) : List Bool → List (Bool × Bool)
  | [] => []
  | u :: us => convOut u h :: convPairs ((u :: h).take 6) us

/-- The coded bits kept of the pairs of a block (R128), `i` counting the inputs of the period. -/
def puncture (code : Nat) : Nat → List (Bool × Bool) → List Bool
  | _, [] => []
  | i, (a, b) :: t =>
    let keep := match code with
      | 1 => if i % 2 = 0 then [a, b] else [a]
      | 2 => if i % 3 = 0 then [a, b] else if i % 3 = 1 then [a] else [b]
      | _ => [a, b]
    keep ++ puncture code (i + 1) t

/-- One convolutional block with its tail (R127, R128). -/
def convBlock (code : Nat) (l : List Bool) : List Bool :=
  puncture code 0 (convPairs [] (l ++ List.replicate 6 false))

/-- Coded bits of a block with n inputs (R128). -/
def convLen (code n : Nat) : Nat :=
  match code with
  | 1 => 3 * (n / 2) + 2 * (n % 2)
  | 2 => 4 * (n / 3) + (if n % 3 = 0 then 0 else n % 3 + 1)
  | _ => 2 * n

/-- A bit string in pieces of `n`, with a bound on their number. -/
def chunks (n : Nat) : Nat → List Bool → List (List Bool)
  | 0, _ => []
  | _, [] => []
  | f + 1, l => l.take n :: chunks n f (l.drop n)

/-- The base matrix of R130: for each row its (column, shift) entries. -/
def ldpcRows : List (List (Nat × Nat)) :=
  [[(0, 57), (1, 3), (3, 28), (7, 66), (12, 7), (13, 0)],
   [(1, 41), (2, 70), (4, 12), (8, 35), (13, 0), (14, 0)],
   [(2, 9), (3, 54), (5, 77), (9, 20), (14, 0), (15, 0)],
   [(3, 63), (4, 31), (6, 5), (10, 48), (15, 0), (16, 0)],
   [(4, 18), (5, 44), (7, 71), (11, 2), (16, 0), (17, 0)],
   [(0, 26), (5, 60), (6, 37), (8, 14), (17, 0), (18, 0)],
   [(1, 75), (6, 22), (7, 8), (9, 51), (12, 0), (18, 0), (19, 0)],
   [(2, 33), (7, 46), (8, 68), (10, 16), (19, 0), (20, 0)],
   [(3, 11), (8, 59), (9, 29), (11, 73), (20, 0), (21, 0)],
   [(0, 40), (4, 65), (9, 1), (10, 34), (21, 0), (22, 0)],
   [(1, 19), (5, 52), (10, 78), (11, 24), (22, 0), (23, 0)],
   [(0, 6), (2, 43), (6, 61), (11, 30), (12, 7), (23, 0)]]

/-- (P^s v)[i] = v[(i + s) mod 80] (R130). -/
def ldpcShift (s : Nat) (v : List Bool) : List Bool := v.drop (s % 80) ++ v.take (s % 80)

/-- The sum of two blocks. -/
def xorBits (a b : List Bool) : List Bool := List.zipWith xor a b

/-- λ of a row over the information blocks (R130). -/
def ldpcLambda (u : List (List Bool)) (row : List (Nat × Nat)) : List Bool :=
  (row.filter (fun e => e.1 < 12)).foldl (fun a e => xorBits a (ldpcShift e.2 (u.getD e.1 [])))
    (List.replicate 80 false)

/-- Parity blocks p_2 to p_11 from λ_1 on, `r` counting the row (R130). -/
def ldpcTail (p0 : List Bool) : Nat → List Bool → List (List Bool) → List (List Bool)
  | _, _, [] => []
  | r, p, l :: ls =>
    let q := xorBits (xorBits l p) (if r = 6 then p0 else List.replicate 80 false)
    q :: ldpcTail p0 (r + 1) q ls

/-- The 1,920 bits of a codeword from its 960 information bits (R130, R131). -/
def ldpcEncode (info : List Bool) : List Bool :=
  let u := chunks 80 12 info
  let lam := ldpcRows.map (ldpcLambda u)
  let p0 := lam.foldl xorBits (List.replicate 80 false)
  let p1 := xorBits (lam.getD 0 []) (ldpcShift 7 p0)
  info ++ p0 ++ p1 ++ (ldpcTail p0 1 p1 ((lam.drop 1).take 10)).flatten

/-- The syndrome of 1,920 hard decisions is zero (R134). -/
def ldpcSyndromeZero (cw : List Bool) : Bool :=
  let v := chunks 80 24 cw
  ldpcRows.all (fun row =>
    (row.foldl (fun a e => xorBits a (ldpcShift e.2 (v.getD e.1 []))) (List.replicate 80 false)).all (!·))

/-- Whether codeword bit `i` is punctured at a code (R132). -/
def ldpcPunctured (code i : Nat) : Bool :=
  let j := (i - 960) / 80
  i ≥ 960 && (match code with
    | 5 => j % 2 == 1
    | 6 => j % 2 == 1 || j == 10 || j == 8 || j == 6 || (j == 4 && 32 ≤ (i - 960) % 80)
    | _ => false)

/-- The bits of a codeword that are sent: `k` information bits and the unpunctured parity (R131 to R133). -/
def ldpcSent (code k : Nat) (cw : List Bool) : List Bool :=
  (cw.zipIdx.filter (fun e => (e.2 < k || 960 ≤ e.2) && !ldpcPunctured code e.2)).map (·.1)

/-- Bits sent per full codeword (R132). -/
def ldpcLen : Nat → Nat
  | 5 => 1440
  | 6 => 1152
  | _ => 1920

/-- The coded bits of a scrambled payload (R127, R128, R133). -/
def encodePayload (code : Nat) (l : List Bool) : List Bool :=
  if code < 4 then ((chunks 2048 (l.length + 1) l).map (convBlock code)).flatten
  else ((chunks 960 (l.length + 1) l).map (fun c =>
    ldpcSent code c.length (ldpcEncode (c ++ List.replicate (960 - c.length) false)))).flatten

/-- Coded bits of a payload of B bits at a code. -/
def codedLen (code B : Nat) : Nat :=
  if code < 4 then
    let nb := ceilDiv B 2048
    (nb - 1) * convLen code 2054 + (if nb = 0 then 0 else convLen code (B - 2048 * (nb - 1) + 6))
  else
    let n := ceilDiv B 960
    (n - 1) * ldpcLen code + (if n = 0 then 0 else B - 960 * (n - 1) + (ldpcLen code - 960))

/-- The coded bits of a frame control (R98). -/
def fcCoded (w : Nat) : List Bool := convBlock 0 (bitsMsb 128 w)

/-- The integer a Gray word decodes to, first bit most significant. -/
def grayNum (l : List Bool) : Nat :=
  (l.foldl (fun (a : Nat × Bool) b => let x := xor a.2 b; (2 * a.1 + b2n x, x)) (0, false)).1

/-- One axis of a cell (R137). -/
def cellAxis (l : List Bool) : Int := if l = [] then 0 else (2 ^ l.length : Nat) - 1 - 2 * (grayNum l : Int)

/-- The cell of a bit string of 1 to 10 bits (R137): I and Q before scaling by 1/sqrt(E). -/
def mapCell (l : List Bool) : Int × Int :=
  let bi := (l.length + 1) / 2
  (cellAxis (l.take bi), cellAxis (l.drop bi))

/-- E of R137 for b bits. -/
def cellE (b : Nat) : Nat := ((4 ^ ((b + 1) / 2) - 1) + (4 ^ (b / 2) - 1)) / 3

/-- Coded bits one payload symbol carries (R135). -/
def symBits (loads : List Nat) : Nat := loads.foldl (· + ·) 0

/-- Bits the first symbol carries under interleaving: positions 48 upward (R135). -/
def symBitsFirst (loads : List Nat) : Nat := symBits (loads.drop 48)

/-- `n_sym` of R135. -/
def nSymOf (nc bs first : Nat) : Nat :=
  if nc = 0 then 0 else if nc ≤ first then 1 else if bs = 0 then 0 else 1 + ceilDiv (nc - first) bs

/-- A frame's coded bits repeated cyclically to fill its symbols (R136). -/
def fillBits (n : Nat) (l : List Bool) : List Bool :=
  if l = [] then [] else (List.range n).map (fun i => l.getD (i % l.length) false)

/-- The cells of a symbol by loading; a carrier of loading 0 carries +1 (R137, R159). -/
def mapSymbol : List Nat → List Bool → List (Int × Int)
  | [], _ => []
  | 0 :: bs, l => (1, 0) :: mapSymbol bs l
  | b :: bs, l => mapCell (l.take b) :: mapSymbol bs (l.drop b)

/-- d(k) of the interleaver in link symbols (R141). -/
def liDelay (w k : Nat) : Nat := if k < 48 then 0 else 23 * (k - 48) % 64 * (w / 64)

/-- CRC-4 of a 12-bit link-symbol index (R142). -/
def crc4 (v : Nat) : Nat := crc 4 3 0xF (bitsMsb 12 v)

/-- The 16 bits of a stamp (R142). -/
def stampBits (idx : Nat) : Nat := idx % 4096 * 16 + crc4 (idx % 4096)

/-- The 44 coded bits of a stamp. -/
def stampCoded (idx : Nat) : List Bool := convBlock 0 (bitsMsb 16 (stampBits idx))

/-- The 48 cells of a stamp: 22 QPSK cells twice, then +1 (R142). -/
def stampCells (idx : Nat) : List (Int × Int) :=
  let c := mapSymbol (List.replicate 22 2) (stampCoded idx)
  c ++ c ++ List.replicate 4 (1, 0)

/-- CRC-32 of IEEE 802.3 over bytes: reflected, initial and final all ones. -/
def crc32 (l : List Byte) : Nat :=
  let r := crc 32 0x04C11DB7 0xFFFFFFFF (l.flatMap (fun b => (bitsMsb 8 b.toNat).reverse))
  ofBitsMsb ((bitsMsb 32 (0xFFFFFFFF - r)).reverse)

/-- Decoder slots of a pool per grid slot (R149): floor(slot time / unit time) × units; a sample is 5 ns. -/
def poolCap (ls unitNs units : Nat) : Nat := ls * 5 / unitNs * units

/-- Γ of R157 in quarter decibels. -/
def gammaQ : Nat → Nat
  | 0 => 22
  | 1 => 28
  | 2 => 32
  | 4 => 14
  | 5 => 18
  | 6 => 24
  | _ => 0

/-- The code rate as a fraction. -/
def codeRate : Nat → Nat × Nat
  | 0 => (1, 2)
  | 1 => (2, 3)
  | 2 => (3, 4)
  | 4 => (1, 2)
  | 5 => (2, 3)
  | 6 => (5, 6)
  | _ => (0, 1)

/-- SNR (quarter dB) ≥ SNRreq(b, k) + extra (quarter dB), exactly (R157): 10^(e/40) ≥ 2^b - 1. -/
def snrMeets (snr : Int) (b k : Nat) (extra : Int) : Bool :=
  let e : Int := snr - extra - gammaQ k - (if b % 2 = 1 ∧ 3 ≤ b then 2 else 0)
  b == 1 && 0 ≤ e || (0 ≤ e && (2 ^ b - 1) ^ 40 ≤ 10 ^ e.toNat)

/-- The loading of a carrier (R158): the largest b from 1 to 10 that the SNR meets, else 0. -/
def loadOf (snr : Int) (k : Nat) (m : Int) : Nat :=
  ((List.range 10).map (fun i => 10 - i)).find? (fun b => snrMeets snr b k m) |>.getD 0

/-- Round to quarter decibels of a power ratio n/d, held to a 12-bit signed field: the greatest r with
(n/d)^80 ≥ 10^(2r-1), by binary search. -/
def quarterDbSearch (n d : Nat) : Nat → Int → Int → Int
  | 0, lo, _ => lo
  | f + 1, lo, hi =>
    let mid := (lo + hi + 1) / 2
    let e := 2 * mid - 1
    let ok := if 0 ≤ e then d ^ 80 * 10 ^ e.toNat ≤ n ^ 80 else d ^ 80 ≤ n ^ 80 * 10 ^ (-e).toNat
    if ok then quarterDbSearch n d f mid hi else quarterDbSearch n d f lo (mid - 1)

/-- 10·log10(n/d) in 0.25 dB, nearest (R551), within a 12-bit signed field. -/
def quarterDb (n d : Nat) : Int := quarterDbSearch n d 12 (-2048) 2047

/-- The sum of squares of samples. -/
def energy (x : List Int) : Nat := x.foldl (fun a v => a + v.natAbs * v.natAbs) 0

end Sys2Proof.Machine
end

