-- ==== Sys2Proof/Config.lean ====
section
/-! DEFINITION. What the spec leaves open: constants without a body. Nothing in Lean can evaluate them or prove a
value of them, so a statement about the machine holds for every value they may have. The assumption log names each. -/

namespace Sys2Proof

open Sys2Proof.Machine

/-- A free value: the `n`-th value the spec does not state; `n` is read from the state's counter (log 3). -/
opaque Config.freeValue : Nat → Nat

/-- The message buffers a delivery region of a size holds beside its books (R449, log 10). -/
opaque Config.msgBuffers : Nat → Nat

/-- A uniform draw of R247 or R462, by the state's counter (log 4). -/
opaque Config.draw : Nat → Nat

/-- exp(j·2π·x) of a fraction of a turn, as the hardware holds it (log 5). -/
opaque Config.expTurn : Rat → Cx

/-- 2π, as the hardware holds it (log 5). -/
opaque Config.twoPi : Rat

/-- 1/sqrt(n), as the hardware holds it (log 5). -/
opaque Config.rsqrt : Nat → Rat

/-- 10^(n/40), a power ratio of n quarter decibels, as the hardware holds it (log 5). -/
opaque Config.powerRatio : Int → Rat

/-- The sampling offset in Q8 ppm that a pipe reads from the samples of a preamble (R110): no estimator is stated (log 6). -/
opaque Config.scoEstimate : List Int → Int

/-- The common phase, in turns, and the samples the FFT window lies late, that a pipe reads from a symbol's pilots: carrier and
received over expected value (R110): no estimator is stated (log 6). -/
opaque Config.pilotFit : List (Nat × Cx) → Rat × Rat

/-- Steps of a 6-bit soft input per unit of log-likelihood ratio (R129, log 27). -/
opaque Config.softScale : Rat

/-- The normalisation of the min-sum decoder (R134, log 27). -/
opaque Config.minSumScale : Rat

/-- The reference level: the amplitude, in steps of the 12-bit sample, of a carrier whose cell has unit power (R83, R111, log 165). -/
opaque Config.reference : Rat

/-- A symbol's samples after clipping and filtering to a limit, on a plan (R111): the filter is not stated (log 165). -/
opaque Config.paprFilter : Nat → BandPlan → List Rat → List Rat

/-- SHAKE256 with a 64-byte digest over a byte string, as a number (log 7). -/
opaque Config.shake256 : List Byte → Nat

/-- Whether a Falcon-1024 signature verifies: public key, digest, signature (log 7). -/
opaque Config.falconVerify : List Byte → Nat → List Byte → Bool

/-- The Falcon-1024 signature the device key makes over a digest (log 7). -/
opaque Config.falconSign : Nat → Nat → List Byte

/-- AES-256-GCM: key, nonce, additional data, plain text; the cipher text with its tag (log 7). -/
opaque Config.gcmSeal : List Byte → List Byte → List Byte → List Byte → List Byte

/-- AES-256-GCM opening: none where the tag fails (log 7). -/
opaque Config.gcmOpen : List Byte → List Byte → List Byte → List Byte → Option (List Byte)

end Sys2Proof
end

