-- ==== Sys2Proof/Machine/Pat.lean ====
section
/-! DEFINITION. The pattern as data: its header and its sections (R46, R51), each section as its owning chapter lays it
out; a section that is absent holds its chapter's factory values. -/

namespace Sys2Proof.Machine

/-- The pattern header (R46). -/
structure PatHdr where
  kind : Nat := 0
  panel : Nat := 0
  total : Nat := 0
  count : Nat := 0
  fuseId : Nat := 0
  rollback : Nat := 0
  features : Nat := 0
  serial : Nat := 0
  parent : Nat := 0
  deriving DecidableEq, Repr

/-- The sections of a pattern. `types` lists the section types present. -/
structure Pat where
  hdr : PatHdr := {}
  types : List Nat := []
  skips : Nat := 0
  guard : Nat := 1
  chans : List ChanItem := []
  plans : List BandPlan := [{}]
  chanPlans : List BandPlan := []
  engines : List EngItem := []
  olaParts : List OlaClass := [⟨0, 192, 40⟩, ⟨7864320, 192, 20⟩, ⟨11796480, 192, 20⟩]
  olaItems : List OlaItem := []
  hem : HemHdr := {}
  windows : List Window := []
  ledgers : List Ledger := []
  panels : List PanelItem := []
  tbs : TbSec := {}
  gauge : GaugeSec := {}
  cast : CastSec := {}
  serial : List SerItem := []
  contacts : ContactSec := {}
  carve : List CarveItem := []
  dlv : DlvHdr := {}
  eps : List Endpoint := []
  doms : List Domain := []
  dormHdr : DormHdr := {}
  dorm : List DormItem := []
  thimble : ThimbleHdr := {}
  thimbles : List ThimbleItem := []
  regInit : List (Nat × Nat) := []
  ports : HostPorts := {}
  deriving DecidableEq, Repr

end Sys2Proof.Machine
end

