-- ==== Sys2Proof/Machine/Regs.lean ====
section
/-! DEFINITION. The register fields of the map (rule R522 and the register tables of every chapter):
one constructor of `Fld` per field that is not RSV, and for each its place, access code and reset.
An instance number `i` counts the instances of the block, times the words of a register group. -/

namespace Sys2Proof.Machine

/-- The access codes of R15 (RSV bits have no field). -/
inductive Acc where
  | ro | rw | rwp | w1c | w1s | rc | wo
  deriving DecidableEq, Repr

/-- The Reset column of a register table (R20): a value, PAT, X or FUSE. -/
inductive Rst where
  | val (n : Nat) | pat | x | fuse
  deriving DecidableEq, Repr

/-- The fields of the register map, chapter by chapter, in the order of the spec's tables. -/
inductive Fld where
  | PNL_RING_IDX_cmd_tail
  | PNL_RING_IDX_cmd_head
  | PNL_RING_IDX_rsp_tail
  | PNL_RING_IDX_rsp_head
  | PAT_ID_version
  | PAT_ID_block_id
  | PAT_STATUS_loader_state
  | PAT_STATUS_sealed
  | PAT_STATUS_source
  | PAT_STATUS_last_reject
  | PAT_STATUS_conflict_kind
  | PAT_CONFLICT_A_item
  | PAT_CONFLICT_A_section
  | PAT_CONFLICT_B_item
  | PAT_CONFLICT_B_section
  | PAT_CONFLICT_UNIT_unit
  | PAT_REJECT_CNT_rejects
  | PAT_REJECT_CNT_skips
  | CHN_ID_instance
  | CHN_ID_version
  | CHN_ID_block_id
  | CHN_STATUS_state
  | CHN_STATUS_role
  | CHN_STATUS_coupling
  | CHN_STATUS_profile
  | CHN_STATUS_fault_cause
  | CHN_STATUS_rx_busy
  | CHN_STATUS_coupling_pending
  | CHN_CFG_link_id
  | CHN_CFG_band_plan
  | CHN_CFG_ramp_us
  | CHN_CFG_auto_rearm
  | CHN_CFG_train_timeout
  | CHN_TX_LEVEL_tx_atten
  | CHN_TX_LEVEL_papr_limit
  | CHN_DET_CFG_det_thr
  | CHN_DET_CFG_qual_thr
  | CHN_DET_CFG_agc_target
  | CHN_RSSI_rssi
  | CHN_RSSI_rssi_valid
  | CHN_RSSI_noise_floor
  | CHN_RSSI_nf_valid
  | CHN_SYNC_sync_offset
  | CHN_SYNC_sync_frac
  | CHN_SYNC_sync_valid
  | CHN_FREQ_sco_ppm
  | CHN_FREQ_sco_valid
  | CHN_TX_DISCARD_CNT_discards
  | CHN_TX_DISCARD_CNT_ramp_refused
  | CHN_RX_DET_CNT_detections
  | CHN_RX_DET_CNT_qual_fail
  | CHN_RX_FC_CNT_fc_crc_err
  | CHN_RX_FC_CNT_fc_foreign
  | CHN_RX_ABORT_CNT_preempt
  | CHN_RX_ABORT_CNT_self_det
  | PIPE_ID_instance
  | PIPE_ID_version
  | PIPE_ID_block_id
  | PIPE_STATUS_slice_active
  | PIPE_STATUS_gated
  | PIPE_STATUS_fenced
  | COD_ID_version
  | COD_ID_block_id
  | COD_POOL_STATUS_vit_units
  | COD_POOL_STATUS_ldpc_units
  | COD_CAP_vit_cap
  | COD_CAP_ldpc_cap
  | COD_LDPC_CFG_ldpc_iter
  | COD_DEFER_CNT_defer
  | COD_DEFER_CNT_drop
  | COD_PROT_CNT_prot_late
  | COD_PROT_CNT_dec_borrow
  | CHN_CODE_CFG_li_span
  | CHN_CODE_CFG_li_idle
  | CHN_CODE_STATUS_li_tx_on
  | CHN_CODE_STATUS_li_rx_on
  | CHN_CODE_STATUS_li_span_tx
  | CHN_CODE_STATUS_li_tx_pos
  | CHN_CODE_STATUS_li_rx_pos
  | CHN_CODE_CNT_li_resync
  | CHN_CODE_CNT_li_stamp_err
  | CHN_CODE_CNT_cw_fail
  | CHN_CHISEL_CNT_blanked
  | CHN_CHISEL_CNT_sym_erased
  | CHN_STEP_CNT_step_det
  | CHN_STEP_CNT_step_armed
  | CHN_TM_CNT_map_sent
  | CHN_TM_CNT_map_rcvd
  | CHN_TM_CNT_invalidations
  | CHN_TM_CNT_tm_reject
  | CHN_ADAPT_CFG_tm_margin
  | CHN_ADAPT_CFG_prot_margin
  | CHN_ADAPT_CFG_imp_mode
  | CHN_ADAPT_CFG_nse_shift
  | CHN_ADAPT_CFG_tm_holdoff
  | CHN_ADAPT_CFG_tm_delta
  | CHN_ADAPT_CFG2_tm_refresh
  | CHN_ADAPT_CFG2_sound_n
  | CHN_ADAPT_CFG2_erase_db
  | CHN_CHISEL_CFG_chisel_thr
  | CHN_CHISEL_CFG_chisel_pre
  | CHN_CHISEL_CFG_chisel_post
  | CHN_CHISEL_CFG_chisel_max
  | CHN_STEP_CFG_step_thr
  | CHN_STEP_CFG_step_thr_armed
  | CHN_STEP_CFG_blank_arm
  | CHN_STEP_CFG_arm_ms
  | CHN_TM_STATUS_rx_valid
  | CHN_TM_STATUS_tx_valid
  | CHN_TM_STATUS_tx_general
  | CHN_TM_STATUS_tx_protect
  | CHN_TM_STATUS_fallback
  | CHN_TM_STATUS_imp_chisel
  | CHN_TM_STATUS_imp_li
  | CHN_TM_STATUS_imp_none
  | CHN_TM_STATUS_step_active
  | CHN_TM_STATUS_armed
  | CHN_SNR_snr_mean
  | CHN_SNR_snr_valid
  | CHN_SNR_min_margin
  | CHN_CARRIER_SEL_carrier
  | CHN_CARRIER_DATA_snr
  | CHN_CARRIER_DATA_bits_rx
  | CHN_CARRIER_DATA_bits_tx
  | CHN_CARRIER_DATA_pilot
  | CHN_CARRIER_DATA_notched
  | CHN_CARRIER_DATA_valid
  | CHN_SOUND_CNT_sound_rx
  | CHN_SOUND_CNT_sound_timeout
  | OLA_ID_version
  | OLA_ID_block_id
  | OLA_STATUS_next_on
  | OLA_STATUS_fext_on
  | OLA_STATUS_prec_on
  | OLA_STATUS_self_on
  | OLA_STATUS_fenced
  | OLA_STATUS_upd_phase
  | OLA_STATUS_sync_t
  | OLA_STATUS_dsync_t
  | OLA_CLASS_BASE_base
  | OLA_CLASS_DIM_victims
  | OLA_CLASS_DIM_nd
  | OLA_LEARN_CFG_next_mu
  | OLA_LEARN_CFG_fext_mu
  | OLA_LEARN_CFG_prec_mu
  | OLA_LEARN_CFG_div_n
  | OLA_LEARN_MIN_next_min
  | OLA_LEARN_MIN_fext_min
  | OLA_LEARN_MIN_prec_min
  | OLA_HOLD0_next_hold
  | OLA_HOLD0_fext_hold
  | OLA_HOLD1_prec_hold
  | OLA_SYNC_CFG_sync_period
  | OLA_SYNC_CFG_next_span
  | OLA_SYNC_CFG_err_deadline
  | OLA_SYNC_CFG_prec_clip
  | OLA_DIV_CNT_diverge
  | OLA_DIV_CNT_ecc_drop
  | OLA_LOSS_CNT_loss_erase
  | OLA_LOSS_CNT_next_unsafe
  | OLA_ERR_CNT_err_used
  | OLA_ERR_CNT_err_stale
  | OLA_PAIRS_active
  | OLA_PAIRS_learning
  | CHN_OLA_LOCK_delta
  | CHN_OLA_LOCK_locked
  | CHN_OLA_LOCK_lock_valid
  | CHN_OLA_STATUS_sync_part
  | CHN_OLA_STATUS_err_rx
  | CHN_OLA_STATUS_next_div
  | CHN_OLA_STATUS_fext_div
  | CHN_OLA_STATUS_prec_div
  | CHN_OLA_STATUS_dup_ok
  | CHN_OLA_CNT_prec_clipped
  | CHN_OLA_CNT_gl_miss
  | HEM_ID_version
  | HEM_ID_block_id
  | HEM_STATUS_src_state
  | HEM_STATUS_supply_valid
  | HEM_STATUS_gauge_valid
  | HEM_STATUS_hem_seq
  | HEM_REF_CFG_ref_src
  | HEM_REF_CFG_nominal
  | HEM_REF_CFG_ref_line
  | HEM_REF_CFG_ref_chan
  | HEM_REF_CFG_slew
  | HEM_PERIOD_p_cur
  | HEM_FILTER_pf
  | HEM_PHASE_ERR_err
  | HEM_PHASE_ERR_err_valid
  | HEM_REF_OFS_supply_ofs
  | HEM_SRC_CNT_src_loss
  | HEM_SRC_CNT_src_switch
  | CHN_HEM_STATUS_theta
  | CHN_HEM_STATUS_theta_valid
  | CHN_HEM_STATUS_win_type
  | CHN_HEM_STATUS_bcn_ok
  | CHN_HEM_OFS_delta_m
  | CHN_HEM_OFS_delta_valid
  | CHN_ACCESS_CFG_cw_min0
  | CHN_ACCESS_CFG_cw_max0
  | CHN_ACCESS_CFG_cw_min1
  | CHN_ACCESS_CFG_cw_max1
  | CHN_ACCESS_CFG_cw_min2
  | CHN_ACCESS_CFG_cw_max2
  | CHN_ACCESS_CNT_no_ack
  | CHN_ACCESS_CNT_prs_defer
  | CHN_SCHED_CNT_dup_defer
  | CHN_SCHED_CNT_ledger_defer
  | CHN_SCHED_CNT_bcn_conflict
  | CHN_SCHED_CNT_bcn_miss
  | CHN_LEDGER_STATUS_masked
  | CHN_LEDGER_STATUS_defined
  | CHN_LEDGER_SEL_segment
  | CHN_LEDGER_DATA_occ
  | CHN_LEDGER_DATA_valid
  | DLV_ID_version
  | DLV_ID_block_id
  | DLV_DESC_desc_free
  | DLV_DESC_narrow
  | DLV_DESC_PROT_prot_free
  | DLV_INFLIGHT_if_free
  | DLV_INFLIGHT_prot_if_free
  | DLV_SEEN_seen_used
  | DLV_CFG_abandon_ms
  | DLV_CFG_prot_abandon_ms
  | DLV_CFG2_retx_max
  | DLV_CFG2_window
  | DLV_CFG2_seen_life
  | DLV_CFG2_flood_ttl
  | DLV_CFG2_flood_rep
  | DLV_TX_CNT_retx
  | DLV_TX_CNT_abandon
  | DLV_RX_CNT_dup
  | DLV_RX_CNT_out_win
  | DLV_RX_CNT2_skip
  | DLV_RX_CNT2_rx_nodesc
  | DLV_RX_CNT2_rx_drop
  | DLV_RX_CNT2_peer_full
  | DLV_EP_CNT_ep_unknown
  | DLV_EP_CNT_ep_denied
  | DLV_FLOOD_CNT_flood_dup
  | DLV_FLOOD_CNT_ttl_end
  | DLV_FLOOD_CNT_seen_evict
  | DLV_MISC_CNT_late_ack
  | DLV_MISC_CNT_leak
  | DLV_MISC_CNT_flood_nodesc
  | DLV_MISC_CNT_if_wait
  | DRM_ID_version
  | DRM_ID_block_id
  | DRM_STATUS_rec_used
  | DRM_STATUS_narrow
  | DRM_CFG_drift_shift
  | DRM_CFG_unc_floor
  | DRM_CFG_tone_tries
  | DRM_REC_SEL_record
  | DRM_REC_DATA0_state
  | DRM_REC_DATA0_channel
  | DRM_REC_DATA0_misses
  | DRM_REC_DATA0_group
  | DRM_REC_DATA0_carrier
  | DRM_REC_DATA1_addr
  | DRM_REC_DATA1_period
  | DRM_REC_DATA2_drift
  | DRM_REC_DATA3_bound
  | DRM_RDV_CNT_rdv_kept
  | DRM_RDV_CNT_rdv_miss
  | DRM_TONE_CNT_tones
  | DRM_TONE_CNT_tone_wake
  | DRM_MISC_CNT_rec_full
  | DRM_MISC_CNT_ws_unknown
  | DRM_MISC_CNT_tone_defer
  | DRM_MISC_CNT_lost
  | TIM_ID_version
  | TIM_ID_block_id
  | TIM_TICK_tick
  | TIM_EP_BOARD_board_rx
  | TIM_EP_BOARD_board_tx
  | TIM_EP_LAT_rx_lat
  | TIM_EP_LAT_tx_lat
  | TIM_EP_DELAY_delay
  | TIM_EP_DELAY_valid
  | TIM_PTP_CNT_ts_suspect
  | TIM_PTP_CNT_loop_drop
  | TIM_PTP_CNT2_late
  | TIM_PTP_CNT2_far
  | TIM_PTP_CNT2_no_pdelay
  | TIM_PTP_CNT2_unsupported
  | TIM_TB_CFG_role
  | TIM_TB_CFG_domain
  | TIM_TB_CFG_lock_ns
  | TIM_TB_STATUS_tb_state
  | TIM_TB_STATUS_qualified
  | TIM_TB_STATUS_gm_class
  | TIM_TB_STATUS_ho_s
  | TIM_TB_TIME_time
  | TIM_TB_RATE_rate
  | TIM_TB_OFFSET_theta
  | TIM_TB_SERVO_kp
  | TIM_TB_SERVO_ki
  | TIM_TB_STEP_step_ns
  | TIM_TB_CNT_steps
  | TIM_TB_CNT_offsets
  | TIM_PAIR_STATUS_on_secondary
  | TIM_PAIR_STATUS_slewing
  | TIM_PAIR_STATUS_switches
  | TIM_PAIR_PHI_phi
  | CHN_PTP_DELAY_delay
  | CHN_PTP_DELAY_valid
  | CHN_PTP_DELAY_tc_port
  | HLK_ID_instance
  | HLK_ID_version
  | HLK_ID_block_id
  | HLK_STATUS_state
  | HLK_STATUS_cause
  | HLK_STATUS_gated
  | HLK_CFG_asym
  | HLK_CFG_drift_allow
  | HLK_RTT_rtt
  | HLK_RTT_rtt_valid
  | HLK_DELAY_d_adv
  | HLK_DELAY_u_cal
  | HLK_DELAY_d_valid
  | HLK_TRIM_p_target
  | HLK_TRIM_p_head
  | HLK_TRIM_p_valid
  | HLK_HEAD_LAT_h_dn
  | HLK_HEAD_LAT_h_loop
  | HLK_ALIGN_a_ticks
  | HLK_ALIGN_a_valid
  | HLK_FEC_CNT_fec_corr
  | HLK_FEC_CNT_fec_fail
  | HLK_LOSS_CNT_lost
  | HLK_LOSS_CNT_ctl_timeout
  | HLK_LOSS_CNT_ds_err
  | HLK_LOSS_CNT_cal_err
  | GAU_ID_version
  | GAU_ID_block_id
  | GAU_BLANK_STATUS_pin
  | GAU_BLANK_STATUS_asserted
  | GAU_CH_CFG_exc_on
  | GAU_CH_CFG_exc_restart
  | GAU_CH_CFG_rc_mode
  | GAU_CH_CFG_dcb_freeze
  | GAU_CH_CFG_amp
  | GAU_CH_FTW_ftw
  | GAU_CH_STATUS_g_state
  | GAU_CH_STATUS_cpl_fault
  | GAU_CH_STATUS_sense_fault
  | GAU_CH_STATUS_uns
  | GAU_CH_STATUS_no_gauge
  | GAU_CH_STATUS_range0
  | GAU_CH_STATUS_range1
  | GAU_CH_STATUS_z_valid
  | GAU_CH_Z_z
  | GAU_CH_K_k
  | GAU_CH_CNT_rc_cnt
  | GAU_CH_CNT_gap_cnt
  | GAU_CH_CNT_chk_fail
  | GAU_CH_CNT_chk_skip
  | SRG_ID_version
  | SRG_ID_block_id
  | SRG_STATUS_on
  | SRG_STATUS_regions_free
  | SRG_STATUS_blocks
  | SRG_REGION_state
  | SRG_REGION_short
  | SRG_REGION_gap
  | SRG_REGION_trigger
  | SRG_CNT_arrivals
  | SRG_CNT_frz_full
  | SRG_CNT_frz_merged
  | SRG_CNT2_gap_blocks
  | SRG_CNT2_arr_head
  | HST_ID_version
  | HST_ID_block_id
  | HST_STATUS_prp_on
  | HST_STATUS_goose_pcp
  | HST_PRP_CNT_prp_dup
  | HST_PRP_CNT_prp_wrong_lan
  | HST_GOOSE_CNT_goose_in
  | HST_GOOSE_CNT_goose_unmap
  | HST_GOOSE_CNT_goose_ovf
  | HST_TMB_CAP_cm
  | HST_TMB_CNT_mem_wait
  | HST_TMB_CNT_mem_borrow
  | HST_PORT_STATUS_link_up
  | HST_PORT_STATUS_mode
  | HST_PORT_STATUS_fec_lock
  | HST_PORT_STATUS_an_done
  | HST_PORT_CNT_fcs_err
  | HST_PORT_CNT_mac_drop
  | HST_PORT_CNT2_vid_drop
  | HST_PORT_CNT2_etype_drop
  | PNL_ID_instance
  | PNL_ID_version
  | PNL_ID_block_id
  | PNL_STATUS_defined
  | PNL_STATUS_in_band
  | PNL_STATUS_rights
  | PNL_AIR_air_left
  | PNL_AIR_air_borrowed
  | PNL_DEC_dec
  | PNL_DEC_dec_used
  | PNL_CREDIT_ret_lo
  | PNL_CREDIT_ret_hi
  | PNL_ALIAS_FAULT_CNT_count
  | PNL_EXPERT_DENY_CNT_count
  | PNL_OHI_WRONG_CNT_count
  | PNL_CMD_OVF_CNT_count
  | PNL_THIMBLE_CNT_air_wait
  | PNL_THIMBLE_CNT_credit_drop
  | PNL_HO_CNT_ho_err
  | PNL_HO_CNT_right_deny
  | PNL_HO_CNT_q_age_drop
  | SER_ID_instance
  | SER_ID_version
  | SER_ID_block_id
  | SER_STATUS_function
  | SER_STATUS_class
  | SER_STATUS_awake
  | SER_STATUS_osc_on
  | SER_STATUS_de
  | SER_STATUS_div_pending
  | SER_STATUS_rx_level
  | SER_STATUS_tx_level
  | SER_DIV_div
  | SER_RX_DATA_data
  | SER_RX_DATA_parity
  | SER_RX_DATA_frame
  | SER_RX_DATA_brk
  | SER_RX_DATA_ovr
  | SER_RX_DATA_valid
  | SER_TX_DATA_data
  | SER_CNT_overrun
  | SER_CNT_frm_err
  | SER_CNT_par_err
  | SER_CNT_false_start
  | SER_CNT2_msg_out
  | SER_CNT2_msg_bad
  | SER_CNT2_tx_ovf
  | CMD_ID_version
  | CMD_ID_block_id
  | CMD_IN_STATE_asserted
  | CMD_IN_STATE_pin
  | CMD_OUT_STATE_active
  | CMD_OUT_STATE_forced
  | CMD_CT_CFG_function
  | CMD_CT_CFG_mode
  | CMD_CT_CFG_invert
  | CMD_CT_CFG_debounce
  | CMD_CNT_cmd_stale
  | CMD_CNT_cmd_bad
  | CMD_CNT_watch_exp
  | CMD_CNT_cmd_merge
  | BOB_ID_version
  | BOB_ID_block_id
  | BOB_STATUS_working
  | BOB_STATUS_spares
  | BOB_ENG_SEL_engine
  | BOB_ENG_DATA_role
  | BOB_ENG_DATA_share
  | BOB_ENG_DATA_fault
  | BOB_ENG_DATA_gated
  | BOB_ENG_DATA_lm_ce
  | BOB_ENG_DATA_slice_wait
  | BOB_FW_fw_version
  | HBM_ID_version
  | HBM_ID_block_id
  | HBM_STATUS_trained
  | HBM_STATUS_fenced
  | HBM_STATUS_self_refresh
  | HBM_STATUS_temp_max
  | HBM_ECC_CNT_ce
  | HBM_ECC_CNT_ue
  | HBM_SCRUB_CFG_scrub_cap
  | HBM_SCRUB_CFG_cal_s
  | HBM_SCRUB_STATUS_position
  | HBM_SCRUB_STATUS_passes
  | HBM_MISC_CNT_cal_late
  | HBM_MISC_CNT_log_drop
  | HBM_MISC_CNT_retired
  | SEC_ID_version
  | SEC_ID_block_id
  | SEC_STATUS_owned
  | SEC_STATUS_slot
  | SEC_STATUS_debug_open
  | SEC_STATUS_scope
  | SEC_STATUS_tamper
  | SEC_STATUS_loop_open
  | SEC_STATUS_debug_lock
  | SEC_FUSE_ID_fuse_id
  | SEC_ROLLBACK_fw_level
  | SEC_ROLLBACK_pat_level
  | SEC_CFG_tamper_mode
  | SEC_CNT_dec_fail
  | SEC_CNT_replay
  | SEC_CNT_enc_nokey
  | SEC_CNT2_ohi_auth
  | SEC_CNT2_ohi_replay
  | SEC_CNT2_debug_deny
  | RST_ID_version
  | RST_ID_block_id
  | RST_CAUSE_sources
  | RST_CAUSE_level
  | RST_CAUSE_from_keep
  | RST_MAP_map
  | RST_WD_CFG_wd_mgmt
  | RST_WD_CFG_wd_host
  | RST_WD_CFG_wd_mem
  | RST_WD_CFG_wd_plane
  | RST_WD_CFG_wd_lane
  | RST_CNT_warm_cnt
  | RST_CNT_plane_cnt
  | RST_CNT_block_cnt
  | RST_CNT_event_cnt
  | PWR_ID_version
  | PWR_ID_block_id
  | PWR_STATUS_gasp
  | PWR_STATUS_input_ok
  | PWR_STATUS_input_dc
  | PWR_STATUS_vbat_ok
  | PWR_STATUS_bulk
  | PWR_CLK_STATUS_ref_sel
  | PWR_CLK_STATUS_refclk_valid
  | PWR_CLK_STATUS_slewing
  | PWR_CLK_STATUS_pps_valid
  | PWR_CLK_STATUS_ref_ofs
  | PWR_GASP_CFG_gasp_ep
  | PWR_GASP_CFG_gasp_host
  | PWR_GASP_CHAN_chans
  | PWR_TOD_LO_tod_lo
  | PWR_TOD_HI_tod_hi
  | PWR_TOD_HI_tod_valid
  | PWR_CNT_loss
  | PWR_CNT_gasp_cnt
  | PWR_CNT_ref_switch
  | PWR_CNT_ref_lost
  | PWR_THERMAL_baseplate
  | PWR_THERMAL_t_valid
  | PWR_THERMAL_hot
  | PWR_THERMAL_hot_cnt
  | PWR_STRAPS_boot_sel
  | PWR_STRAPS_mod_addr
  | PWR_STRAPS_straps_valid
  | GLB_ID_version
  | GLB_ID_block_id
  | GLB_IDENT_variant
  | GLB_IDENT_part
  | GLB_MAC_mac
  | FEAT_OFFER_offer
  | FEAT_ACCEPT_accept
  | GLB_FEAT_FORCE_force
  | GLB_STATUS_power
  | GLB_STATUS_boot
  | GLB_STATUS_sealed
  | GLB_STATUS_narrow
  | GLB_STATUS_fault_any
  | GLB_STATUS_tamper
  | GLB_SEALED_WRITE_CNT_count
  | GLB_FEAT_DROP_CNT_count
  | GLB_NOT_NEGOTIATED_CNT_count
  | GLB_UNMAPPED_CNT_count
  | EVT_ID_version
  | EVT_ID_block_id
  | TEL_ID_version
  | TEL_ID_block_id
  | EVT_STATUS_head
  | EVT_STATUS_wrapped
  | EVT_PNL_RD_rd
  | EVT_PNL_CFG_sev_min
  | EVT_PNL_CFG_irq_ev
  | EVT_PNL_CFG_irq_rsp
  | EVT_PNL_CNT_pending
  | EVT_PNL_CNT_lost
  | TEL_CFG_tel_on
  | TEL_CFG_tel_period
  | TEL_STATUS_tel_seq
  | TEL_STATUS_tel_words
  | TEL_CNT_tel_drop
  deriving DecidableEq, Repr

/-- A field's place: address of instance 0, instances, their stride, words of the group and their
stride, lowest bit and width; its access code, reset and whether it is an expert field (R74). -/
structure FldInfo where
  base : Nat
  n : Nat
  stride : Nat
  sub : Nat
  sstride : Nat
  lo : Nat
  width : Nat
  acc : Acc
  rst : Rst
  expert : Bool
  deriving DecidableEq, Repr

/-- The tables' rows. -/
def Fld.info : Fld → FldInfo
  | .PNL_RING_IDX_cmd_tail => ⟨0x3e0020, 16, 0x1000, 1, 0, 0, 6, .rw, .val 0, false⟩
  | .PNL_RING_IDX_cmd_head => ⟨0x3e0020, 16, 0x1000, 1, 0, 8, 6, .ro, .val 0, false⟩
  | .PNL_RING_IDX_rsp_tail => ⟨0x3e0020, 16, 0x1000, 1, 0, 16, 6, .ro, .val 0, false⟩
  | .PNL_RING_IDX_rsp_head => ⟨0x3e0020, 16, 0x1000, 1, 0, 24, 6, .rw, .val 0, false⟩
  | .PAT_ID_version => ⟨0x30000, 1, 0x1000, 1, 0, 0, 16, .ro, .val 256, false⟩
  | .PAT_ID_block_id => ⟨0x30000, 1, 0x1000, 1, 0, 16, 16, .ro, .val 3, false⟩
  | .PAT_STATUS_loader_state => ⟨0x30004, 1, 0x1000, 1, 0, 0, 3, .ro, .val 0, false⟩
  | .PAT_STATUS_sealed => ⟨0x30004, 1, 0x1000, 1, 0, 3, 1, .ro, .val 0, false⟩
  | .PAT_STATUS_source => ⟨0x30004, 1, 0x1000, 1, 0, 4, 2, .ro, .val 0, false⟩
  | .PAT_STATUS_last_reject => ⟨0x30004, 1, 0x1000, 1, 0, 8, 8, .ro, .val 0, false⟩
  | .PAT_STATUS_conflict_kind => ⟨0x30004, 1, 0x1000, 1, 0, 16, 8, .ro, .val 0, false⟩
  | .PAT_CONFLICT_A_item => ⟨0x30008, 1, 0x1000, 1, 0, 0, 16, .ro, .val 0, false⟩
  | .PAT_CONFLICT_A_section => ⟨0x30008, 1, 0x1000, 1, 0, 16, 16, .ro, .val 0, false⟩
  | .PAT_CONFLICT_B_item => ⟨0x3000c, 1, 0x1000, 1, 0, 0, 16, .ro, .val 0, false⟩
  | .PAT_CONFLICT_B_section => ⟨0x3000c, 1, 0x1000, 1, 0, 16, 16, .ro, .val 0, false⟩
  | .PAT_CONFLICT_UNIT_unit => ⟨0x30010, 1, 0x1000, 1, 0, 0, 32, .ro, .val 0, false⟩
  | .PAT_REJECT_CNT_rejects => ⟨0x30014, 1, 0x1000, 1, 0, 0, 16, .rc, .val 0, false⟩
  | .PAT_REJECT_CNT_skips => ⟨0x30014, 1, 0x1000, 1, 0, 16, 16, .rc, .val 0, false⟩
  | .CHN_ID_instance => ⟨0x180000, 192, 0x400, 1, 0, 0, 8, .ro, .fuse, false⟩
  | .CHN_ID_version => ⟨0x180000, 192, 0x400, 1, 0, 8, 8, .ro, .val 1, false⟩
  | .CHN_ID_block_id => ⟨0x180000, 192, 0x400, 1, 0, 16, 16, .ro, .val 24, false⟩
  | .CHN_STATUS_state => ⟨0x180004, 192, 0x400, 1, 0, 0, 3, .ro, .val 0, false⟩
  | .CHN_STATUS_role => ⟨0x180004, 192, 0x400, 1, 0, 3, 1, .ro, .pat, false⟩
  | .CHN_STATUS_coupling => ⟨0x180004, 192, 0x400, 1, 0, 4, 2, .ro, .pat, false⟩
  | .CHN_STATUS_profile => ⟨0x180004, 192, 0x400, 1, 0, 6, 2, .ro, .pat, false⟩
  | .CHN_STATUS_fault_cause => ⟨0x180004, 192, 0x400, 1, 0, 8, 4, .ro, .val 0, false⟩
  | .CHN_STATUS_rx_busy => ⟨0x180004, 192, 0x400, 1, 0, 12, 1, .ro, .val 0, false⟩
  | .CHN_STATUS_coupling_pending => ⟨0x180004, 192, 0x400, 1, 0, 13, 1, .ro, .val 0, false⟩
  | .CHN_CFG_link_id => ⟨0x180008, 192, 0x400, 1, 0, 0, 12, .rwp, .pat, false⟩
  | .CHN_CFG_band_plan => ⟨0x180008, 192, 0x400, 1, 0, 12, 4, .rwp, .pat, false⟩
  | .CHN_CFG_ramp_us => ⟨0x180008, 192, 0x400, 1, 0, 16, 4, .rw, .pat, false⟩
  | .CHN_CFG_auto_rearm => ⟨0x180008, 192, 0x400, 1, 0, 20, 1, .rw, .pat, false⟩
  | .CHN_CFG_train_timeout => ⟨0x180008, 192, 0x400, 1, 0, 24, 8, .rw, .pat, false⟩
  | .CHN_TX_LEVEL_tx_atten => ⟨0x18000c, 192, 0x400, 1, 0, 0, 6, .rw, .val 0, false⟩
  | .CHN_TX_LEVEL_papr_limit => ⟨0x18000c, 192, 0x400, 1, 0, 8, 6, .rw, .val 24, true⟩
  | .CHN_DET_CFG_det_thr => ⟨0x180010, 192, 0x400, 1, 0, 0, 6, .rw, .val 12, false⟩
  | .CHN_DET_CFG_qual_thr => ⟨0x180010, 192, 0x400, 1, 0, 8, 8, .rw, .val 192, true⟩
  | .CHN_DET_CFG_agc_target => ⟨0x180010, 192, 0x400, 1, 0, 16, 6, .rw, .val 12, true⟩
  | .CHN_RSSI_rssi => ⟨0x180014, 192, 0x400, 1, 0, 0, 12, .ro, .x, false⟩
  | .CHN_RSSI_rssi_valid => ⟨0x180014, 192, 0x400, 1, 0, 12, 1, .ro, .val 0, false⟩
  | .CHN_RSSI_noise_floor => ⟨0x180014, 192, 0x400, 1, 0, 16, 12, .ro, .x, false⟩
  | .CHN_RSSI_nf_valid => ⟨0x180014, 192, 0x400, 1, 0, 28, 1, .ro, .val 0, false⟩
  | .CHN_SYNC_sync_offset => ⟨0x180018, 192, 0x400, 1, 0, 0, 14, .ro, .x, false⟩
  | .CHN_SYNC_sync_frac => ⟨0x180018, 192, 0x400, 1, 0, 14, 4, .ro, .x, false⟩
  | .CHN_SYNC_sync_valid => ⟨0x180018, 192, 0x400, 1, 0, 18, 1, .ro, .val 0, false⟩
  | .CHN_FREQ_sco_ppm => ⟨0x18001c, 192, 0x400, 1, 0, 0, 16, .ro, .x, false⟩
  | .CHN_FREQ_sco_valid => ⟨0x18001c, 192, 0x400, 1, 0, 16, 1, .ro, .val 0, false⟩
  | .CHN_TX_DISCARD_CNT_discards => ⟨0x180040, 192, 0x400, 1, 0, 0, 16, .rc, .val 0, false⟩
  | .CHN_TX_DISCARD_CNT_ramp_refused => ⟨0x180040, 192, 0x400, 1, 0, 16, 16, .rc, .val 0, false⟩
  | .CHN_RX_DET_CNT_detections => ⟨0x180044, 192, 0x400, 1, 0, 0, 16, .rc, .val 0, false⟩
  | .CHN_RX_DET_CNT_qual_fail => ⟨0x180044, 192, 0x400, 1, 0, 16, 16, .rc, .val 0, false⟩
  | .CHN_RX_FC_CNT_fc_crc_err => ⟨0x180048, 192, 0x400, 1, 0, 0, 16, .rc, .val 0, false⟩
  | .CHN_RX_FC_CNT_fc_foreign => ⟨0x180048, 192, 0x400, 1, 0, 16, 16, .rc, .val 0, false⟩
  | .CHN_RX_ABORT_CNT_preempt => ⟨0x18004c, 192, 0x400, 1, 0, 0, 16, .rc, .val 0, false⟩
  | .CHN_RX_ABORT_CNT_self_det => ⟨0x18004c, 192, 0x400, 1, 0, 16, 16, .rc, .val 0, false⟩
  | .PIPE_ID_instance => ⟨0x100000, 24, 0x1000, 1, 0, 0, 8, .ro, .fuse, false⟩
  | .PIPE_ID_version => ⟨0x100000, 24, 0x1000, 1, 0, 8, 8, .ro, .val 1, false⟩
  | .PIPE_ID_block_id => ⟨0x100000, 24, 0x1000, 1, 0, 16, 16, .ro, .val 16, false⟩
  | .PIPE_STATUS_slice_active => ⟨0x100004, 24, 0x1000, 1, 0, 0, 8, .ro, .val 0, false⟩
  | .PIPE_STATUS_gated => ⟨0x100004, 24, 0x1000, 1, 0, 8, 1, .ro, .val 1, false⟩
  | .PIPE_STATUS_fenced => ⟨0x100004, 24, 0x1000, 1, 0, 9, 1, .ro, .val 0, false⟩
  | .COD_ID_version => ⟨0x200000, 1, 0x1000, 1, 0, 0, 16, .ro, .val 256, false⟩
  | .COD_ID_block_id => ⟨0x200000, 1, 0x1000, 1, 0, 16, 16, .ro, .val 32, false⟩
  | .COD_POOL_STATUS_vit_units => ⟨0x200004, 1, 0x1000, 1, 0, 0, 6, .ro, .fuse, false⟩
  | .COD_POOL_STATUS_ldpc_units => ⟨0x200004, 1, 0x1000, 1, 0, 8, 6, .ro, .fuse, false⟩
  | .COD_CAP_vit_cap => ⟨0x200008, 1, 0x1000, 1, 0, 0, 13, .ro, .x, false⟩
  | .COD_CAP_ldpc_cap => ⟨0x200008, 1, 0x1000, 1, 0, 16, 13, .ro, .x, false⟩
  | .COD_LDPC_CFG_ldpc_iter => ⟨0x20000c, 1, 0x1000, 1, 0, 0, 4, .rw, .val 8, true⟩
  | .COD_DEFER_CNT_defer => ⟨0x200010, 1, 0x1000, 1, 0, 0, 16, .rc, .val 0, false⟩
  | .COD_DEFER_CNT_drop => ⟨0x200010, 1, 0x1000, 1, 0, 16, 16, .rc, .val 0, false⟩
  | .COD_PROT_CNT_prot_late => ⟨0x200014, 1, 0x1000, 1, 0, 0, 16, .rc, .val 0, false⟩
  | .COD_PROT_CNT_dec_borrow => ⟨0x200014, 1, 0x1000, 1, 0, 16, 16, .rc, .val 0, false⟩
  | .CHN_CODE_CFG_li_span => ⟨0x180020, 192, 0x400, 1, 0, 0, 6, .rw, .val 31, false⟩
  | .CHN_CODE_CFG_li_idle => ⟨0x180020, 192, 0x400, 1, 0, 8, 4, .rw, .val 2, false⟩
  | .CHN_CODE_STATUS_li_tx_on => ⟨0x180024, 192, 0x400, 1, 0, 0, 1, .ro, .val 0, false⟩
  | .CHN_CODE_STATUS_li_rx_on => ⟨0x180024, 192, 0x400, 1, 0, 1, 1, .ro, .val 0, false⟩
  | .CHN_CODE_STATUS_li_span_tx => ⟨0x180024, 192, 0x400, 1, 0, 2, 6, .ro, .val 0, false⟩
  | .CHN_CODE_STATUS_li_tx_pos => ⟨0x180024, 192, 0x400, 1, 0, 8, 12, .ro, .val 0, false⟩
  | .CHN_CODE_STATUS_li_rx_pos => ⟨0x180024, 192, 0x400, 1, 0, 20, 12, .ro, .val 0, false⟩
  | .CHN_CODE_CNT_li_resync => ⟨0x180050, 192, 0x400, 1, 0, 0, 8, .rc, .val 0, false⟩
  | .CHN_CODE_CNT_li_stamp_err => ⟨0x180050, 192, 0x400, 1, 0, 8, 8, .rc, .val 0, false⟩
  | .CHN_CODE_CNT_cw_fail => ⟨0x180050, 192, 0x400, 1, 0, 16, 16, .rc, .val 0, false⟩
  | .CHN_CHISEL_CNT_blanked => ⟨0x180054, 192, 0x400, 1, 0, 0, 16, .rc, .val 0, false⟩
  | .CHN_CHISEL_CNT_sym_erased => ⟨0x180054, 192, 0x400, 1, 0, 16, 16, .rc, .val 0, false⟩
  | .CHN_STEP_CNT_step_det => ⟨0x180058, 192, 0x400, 1, 0, 0, 16, .rc, .val 0, false⟩
  | .CHN_STEP_CNT_step_armed => ⟨0x180058, 192, 0x400, 1, 0, 16, 16, .rc, .val 0, false⟩
  | .CHN_TM_CNT_map_sent => ⟨0x18005c, 192, 0x400, 1, 0, 0, 8, .rc, .val 0, false⟩
  | .CHN_TM_CNT_map_rcvd => ⟨0x18005c, 192, 0x400, 1, 0, 8, 8, .rc, .val 0, false⟩
  | .CHN_TM_CNT_invalidations => ⟨0x18005c, 192, 0x400, 1, 0, 16, 8, .rc, .val 0, false⟩
  | .CHN_TM_CNT_tm_reject => ⟨0x18005c, 192, 0x400, 1, 0, 24, 8, .rc, .val 0, false⟩
  | .CHN_ADAPT_CFG_tm_margin => ⟨0x180060, 192, 0x400, 1, 0, 0, 6, .rw, .val 12, false⟩
  | .CHN_ADAPT_CFG_prot_margin => ⟨0x180060, 192, 0x400, 1, 0, 8, 6, .rw, .val 24, false⟩
  | .CHN_ADAPT_CFG_imp_mode => ⟨0x180060, 192, 0x400, 1, 0, 14, 1, .rw, .val 0, false⟩
  | .CHN_ADAPT_CFG_nse_shift => ⟨0x180060, 192, 0x400, 1, 0, 16, 4, .rw, .val 4, true⟩
  | .CHN_ADAPT_CFG_tm_holdoff => ⟨0x180060, 192, 0x400, 1, 0, 20, 4, .rw, .val 4, false⟩
  | .CHN_ADAPT_CFG_tm_delta => ⟨0x180060, 192, 0x400, 1, 0, 24, 8, .rw, .val 10, false⟩
  | .CHN_ADAPT_CFG2_tm_refresh => ⟨0x180064, 192, 0x400, 1, 0, 0, 16, .rw, .val 3000, false⟩
  | .CHN_ADAPT_CFG2_sound_n => ⟨0x180064, 192, 0x400, 1, 0, 16, 4, .rw, .val 8, false⟩
  | .CHN_ADAPT_CFG2_erase_db => ⟨0x180064, 192, 0x400, 1, 0, 20, 4, .rw, .val 6, true⟩
  | .CHN_CHISEL_CFG_chisel_thr => ⟨0x180068, 192, 0x400, 1, 0, 0, 6, .rw, .val 44, false⟩
  | .CHN_CHISEL_CFG_chisel_pre => ⟨0x180068, 192, 0x400, 1, 0, 8, 6, .rw, .val 8, true⟩
  | .CHN_CHISEL_CFG_chisel_post => ⟨0x180068, 192, 0x400, 1, 0, 16, 8, .rw, .val 48, true⟩
  | .CHN_CHISEL_CFG_chisel_max => ⟨0x180068, 192, 0x400, 1, 0, 24, 6, .rw, .val 16, false⟩
  | .CHN_STEP_CFG_step_thr => ⟨0x18006c, 192, 0x400, 1, 0, 0, 6, .rw, .val 24, false⟩
  | .CHN_STEP_CFG_step_thr_armed => ⟨0x18006c, 192, 0x400, 1, 0, 8, 6, .rw, .val 36, false⟩
  | .CHN_STEP_CFG_blank_arm => ⟨0x18006c, 192, 0x400, 1, 0, 16, 4, .rw, .val 0, false⟩
  | .CHN_STEP_CFG_arm_ms => ⟨0x18006c, 192, 0x400, 1, 0, 24, 8, .rw, .val 20, false⟩
  | .CHN_TM_STATUS_rx_valid => ⟨0x180070, 192, 0x400, 1, 0, 0, 8, .ro, .val 0, false⟩
  | .CHN_TM_STATUS_tx_valid => ⟨0x180070, 192, 0x400, 1, 0, 8, 8, .ro, .val 0, false⟩
  | .CHN_TM_STATUS_tx_general => ⟨0x180070, 192, 0x400, 1, 0, 16, 3, .ro, .val 0, false⟩
  | .CHN_TM_STATUS_tx_protect => ⟨0x180070, 192, 0x400, 1, 0, 20, 3, .ro, .val 0, false⟩
  | .CHN_TM_STATUS_fallback => ⟨0x180070, 192, 0x400, 1, 0, 23, 1, .ro, .val 0, false⟩
  | .CHN_TM_STATUS_imp_chisel => ⟨0x180070, 192, 0x400, 1, 0, 24, 1, .ro, .val 0, false⟩
  | .CHN_TM_STATUS_imp_li => ⟨0x180070, 192, 0x400, 1, 0, 25, 1, .ro, .val 0, false⟩
  | .CHN_TM_STATUS_imp_none => ⟨0x180070, 192, 0x400, 1, 0, 26, 1, .ro, .val 0, false⟩
  | .CHN_TM_STATUS_step_active => ⟨0x180070, 192, 0x400, 1, 0, 27, 1, .ro, .val 0, false⟩
  | .CHN_TM_STATUS_armed => ⟨0x180070, 192, 0x400, 1, 0, 28, 1, .ro, .val 0, false⟩
  | .CHN_SNR_snr_mean => ⟨0x180074, 192, 0x400, 1, 0, 0, 12, .ro, .x, false⟩
  | .CHN_SNR_snr_valid => ⟨0x180074, 192, 0x400, 1, 0, 12, 1, .ro, .val 0, false⟩
  | .CHN_SNR_min_margin => ⟨0x180074, 192, 0x400, 1, 0, 16, 12, .ro, .x, false⟩
  | .CHN_CARRIER_SEL_carrier => ⟨0x180078, 192, 0x400, 1, 0, 0, 12, .rw, .val 74, false⟩
  | .CHN_CARRIER_DATA_snr => ⟨0x18007c, 192, 0x400, 1, 0, 0, 12, .ro, .x, false⟩
  | .CHN_CARRIER_DATA_bits_rx => ⟨0x18007c, 192, 0x400, 1, 0, 12, 4, .ro, .val 0, false⟩
  | .CHN_CARRIER_DATA_bits_tx => ⟨0x18007c, 192, 0x400, 1, 0, 16, 4, .ro, .val 0, false⟩
  | .CHN_CARRIER_DATA_pilot => ⟨0x18007c, 192, 0x400, 1, 0, 20, 1, .ro, .val 0, false⟩
  | .CHN_CARRIER_DATA_notched => ⟨0x18007c, 192, 0x400, 1, 0, 21, 1, .ro, .val 0, false⟩
  | .CHN_CARRIER_DATA_valid => ⟨0x18007c, 192, 0x400, 1, 0, 22, 1, .ro, .val 0, false⟩
  | .CHN_SOUND_CNT_sound_rx => ⟨0x180080, 192, 0x400, 1, 0, 0, 16, .rc, .val 0, false⟩
  | .CHN_SOUND_CNT_sound_timeout => ⟨0x180080, 192, 0x400, 1, 0, 16, 16, .rc, .val 0, false⟩
  | .OLA_ID_version => ⟨0x240000, 1, 0x1000, 1, 0, 0, 16, .ro, .val 256, false⟩
  | .OLA_ID_block_id => ⟨0x240000, 1, 0x1000, 1, 0, 16, 16, .ro, .val 36, false⟩
  | .OLA_STATUS_next_on => ⟨0x240004, 1, 0x1000, 1, 0, 0, 1, .ro, .val 0, false⟩
  | .OLA_STATUS_fext_on => ⟨0x240004, 1, 0x1000, 1, 0, 1, 1, .ro, .val 0, false⟩
  | .OLA_STATUS_prec_on => ⟨0x240004, 1, 0x1000, 1, 0, 2, 1, .ro, .val 0, false⟩
  | .OLA_STATUS_self_on => ⟨0x240004, 1, 0x1000, 1, 0, 3, 1, .ro, .val 0, false⟩
  | .OLA_STATUS_fenced => ⟨0x240004, 1, 0x1000, 1, 0, 4, 1, .ro, .val 0, false⟩
  | .OLA_STATUS_upd_phase => ⟨0x240004, 1, 0x1000, 1, 0, 5, 3, .ro, .val 0, false⟩
  | .OLA_STATUS_sync_t => ⟨0x240004, 1, 0x1000, 1, 0, 8, 6, .ro, .val 0, false⟩
  | .OLA_STATUS_dsync_t => ⟨0x240004, 1, 0x1000, 1, 0, 16, 6, .ro, .val 0, false⟩
  | .OLA_CLASS_BASE_base => ⟨0x240010, 1, 0x1000, 3, 4, 0, 24, .ro, .pat, false⟩
  | .OLA_CLASS_DIM_victims => ⟨0x240020, 1, 0x1000, 3, 4, 0, 8, .ro, .pat, false⟩
  | .OLA_CLASS_DIM_nd => ⟨0x240020, 1, 0x1000, 3, 4, 8, 7, .ro, .pat, false⟩
  | .OLA_LEARN_CFG_next_mu => ⟨0x240030, 1, 0x1000, 1, 0, 0, 4, .rw, .val 4, true⟩
  | .OLA_LEARN_CFG_fext_mu => ⟨0x240030, 1, 0x1000, 1, 0, 4, 4, .rw, .val 3, true⟩
  | .OLA_LEARN_CFG_prec_mu => ⟨0x240030, 1, 0x1000, 1, 0, 8, 4, .rw, .val 3, true⟩
  | .OLA_LEARN_CFG_div_n => ⟨0x240030, 1, 0x1000, 1, 0, 16, 8, .rw, .val 16, false⟩
  | .OLA_LEARN_MIN_next_min => ⟨0x240034, 1, 0x1000, 1, 0, 0, 8, .rw, .val 32, false⟩
  | .OLA_LEARN_MIN_fext_min => ⟨0x240034, 1, 0x1000, 1, 0, 8, 8, .rw, .val 64, false⟩
  | .OLA_LEARN_MIN_prec_min => ⟨0x240034, 1, 0x1000, 1, 0, 16, 8, .rw, .val 64, false⟩
  | .OLA_HOLD0_next_hold => ⟨0x240038, 1, 0x1000, 1, 0, 0, 16, .rw, .val 3000, false⟩
  | .OLA_HOLD0_fext_hold => ⟨0x240038, 1, 0x1000, 1, 0, 16, 16, .rw, .val 256, false⟩
  | .OLA_HOLD1_prec_hold => ⟨0x24003c, 1, 0x1000, 1, 0, 0, 16, .rw, .val 256, false⟩
  | .OLA_SYNC_CFG_sync_period => ⟨0x240040, 1, 0x1000, 1, 0, 0, 4, .rwp, .val 0, false⟩
  | .OLA_SYNC_CFG_next_span => ⟨0x240040, 1, 0x1000, 1, 0, 8, 4, .rwp, .val 3, false⟩
  | .OLA_SYNC_CFG_err_deadline => ⟨0x240040, 1, 0x1000, 1, 0, 16, 4, .rw, .val 4, false⟩
  | .OLA_SYNC_CFG_prec_clip => ⟨0x240040, 1, 0x1000, 1, 0, 24, 6, .rw, .val 12, false⟩
  | .OLA_DIV_CNT_diverge => ⟨0x240050, 1, 0x1000, 1, 0, 0, 16, .rc, .val 0, false⟩
  | .OLA_DIV_CNT_ecc_drop => ⟨0x240050, 1, 0x1000, 1, 0, 16, 16, .rc, .val 0, false⟩
  | .OLA_LOSS_CNT_loss_erase => ⟨0x240054, 1, 0x1000, 1, 0, 0, 16, .rc, .val 0, false⟩
  | .OLA_LOSS_CNT_next_unsafe => ⟨0x240054, 1, 0x1000, 1, 0, 16, 16, .rc, .val 0, false⟩
  | .OLA_ERR_CNT_err_used => ⟨0x240058, 1, 0x1000, 1, 0, 0, 16, .rc, .val 0, false⟩
  | .OLA_ERR_CNT_err_stale => ⟨0x240058, 1, 0x1000, 1, 0, 16, 16, .rc, .val 0, false⟩
  | .OLA_PAIRS_active => ⟨0x240060, 1, 0x1000, 3, 4, 0, 14, .ro, .val 0, false⟩
  | .OLA_PAIRS_learning => ⟨0x240060, 1, 0x1000, 3, 4, 16, 14, .ro, .val 0, false⟩
  | .CHN_OLA_LOCK_delta => ⟨0x180090, 192, 0x400, 1, 0, 0, 18, .ro, .x, false⟩
  | .CHN_OLA_LOCK_locked => ⟨0x180090, 192, 0x400, 1, 0, 18, 1, .ro, .val 0, false⟩
  | .CHN_OLA_LOCK_lock_valid => ⟨0x180090, 192, 0x400, 1, 0, 19, 1, .ro, .val 0, false⟩
  | .CHN_OLA_STATUS_sync_part => ⟨0x180094, 192, 0x400, 1, 0, 0, 1, .ro, .val 0, false⟩
  | .CHN_OLA_STATUS_err_rx => ⟨0x180094, 192, 0x400, 1, 0, 1, 1, .ro, .val 0, false⟩
  | .CHN_OLA_STATUS_next_div => ⟨0x180094, 192, 0x400, 1, 0, 2, 1, .w1c, .val 0, false⟩
  | .CHN_OLA_STATUS_fext_div => ⟨0x180094, 192, 0x400, 1, 0, 3, 1, .w1c, .val 0, false⟩
  | .CHN_OLA_STATUS_prec_div => ⟨0x180094, 192, 0x400, 1, 0, 4, 1, .w1c, .val 0, false⟩
  | .CHN_OLA_STATUS_dup_ok => ⟨0x180094, 192, 0x400, 1, 0, 8, 7, .ro, .val 0, false⟩
  | .CHN_OLA_CNT_prec_clipped => ⟨0x180098, 192, 0x400, 1, 0, 0, 16, .rc, .val 0, false⟩
  | .CHN_OLA_CNT_gl_miss => ⟨0x180098, 192, 0x400, 1, 0, 16, 16, .rc, .val 0, false⟩
  | .HEM_ID_version => ⟨0x280000, 1, 0x1000, 1, 0, 0, 16, .ro, .val 256, false⟩
  | .HEM_ID_block_id => ⟨0x280000, 1, 0x1000, 1, 0, 16, 16, .ro, .val 40, false⟩
  | .HEM_STATUS_src_state => ⟨0x280004, 1, 0x1000, 1, 0, 0, 2, .ro, .val 0, false⟩
  | .HEM_STATUS_supply_valid => ⟨0x280004, 1, 0x1000, 1, 0, 2, 1, .ro, .val 0, false⟩
  | .HEM_STATUS_gauge_valid => ⟨0x280004, 1, 0x1000, 1, 0, 3, 1, .ro, .val 0, false⟩
  | .HEM_STATUS_hem_seq => ⟨0x280004, 1, 0x1000, 1, 0, 8, 24, .ro, .val 0, false⟩
  | .HEM_REF_CFG_ref_src => ⟨0x280008, 1, 0x1000, 1, 0, 0, 2, .rwp, .pat, false⟩
  | .HEM_REF_CFG_nominal => ⟨0x280008, 1, 0x1000, 1, 0, 2, 1, .rwp, .pat, false⟩
  | .HEM_REF_CFG_ref_line => ⟨0x280008, 1, 0x1000, 1, 0, 3, 2, .rwp, .pat, false⟩
  | .HEM_REF_CFG_ref_chan => ⟨0x280008, 1, 0x1000, 1, 0, 8, 8, .rwp, .pat, false⟩
  | .HEM_REF_CFG_slew => ⟨0x280008, 1, 0x1000, 1, 0, 16, 16, .rw, .pat, true⟩
  | .HEM_PERIOD_p_cur => ⟨0x28000c, 1, 0x1000, 1, 0, 0, 23, .ro, .x, false⟩
  | .HEM_FILTER_pf => ⟨0x280010, 1, 0x1000, 1, 0, 0, 23, .ro, .x, false⟩
  | .HEM_PHASE_ERR_err => ⟨0x280014, 1, 0x1000, 1, 0, 0, 24, .ro, .x, false⟩
  | .HEM_PHASE_ERR_err_valid => ⟨0x280014, 1, 0x1000, 1, 0, 24, 1, .ro, .val 0, false⟩
  | .HEM_REF_OFS_supply_ofs => ⟨0x280018, 1, 0x1000, 1, 0, 0, 16, .rwp, .pat, false⟩
  | .HEM_SRC_CNT_src_loss => ⟨0x28001c, 1, 0x1000, 1, 0, 0, 16, .rc, .val 0, false⟩
  | .HEM_SRC_CNT_src_switch => ⟨0x28001c, 1, 0x1000, 1, 0, 16, 16, .rc, .val 0, false⟩
  | .CHN_HEM_STATUS_theta => ⟨0x1800a0, 192, 0x400, 1, 0, 0, 16, .ro, .x, false⟩
  | .CHN_HEM_STATUS_theta_valid => ⟨0x1800a0, 192, 0x400, 1, 0, 16, 1, .ro, .val 0, false⟩
  | .CHN_HEM_STATUS_win_type => ⟨0x1800a0, 192, 0x400, 1, 0, 17, 3, .ro, .val 3, false⟩
  | .CHN_HEM_STATUS_bcn_ok => ⟨0x1800a0, 192, 0x400, 1, 0, 20, 1, .ro, .val 0, false⟩
  | .CHN_HEM_OFS_delta_m => ⟨0x1800a4, 192, 0x400, 1, 0, 0, 16, .ro, .x, false⟩
  | .CHN_HEM_OFS_delta_valid => ⟨0x1800a4, 192, 0x400, 1, 0, 16, 1, .ro, .val 0, false⟩
  | .CHN_ACCESS_CFG_cw_min0 => ⟨0x1800a8, 192, 0x400, 1, 0, 0, 2, .rw, .val 2, false⟩
  | .CHN_ACCESS_CFG_cw_max0 => ⟨0x1800a8, 192, 0x400, 1, 0, 2, 2, .rw, .val 3, false⟩
  | .CHN_ACCESS_CFG_cw_min1 => ⟨0x1800a8, 192, 0x400, 1, 0, 4, 2, .rw, .val 1, false⟩
  | .CHN_ACCESS_CFG_cw_max1 => ⟨0x1800a8, 192, 0x400, 1, 0, 6, 2, .rw, .val 3, false⟩
  | .CHN_ACCESS_CFG_cw_min2 => ⟨0x1800a8, 192, 0x400, 1, 0, 8, 2, .rw, .val 0, false⟩
  | .CHN_ACCESS_CFG_cw_max2 => ⟨0x1800a8, 192, 0x400, 1, 0, 10, 2, .rw, .val 2, false⟩
  | .CHN_ACCESS_CNT_no_ack => ⟨0x1800ac, 192, 0x400, 1, 0, 0, 16, .rc, .val 0, false⟩
  | .CHN_ACCESS_CNT_prs_defer => ⟨0x1800ac, 192, 0x400, 1, 0, 16, 16, .rc, .val 0, false⟩
  | .CHN_SCHED_CNT_dup_defer => ⟨0x1800b0, 192, 0x400, 1, 0, 0, 8, .rc, .val 0, false⟩
  | .CHN_SCHED_CNT_ledger_defer => ⟨0x1800b0, 192, 0x400, 1, 0, 8, 8, .rc, .val 0, false⟩
  | .CHN_SCHED_CNT_bcn_conflict => ⟨0x1800b0, 192, 0x400, 1, 0, 16, 8, .rc, .val 0, false⟩
  | .CHN_SCHED_CNT_bcn_miss => ⟨0x1800b0, 192, 0x400, 1, 0, 24, 8, .rc, .val 0, false⟩
  | .CHN_LEDGER_STATUS_masked => ⟨0x1800b4, 192, 0x400, 1, 0, 0, 16, .ro, .val 0, false⟩
  | .CHN_LEDGER_STATUS_defined => ⟨0x1800b4, 192, 0x400, 1, 0, 16, 16, .ro, .pat, false⟩
  | .CHN_LEDGER_SEL_segment => ⟨0x1800b8, 192, 0x400, 1, 0, 0, 4, .rw, .val 0, false⟩
  | .CHN_LEDGER_DATA_occ => ⟨0x1800bc, 192, 0x400, 1, 0, 0, 11, .ro, .x, false⟩
  | .CHN_LEDGER_DATA_valid => ⟨0x1800bc, 192, 0x400, 1, 0, 11, 1, .ro, .val 0, false⟩
  | .DLV_ID_version => ⟨0x2c0000, 1, 0x1000, 1, 0, 0, 16, .ro, .val 256, false⟩
  | .DLV_ID_block_id => ⟨0x2c0000, 1, 0x1000, 1, 0, 16, 16, .ro, .val 44, false⟩
  | .DLV_DESC_desc_free => ⟨0x2c0004, 1, 0x1000, 1, 0, 0, 19, .ro, .x, false⟩
  | .DLV_DESC_narrow => ⟨0x2c0004, 1, 0x1000, 1, 0, 19, 1, .ro, .val 0, false⟩
  | .DLV_DESC_PROT_prot_free => ⟨0x2c0008, 1, 0x1000, 1, 0, 0, 15, .ro, .x, false⟩
  | .DLV_INFLIGHT_if_free => ⟨0x2c000c, 1, 0x1000, 1, 0, 0, 13, .ro, .x, false⟩
  | .DLV_INFLIGHT_prot_if_free => ⟨0x2c000c, 1, 0x1000, 1, 0, 16, 11, .ro, .x, false⟩
  | .DLV_SEEN_seen_used => ⟨0x2c0010, 1, 0x1000, 1, 0, 0, 19, .ro, .val 0, false⟩
  | .DLV_CFG_abandon_ms => ⟨0x2c0014, 1, 0x1000, 1, 0, 0, 16, .rw, .pat, false⟩
  | .DLV_CFG_prot_abandon_ms => ⟨0x2c0014, 1, 0x1000, 1, 0, 16, 16, .rw, .pat, false⟩
  | .DLV_CFG2_retx_max => ⟨0x2c0018, 1, 0x1000, 1, 0, 0, 4, .rw, .pat, false⟩
  | .DLV_CFG2_window => ⟨0x2c0018, 1, 0x1000, 1, 0, 4, 7, .rw, .pat, false⟩
  | .DLV_CFG2_seen_life => ⟨0x2c0018, 1, 0x1000, 1, 0, 16, 6, .rw, .pat, false⟩
  | .DLV_CFG2_flood_ttl => ⟨0x2c0018, 1, 0x1000, 1, 0, 24, 4, .rw, .pat, false⟩
  | .DLV_CFG2_flood_rep => ⟨0x2c0018, 1, 0x1000, 1, 0, 28, 2, .rw, .pat, false⟩
  | .DLV_TX_CNT_retx => ⟨0x2c0040, 1, 0x1000, 1, 0, 0, 16, .rc, .val 0, false⟩
  | .DLV_TX_CNT_abandon => ⟨0x2c0040, 1, 0x1000, 1, 0, 16, 16, .rc, .val 0, false⟩
  | .DLV_RX_CNT_dup => ⟨0x2c0044, 1, 0x1000, 1, 0, 0, 16, .rc, .val 0, false⟩
  | .DLV_RX_CNT_out_win => ⟨0x2c0044, 1, 0x1000, 1, 0, 16, 16, .rc, .val 0, false⟩
  | .DLV_RX_CNT2_skip => ⟨0x2c0048, 1, 0x1000, 1, 0, 0, 8, .rc, .val 0, false⟩
  | .DLV_RX_CNT2_rx_nodesc => ⟨0x2c0048, 1, 0x1000, 1, 0, 8, 8, .rc, .val 0, false⟩
  | .DLV_RX_CNT2_rx_drop => ⟨0x2c0048, 1, 0x1000, 1, 0, 16, 8, .rc, .val 0, false⟩
  | .DLV_RX_CNT2_peer_full => ⟨0x2c0048, 1, 0x1000, 1, 0, 24, 8, .rc, .val 0, false⟩
  | .DLV_EP_CNT_ep_unknown => ⟨0x2c004c, 1, 0x1000, 1, 0, 0, 16, .rc, .val 0, false⟩
  | .DLV_EP_CNT_ep_denied => ⟨0x2c004c, 1, 0x1000, 1, 0, 16, 16, .rc, .val 0, false⟩
  | .DLV_FLOOD_CNT_flood_dup => ⟨0x2c0050, 1, 0x1000, 1, 0, 0, 16, .rc, .val 0, false⟩
  | .DLV_FLOOD_CNT_ttl_end => ⟨0x2c0050, 1, 0x1000, 1, 0, 16, 8, .rc, .val 0, false⟩
  | .DLV_FLOOD_CNT_seen_evict => ⟨0x2c0050, 1, 0x1000, 1, 0, 24, 8, .rc, .val 0, false⟩
  | .DLV_MISC_CNT_late_ack => ⟨0x2c0054, 1, 0x1000, 1, 0, 0, 8, .rc, .val 0, false⟩
  | .DLV_MISC_CNT_leak => ⟨0x2c0054, 1, 0x1000, 1, 0, 8, 8, .rc, .val 0, false⟩
  | .DLV_MISC_CNT_flood_nodesc => ⟨0x2c0054, 1, 0x1000, 1, 0, 16, 8, .rc, .val 0, false⟩
  | .DLV_MISC_CNT_if_wait => ⟨0x2c0054, 1, 0x1000, 1, 0, 24, 8, .rc, .val 0, false⟩
  | .DRM_ID_version => ⟨0x300000, 1, 0x1000, 1, 0, 0, 16, .ro, .val 256, false⟩
  | .DRM_ID_block_id => ⟨0x300000, 1, 0x1000, 1, 0, 16, 16, .ro, .val 48, false⟩
  | .DRM_STATUS_rec_used => ⟨0x300004, 1, 0x1000, 1, 0, 0, 13, .ro, .val 0, false⟩
  | .DRM_STATUS_narrow => ⟨0x300004, 1, 0x1000, 1, 0, 13, 1, .ro, .val 0, false⟩
  | .DRM_CFG_drift_shift => ⟨0x300008, 1, 0x1000, 1, 0, 0, 4, .rw, .pat, true⟩
  | .DRM_CFG_unc_floor => ⟨0x300008, 1, 0x1000, 1, 0, 8, 8, .rw, .pat, true⟩
  | .DRM_CFG_tone_tries => ⟨0x300008, 1, 0x1000, 1, 0, 16, 4, .rw, .pat, false⟩
  | .DRM_REC_SEL_record => ⟨0x300010, 1, 0x1000, 1, 0, 0, 12, .rw, .val 0, false⟩
  | .DRM_REC_DATA0_state => ⟨0x300014, 1, 0x1000, 1, 0, 0, 3, .ro, .val 0, false⟩
  | .DRM_REC_DATA0_channel => ⟨0x300014, 1, 0x1000, 1, 0, 3, 8, .ro, .x, false⟩
  | .DRM_REC_DATA0_misses => ⟨0x300014, 1, 0x1000, 1, 0, 11, 4, .ro, .x, false⟩
  | .DRM_REC_DATA0_group => ⟨0x300014, 1, 0x1000, 1, 0, 15, 4, .ro, .x, false⟩
  | .DRM_REC_DATA0_carrier => ⟨0x300014, 1, 0x1000, 1, 0, 19, 3, .ro, .x, false⟩
  | .DRM_REC_DATA1_addr => ⟨0x300018, 1, 0x1000, 1, 0, 0, 16, .ro, .x, false⟩
  | .DRM_REC_DATA1_period => ⟨0x300018, 1, 0x1000, 1, 0, 16, 16, .ro, .x, false⟩
  | .DRM_REC_DATA2_drift => ⟨0x30001c, 1, 0x1000, 1, 0, 0, 32, .ro, .x, false⟩
  | .DRM_REC_DATA3_bound => ⟨0x300020, 1, 0x1000, 1, 0, 0, 32, .ro, .x, false⟩
  | .DRM_RDV_CNT_rdv_kept => ⟨0x300040, 1, 0x1000, 1, 0, 0, 16, .rc, .val 0, false⟩
  | .DRM_RDV_CNT_rdv_miss => ⟨0x300040, 1, 0x1000, 1, 0, 16, 16, .rc, .val 0, false⟩
  | .DRM_TONE_CNT_tones => ⟨0x300044, 1, 0x1000, 1, 0, 0, 16, .rc, .val 0, false⟩
  | .DRM_TONE_CNT_tone_wake => ⟨0x300044, 1, 0x1000, 1, 0, 16, 16, .rc, .val 0, false⟩
  | .DRM_MISC_CNT_rec_full => ⟨0x300048, 1, 0x1000, 1, 0, 0, 8, .rc, .val 0, false⟩
  | .DRM_MISC_CNT_ws_unknown => ⟨0x300048, 1, 0x1000, 1, 0, 8, 8, .rc, .val 0, false⟩
  | .DRM_MISC_CNT_tone_defer => ⟨0x300048, 1, 0x1000, 1, 0, 16, 8, .rc, .val 0, false⟩
  | .DRM_MISC_CNT_lost => ⟨0x300048, 1, 0x1000, 1, 0, 24, 8, .rc, .val 0, false⟩
  | .TIM_ID_version => ⟨0x340000, 1, 0x1000, 1, 0, 0, 16, .ro, .val 256, false⟩
  | .TIM_ID_block_id => ⟨0x340000, 1, 0x1000, 1, 0, 16, 16, .ro, .val 52, false⟩
  | .TIM_TICK_tick => ⟨0x340008, 1, 0x1000, 2, 4, 0, 32, .ro, .val 0, false⟩
  | .TIM_EP_BOARD_board_rx => ⟨0x340010, 1, 0x1000, 2, 4, 0, 16, .rw, .val 0, false⟩
  | .TIM_EP_BOARD_board_tx => ⟨0x340010, 1, 0x1000, 2, 4, 16, 16, .rw, .val 0, false⟩
  | .TIM_EP_LAT_rx_lat => ⟨0x340018, 1, 0x1000, 2, 4, 0, 16, .ro, .fuse, false⟩
  | .TIM_EP_LAT_tx_lat => ⟨0x340018, 1, 0x1000, 2, 4, 16, 16, .ro, .fuse, false⟩
  | .TIM_EP_DELAY_delay => ⟨0x340020, 1, 0x1000, 2, 4, 0, 24, .ro, .x, false⟩
  | .TIM_EP_DELAY_valid => ⟨0x340020, 1, 0x1000, 2, 4, 24, 1, .ro, .val 0, false⟩
  | .TIM_PTP_CNT_ts_suspect => ⟨0x340040, 1, 0x1000, 1, 0, 0, 16, .rc, .val 0, false⟩
  | .TIM_PTP_CNT_loop_drop => ⟨0x340040, 1, 0x1000, 1, 0, 16, 16, .rc, .val 0, false⟩
  | .TIM_PTP_CNT2_late => ⟨0x340044, 1, 0x1000, 1, 0, 0, 8, .rc, .val 0, false⟩
  | .TIM_PTP_CNT2_far => ⟨0x340044, 1, 0x1000, 1, 0, 8, 8, .rc, .val 0, false⟩
  | .TIM_PTP_CNT2_no_pdelay => ⟨0x340044, 1, 0x1000, 1, 0, 16, 8, .rc, .val 0, false⟩
  | .TIM_PTP_CNT2_unsupported => ⟨0x340044, 1, 0x1000, 1, 0, 24, 8, .rc, .val 0, false⟩
  | .TIM_TB_CFG_role => ⟨0x340100, 8, 0x40, 1, 0, 0, 3, .ro, .pat, false⟩
  | .TIM_TB_CFG_domain => ⟨0x340100, 8, 0x40, 1, 0, 8, 8, .ro, .pat, false⟩
  | .TIM_TB_CFG_lock_ns => ⟨0x340100, 8, 0x40, 1, 0, 16, 16, .rw, .pat, false⟩
  | .TIM_TB_STATUS_tb_state => ⟨0x340104, 8, 0x40, 1, 0, 0, 3, .ro, .val 0, false⟩
  | .TIM_TB_STATUS_qualified => ⟨0x340104, 8, 0x40, 1, 0, 3, 1, .ro, .val 0, false⟩
  | .TIM_TB_STATUS_gm_class => ⟨0x340104, 8, 0x40, 1, 0, 8, 8, .ro, .x, false⟩
  | .TIM_TB_STATUS_ho_s => ⟨0x340104, 8, 0x40, 1, 0, 16, 16, .ro, .val 0, false⟩
  | .TIM_TB_TIME_time => ⟨0x340108, 8, 0x40, 3, 4, 0, 32, .ro, .x, false⟩
  | .TIM_TB_RATE_rate => ⟨0x340114, 8, 0x40, 1, 0, 0, 32, .ro, .val 0, false⟩
  | .TIM_TB_OFFSET_theta => ⟨0x340118, 8, 0x40, 1, 0, 0, 32, .ro, .x, false⟩
  | .TIM_TB_SERVO_kp => ⟨0x34011c, 8, 0x40, 1, 0, 0, 16, .rw, .pat, true⟩
  | .TIM_TB_SERVO_ki => ⟨0x34011c, 8, 0x40, 1, 0, 16, 16, .rw, .pat, true⟩
  | .TIM_TB_STEP_step_ns => ⟨0x340120, 8, 0x40, 1, 0, 0, 32, .rw, .pat, true⟩
  | .TIM_TB_CNT_steps => ⟨0x340124, 8, 0x40, 1, 0, 0, 16, .rc, .val 0, false⟩
  | .TIM_TB_CNT_offsets => ⟨0x340124, 8, 0x40, 1, 0, 16, 16, .rc, .val 0, false⟩
  | .TIM_PAIR_STATUS_on_secondary => ⟨0x340300, 4, 0x10, 1, 0, 0, 1, .ro, .val 0, false⟩
  | .TIM_PAIR_STATUS_slewing => ⟨0x340300, 4, 0x10, 1, 0, 1, 1, .ro, .val 0, false⟩
  | .TIM_PAIR_STATUS_switches => ⟨0x340300, 4, 0x10, 1, 0, 8, 8, .rc, .val 0, false⟩
  | .TIM_PAIR_PHI_phi => ⟨0x340304, 4, 0x10, 1, 0, 0, 32, .ro, .val 0, false⟩
  | .CHN_PTP_DELAY_delay => ⟨0x1800c0, 192, 0x400, 1, 0, 0, 24, .ro, .x, false⟩
  | .CHN_PTP_DELAY_valid => ⟨0x1800c0, 192, 0x400, 1, 0, 24, 1, .ro, .val 0, false⟩
  | .CHN_PTP_DELAY_tc_port => ⟨0x1800c0, 192, 0x400, 1, 0, 25, 1, .ro, .pat, false⟩
  | .HLK_ID_instance => ⟨0x80000, 8, 0x2000, 1, 0, 0, 8, .ro, .fuse, false⟩
  | .HLK_ID_version => ⟨0x80000, 8, 0x2000, 1, 0, 8, 8, .ro, .val 1, false⟩
  | .HLK_ID_block_id => ⟨0x80000, 8, 0x2000, 1, 0, 16, 16, .ro, .val 8, false⟩
  | .HLK_STATUS_state => ⟨0x80004, 8, 0x2000, 1, 0, 0, 3, .ro, .val 0, false⟩
  | .HLK_STATUS_cause => ⟨0x80004, 8, 0x2000, 1, 0, 3, 4, .ro, .val 0, false⟩
  | .HLK_STATUS_gated => ⟨0x80004, 8, 0x2000, 1, 0, 7, 1, .ro, .val 0, false⟩
  | .HLK_CFG_asym => ⟨0x80008, 8, 0x2000, 1, 0, 0, 16, .rw, .val 0, false⟩
  | .HLK_CFG_drift_allow => ⟨0x80008, 8, 0x2000, 1, 0, 16, 8, .rw, .val 20, false⟩
  | .HLK_RTT_rtt => ⟨0x8000c, 8, 0x2000, 1, 0, 0, 20, .ro, .x, false⟩
  | .HLK_RTT_rtt_valid => ⟨0x8000c, 8, 0x2000, 1, 0, 20, 1, .ro, .val 0, false⟩
  | .HLK_DELAY_d_adv => ⟨0x80010, 8, 0x2000, 1, 0, 0, 12, .ro, .x, false⟩
  | .HLK_DELAY_u_cal => ⟨0x80010, 8, 0x2000, 1, 0, 16, 12, .ro, .x, false⟩
  | .HLK_DELAY_d_valid => ⟨0x80010, 8, 0x2000, 1, 0, 31, 1, .ro, .val 0, false⟩
  | .HLK_TRIM_p_target => ⟨0x80014, 8, 0x2000, 1, 0, 0, 10, .ro, .x, false⟩
  | .HLK_TRIM_p_head => ⟨0x80014, 8, 0x2000, 1, 0, 16, 10, .ro, .x, false⟩
  | .HLK_TRIM_p_valid => ⟨0x80014, 8, 0x2000, 1, 0, 26, 1, .ro, .val 0, false⟩
  | .HLK_HEAD_LAT_h_dn => ⟨0x80018, 8, 0x2000, 1, 0, 0, 16, .ro, .x, false⟩
  | .HLK_HEAD_LAT_h_loop => ⟨0x80018, 8, 0x2000, 1, 0, 16, 16, .ro, .x, false⟩
  | .HLK_ALIGN_a_ticks => ⟨0x8001c, 8, 0x2000, 1, 0, 0, 12, .ro, .x, false⟩
  | .HLK_ALIGN_a_valid => ⟨0x8001c, 8, 0x2000, 1, 0, 12, 1, .ro, .val 0, false⟩
  | .HLK_FEC_CNT_fec_corr => ⟨0x80040, 8, 0x2000, 1, 0, 0, 16, .rc, .val 0, false⟩
  | .HLK_FEC_CNT_fec_fail => ⟨0x80040, 8, 0x2000, 1, 0, 16, 16, .rc, .val 0, false⟩
  | .HLK_LOSS_CNT_lost => ⟨0x80044, 8, 0x2000, 1, 0, 0, 8, .rc, .val 0, false⟩
  | .HLK_LOSS_CNT_ctl_timeout => ⟨0x80044, 8, 0x2000, 1, 0, 8, 8, .rc, .val 0, false⟩
  | .HLK_LOSS_CNT_ds_err => ⟨0x80044, 8, 0x2000, 1, 0, 16, 8, .rc, .val 0, false⟩
  | .HLK_LOSS_CNT_cal_err => ⟨0x80044, 8, 0x2000, 1, 0, 24, 8, .rc, .val 0, false⟩
  | .GAU_ID_version => ⟨0x380000, 1, 0x4000, 1, 0, 0, 16, .ro, .val 256, false⟩
  | .GAU_ID_block_id => ⟨0x380000, 1, 0x4000, 1, 0, 16, 16, .ro, .val 56, false⟩
  | .GAU_BLANK_STATUS_pin => ⟨0x380004, 1, 0x4000, 1, 0, 0, 4, .ro, .val 0, false⟩
  | .GAU_BLANK_STATUS_asserted => ⟨0x380004, 1, 0x4000, 1, 0, 4, 4, .ro, .val 0, false⟩
  | .GAU_CH_CFG_exc_on => ⟨0x381000, 192, 0x40, 1, 0, 0, 1, .rw, .pat, false⟩
  | .GAU_CH_CFG_exc_restart => ⟨0x381000, 192, 0x40, 1, 0, 1, 1, .rw, .pat, false⟩
  | .GAU_CH_CFG_rc_mode => ⟨0x381000, 192, 0x40, 1, 0, 2, 1, .rw, .pat, true⟩
  | .GAU_CH_CFG_dcb_freeze => ⟨0x381000, 192, 0x40, 1, 0, 3, 1, .rw, .val 0, false⟩
  | .GAU_CH_CFG_amp => ⟨0x381000, 192, 0x40, 1, 0, 16, 15, .rw, .pat, false⟩
  | .GAU_CH_FTW_ftw => ⟨0x381004, 192, 0x40, 1, 0, 0, 32, .rw, .pat, false⟩
  | .GAU_CH_STATUS_g_state => ⟨0x381008, 192, 0x40, 1, 0, 0, 2, .ro, .val 0, false⟩
  | .GAU_CH_STATUS_cpl_fault => ⟨0x381008, 192, 0x40, 1, 0, 2, 1, .ro, .val 0, false⟩
  | .GAU_CH_STATUS_sense_fault => ⟨0x381008, 192, 0x40, 1, 0, 3, 1, .ro, .val 0, false⟩
  | .GAU_CH_STATUS_uns => ⟨0x381008, 192, 0x40, 1, 0, 4, 1, .ro, .val 0, false⟩
  | .GAU_CH_STATUS_no_gauge => ⟨0x381008, 192, 0x40, 1, 0, 5, 1, .ro, .val 0, false⟩
  | .GAU_CH_STATUS_range0 => ⟨0x381008, 192, 0x40, 1, 0, 8, 2, .ro, .val 0, false⟩
  | .GAU_CH_STATUS_range1 => ⟨0x381008, 192, 0x40, 1, 0, 10, 2, .ro, .val 0, false⟩
  | .GAU_CH_STATUS_z_valid => ⟨0x381008, 192, 0x40, 1, 0, 16, 1, .ro, .val 0, false⟩
  | .GAU_CH_Z_z => ⟨0x38100c, 192, 0x40, 2, 4, 0, 32, .ro, .x, false⟩
  | .GAU_CH_K_k => ⟨0x381014, 192, 0x40, 2, 4, 0, 32, .rw, .val 0, true⟩
  | .GAU_CH_CNT_rc_cnt => ⟨0x38101c, 192, 0x40, 1, 0, 0, 8, .rc, .val 0, false⟩
  | .GAU_CH_CNT_gap_cnt => ⟨0x38101c, 192, 0x40, 1, 0, 8, 8, .rc, .val 0, false⟩
  | .GAU_CH_CNT_chk_fail => ⟨0x38101c, 192, 0x40, 1, 0, 16, 8, .rc, .val 0, false⟩
  | .GAU_CH_CNT_chk_skip => ⟨0x38101c, 192, 0x40, 1, 0, 24, 8, .rc, .val 0, false⟩
  | .SRG_ID_version => ⟨0x3a0000, 1, 0x1000, 1, 0, 0, 16, .ro, .val 256, false⟩
  | .SRG_ID_block_id => ⟨0x3a0000, 1, 0x1000, 1, 0, 16, 16, .ro, .val 58, false⟩
  | .SRG_STATUS_on => ⟨0x3a0004, 1, 0x1000, 1, 0, 0, 1, .ro, .val 0, false⟩
  | .SRG_STATUS_regions_free => ⟨0x3a0004, 1, 0x1000, 1, 0, 4, 4, .ro, .val 0, false⟩
  | .SRG_STATUS_blocks => ⟨0x3a0004, 1, 0x1000, 1, 0, 8, 21, .ro, .x, false⟩
  | .SRG_REGION_state => ⟨0x3a0010, 1, 0x1000, 8, 4, 0, 2, .ro, .val 0, false⟩
  | .SRG_REGION_short => ⟨0x3a0010, 1, 0x1000, 8, 4, 2, 1, .ro, .val 0, false⟩
  | .SRG_REGION_gap => ⟨0x3a0010, 1, 0x1000, 8, 4, 3, 1, .ro, .val 0, false⟩
  | .SRG_REGION_trigger => ⟨0x3a0010, 1, 0x1000, 8, 4, 4, 2, .ro, .val 0, false⟩
  | .SRG_CNT_arrivals => ⟨0x3a0040, 1, 0x1000, 1, 0, 0, 16, .rc, .val 0, false⟩
  | .SRG_CNT_frz_full => ⟨0x3a0040, 1, 0x1000, 1, 0, 16, 8, .rc, .val 0, false⟩
  | .SRG_CNT_frz_merged => ⟨0x3a0040, 1, 0x1000, 1, 0, 24, 8, .rc, .val 0, false⟩
  | .SRG_CNT2_gap_blocks => ⟨0x3a0044, 1, 0x1000, 1, 0, 0, 16, .rc, .val 0, false⟩
  | .SRG_CNT2_arr_head => ⟨0x3a0044, 1, 0x1000, 1, 0, 16, 12, .ro, .val 0, false⟩
  | .HST_ID_version => ⟨0x3c0000, 1, 0x1000, 1, 0, 0, 16, .ro, .val 256, false⟩
  | .HST_ID_block_id => ⟨0x3c0000, 1, 0x1000, 1, 0, 16, 16, .ro, .val 60, false⟩
  | .HST_STATUS_prp_on => ⟨0x3c0004, 1, 0x1000, 1, 0, 0, 1, .ro, .pat, false⟩
  | .HST_STATUS_goose_pcp => ⟨0x3c0004, 1, 0x1000, 1, 0, 1, 3, .ro, .pat, false⟩
  | .HST_PRP_CNT_prp_dup => ⟨0x3c0010, 1, 0x1000, 1, 0, 0, 16, .rc, .val 0, false⟩
  | .HST_PRP_CNT_prp_wrong_lan => ⟨0x3c0010, 1, 0x1000, 1, 0, 16, 16, .rc, .val 0, false⟩
  | .HST_GOOSE_CNT_goose_in => ⟨0x3c0014, 1, 0x1000, 1, 0, 0, 16, .rc, .val 0, false⟩
  | .HST_GOOSE_CNT_goose_unmap => ⟨0x3c0014, 1, 0x1000, 1, 0, 16, 8, .rc, .val 0, false⟩
  | .HST_GOOSE_CNT_goose_ovf => ⟨0x3c0014, 1, 0x1000, 1, 0, 24, 8, .rc, .val 0, false⟩
  | .HST_TMB_CAP_cm => ⟨0x3c0800, 1, 0x1000, 1, 0, 0, 32, .ro, .x, false⟩
  | .HST_TMB_CNT_mem_wait => ⟨0x3c0804, 1, 0x1000, 1, 0, 0, 16, .rc, .val 0, false⟩
  | .HST_TMB_CNT_mem_borrow => ⟨0x3c0804, 1, 0x1000, 1, 0, 16, 16, .rc, .val 0, false⟩
  | .HST_PORT_STATUS_link_up => ⟨0x3c0100, 2, 0x100, 1, 0, 0, 1, .ro, .val 0, false⟩
  | .HST_PORT_STATUS_mode => ⟨0x3c0100, 2, 0x100, 1, 0, 1, 4, .ro, .pat, false⟩
  | .HST_PORT_STATUS_fec_lock => ⟨0x3c0100, 2, 0x100, 1, 0, 5, 1, .ro, .val 0, false⟩
  | .HST_PORT_STATUS_an_done => ⟨0x3c0100, 2, 0x100, 1, 0, 6, 1, .ro, .val 0, false⟩
  | .HST_PORT_CNT_fcs_err => ⟨0x3c0104, 2, 0x100, 1, 0, 0, 16, .rc, .val 0, false⟩
  | .HST_PORT_CNT_mac_drop => ⟨0x3c0104, 2, 0x100, 1, 0, 16, 16, .rc, .val 0, false⟩
  | .HST_PORT_CNT2_vid_drop => ⟨0x3c0108, 2, 0x100, 1, 0, 0, 16, .rc, .val 0, false⟩
  | .HST_PORT_CNT2_etype_drop => ⟨0x3c0108, 2, 0x100, 1, 0, 16, 16, .rc, .val 0, false⟩
  | .PNL_ID_instance => ⟨0x3e0000, 16, 0x1000, 1, 0, 0, 8, .ro, .fuse, false⟩
  | .PNL_ID_version => ⟨0x3e0000, 16, 0x1000, 1, 0, 8, 8, .ro, .val 1, false⟩
  | .PNL_ID_block_id => ⟨0x3e0000, 16, 0x1000, 1, 0, 16, 16, .ro, .val 62, false⟩
  | .PNL_STATUS_defined => ⟨0x3e0004, 16, 0x1000, 1, 0, 0, 1, .ro, .val 0, false⟩
  | .PNL_STATUS_in_band => ⟨0x3e0004, 16, 0x1000, 1, 0, 1, 1, .ro, .val 0, false⟩
  | .PNL_STATUS_rights => ⟨0x3e0004, 16, 0x1000, 1, 0, 2, 5, .ro, .val 0, false⟩
  | .PNL_AIR_air_left => ⟨0x3e0008, 16, 0x1000, 1, 0, 0, 18, .ro, .x, false⟩
  | .PNL_AIR_air_borrowed => ⟨0x3e0008, 16, 0x1000, 1, 0, 18, 14, .ro, .val 0, false⟩
  | .PNL_DEC_dec => ⟨0x3e000c, 16, 0x1000, 1, 0, 0, 13, .ro, .pat, false⟩
  | .PNL_DEC_dec_used => ⟨0x3e000c, 16, 0x1000, 1, 0, 16, 13, .ro, .val 0, false⟩
  | .PNL_CREDIT_ret_lo => ⟨0x3e0030, 16, 0x1000, 4, 4, 0, 16, .ro, .val 0, false⟩
  | .PNL_CREDIT_ret_hi => ⟨0x3e0030, 16, 0x1000, 4, 4, 16, 16, .ro, .val 0, false⟩
  | .PNL_ALIAS_FAULT_CNT_count => ⟨0x3e0040, 16, 0x1000, 1, 0, 0, 16, .rc, .val 0, false⟩
  | .PNL_EXPERT_DENY_CNT_count => ⟨0x3e0044, 16, 0x1000, 1, 0, 0, 16, .rc, .val 0, false⟩
  | .PNL_OHI_WRONG_CNT_count => ⟨0x3e0048, 16, 0x1000, 1, 0, 0, 16, .rc, .val 0, false⟩
  | .PNL_CMD_OVF_CNT_count => ⟨0x3e004c, 16, 0x1000, 1, 0, 0, 16, .rc, .val 0, false⟩
  | .PNL_THIMBLE_CNT_air_wait => ⟨0x3e0050, 16, 0x1000, 1, 0, 0, 16, .rc, .val 0, false⟩
  | .PNL_THIMBLE_CNT_credit_drop => ⟨0x3e0050, 16, 0x1000, 1, 0, 16, 16, .rc, .val 0, false⟩
  | .PNL_HO_CNT_ho_err => ⟨0x3e0054, 16, 0x1000, 1, 0, 0, 16, .rc, .val 0, false⟩
  | .PNL_HO_CNT_right_deny => ⟨0x3e0054, 16, 0x1000, 1, 0, 16, 8, .rc, .val 0, false⟩
  | .PNL_HO_CNT_q_age_drop => ⟨0x3e0054, 16, 0x1000, 1, 0, 24, 8, .rc, .val 0, false⟩
  | .SER_ID_instance => ⟨0x400000, 8, 0x100, 1, 0, 0, 8, .ro, .fuse, false⟩
  | .SER_ID_version => ⟨0x400000, 8, 0x100, 1, 0, 8, 8, .ro, .val 1, false⟩
  | .SER_ID_block_id => ⟨0x400000, 8, 0x100, 1, 0, 16, 16, .ro, .val 64, false⟩
  | .SER_STATUS_function => ⟨0x400004, 8, 0x100, 1, 0, 0, 3, .ro, .pat, false⟩
  | .SER_STATUS_class => ⟨0x400004, 8, 0x100, 1, 0, 3, 1, .ro, .pat, false⟩
  | .SER_STATUS_awake => ⟨0x400004, 8, 0x100, 1, 0, 4, 1, .ro, .val 0, false⟩
  | .SER_STATUS_osc_on => ⟨0x400004, 8, 0x100, 1, 0, 5, 1, .ro, .val 0, false⟩
  | .SER_STATUS_de => ⟨0x400004, 8, 0x100, 1, 0, 6, 1, .ro, .val 0, false⟩
  | .SER_STATUS_div_pending => ⟨0x400004, 8, 0x100, 1, 0, 7, 1, .ro, .val 0, false⟩
  | .SER_STATUS_rx_level => ⟨0x400004, 8, 0x100, 1, 0, 8, 7, .ro, .val 0, false⟩
  | .SER_STATUS_tx_level => ⟨0x400004, 8, 0x100, 1, 0, 16, 7, .ro, .val 0, false⟩
  | .SER_DIV_div => ⟨0x400008, 8, 0x100, 1, 0, 0, 24, .rw, .pat, false⟩
  | .SER_RX_DATA_data => ⟨0x40000c, 8, 0x100, 1, 0, 0, 9, .rc, .val 0, false⟩
  | .SER_RX_DATA_parity => ⟨0x40000c, 8, 0x100, 1, 0, 9, 1, .rc, .val 0, false⟩
  | .SER_RX_DATA_frame => ⟨0x40000c, 8, 0x100, 1, 0, 10, 1, .rc, .val 0, false⟩
  | .SER_RX_DATA_brk => ⟨0x40000c, 8, 0x100, 1, 0, 11, 1, .rc, .val 0, false⟩
  | .SER_RX_DATA_ovr => ⟨0x40000c, 8, 0x100, 1, 0, 12, 1, .rc, .val 0, false⟩
  | .SER_RX_DATA_valid => ⟨0x40000c, 8, 0x100, 1, 0, 13, 1, .rc, .val 0, false⟩
  | .SER_TX_DATA_data => ⟨0x400010, 8, 0x100, 1, 0, 0, 9, .wo, .val 0, false⟩
  | .SER_CNT_overrun => ⟨0x400040, 8, 0x100, 1, 0, 0, 8, .rc, .val 0, false⟩
  | .SER_CNT_frm_err => ⟨0x400040, 8, 0x100, 1, 0, 8, 8, .rc, .val 0, false⟩
  | .SER_CNT_par_err => ⟨0x400040, 8, 0x100, 1, 0, 16, 8, .rc, .val 0, false⟩
  | .SER_CNT_false_start => ⟨0x400040, 8, 0x100, 1, 0, 24, 8, .rc, .val 0, false⟩
  | .SER_CNT2_msg_out => ⟨0x400044, 8, 0x100, 1, 0, 0, 16, .rc, .val 0, false⟩
  | .SER_CNT2_msg_bad => ⟨0x400044, 8, 0x100, 1, 0, 16, 8, .rc, .val 0, false⟩
  | .SER_CNT2_tx_ovf => ⟨0x400044, 8, 0x100, 1, 0, 24, 8, .rc, .val 0, false⟩
  | .CMD_ID_version => ⟨0x410000, 1, 0x1000, 1, 0, 0, 16, .ro, .val 256, false⟩
  | .CMD_ID_block_id => ⟨0x410000, 1, 0x1000, 1, 0, 16, 16, .ro, .val 65, false⟩
  | .CMD_IN_STATE_asserted => ⟨0x410004, 1, 0x1000, 1, 0, 0, 16, .ro, .val 0, false⟩
  | .CMD_IN_STATE_pin => ⟨0x410004, 1, 0x1000, 1, 0, 16, 16, .ro, .val 0, false⟩
  | .CMD_OUT_STATE_active => ⟨0x410008, 1, 0x1000, 1, 0, 0, 16, .ro, .val 0, false⟩
  | .CMD_OUT_STATE_forced => ⟨0x410008, 1, 0x1000, 1, 0, 16, 16, .ro, .val 0, false⟩
  | .CMD_CT_CFG_function => ⟨0x410100, 16, 0x4, 1, 0, 0, 2, .ro, .pat, false⟩
  | .CMD_CT_CFG_mode => ⟨0x410100, 16, 0x4, 1, 0, 2, 2, .ro, .pat, false⟩
  | .CMD_CT_CFG_invert => ⟨0x410100, 16, 0x4, 1, 0, 4, 1, .ro, .pat, false⟩
  | .CMD_CT_CFG_debounce => ⟨0x410100, 16, 0x4, 1, 0, 8, 16, .rw, .pat, false⟩
  | .CMD_CNT_cmd_stale => ⟨0x410040, 1, 0x1000, 1, 0, 0, 8, .rc, .val 0, false⟩
  | .CMD_CNT_cmd_bad => ⟨0x410040, 1, 0x1000, 1, 0, 8, 8, .rc, .val 0, false⟩
  | .CMD_CNT_watch_exp => ⟨0x410040, 1, 0x1000, 1, 0, 16, 8, .rc, .val 0, false⟩
  | .CMD_CNT_cmd_merge => ⟨0x410040, 1, 0x1000, 1, 0, 24, 8, .rc, .val 0, false⟩
  | .BOB_ID_version => ⟨0x420000, 1, 0x1000, 1, 0, 0, 16, .ro, .val 256, false⟩
  | .BOB_ID_block_id => ⟨0x420000, 1, 0x1000, 1, 0, 16, 16, .ro, .val 66, false⟩
  | .BOB_STATUS_working => ⟨0x420004, 1, 0x1000, 1, 0, 0, 9, .ro, .fuse, false⟩
  | .BOB_STATUS_spares => ⟨0x420004, 1, 0x1000, 1, 0, 16, 9, .ro, .val 0, false⟩
  | .BOB_ENG_SEL_engine => ⟨0x420008, 1, 0x1000, 1, 0, 0, 8, .rw, .val 0, false⟩
  | .BOB_ENG_DATA_role => ⟨0x42000c, 1, 0x1000, 1, 0, 0, 4, .ro, .val 0, false⟩
  | .BOB_ENG_DATA_share => ⟨0x42000c, 1, 0x1000, 1, 0, 4, 1, .ro, .val 0, false⟩
  | .BOB_ENG_DATA_fault => ⟨0x42000c, 1, 0x1000, 1, 0, 5, 1, .ro, .val 0, false⟩
  | .BOB_ENG_DATA_gated => ⟨0x42000c, 1, 0x1000, 1, 0, 6, 1, .ro, .val 1, false⟩
  | .BOB_ENG_DATA_lm_ce => ⟨0x42000c, 1, 0x1000, 1, 0, 8, 8, .rc, .val 0, false⟩
  | .BOB_ENG_DATA_slice_wait => ⟨0x42000c, 1, 0x1000, 1, 0, 16, 16, .rc, .val 0, false⟩
  | .BOB_FW_fw_version => ⟨0x420010, 1, 0x1000, 1, 0, 0, 32, .ro, .x, false⟩
  | .HBM_ID_version => ⟨0x500000, 1, 0x1000, 1, 0, 0, 16, .ro, .val 256, false⟩
  | .HBM_ID_block_id => ⟨0x500000, 1, 0x1000, 1, 0, 16, 16, .ro, .val 80, false⟩
  | .HBM_STATUS_trained => ⟨0x500004, 1, 0x1000, 1, 0, 0, 4, .ro, .val 0, false⟩
  | .HBM_STATUS_fenced => ⟨0x500004, 1, 0x1000, 1, 0, 4, 1, .ro, .val 0, false⟩
  | .HBM_STATUS_self_refresh => ⟨0x500004, 1, 0x1000, 1, 0, 5, 1, .ro, .val 0, false⟩
  | .HBM_STATUS_temp_max => ⟨0x500004, 1, 0x1000, 1, 0, 8, 8, .ro, .x, false⟩
  | .HBM_ECC_CNT_ce => ⟨0x500008, 1, 0x1000, 1, 0, 0, 24, .rc, .val 0, false⟩
  | .HBM_ECC_CNT_ue => ⟨0x500008, 1, 0x1000, 1, 0, 24, 8, .rc, .val 0, false⟩
  | .HBM_SCRUB_CFG_scrub_cap => ⟨0x50000c, 1, 0x1000, 1, 0, 0, 16, .rw, .val 16, false⟩
  | .HBM_SCRUB_CFG_cal_s => ⟨0x50000c, 1, 0x1000, 1, 0, 16, 16, .rw, .val 600, false⟩
  | .HBM_SCRUB_STATUS_position => ⟨0x500010, 1, 0x1000, 1, 0, 0, 24, .ro, .val 0, false⟩
  | .HBM_SCRUB_STATUS_passes => ⟨0x500010, 1, 0x1000, 1, 0, 24, 8, .ro, .val 0, false⟩
  | .HBM_MISC_CNT_cal_late => ⟨0x500014, 1, 0x1000, 1, 0, 0, 8, .rc, .val 0, false⟩
  | .HBM_MISC_CNT_log_drop => ⟨0x500014, 1, 0x1000, 1, 0, 8, 8, .rc, .val 0, false⟩
  | .HBM_MISC_CNT_retired => ⟨0x500014, 1, 0x1000, 1, 0, 16, 12, .ro, .val 0, false⟩
  | .SEC_ID_version => ⟨0x40000, 1, 0x1000, 1, 0, 0, 16, .ro, .val 256, false⟩
  | .SEC_ID_block_id => ⟨0x40000, 1, 0x1000, 1, 0, 16, 16, .ro, .val 4, false⟩
  | .SEC_STATUS_owned => ⟨0x40004, 1, 0x1000, 1, 0, 0, 1, .ro, .fuse, false⟩
  | .SEC_STATUS_slot => ⟨0x40004, 1, 0x1000, 1, 0, 1, 2, .ro, .fuse, false⟩
  | .SEC_STATUS_debug_open => ⟨0x40004, 1, 0x1000, 1, 0, 3, 1, .ro, .val 0, false⟩
  | .SEC_STATUS_scope => ⟨0x40004, 1, 0x1000, 1, 0, 4, 3, .ro, .val 0, false⟩
  | .SEC_STATUS_tamper => ⟨0x40004, 1, 0x1000, 1, 0, 7, 1, .ro, .val 0, false⟩
  | .SEC_STATUS_loop_open => ⟨0x40004, 1, 0x1000, 1, 0, 8, 1, .ro, .val 0, false⟩
  | .SEC_STATUS_debug_lock => ⟨0x40004, 1, 0x1000, 1, 0, 9, 1, .ro, .fuse, false⟩
  | .SEC_FUSE_ID_fuse_id => ⟨0x40008, 1, 0x1000, 2, 4, 0, 32, .ro, .fuse, false⟩
  | .SEC_ROLLBACK_fw_level => ⟨0x40010, 1, 0x1000, 1, 0, 0, 7, .ro, .fuse, false⟩
  | .SEC_ROLLBACK_pat_level => ⟨0x40010, 1, 0x1000, 1, 0, 8, 7, .ro, .fuse, false⟩
  | .SEC_CFG_tamper_mode => ⟨0x40014, 1, 0x1000, 1, 0, 0, 2, .rw, .val 1, false⟩
  | .SEC_CNT_dec_fail => ⟨0x40040, 1, 0x1000, 1, 0, 0, 16, .rc, .val 0, false⟩
  | .SEC_CNT_replay => ⟨0x40040, 1, 0x1000, 1, 0, 16, 8, .rc, .val 0, false⟩
  | .SEC_CNT_enc_nokey => ⟨0x40040, 1, 0x1000, 1, 0, 24, 8, .rc, .val 0, false⟩
  | .SEC_CNT2_ohi_auth => ⟨0x40044, 1, 0x1000, 1, 0, 0, 8, .rc, .val 0, false⟩
  | .SEC_CNT2_ohi_replay => ⟨0x40044, 1, 0x1000, 1, 0, 8, 8, .rc, .val 0, false⟩
  | .SEC_CNT2_debug_deny => ⟨0x40044, 1, 0x1000, 1, 0, 16, 8, .rc, .val 0, false⟩
  | .RST_ID_version => ⟨0x10000, 1, 0x1000, 1, 0, 0, 16, .ro, .val 256, false⟩
  | .RST_ID_block_id => ⟨0x10000, 1, 0x1000, 1, 0, 16, 16, .ro, .val 1, false⟩
  | .RST_CAUSE_sources => ⟨0x10004, 1, 0x1000, 1, 0, 0, 12, .w1c, .val 0, false⟩
  | .RST_CAUSE_level => ⟨0x10004, 1, 0x1000, 1, 0, 12, 2, .ro, .val 3, false⟩
  | .RST_CAUSE_from_keep => ⟨0x10004, 1, 0x1000, 1, 0, 14, 1, .ro, .val 0, false⟩
  | .RST_MAP_map => ⟨0x10008, 1, 0x1000, 1, 0, 0, 22, .ro, .fuse, false⟩
  | .RST_WD_CFG_wd_mgmt => ⟨0x1000c, 1, 0x1000, 1, 0, 0, 6, .rw, .val 10, true⟩
  | .RST_WD_CFG_wd_host => ⟨0x1000c, 1, 0x1000, 1, 0, 6, 6, .rw, .val 10, true⟩
  | .RST_WD_CFG_wd_mem => ⟨0x1000c, 1, 0x1000, 1, 0, 12, 6, .rw, .val 10, true⟩
  | .RST_WD_CFG_wd_plane => ⟨0x1000c, 1, 0x1000, 1, 0, 18, 6, .rw, .val 5, true⟩
  | .RST_WD_CFG_wd_lane => ⟨0x1000c, 1, 0x1000, 1, 0, 24, 6, .rw, .val 5, true⟩
  | .RST_CNT_warm_cnt => ⟨0x10040, 1, 0x1000, 1, 0, 0, 8, .rc, .val 0, false⟩
  | .RST_CNT_plane_cnt => ⟨0x10040, 1, 0x1000, 1, 0, 8, 8, .rc, .val 0, false⟩
  | .RST_CNT_block_cnt => ⟨0x10040, 1, 0x1000, 1, 0, 16, 8, .rc, .val 0, false⟩
  | .RST_CNT_event_cnt => ⟨0x10040, 1, 0x1000, 1, 0, 24, 8, .rc, .val 0, false⟩
  | .PWR_ID_version => ⟨0x20000, 1, 0x1000, 1, 0, 0, 16, .ro, .val 256, false⟩
  | .PWR_ID_block_id => ⟨0x20000, 1, 0x1000, 1, 0, 16, 16, .ro, .val 2, false⟩
  | .PWR_STATUS_gasp => ⟨0x20004, 1, 0x1000, 1, 0, 0, 1, .ro, .val 0, false⟩
  | .PWR_STATUS_input_ok => ⟨0x20004, 1, 0x1000, 1, 0, 1, 1, .ro, .val 1, false⟩
  | .PWR_STATUS_input_dc => ⟨0x20004, 1, 0x1000, 1, 0, 2, 1, .ro, .x, false⟩
  | .PWR_STATUS_vbat_ok => ⟨0x20004, 1, 0x1000, 1, 0, 3, 1, .ro, .val 0, false⟩
  | .PWR_STATUS_bulk => ⟨0x20004, 1, 0x1000, 1, 0, 8, 8, .ro, .x, false⟩
  | .PWR_CLK_STATUS_ref_sel => ⟨0x20008, 1, 0x1000, 1, 0, 0, 2, .ro, .val 0, false⟩
  | .PWR_CLK_STATUS_refclk_valid => ⟨0x20008, 1, 0x1000, 1, 0, 2, 1, .ro, .val 0, false⟩
  | .PWR_CLK_STATUS_slewing => ⟨0x20008, 1, 0x1000, 1, 0, 3, 1, .ro, .val 0, false⟩
  | .PWR_CLK_STATUS_pps_valid => ⟨0x20008, 1, 0x1000, 1, 0, 4, 1, .ro, .val 0, false⟩
  | .PWR_CLK_STATUS_ref_ofs => ⟨0x20008, 1, 0x1000, 1, 0, 16, 16, .ro, .x, false⟩
  | .PWR_GASP_CFG_gasp_ep => ⟨0x2000c, 1, 0x1000, 1, 0, 0, 16, .rwp, .val 0, false⟩
  | .PWR_GASP_CFG_gasp_host => ⟨0x2000c, 1, 0x1000, 1, 0, 16, 1, .rwp, .val 0, false⟩
  | .PWR_GASP_CHAN_chans => ⟨0x20010, 1, 0x1000, 6, 4, 0, 32, .rwp, .val 0, false⟩
  | .PWR_TOD_LO_tod_lo => ⟨0x20030, 1, 0x1000, 1, 0, 0, 32, .ro, .val 0, false⟩
  | .PWR_TOD_HI_tod_hi => ⟨0x20034, 1, 0x1000, 1, 0, 0, 16, .ro, .val 0, false⟩
  | .PWR_TOD_HI_tod_valid => ⟨0x20034, 1, 0x1000, 1, 0, 16, 1, .ro, .val 0, false⟩
  | .PWR_CNT_loss => ⟨0x20040, 1, 0x1000, 1, 0, 0, 8, .rc, .val 0, false⟩
  | .PWR_CNT_gasp_cnt => ⟨0x20040, 1, 0x1000, 1, 0, 8, 8, .rc, .val 0, false⟩
  | .PWR_CNT_ref_switch => ⟨0x20040, 1, 0x1000, 1, 0, 16, 8, .rc, .val 0, false⟩
  | .PWR_CNT_ref_lost => ⟨0x20040, 1, 0x1000, 1, 0, 24, 8, .rc, .val 0, false⟩
  | .PWR_THERMAL_baseplate => ⟨0x20050, 1, 0x1000, 1, 0, 0, 8, .ro, .x, false⟩
  | .PWR_THERMAL_t_valid => ⟨0x20050, 1, 0x1000, 1, 0, 8, 1, .ro, .val 0, false⟩
  | .PWR_THERMAL_hot => ⟨0x20050, 1, 0x1000, 1, 0, 9, 1, .ro, .val 0, false⟩
  | .PWR_THERMAL_hot_cnt => ⟨0x20050, 1, 0x1000, 1, 0, 16, 8, .rc, .val 0, false⟩
  | .PWR_STRAPS_boot_sel => ⟨0x20054, 1, 0x1000, 1, 0, 0, 2, .ro, .x, false⟩
  | .PWR_STRAPS_mod_addr => ⟨0x20054, 1, 0x1000, 1, 0, 2, 4, .ro, .x, false⟩
  | .PWR_STRAPS_straps_valid => ⟨0x20054, 1, 0x1000, 1, 0, 8, 1, .ro, .val 0, false⟩
  | .GLB_ID_version => ⟨0x0, 1, 0x1000, 1, 0, 0, 16, .ro, .val 256, false⟩
  | .GLB_ID_block_id => ⟨0x0, 1, 0x1000, 1, 0, 16, 16, .ro, .val 0, false⟩
  | .GLB_IDENT_variant => ⟨0x4, 1, 0x1000, 1, 0, 0, 4, .ro, .fuse, false⟩
  | .GLB_IDENT_part => ⟨0x4, 1, 0x1000, 1, 0, 16, 16, .ro, .val 29074, false⟩
  | .GLB_MAC_mac => ⟨0x8, 1, 0x1000, 2, 4, 0, 32, .ro, .fuse, false⟩
  | .FEAT_OFFER_offer => ⟨0x10, 1, 0x1000, 4, 4, 0, 32, .ro, .x, false⟩
  | .FEAT_ACCEPT_accept => ⟨0x20, 1, 0x1000, 4, 4, 0, 32, .rw, .val 0, false⟩
  | .GLB_FEAT_FORCE_force => ⟨0x30, 1, 0x1000, 4, 4, 0, 32, .ro, .val 0, false⟩
  | .GLB_STATUS_power => ⟨0x40, 1, 0x1000, 1, 0, 0, 2, .ro, .val 0, false⟩
  | .GLB_STATUS_boot => ⟨0x40, 1, 0x1000, 1, 0, 2, 1, .ro, .val 0, false⟩
  | .GLB_STATUS_sealed => ⟨0x40, 1, 0x1000, 1, 0, 3, 1, .ro, .val 0, false⟩
  | .GLB_STATUS_narrow => ⟨0x40, 1, 0x1000, 1, 0, 4, 1, .ro, .val 0, false⟩
  | .GLB_STATUS_fault_any => ⟨0x40, 1, 0x1000, 1, 0, 5, 1, .ro, .val 0, false⟩
  | .GLB_STATUS_tamper => ⟨0x40, 1, 0x1000, 1, 0, 6, 1, .ro, .val 0, false⟩
  | .GLB_SEALED_WRITE_CNT_count => ⟨0x50, 1, 0x1000, 1, 0, 0, 16, .rc, .val 0, false⟩
  | .GLB_FEAT_DROP_CNT_count => ⟨0x54, 1, 0x1000, 1, 0, 0, 16, .rc, .val 0, false⟩
  | .GLB_NOT_NEGOTIATED_CNT_count => ⟨0x58, 1, 0x1000, 1, 0, 0, 16, .rc, .val 0, false⟩
  | .GLB_UNMAPPED_CNT_count => ⟨0x5c, 1, 0x1000, 1, 0, 0, 16, .rc, .val 0, false⟩
  | .EVT_ID_version => ⟨0x600000, 1, 0x0, 1, 0, 0, 16, .ro, .val 256, false⟩
  | .EVT_ID_block_id => ⟨0x600000, 1, 0x0, 1, 0, 16, 16, .ro, .val 96, false⟩
  | .TEL_ID_version => ⟨0x700000, 1, 0x0, 1, 0, 0, 16, .ro, .val 256, false⟩
  | .TEL_ID_block_id => ⟨0x700000, 1, 0x0, 1, 0, 16, 16, .ro, .val 112, false⟩
  | .EVT_STATUS_head => ⟨0x600004, 1, 0x40000, 1, 0, 0, 13, .ro, .val 0, false⟩
  | .EVT_STATUS_wrapped => ⟨0x600004, 1, 0x40000, 1, 0, 13, 1, .ro, .val 0, false⟩
  | .EVT_PNL_RD_rd => ⟨0x600100, 16, 0x10, 1, 0, 0, 13, .rw, .val 0, false⟩
  | .EVT_PNL_CFG_sev_min => ⟨0x600104, 16, 0x10, 1, 0, 0, 2, .rw, .val 1, false⟩
  | .EVT_PNL_CFG_irq_ev => ⟨0x600104, 16, 0x10, 1, 0, 2, 1, .rw, .val 0, false⟩
  | .EVT_PNL_CFG_irq_rsp => ⟨0x600104, 16, 0x10, 1, 0, 3, 1, .rw, .val 0, false⟩
  | .EVT_PNL_CNT_pending => ⟨0x600108, 16, 0x10, 1, 0, 0, 14, .ro, .val 0, false⟩
  | .EVT_PNL_CNT_lost => ⟨0x600108, 16, 0x10, 1, 0, 16, 16, .rc, .val 0, false⟩
  | .TEL_CFG_tel_on => ⟨0x700004, 1, 0x50000, 1, 0, 0, 1, .rw, .val 1, false⟩
  | .TEL_CFG_tel_period => ⟨0x700004, 1, 0x50000, 1, 0, 8, 8, .rw, .val 50, false⟩
  | .TEL_STATUS_tel_seq => ⟨0x700008, 1, 0x50000, 1, 0, 0, 16, .ro, .val 0, false⟩
  | .TEL_STATUS_tel_words => ⟨0x700008, 1, 0x50000, 1, 0, 16, 16, .ro, .x, false⟩
  | .TEL_CNT_tel_drop => ⟨0x70000c, 1, 0x50000, 1, 0, 0, 16, .rc, .val 0, false⟩

/-- The fields of a block, by its `block_id`: bits [23:16] of its base (R522). Empty for no block. -/
def blkFlds : Nat → List Fld
  | 0x0 => [.GLB_ID_version, .GLB_ID_block_id, .GLB_IDENT_variant, .GLB_IDENT_part, .GLB_MAC_mac, .FEAT_OFFER_offer, .FEAT_ACCEPT_accept, .GLB_FEAT_FORCE_force, .GLB_STATUS_power, .GLB_STATUS_boot, .GLB_STATUS_sealed, .GLB_STATUS_narrow]
      ++ [.GLB_STATUS_fault_any, .GLB_STATUS_tamper, .GLB_SEALED_WRITE_CNT_count, .GLB_FEAT_DROP_CNT_count, .GLB_NOT_NEGOTIATED_CNT_count, .GLB_UNMAPPED_CNT_count]
  | 0x1 => [.RST_ID_version, .RST_ID_block_id, .RST_CAUSE_sources, .RST_CAUSE_level, .RST_CAUSE_from_keep, .RST_MAP_map, .RST_WD_CFG_wd_mgmt, .RST_WD_CFG_wd_host, .RST_WD_CFG_wd_mem, .RST_WD_CFG_wd_plane, .RST_WD_CFG_wd_lane, .RST_CNT_warm_cnt]
      ++ [.RST_CNT_plane_cnt, .RST_CNT_block_cnt, .RST_CNT_event_cnt]
  | 0x2 => [.PWR_ID_version, .PWR_ID_block_id, .PWR_STATUS_gasp, .PWR_STATUS_input_ok, .PWR_STATUS_input_dc, .PWR_STATUS_vbat_ok, .PWR_STATUS_bulk, .PWR_CLK_STATUS_ref_sel, .PWR_CLK_STATUS_refclk_valid, .PWR_CLK_STATUS_slewing, .PWR_CLK_STATUS_pps_valid, .PWR_CLK_STATUS_ref_ofs]
      ++ [.PWR_GASP_CFG_gasp_ep, .PWR_GASP_CFG_gasp_host, .PWR_GASP_CHAN_chans, .PWR_TOD_LO_tod_lo, .PWR_TOD_HI_tod_hi, .PWR_TOD_HI_tod_valid, .PWR_CNT_loss, .PWR_CNT_gasp_cnt, .PWR_CNT_ref_switch, .PWR_CNT_ref_lost, .PWR_THERMAL_baseplate, .PWR_THERMAL_t_valid]
      ++ [.PWR_THERMAL_hot, .PWR_THERMAL_hot_cnt, .PWR_STRAPS_boot_sel, .PWR_STRAPS_mod_addr, .PWR_STRAPS_straps_valid]
  | 0x3 => [.PAT_ID_version, .PAT_ID_block_id, .PAT_STATUS_loader_state, .PAT_STATUS_sealed, .PAT_STATUS_source, .PAT_STATUS_last_reject, .PAT_STATUS_conflict_kind, .PAT_CONFLICT_A_item, .PAT_CONFLICT_A_section, .PAT_CONFLICT_B_item, .PAT_CONFLICT_B_section, .PAT_CONFLICT_UNIT_unit]
      ++ [.PAT_REJECT_CNT_rejects, .PAT_REJECT_CNT_skips]
  | 0x4 => [.SEC_ID_version, .SEC_ID_block_id, .SEC_STATUS_owned, .SEC_STATUS_slot, .SEC_STATUS_debug_open, .SEC_STATUS_scope, .SEC_STATUS_tamper, .SEC_STATUS_loop_open, .SEC_STATUS_debug_lock, .SEC_FUSE_ID_fuse_id, .SEC_ROLLBACK_fw_level, .SEC_ROLLBACK_pat_level]
      ++ [.SEC_CFG_tamper_mode, .SEC_CNT_dec_fail, .SEC_CNT_replay, .SEC_CNT_enc_nokey, .SEC_CNT2_ohi_auth, .SEC_CNT2_ohi_replay, .SEC_CNT2_debug_deny]
  | 0x8 => [.HLK_ID_instance, .HLK_ID_version, .HLK_ID_block_id, .HLK_STATUS_state, .HLK_STATUS_cause, .HLK_STATUS_gated, .HLK_CFG_asym, .HLK_CFG_drift_allow, .HLK_RTT_rtt, .HLK_RTT_rtt_valid, .HLK_DELAY_d_adv, .HLK_DELAY_u_cal]
      ++ [.HLK_DELAY_d_valid, .HLK_TRIM_p_target, .HLK_TRIM_p_head, .HLK_TRIM_p_valid, .HLK_HEAD_LAT_h_dn, .HLK_HEAD_LAT_h_loop, .HLK_ALIGN_a_ticks, .HLK_ALIGN_a_valid, .HLK_FEC_CNT_fec_corr, .HLK_FEC_CNT_fec_fail, .HLK_LOSS_CNT_lost, .HLK_LOSS_CNT_ctl_timeout]
      ++ [.HLK_LOSS_CNT_ds_err, .HLK_LOSS_CNT_cal_err]
  | 0x10 => [.PIPE_ID_instance, .PIPE_ID_version, .PIPE_ID_block_id, .PIPE_STATUS_slice_active, .PIPE_STATUS_gated, .PIPE_STATUS_fenced]
  | 0x18 => [.CHN_ID_instance, .CHN_ID_version, .CHN_ID_block_id, .CHN_STATUS_state, .CHN_STATUS_role, .CHN_STATUS_coupling, .CHN_STATUS_profile, .CHN_STATUS_fault_cause, .CHN_STATUS_rx_busy, .CHN_STATUS_coupling_pending, .CHN_CFG_link_id, .CHN_CFG_band_plan]
      ++ [.CHN_CFG_ramp_us, .CHN_CFG_auto_rearm, .CHN_CFG_train_timeout, .CHN_TX_LEVEL_tx_atten, .CHN_TX_LEVEL_papr_limit, .CHN_DET_CFG_det_thr, .CHN_DET_CFG_qual_thr, .CHN_DET_CFG_agc_target, .CHN_RSSI_rssi, .CHN_RSSI_rssi_valid, .CHN_RSSI_noise_floor, .CHN_RSSI_nf_valid]
      ++ [.CHN_SYNC_sync_offset, .CHN_SYNC_sync_frac, .CHN_SYNC_sync_valid, .CHN_FREQ_sco_ppm, .CHN_FREQ_sco_valid, .CHN_TX_DISCARD_CNT_discards, .CHN_TX_DISCARD_CNT_ramp_refused, .CHN_RX_DET_CNT_detections, .CHN_RX_DET_CNT_qual_fail, .CHN_RX_FC_CNT_fc_crc_err, .CHN_RX_FC_CNT_fc_foreign, .CHN_RX_ABORT_CNT_preempt]
      ++ [.CHN_RX_ABORT_CNT_self_det, .CHN_CODE_CFG_li_span, .CHN_CODE_CFG_li_idle, .CHN_CODE_STATUS_li_tx_on, .CHN_CODE_STATUS_li_rx_on, .CHN_CODE_STATUS_li_span_tx, .CHN_CODE_STATUS_li_tx_pos, .CHN_CODE_STATUS_li_rx_pos, .CHN_CODE_CNT_li_resync, .CHN_CODE_CNT_li_stamp_err, .CHN_CODE_CNT_cw_fail, .CHN_CHISEL_CNT_blanked]
      ++ [.CHN_CHISEL_CNT_sym_erased, .CHN_STEP_CNT_step_det, .CHN_STEP_CNT_step_armed, .CHN_TM_CNT_map_sent, .CHN_TM_CNT_map_rcvd, .CHN_TM_CNT_invalidations, .CHN_TM_CNT_tm_reject, .CHN_ADAPT_CFG_tm_margin, .CHN_ADAPT_CFG_prot_margin, .CHN_ADAPT_CFG_imp_mode, .CHN_ADAPT_CFG_nse_shift, .CHN_ADAPT_CFG_tm_holdoff]
      ++ [.CHN_ADAPT_CFG_tm_delta, .CHN_ADAPT_CFG2_tm_refresh, .CHN_ADAPT_CFG2_sound_n, .CHN_ADAPT_CFG2_erase_db, .CHN_CHISEL_CFG_chisel_thr, .CHN_CHISEL_CFG_chisel_pre, .CHN_CHISEL_CFG_chisel_post, .CHN_CHISEL_CFG_chisel_max, .CHN_STEP_CFG_step_thr, .CHN_STEP_CFG_step_thr_armed, .CHN_STEP_CFG_blank_arm, .CHN_STEP_CFG_arm_ms]
      ++ [.CHN_TM_STATUS_rx_valid, .CHN_TM_STATUS_tx_valid, .CHN_TM_STATUS_tx_general, .CHN_TM_STATUS_tx_protect, .CHN_TM_STATUS_fallback, .CHN_TM_STATUS_imp_chisel, .CHN_TM_STATUS_imp_li, .CHN_TM_STATUS_imp_none, .CHN_TM_STATUS_step_active, .CHN_TM_STATUS_armed, .CHN_SNR_snr_mean, .CHN_SNR_snr_valid]
      ++ [.CHN_SNR_min_margin, .CHN_CARRIER_SEL_carrier, .CHN_CARRIER_DATA_snr, .CHN_CARRIER_DATA_bits_rx, .CHN_CARRIER_DATA_bits_tx, .CHN_CARRIER_DATA_pilot, .CHN_CARRIER_DATA_notched, .CHN_CARRIER_DATA_valid, .CHN_SOUND_CNT_sound_rx, .CHN_SOUND_CNT_sound_timeout, .CHN_OLA_LOCK_delta, .CHN_OLA_LOCK_locked]
      ++ [.CHN_OLA_LOCK_lock_valid, .CHN_OLA_STATUS_sync_part, .CHN_OLA_STATUS_err_rx, .CHN_OLA_STATUS_next_div, .CHN_OLA_STATUS_fext_div, .CHN_OLA_STATUS_prec_div, .CHN_OLA_STATUS_dup_ok, .CHN_OLA_CNT_prec_clipped, .CHN_OLA_CNT_gl_miss, .CHN_HEM_STATUS_theta, .CHN_HEM_STATUS_theta_valid, .CHN_HEM_STATUS_win_type]
      ++ [.CHN_HEM_STATUS_bcn_ok, .CHN_HEM_OFS_delta_m, .CHN_HEM_OFS_delta_valid, .CHN_ACCESS_CFG_cw_min0, .CHN_ACCESS_CFG_cw_max0, .CHN_ACCESS_CFG_cw_min1, .CHN_ACCESS_CFG_cw_max1, .CHN_ACCESS_CFG_cw_min2, .CHN_ACCESS_CFG_cw_max2, .CHN_ACCESS_CNT_no_ack, .CHN_ACCESS_CNT_prs_defer, .CHN_SCHED_CNT_dup_defer]
      ++ [.CHN_SCHED_CNT_ledger_defer, .CHN_SCHED_CNT_bcn_conflict, .CHN_SCHED_CNT_bcn_miss, .CHN_LEDGER_STATUS_masked, .CHN_LEDGER_STATUS_defined, .CHN_LEDGER_SEL_segment, .CHN_LEDGER_DATA_occ, .CHN_LEDGER_DATA_valid, .CHN_PTP_DELAY_delay, .CHN_PTP_DELAY_valid, .CHN_PTP_DELAY_tc_port]
  | 0x20 => [.COD_ID_version, .COD_ID_block_id, .COD_POOL_STATUS_vit_units, .COD_POOL_STATUS_ldpc_units, .COD_CAP_vit_cap, .COD_CAP_ldpc_cap, .COD_LDPC_CFG_ldpc_iter, .COD_DEFER_CNT_defer, .COD_DEFER_CNT_drop, .COD_PROT_CNT_prot_late, .COD_PROT_CNT_dec_borrow]
  | 0x24 => [.OLA_ID_version, .OLA_ID_block_id, .OLA_STATUS_next_on, .OLA_STATUS_fext_on, .OLA_STATUS_prec_on, .OLA_STATUS_self_on, .OLA_STATUS_fenced, .OLA_STATUS_upd_phase, .OLA_STATUS_sync_t, .OLA_STATUS_dsync_t, .OLA_CLASS_BASE_base, .OLA_CLASS_DIM_victims]
      ++ [.OLA_CLASS_DIM_nd, .OLA_LEARN_CFG_next_mu, .OLA_LEARN_CFG_fext_mu, .OLA_LEARN_CFG_prec_mu, .OLA_LEARN_CFG_div_n, .OLA_LEARN_MIN_next_min, .OLA_LEARN_MIN_fext_min, .OLA_LEARN_MIN_prec_min, .OLA_HOLD0_next_hold, .OLA_HOLD0_fext_hold, .OLA_HOLD1_prec_hold, .OLA_SYNC_CFG_sync_period]
      ++ [.OLA_SYNC_CFG_next_span, .OLA_SYNC_CFG_err_deadline, .OLA_SYNC_CFG_prec_clip, .OLA_DIV_CNT_diverge, .OLA_DIV_CNT_ecc_drop, .OLA_LOSS_CNT_loss_erase, .OLA_LOSS_CNT_next_unsafe, .OLA_ERR_CNT_err_used, .OLA_ERR_CNT_err_stale, .OLA_PAIRS_active, .OLA_PAIRS_learning]
  | 0x28 => [.HEM_ID_version, .HEM_ID_block_id, .HEM_STATUS_src_state, .HEM_STATUS_supply_valid, .HEM_STATUS_gauge_valid, .HEM_STATUS_hem_seq, .HEM_REF_CFG_ref_src, .HEM_REF_CFG_nominal, .HEM_REF_CFG_ref_line, .HEM_REF_CFG_ref_chan, .HEM_REF_CFG_slew, .HEM_PERIOD_p_cur]
      ++ [.HEM_FILTER_pf, .HEM_PHASE_ERR_err, .HEM_PHASE_ERR_err_valid, .HEM_REF_OFS_supply_ofs, .HEM_SRC_CNT_src_loss, .HEM_SRC_CNT_src_switch]
  | 0x2c => [.DLV_ID_version, .DLV_ID_block_id, .DLV_DESC_desc_free, .DLV_DESC_narrow, .DLV_DESC_PROT_prot_free, .DLV_INFLIGHT_if_free, .DLV_INFLIGHT_prot_if_free, .DLV_SEEN_seen_used, .DLV_CFG_abandon_ms, .DLV_CFG_prot_abandon_ms, .DLV_CFG2_retx_max, .DLV_CFG2_window]
      ++ [.DLV_CFG2_seen_life, .DLV_CFG2_flood_ttl, .DLV_CFG2_flood_rep, .DLV_TX_CNT_retx, .DLV_TX_CNT_abandon, .DLV_RX_CNT_dup, .DLV_RX_CNT_out_win, .DLV_RX_CNT2_skip, .DLV_RX_CNT2_rx_nodesc, .DLV_RX_CNT2_rx_drop, .DLV_RX_CNT2_peer_full, .DLV_EP_CNT_ep_unknown]
      ++ [.DLV_EP_CNT_ep_denied, .DLV_FLOOD_CNT_flood_dup, .DLV_FLOOD_CNT_ttl_end, .DLV_FLOOD_CNT_seen_evict, .DLV_MISC_CNT_late_ack, .DLV_MISC_CNT_leak, .DLV_MISC_CNT_flood_nodesc, .DLV_MISC_CNT_if_wait]
  | 0x30 => [.DRM_ID_version, .DRM_ID_block_id, .DRM_STATUS_rec_used, .DRM_STATUS_narrow, .DRM_CFG_drift_shift, .DRM_CFG_unc_floor, .DRM_CFG_tone_tries, .DRM_REC_SEL_record, .DRM_REC_DATA0_state, .DRM_REC_DATA0_channel, .DRM_REC_DATA0_misses, .DRM_REC_DATA0_group]
      ++ [.DRM_REC_DATA0_carrier, .DRM_REC_DATA1_addr, .DRM_REC_DATA1_period, .DRM_REC_DATA2_drift, .DRM_REC_DATA3_bound, .DRM_RDV_CNT_rdv_kept, .DRM_RDV_CNT_rdv_miss, .DRM_TONE_CNT_tones, .DRM_TONE_CNT_tone_wake, .DRM_MISC_CNT_rec_full, .DRM_MISC_CNT_ws_unknown, .DRM_MISC_CNT_tone_defer]
      ++ [.DRM_MISC_CNT_lost]
  | 0x34 => [.TIM_ID_version, .TIM_ID_block_id, .TIM_TICK_tick, .TIM_EP_BOARD_board_rx, .TIM_EP_BOARD_board_tx, .TIM_EP_LAT_rx_lat, .TIM_EP_LAT_tx_lat, .TIM_EP_DELAY_delay, .TIM_EP_DELAY_valid, .TIM_PTP_CNT_ts_suspect, .TIM_PTP_CNT_loop_drop, .TIM_PTP_CNT2_late]
      ++ [.TIM_PTP_CNT2_far, .TIM_PTP_CNT2_no_pdelay, .TIM_PTP_CNT2_unsupported, .TIM_TB_CFG_role, .TIM_TB_CFG_domain, .TIM_TB_CFG_lock_ns, .TIM_TB_STATUS_tb_state, .TIM_TB_STATUS_qualified, .TIM_TB_STATUS_gm_class, .TIM_TB_STATUS_ho_s, .TIM_TB_TIME_time, .TIM_TB_RATE_rate]
      ++ [.TIM_TB_OFFSET_theta, .TIM_TB_SERVO_kp, .TIM_TB_SERVO_ki, .TIM_TB_STEP_step_ns, .TIM_TB_CNT_steps, .TIM_TB_CNT_offsets, .TIM_PAIR_STATUS_on_secondary, .TIM_PAIR_STATUS_slewing, .TIM_PAIR_STATUS_switches, .TIM_PAIR_PHI_phi]
  | 0x38 => [.GAU_ID_version, .GAU_ID_block_id, .GAU_BLANK_STATUS_pin, .GAU_BLANK_STATUS_asserted, .GAU_CH_CFG_exc_on, .GAU_CH_CFG_exc_restart, .GAU_CH_CFG_rc_mode, .GAU_CH_CFG_dcb_freeze, .GAU_CH_CFG_amp, .GAU_CH_FTW_ftw, .GAU_CH_STATUS_g_state, .GAU_CH_STATUS_cpl_fault]
      ++ [.GAU_CH_STATUS_sense_fault, .GAU_CH_STATUS_uns, .GAU_CH_STATUS_no_gauge, .GAU_CH_STATUS_range0, .GAU_CH_STATUS_range1, .GAU_CH_STATUS_z_valid, .GAU_CH_Z_z, .GAU_CH_K_k, .GAU_CH_CNT_rc_cnt, .GAU_CH_CNT_gap_cnt, .GAU_CH_CNT_chk_fail, .GAU_CH_CNT_chk_skip]
  | 0x3a => [.SRG_ID_version, .SRG_ID_block_id, .SRG_STATUS_on, .SRG_STATUS_regions_free, .SRG_STATUS_blocks, .SRG_REGION_state, .SRG_REGION_short, .SRG_REGION_gap, .SRG_REGION_trigger, .SRG_CNT_arrivals, .SRG_CNT_frz_full, .SRG_CNT_frz_merged]
      ++ [.SRG_CNT2_gap_blocks, .SRG_CNT2_arr_head]
  | 0x3c => [.HST_ID_version, .HST_ID_block_id, .HST_STATUS_prp_on, .HST_STATUS_goose_pcp, .HST_PRP_CNT_prp_dup, .HST_PRP_CNT_prp_wrong_lan, .HST_GOOSE_CNT_goose_in, .HST_GOOSE_CNT_goose_unmap, .HST_GOOSE_CNT_goose_ovf, .HST_TMB_CAP_cm, .HST_TMB_CNT_mem_wait, .HST_TMB_CNT_mem_borrow]
      ++ [.HST_PORT_STATUS_link_up, .HST_PORT_STATUS_mode, .HST_PORT_STATUS_fec_lock, .HST_PORT_STATUS_an_done, .HST_PORT_CNT_fcs_err, .HST_PORT_CNT_mac_drop, .HST_PORT_CNT2_vid_drop, .HST_PORT_CNT2_etype_drop]
  | 0x3e => [.PNL_RING_IDX_cmd_tail, .PNL_RING_IDX_cmd_head, .PNL_RING_IDX_rsp_tail, .PNL_RING_IDX_rsp_head, .PNL_ID_instance, .PNL_ID_version, .PNL_ID_block_id, .PNL_STATUS_defined, .PNL_STATUS_in_band, .PNL_STATUS_rights, .PNL_AIR_air_left, .PNL_AIR_air_borrowed]
      ++ [.PNL_DEC_dec, .PNL_DEC_dec_used, .PNL_CREDIT_ret_lo, .PNL_CREDIT_ret_hi, .PNL_ALIAS_FAULT_CNT_count, .PNL_EXPERT_DENY_CNT_count, .PNL_OHI_WRONG_CNT_count, .PNL_CMD_OVF_CNT_count, .PNL_THIMBLE_CNT_air_wait, .PNL_THIMBLE_CNT_credit_drop, .PNL_HO_CNT_ho_err, .PNL_HO_CNT_right_deny]
      ++ [.PNL_HO_CNT_q_age_drop]
  | 0x40 => [.SER_ID_instance, .SER_ID_version, .SER_ID_block_id, .SER_STATUS_function, .SER_STATUS_class, .SER_STATUS_awake, .SER_STATUS_osc_on, .SER_STATUS_de, .SER_STATUS_div_pending, .SER_STATUS_rx_level, .SER_STATUS_tx_level, .SER_DIV_div]
      ++ [.SER_RX_DATA_data, .SER_RX_DATA_parity, .SER_RX_DATA_frame, .SER_RX_DATA_brk, .SER_RX_DATA_ovr, .SER_RX_DATA_valid, .SER_TX_DATA_data, .SER_CNT_overrun, .SER_CNT_frm_err, .SER_CNT_par_err, .SER_CNT_false_start, .SER_CNT2_msg_out]
      ++ [.SER_CNT2_msg_bad, .SER_CNT2_tx_ovf]
  | 0x41 => [.CMD_ID_version, .CMD_ID_block_id, .CMD_IN_STATE_asserted, .CMD_IN_STATE_pin, .CMD_OUT_STATE_active, .CMD_OUT_STATE_forced, .CMD_CT_CFG_function, .CMD_CT_CFG_mode, .CMD_CT_CFG_invert, .CMD_CT_CFG_debounce, .CMD_CNT_cmd_stale, .CMD_CNT_cmd_bad]
      ++ [.CMD_CNT_watch_exp, .CMD_CNT_cmd_merge]
  | 0x42 => [.BOB_ID_version, .BOB_ID_block_id, .BOB_STATUS_working, .BOB_STATUS_spares, .BOB_ENG_SEL_engine, .BOB_ENG_DATA_role, .BOB_ENG_DATA_share, .BOB_ENG_DATA_fault, .BOB_ENG_DATA_gated, .BOB_ENG_DATA_lm_ce, .BOB_ENG_DATA_slice_wait, .BOB_FW_fw_version]
  | 0x50 => [.HBM_ID_version, .HBM_ID_block_id, .HBM_STATUS_trained, .HBM_STATUS_fenced, .HBM_STATUS_self_refresh, .HBM_STATUS_temp_max, .HBM_ECC_CNT_ce, .HBM_ECC_CNT_ue, .HBM_SCRUB_CFG_scrub_cap, .HBM_SCRUB_CFG_cal_s, .HBM_SCRUB_STATUS_position, .HBM_SCRUB_STATUS_passes]
      ++ [.HBM_MISC_CNT_cal_late, .HBM_MISC_CNT_log_drop, .HBM_MISC_CNT_retired]
  | 0x60 => [.EVT_ID_version, .EVT_ID_block_id, .EVT_STATUS_head, .EVT_STATUS_wrapped, .EVT_PNL_RD_rd, .EVT_PNL_CFG_sev_min, .EVT_PNL_CFG_irq_ev, .EVT_PNL_CFG_irq_rsp, .EVT_PNL_CNT_pending, .EVT_PNL_CNT_lost]
  | 0x70 => [.TEL_ID_version, .TEL_ID_block_id, .TEL_CFG_tel_on, .TEL_CFG_tel_period, .TEL_STATUS_tel_seq, .TEL_STATUS_tel_words, .TEL_CNT_tel_drop]
  | _ => []

/-- The block whose span of R522 holds an address, as its `block_id`; none outside every span. -/
def blkOf (a : Nat) : Option Nat :=
  if 0x0 ≤ a ∧ a < 0x1000 then some 0x0
  else if 0x10000 ≤ a ∧ a < 0x11000 then some 0x1
  else if 0x20000 ≤ a ∧ a < 0x21000 then some 0x2
  else if 0x30000 ≤ a ∧ a < 0x31000 then some 0x3
  else if 0x40000 ≤ a ∧ a < 0x41000 then some 0x4
  else if 0x80000 ≤ a ∧ a < 0x90000 then some 0x8
  else if 0x100000 ≤ a ∧ a < 0x118000 then some 0x10
  else if 0x180000 ≤ a ∧ a < 0x1b0000 then some 0x18
  else if 0x200000 ≤ a ∧ a < 0x201000 then some 0x20
  else if 0x240000 ≤ a ∧ a < 0x241000 then some 0x24
  else if 0x280000 ≤ a ∧ a < 0x281000 then some 0x28
  else if 0x2c0000 ≤ a ∧ a < 0x2c1000 then some 0x2c
  else if 0x300000 ≤ a ∧ a < 0x301000 then some 0x30
  else if 0x340000 ≤ a ∧ a < 0x341000 then some 0x34
  else if 0x380000 ≤ a ∧ a < 0x384000 then some 0x38
  else if 0x3a0000 ≤ a ∧ a < 0x3a1000 then some 0x3a
  else if 0x3c0000 ≤ a ∧ a < 0x3c1000 then some 0x3c
  else if 0x3e0000 ≤ a ∧ a < 0x3f0000 then some 0x3e
  else if 0x400000 ≤ a ∧ a < 0x400800 then some 0x40
  else if 0x410000 ≤ a ∧ a < 0x411000 then some 0x41
  else if 0x420000 ≤ a ∧ a < 0x421000 then some 0x42
  else if 0x500000 ≤ a ∧ a < 0x501000 then some 0x50
  else if 0x600000 ≤ a ∧ a < 0x640000 then some 0x60
  else if 0x700000 ≤ a ∧ a < 0x750000 then some 0x70
  else none

end Sys2Proof.Machine
end

