-- ==== Sys2Proof/Machine/Types2.lean ====
section
/-! DEFINITION. Plain data of the timebases, the Seam lanes, Gauge and Cast. -/

namespace Sys2Proof.Machine

/-- An anchor of a timebase (R545): tick, value in 2^-16 ns, rate in Q8 ppb; for an OUTPUT the φ in force and its slew in
ns/s (R325, R326); `jump` marks a step, TIM_SET or switch. -/
structure Anchor where
  tick : Nat
  val : Int
  rate : Int := 0
  phi : Int := 0
  slew : Nat := 0
  jump : Bool := false
  deriving DecidableEq, Repr

/-- A grandmaster heard by Announce (R321): the fields of the data-set comparison in its order, the last being the
identity of the grandmaster's sender. -/
structure Gm where
  port : Nat
  srcId : Nat
  srcPort : Nat
  key : List Nat
  cls : Nat
  deriving DecidableEq, Repr

/-- A two-step Sync a timebase waits to complete (R321): its identity, TBk at its arrival in 2^-16 ns, correction and
port delay. -/
structure SyncWait where
  srcId : Nat
  srcPort : Nat
  seq : Nat
  at16 : Int
  corr : Int
  delay : Int
  tick : Nat
  deriving DecidableEq, Repr

/-- A timebase (R304, R322, R324): anchors newest first, the integral term in 2^-32 ppb, the ticks of its last offsets
newest first, the run of good offsets, its grandmasters and the Sync it waits on or used last. -/
structure Tb where
  anchors : List Anchor := []
  integ : Int := 0
  offs : List Nat := []
  good : Nat := 0
  gms : List Gm := []
  wait : List SyncWait := []
  lastSync : Option (Nat × Nat) := none
  qualFrom : Option Nat := none
  hoTick : Nat := 0
  deriving DecidableEq, Repr

/-- A held correction of a two-step Sync (R316). -/
structure HeldR where
  srcId : Nat
  srcPort : Nat
  domain : Nat
  seq : Nat
  port : Nat
  r : Int
  tick : Nat
  deriving DecidableEq, Repr

/-- A forwarded tuple (R315). -/
structure FwdTuple where
  srcId : Nat
  srcPort : Nat
  domain : Nat
  typ : Nat
  seq : Nat
  tick : Nat
  deriving DecidableEq, Repr

/-- The peer-delay initiator of a port (R317): sequence of the last request, its departure, what a two-step response
gave, the run of requests unanswered, and D in 2^-16 ns. -/
structure PdSt where
  seq : Nat := 0
  t1 : Option Rat := none
  t4 : Rat := 0
  c : Int := 0
  t2 : Option Int := none
  missed : Nat := 0
  reqAt : Option Nat := none
  d : Option Int := none
  deriving DecidableEq, Repr

/-- Time (chapter 10). `ppsIn` is the tick of the last PPS_IN edge, `ppsEdge` that of the last PPS_OUT edge with the
seconds, utc offset and state it sent, `todLine` the last line sent on TOD_TX. -/
structure TimSt where
  tbs : Tbl Tb := []
  fwd : List FwdTuple := []
  held : List HeldR := []
  pd : Tbl PdSt := []
  out : List PtpOut := []
  utc : Int := 0
  ppsIn : Option Nat := none
  ppsEdge : Option Nat := none
  todDue : Option (Nat × Int × Nat) := none
  todLine : List Byte := []
  deriving DecidableEq, Repr

/-- Why the module sent a control message (R340, R341). -/
inductive CtlWhy where
  | calib | trim | enable | coupling (ch : Nat) | gauge (ch : Nat) | check (ch : Nat) | host (cmd : Cmd) (opcode : Nat)
  deriving DecidableEq, Repr

/-- A control message to a head (R340): outstanding or waiting, with the tick it was sent at (R341). -/
structure CtlMsg where
  tag : Nat
  write : Bool
  addr : Nat
  data : Nat
  why : CtlWhy
  repeats : Nat := 0
  sentAt : Nat := 0
  deriving DecidableEq, Repr

/-- A downstream frame (R338): its number, the samples of its ten ticks (tick j, slot s at 24j + s), its excitation words (slot, tag and
sample, none where not valid), the ramp codes of the slots, `cal_mark`, and its two control messages of 96 bits. -/
structure DownFrame where
  n : Nat
  samples : List Int := []
  exc : List (Option (Nat × Nat × Int)) := []
  ramps : List Nat := []
  cal : Bool := false
  ctl : List Nat := []
  deriving DecidableEq, Repr

/-- What a lane holds beside its registers: runs of good and bad frames, the last frame counter, control messages outstanding and
queued, the tags that wait for a downstream frame, the downstream frames of the slot in progress (R338), what the head told, the P acknowledged and the mismatches in a row, the last status fields, the first ticks of the
frames that failed to decode (R355), the slot it was lost in and its transmissions committed then (R214), the tick it entered FAULT at. -/
structure Lane where
  used : Bool := false
  signal : Bool := false
  good : Nat := 0
  bad : Nat := 0
  lastCount : Option Nat := none
  nextTag : Nat := 0
  out : List CtlMsg := []
  queue : List CtlMsg := []
  toSend : List Nat := []
  down : List DownFrame := []
  headId : Nat := 0
  headVer : Nat := 0
  caps : Nat := 0
  enabled : Bool := false
  pAck : Option Nat := none
  calBad : Nat := 0
  latRead : Bool := false
  clip : Nat := 0
  paOn : Nat := 0
  slotFault : Nat := 0
  headState : Nat := 0
  events : List Nat := []
  zeroed : List Nat := []
  lostSlot : Option Nat := none
  lostTx : List (Nat × Nat) := []
  faultAt : Nat := 0
  deriving DecidableEq, Repr

/-- The Seam link (chapter 11): lanes, the analogue latencies of each channel in 0.1 ns (SLOT_LAT: transmit, receive)
its reference impedance (SLOT_REF: resistance in 0.1 Ω, capacitance in 0.1 nF) and the spans of ticks in which its ramp
code is not IDLE (R347), newest first; of each channel that sent in the last slot, its last ten samples and the ramp-down tail
that follows (R113). -/
structure HlkSt where
  lanes : Tbl Lane := []
  slotLat : Tbl (Nat × Nat) := []
  slotRef : Tbl (Nat × Nat) := []
  ramps : Tbl (List (Nat × Nat)) := []
  past : Tbl (List Rat × List Rat) := []
  deriving DecidableEq, Repr

/-- An input of a gauge path: normalised value and flags blk, gap, rc, clip as bits 0 to 3 (R359 to R365). -/
structure GaugeIn where
  x : Int := 0
  flags : Nat := 0
  deriving DecidableEq, Repr

/-- A decimation chain (R363): integrators, the comb delay lines, inputs taken since the start, the index after the last
input with each of the flags blk, gap, rc and clip (R365), the input index up to which outputs are `uns` (R368), the
decimated words not yet combed (word, flags with bit 4 `uns`, period of the last input), and the last output. -/
structure Chain where
  ints : List Nat := []
  combs : List (List Nat) := []
  n : Nat := 0
  lastFlag : List Nat := [0, 0, 0, 0]
  unsUntil : Nat := 0
  ready : List (Nat × Nat × Nat) := []
  outN : Nat := 0
  last : Int := 0
  lastFlags : Nat := 0
  lastPeriod : Nat := 0
  deriving DecidableEq, Repr

/-- Who drives a gauge DAC from a period on (R366, R372): 0 nobody, 1 the excitation NCO, 2 the check NCO; the phase
at that period, the frequency word and the amplitude. -/
structure Nco where
  from_ : Nat
  who : Nat
  phase : Nat
  ftw : Nat
  amp : Nat
  deriving DecidableEq, Repr

/-- Gauge of a channel (chapter 12): its item, whether the excitation interval runs, the next period of each path, the
samples that wait for an earlier one, the last normalised input, the delay lines of `rc_mode` 1, the chains I, Q and V,
the DC blocker, the NCOs newest first, the excitation switches to come, a check in progress, the impedance and fault
runs, the crossing detector. -/
structure GauCh where
  item : GaugeItem := { channel := 0 }
  excDue : Bool := false
  excFrom : Nat := 0
  chkAt : Nat := 0
  next : List (Option Nat) := [none, none]
  wait : List (Nat × Nat × GaugeIn) := []
  prev : List GaugeIn := [{}, {}]
  delay : List (List GaugeIn) := [[], []]
  lastOut : List GaugeIn := [{}, {}]
  chainI : Chain := {}
  chainQ : Chain := {}
  chainV : Chain := {}
  dcH : Rat := 0
  yPrev : Rat := 0
  flagsPrev : Nat := 0
  armedLow : Bool := false
  ncos : List Nco := []
  switches : List Nat := []
  chkRef : Bool := false
  chkCal : Bool := false
  chkZ : List Cx := []
  chkOuts : Nat := 0
  chkFails : Nat := 0
  badRun : Nat := 0
  goodRun : Nat := 0
  deriving DecidableEq, Repr

/-- A BLANK input (R376): its level, and the spans it was high in (rise and fall), newest first. -/
structure BlankIn where
  high : Bool := false
  spans : List (Nat × Option Nat) := []
  deriving DecidableEq, Repr

/-- The states of a freeze region (R384). -/
inductive RegionSt where
  | free | collecting | held | exporting
  deriving DecidableEq, Repr

/-- A freeze region (R383, R384): trigger tick and kind, the first and the last tick it asks for, the order it was taken in and
the run of the tick counter its ticks are of, and the export in progress: its issuer, queue class, channels asked, channel and number of its next sample. -/
structure Region where
  st : RegionSt := .free
  trig : Nat := 0
  kind : Nat := 0
  short : Bool := false
  start : Nat := 0
  stop : Nat := 0
  order : Nat := 0
  era : Nat := 0
  mask : Nat := 0
  cmd : Cmd := ⟨0, 0⟩
  cls : Nat := 0
  expCh : Nat := 0
  expAt : Nat := 0
  deriving DecidableEq, Repr

/-- A block of the Cast ring (R379, R380): first tick, gap flag, the samples stored in it so far, what its place in the
ring held before, and the run of the tick counter its ticks are of. -/
structure CastBlock where
  first : Nat
  gap : Bool
  samples : List Nat
  old : List Nat := []
  era : Nat := 0
  deriving DecidableEq, Repr

/-- An arrival record (R382) as its 24 bytes hold it. -/
structure Arrival where
  tick : Nat
  ns : Nat
  ch : Nat
  flags : Nat
  seq : Nat
  peak : Nat
  sec : Nat
  nsec : Nat
  deriving DecidableEq, Repr

/-- Gauge and Cast (chapter 12): the channels' gauges, the BLANK inputs, the ring's blocks by channel and index, the
block each channel writes, bytes written in the slot and whether the budget stopped the writer in it, detectors' dead
times and means μ (R381), arrivals, regions and the recent arrivals a trigger counts; `era` counts the restarts of the tick counter that what
is kept of Cast has seen. -/
structure GauSt where
  chans : Tbl GauCh := []
  blanks : Tbl BlankIn := []
  sealTick : Nat := 0
  blocks : Tbl CastBlock := []
  pos : Tbl Nat := []
  slotBytes : Nat := 0
  slotBorrow : Nat := 0
  slotStop : Bool := false
  dead : Tbl Nat := []
  mean : Tbl Rat := []
  arrivals : Tbl Arrival := []
  arrN : Nat := 0
  regions : Tbl Region := []
  order : Nat := 0
  era : Nat := 0
  recent : List (Nat × Nat) := []
  deriving DecidableEq, Repr

end Sys2Proof.Machine
end

