-- ==== Sys2Proof/Machine/Types3.lean ====
section
/-! DEFINITION. Plain data of the serial ports, the command contacts, the Bobbins, stacked memory and flash, security,
reset and power. -/

namespace Sys2Proof.Machine

/-- A serial port beside its registers (R415 to R427): its item, the FIFOs (a received character as `SER_RX_DATA`
shows it; bit 14 of an entry closes the open message after it), whether the next stored character carries `ovr`, whether
start detection is armed, the divisors in use and the directions still to take the shadow, the characters of the open
message, the closed messages, the transmit buffer (bit 8 an address character) and shifter, and the item the port starts
under once its shifters are done; the tick of the last stop sample, of the end of the character last sent and of the transmit FIFO's
last becoming empty. -/
structure SerPort where
  item : Option SerItem := none
  rx : List Nat := []
  tx : List Nat := []
  ovrNext : Bool := false
  armed : Bool := true
  rxPend : Bool := false
  txPend : Bool := false
  rxDiv : Nat := 0
  txDiv : Nat := 0
  run : List Nat := []
  ready : List (List Byte) := []
  out : List Nat := []
  shift : Option Nat := none
  swap : Option (Option SerItem) := none
  rxEnd : Nat := 0
  txEnd : Nat := 0
  emptyAt : Nat := 0
  deriving DecidableEq, Repr

/-- A command output (R433, R434): underlying state, forced level and the tick its forced time ends at, whether a pulse runs and
the tick it started at, the bit last applied and whether the watchdog released it. -/
structure OutPin where
  active : Bool := false
  forced : Option Bool := none
  forceEnd : Nat := 0
  pulse : Bool := false
  pulseAt : Nat := 0
  last : Bool := false
  watched : Bool := false
  deriving DecidableEq, Repr

/-- A group of contacts (R430, R432): the sequence of the message last built, whether one was, the number of the message (of
the first flood copy) it was last handed over as, whether it waits for a descriptor, the tick it was built at; the sequence
last applied, whether a message arrived and the tick of the last one. -/
structure CmdGroup where
  seq : Nat := 0
  built : Bool := false
  mid : Option Nat := none
  waits : Bool := false
  sentAt : Nat := 0
  rxSeq : Option Nat := none
  seen : Bool := false
  rxAt : Nat := 0
  deriving DecidableEq, Repr

/-- The command contacts (chapter 14): outputs, groups, the level and first tick of a change not yet accepted, the tick
of the change last accepted of an input. -/
structure CmdSt where
  outs : Tbl OutPin := []
  groups : Tbl CmdGroup := []
  edges : Tbl (Bool × Nat) := []
  changed : Tbl Nat := []
  deriving DecidableEq, Repr

/-- A Bobbin (R437, R444). `fencing` is the cause of a fence that takes effect at the next slot boundary. -/
structure Bob where
  role : Nat := 0
  share : Bool := false
  owner : List Nat := []
  fault : Bool := false
  fencing : Option Nat := none
  lmCe : Nat := 0
  sliceWait : Nat := 0
  deriving DecidableEq, Repr

/-- The Bobbins, and those whose item waits for a SPARE at the next Hem boundary. -/
structure BobSt where
  bobs : Tbl Bob := []
  moves : List Nat := []
  deriving DecidableEq, Repr

/-- Stacked memory and the log flash (R447, R454, R455, R457): the scrub address in bytes, the uncorrectable bursts of the
Hem, corrected errors of a row in consecutive passes, rows reported, the tick each pseudo-channel was last calibrated at,
entries staged and in flash, the blocks retired and the erases made. -/
structure HbmSt where
  scrub : Nat := 0
  ueHem : Nat := 0
  calAt : Tbl Nat := []
  staged : List Ev := []
  flash : List Ev := []
  spares : Nat := 0
  erases : Nat := 0
  deriving DecidableEq, Repr

/-- A link key (R471). -/
structure LinkKey where
  key : List Byte
  ctr : Nat := 0
  deriving DecidableEq, Repr

/-- The highest accepted counter of a sender and key slot on a channel, and its floor (R474). -/
structure CtrFloor where
  ch : Nat
  sender : Nat
  kidx : Nat
  high : Nat
  floor : Option Nat := none
  deriving DecidableEq, Repr

/-- An owner slot (R459, R466). -/
structure OwnerSlot where
  digest : Nat := 0
  blown : Bool := false
  valid : Bool := false
  revoked : Bool := false
  deriving DecidableEq, Repr

/-- A firmware partition (R463, R464). -/
structure FwPart where
  bytes : Memory := []
  valid : Bool := false
  deriving DecidableEq, Repr

/-- Security (chapter 16). Keys are by panel × 4 + slot; `txSel` by channel holds slot + 1. `ownerPk` is the key record of
the enrolment partition, `fwRun` the partition running, `fwErased` tells its counterpart was erased since, and `secret` is
the device secret, which nothing reads out; `report` tells the staging area holds an attestation report. -/
structure SecSt where
  keys : Tbl LinkKey := []
  txSel : Tbl Nat := []
  floors : List CtrFloor := []
  ohiKeys : Tbl (List Byte) := []
  ohiSeq : Tbl Nat := []
  stage : Memory := []
  stageLen : Nat := 0
  report : Bool := false
  owners : List OwnerSlot := [{}, {}, {}, {}]
  ownerPk : List Byte := []
  rootDigest : Nat := 0
  cert : List Byte := []
  parts : Tbl FwPart := []
  fwRun : Nat := 0
  fwErased : Bool := false
  chal : Option (List Byte × Nat) := none
  debugEnd : Nat := 0
  secret : Nat := 0
  tamperOff : Bool := false
  tamperLog : Bool := false
  deriving DecidableEq, Repr

/-- The power states of R491. -/
inductive PwrState where
  | run | gasp | keep
  deriving DecidableEq, Repr

/-- Reset and power (chapter 17): the level a reset asserts until its release (R482), whether the thermal brown-out of
R520 persists, whether the AON domain itself has no supply, the software reset due (level, tick), the PLANE sources that wait
for the loader (R483), the start-up step awaited (1 firmware verification, 2 memory training, 0 none), the level being
released, the power state, the tick of an input loss, whether PWR_KEEP entered GASP, whether the supply comparator of a KEEP
is armed (R495), GASP's entry and the messages sent in it by channel, the tick at which the AON time of day was last set and
the ms it held beyond whole seconds, the BLANK0 records in ms, the blocks being reset (type, index, the
command that asked), the carve items and the
CAST section of the pattern before a WARM reset (R386, R487), the units fenced off (type, index), and the tick at which a clock slew
began (R502). -/
structure RstSt where
  level : Option Nat := none
  heat : Bool := false
  off : Bool := false
  soft : Option (Nat × Nat) := none
  waiting : List Nat := []
  boot : Nat := 1
  bootLevel : Nat := 3
  pwr : PwrState := .run
  lostAt : Option Nat := none
  byKeep : Bool := false
  keepArmed : Bool := false
  gaspAt : Nat := 0
  gaspSent : Tbl Nat := []
  todAt : Nat := 0
  todMs : Nat := 0
  blankRing : List Nat := []
  blocks : List (Nat × Nat × Cmd) := []
  sealedBefore : List CarveItem := []
  castBefore : CastSec := {}
  fenced : List (Nat × Nat) := []
  slewAt : Nat := 0
  deriving DecidableEq, Repr

end Sys2Proof.Machine
end

