-- ==== Sys2Proof/Machine/Types4.lean ====
section
/-! DEFINITION. Plain data of the pattern loader. -/

namespace Sys2Proof.Machine

/-- A flash pattern slot (R66, R68). -/
structure FlashSlot where
  bytes : List Byte := []
  valid : Bool := false
  deriving DecidableEq, Repr

/-- A panel pattern: verified and waiting for its Hem boundary, or in effect (R59): its sections, the tick of its commit and
its bytes before the signature (R50), and the PATTERN_COMMIT it answers. -/
structure PanelPat where
  pat : Pat
  tick : Nat
  bytes : List Byte
  cmd : Option Cmd := none
  deriving DecidableEq, Repr

/-- The loader (R53 to R68). `stage` and `top` are the staging region and the number of bytes staged; `kind`, `panel` and
`by_` are those of PATTERN_BEGIN and its issuer; `flash` is the slot a load without the driver comes from and `sources` the
slots still to try; `parsed` the pattern being applied; `accept` the accepted set a load that ends without a seal restores; `image` the bytes of
the sealed full pattern; `pend` and `inEffect` the panel patterns by panel, `serials` the serial each panel's last one had;
`slots` the flash slots and `storing` the one being written. -/
structure LdrSt where
  stage : Memory := []
  top : Nat := 0
  kind : Nat := 0
  panel : Nat := 0
  by_ : Nat := 0
  cmd : Option Cmd := none
  commitAt : Nat := 0
  flash : Option Nat := none
  sources : List Nat := []
  parsed : Option Pat := none
  accept : Nat := 0
  image : List Byte := []
  pend : Tbl PanelPat := []
  inEffect : Tbl PanelPat := []
  serials : Tbl Nat := []
  slots : Tbl FlashSlot := []
  storing : Option Nat := none
  deriving DecidableEq, Repr

end Sys2Proof.Machine
end

