-- ==== Sys2Proof/Machine/State.lean ====
section
/-! DEFINITION. The machine's state, as plain data, its reasons to stop, and the state right after reset. -/

namespace Sys2Proof.Machine

/-- Reasons a step could fault. No meaning of this model faults: the spec answers, counts or ignores every command. -/
inductive Fault where
  | none
  deriving DecidableEq, Repr

/-- Reasons a step could be refused: `notModelled` stands in the arms of commands without a meaning (safe: the
machine stops where the hardware goes on). -/
inductive Refusal where
  | notModelled (mnemonic : String)
  deriving DecidableEq, Repr

/-- The state: the queue of commands waiting, the register fields off their resets, the telemetry accumulators (R534),
the tick counter (R303), the counter of free values drawn, and the blocks' own state. -/
structure State where
  pending : List Instr := []
  regs : Tbl Nat := []
  tel : Tbl Nat := []
  tick : Nat := 0
  free : Nat := 0
  mgmt : MgmtSt := {}
  pat : Pat := {}
  full : Option Pat := none
  grid : GridSt := {}
  chans : Tbl Chan := []
  ola : OlaSt := {}
  dlv : DlvSt := {}
  host : HostSt := {}
  drm : DrmSt := {}
  tim : TimSt := {}
  hlk : HlkSt := {}
  gau : GauSt := {}
  ser : Tbl SerPort := []
  cmd : CmdSt := {}
  bob : BobSt := {}
  hbm : HbmSt := {}
  sec : SecSt := {}
  rst : RstSt := {}
  ldr : LdrSt := {}
  deriving DecidableEq, Repr

/-- The machine right after COLD reset, every register field at its reset value (R20). -/
def State.reset : State := {}

end Sys2Proof.Machine
end

