-- ==== Sys2Proof/Machine/Ops.lean ====
section
/-! DEFINITION. The named operations over the state that every family shares: register fields, counters and their
telemetry, events, features, ownership, channel state, responses. -/

namespace Sys2Proof.Machine

/-- The values FUSE fields hold in the device modelled (log 2): all units working, no owner, levels 0, host-port latencies
at the nominal values of R309 for 100 Gb/s; the variant 0 (GWY-7192-U) and the MAC address 0 are the model's choice (R5; DESIGN
CHOICE, log 2). -/
def fuseValue (F : Fld) (i : Nat) : Nat :=
  match F with
  | .CHN_ID_instance | .PIPE_ID_instance | .HLK_ID_instance | .PNL_ID_instance | .SER_ID_instance => i
  | .COD_POOL_STATUS_vit_units => 48
  | .COD_POOL_STATUS_ldpc_units => 32
  | .BOB_STATUS_working => 256
  | .RST_MAP_map => 0x2A96AA
  | .TIM_EP_LAT_rx_lat => 664
  | .TIM_EP_LAT_tx_lat => 576
  | _ => 0

/-- The reset value of a field (R20); PAT and X fields hold 0 until they are loaded (log 1). -/
def Fld.resetAt (F : Fld) (i : Nat) : Nat :=
  match F.info.rst with
  | .val n => if F = .GAU_CH_K_k then (if i % 2 = 0 then 0x10000 else 0) else n
  | .pat | .x => 0
  | .fuse => fuseValue F i % 2 ^ F.info.width

/-- The number of a field in its order. -/
def Fld.num (F : Fld) : Nat := F.ctorIdx

/-- The key of a field's instance. -/
def Fld.key (F : Fld) (i : Nat) : Nat := F.num + 1024 * i

/-- The width of a field. -/
def Fld.width (F : Fld) : Nat := F.info.width

/-- A register field's stored value. -/
def State.fld (s : State) (F : Fld) (i : Nat) : Nat := tget (F.resetAt i) (F.key i) s.regs

/-- The value of a field that takes effect at the slot boundary after its write: the one in force. -/
def State.effFld (s : State) (F : Fld) (i : Nat) : Nat := (tfind (F.key i) s.grid.late).getD (s.fld F i)

/-- Set a register field, held to its width. -/
def State.setFld (s : State) (F : Fld) (i v : Nat) : State :=
  { s with regs := tput (F.resetAt i) (F.key i) (v % 2 ^ F.width) s.regs }

/-- Set a one-bit field. -/
def State.setFlag (s : State) (F : Fld) (i : Nat) (b : Bool) : State := s.setFld F i (b2n b)

/-- A one-bit field as a truth value. -/
def State.flag (s : State) (F : Fld) (i : Nat) : Bool := s.fld F i == 1

/-- Count `n` events in an RC counter: saturating (R19), its telemetry accumulator wrapping (R534). -/
def State.bumpN (s : State) (F : Fld) (i n : Nat) : State :=
  let s := s.setFld F i (min (s.fld F i + n) (2 ^ F.width - 1))
  { s with tel := tput 0 (F.key i) ((tget 0 (F.key i) s.tel + n) % 2 ^ 32) s.tel }

/-- Count one event. -/
def State.bump (s : State) (F : Fld) (i : Nat) : State := s.bumpN F i 1

/-- Count `n` events in a counter that wraps (R19). -/
def State.bumpWrapN (s : State) (F : Fld) (i n : Nat) : State :=
  let s := s.setFld F i (s.fld F i + n)
  { s with tel := tput 0 (F.key i) ((tget 0 (F.key i) s.tel + n) % 2 ^ 32) s.tel }

/-- Count one event in a counter that wraps (R19). -/
def State.bumpWrap (s : State) (F : Fld) (i : Nat) : State := s.bumpWrapN F i 1

/-- The next free value, and the state with the counter advanced. -/
def State.drawFree (s : State) : Nat × State := (Config.freeValue s.free, { s with free := s.free + 1 })

/-- A uniform draw from 0 to n - 1 (R247). -/
def State.drawBelow (s : State) (n : Nat) : Nat × State :=
  (if n = 0 then 0 else Config.draw s.free % n, { s with free := s.free + 1 })

/-- The severity of an event code (R531). -/
def evSev (code : Nat) : Nat :=
  match code with
  | 0x0001 | 0x0206 | 0x0301 | 0x1801 | 0x1803 | 0x3402 | 0x3A01 | 0x4102 | 0x6001 => 0
  | 0x0402 | 0x4203 => 3
  | 0x0002 | 0x0201 | 0x0204 | 0x0205 | 0x0207 | 0x0401 | 0x0801 | 0x2001 | 0x2402 | 0x2802 | 0x2C03 | 0x3801
  | 0x3802 | 0x4201 | 0x5001 => 2
  | _ => 1

/-- The event ring's write position (R529). -/
def State.evHead (s : State) : Nat := s.fld .EVT_STATUS_head 0

/-- The newest entry of the event ring. -/
def State.evNewest (s : State) : Option Ev :=
  if s.mgmt.live = 0 then none else tfind ((s.evHead + 8191) % 8192) s.mgmt.ring

/-- Whether an entry is a panel's to read (R532). -/
def evFor (p : Nat) (e : Ev) : Bool := p == 0 || e.panel == p

/-- The panels whose read position falls behind as the oldest live entry at `old` stops being live: each moves to
`nxt` and counts the entry in `lost` where it was its own (R532). -/
def evPush (old nxt : Nat) (e : Option Ev) : List Nat → State → State
  | [], s => s
  | p :: ps, s =>
    let s := if s.fld .EVT_PNL_RD_rd p = old then
        let s := s.setFld .EVT_PNL_RD_rd p nxt
        if e.any (evFor p) then s.bump .EVT_PNL_CNT_lost p else s
      else s
    evPush old nxt e ps s

/-- Entries the log staging buffer of 1 MiB holds (R445, R529). -/
def stageMax : Nat := 43690

/-- Stage an entry for the flash log (R457, R529): where the buffer is full the oldest gives way. -/
def State.stageLog (s : State) (e : Ev) : State :=
  if s.hbm.staged.length < stageMax then { s with hbm := { s.hbm with staged := s.hbm.staged ++ [e] } }
  else ({ s with hbm := { s.hbm with staged := s.hbm.staged.drop 1 ++ [e] } }).bump .HBM_MISC_CNT_log_drop 0

/-- Write a new entry at the head of the ring (R529, R530, R532) and stage it. -/
def State.evWrite (s : State) (e : Ev) : State :=
  let s := s.stageLog e
  let h := s.evHead
  let h' := (h + 1) % 8192
  let s := { s with mgmt := { s.mgmt with ring := tset h e s.mgmt.ring } }
  let s := if h' = 0 then s.setFlag .EVT_STATUS_wrapped 0 true else s
  let s := s.setFld .EVT_STATUS_head 0 h'
  if s.mgmt.live < 8191 then { s with mgmt := { s.mgmt with live := s.mgmt.live + 1 } }
  else evPush h' ((h' + 1) % 8192) (tfind h' s.mgmt.ring) (List.range 16) s

/-- Raise an event (R529 to R531): a repeat of the newest entry in the same Hem merges into it (R530). -/
def State.log (s : State) (code panel inst data : Nat) : State :=
  match s.evNewest with
  | some e =>
    if e.code = code ∧ e.panel = panel ∧ e.inst = inst ∧ e.data = data % 2 ^ 64 ∧ e.hem = s.grid.hem then
      { s with mgmt := { s.mgmt with
          ring := tset ((s.evHead + 8191) % 8192) { e with rep := min (e.rep + 1) 65535 } s.mgmt.ring } }
    else s.evWrite ⟨code, evSev code, panel, inst, 0, s.tick, data % 2 ^ 64, s.grid.hem⟩
  | none => s.evWrite ⟨code, evSev code, panel, inst, 0, s.tick, data % 2 ^ 64, s.grid.hem⟩

/-- Device-wide owner of an event, and "no instance" (R529). -/
def noPanel : Nat := 0xFF
/-- No instance (R529). -/
def noInst : Nat := 0xFFFF

/-- A feature bit in force (R525). -/
def State.inForce (s : State) (b : Nat) : Bool := bit (s.fld .GLB_FEAT_FORCE_force 0) b

/-- A feature bit offered (R69). -/
def State.offered (s : State) (b : Nat) : Bool := bit (s.fld .FEAT_OFFER_offer 0) b

/-- What refuses a command of feature `b` (R72, R73): NOT_PRESENT where the feature was in force and its offer was
withdrawn, NOT_NEGOTIATED where it is not in force. -/
def State.featRes (s : State) (b : Nat) : Option Res :=
  if s.inForce b then none else if bit s.mgmt.lostFeat b then some .notPresent else some .notNegotiated

/-- A full pattern is sealed. -/
def State.isSealed (s : State) : Bool := s.flag .PAT_STATUS_sealed 0

/-- Narrow service in force (R44). -/
def State.narrow (s : State) : Bool := s.inForce 14

/-- The CHANNEL_MAP item of a channel in the pattern in service. -/
def State.chanItem (s : State) (ch : Nat) : Option ChanItem := s.pat.chans.find? (fun i => i.channel == ch)

/-- The panel that owns a channel; none where it has no item (R118). -/
def State.owner (s : State) (ch : Nat) : Option Nat := (s.chanItem ch).map (·.panel)

/-- The owner an event on a channel names: its panel, or device-wide. -/
def State.evOwner (s : State) (ch : Nat) : Nat := (s.owner ch).getD noPanel

/-- The PANELS item of a panel. -/
def State.panelItem (s : State) (p : Nat) : Option PanelItem := s.pat.panels.find? (fun i => i.panel == p)

/-- A right of a panel (R405), from PNL_STATUS: bit 0 expert, 1 class 3, 2 flood, 3 launch time, 4 encryption. -/
def State.right (s : State) (p b : Nat) : Bool := bit (s.fld .PNL_STATUS_rights p) b

/-- A panel may name a channel: it owns it, or is PNL0 (R116). -/
def State.mayName (s : State) (p ch : Nat) : Bool := p == 0 || s.owner ch == some p

/-- What a channel holds beside its registers. -/
def State.chan (s : State) (ch : Nat) : Chan := tget {} ch s.chans

/-- Change what a channel holds. -/
def State.setChan (s : State) (ch : Nat) (c : Chan) : State := { s with chans := tput {} ch c s.chans }

/-- Change what a channel holds by a function. -/
def State.updChan (s : State) (ch : Nat) (f : Chan → Chan) : State := s.setChan ch (f (s.chan ch))

/-- The states of R115, coded as `CHN_STATUS.state`. -/
def chOff : Nat := 0
/-- ARMED. -/
def chArmed : Nat := 1
/-- TRAINING. -/
def chTraining : Nat := 2
/-- LIVE. -/
def chLive : Nat := 3
/-- QUIET. -/
def chQuiet : Nat := 4
/-- FAULT. -/
def chFault : Nat := 5

/-- A channel's state in force. -/
def State.chState (s : State) (ch : Nat) : Nat := s.fld .CHN_STATUS_state ch

/-- The state a channel has once the changes requested have applied: what a later command sees (R65). -/
def State.effState (s : State) (ch : Nat) : Nat :=
  s.grid.changes.foldl (fun st c => match c with
    | .state ch' st' _ => if ch' = ch then st' else st
    | _ => st) (s.chState ch)

/-- The MEM domain serves its clients (R44, R448). -/
def State.memUp (s : State) : Bool :=
  s.fld .HBM_STATUS_trained 0 != 0 && !s.flag .HBM_STATUS_fenced 0 && !s.flag .HBM_STATUS_self_refresh 0

/-- Request a change for the next slot boundary (R31). -/
def State.request (s : State) (c : SlotChange) : State :=
  { s with grid := { s.grid with changes := s.grid.changes ++ [c] } }

/-- Request a channel state for the next slot boundary. -/
def State.requestState (s : State) (ch st cause : Nat) : State := s.request (.state ch st cause)

/-- A lane of R352 is ALIGNED. -/
def State.laneAligned (s : State) (lane : Nat) : Bool := s.fld .HLK_STATUS_state lane == 4

/-- The head of a channel, its slot on the head and its pipe (R23). -/
def headOf (ch : Nat) : Nat := ch / 24
/-- The slot of a channel on its head. -/
def slotOf (ch : Nat) : Nat := ch % 24
/-- The pipe of a channel. -/
def pipeOf (ch : Nat) : Nat := ch / 8

/-- Samples of a grid slot at the guard in force. -/
def State.ls (s : State) : Nat := slotSamples s.grid.guard

/-- The tick at which a slot starts at the couplers (R29). -/
def State.slotTick (s : State) (k : Nat) : Nat := s.grid.epoch + k * s.ls

/-- The first slot boundary at or after a tick. -/
def State.slotFrom (s : State) (t : Nat) : Nat := ceilDiv (t - s.grid.epoch) s.ls

/-- The `n`-th slot boundary of the station's own timing after a last sample that ends at `t` (R243, R244). -/
def State.boundaryAfter (s : State) (t n : Nat) : Nat := s.slotFrom t + n - 1

/-- Ticks of a number of milliseconds. -/
def msTicks (n : Nat) : Nat := n * 200000

/-- A time falls due: the tick counter is at least there (log 157). -/
def State.reach (s : State) (t : Nat) : State := { s with tick := max s.tick t }

/-- The code of a result (R527). -/
def Res.code : Res → Nat
  | .ok => 0 | .busy => 1 | .badState => 2 | .badArg => 3 | .noBudget => 4 | .denied => 5
  | .notNegotiated => 6 | .conflict => 7 | .fault => 8 | .notPresent => 9

/-- A response without data. -/
def rsp (r : Res) : Resp := { res := r }

/-- An answer that leaves the state unchanged. -/
def refuse (s : State) (r : Res) : State × Option Resp := (s, some (rsp r))

/-- Answer by the gate of a feature (R72, R73): a refusal of NOT_NEGOTIATED is counted. -/
def featGate (s : State) (b : Nat) (k : State × Option Resp) : State × Option Resp :=
  match s.featRes b with
  | none => k
  | some .notNegotiated => (s.bump .GLB_NOT_NEGOTIATED_CNT_count 0, some (rsp .notNegotiated))
  | some r => (s, some (rsp r))

/-- The panel reaches OHI in-band (R76). -/
def State.inBand (s : State) (p : Nat) : Bool := s.flag .PNL_STATUS_in_band p

/-- Unread responses in a panel's ring. -/
def State.rspUnread (s : State) (p : Nat) : Nat :=
  (s.fld .PNL_RING_IDX_rsp_tail p + 64 - s.fld .PNL_RING_IDX_rsp_head p) % 64

/-- The panel's response ring is full (R81). -/
def State.rspFull (s : State) (p : Nat) : Bool := 32 ≤ s.rspUnread p

/-- The 32 bytes of a response entry (R78). -/
def rspEntry (tag opcode : Nat) (r : Resp) : List Byte :=
  le 2 tag ++ le 2 opcode ++ [byte r.res.code, 0] ++ le 2 r.data.length ++ slice r.data 0 24

/-- Where a response entry lies in the ring RAM: panel times 0x1000, plus its offset in the PNL instance (R76). -/
def rspAddr (p idx : Nat) : Nat := p * 0x1000 + 0xC00 + 32 * (idx % 32)

/-- Where a command entry lies. -/
def cmdAddr (p idx : Nat) : Nat := p * 0x1000 + 0x400 + 64 * (idx % 32)

/-- A response is complete: it has its command's index (R78), which the device has then taken. A command that came as a row of the
table, and not through the ring, counts as the ring's next entry (log 164). -/
def State.rspIndex (s : State) (p : Nat) : State :=
  let t := s.fld .PNL_RING_IDX_rsp_tail p
  let n := (t + 1) % 64
  let h := s.fld .PNL_RING_IDX_cmd_head p
  let s := if h = t ∧ s.fld .PNL_RING_IDX_cmd_tail p = t then s.setFld .PNL_RING_IDX_cmd_tail p n else s
  let s := if h = t then s.setFld .PNL_RING_IDX_cmd_head p n else s
  s.setFld .PNL_RING_IDX_rsp_tail p n

/-- Put a response into a panel's response ring, at its command's index (R78). -/
def State.pushRsp (s : State) (p tag opcode : Nat) (r : Resp) : State :=
  let t := s.fld .PNL_RING_IDX_rsp_tail p
  let s := { s with mgmt := { s.mgmt with ringRam := memStores s.mgmt.ringRam (rspAddr p t) (rspEntry tag opcode r) } }
  s.rspIndex p

/-- The event of a refusal (R528). -/
def State.logRefuse (s : State) (p opcode : Nat) (r : Resp) : State :=
  if r.res = .ok then s else s.log 0x6001 p noInst (opcode + 65536 * r.res.code)

/-- Answer a command over SPI: the response enters the ring (R78), a refusal is logged (R528). -/
def State.answerSpi (s : State) (c : Cmd) (opcode : Nat) (r : Resp) : State :=
  (s.logRefuse c.pnl opcode r).pushRsp c.pnl c.tag opcode r

/-- Add a response to the in-band datagram a panel's entries came in, and send the datagram once every entry has
answered (R76): an OHI response frame in order class 3 (R404). No response waits in the ring for the driver to read. -/
def State.answerInBand (s : State) (c : Cmd) (opcode : Nat) (r : Resp) : State :=
  let s := (s.logRefuse c.pnl opcode r).rspIndex c.pnl
  let s := s.setFld .PNL_RING_IDX_rsp_head c.pnl (s.fld .PNL_RING_IDX_rsp_tail c.pnl)
  let add (d : Dgram) : Dgram := { d with rsps := d.rsps ++ [⟨c.pnl, c.tag, opcode, r⟩] }
  { s with host := { s.host with ohiIn := updFirst (fun d => d.panel == c.pnl) add s.host.ohiIn } }

/-- Answer a command on a transport: in-band or over SPI (R76). -/
def State.answerOn (s : State) (inBand : Bool) (c : Cmd) (opcode : Nat) (r : Resp) : State :=
  if inBand then s.answerInBand c opcode r else s.answerSpi c opcode r

/-- Answer a command on the transport of its panel. -/
def State.answer (s : State) (c : Cmd) (opcode : Nat) (r : Resp) : State := s.answerOn (s.inBand c.pnl) c opcode r

/-- The boot ROM alone serves (R463): GLB_STATUS.boot. -/
def State.bootOnly (s : State) : Bool := s.flag .GLB_STATUS_boot 0

/-- OHI serves commands: neither in KEEP nor while a COLD or WARM reset is asserted (R504). -/
def State.serving (s : State) : Bool :=
  decide (s.rst.pwr ≠ .keep) && (s.rst.level.getD 0 ≤ 1)

/-- The commands the boot ROM serves (R463). -/
def bootRomServes (opcode : Nat) : Bool := opcode == 0x0401 || opcode == 0x0404 || opcode == 0x0405

/-- A command of the panel is still to complete: entries complete in ring order (R80), so its next one is not taken. -/
def State.ohiOpen (s : State) (p : Nat) : Bool := s.mgmt.deferred.any (fun d => d.cmd.pnl == p)

/-- Run a command's operation and answer it, unless it answers later (R79 to R81): while the response ring is full, or an earlier
command of the panel has not completed, the device takes no command. In the boot ROM every command but its three is answered
FAULT, and none in-band (R463). -/
def ohi (s : State) (c : Cmd) (opcode : Nat) (r : State × Option Resp) : State :=
  if (!s.inBand c.pnl && s.rspFull c.pnl) || !s.serving || s.ohiOpen c.pnl then s
  else if s.bootOnly && !(c.pnl == 0 && bootRomServes opcode) then s.answer c opcode (rsp .fault)
  else match r with
    | (s', some a) => s'.answer c opcode a
    | (s', none) => { s' with mgmt := { s'.mgmt with deferred := s'.mgmt.deferred ++ [⟨opcode, c, 0, s.inBand c.pnl⟩] } }

/-- Answer a command that was to complete later, wherever its entry waits. -/
def State.complete (s : State) (opcode key : Nat) (r : Resp) : State :=
  match s.mgmt.deferred.find? (fun d => d.opcode == opcode && d.key == key) with
  | none => s
  | some d =>
    let s := { s with mgmt := { s.mgmt with deferred := s.mgmt.deferred.erase d } }
    s.answerOn d.inBand d.cmd opcode r

/-- Fold an effect over a list of indices. -/
def forAll (l : List Nat) (f : Nat → State → State) (s : State) : State := l.foldl (fun s i => f i s) s

end Sys2Proof.Machine
end

