-- ==== Sys2Proof/Machine/DlvBase.lean ====
section
/-! DEFINITION. Chapter 8, the sender's books: descriptors, in-flight slots, messages cut into segments, flows,
acknowledgement, loss and abandonment (R256 to R265, R269, R270, R276). -/

namespace Sys2Proof.Machine

/-- The CRC-32 of a segment over its preceding bytes, most significant octet first (R12, R254). -/
def crc32Bytes (l : List Byte) : List Byte := be 4 (crc32 l)

/-- Zero bytes up to a multiple of 4. -/
def pad4 (l : List Byte) : List Byte := l ++ List.replicate ((4 - l.length % 4) % 4) 0

/-- The bytes of a segment (R254). -/
def segBytes (ep seq frag : Nat) (data : List Byte) : List Byte :=
  let h := be 2 data.length ++ be 2 ep ++ be 2 (seq % 4096) ++ [byte frag, 0]
  let b := pad4 (h ++ data)
  b ++ crc32Bytes b

/-- Bytes a segment of `n` data bytes occupies (R254). -/
def segLen (n : Nat) : Nat := 12 + 4 * ceilDiv n 4

/-- The module's own short address on a channel: 0x0000 on the coordinator side (R231); on a MEMBER channel the spec
states none (log 8). -/
def State.ownAddr (s : State) (ch : Nat) : Nat :=
  if s.fld .CHN_STATUS_role ch = 0 then 0 else Config.freeValue (2 ^ 32 + ch) % 65536

/-- Take a descriptor (R269) for class `prio` of a panel. -/
def State.takeDesc (s : State) (prio panel : Nat) : Option (Pool × State) :=
  let d := s.dlv
  if prio = 3 then
    if 0 < d.descProt then some (.reserve, { s with dlv := { d with descProt := d.descProt - 1 } })
    else if 0 < d.descShared then some (.shared, { s with dlv := { d with descShared := d.descShared - 1 } })
    else none
  else if s.pat.dlv.quotas.getD panel 0xFFFFFFFF ≠ 0xFFFFFFFF then
    let q := tget 0 panel d.quotaFree
    if 0 < q then some (.quota panel, { s with dlv := { d with quotaFree := tput 0 panel (q - 1) d.quotaFree } })
    else none
  else if 0 < d.descShared then some (.shared, { s with dlv := { d with descShared := d.descShared - 1 } })
  else none

/-- Return a descriptor to the pool it came from. -/
def State.giveDesc (s : State) (p : Pool) : State :=
  let d := s.dlv
  match p with
  | .reserve => { s with dlv := { d with descProt := d.descProt + 1 } }
  | .shared => { s with dlv := { d with descShared := d.descShared + 1 } }
  | .quota panel => { s with dlv := { d with quotaFree := tput 0 panel (tget 0 panel d.quotaFree + 1) d.quotaFree } }

/-- Take an in-flight slot (R261). -/
def State.takeIf (s : State) (prio : Nat) : Option (Pool × State) :=
  let d := s.dlv
  if prio = 3 ∧ 0 < d.ifProt then some (.reserve, { s with dlv := { d with ifProt := d.ifProt - 1 } })
  else if 0 < d.ifShared then some (.shared, { s with dlv := { d with ifShared := d.ifShared - 1 } })
  else none

/-- Return an in-flight slot. -/
def State.giveIf (s : State) (p : Option Pool) : State :=
  let d := s.dlv
  match p with
  | some .reserve => { s with dlv := { d with ifProt := d.ifProt + 1 } }
  | some _ => { s with dlv := { d with ifShared := d.ifShared + 1 } }
  | none => s

/-- The message buffers of the delivery region (R449): its size is that of region kind 0x02, or 0x11 in narrow service. -/
def State.bufTotal (s : State) : Nat :=
  Config.msgBuffers (((s.pat.carve.find? (fun r => r.kind == (if s.narrow then 0x11 else 0x02))).map (·.size)).getD 0)

/-- The message buffers in use (R449): those of messages handed over, of accepted segments and of complete messages. -/
def State.bufUsed (s : State) : Nat :=
  (s.dlv.txMsgs.map (·.bufs)).foldl (· + ·) 0 + (s.dlv.rxFlows.map (fun f => f.held.length)).foldl (· + ·) 0
    + (s.dlv.done.map (fun m => ceilDiv m.data.length 2048)).foldl (· + ·) 0

/-- `n` more message buffers are free (R452). -/
def State.bufRoom (s : State) (n : Nat) : Bool := s.bufUsed + n ≤ s.bufTotal

/-- The pieces of at most `k` bytes of a message (R256, R472). -/
def msgPieces (k : Nat) : Nat → List Byte → List (List Byte)
  | 0, _ => []
  | _, [] => []
  | n + 1, l => l.take k :: msgPieces k n (l.drop k)

/-- The `frag` bits of piece `i` of `n` (R256). -/
def fragOf (i n : Nat) : Nat := b2n (i == 0) + 2 * b2n (i + 1 == n)

/-- The deadline of a message handed over now (R265). -/
def State.deadlineOf (s : State) (prio : Nat) : Nat :=
  s.tick + msTicks (if prio = 3 then s.fld .DLV_CFG_prot_abandon_ms 0 else s.fld .DLV_CFG_abandon_ms 0)

/-- Cut a message into segments on a channel under a transmit descriptor (R256, R265). -/
def State.enqueue (s : State) (panel ch peer prio : Nat) (ackReq enc : Bool) (ep : Nat) (data : List Byte)
    (pool : Pool) (tm : Option TmMsg) (launch : Option Nat := none) : State :=
  let ps := msgPieces (if enc then 2024 else 2048) 8 data
  let mid := s.dlv.nextMid
  let mk (e : List Byte × Nat) : Seg :=
    { mid := mid, ch := ch, peer := peer, space3 := prio == 3, prio := prio, ackReq := ackReq && peer != 0xFFFF
      enc := enc, ep := ep, frag := fragOf e.2 ps.length, data := e.1, deadline := s.deadlineOf prio, toneMsg := tm
      launch := launch, part := e.2 }
  { s with dlv := { s.dlv with
      nextMid := mid + 1
      segs := s.dlv.segs ++ ps.zipIdx.map mk
      txMsgs := s.dlv.txMsgs ++ [{ mid := mid, panel := panel, ch := ch, pool := pool, bufs := ceilDiv data.length 2048 }] } }

/-- Hand a message over to a channel (R265, R269, R452): nothing happens without a transmit descriptor and buffers. -/
def State.handover (s : State) (panel ch peer prio : Nat) (ackReq enc : Bool) (ep : Nat) (data : List Byte)
    (tm : Option TmMsg) (launch : Option Nat := none) : Option State :=
  if s.bufRoom (ceilDiv data.length 2048) = false then none
  else match s.takeDesc prio panel with
    | none => none
    | some (pool, s) => some (s.enqueue panel ch peer prio ackReq enc ep data pool tm launch)

/-- A message of the device to a partner's device endpoint, at class 2 (R163, R284): without a descriptor it waits in its queue (R269). -/
def State.sendDevice (s : State) (ch peer : Nat) (ackReq : Bool) (ep : Nat) (data : List Byte) (tm : Option TmMsg) :
    State :=
  let wait : State := { s with dlv := { s.dlv with devQ := s.dlv.devQ ++ [⟨ch, peer, ackReq, ep, data, tm⟩] } }
  if s.dlv.devQ.any (fun m => m.ch == ch) then wait
  else (s.handover ((s.owner ch).getD 0) ch peer 2 ackReq false ep data tm).getD wait

/-- The waiting messages of the device are handed over as descriptors come free, each channel's in order (R269). -/
def State.serveDev (s : State) : State :=
  let q := s.dlv.devQ
  q.foldl (fun (s : State) m => s.sendDevice m.ch m.peer m.ackReq m.ep m.data m.tm) { s with dlv := { s.dlv with devQ := [] } }

/-- Return the descriptors of messages with no segment left (R265). -/
def State.sweepTx (s : State) : State :=
  let gone := s.dlv.txMsgs.filter (fun m => !m.floodCopy && !s.dlv.segs.any (fun g => g.mid == m.mid))
  let s := gone.foldl (fun s m => s.giveDesc m.pool) s
  { s with dlv := { s.dlv with
      txMsgs := s.dlv.txMsgs.filter (fun m => m.floodCopy || s.dlv.segs.any (fun g => g.mid == m.mid)) } }

/-- The slots of the exchanges of a segment's flow that are under way or committed (R265): their ACKs may still name it. -/
def State.exchangesOf (s : State) (g : Seg) : List Nat :=
  (((s.chan g.ch).await ++ s.grid.committed).filter (fun f =>
    f.ch == g.ch && f.fc.dst == g.peer && (f.fc.prio == 3) == g.space3 && fcIsData f.fc && fcAckReq f.fc)).map (·.slot)

/-- Abandon the segments a test picks, with every other segment of their messages (R265): in-flight slots returned,
`abandon` counted but for QUEUED ones, DLV_ABANDON logged once for each message. -/
def State.abandonSegs (s : State) (pick : Seg → Bool) : State :=
  let mids := (s.dlv.segs.filter pick).map (·.mid)
  let gone := s.dlv.segs.filter (fun g => mids.contains g.mid)
  let late := (gone.filterMap (fun g => g.seq.map (fun q =>
    (⟨g.ch, g.peer, g.space3, q, s.exchangesOf g⟩ : Abandoned)))).filter (fun e => e.slots != [])
  let s := { s with dlv := { s.dlv with
    segs := s.dlv.segs.filter (fun g => !mids.contains g.mid), abandoned := s.dlv.abandoned ++ late } }
  let s := gone.foldl (fun s g => (s.giveIf g.slotOf).bumpN .DLV_TX_CNT_abandon 0 (b2n (g.state != .queued))) s
  let s := (mids.dedup).foldl (fun s m =>
    match gone.find? (fun g => g.mid == m) with
    | some g => s.log 0x2C01 (s.evOwner g.ch) g.ch (g.ep + 65536 * (if g.space3 then 1 else 0))
    | none => s) s
  s.sweepTx

/-- Number `a` is behind `b` modulo 4,096 (R259). -/
def seqBehind (a b : Nat) : Bool := a % 4096 != b % 4096 && !(1 ≤ (a + 4096 - b % 4096) % 4096 && (a + 4096 - b % 4096) % 4096 ≤ 2047)

/-- Number `a` is ahead of `b` (R259). -/
def seqAhead (a b : Nat) : Bool := 1 ≤ (a + 4096 - b % 4096) % 4096 && (a + 4096 - b % 4096) % 4096 ≤ 2047

/-- The transmit flow of a segment's addresses, made on first use. -/
def State.txFlow (s : State) (ch peer : Nat) (sp : Bool) : TxFlow :=
  (s.dlv.txFlows.find? (fun f => f.ch == ch && f.peer == peer && f.space3 == sp)).getD { ch := ch, peer := peer, space3 := sp }

/-- Store a transmit flow. -/
def State.setTxFlow (s : State) (f : TxFlow) : State :=
  let rest := s.dlv.txFlows.filter (fun g => !(g.ch == f.ch && g.peer == f.peer && g.space3 == f.space3))
  { s with dlv := { s.dlv with txFlows := f :: rest } }

/-- The flow's lowest outstanding number, or its next new number (R257): the oldest by distance behind `next`. -/
def State.flowLow (s : State) (f : TxFlow) : Nat :=
  let mine := s.dlv.segs.filter (fun g => g.ch == f.ch && g.peer == f.peer && g.space3 == f.space3 && g.ackReq)
  let ds := (mine.filterMap (·.seq)).map (fun q => (f.next + 4096 - q) % 4096)
  (f.next + 4096 - ds.foldl max 0) % 4096

/-- Change the segments named by (message, number) pairs. -/
def State.mapSegs (s : State) (mids : List (Nat × Nat)) (f : Seg → Seg) : State :=
  let hit (g : Seg) : Bool := g.seq.any (fun q => mids.contains (g.mid, q))
  { s with dlv := { s.dlv with segs := s.dlv.segs.map (fun g => if hit g then f g else g) } }

/-- The segments of a frame become LOST (R263, R264), and those sent `retx_max` + 1 times are abandoned (R265). -/
def State.loseSegs (s : State) (mids : List (Nat × Nat)) : State :=
  let s := s.mapSegs mids (fun g => { g with state := .lost })
  let lim := s.fld .DLV_CFG2_retx_max 0 + 1
  s.abandonSegs (fun g => g.state == .lost && lim ≤ g.sent)

/-- Return the segments of a discarded frame (R261): those it carried first to QUEUED, keeping their numbers and
giving back their in-flight slots; the rest to LOST. -/
def State.unbuild (s : State) (f : Frame) : State :=
  let isFirst (g : Seg) : Bool := g.seq.any (fun q => f.firsts.contains q && f.mids.contains (g.mid, q))
  let isMine (g : Seg) : Bool := g.seq.any (fun q => f.mids.contains (g.mid, q))
  let s := (s.dlv.segs.filter isFirst).foldl (fun s g => s.giveIf g.slotOf) s
  let back (g : Seg) : Seg :=
    if isFirst g then { g with state := .queued, slotOf := none, sent := g.sent - 1 }
    else if isMine g then { g with state := .lost, sent := g.sent - 1 } else g
  { s with dlv := { s.dlv with segs := s.dlv.segs.map back } }

/-- Return the airtime tokens of a discarded frame where it was committed in the Hem in force (R412). -/
def State.refundAir (s : State) (f : Frame) : State :=
  if f.hem ≠ s.grid.hem then s
  else
    let own := (f.air.filter (· == .own)).length
    let bor := (f.air.filter (· == .borrowed)).length
    let s := s.setFld .PNL_AIR_air_left f.panel (s.fld .PNL_AIR_air_left f.panel + own)
    let s := s.setFld .PNL_AIR_air_borrowed f.panel (s.fld .PNL_AIR_air_borrowed f.panel - bor)
    let k := 4 * f.panel + f.fc.prio
    { s with grid := { s.grid with
      airPool := s.grid.airPool + bor
      classAir := tput 0 k (tget 0 k s.grid.classAir - (own + bor)) s.grid.classAir } }

/-- The link symbols of a launched frame that were never sent leave the stream (R145): the cells they would have taken out stay. -/
def State.unsendLi (s : State) (f : Frame) : State :=
  match f.liPos with
  | none => s
  | some left =>
    if s.grid.launched.contains f = false then s
    else
      let n := fcNSym f.fc
      let j := min n (s.grid.slot - 1 - f.slot)
      let s := s.updChan f.ch (fun c => { c with
        liTxT := c.liTxT - (n - j), liLine := c.liLine.drop (n - j)
        liTxLeft := if f.kind = .fill then left - j else if j = 0 then left else c.liTxLeft })
      s.setFld .CHN_CODE_STATUS_li_tx_pos f.ch (s.chan f.ch).liTxT

/-- A channel's ramp code is not IDLE from tick `a` up to tick `b` (R347). -/
def State.addRamp (s : State) (ch a b : Nat) : State :=
  let l := ((a, b) :: tget [] ch s.hlk.ramps).filter (fun e => decide (s.tick ≤ e.2 + 200000000))
  { s with hlk := { s.hlk with ramps := tput [] ch l s.hlk.ramps } }

/-- A channel's ramp code is IDLE from a tick on: what it sent was cut short. -/
def State.cutRamp (s : State) (ch t : Nat) : State :=
  let l := ((tget [] ch s.hlk.ramps).filter (fun e => decide (e.1 < t))).map (fun e => (e.1, min e.2 t))
  { s with hlk := { s.hlk with ramps := tput [] ch l s.hlk.ramps } }

/-- A channel's ramp code is not IDLE at a tick, or was not within `ext` ticks before it. -/
def State.rampAt (s : State) (ch t ext : Nat) : Bool :=
  (tget [] ch s.hlk.ramps).any (fun e => decide (e.1 ≤ t) && decide (t < e.2 + ext))

/-- An exchange of a channel is over: no later ACK is its own (R265). -/
def State.endExchange (s : State) (ch slot : Nat) : State :=
  let l := s.dlv.abandoned.map (fun e => if e.ch = ch then { e with slots := e.slots.erase slot } else e)
  { s with dlv := { s.dlv with abandoned := l.filter (fun e => e.slots != []) } }

/-- A committed frame is discarded (R37): counted, its segments and the tokens of its unlaunched slots returned (R412), a
PTP message put back first in its queue (R315). -/
def State.discardFrame (s : State) (f : Frame) : State :=
  let gone := if s.grid.launched.contains f then s.grid.slot + 1 - f.slot else 0
  let s := s.unsendLi f
  let s := if s.grid.launched.contains f then s.cutRamp f.ch s.tick else s
  let s := { s with grid := { s.grid with
    committed := s.grid.committed.erase f, launched := s.grid.launched.erase f
    onAir := s.grid.onAir.filter (fun a => !(a.ch == f.ch && a.slot == f.slot)) } }
  let s := (s.updChan f.ch (fun c => { c with await := c.await.erase f })).endExchange f.ch f.slot
  let s := { s with tim := { s.tim with out := f.ptp.toList ++ s.tim.out } }
  ((s.unbuild f).refundAir { f with air := f.air.drop gone }).bump .CHN_TX_DISCARD_CNT_discards f.ch

/-- Discard a channel's committed frames (R37). -/
def State.discardFrames (s : State) (ch : Nat) : State :=
  (s.grid.committed.filter (fun f => f.ch == ch)).foldl (fun s f => s.discardFrame f) s

/-- Return the descriptors of the partly reassembled messages of receive flows (R270). -/
def State.dropRxFlows (s : State) (pick : RxFlow → Bool) : State :=
  let gone := s.dlv.rxFlows.filter pick
  let s := gone.foldl (fun s f => f.pools.foldl (fun s p => s.giveDesc p.2) s) s
  { s with dlv := { s.dlv with rxFlows := s.dlv.rxFlows.filter (fun f => !pick f) } }

/-- Drop the flood copies of a channel, returning their descriptors (R276). -/
def State.dropCopies (s : State) (ch : Nat) : State :=
  let gone := (s.dlv.copies.filter (fun c => c.ch == ch)).map (·.mid)
  let back := s.dlv.txMsgs.filter (fun m => gone.contains m.mid)
  let s := back.foldl (fun s m => s.giveDesc m.pool) s
  { s with dlv := { s.dlv with
      copies := s.dlv.copies.filter (fun c => c.ch != ch)
      txMsgs := s.dlv.txMsgs.filter (fun m => !gone.contains m.mid) } }

/-- A channel enters ARMED, OFF or FAULT: its segments are abandoned and its flow records cleared (R270). -/
def State.channelLeaves (s : State) (ch : Nat) : State :=
  let s := s.abandonSegs (fun g => g.ch == ch)
  let s := (s.dropRxFlows (fun f => f.ch == ch)).dropCopies ch
  let s := s.updChan ch (fun c => { c with await := [], acks := [], cont := none })
  { s with dlv := { s.dlv with
      txFlows := s.dlv.txFlows.filter (fun f => f.ch != ch), abandoned := s.dlv.abandoned.filter (fun e => e.ch != ch)
      devQ := s.dlv.devQ.filter (fun m => m.ch != ch) } }

/-- Both ends of a channel's flows start at number 0 (R259). -/
def State.restartFlows (s : State) (ch : Nat) : State :=
  let s := s.dropRxFlows (fun f => f.ch == ch)
  { s with dlv := { s.dlv with txFlows := s.dlv.txFlows.filter (fun f => f.ch != ch) } }

end Sys2Proof.Machine
end

