-- ==== Sys2Proof/Machine/Adapt.lean ====
section
/-! DEFINITION. Chapter 5: estimates, bit loading, the tone-map exchange, impulse handling, Chisel, impedance steps and
arming (R153 to R181). -/

namespace Sys2Proof.Machine

/-- The band plan in force on a channel: a panel's replacement (R89), else its plan. -/
def State.plan (s : State) (ch : Nat) : BandPlan :=
  match s.pat.chanPlans.find? (fun p => p.chan == ch) with
  | some p => p
  | none => (s.pat.plans.find? (fun p => p.plan == s.fld .CHN_CFG_band_plan ch)).getD {}

/-- The payload set of a channel (R87). -/
def State.payload (s : State) (ch : Nat) : List Nat := payloadSet (s.fld .CHN_STATUS_profile ch) (s.plan ch)

/-- The data carriers of a channel's payload set. -/
def State.dataCarriers (s : State) (ch : Nat) : List Nat := dataOf (s.payload ch)

/-- D of a channel. -/
def State.dCount (s : State) (ch : Nat) : Nat := (s.dataCarriers ch).length

/-- The mask of the indices a table of maps holds. -/
def mapMask (t : Tbl ToneMap) : Nat := t.foldl (fun m e => if e.1 < 8 then m ||| 2 ^ e.1 else m) 0

/-- Show the valid maps in `CHN_TM_STATUS`. -/
def State.syncMaps (s : State) (ch : Nat) : State :=
  let c := s.chan ch
  (s.setFld .CHN_TM_STATUS_rx_valid ch (mapMask c.rxMaps)).setFld .CHN_TM_STATUS_tx_valid ch (mapMask c.txMaps)

/-- The receive GENERAL map in force. -/
def State.rxGeneralMap (s : State) (ch : Nat) : Option ToneMap :=
  (s.chan ch).rxGeneral.bind (fun i => tfind i (s.chan ch).rxMaps)

/-- The receive map of a use in force: GENERAL (0) or PROTECT (1). -/
def State.rxMapOf (s : State) (ch use : Nat) : Option ToneMap :=
  if use = 0 then s.rxGeneralMap ch else (s.chan ch).rxProtect.bind (fun i => tfind i (s.chan ch).rxMaps)

/-- The transmit map of a use: GENERAL (0) or PROTECT (1), where valid. -/
def State.txMap (s : State) (ch use : Nat) : Option (Nat × ToneMap) :=
  let i := if use = 0 then s.fld .CHN_TM_STATUS_tx_general ch else s.fld .CHN_TM_STATUS_tx_protect ch
  match tfind i (s.chan ch).txMaps with
  | some m => if m.use = use then some (i, m) else none
  | none => none

/-- Restart the interleaver streams of a channel (R144): delay lines emptied, t set to 0, the span that was last announced taken up
(R140), and the transmitter's discarded cells counted. -/
def State.restartLi (s : State) (ch : Nat) (tx rx : Bool) : State :=
  let c := s.chan ch
  let s := if tx && 0 < c.liTxLeft then s.bump .CHN_CODE_CNT_li_resync ch else s
  let s := if tx then
      let s := (s.updChan ch (fun c => { c with liTxT := 0, liTxLeft := 0, liIdleHems := 0, liLine := [] })).setFld
        .CHN_CODE_STATUS_li_tx_pos ch 0
      match s.txMap ch 0 with
      | some m => s.setFld .CHN_CODE_STATUS_li_span_tx ch m.2.liSpan
      | none => s
    else s
  if rx then
    let span := ((s.rxGeneralMap ch).map (·.liSpan)).getD (s.fld .CHN_CODE_CFG_li_span ch)
    (s.updChan ch (fun c => { c with
      liRxT := 0, liSpanRx := span, liCells := [], liLoads := [], rxq := c.rxq.filter (fun f => f.li.isNone) })).setFld .CHN_CODE_STATUS_li_rx_pos ch 0
  else s

/-- Empty the tone maps of a channel in both directions; the streams of a direction with a map restart (R144). -/
def State.clearMaps (s : State) (ch : Nat) : State :=
  let s := s.restartLi ch true true
  let s := s.updChan ch (fun c => { c with rxMaps := [], txMaps := [], rxGeneral := none, rxProtect := none
                                           retire := [], mapWait := [], tmDue := [], stepMap := false, ackedRx := false
                                           fallRobo := 0, quietOk := false })
  ((((s.syncMaps ch).setFlag .CHN_TM_STATUS_fallback ch false).setFlag .CHN_CODE_STATUS_li_tx_on ch false).setFlag
    .CHN_CODE_STATUS_li_rx_on ch false)

/-- The capabilities a station announces in `caps` (R163, R167): LDPC, interleaving, and whether it wants it. -/
def State.ownCaps (s : State) (ch : Nat) (wants : Bool) : Nat :=
  let li := s.inForce 4 && !s.flag .HBM_STATUS_fenced 0
  b2n (s.inForce 3) + 2 * b2n li + 4 * b2n (wants && li && bit (s.chan ch).partnerCaps 1)

/-- Whether the profile's rule prefers the interleaver on receive (R171). -/
def State.wantsLi (s : State) (ch : Nat) : Bool :=
  match s.fld .CHN_STATUS_profile ch with
  | 0 => true
  | 1 => s.flag .CHN_ADAPT_CFG_imp_mode ch || !s.inForce 5
  | _ => false

/-- Decide the impulse handling of the receive direction (R171, R172). -/
def State.chooseImpulse (s : State) (ch : Nat) : State :=
  let li := bit (s.ownCaps ch (s.wantsLi ch)) 2
  let chisel := !li && s.inForce 5
  ((s.setFlag .CHN_TM_STATUS_imp_li ch li).setFlag .CHN_TM_STATUS_imp_chisel ch chisel).setFlag
    .CHN_TM_STATUS_imp_none ch (!li && !chisel)

/-- The bytes of a TONEMAP message (R163). -/
def tmBytes (op tmi use code caps liSpan soundN count bs margin robo : Nat) (loads : List Nat) : List Byte :=
  let nib (l : List Nat) : List Byte :=
    (List.range (ceilDiv l.length 2)).map (fun i => byte (l.getD (2 * i) 0 * 16 + l.getD (2 * i + 1) 0))
  let b := pad4 ([byte 1, byte op, byte tmi, byte use, byte code, byte caps, byte liSpan, byte soundN] ++ be 2 count
    ++ be 2 bs ++ [byte margin, byte robo, 0, 0] ++ nib loads)
  b ++ crc32Bytes b

/-- The code of an op (R163). -/
def TmOp.code : TmOp → Nat
  | .map => 1 | .soundReq => 2 | .invalidateAll => 3 | .fallback => 4 | .mapNak => 5

/-- The bytes a TONEMAP message of the station has. -/
def State.tmEncode (s : State) (ch : Nat) (m : TmMsg) : List Byte :=
  match m.map with
  | some t => tmBytes 1 m.tmi t.use t.code t.caps t.liSpan 0 t.loads.length t.bs t.margin t.robo t.loads
  | none => tmBytes m.op.code m.tmi 0 0 (s.ownCaps ch (s.wantsLi ch)) (s.fld .CHN_CODE_CFG_li_span ch) m.soundN 0 0 0
      m.robo []

/-- The partner a channel's TONEMAP messages and SOUND frames go to. Which station of the link that is, the spec does not say: the last
address heard on the channel, and everybody's where none was (DESIGN CHOICE, log 171). -/
def State.partner (s : State) (ch : Nat) : Nat := ((s.chan ch).peers.getLast?.map (·.addr)).getD 0xFFFF

/-- Send a TONEMAP message (R163): one message to endpoint 0xFFE0, class 2, `ack_req` 1. -/
def State.sendTm (s : State) (ch : Nat) (m : TmMsg) : State :=
  s.sendDevice ch (s.partner ch) true 0xFFE0 (s.tmEncode ch m) (some m)

/-- Ask for SOUND (R166). -/
def State.askSound (s : State) (ch : Nat) : State :=
  (s.sendTm ch { op := .soundReq, soundN := s.fld .CHN_ADAPT_CFG2_sound_n ch }).updChan ch
    (fun c => { c with soundOut := some 0 })

/-- What a channel does on entering TRAINING (R144, R166, R171): streams restart and SOUND_REQ is sent. -/
def State.startTraining (s : State) (ch : Nat) : State :=
  let s := (s.restartLi ch true true).updChan ch (fun c => { c with trainHems := 0, ackedRx := false, lowRuns := 0, lowRunsP := 0, failRuns := 0, stepRuns := 0 })
  (s.chooseImpulse ch).askSound ch

/-- The tone maps of a link are invalidated (R170): in TRAINING or LIVE the channel goes to TRAINING, the end that
found it sending INVALIDATE_ALL first; in QUIET it stays; elsewhere no map is held and nothing changes. -/
def State.invalidate (s : State) (ch trig : Nat) (tell : Bool) : State :=
  let st := s.effState ch
  let note (s : State) : State :=
    ((s.clearMaps ch).bump .CHN_TM_CNT_invalidations ch).log 0x1802 (s.evOwner ch) ch trig
  if st = chTraining ∨ st = chLive then
    let s := if tell then s.sendTm ch { op := .invalidateAll } else s
    (note s).requestState ch chTraining 0
  else if st = chQuiet then note s
  else s

/-- |H|². -/
def Cx.abs2 (z : Cx) : Rat := z.re * z.re + z.im * z.im
/-- Sum of two complex numbers. -/
def Cx.add (a b : Cx) : Cx := ⟨a.re + b.re, a.im + b.im⟩
/-- Difference. -/
def Cx.sub (a b : Cx) : Cx := ⟨a.re - b.re, a.im - b.im⟩
/-- Product. -/
def Cx.mul (a b : Cx) : Cx := ⟨a.re * b.re - a.im * b.im, a.re * b.im + a.im * b.re⟩
/-- Conjugate. -/
def Cx.conj (a : Cx) : Cx := ⟨a.re, -a.im⟩
/-- Scaled by a rational. -/
def Cx.scale (k : Rat) (a : Cx) : Cx := ⟨k * a.re, k * a.im⟩
/-- Quotient. -/
def Cx.div (a b : Cx) : Cx := Cx.scale (1 / b.abs2) (a.mul b.conj)
/-- Zero. -/
def Cx.zero : Cx := ⟨0, 0⟩
/-- A sum. -/
def Cx.sum (l : List Cx) : Cx := l.foldl Cx.add Cx.zero

/-- A QPSK cell of two bits at unit power (R137): 1/sqrt(2) as the hardware holds it. -/
def qpsk (a b : Bool) : Cx :=
  Cx.scale (Config.rsqrt 2) ⟨if a then -1 else 1, if b then -1 else 1⟩

/-- Consecutive QPSK cells of a scrambler run over zero input. -/
def scrCells (reg n : Nat) : List Cx :=
  let bits := scrambleFrom reg (List.replicate (2 * n) false)
  (List.range n).map (fun i => qpsk (bits.getD (2 * i) false) (bits.getD (2 * i + 1) false))

/-- The estimate of one carrier from n sounded symbols (R155): pairs of received and sent values. -/
def soundEst (l : List (Cx × Cx)) : Est :=
  let n : Rat := (l.length : Nat)
  let h := Cx.scale (1 / n) (Cx.sum (l.map (fun e => e.1.div e.2)))
  let r := (l.map (fun e => (e.1.sub (h.mul e.2)).abs2)).foldl (· + ·) 0
  ⟨h, r / (n - 1)⟩

/-- The SNR of an estimate in quarter decibels (R156); where the noise estimate is 0 the spec states none (log 9). -/
def snrOf (n : Nat) (e : Est) : Int :=
  let q := e.h.abs2 / e.s2
  if e.s2 = 0 ∨ e.h.abs2 = 0 then signed 12 (Config.freeValue (2 ^ 33 + n) % 4096)
  else quarterDb q.num.natAbs q.den

/-- The SNR of a channel's carrier; where it has no estimate, 0. -/
def State.snr (s : State) (ch c : Nat) : Int :=
  match tfind c (s.chan ch).est with
  | some e => snrOf (ch * 4096 + c) e
  | none => 0

/-- The mean of integers, nearest. -/
def meanInt (l : List Int) : Int := if l = [] then 0 else roundDiv (l.foldl (· + ·) 0) l.length

/-- The codes a channel's receive maps may name (R160). -/
def State.allowedCodes (s : State) (ch use : Nat) : List Nat :=
  let ldpc := s.inForce 3 && bit (s.chan ch).partnerCaps 0
  if use = 1 then (if ldpc then [0, 4] else [0])
  else [0, 1, 2] ++ (if ldpc then [4, 5, 6] else [])

/-- Twelve times the rate of a code (R160). -/
def rate12 (k : Nat) : Nat := (codeRate k).1 * (12 / (codeRate k).2)

/-- The best code of R160: identifier, Bs × r times 12 and the loadings. -/
def bestCode (snrs : List Int) (m : Int) : List Nat → Nat × Nat × List Nat → Nat × Nat × List Nat
  | [], best => best
  | k :: ks, best =>
    let loads := snrs.map (fun q => loadOf q k m)
    let v := symBits loads * rate12 k
    bestCode snrs m ks (if best.2.1 < v then (k, v, loads) else best)

/-- The `robo` field of a message (R161): ROBO-4 where the mean SNR of the data carriers is 3 dB or more. -/
def roboFor (snrs : List Int) : Nat := if 12 * (snrs.length : Int) ≤ snrs.foldl (· + ·) 0 then 1 else 2

/-- The map a receiving end computes for a use (R158 to R162). -/
def State.computeMap (s : State) (ch use : Nat) : ToneMap :=
  let cs := s.dataCarriers ch
  let snrs := cs.map (s.snr ch)
  let m := s.fld .CHN_ADAPT_CFG_tm_margin ch + (if use = 1 then s.fld .CHN_ADAPT_CFG_prot_margin ch else 0)
  let best := bestCode snrs m (s.allowedCodes ch use) (0, 0, List.replicate cs.length 0)
  let roboMap := decide (best.2.1 < 12 * (cs.length / 4)) || s.fld .CHN_STATUS_profile ch == 3
  let robo := roboFor snrs
  let loads := if roboMap then List.replicate cs.length 0 else best.2.2
  { use := use, code := if roboMap then 0 else best.1, caps := s.ownCaps ch (s.wantsLi ch)
    liSpan := s.fld .CHN_CODE_CFG_li_span ch, bs := symBits loads, margin := m, robo := robo, loads := loads }

/-- The lowest index neither active nor awaiting retirement (R165). -/
def State.freeTmi (s : State) (ch : Nat) : Option Nat :=
  (List.range 8).find? (fun i => (tfind i (s.chan ch).rxMaps).isNone)

/-- SNR_c - SNRreq(b, k) in quarter decibels, nearest: SNRreq's logarithm by the search of `quarterDb`. -/
def State.reqMargin (s : State) (ch c b k : Nat) : Int :=
  clampInt (-2048) 2047 (s.snr ch c - (gammaQ k + quarterDb (2 ^ b - 1) 1 + (if b % 2 = 1 ∧ 3 ≤ b then 2 else 0)))

/-- The margins of the loaded carriers of a map. -/
def State.margins (s : State) (ch : Nat) (m : ToneMap) : List Int :=
  ((((s.dataCarriers ch).zip m.loads).filter (fun (e : Nat × Nat) => e.2 != 0)).map
    (fun (e : Nat × Nat) => s.reqMargin ch e.1 e.2 m.code))

/-- Show the SNR figures of a channel (CHN_SNR, R156, R158). -/
def State.showSnr (s : State) (ch : Nat) : State :=
  let mean := meanInt ((s.dataCarriers ch).map (s.snr ch))
  let ms := match s.rxGeneralMap ch with
    | none => []
    | some m => s.margins ch m
  let least := ms.foldl min (ms.headD 0)
  ((s.setFld .CHN_SNR_snr_mean ch (unsigned 12 mean)).setFlag .CHN_SNR_snr_valid ch true).setFld .CHN_SNR_min_margin ch
    (unsigned 12 least)

/-- The figures follow the estimates and the map in force while they are valid (R156). -/
def State.refreshSnr (s : State) (ch : Nat) : State := if s.flag .CHN_SNR_snr_valid ch then s.showSnr ch else s

/-- Two maps of a use are valid already (R165). -/
def State.mapsFull (s : State) (ch use : Nat) : Bool :=
  2 ≤ ((s.chan ch).rxMaps.filter (fun e => e.2.use == use)).length

/-- A MAP of a use is to be sent later (R165, R168). -/
def State.waitMap (s : State) (ch use : Nat) : State :=
  s.updChan ch (fun c => { c with mapWait := c.mapWait.filter (· != use) ++ [use] })

/-- Compute and send a MAP (R158 to R165): it waits while two maps of its use are valid. The receive map becomes valid
when it is sent and the map in force when it is acknowledged. -/
def State.sendMap (s : State) (ch use : Nat) : State :=
  if s.mapsFull ch use then s.waitMap ch use
  else match s.freeTmi ch with
    | none => s.waitMap ch use
    | some i =>
      let m := s.computeMap ch use
      let s := if use = 0 then s.chooseImpulse ch else s
      let s := (s.updChan ch (fun c => { c with
        rxMaps := tset i m c.rxMaps, mapHems := 0, mapWait := c.mapWait.filter (· != use)
        lowRuns := if use = 0 then 0 else c.lowRuns, lowRunsP := if use = 1 then 0 else c.lowRunsP
        stepMap := c.stepMap && use != 0 })).syncMaps ch
      s.sendTm ch { op := .map, tmi := i, robo := m.robo, map := some m }

/-- Send a MAP where R168 allows it: in LIVE one in `tm_holdoff` Hems, but for a step; one held back waits. -/
def State.renewMap (s : State) (ch use : Nat) : State :=
  let c := s.chan ch
  if s.effState ch = chLive ∧ c.stepMap = false ∧ c.mapHems < s.fld .CHN_ADAPT_CFG_tm_holdoff ch then s.waitMap ch use
  else s.sendMap ch use

/-- The first MAP that waits is tried again: at a Hem boundary, and when a map is retired. -/
def State.serveMaps (s : State) (ch : Nat) : State :=
  match (s.chan ch).mapWait with
  | [] => s
  | use :: _ => s.renewMap ch use

/-- LIVE is reached at the next slot boundary (R166): a sent GENERAL map acknowledged, and one held for transmit. -/
def State.checkLive (s : State) (ch : Nat) : State :=
  if s.effState ch = chTraining && (s.chan ch).ackedRx && (s.txMap ch 0).isSome then s.requestState ch chLive 0 else s

/-- A TONEMAP message of the station was acknowledged. -/
def State.tmAcked (s : State) (ch : Nat) (m : TmMsg) : State :=
  match m.map with
  | none => s
  | some t =>
    let c := s.chan ch
    let s := s.bump .CHN_TM_CNT_map_sent ch
    let old := if t.use = 0 then c.rxGeneral else c.rxProtect
    let retired := match old with | some i => if i = m.tmi then [] else [(i, 2)] | none => []
    let s := s.updChan ch (fun c => { c with
      rxGeneral := if t.use = 0 then some m.tmi else c.rxGeneral
      rxProtect := if t.use = 1 then some m.tmi else c.rxProtect
      retire := c.retire ++ retired
      ackedRx := c.ackedRx || t.use == 0 })
    let s := if t.use = 0 then
        let on := bit t.caps 2
        let s := if on && !s.flag .CHN_CODE_STATUS_li_rx_on ch then s.restartLi ch false true else s
        s.setFlag .CHN_CODE_STATUS_li_rx_on ch on
      else s
    (s.refreshSnr ch).checkLive ch

/-- The outcome of reading a TONEMAP message (R164). -/
inductive TmRead where
  | bad | nak (tmi : Nat) | ok (op tmi soundN caps robo : Nat) (map : Option ToneMap)
  deriving DecidableEq, Repr

/-- Read a TONEMAP message (R163, R164) at a receiver with D data carriers that supports LDPC or not. A message other than a MAP whose
CRC fails counts as one with a field out of range (DESIGN CHOICE, log 172). -/
def tmRead (d : Nat) (ldpc : Bool) (l : List Byte) : TmRead :=
  let f (o : Nat) : Nat := beAt l o 1
  let count := beAt l 8 2
  let n := 16 + ceilDiv count 2
  let body := (n + 3) / 4 * 4
  let crcOk := l.length == body + 4 && crc32Bytes (l.take body) == l.drop body
  let op := f 1
  let loads := (List.range count).map (fun i => let b := f (16 + i / 2); if i % 2 = 0 then b / 16 else b % 16)
  let rangeOk := f 0 == 1 && f 2 ≤ 7 && f 3 ≤ 1 && f 5 ≤ 7 && f 6 ≤ 63 && beAt l 14 2 == 0
  if op = 0 ∨ 5 < op ∨ l.length < 20 then .bad
  else if op = 1 then
    if !crcOk then (if f 2 ≤ 7 then .nak (f 2) else .bad)
    else if !rangeOk || f 7 != 0 || !(f 13 == 1 || f 13 == 2) || (count % 2 == 1 && f (n - 1) % 16 != 0) then .bad
    else if count ≠ d ∨ loads.any (fun b => 10 < b) ∨ symBits loads ≠ beAt l 10 2
        ∨ ¬ (f 4 ≤ 2 ∨ (4 ≤ f 4 ∧ f 4 ≤ 6 ∧ ldpc)) then .nak (f 2)
    else .ok 1 (f 2) 0 (f 5) (f 13) (some ⟨f 3, f 4, f 5, f 6, beAt l 10 2, f 12, f 13, loads⟩)
  else if !crcOk || !rangeOk || count != 0 || (op != 5 && f 2 != 0) then .bad
  else if (op = 2 ∨ op = 4) ∧ ¬ (4 ≤ f 7 ∧ f 7 ≤ 15) then .bad
  else if (op = 3 ∨ op = 5) ∧ f 7 ≠ 0 then .bad
  else if op = 4 ∧ ¬ (f 13 = 1 ∨ f 13 = 2) then .bad
  else .ok op (f 2) (f 7) (f 5) (f 13) none

/-- Whether long-span interleaving is in force under a transmit map (R167). -/
def State.liWish (s : State) (m : ToneMap) : Bool :=
  m.use == 0 && bit m.caps 2 && bit m.caps 1 && s.inForce 4 && !s.flag .HBM_STATUS_fenced 0

/-- A MAP passed its checks (R164, R165): what it announces is known at once, and the map is taken up with its ACK. -/
def State.acceptMap (s : State) (ch tmi : Nat) (m : ToneMap) : State :=
  let k := s.boundaryAfter (s.chan ch).rxEnd 8
  (s.updChan ch (fun c => { c with
    partnerCaps := m.caps, partnerRobo := m.robo, tmDue := c.tmDue ++ [{ slot := k, map := some (tmi, m) }] })).bump
      .CHN_TM_CNT_map_rcvd ch

/-- A map is taken up for the transmit direction (R165, R169): the one it replaces is dropped, and a GENERAL map ends FALLBACK. -/
def State.useMap (s : State) (ch tmi : Nat) (m : ToneMap) : State :=
  let old := (s.txMap ch m.use).map (·.1)
  let drop (t : Tbl ToneMap) : Tbl ToneMap := match old with | some i => tdel i t | none => t
  let s := s.updChan ch (fun c => { c with txMaps := tset tmi m (drop c.txMaps), fallRobo := if m.use = 0 then 0 else c.fallRobo })
  let s := if m.use = 0 then (s.setFld .CHN_TM_STATUS_tx_general ch tmi).setFlag .CHN_TM_STATUS_fallback ch false
    else s.setFld .CHN_TM_STATUS_tx_protect ch tmi
  (s.syncMaps ch).checkLive ch

/-- What an acknowledged TONEMAP message brings about (R165, R169). -/
def State.takeUp (s : State) (ch : Nat) (d : TmDue) : State :=
  match d.map with
  | some (i, m) => s.useMap ch i m
  | none => (s.updChan ch (fun c => { c with fallRobo := d.robo })).setFlag .CHN_TM_STATUS_fallback ch true

/-- The station sends an ACK in a slot (R165, R169): what waited for it is taken up, and what waited for one never sent is not. -/
def State.tmSent (s : State) (ch k : Nat) : State :=
  let due := (s.chan ch).tmDue.filter (fun d => d.slot == k)
  let s := s.updChan ch (fun c => { c with tmDue := c.tmDue.filter (fun d => decide (k < d.slot)) })
  due.foldl (fun s d => s.takeUp ch d) s

/-- A message reached endpoint 0xFFE0 (R163 to R170). -/
def State.tmMessage (s : State) (ch src : Nat) (msg : List Byte) : State :=
  match tmRead (s.dCount ch) (s.inForce 3) msg with
  | .bad => s.bump .CHN_TM_CNT_tm_reject ch
  | .nak i => (s.bump .CHN_TM_CNT_tm_reject ch).sendDevice ch src true 0xFFE0
      (s.tmEncode ch { op := .mapNak, tmi := i }) (some { op := .mapNak, tmi := i })
  | .ok 1 i _ _ _ (some m) => s.acceptMap ch i m
  | .ok 2 _ n caps _ _ => s.updChan ch (fun c => { c with soundOwe := some n, partnerCaps := caps })
  | .ok 3 _ _ _ _ _ => s.invalidate ch 2 false
  | .ok 4 _ n caps robo _ =>
    let k := s.boundaryAfter (s.chan ch).rxEnd 8
    s.updChan ch (fun c => { c with tmDue := c.tmDue ++ [{ slot := k, robo := robo }], soundOwe := some n, partnerCaps := caps })
  | .ok 5 i _ _ _ _ =>
    let use := ((tfind i (s.chan ch).rxMaps).map (·.use)).getD 0
    let s := (s.updChan ch (fun c => { c with rxMaps := tdel i c.rxMaps })).syncMaps ch
    (s.bump .CHN_TM_CNT_tm_reject ch).renewMap ch use
  | _ => s

/-- MAP (R164): a message whose op is not MAP is none of this event. -/
def msgOp (l : List Byte) : Nat := beAt l 1 1

/-- MAP_RX: a MAP is checked and accepted, or answered with MAP_NAK (R164, R165). -/
def execMapRx (ch src : Nat) (msg : List Byte) (s : State) : Host.Outcome State Fault Refusal :=
  .next (if msgOp msg = 1 then s.tmMessage ch src msg else s)

/-- MAP_NAK_RX: the map is recomputed and sent again (R164). -/
def execMapNakRx (ch src : Nat) (msg : List Byte) (s : State) : Host.Outcome State Fault Refusal :=
  .next (if msgOp msg = 5 then s.tmMessage ch src msg else s)

/-- SOUND_REQ_RX: the station owes a SOUND frame (R166). -/
def execSoundReqRx (ch src : Nat) (msg : List Byte) (s : State) : Host.Outcome State Fault Refusal :=
  .next (if msgOp msg = 2 then s.tmMessage ch src msg else s)

/-- INVALIDATE_ALL_RX: the link's maps are invalidated, trigger 2 (R170). -/
def execInvalidateAllRx (ch src : Nat) (msg : List Byte) (s : State) : Host.Outcome State Fault Refusal :=
  .next (if msgOp msg = 3 then s.tmMessage ch src msg else s)

/-- FALLBACK_RX: classes 0 to 2 go out in the ROBO mode named (R169). -/
def execFallbackRx (ch src : Nat) (msg : List Byte) (s : State) : Host.Outcome State Fault Refusal :=
  .next (if msgOp msg = 4 then s.tmMessage ch src msg else s)

/-- SOUND_TIMEOUT: 4 Hems without SOUND after SOUND_REQ (R166). -/
def execSoundTimeout (ch : Nat) (s : State) : Host.Outcome State Fault Refusal :=
  .next (match (s.chan ch).soundOut with
    | none => s
    | some n => if n < 4 then s else (s.askSound ch).bump .CHN_SOUND_CNT_sound_timeout ch)

/-- TONE_MAP_RETIRE: the receive map longest awaiting retirement is retired, and a MAP that waited may go (R165). -/
def execToneMapRetire (ch : Nat) (s : State) : Host.Outcome State Fault Refusal :=
  .next (match (s.chan ch).retire with
    | [] => s
    | (_, _ + 1) :: _ => s
    | (i, 0) :: t => ((s.updChan ch (fun c => { c with retire := t, rxMaps := tdel i c.rxMaps })).syncMaps ch).serveMaps ch)

/-- TM_REFRESH: `tm_refresh` Hems since the last SOUND frame; 0 disables (R168). -/
def execTmRefresh (ch : Nat) (s : State) : Host.Outcome State Fault Refusal :=
  .next (if s.fld .CHN_ADAPT_CFG2_tm_refresh ch = 0 ∨ (s.chan ch).soundHems < s.fld .CHN_ADAPT_CFG2_tm_refresh ch
      ∨ s.chState ch ≠ chLive then s else s.askSound ch)

/-- The loaded carriers of a map that fall short of SNRreq are `n`-th of them or more. -/
def State.shortBy (s : State) (ch : Nat) (m : ToneMap) (n : Nat) : Bool :=
  let l := ((s.dataCarriers ch).zip m.loads).filter (fun (e : Nat × Nat) => e.2 != 0)
  let bad := l.filter (fun (e : Nat × Nat) => !snrMeets (s.snr ch e.1) e.2 m.code 0)
  decide (l.length ≤ n * bad.length) && l != []

/-- 25 % or more of a map's loaded carriers fall short of SNRreq by the estimates held (R180). -/
def State.mapShort (s : State) (ch : Nat) (m : ToneMap) : Bool := s.shortBy ch m 4

/-- The frame a channel receives has symbols to come. -/
def State.inPayload (s : State) (ch : Nat) : Bool :=
  match (s.chan ch).curFc with
  | some fc => decide ((s.chan ch).symIdx < fcPayload fc)
  | none => false

/-- STEP_REBASE_END: the frame of a step ends (R179, R180): H is replaced by the rebased estimate, σ² kept. The mode a FALLBACK names
is the one R161 gives a map (DESIGN CHOICE, log 173). -/
def execStepRebaseEnd (ch : Nat) (s : State) : Host.Outcome State Fault Refusal :=
  .next (
    if s.flag .CHN_TM_STATUS_step_active ch = false ∨ s.inPayload ch = true then s
    else
      let c := s.chan ch
      let est := c.est.map (fun (e : Nat × Est) => (e.1, { e.2 with h := tget e.2.h e.1 c.rebased }))
      let s := (s.setChan ch { c with est := est, rebased := [], stepRuns := 0, stepMap := true }).setFlag
        .CHN_TM_STATUS_step_active ch false
      let s := s.refreshSnr ch
      match (if s.effState ch = chTraining then none else s.rxGeneralMap ch) with
      | some m =>
        if s.mapShort ch m then
          (s.sendTm ch { op := .fallback, soundN := s.fld .CHN_ADAPT_CFG2_sound_n ch
                         robo := roboFor ((s.dataCarriers ch).map (s.snr ch)) }).updChan ch (fun c => { c with soundOut := some 0 })
        else s.askSound ch
      | none => s.askSound ch)

/-- Frames in a row in which a map of a use fell short. -/
def Chan.short (c : Chan) (use : Nat) : Nat := if use = 0 then c.lowRuns else c.lowRunsP

/-- A map in force is held against one computed afresh (R168): replaced where the throughput moved by more than `tm_delta` percent,
or where 5 % of the loaded carriers fell short in each of 8 consecutive frames. -/
def State.reviewMap (s : State) (ch use : Nat) : State :=
  match s.rxMapOf ch use with
  | none => s
  | some m =>
    let run := if s.shortBy ch m 20 then (s.chan ch).short use + 1 else 0
    let s := s.updChan ch (fun c => { c with lowRuns := if use = 0 then run else c.lowRuns, lowRunsP := if use = 1 then run else c.lowRunsP })
    let n := s.computeMap ch use
    let v (t : ToneMap) : Nat := t.bs * rate12 t.code
    let moved := decide (s.fld .CHN_ADAPT_CFG_tm_delta ch * v m < 100 * ((v n - v m) + (v m - v n)))
    if moved || 8 ≤ run then s.renewMap ch use else s

/-- After a decoded frame in LIVE the maps are reviewed (R168). -/
def State.reviewMaps (s : State) (ch : Nat) : State :=
  if s.chState ch ≠ chLive ∨ (s.chan ch).est = [] then s else (s.reviewMap ch 0).reviewMap ch 1

/-- Count a received frame's failed segments towards trigger 1 of R170: 50 % or more in each of 3 consecutive frames. -/
def State.segFailures (s : State) (ch failed total : Nat) : State :=
  let run := if total ≤ 2 * failed ∧ 0 < total then (s.chan ch).failRuns + 1 else 0
  let s := s.updChan ch (fun c => { c with failRuns := if 3 ≤ run then 0 else run })
  if 3 ≤ run then s.invalidate ch 1 true else s

/-- The blanked samples to the right of impulse samples, `left` still to blank (R175). -/
def blankRight (post : Nat) : Nat → List Bool → List Bool
  | _, [] => []
  | left, b :: t =>
    if b then true :: blankRight post post t
    else (0 < left) :: blankRight post (left - 1) t

/-- The blanked samples of a body (R175): `carry` samples run on from the symbol before. -/
def blankMask (pre post carry : Nat) (imp : List Bool) : List Bool :=
  List.zipWith or (blankRight post carry imp) (blankRight pre 0 imp.reverse).reverse

/-- The samples after the last one that a window runs on (R175), less the guard in between. -/
def blankCarry (post guard : Nat) (imp : List Bool) : Nat :=
  match imp.reverse.findIdx? (· == true) with
  | some i => post - i - guard
  | none => 0

/-- Full scale of the pipe's 18-bit word (R103). -/
def fullScale : Nat := 131071

/-- Impulse samples of a body at the level σ² (R174): at T or above, or at full scale. -/
def State.impulses (s : State) (ch : Nat) (sigma2 : Rat) (x : List Int) : List Bool :=
  let fs2 : Rat := ((fullScale * fullScale : Nat) : Rat)
  let t2 := min (sigma2 * Config.powerRatio (s.fld .CHN_CHISEL_CFG_chisel_thr ch)) (fs2 * Config.powerRatio (-1))
  x.map (fun v => decide (t2 ≤ ((v * v : Int) : Rat)) || fullScale ≤ v.natAbs)

/-- Δ ≥ -0.5 × thr dB over the pilots of a symbol (R177, R178): Y/X, H and σ² of each pilot. -/
def stepSeen (thr : Nat) (l : List (Cx × Est)) : Bool :=
  let n := (l.map (fun (e : Cx × Est) => (e.1.sub e.2.h).abs2)).foldl (· + ·) 0 - (l.map (fun (e : Cx × Est) => e.2.s2)).foldl (· + ·) 0
  let d := (l.map (fun (e : Cx × Est) => e.2.h.abs2)).foldl (· + ·) 0
  decide (0 < n) && decide (d ^ 20 ≤ n ^ 20 * 10 ^ thr)

end Sys2Proof.Machine
end

