-- ==== Sys2Proof/Machine/Overlock.lean ====
section
/-! DEFINITION. Chapter 6: the Overlock array's classes, coefficient entries, pair states, learning, error reports,
duplex bits and commands (R183 to R221). Classes are 0 NEXT, 1 FEXT, 2 precoder. -/

namespace Sys2Proof.Machine

/-- The partition item of a class. -/
def State.olaClass (s : State) (cls : Nat) : OlaClass := s.pat.olaParts.getD cls ⟨0, 0, 0⟩

/-- The victims of a class in index order (R189, R191). -/
def State.olaVictims (s : State) (cls : Nat) : List Nat :=
  if s.pat.types.contains 6 then (s.pat.olaItems.filter (fun i => i.cls == cls)).map (·.victim)
  else List.range (s.olaClass cls).victims

/-- The victim index of a channel in a class. -/
def State.victimIdx (s : State) (cls v : Nat) : Option Nat := (s.olaVictims cls).findIdx? (· == v)

/-- The default disturbers of a victim (R191): offsets +1, -1, +2, -2 and so on, `n` of them. -/
def defaultDists (v n : Nat) : List Nat :=
  (List.range n).map (fun k => if k % 2 = 0 then (v + (k / 2 + 1)) % 192 else (v + 192 - (k / 2 + 1)) % 192)

/-- The disturber of each slot of a victim (R189, R191), none of a channel that is no victim of the class: in NEXT slot 0 is the
victim itself. -/
def State.olaSlots (s : State) (cls v : Nat) : List Nat :=
  let nd := (s.olaClass cls).nd
  let l := if s.pat.types.contains 6 then
      ((s.pat.olaItems.find? (fun i => i.cls == cls && i.victim == v)).map (·.dists)).getD []
    else defaultDists v (if cls = 0 then nd - 1 else nd)
  if (s.victimIdx cls v).isNone then [] else if cls = 0 then v :: l else l

/-- A channel's pilot code (R192). -/
def State.pilotCode (s : State) (ch : Nat) : Nat :=
  match s.pat.olaItems.find? (fun i => i.cls != 0 && i.victim == ch) with
  | some i => i.code
  | none => ch % 64

/-- The feature of a class is in force (R185, R220): NEXT runs under busbar duplex or Cast. -/
def State.olaForce (s : State) (cls : Nat) : Bool :=
  match cls with
  | 0 => s.inForce 0 || s.inForce 6
  | 1 => s.inForce 1
  | _ => s.inForce 2

/-- A class runs: in force, the array not fenced off (R185) nor stopped in GASP (R492). -/
def State.olaOn (s : State) (cls : Nat) : Bool :=
  s.olaForce cls && !s.flag .OLA_STATUS_fenced 0 && s.rst.pwr != .gasp

/-- The key of a pair in the table of pairs. -/
def pairKey (cls vi slot : Nat) : Nat := (cls * 256 + vi) * 64 + slot

/-- A pair. -/
def State.pair (s : State) (cls vi slot : Nat) : Pair := tget {} (pairKey cls vi slot) s.ola.pairs

/-- The first entry of a pair (R193). -/
def State.entryOf (s : State) (cls vi slot c : Nat) : Nat :=
  (s.olaClass cls).base + (vi * (s.olaClass cls).nd + slot) * 1024 + (c - 74)

/-- A pair counts in `OLA_PAIRS.active` or `learning`. -/
def pairActive (p : Pair) : Bool := p.st == .active || p.st == .held

/-- Put a pair in a state, keeping `OLA_PAIRS` true of it (R212): an EMPTY pair's entries read 0, updates on their way to them are
dropped and its counts restart; the hold timer is cleared on leaving HELD. -/
def State.setPair (s : State) (cls vi slot : Nat) (dest : PairSt) : State :=
  let p := s.pair cls vi slot
  let p' : Pair := if dest = .empty then {} else { p with st := dest, hold := 0 }
  let s := { s with ola := { s.ola with pairs := tput {} (pairKey cls vi slot) p' s.ola.pairs } }
  let s := s.setFld .OLA_PAIRS_active cls
    (s.fld .OLA_PAIRS_active cls + b2n (pairActive p') - b2n (pairActive p))
  let s := s.setFld .OLA_PAIRS_learning cls
    (s.fld .OLA_PAIRS_learning cls + b2n (p'.st == .learn) - b2n (p.st == .learn))
  if dest = .empty then
    let e := s.entryOf cls vi slot 74
    let mine (x : Nat) : Bool := decide (e ≤ x) && decide (x < e + 1024)
    { s with ola := { s.ola with
        coef := s.ola.coef.filter (fun x => !mine x.1), writes := s.ola.writes.filter (fun w => !mine w.entry) } }
  else s

/-- Every pair of a class in which a channel is victim or disturber: (victim index, slot, self pair). -/
def State.pairsOf (s : State) (cls x : Nat) : List (Nat × Nat × Bool) :=
  ((s.olaVictims cls).zipIdx.map (fun (e : Nat × Nat) =>
    (((s.olaSlots cls e.1).zipIdx.filter (fun (d : Nat × Nat) => e.1 == x || d.1 == x)).map
      (fun (d : Nat × Nat) => (e.2, d.2, d.1 == e.1))))).flatten

/-- Change every pair of a channel in a class by a rule on its state (R213). -/
def State.mapPairs (s : State) (cls x : Nat) (f : PairSt → PairSt) : State :=
  (s.pairsOf cls x).foldl (fun s e =>
    let st := (s.pair cls e.1 e.2.1).st
    if f st = st then s else s.setPair cls e.1 e.2.1 (f st)) s

/-- EMPTY for any state. -/
def toEmpty (_ : PairSt) : PairSt := .empty
/-- ACTIVE to HELD. -/
def toHeld (p : PairSt) : PairSt := if p = .active then .held else p
/-- HELD to ACTIVE. -/
def unHold (p : PairSt) : PairSt := if p = .held then .active else p
/-- ACTIVE and HELD to LEARN. -/
def demote (p : PairSt) : PairSt := if p = .active ∨ p = .held then .learn else p

/-- Every pair of a channel goes to EMPTY: coupling mode sent, FAULT entered, lane lost (R213, R214). -/
def State.olaEmpty (s : State) (x : Nat) : State :=
  ((s.mapPairs 0 x toEmpty).mapPairs 1 x toEmpty).mapPairs 2 x toEmpty

/-- FEXT and precoder pairs of a channel go to EMPTY: role change, ARMED entered from TRAINING or LIVE (R213). -/
def State.olaEmptyFar (s : State) (x : Nat) : State := (s.mapPairs 1 x toEmpty).mapPairs 2 x toEmpty

/-- FEXT and precoder pairs are demoted to LEARN: TRAINING entered, impedance step (R213). -/
def State.olaDemote (s : State) (x : Nat) : State := (s.mapPairs 1 x demote).mapPairs 2 x demote

/-- OFF or QUIET entered: ACTIVE pairs to HELD (R213). -/
def State.olaHold (s : State) (x : Nat) : State :=
  ((s.mapPairs 0 x toHeld).mapPairs 1 x toHeld).mapPairs 2 x toHeld

/-- OFF or QUIET left: NEXT pairs back to ACTIVE (R213). -/
def State.olaUnhold (s : State) (x : Nat) : State := s.mapPairs 0 x unHold

/-- Residuals in which a channel is victim or disturber hold it no longer: what was kept before a hold cause ends no hold (R213). -/
def State.dropResid (s : State) (x : Nat) : State :=
  { s with ola := { s.ola with resid := (s.ola.resid.filter (fun r => r.victim != x)).map (fun r =>
    { r with dists := r.dists.filter (· != x) }) } }

/-- A hold cause on a channel in a class (R213). -/
def State.holdPairs (s : State) (cls x : Nat) : State := (s.dropResid x).mapPairs cls x toHeld

/-- What Overlock does when a channel's state changes (R213); EMPTY takes precedence over LEARN, LEARN over HELD. The sync slots
missed in a row are counted afresh outside TRAINING and LIVE. -/
def State.olaStateChange (s : State) (x old new : Nat) : State :=
  let s := if new = chTraining ∨ new = chLive then s
    else { s with ola := { s.ola with missUp := tdel x s.ola.missUp, missDn := tdel x s.ola.missDn } }
  let s := if (old = chOff ∨ old = chQuiet) ∧ ¬ (new = chOff ∨ new = chQuiet) then s.olaUnhold x else s
  if new = chFault then s.olaEmpty x
  else if new = chArmed ∧ (old = chTraining ∨ old = chLive) then s.olaEmptyFar x
  else if new = chTraining then s.olaDemote x
  else if new = chOff ∨ new = chQuiet then (s.dropResid x).olaHold x
  else s

/-- The value of an entry word (R186). -/
def entryVal (w : Nat) : Cx :=
  let k : Rat := 1 / ((2 ^ (13 + bits w 28 4) : Nat) : Rat)
  ⟨((signed 14 (bits w 14 14) : Int) : Rat) * k, ((signed 14 (bits w 0 14) : Int) : Rat) * k⟩

/-- round of a rational (R551). -/
def roundRat (q : Rat) : Int := roundDiv q.num q.den

/-- The entry word of a value in canonical form (R186): the largest exponent at which both parts fit, each taken to
the nearest unit; saturated component by component at exponent 0. -/
def entryWord (z : Cx) : Nat :=
  let part (e : Nat) (x : Rat) : Int := roundRat (x * ((2 ^ (13 + e) : Nat) : Rat))
  let fits (v : Int) : Bool := decide (-8192 ≤ v) && decide (v ≤ 8191)
  let e := (((List.range 16).map (fun k => 15 - k)).find? (fun e => fits (part e z.re) && fits (part e z.im))).getD 0
  let i := unsigned 14 (clampInt (-8192) 8191 (part e z.re))
  let q := unsigned 14 (clampInt (-8192) 8191 (part e z.im))
  if i = 0 ∧ q = 0 then 0 else e * 2 ^ 28 + i * 2 ^ 14 + q

/-- The coefficient a carrier of a pair holds. -/
def State.coefWord (s : State) (cls vi slot c : Nat) : Nat := tget 0 (s.entryOf cls vi slot c) s.ola.coef

/-- Its value in the slot in progress: 0 in a burst that could not be corrected (R217). -/
def State.coefVal (s : State) (cls vi slot c : Nat) : Cx :=
  if s.ola.bad.any (fun e => decide (e ≤ s.entryOf cls vi slot c) && decide (s.entryOf cls vi slot c < e + 16)) then Cx.zero
  else entryVal (s.coefWord cls vi slot c)

/-- An uncorrectable burst of the slot in progress touches a pair (R211, R217). -/
def State.pairBad (s : State) (cls vi slot : Nat) : Bool :=
  let e := s.entryOf cls vi slot 74
  s.ola.bad.any (fun b => decide (e ≤ b) && decide (b < e + 1024))

/-- w_x[t] = (-1)^popcount(code AND t) (R203). -/
def pilotSign (code t : Nat) : Int :=
  if ((List.range 6).filter (fun i => code.testBit i && t.testBit i)).length % 2 = 0 then 1 else -1

/-- S_c of the sync symbols for carriers 74 to 1,097 (R203). -/
def syncCells : List Cx := scrCells 0x7000 1024

/-- The slots between sync slots of one direction: `sync_period` in slots (R201). -/
def State.syncPeriod (s : State) : Nat := 256 * (s.fld .OLA_SYNC_CFG_sync_period 0 + 1)

/-- A slot is an upstream sync slot (R201). -/
def State.isUpSync (s : State) (k : Nat) : Bool := k % (2 * s.syncPeriod) == 0
/-- A slot is a downstream sync slot (R201). -/
def State.isDnSync (s : State) (k : Nat) : Bool := k % (2 * s.syncPeriod) == s.syncPeriod
/-- The sync index of a slot (R201). -/
def State.syncIndex (s : State) (k : Nat) : Nat := k / (2 * s.syncPeriod) % 64

/-- A channel is a victim or a disturber in a class. -/
def State.inClass (s : State) (cls x : Nat) : Bool :=
  (s.olaVictims cls).any (fun v => v == x || (s.olaSlots cls v).contains x)

/-- A sync member of a direction (R202): class 1 upstream, class 2 downstream. -/
def State.syncMember (s : State) (cls x : Nat) : Bool :=
  s.fld .CHN_STATUS_role x == 0 && (s.chState x == chTraining || s.chState x == chLive) && s.olaOn cls
    && s.inClass cls x

/-- A slot is a sync slot for a channel (R202). -/
def State.syncSlotOf (s : State) (x k : Nat) : Bool :=
  (s.isUpSync k && s.syncMember 1 x) || (s.isDnSync k && s.syncMember 2 x)

/-- The duplex bit D(v, d) of slot `j` of a victim (R218). -/
def State.duplexBit (s : State) (v d : Nat) : Bool :=
  match s.victimIdx 0 v with
  | none => false
  | some vi =>
    match (s.olaSlots 0 v).findIdx? (· == d) with
    | none => false
    | some j => d != v && s.inForce 0 && pairActive (s.pair 0 vi j) && s.flag .CHN_OLA_LOCK_locked v
        && tget 0 v s.ola.divHem != s.grid.hem + 1

/-- Every duplex bit that is 1, and the counts shown in `dup_ok` (R218). -/
def State.handDuplex (s : State) : State :=
  let vs := s.olaVictims 0
  let on (v : Nat) : List (Nat × Nat) := ((s.olaSlots 0 v).filter (s.duplexBit v)).map (fun d => (v, d))
  let s := vs.foldl (fun s v => s.setFld .CHN_OLA_STATUS_dup_ok v (on v).length) s
  { s with ola := { s.ola with dup := (vs.map on).flatten } }

/-- The duplex bits that fell at this slot boundary are withdrawn (R218). -/
def State.fallDuplex (s : State) : State :=
  { s with ola := { s.ola with dup := s.ola.dup.filter (fun e => s.duplexBit e.1 e.2) } }

/-- The pairs of a victim's class go to EMPTY as diverged (R215, R216): at the slot boundary (R212); counted, flagged and logged. -/
def State.diverge (s : State) (cls v : Nat) : State :=
  match s.victimIdx cls v with
  | none => s
  | some vi =>
    let s := ((s.olaSlots cls v).zipIdx).foldl (fun s (e : Nat × Nat) => s.request (.pair cls vi e.2 .empty)) s
    let s := s.bump .OLA_DIV_CNT_diverge 0
    let s := match cls with
      | 0 => s.setFlag .CHN_OLA_STATUS_next_div v true
      | 1 => s.setFlag .CHN_OLA_STATUS_fext_div v true
      | _ => s.setFlag .CHN_OLA_STATUS_prec_div v true
    let s := { s with ola := { s.ola with
      divRuns := tdel (cls * 256 + v) s.ola.divRuns
      divHem := if cls = 0 then tset v (s.grid.hem + 1) s.ola.divHem else s.ola.divHem } }
    s.log 0x2401 (s.evOwner v) v cls

/-- The divergence guard of R215 for one symbol: `worse` is E_out > E_in. -/
def State.divGuard (s : State) (cls v : Nat) (worse : Bool) : State :=
  let k := cls * 256 + v
  let n := if worse then tget 0 k s.ola.divRuns + 1 else 0
  let s := { s with ola := { s.ola with divRuns := tput 0 k n s.ola.divRuns } }
  if s.fld .OLA_LEARN_CFG_div_n 0 ≤ n then s.diverge cls v else s

/-- Count an update of carrier index `ci` of a pair, and promote LEARN to ACTIVE once every carrier has the class's
least count (R211, R212). An EMPTY pair's conditions hold first: it enters LEARN. -/
def State.countUpdate (s : State) (cls vi slot : Nat) (cis : List Nat) : State :=
  let s := if (s.pair cls vi slot).st = .empty then s.setPair cls vi slot .learn else s
  let p := s.pair cls vi slot
  let counts := cis.foldl (fun t ci => tput 0 ci (min (tget 0 ci t + 1) 65535) t) p.counts
  let s := { s with ola := { s.ola with pairs := tput {} (pairKey cls vi slot) { p with counts := counts } s.ola.pairs } }
  let lim := match cls with
    | 0 => s.fld .OLA_LEARN_MIN_next_min 0
    | 1 => s.fld .OLA_LEARN_MIN_fext_min 0
    | _ => s.fld .OLA_LEARN_MIN_prec_min 0
  if p.st = .learn ∧ (List.range 1024).all (fun ci => lim ≤ tget 0 ci counts) then s.request (.pair cls vi slot .active)
  else s

/-- The least update count of a pair (R211). -/
def leastCount (p : Pair) : Nat := if p.counts.length < 1024 then 0 else p.counts.foldl (fun m e => min m e.2) 65535

/-- Schedule a coefficient word (R207: in effect two slots on). -/
def State.writeCoef (s : State) (entry word left : Nat) : State :=
  { s with ola := { s.ola with writes := s.ola.writes ++ [⟨entry, word, left⟩] } }

/-- A channel changed state in a slot, or its head reported a gain-range change in it (R211). -/
def State.unsettled (s : State) (ch k : Nat) : Bool :=
  (s.chan ch).changed == some k || (s.chan ch).rangeSlot == some k

/-- Apply residuals in the update phase of a slot (R207, R209, R210), to pairs that may learn in it (R211): a HELD pair whose learning
conditions hold again returns to ACTIVE at the next boundary (R213). A carrier without a residual, or of FEXT without an estimate
of the disturber, gets no update. -/
def State.applyResid (s : State) (u : Nat) (r : Resid) : State :=
  match s.victimIdx r.cls r.victim with
  | none => s
  | some vi =>
    let k := s.grid.slot
    let mu : Rat := 1 / ((2 ^ (if r.cls = 1 then s.fld .OLA_LEARN_CFG_fext_mu 0 else s.fld .OLA_LEARN_CFG_prec_mu 0) : Nat) : Rat)
    if s.olaOn r.cls = false ∨ s.unsettled r.victim k = true then s
    else ((s.olaSlots r.cls r.victim).zipIdx.filter (fun (d : Nat × Nat) =>
        r.dists.contains d.1 && !s.unsettled d.1 k && !s.pairBad r.cls vi d.2)).foldl
      (fun s (d : Nat × Nat) =>
        if (s.pair r.cls vi d.2).st = .held then s.request (.pair r.cls vi d.2 .active)
        else
          let w : Rat := ((pilotSign (s.pilotCode d.1) r.t : Int) : Rat)
          let est := (s.chan d.1).est
          let ups := (r.vals.filter (fun (e : Nat × Cx) => e.1 % 8 == u)).filterMap (fun (e : Nat × Cx) =>
            let z := Cx.scale (mu * w) (e.2.mul (syncCells.getD e.1 Cx.zero).conj)
            if r.cls = 1 then (tfind (e.1 + 74) est).map (fun h => (e.1, z.div h.h)) else some (e.1, Cx.scale (-1) z))
          let s := ups.foldl (fun s (e : Nat × Cx) =>
            s.writeCoef (s.entryOf r.cls vi d.2 (e.1 + 74))
              (entryWord ((s.coefVal r.cls vi d.2 (e.1 + 74)).add e.2)) 2) s
          if ups = [] then s else s.countUpdate r.cls vi d.2 (ups.map (·.1))) s

/-- The Overlock work of a slot boundary (R201, R207): coefficient words due take effect as far as activity A5 has budget
(R410), residuals advance a phase. -/
def State.olaSlot (s : State) : State :=
  let s : State := { s with ola := { s.ola with bad := [] } }
  let due := s.ola.writes.filter (fun w => w.left ≤ 1)
  let now := if bit s.pat.thimble.actBorrow 5 then due else due.take (s.pat.thimble.memOlw / 4)
  let coef := now.foldl (fun t w => tput 0 w.entry w.word t) s.ola.coef
  let rest := (s.ola.writes.filter (fun w => !(w.left ≤ 1))).map (fun w => { w with left := w.left - 1 })
  let s := if now.length < due.length then s.bump .HST_TMB_CNT_mem_wait 0 else s
  let s := { s with ola := { s.ola with coef := coef, writes := due.drop now.length ++ rest } }
  let u := s.grid.slot % 8
  let s : State := s.ola.resid.foldl (fun s r => s.applyResid u r) s
  let resid : List Resid := (s.ola.resid.map (fun r => { r with left := r.left - 1 })).filter (fun r => 0 < r.left)
  let s : State := { s with ola := { s.ola with resid := resid } }
  let s := s.setFld .OLA_STATUS_upd_phase 0 u
  let s := if s.isUpSync s.grid.slot then s.setFld .OLA_STATUS_sync_t 0 (s.syncIndex s.grid.slot) else s
  let s := if s.isDnSync s.grid.slot then
      let ms := (List.range 192).filter (s.syncMember 2)
      let t := s.syncIndex s.grid.slot
      let s := ms.foldl (fun (s : State) (c : Nat) => s.setFlag .CHN_OLA_STATUS_err_rx c false) s
      let s := s.setFld .OLA_STATUS_dsync_t 0 t
      { s with ola := { s.ola with dsHem := tset t s.grid.hem s.ola.dsHem } }
    else s
  s.fallDuplex

/-- A channel sent a sync symbol in the downstream sync slot that begins: its index is one of the channel's last four (R202, R206). -/
def State.noteSync (s : State) (ch : Nat) : State :=
  let mine := (s.ola.dsync.filter (fun (e : Nat × Nat) => e.1 == ch)).take 3
  { s with ola := { s.ola with
    dsync := s.ola.dsync.filter (fun (e : Nat × Nat) => e.1 != ch) ++ (ch, s.syncIndex s.grid.slot) :: mine } }

/-- The error of a part (R205): I and Q of 512 carriers. -/
def repErrs (l : List Byte) : List (Int × Int) :=
  (List.range 512).map (fun k => (signed 8 (beAt l (8 + 2 * k) 1), signed 8 (beAt l (9 + 2 * k) 1)))

/-- Apply a complete report (R206, R210, R216): nothing is learned while the class does not run (R185). The error power of a report is
held against the least of the up to 64 reports before it, fewer while fewer were held, the window moving on with each; a divergence
does not restart the run of high reports (R216 is silent on all three: DESIGN CHOICE, log 161). -/
def State.useReport (s : State) (ch t scale : Nat) (errs : Option (List (Int × Int))) : State :=
  let s := (s.bump .OLA_ERR_CNT_err_used 0).setFlag .CHN_OLA_STATUS_err_rx ch true
  match if s.olaOn 2 then errs else none with
  | none => s
  | some l =>
    let k : Rat := 1 / ((2 ^ scale : Nat) : Rat)
    let errs := l.map (fun e => (⟨((e.1 : Int) : Rat) * k, ((e.2 : Int) : Rat) * k⟩ : Cx))
    let vals : Tbl Cx := errs.zipIdx.map (fun (e : Cx × Nat) => (e.2, e.1))
    let pow := (errs.map Cx.abs2).foldl (· + ·) 0 / 1024
    let hist := tget [] ch s.ola.repPow
    let least := hist.foldl min (hist.headD 0)
    let high := if hist ≠ [] ∧ least * Config.powerRatio 12 ≤ pow then tget 0 ch s.ola.repHigh + 1 else 0
    let dists := (s.olaSlots 2 ch).filter (fun d => s.ola.dsync.contains (d, t))
    let s := { s with ola := { s.ola with
      repPow := tput [] ch ((pow :: hist).take 64) s.ola.repPow
      repHigh := tput 0 ch high s.ola.repHigh
      resid := s.ola.resid.filter (fun r => !(r.cls == 2 && r.victim == ch)) ++ [⟨2, ch, t, vals, dists, 8⟩] } }
    if 4 ≤ high then s.diverge 2 ch else s

/-- The deadline for a report of sync index `t` is over (R206): its Hems have passed since the sync slot. -/
def State.reportLate (s : State) (t : Nat) : Bool :=
  decide (tget 0 t s.ola.dsHem + s.fld .OLA_SYNC_CFG_err_deadline 0 < s.grid.hem)

/-- A part of an error report reached endpoint 0xFFE1 (R205, R206). Where the parts of one report carry different scales, the spec
does not say which holds: the one that came last serves both (DESIGN CHOICE, log 183). -/
def State.reportPart (s : State) (ch : Nat) (l : List Byte) : State :=
  let t := beAt l 2 1
  let part := beAt l 5 1
  let none0 := bit (beAt l 4 1) 0
  let lenOk := if none0 && part == 0 then l.length == 8 else l.length == 1032
  if beAt l 0 1 ≠ 0xE1 ∨ beAt l 1 1 ≠ 1 ∨ 1 < part ∨ lenOk = false ∨ s.ola.dsync.contains (ch, t) = false
      ∨ s.reportLate t = true then
    s.bump .OLA_ERR_CNT_err_stale 0
  else if none0 && part == 0 then s.useReport ch t 0 none
  else
    let me : RepPart := ⟨ch, t, part, beAt l 3 1, repErrs l⟩
    let others := s.ola.parts.filter (fun p => !(p.ch == ch && p.t == t && p.part == part))
    match others.find? (fun p => p.ch == ch && p.t == t) with
    | none => { s with ola := { s.ola with parts := others ++ [me] } }
    | some q =>
      let s := { s with ola := { s.ola with parts := others.erase q } }
      s.useReport ch t me.scale (some (if part = 0 then me.errs ++ q.errs else q.errs ++ me.errs))

/-- ERROR_REPORT_RX (R206). -/
def execErrorReportRx (ch : Nat) (msg : List Byte) (s : State) : Host.Outcome State Fault Refusal :=
  .next (s.reportPart ch msg)

/-- ERR_REPORT_DEADLINE: a part whose companion has not arrived in time is stale (R206). -/
def execErrReportDeadline (ch t : Nat) (s : State) : Host.Outcome State Fault Refusal :=
  .next (
    if s.reportLate t = false then s else
    let gone := s.ola.parts.filter (fun p => p.ch == ch && p.t == t)
    let s := { s with ola := { s.ola with parts := s.ola.parts.filter (fun p => !(p.ch == ch && p.t == t)) } }
    s.bumpN .OLA_ERR_CNT_err_stale 0 gone.length)

/-- The hold time of a class in Hems; 0 is no limit (R212). -/
def State.holdTime (s : State) (cls : Nat) : Nat :=
  match cls with
  | 0 => s.fld .OLA_HOLD0_next_hold 0
  | 1 => s.fld .OLA_HOLD0_fext_hold 0
  | _ => s.fld .OLA_HOLD1_prec_hold 0

/-- PAIR_HOLD_EXPIRY: a pair HELD for its class's hold time goes to EMPTY at the next slot boundary (R212). -/
def execPairHoldExpiry (cls victim slot : Nat) (s : State) : Host.Outcome State Fault Refusal :=
  .next (match s.victimIdx cls victim with
    | none => s
    | some vi =>
      if (s.pair cls vi slot).st = .held ∧ s.holdTime cls ≠ 0 ∧ s.holdTime cls ≤ (s.pair cls vi slot).hold then
        s.request (.pair cls vi slot .empty) else s)

/-- The checks every Overlock command shares (R220): then its operation at the victim's index. -/
def olaCmd (s : State) (p cls v slot : Nat) (k : Nat → State × Option Resp) : State × Option Resp :=
  if 2 < cls ∨ 191 < v then refuse s .badArg
  else if !s.mayName p v then refuse s .denied
  else if !s.olaForce cls then
    featGate s (match cls with | 0 => 0 | 1 => 1 | _ => 2) (refuse s .notNegotiated)
  else match s.victimIdx cls v with
    | none => refuse s .badArg
    | some vi => if (s.olaClass cls).nd ≤ slot then refuse s .badArg else k vi

/-- The code of a pair state (R220). -/
def PairSt.code : PairSt → Nat
  | .empty => 0 | .learn => 1 | .active => 2 | .held => 3

/-- The mean |coefficient|² of a pair in quarter decibels (R220); of an all-zero pair the spec states none (log 9). -/
def State.pairPower (s : State) (cls vi slot : Nat) : Nat :=
  let part (c : Nat) : Nat :=
    let w := s.coefWord cls vi slot (74 + c)
    ((signed 14 (bits w 14 14)).natAbs ^ 2 + (signed 14 (bits w 0 14)).natAbs ^ 2) * 2 ^ (30 - 2 * bits w 28 4)
  let n := ((List.range 1024).map part).foldl (· + ·) 0
  if n = 0 then Config.freeValue (2 ^ 34 + pairKey cls vi slot) % 65536 else unsigned 16 (quarterDb n (1024 * 2 ^ 56))

/-- OLA_PAIR_QUERY (R220). -/
def opOlaPairQuery (p cls v slot : Nat) (s : State) : State × Option Resp :=
  olaCmd s p cls v slot (fun vi =>
    let q := s.pair cls vi slot
    let d := ((s.olaSlots cls v)[slot]?).getD 0xFF
    (s, some ⟨.ok, [byte q.st.code, byte d] ++ le 2 (leastCount q) ++ le 2 (s.pairPower cls vi slot)
      ++ [byte (b2n (cls == 0 && s.duplexBit v d))]⟩))

/-- OLA_VICTIM_RESET: every slot of the victim's class to EMPTY (R220), at the next slot boundary (R212). -/
def opOlaVictimReset (p cls v : Nat) (s : State) : State × Option Resp :=
  olaCmd s p cls v 0 (fun vi =>
    ((List.range (s.olaClass cls).nd).foldl (fun s j => s.request (.pair cls vi j .empty)) s, some (rsp .ok)))

/-- OLA_COEF_READ (R221). -/
def opOlaCoefRead (p cls v slot carrier count : Nat) (s : State) : State × Option Resp :=
  olaCmd s p cls v slot (fun vi =>
    if carrier < 74 ∨ count = 0 ∨ 5 < count ∨ 1097 < carrier + count - 1 then refuse s .badArg
    else (s, some ⟨.ok, ((List.range count).map (fun k => le 4 (s.coefWord cls vi slot (carrier + k)))).flatten⟩))

/-- A panel may use expert commands (R74). -/
def State.expertOk (s : State) (p : Nat) : Bool := s.inForce 13 && s.right p 0

/-- OLA_COEF_WRITE (expert): the words are stored as they are from the next update boundary (R221); an EMPTY pair goes
to LEARN (R220). A slot beyond the list stays unused (R189), and without busbar duplex a NEXT pair but the self pair stays EMPTY
(R219): there the command stores nothing (log 162). -/
def opOlaCoefWrite (p cls v slot carrier : Nat) (words : List Nat) (s : State) : State × Option Resp :=
  olaCmd s p cls v slot (fun vi =>
    if !s.expertOk p then refuse s .denied
    else if carrier < 74 ∨ words.length = 0 ∨ 12 < words.length ∨ 1097 < carrier + words.length - 1 then refuse s .badArg
    else if pairActive (s.pair cls vi slot) then refuse s .badState
    else if (s.olaSlots cls v).length ≤ slot ∨ (cls = 0 ∧ slot ≠ 0 ∧ s.inForce 0 = false) then refuse s .ok
    else
      let s := words.zipIdx.foldl (fun s (w : Nat × Nat) =>
        s.writeCoef (s.entryOf cls vi slot (carrier + w.2)) (w.1 % 2 ^ 32) 1) s
      let s := if (s.pair cls vi slot).st = .empty then s.request (.pair cls vi slot .learn) else s
      (s, some (rsp .ok)))

/-- OLA_PAIR_QUERY. -/
def execOlaPairQuery (c : Cmd) (cls v slot : Nat) (s : State) : Host.Outcome State Fault Refusal :=
  .next (ohi s c 0x2401 (opOlaPairQuery c.pnl cls v slot s))

/-- OLA_VICTIM_RESET. -/
def execOlaVictimReset (c : Cmd) (cls v : Nat) (s : State) : Host.Outcome State Fault Refusal :=
  .next (ohi s c 0x2402 (opOlaVictimReset c.pnl cls v s))

/-- OLA_COEF_READ. -/
def execOlaCoefRead (c : Cmd) (cls v slot carrier count : Nat) (s : State) : Host.Outcome State Fault Refusal :=
  .next (ohi s c 0x2403 (opOlaCoefRead c.pnl cls v slot carrier count s))

/-- OLA_COEF_WRITE. -/
def execOlaCoefWrite (c : Cmd) (cls v slot carrier : Nat) (words : List Nat) (s : State) :
    Host.Outcome State Fault Refusal :=
  .next (ohi s c 0x2404 (opOlaCoefWrite c.pnl cls v slot carrier words s))

/-- A feature's offer is withdrawn (R73): bit cleared, the feature out of force, GLB_FEAT_LOST logged. -/
def State.withdraw (s : State) (b : Nat) : State :=
  if s.offered b then
    let s := s.setFld .FEAT_OFFER_offer 0 (setBit (s.fld .FEAT_OFFER_offer 0) b false)
    if s.inForce b then
      let s := s.setFld .GLB_FEAT_FORCE_force 0 (setBit (s.fld .GLB_FEAT_FORCE_force 0) b false)
      let s := { s with mgmt := { s.mgmt with lostFeat := setBit s.mgmt.lostFeat b true } }
      s.log 0x0002 noPanel noInst b
    else s
  else s

/-- Show the classes in force (R185, R219). -/
def State.olaShow (s : State) : State :=
  let ok := !s.flag .OLA_STATUS_fenced 0 && s.rst.pwr != .gasp
  (((s.setFlag .OLA_STATUS_next_on 0 (ok && s.inForce 0)).setFlag .OLA_STATUS_fext_on 0 (ok && s.inForce 1)).setFlag
    .OLA_STATUS_prec_on 0 (ok && s.inForce 2)).setFlag .OLA_STATUS_self_on 0 (ok && (s.inForce 0 || s.inForce 6))

/-- Every pair to EMPTY. -/
def State.olaAllEmpty (s : State) : State :=
  let s := { s with ola := { s.ola with pairs := [], coef := [], writes := [], resid := [], divRuns := [], terms := [] } }
  forAll [0, 1, 2] (fun c s => (s.setFld .OLA_PAIRS_active c 0).setFld .OLA_PAIRS_learning c 0) s

/-- The array stops, fenced off as faulty (R185). -/
def State.olaStop (s : State) : State := ((s.setFlag .OLA_STATUS_fenced 0 true).olaAllEmpty).handDuplex

/-- OVERLOCK_FENCE: the array is fenced off as faulty (R185): from the next slot boundary (R31) every class stops, every pair goes to
EMPTY and the offers of busbar duplex, FEXT cancel and precoder are withdrawn (R525). Before a seal it is at once. -/
def execOverlockFence (s : State) : Host.Outcome State Fault Refusal :=
  .next (
    if s.grid.running then [0, 1, 2].foldl (fun s b => s.request (.offer b)) (s.request .olaFence)
    else [0, 1, 2].foldl (fun s b => s.withdraw b) s.olaStop)

end Sys2Proof.Machine
end

