-- ==== Sys2Proof/Machine/Samples.lean ====
section
/-! DEFINITION. The receive samples of a channel (R26, R30) and what its detector reads from them (R101 to R106, R110): energies,
the correlation of R102, the AGC's gains, the sync point, the FFT. -/

namespace Sys2Proof.Machine

/-- Samples that a lane brings follow those before them (R26); after a gap a new run starts. The last 32,768 are kept. -/
def SampRun.add (r : SampRun) (first : Nat) (xs : List Int) : SampRun :=
  if r.start + r.xs.length = first then
    let l := r.xs ++ xs
    let n := l.length - 32768
    ⟨r.start + n, l.drop n⟩
  else ⟨first, xs⟩

/-- `n` samples from a tick on: none where not all of them are held. -/
def SampRun.span (r : SampRun) (t n : Nat) : Option (List Int) :=
  if r.start ≤ t ∧ t + n ≤ r.start + r.xs.length then some ((r.xs.drop (t - r.start)).take n) else none

/-- The `n` samples that end with a tick. -/
def SampRun.last (r : SampRun) (t n : Nat) : Option (List Int) := if n ≤ t + 1 then r.span (t + 1 - n) n else none

/-- The pipes have the sample of a tick A after it was taken at the couplers (R30). -/
def State.release (s : State) (t : Nat) : State := { s with tick := max s.tick (t + s.grid.a) }

/-- The energy trigger's condition (R101): E ≥ F × 10^(det_thr / 20). -/
def triggered (e f : Rat) (thr : Nat) : Bool := decide (f ^ 20 * ((10 ^ thr : Nat) : Rat) ≤ e ^ 20)

/-- C of R102 over 2,048 samples: the first 1,024 against the last. -/
def correlation (l : List Int) : Int := (List.zipWith (· * ·) (l.take 1024) (l.drop 1024)).foldl (· + ·) 0

/-- ρ ≥ `qual_thr` (R102), over two spans of 1,024 samples: the first 1,024 of a list of 2,048 and the last. -/
def qualifies (thr : Nat) (l : List Int) : Bool :=
  let c := correlation l
  let p := energy (l.take 1024) * energy (l.drop 1024)
  l.length == 2048 && decide (0 ≤ c) && decide (0 < p) && decide (thr * thr * p ≤ 65536 * (c.natAbs * c.natAbs))

/-- ρ reaches the threshold at a tick (R102). -/
def SampRun.point (r : SampRun) (thr t : Nat) : Bool := (r.last t 2048).any (qualifies thr)

/-- The gain in quarter decibels that brings a window to the target (R103), within −6 to +42 dB. -/
def agcAim (target : Nat) (w : List Int) : Int :=
  if energy w = 0 then 168 else clampInt (-24) 168 (quarterDb (fullScale * fullScale * w.length) (energy w) - 4 * (target : Int))

/-- The AGC's gains since the trigger (R103), newest first: the gain in force before it is the last. Each window sets the gain that
brings it to the target (log 166). -/
def State.agcGains (s : State) (ch t : Nat) : List Int :=
  let c := s.chan ch
  (List.range ((t - c.trigAt) / 256)).foldl (fun l i =>
    match c.rx.span (c.trigAt + 1 + 256 * i) 256 with
    | some w => agcAim (s.fld .CHN_DET_CFG_agc_target ch) w :: l
    | none => l) [c.agcGain]

/-- The AGC has settled (R103): two windows in a row in which the gain changes by at most 0.5 dB. -/
def agcSettled (l : List Int) : Bool :=
  match l with
  | a :: b :: c :: _ => decide ((a - b).natAbs ≤ 2) && decide ((b - c).natAbs ≤ 2)
  | _ => false

/-- The AGC gain freezes (R103, R104) and σ is set (R174). -/
def State.freezeAgc (s : State) (ch : Nat) (gain : Int) : State :=
  let fs2 : Rat := ((fullScale * fullScale : Nat) : Rat)
  let back : Int := -4 * (s.fld .CHN_DET_CFG_agc_target ch : Int)
  s.updChan ch (fun c => { c with agcFrozen := true, agcGain := clampInt (-24) 168 gain, chiselRun := 0
                                  chisel2 := fs2 * Config.powerRatio back })

/-- The sixteenths beyond a tick at which the sync point lies (R95, R105; log 167): C, over spans that meet 512 samples after it,
turns negative there and stays so for 256 samples; none where it does not. -/
def SampRun.syncFrac (r : SampRun) (t : Nat) : Option Nat :=
  let c (i : Nat) : Int := ((r.last (t + 511 + i) 2048).map correlation).getD 0
  if 0 ≤ c 0 ∧ (List.range 256).all (fun i => decide (c (i + 1) < 0)) = true then some (16 * c 0 / (c 0 - c 1)).toNat else none

/-- sqrt of a rational that is not negative. -/
def rootRat (q : Rat) : Rat := (q.num.natAbs : Nat) * Config.rsqrt (q.num.natAbs * q.den)

/-- Samples in the pipe's 18-bit word at a gain in quarter decibels (R103). -/
def scaled (gain : Int) (l : List Int) : List Int :=
  let k := rootRat (Config.powerRatio gain)
  l.map (fun x => clampInt (-131072) 131071 (roundRat ((x : Rat) * k)))

/-- The FFT of a body at a carrier. -/
def fftAt (l : List Int) (c : Nat) : Cx :=
  Cx.sum (l.zipIdx.map (fun (e : Int × Nat) => Cx.scale (e.1 : Rat) (Config.expTurn (-((c * e.2 : Nat) : Rat) / 8192))))

/-- A channel's detector is idle: F follows E with a time constant of 64 slots (R101), `e` being the mean of E over the slot. -/
def floorStep (f : Option Rat) (e : Rat) : Rat :=
  match f with
  | none => e
  | some f => f + (e - f) / 64

/-- An energy ratio of 14-bit samples against a full-scale sine, in quarter decibels (R106): the mean energy of `n` samples. The
sine's amplitude is 8,191, the largest sample (DESIGN CHOICE, log 168). -/
def rssiOf (e : Rat) (n : Nat) : Nat := unsigned 12 (quarterDb (2 * e.num.natAbs) (e.den * n * 8191 * 8191))

end Sys2Proof.Machine
end

