-- ==== Sys2Proof/Machine/Soft.lean ====
section
/-! DEFINITION. From cells to bits (R129, R134, R136 to R138, R176): soft values, repetition, depuncturing and the two decoders. A
soft value is positive where 0 is the likelier bit. -/

namespace Sys2Proof.Machine

/-- A soft value held to 6 bits (R129). -/
def soft6 (v : Int) : Int := clampInt (-32) 31 v

/-- The least squared distance of a value from the levels of an `n`-bit axis whose bit `j` is `b` (R137), a level being `k`. -/
def axisLeast (n j : Nat) (b : Bool) (k v : Rat) : Rat :=
  let ds := (((List.range (2 ^ n)).map (bitsMsb n)).filter (fun w => w.getD j false == b)).map (fun w =>
    (v - k * (cellAxis w : Int)) * (v - k * (cellAxis w : Int)))
  ds.foldl min (ds.headD 0)

/-- The soft values of an axis, from the signal to noise ratio of the cell: none stated where the noise is 0, taken as certain
(log 27). -/
def axisSoft (n : Nat) (k v snr : Rat) (sure : Bool) : List Int :=
  (List.range n).map (fun j =>
    let d := axisLeast n j true k v - axisLeast n j false k v
    if sure then (if 0 < d then 31 else if d < 0 then -32 else 0) else soft6 (roundRat (Config.softScale * snr * d)))

/-- The soft values of a cell of loading `b` (R137, R138): 0 where it is erased. -/
def cellSoft (b : Nat) (y h : Cx) (noise : Rat) (erased : Bool) : List Int :=
  if erased then List.replicate b 0
  else
    let z := y.div h
    let k := Config.rsqrt (cellE b)
    let r := h.abs2 / noise
    axisSoft ((b + 1) / 2) k z.re r (noise == 0) ++ axisSoft (b / 2) k z.im r (noise == 0)

/-- Soft values of one bit, added (R99, R136). -/
def addSoft (l : List Int) : Int := soft6 (l.foldl (· + ·) 0)

/-- The soft values of the `2m` bits of a repetition symbol of R copies (R99), from those of each position's cell. -/
def repSoft (m R : Nat) (cells : List (List Int)) : List Int :=
  (List.range m).flatMap (fun i => (List.range 2).map (fun b =>
    addSoft ((List.range R).map (fun r => (cells.getD (repPos m R r i) []).getD b 0))))

/-- The soft values of a frame's coded bits (R136): those of repeated bits added to their originals'. -/
def foldFill (nc : Nat) (l : List Int) : List Int :=
  (List.range nc).map (fun i => addSoft ((List.range (ceilDiv l.length nc)).map (fun r => l.getD (i + r * nc) 0)))

/-- The soft inputs of a block of `n` inputs (R128, R129): 0 for a punctured bit. -/
def depuncture (code : Nat) : Nat → Nat → List Int → List (Int × Int)
  | 0, _, _ => []
  | n + 1, i, l =>
    let both : Bool := match code with
      | 1 => i % 2 == 0
      | 2 => i % 3 == 0
      | _ => true
    if both then (l.getD 0 0, l.getD 1 0) :: depuncture code n (i + 1) (l.drop 2)
    else if code = 2 ∧ i % 3 = 2 then (0, l.getD 0 0) :: depuncture code n (i + 1) (l.drop 1)
    else (l.getD 0 0, 0) :: depuncture code n (i + 1) (l.drop 1)

/-- A path through the trellis: its metric and its inputs, newest first; states by the six inputs before, newest first. -/
abbrev Trellis := List (Option (Int × List Bool))

/-- One step of the search (R126, R129): of two paths alike the one from the lower state stays (log 27). -/
def viterbiStep (ab : Int × Int) (l : Trellis) : Trellis :=
  (List.range 64).map (fun t =>
    let u := decide (32 ≤ t)
    let from_ (p : Nat) : Option (Int × List Bool) := (l.getD p none).map (fun e =>
      let o := convOut u (bitsMsb 6 p)
      (e.1 + (if o.1 then -ab.1 else ab.1) + (if o.2 then -ab.2 else ab.2), u :: e.2))
    match from_ (t % 32 * 2), from_ (t % 32 * 2 + 1) with
    | some a, some b => some (if a.1 < b.1 then b else a)
    | some a, none => some a
    | none, b => b)

/-- The likeliest inputs of a block over the trellis that starts and ends in state 0 (R129), tail included. -/
def viterbi (l : List (Int × Int)) : List Bool :=
  match (l.foldl (fun t ab => viterbiStep ab t) (some (0, []) :: List.replicate 63 none)).getD 0 none with
  | some e => e.2.reverse
  | none => []

/-- The bits of a block of `k`. -/
def decodeConv (code k : Nat) (l : List Int) : List Bool := (viterbi (depuncture code (k + 6) 0 l)).take k

/-- The soft value of a shortening bit (R134): beyond any the others can add up to. -/
def certainZero : Rat := 1048576

/-- The inputs of an LDPC unit (R131 to R134): `k` information bits, certain zeros, and parity with 0 where punctured. -/
def ldpcInput (code k : Nat) : Nat → Nat → List Int → List Rat
  | 0, _, _ => []
  | n + 1, i, l =>
    if k ≤ i ∧ i < 960 then certainZero :: ldpcInput code k n (i + 1) l
    else if ldpcPunctured code i = true then 0 :: ldpcInput code k n (i + 1) l
    else ((l.headD 0 : Int) : Rat) :: ldpcInput code k n (i + 1) (l.drop 1)

/-- The codeword bits of a check (R130): check `q` is row q div 80, line q mod 80. -/
def checkBits (q : Nat) : List Nat := (ldpcRows.getD (q / 80) []).map (fun e => 80 * e.1 + (q % 80 + e.2) % 80)

/-- One check of normalised min-sum (R134): values and the check's messages after it. -/
def checkStep (vs : List Nat) (l old : List Rat) : List Rat × List Rat :=
  let qs := (vs.zip old).map (fun e => l.getD e.1 0 - e.2)
  let mag (x : Rat) : Rat := if x < 0 then -x else x
  let new := (List.range qs.length).map (fun i =>
    let others := qs.eraseIdx i
    let m := others.foldl (fun a x => min a (mag x)) (mag (others.headD 0))
    Config.minSumScale * (if others.foldl (fun b x => xor b (decide (x < 0))) false then -m else m))
  ((vs.zip (qs.zip new)).foldl (fun l e => l.set e.1 (e.2.1 + e.2.2)) l, new)

/-- One iteration: the 12 rows in order, each over its 80 checks (R134). -/
def ldpcRound (st : List Rat × List (List Rat)) : List Rat × List (List Rat) :=
  (List.range 960).foldl (fun st q =>
    let r := checkStep (checkBits q) st.1 (st.2.getD q [])
    (r.1, st.2.set q r.2)) st

/-- Iterations until the syndrome is zero, or the last (R134): hard decisions, and whether the codeword failed. -/
def ldpcIterate : Nat → List Rat × List (List Rat) → List Bool × Bool
  | 0, st => let h := st.1.map (fun x => decide (x < 0)); (h, !ldpcSyndromeZero h)
  | n + 1, st =>
    let h := st.1.map (fun x => decide (x < 0))
    if ldpcSyndromeZero h then (h, false) else ldpcIterate n (ldpcRound st)

/-- A codeword of `k` information bits decoded (R134). -/
def decodeLdpc (code k iters : Nat) (l : List Int) : List Bool × Bool :=
  let r := ldpcIterate iters (ldpcInput code k 1920 0 l, (List.range 960).map (fun q => (checkBits q).map (fun _ => (0 : Rat))))
  (r.1.take k, r.2)

/-- A block or codeword decoded (R129, R134): its bits, and whether it failed; a block has no check of its own. -/
def decodeBlock (code k iters : Nat) (l : List Int) : List Bool × Bool :=
  if code < 4 then (decodeConv code k l, false) else decodeLdpc code k iters l

/-- The blocks or codewords of a payload of `n` bits from a coded bit on (R127, R133): start, coded bits and bits. -/
def blockSpans (code : Nat) : Nat → Nat → Nat → List (Nat × Nat × Nat)
  | 0, _, _ => []
  | f + 1, start, n =>
    if n = 0 then []
    else
      let k := min n (if code < 4 then 2048 else 960)
      let sent := if code < 4 then convLen code (k + 6) else k + (ldpcLen code - 960)
      (start, sent, k) :: blockSpans code f (start + sent) (n - k)

/-- A frame control from the soft values of its 268 coded bits (R98). -/
def decodeFc (l : List Int) : Nat := ofBitsMsb (decodeConv 0 128 l)

end Sys2Proof.Machine
end

