-- ==== Sys2Proof/Machine/Windows.lean ====
section
/-! DEFINITION. Hem geometry: the phase of a slot, the window it lies in, whom it admits; duty ledgers' masks; peers and
the establishing of links (R222, R231 to R234, R238, R241, R245, R252). -/

namespace Sys2Proof.Machine

/-- The least and the greatest length of a Hem (R224, R227). -/
def pMin : Nat := 3076923
/-- The greatest length of a Hem. -/
def pMax : Nat := 4444444

/-- The length of the next Hem, fixed or provisional (R228, R236). -/
def State.nextP (s : State) : Nat := s.grid.nxt.getD (min pMax (max pMin s.grid.pf))

/-- The Hem phase of a tick (R232), in the Hem in force, the one before it or one after. -/
def State.phaseOf (s : State) (t : Nat) : Nat :=
  let g := s.grid
  if t < g.b then 65536 * (t + g.prevP - g.b) / g.prevP % 65536
  else if t < g.b + g.p then 65536 * (t - g.b) / g.p
  else 65536 * (t - (g.b + g.p)) / s.nextP % 65536

/-- Which Hem a tick lies in: 0 the one in force or before, 1 the next. -/
def State.hemSide (s : State) (t : Nat) : Nat := if t < s.grid.b + s.grid.p then 0 else 1

/-- A phase lies in a window referred to θ (R232). -/
def inWindow (w : Window) (phi theta : Nat) : Bool :=
  let f := if w.localPhase then (phi + 65536 - theta % 65536) % 65536 else phi
  decide ((f + 65536 - w.start) % 65536 < (w.stop + 65536 - w.start) % 65536)

/-- The windows that cover a channel: the pattern's, or on a MEMBER channel the layout its beacons gave (R241). -/
def State.windowsOf (s : State) (ch : Nat) : List Window :=
  if s.fld .CHN_STATUS_role ch = 0 then s.pat.windows.filter (fun w => bit w.chans ch)
  else (s.chan ch).layout.map (·.2)

/-- The window map of a channel as it would be fixed now (R228, R241): the pattern's windows and θ, or on a MEMBER channel the
layout its beacons gave, the coordinator's θ (R240) and Δ. -/
def State.liveMap (s : State) (ch : Nat) : WinMap :=
  if s.fld .CHN_STATUS_role ch = 0 then ⟨s.windowsOf ch, s.fld .CHN_HEM_STATUS_theta ch, 0⟩
  else ⟨s.windowsOf ch, (s.chan ch).bcnTheta, s.fld .CHN_HEM_OFS_delta_m ch⟩

/-- The window map that rules a channel at a tick: that of the Hem in force, or of the next once it is fixed (R228). -/
def State.mapAt (s : State) (ch t : Nat) : WinMap :=
  ((if s.hemSide t = 0 then (s.chan ch).map else (s.chan ch).nextMap).getD (s.liveMap ch))

/-- The phase that rules a channel at a tick (R241): a MEMBER adds its Δ. -/
def State.rulingPhase (s : State) (ch t : Nat) : Nat := (s.phaseOf t + (s.mapAt ch t).delta) % 65536

/-- The window a slot of a channel lies in; none is open contention (R232). -/
def State.windowAt (s : State) (ch k : Nat) : Option Window :=
  let t := s.slotTick k
  let m := s.mapAt ch t
  let phi := s.rulingPhase ch t
  m.wins.find? (fun w => inWindow w phi m.theta)

/-- The window types of R231. -/
def wtBeacon : Nat := 0
/-- PROTECT. -/
def wtProtect : Nat := 1
/-- RESERVED. -/
def wtReserved : Nat := 2
/-- CONTEND. -/
def wtContend : Nat := 3
/-- QUIET. -/
def wtQuiet : Nat := 4

/-- The type of the window a slot lies in. -/
def State.winType (s : State) (ch k : Nat) : Nat := ((s.windowAt ch k).map (·.typ)).getD wtContend

/-- Two slots of a channel lie in the same window, and in the same occurrence of it where `n` slots apart (R245). -/
def State.sameWindow (s : State) (ch k n : Nat) : Bool :=
  let w := s.windowAt ch k
  (List.range n).all (fun i => s.windowAt ch (k + i) == w)

/-- The number of carriers of a list that lie in a segment of a ledger. -/
def countIn (l : List Nat) (first last : Nat) : Nat := (l.filter (fun c => first ≤ c && c ≤ last)).length

/-- A channel's ledgers (R249). -/
def State.ledgersOf (s : State) (ch : Nat) : List Ledger := s.pat.ledgers.filter (fun l => l.channel == ch)

/-- A ledger segment is masked. -/
def State.ledgerMasked (s : State) (l : Ledger) : Bool := bit (s.fld .CHN_LEDGER_STATUS_masked l.channel) l.segment

/-- A masked segment would receive energy on one of the carriers (R252); class 3 passes exempt segments. -/
def State.maskedFor (s : State) (ch : Nat) (carriers : List Nat) (prio : Nat) : Bool :=
  (s.ledgersOf ch).any (fun l =>
    s.ledgerMasked l && !(prio == 3 && l.protExempt) && carriers.any (fun c => l.first ≤ c && c ≤ l.last))

/-- Slots ahead of the running slot that a commitment lies (R36): three and the slots A reaches into. -/
def State.commitAhead (s : State) : Nat := 3 + ceilDiv s.grid.a s.ls

/-- Carriers a frame-control symbol energises, with the preamble's. -/
def State.fcCarriers (s : State) (ch : Nat) : List Nat := preambleSet (s.plan ch) ++ fcSet (s.plan ch)

/-- A frame of the link was heard from a station: it is the last of the channel's peers. -/
def State.notePeer (s : State) (ch addr : Nat) : State :=
  s.updChan ch (fun c =>
    let old := (c.peers.find? (fun p => p.addr == addr)).getD { addr := addr }
    { c with peers := c.peers.filter (fun p => p.addr != addr) ++ [{ old with hem := 0 }], rxHems := 0 })

/-- The station sent a BEACON of the link (R238). -/
def State.isBeaconer (s : State) (ch addr : Nat) : Bool := (s.chan ch).banned.any (fun b => b.1 == addr)

/-- Frames from a station are dropped as foreign: 16 Hems have not passed since its BEACON (R239). -/
def State.isBanned (s : State) (ch addr : Nat) : Bool :=
  (s.chan ch).banned.any (fun b => b.1 == addr && (decide (s.grid.hem < b.2.1 + 16)
    || (s.grid.hem == b.2.1 + 16 && decide (s.tick < s.grid.b + b.2.2))))

/-- A frame of the link establishes it at a COORDINATOR channel in ARMED (R238): TRAINING at the next slot boundary. -/
def State.establish (s : State) (ch addr : Nat) : State :=
  if s.fld .CHN_STATUS_role ch = 0 ∧ s.effState ch = chArmed ∧ s.isBeaconer ch addr = false then
    s.requestState ch chTraining 0
  else s

/-- The tick at which a frame's last sample reached the coupler. -/
def State.frameEnd (s : State) (t fc : Nat) : Nat := t + (2 + fc) * s.ls

/-- A frame control addressed to the station, or to every one (R96). -/
def State.frameTo (s : State) (ch : Nat) (fc : FC) : Bool := fc.dst == s.ownAddr ch || fc.dst == 0xFFFF

/-- A received frame is decoded: what its blocks gave is known, and of a SOUND frame every symbol came (R150, R154). -/
def RxFrame.done (f : RxFrame) : Bool :=
  f.blocks.all (fun b => b.out.isSome) && (f.fc.typ != 4 || f.cells.length == fcNSym f.fc)

/-- The oldest decoded frame of a channel that a test picks. -/
def State.heard (s : State) (ch : Nat) (pick : FC → Bool) : Option RxFrame := (s.chan ch).rxq.find? (fun f => f.done && pick f.fc)

/-- A decoded frame is taken from the pipe: the slot its ACK is due in (R243) and its timestamp (R310) are counted from it. -/
def State.takeHeard (s : State) (ch : Nat) (f : RxFrame) : State :=
  s.updChan ch (fun c => { c with
    rxq := c.rxq.erase f, trigTick := f.at_, rxEnd := s.frameEnd (f.at_ / 32) (fcPayload f.fc) })

end Sys2Proof.Machine
end

