-- ==== Sys2Proof/Machine/Dormant.lean ====
section
/-! DEFINITION. Chapter 9: dormant records, the rendezvous exchange, listen windows, the Bodkin tone and the DRM commands
(R281 to R302). -/

namespace Sys2Proof.Machine

/-- Records the module holds: 4,096, or 256 in narrow service (R282). -/
def State.recLimit (s : State) : Nat := if s.narrow then 256 else 4096

/-- A record. -/
def State.drec (s : State) (r : Nat) : DrmRec := tget {} r s.drm.recs

/-- Store a record, and show the number not FREE. -/
def State.setRec (s : State) (r : Nat) (d : DrmRec) : State :=
  let s := { s with drm := { s.drm with recs := tput {} r d s.drm.recs } }
  s.setFld .DRM_STATUS_rec_used 0 s.drm.recs.length

/-- Release a record (R283). -/
def State.freeRec (s : State) (r : Nat) : State := s.setRec r {}

/-- The DORMANT item of a channel. -/
def State.dormItem (s : State) (ch : Nat) : Option DormItem := s.pat.dorm.find? (fun i => i.channel == ch)

/-- The record of a partner on a channel. -/
def State.recOf (s : State) (ch addr : Nat) : Option Nat :=
  (s.drm.recs.find? (fun e => e.2.ch == ch && e.2.addr == addr)).map (·.1)

/-- The lowest FREE record. -/
def State.firstFree (s : State) : Option Nat :=
  (List.range s.recLimit).find? (fun r => (tfind r s.drm.recs).isNone)

/-- The allowed group that holds the fewest records of the module, the lowest on a tie (R285). -/
def State.pickGroup (s : State) (mask : Nat) : Nat :=
  let load (g : Nat) : Nat := (s.drm.recs.filter (fun e => e.2.group == g)).length
  let gs := (List.range 16).filter (bit mask)
  gs.foldl (fun best g => if load g < load best then g else best) (gs.headD 0)

/-- The bytes of SLEEP_ANS (R284). -/
def sleepAns (period result group carrier : Nat) : List Byte :=
  [byte 2, byte 1] ++ be 2 period ++ [byte result, byte group, byte carrier, 0]

/-- Send SLEEP_ANS to a partner's endpoint 0xFFE2. -/
def State.sendAns (s : State) (ch addr : Nat) (b : List Byte) : State := s.sendDevice ch addr true 0xFFE2 b none

/-- Refuse a request: the period, group and carrier of a refusal are not stated (log 3). -/
def State.refuseSleep (s : State) (ch addr result : Nat) : State :=
  let (v, s) := s.drawFree
  s.sendAns ch addr (sleepAns (v % 65536) result (v / 65536 % 16) (v / 2 ^ 20 % 8))

/-- A control message reached endpoint 0xFFE2 (R284, R285). -/
def State.sleepMessage (s : State) (ch addr : Nat) (m : List Byte) : State :=
  if m.length ≠ 8 ∨ beAt m 0 1 ≠ 1 ∨ beAt m 1 1 ≠ 1 then s.bump .DLV_EP_CNT_ep_unknown 0
  else match s.recOf ch addr with
    | some r =>
      let d := s.drec r
      s.sendAns ch addr (sleepAns d.period 0 d.group d.carrier)
    | none => match s.dormItem ch with
      | none => s.refuseSleep ch addr 2
      | some it => match s.firstFree with
        | none => (s.bump .DRM_MISC_CNT_rec_full 0).refuseSleep ch addr 1
        | some r =>
          let g := s.pickGroup it.groups
          let p := min it.periodMax (max it.periodMin (beAt m 2 2))
          let tol := beAt m 4 2
          let (v, s) := s.drawFree
          let s := s.setRec r { st := .syncing, ch := ch, addr := addr, group := g, carrier := it.carrier, period := p
                                bound := tol * 65536, tol := tol, lastCount := v % 4096 }
          s.sendAns ch addr (sleepAns p 0 g it.carrier)

/-- SLEEP_REQ (R285). -/
def execSleepReq (ch src : Nat) (msg : List Byte) (s : State) : Host.Outcome State Fault Refusal :=
  .next (s.sleepMessage ch src msg)

/-- The acknowledgement of a grant reached the module (R286). -/
def State.grantAcked (s : State) (ch addr : Nat) : State :=
  match s.recOf ch addr with
  | none => s
  | some r =>
    let d := s.drec r
    if d.st = .syncing ∧ d.grantAck = none then s.setRec r { d with grantAck := some s.grid.slot } else s

/-- SYNCING_TIMEOUT: 256 slots from the grant's acknowledgement without WAKE_SYNC (R286). -/
def execSyncingTimeout (r : Nat) (s : State) : Host.Outcome State Fault Refusal :=
  .next (match (s.drec r).grantAck with
    | none => s
    | some k =>
      if (s.drec r).st = .syncing ∧ (s.drec r).wsSeen = false then (s.reach (s.slotTick (k + 256))).freeRec r else s)

/-- T of R290 and R292 in ticks. -/
def wakeSpan (k period : Nat) : Nat := 200000000 * (k * period)

/-- The listen window of a record (R290): first and last tick. -/
def State.listenWindow (s : State) (d : DrmRec) : Option (Nat × Nat) :=
  match d.refs with
  | [] => none
  | (t0, _) :: _ =>
    let t := wakeSpan (d.misses + 1) d.period
    let e : Int := t0 + t + roundDiv (t * d.drift) (65536 * 1000000)
    let m := ((s.dormItem d.ch).map (·.margin)).getD 0 * 200
    let g := ceilDiv (t * d.bound) (65536 * 1000000) + m * 2 ^ min d.misses 4
    some ((e - g).toNat, (e + g + 130 * s.ls).toNat)

/-- Slots `k` to `k + n - 1` of a channel overlap ticks `lo` to `hi`. -/
def State.overlaps (s : State) (k n lo hi : Nat) : Bool := s.slotTick k ≤ hi && lo < s.slotTick (k + n)

/-- Frames of classes 0 to 2 are held back from the slots (R290, R299). -/
def State.dormHeld (s : State) (ch k n : Nat) : Bool :=
  s.drm.recs.any (fun e => e.2.st == .dormant && e.2.ch == ch && (match s.listenWindow e.2 with
    | some w => s.overlaps k n w.1 w.2
    | none => false))
  || s.drm.listens.any (fun l => l.1 == ch && s.overlaps k n l.2.1 l.2.2)

/-- LISTEN_WINDOW_OPEN (R290, R291): the record's window opens, once the one before it has closed. -/
def execListenWindowOpen (r : Nat) (s : State) : Host.Outcome State Fault Refusal :=
  .next (
    let d := s.drec r
    match s.listenWindow d with
    | none => s
    | some w =>
      if d.st = .dormant ∧ (d.winOpen = none ∨ d.closed = true) then
        (s.reach w.1).setRec r { d with winOpen := some w, kept := false, closed := false }
      else s)

/-- A record enters WAKING (R294). -/
def State.startWaking (s : State) (r : Nat) : State :=
  let d := s.drec r
  if d.st = .dormant ∨ d.st = .awake then
    (s.setRec r { d with st := .waking, seqs := 0, toneWait := true }).bump .DRM_TONE_CNT_tones 0
  else s

/-- A class-3 segment was queued for a partner (R294). -/
def State.wakeFor (s : State) (ch addr : Nat) : State :=
  match s.recOf ch addr with
  | some r => s.startWaking r
  | none => s

/-- Hand a message over and wake the partner of a class-3 one (R294). -/
def State.handoverWake (s : State) (panel ch peer prio : Nat) (ackReq enc : Bool) (ep : Nat) (data : List Byte)
    (launch : Option Nat := none) : Option State :=
  (s.handover panel ch peer prio ackReq enc ep data none launch).map (fun s => if prio = 3 then s.wakeFor ch peer else s)

/-- LISTEN_WINDOW_CLOSE: without a rendezvous a miss is declared (R291), and `miss_limit` misses wake the partner
(R294). A rendezvous may still be kept until the next window opens. -/
def execListenWindowClose (r : Nat) (s : State) : Host.Outcome State Fault Refusal :=
  .next (
    let d := s.drec r
    match d.winOpen with
    | none => s
    | some w =>
      if d.closed = true ∨ d.st ≠ .dormant then s
      else
        let s := s.reach w.2
        if d.kept = true then s.setRec r { d with closed := true }
        else
          let s := (s.setRec r { d with misses := d.misses + 1, closed := true }).bump .DRM_RDV_CNT_rdv_miss 0
          let lim := ((s.dormItem d.ch).map (·.missLimit)).getD 1
          if lim ≤ d.misses + 1 then s.startWaking r else s)

/-- The fields of a WAKE_SYNC body (R287), whose bit 0 is bit 24 of the frame control. -/
def wsDir (b : Nat) : Nat := bits b 51 1
/-- `ws_kind`, `ws_cmd`. -/
def wsKind (b : Nat) : Nat := bits b 49 2
/-- `ws_count`. -/
def wsCount (b : Nat) : Nat := bits b 37 12
/-- `ws_k`. -/
def wsK (b : Nat) : Nat := bits b 29 8
/-- `ws_pend`. -/
def wsPend (b : Nat) : Nat := bits b 13 8

/-- The body of a reply (R287). -/
def wsReply (cmd count period hold group carrier : Nat) : Nat :=
  2 ^ 51 + cmd % 4 * 2 ^ 49 + count % 4096 * 2 ^ 37 + period % 65536 * 2 ^ 21 + hold % 256 * 2 ^ 13
    + group % 16 * 2 ^ 9 + carrier % 8 * 2 ^ 6

/-- d_n of R292: the arrival's error over the span `t` from `t0`; for T = 0 the free value `v` (log 3). -/
def driftSeen (tArr t0 t v : Nat) : Int :=
  if t = 0 then signed 32 v else roundDiv (((tArr : Int) - (t0 + t)) * 65536 * 1000000) t

/-- What a record learns from d_n (R292): its drift, smoothed once one was measured, and its bound, not below `floorU`. -/
def DrmRec.learn (d : DrmRec) (dn floorU : Int) (shift : Nat) : DrmRec :=
  { d with
    drift := if d.measured then d.drift + roundDiv (dn - d.drift) (2 ^ shift) else dn
    bound := (max floorU (d.bound + roundDiv (2 * ((dn - d.drift).natAbs : Int) - d.bound) 4)).toNat
    measured := true }

/-- The drift update of a kept rendezvous (R292): `tArr` and `ws_k` from the frame, the reference `ws_count` names. For
T = 0 the spec states no d_n (log 3). -/
def State.learnDrift (s : State) (r : Nat) (tArr count k : Nat) : State :=
  let d := s.drec r
  match d.refs.find? (fun e => e.2 == count) with
  | none => s
  | some (t0, _) =>
    let t := wakeSpan k d.period
    let (v, s) := if t = 0 then s.drawFree else (0, s)
    s.setRec r (d.learn (driftSeen tArr t0 t v) (roundDiv (s.fld .DRM_CFG_unc_floor 0 * 65536) 10) (s.fld .DRM_CFG_drift_shift 0))

/-- The module owes a reply to a WAKE_SYNC (R288, R289): ARMED, TRAINING and LIVE answer. -/
def State.oweReply (s : State) (ch : Nat) (fc : FC) (tick : Nat) : State :=
  let st := s.effState ch
  if st = chArmed ∨ st = chTraining ∨ st = chLive then
    let e := tick + 2 * s.ls
    let w : WakeOwe := ⟨ch, fc.src, wsKind fc.body, wsPend fc.body, s.boundaryAfter e 8, s.boundaryAfter e 40⟩
    { s with drm := { s.drm with owe := s.drm.owe ++ [w] } }
  else s

/-- A decoded WAKE_SYNC of a partner (R288 to R292, R299). -/
def State.wakeSync (s : State) (ch : Nat) (fc : FC) (tick : Nat) : State :=
  let st := s.chState ch
  let b := fc.body
  if fc.typ ≠ 6 ∨ fc.ver ≠ 0 ∨ fc.link ≠ s.fld .CHN_CFG_link_id ch ∨ fc.dst ≠ s.ownAddr ch ∨ wsDir b ≠ 0
      ∨ s.fld .CHN_STATUS_role ch ≠ 0 ∨ st = chOff ∨ st = chFault ∨ s.isBanned ch fc.src ∨ wsKind b = 3 then s
  else
    let s := (s.oweReply ch fc tick).establish ch fc.src
    match s.recOf ch fc.src with
    | none => s.bump .DRM_MISC_CNT_ws_unknown 0
    | some r =>
      let d := s.drec r
      if d.st = .syncing then s.setRec r { d with wsSeen := true }
      else if wsKind b = 0 ∧ d.winOpen.isSome ∧ d.kept = false then
        ((s.setRec r { d with kept := true }).bump .DRM_RDV_CNT_rdv_kept 0).learnDrift r tick (wsCount b) (wsK b)
      else if wsKind b = 1 then
        (s.setRec r { d with bound := d.tol * 65536, misses := 0, seqs := 0, toneWait := false }).bump .DRM_TONE_CNT_tone_wake 0
      else s

/-- WAKE_SYNC_RX (R288): the oldest WAKE_SYNC frame decoded, at the tick its preamble slot started. -/
def execWakeSyncRx (ch : Nat) (s : State) : Host.Outcome State Fault Refusal :=
  .next (match s.heard ch (fun fc => fc.typ == 6) with
    | none => s
    | some f => ((s.takeHeard ch f).wakeSync ch f.fc (f.at_ / 32)).reviewMaps ch)

/-- A segment of classes 0 to 2 is queued for a partner (R288). -/
def State.queuedFor (s : State) (ch addr : Nat) : Bool :=
  s.dlv.segs.any (fun g => g.ch == ch && g.peer == addr && g.prio != 3 && g.state == .queued)

/-- The body of a reply (R288, R289), chosen as it is committed. -/
def State.replyFor (s : State) (w : WakeOwe) : Nat × State :=
  match s.recOf w.ch w.addr with
  | none =>
    let (v, s) := s.drawFree
    (wsReply 1 (v % 4096) (v / 4096) (v / 2 ^ 28) (v / 2 ^ 36) (v / 2 ^ 40), s)
  | some r =>
    let d := s.drec r
    let hold := ((s.dormItem w.ch).map (·.hold)).getD 1
    let cmd := if w.kind = 2 then 1 else if s.queuedFor w.ch w.addr ∨ 0 < w.pend then 2 else 0
    (wsReply cmd ((d.lastCount + 1) % 4096) d.period hold d.group d.carrier, s)

/-- A reply was sent (R286, R288, R301): its preamble slot start is the record's newest reference, and the record goes where its
command says. -/
def State.replySent (s : State) (f : Frame) : State :=
  match s.recOf f.ch f.fc.dst with
  | none => s
  | some r =>
    let d := s.drec r
    let cmd := wsKind f.fc.body
    let count := wsCount f.fc.body
    let d' := { d with refs := ((s.slotTick f.slot, count) :: d.refs).take 2, lastCount := count, winOpen := none, kept := false
                       closed := false, seqs := 0, toneWait := false }
    if cmd = 1 then s.freeRec r
    else if cmd = 2 then s.setRec r { d' with st := .awake, since := s.grid.hem, hold := bits f.fc.body 13 8 }
    else s.setRec r { d' with st := .dormant, misses := 0 }

/-- The first slot a reply may take (R288): outside PROTECT and QUIET windows, not before the next commitment. -/
def State.replySlot (s : State) (w : WakeOwe) : Option Nat :=
  let clear (k : Nat) : Bool := s.winType w.ch k != wtProtect && s.winType w.ch k != wtQuiet
  ((List.range (w.last + 1 - w.first)).map (· + w.first)).find? (fun k =>
    decide (s.grid.slot + s.commitAhead ≤ k) && clear k && clear (k + 1))

/-- WAKE_SYNC_REPLY: the oldest reply a channel owes is committed (R288); none up to the 40th boundary is no reply. -/
def execWakeSyncReply (ch : Nat) (s : State) : Host.Outcome State Fault Refusal :=
  .next (match s.drm.owe.find? (fun w => w.ch == ch) with
    | none => s
    | some w =>
      let s := { s with drm := { s.drm with owe := s.drm.owe.erase w } }
      let st := s.effState ch
      if ¬ (st = chArmed ∨ st = chTraining ∨ st = chLive) then s
      else match s.replySlot w with
        | none => s
        | some k =>
          let (body, s) := s.replyFor w
          let fc : FC := ⟨6, 0, 2, s.fld .CHN_CFG_link_id ch, s.ownAddr ch, w.addr, body⟩
          let f : Frame := { ch := ch, slot := k, kind := .wakeReply, fc := fc, payload := [], len := 2
                             panel := (s.owner ch).getD 0, hem := s.grid.hem + s.hemSide (s.slotTick k) }
          { s with grid := { s.grid with committed := s.grid.committed ++ [f] } })

/-- The tone carrier of an index (R296). -/
def toneCarrier (i : Nat) : Nat := 79 + 12 * i

/-- Chips 0 to 62 of a code from the generator of R297. -/
def toneGen : Nat → Nat → List Bool
  | 0, _ => []
  | n + 1, reg =>
    let fb := b2n (xor (reg.testBit 5) (reg.testBit 4))
    reg.testBit 5 :: toneGen n ((reg * 2 + fb) % 64)

/-- The 64-chip code of a group (R297). -/
def toneCode (g : Nat) : List Bool := toneGen 63 (32 ||| (2 * g + 1)) ++ [false]

/-- The chips of one repetition: 8 off chips, then the code (R295). -/
def toneChips (g : Nat) : List Bool := List.replicate 8 false ++ toneCode g

/-- The length of a sequence in ticks (R295). -/
def toneLen (reps : Nat) : Nat := reps * 72 * 200000

/-- The tick a sequence ends at. -/
def State.toneEnd (s : State) (t : Tone) : Nat := s.slotTick t.slot + toneLen t.reps

/-- The tone carrier carries energy in a slot: an on chip, or its off ramp of 10 µs, overlaps it (R295). -/
def State.toneOn (s : State) (t : Tone) (k : Nat) : Bool :=
  let t0 := s.slotTick t.slot
  let a := s.slotTick k
  let chips := (List.replicate t.reps (toneChips t.group)).flatten
  chips.zipIdx.any (fun (e : Bool × Nat) =>
    e.1 && decide (a < t0 + e.2 * 200000 + 202000) && decide (t0 + e.2 * 200000 < a + s.ls))

/-- A sequence runs on a channel in a slot (R295). -/
def State.toneIn (s : State) (ch k : Nat) : Bool :=
  s.drm.tones.any (fun t => t.ch == ch && t.slot ≤ k && decide (s.slotTick k < s.toneEnd t))

/-- The Bodkin work of a slot boundary: sequences that ended give way to 64 ms of listening, which lapses (R299). -/
def State.drmSlot (s : State) : State :=
  let now := s.slotTick s.grid.slot
  let gone := s.drm.tones.filter (fun t => decide (s.toneEnd t ≤ now))
  { s with drm := { s.drm with
      tones := s.drm.tones.filter (fun t => decide (now < s.toneEnd t))
      listens := s.drm.listens.filter (fun l => decide (now ≤ l.2.2))
        ++ gone.map (fun t => (t.ch, s.toneEnd t, s.toneEnd t + msTicks 64)) } }

/-- The slots [a, a + n) and [b, b + m) meet. -/
def slotsMeet (a n b m : Nat) : Bool := decide (a < b + m) && decide (b < a + n)

/-- R248 forbids a channel `n` slots of a frame below class 3: a victim whose duplex bit is 0 receives or awaits its ACK. -/
def State.duplexHeld (s : State) (d k n : Nat) : Bool :=
  (s.olaVictims 0).any (fun v => v != d && (s.olaSlots 0 v).contains d && !s.ola.dup.contains (v, d)
    && !(s.grid.committed ++ s.grid.launched).any (fun f => f.ch == v && decide (f.slot ≤ k) && decide (k < f.slot + f.len))
    && !s.toneIn v k && (s.flag .CHN_STATUS_rx_busy v || (s.chan v).await.any (fun f => slotsMeet (f.slot + f.len + 7) 2 k n)))

/-- WAKE_SEQUENCE_START: a record in WAKING starts its sequence once the channel (R294) and the duplex guard (R248, R295)
allow it; a masked segment defers it. -/
def execWakeSequenceStart (r : Nat) (s : State) : Host.Outcome State Fault Refusal :=
  .next (
    let d := s.drec r
    let st := s.effState d.ch
    let class3 := s.dlv.segs.any (fun g => g.ch == d.ch && g.prio == 3 && g.state != .outstanding)
      || s.dlv.copies.any (fun c => c.ch == d.ch && c.prio == 3)
      || s.grid.committed.any (fun f => f.ch == d.ch && f.fc.prio == 3)
    if ¬ (d.st = .waking ∧ d.toneWait = true) ∨ s.drm.tones.any (fun t => t.ch == d.ch) ∨ class3
        ∨ ¬ (st = chArmed ∨ st = chTraining ∨ st = chLive)
        ∨ s.duplexHeld d.ch (s.grid.slot + s.commitAhead) (ceilDiv (toneLen (((s.dormItem d.ch).map (·.toneReps)).getD 1)) s.ls) = true then s
    else if s.maskedFor d.ch [toneCarrier d.carrier] 0 then s.bump .DRM_MISC_CNT_tone_defer 0
    else
      let reps := ((s.dormItem d.ch).map (·.toneReps)).getD 1
      let t : Tone := ⟨d.ch, r, s.grid.slot + s.commitAhead, reps, d.carrier, d.group⟩
      let s := s.setRec r { d with seqs := d.seqs + 1, toneWait := false }
      ({ s with drm := { s.drm with tones := s.drm.tones ++ [t] } }).addRamp d.ch (s.slotTick t.slot) (s.toneEnd t))

/-- WAKE_LISTEN_EXPIRY: the 64 ms after a sequence are over: another sequence, or after the last one the record is released as lost
(R299). -/
def execWakeListenExpiry (r : Nat) (s : State) : Host.Outcome State Fault Refusal :=
  .next (
    let d := s.drec r
    if d.st ≠ .waking ∨ d.toneWait ∨ d.seqs = 0 ∨ s.drm.tones.any (fun t => t.rix == r) then s
    else
      let s := s.reach (((s.drm.listens.filter (fun l => l.1 == d.ch)).map (·.2.2)).foldl max 0)
      if d.seqs < s.fld .DRM_CFG_tone_tries 0 then s.setRec r { d with toneWait := true }
      else ((s.freeRec r).bump .DRM_MISC_CNT_lost 0).log 0x3001 (s.evOwner d.ch) d.ch (r + 65536 * d.addr))

/-- AWAKE_HOLD_EXPIRY: `ws_hold` Hems have passed (R301). -/
def execAwakeHoldExpiry (r : Nat) (s : State) : Host.Outcome State Fault Refusal :=
  .next (
    let d := s.drec r
    if d.st = .awake ∧ d.since + d.hold ≤ s.grid.hem then s.setRec r { d with st := .dormant, misses := 0, winOpen := none, kept := false }
    else s)

/-- A channel that enters QUIET, FAULT or OFF sends no tones (R289): a sequence committed or under way stops, and its record waits to
start it anew (log 178). -/
def State.stopTones (s : State) (ch : Nat) : State :=
  let gone := s.drm.tones.filter (fun t => t.ch == ch)
  let s := gone.foldl (fun (s : State) t =>
    let d := s.drec t.rix
    if d.st = .waking then s.setRec t.rix { d with seqs := d.seqs - 1, toneWait := true } else s) s
  let s := if gone = [] then s else s.cutRamp ch s.tick
  { s with drm := { s.drm with tones := s.drm.tones.filter (fun t => t.ch != ch) } }

/-- CHN_STOP releases the records of a channel (R283). -/
def State.releaseRecs (s : State) (ch : Nat) : State :=
  ((s.drm.recs.filter (fun e => e.2.ch == ch)).map (·.1)).foldl (fun s r => s.freeRec r) s

/-- The code of a record state. -/
def RecSt.code : RecSt → Nat
  | .free => 0 | .syncing => 1 | .dormant => 2 | .awake => 3 | .waking => 4

/-- The words of `DRM_REC_DATA0` to `DRM_REC_DATA3`. -/
def recWords (d : DrmRec) : List Nat :=
  [d.st.code + 8 * d.ch + 2048 * min d.misses 15 + 32768 * d.group + 524288 * d.carrier, d.addr + 65536 * d.period,
   unsigned 32 d.drift, d.bound % 2 ^ 32]

/-- The checks every DRM command shares (R302): then its operation on the record. -/
def drmCmd (s : State) (p r : Nat) (k : DrmRec → State × Option Resp) : State × Option Resp :=
  let d := s.drec r
  if s.recLimit ≤ r then refuse s .badArg
  else if p ≠ 0 ∧ (d.st = .free ∨ s.owner d.ch ≠ some p) then refuse s .denied
  else featGate s 9 (k d)

/-- DRM_QUERY (R302). -/
def opDrmQuery (p r : Nat) (s : State) : State × Option Resp :=
  drmCmd s p r (fun d => (s, some ⟨.ok, ((recWords d).map (le 4)).flatten⟩))

/-- DRM_WAKE (R302). -/
def opDrmWake (p r : Nat) (s : State) : State × Option Resp :=
  drmCmd s p r (fun d => if d.st = .free ∨ d.st = .syncing then refuse s .badState else (s.startWaking r, some (rsp .ok)))

/-- DRM_RELEASE (R302). -/
def opDrmRelease (p r : Nat) (s : State) : State × Option Resp :=
  drmCmd s p r (fun d => if d.st = .free then refuse s .badState else (s.freeRec r, some (rsp .ok)))

/-- DRM_QUERY. -/
def execDrmQuery (c : Cmd) (r : Nat) (s : State) : Host.Outcome State Fault Refusal :=
  .next (ohi s c 0x3001 (opDrmQuery c.pnl r s))

/-- DRM_WAKE. -/
def execDrmWake (c : Cmd) (r : Nat) (s : State) : Host.Outcome State Fault Refusal :=
  .next (ohi s c 0x3002 (opDrmWake c.pnl r s))

/-- DRM_RELEASE. -/
def execDrmRelease (c : Cmd) (r : Nat) (s : State) : Host.Outcome State Fault Refusal :=
  .next (ohi s c 0x3003 (opDrmRelease c.pnl r s))

end Sys2Proof.Machine
end

