-- ==== Sys2Proof/Machine/Keys.lean ====
section
/-! DEFINITION. PLC link encryption: the key store, the encrypted data field, its opening and its counters (R470 to
R474). -/

namespace Sys2Proof.Machine

/-- The link key in a panel's slot. -/
def State.linkKey (s : State) (p k : Nat) : Option LinkKey := tfind (4 * p + k) s.sec.keys

/-- The transmit slot a channel selects. -/
def State.txSlot (s : State) (ch : Nat) : Option Nat :=
  match tget 0 ch s.sec.txSel with
  | 0 => none
  | n + 1 => some n

/-- A channel can encrypt (R472): a slot is selected, holds a key, and its counter is not exhausted. -/
def State.canSeal (s : State) (ch : Nat) : Bool :=
  match s.txSlot ch, s.owner ch with
  | some k, some p => (s.linkKey p k).any (fun e => decide (e.ctr < 2 ^ 48))
  | _, _ => false

/-- The nonce of R473. -/
def linkNonce (sender link kidx ctr : Nat) : List Byte := be 2 sender ++ be 2 link ++ [byte kidx, 0] ++ be 6 ctr

/-- The additional authenticated data of R473. -/
def linkAad (head : List Byte) (sender dst link : Nat) : List Byte := head ++ be 2 sender ++ be 2 dst ++ be 2 link

/-- The first 8 bytes of a segment (R254). -/
def segHead (len ep seq frag : Nat) : List Byte := be 2 len ++ be 2 ep ++ be 2 (seq % 4096) ++ [byte frag, 0]

/-- Encrypt a segment's data for the first time (R472, R473): the data field, with the slot's counter moved on. -/
def State.sealField (s : State) (ch sender dst link ep seq frag : Nat) (data : List Byte) : Option (List Byte × State) :=
  match s.txSlot ch, s.owner ch with
  | some k, some p =>
    match s.linkKey p k with
    | none => none
    | some e =>
      if 2 ^ 48 ≤ e.ctr then none
      else
        let aad := linkAad (segHead (data.length + 24) ep seq frag) sender dst link
        let field := [byte k, 0] ++ be 6 e.ctr ++ Config.gcmSeal e.key (linkNonce sender link k e.ctr) aad data
        some (field, { s with sec := { s.sec with keys := tset (4 * p + k) { e with ctr := e.ctr + 1 } s.sec.keys } })
  | _, _ => none

/-- The counter record of a sender and key slot on a channel. -/
def State.ctrFloor (s : State) (ch sender kidx : Nat) : Option CtrFloor :=
  s.sec.floors.find? (fun f => f.ch == ch && f.sender == sender && f.kidx == kidx)

/-- Open a received segment's data field (R474): the plain text, or the failure counted. -/
def State.openField (s : State) (ch sender dst link : Nat) (head field : List Byte) : Option (List Byte) × State :=
  let k := beAt field 0 1
  let ctr := beAt field 2 6
  let bad (s : State) : Option (List Byte) × State := (none, s.bump .SEC_CNT_dec_fail 0)
  match s.owner ch with
  | none => bad s
  | some p => match (if k < 4 then s.linkKey p k else none) with
    | none => bad s
    | some e => match Config.gcmOpen e.key (linkNonce sender link k ctr) (linkAad head sender dst link) (field.drop 8) with
      | none => bad s
      | some plain =>
        let old := s.ctrFloor ch sender k
        if old.any (fun f => f.floor.any (fun x => decide (ctr ≤ x))) then bad (s.bump .SEC_CNT_replay 0)
        else
          let new : CtrFloor := match old with
            | some f => { f with high := max f.high ctr }
            | none => ⟨ch, sender, k, ctr, none⟩
          let rest := s.sec.floors.filter (fun f => !(f.ch == ch && f.sender == sender && f.kidx == k))
          (some plain, { s with sec := { s.sec with floors := rest ++ [new] } })

/-- A flow restart of a channel records the floors (R474). -/
def State.raiseFloors (s : State) (ch : Nat) : State :=
  { s with sec := { s.sec with floors := s.sec.floors.map (fun f =>
      if f.ch = ch then { f with floor := some f.high } else f) } }

/-- Both ends of a channel's flows restart (R259): numbers from 0 and replay floors. -/
def State.flowRestart (s : State) (ch : Nat) : State := (s.restartFlows ch).raiseFloors ch

/-- The link keys are cleared: every transmit selection becomes none (R470). -/
def State.clearKeys (s : State) : State := { s with sec := { s.sec with keys := [], txSel := [] } }

end Sys2Proof.Machine
end

