-- ==== Sys2Proof/Machine/Time.lean ====
section
/-! DEFINITION. Chapter 10, the timebases: values and anchors, the servo and its states, redundant pairs, PPS and time of
day, the TIM commands (R303 to R308, R321 to R330, R545, R546). -/

namespace Sys2Proof.Machine

/-- A timebase. -/
def State.tb (s : State) (k : Nat) : Tb := tget {} k s.tim.tbs

/-- Store a timebase. -/
def State.setTb (s : State) (k : Nat) (t : Tb) : State := { s with tim := { s.tim with tbs := tput {} k t s.tim.tbs } }

/-- The roles of R307. -/
def tbOff : Nat := 0
/-- FREE. -/
def tbFree : Nat := 1
/-- PTP. -/
def tbPtp : Nat := 2
/-- PPS. -/
def tbPps : Nat := 3
/-- OUTPUT. -/
def tbOutput : Nat := 4
/-- DRIVER. -/
def tbDriver : Nat := 5

/-- The role of a timebase. -/
def State.tbRole (s : State) (k : Nat) : Nat := s.fld .TIM_TB_CFG_role k

/-- The item of a timebase. -/
def State.tbItem (s : State) (k : Nat) : TbItem := (s.pat.tbs.tbs.find? (fun i => i.tb == k)).getD { tb := k, role := 0 }

/-- How far a timebase advances in `n` ticks at a rate, in 2^-16 ns (R304). -/
def advance (n : Int) (rate : Int) : Int := n * 327680 + n * 327680 * rate / (256 * 1000000000)

/-- φ after `n` ticks of slewing at `slew` ns/s (R326): 5 ns × slew × 10^-9 a tick, towards 0. -/
def phiAfter (phi : Int) (slew : Nat) (n : Nat) : Int :=
  let d : Int := (n * 327680 * slew / 1000000000 : Nat)
  if 0 ≤ phi then max 0 (phi - d) else min 0 (phi + d)

/-- An anchor's value at a tick (R545). -/
def Anchor.at (a : Anchor) (n : Nat) : Int := a.val + advance ((n : Int) - a.tick) a.rate + phiAfter a.phi a.slew (n - a.tick)

/-- TBk at a tick, in 2^-16 ns: by the newest anchor at or before it. -/
def State.tbAt (s : State) (k n : Nat) : Int :=
  match (s.tb k).anchors.find? (fun a => a.tick ≤ n) with
  | some a => a.at n
  | none => 0

/-- TBk at a tick given in sixteenths (R303): the fraction advances at the rate in force. -/
def State.tbAt16 (s : State) (k n16 : Nat) : Int :=
  let rate := (((s.tb k).anchors.find? (fun a => a.tick ≤ n16 / 16)).map (·.rate)).getD 0
  s.tbAt k (n16 / 16) + advance (n16 % 16 : Nat) rate / 16

/-- Seconds, nanoseconds and 16-bit fraction of a value (R304). -/
def tbParts (v : Int) : Nat × Nat × Nat :=
  let u := (v % (2 ^ 48 * 1000000000 * 65536 : Nat)).toNat
  (u / (1000000000 * 65536), u / 65536 % 1000000000, u % 65536)

/-- A value of seconds, nanoseconds and fraction. -/
def tbVal (sec ns frac : Nat) : Int := ((sec * 1000000000 + ns) * 65536 + frac : Nat)

/-- The seconds of a second in 2^-16 ns. -/
def secUnits : Nat := 1000000000 * 65536

/-- Keep the newest 4,096 anchors, and those of the last 60 s (R545). -/
def keepAnchors (now : Nat) (l : List Anchor) : List Anchor :=
  (l.take 4096) ++ (l.drop 4096).filter (fun a => decide (now ≤ a.tick + 60 * 200000000))

/-- Write an anchor. -/
def State.anchor (s : State) (k : Nat) (a : Anchor) : State :=
  let t := s.tb k
  s.setTb k { t with anchors := keepAnchors s.tick (a :: t.anchors) }

/-- The newest anchor of a timebase. -/
def State.lastAnchor (s : State) (k : Nat) : Anchor := (s.tb k).anchors.headD { tick := 0, val := 0 }

/-- The pair whose OUTPUT is k, with its number. -/
def State.pairs (s : State) : List (PairItem × Nat) := s.pat.tbs.pairs.zipIdx

/-- The timebase a pair's output follows. -/
def State.pairSrc (s : State) (p : PairItem × Nat) : Nat :=
  if s.flag .TIM_PAIR_STATUS_on_secondary p.2 then p.1.secondary else p.1.primary

/-- Show φ of a pair, saturating in Q4 ns (TIM_PAIR_PHI). -/
def State.showPhi (s : State) (p : PairItem × Nat) : State :=
  let a := s.lastAnchor p.1.out
  let phi := phiAfter a.phi a.slew (s.tick - a.tick)
  let q := clampInt (-2147483648) 2147483647 (roundDiv phi 4096)
  (s.setFld .TIM_PAIR_PHI_phi p.2 (unsigned 32 q)).setFlag .TIM_PAIR_STATUS_slewing p.2 (decide (phi ≠ 0))

/-- A timebase takes a value and a rate at tick `n`, moved by `step` where it jumped: outputs that follow it take an anchor
too, a step of theirs being taken out by φ (R326). -/
def State.setTime (s : State) (k n : Nat) (val rate step : Int) (jump : Bool) : State :=
  let follow := s.pairs.filter (fun p => s.pairSrc p == k)
  let olds := follow.map (fun p => (p, s.lastAnchor p.1.out))
  let s := (s.anchor k { tick := n, val := val, rate := rate, jump := jump }).setFld .TIM_TB_RATE_rate k (unsigned 32 rate)
  olds.foldl (fun s e =>
    let a := e.2
    let phi := phiAfter a.phi a.slew (n - a.tick) - step
    let s := s.anchor e.1.1.out { tick := n, val := val, rate := rate, phi := phi, slew := e.1.1.slewPpb }
    (s.setFld .TIM_TB_RATE_rate e.1.1.out (unsigned 32 rate)).showPhi e.1) s

/-- A timebase is qualified (R324). -/
def State.tbQualified (s : State) (k : Nat) : Bool :=
  s.fld .TIM_TB_STATUS_tb_state k == 2
    && (s.tbRole k != tbPtp || s.fld .TIM_TB_STATUS_gm_class k ≤ (s.tbItem k).classMax)

/-- Show whether a timebase is qualified and since when it has been without interruption. -/
def State.showQualified (s : State) (k : Nat) : State :=
  let q := s.tbQualified k
  let t := s.tb k
  (s.setTb k { t with qualFrom := if q then some (t.qualFrom.getD s.tick) else none }).setFlag
    .TIM_TB_STATUS_qualified k q

/-- Switch a pair's output (R326): φ takes up the difference, so the output does not move. -/
def State.pairSwitch (s : State) (p : PairItem × Nat) (toSecondary : Bool) (row : Nat) : State :=
  let n := s.tick + 1
  let new := if toSecondary then p.1.secondary else p.1.primary
  let phi := s.tbAt p.1.out n - s.tbAt new n
  let rate := (s.lastAnchor new).rate
  let s := s.anchor p.1.out { tick := n, val := s.tbAt new n, rate := rate, phi := phi, slew := p.1.slewPpb, jump := true }
  let s := (s.setFlag .TIM_PAIR_STATUS_on_secondary p.2 toSecondary).setFld .TIM_TB_RATE_rate p.1.out (unsigned 32 rate)
  ((s.showPhi p).bump .TIM_PAIR_STATUS_switches p.2).log 0x3403 noPanel p.1.out (p.2 + 256 * row)

/-- The decision of a pair at an offset event or state change of a member (R326), rows 2 to 4. -/
def State.pairDecide (s : State) (k : Nat) : State :=
  (s.pairs.filter (fun p => p.1.primary == k || p.1.secondary == k)).foldl (fun s p =>
    let onSec := s.flag .TIM_PAIR_STATUS_on_secondary p.2
    let src := s.pairSrc p
    let other := if onSec then p.1.primary else p.1.secondary
    let since := (s.tb p.1.primary).qualFrom
    if !s.tbQualified src && s.tbQualified other then s.pairSwitch p (!onSec) 2
    else if onSec && p.1.revertS != 0 && (since.any (fun q => decide (q + p.1.revertS * 200000000 ≤ s.tick))) then
      s.pairSwitch p false 3
    else s) s

/-- A timebase's state changes (R324): logged, and the pairs decide. -/
def State.setTbState (s : State) (k st : Nat) : State :=
  if s.fld .TIM_TB_STATUS_tb_state k = st then s
  else
    let s := (s.setFld .TIM_TB_STATUS_tb_state k st).log 0x3402 noPanel k st
    let s := if st = 3 then s.setTb k { s.tb k with hoTick := s.tick } else s
    (s.showQualified k).pairDecide k

/-- The rate the servo sets (R322), Q8 ppb, limited to ±200,000 ppb. -/
def servoRate (kp : Nat) (theta integ : Int) : Int :=
  clampInt (-51200000) 51200000 (roundDiv (-(kp * theta + integ)) (2 ^ 24))

/-- An offset θ, in 2^-16 ns, for a timebase at the tick in force (R321 to R324, R326). -/
def State.tbOffset (s : State) (k : Nat) (theta : Int) : State :=
  let t := s.tb k
  let shown := clampInt (-2147483648) 2147483647 (roundDiv theta 65536)
  let s := s.setFld .TIM_TB_OFFSET_theta k (unsigned 32 shown)
  let lock : Int := s.fld .TIM_TB_CFG_lock_ns k * 65536
  let small := decide ((theta.natAbs : Int) ≤ lock)
  let st := s.fld .TIM_TB_STATUS_tb_state k
  let stepNs := s.fld .TIM_TB_STEP_step_ns k
  let stepped := decide (stepNs ≠ 0 ∧ stepNs * 65536 ≤ theta.natAbs)
  let good := if small && !stepped then (if st = 1 then t.good else 0) + 1 else 0
  let t := { t with offs := (s.tick :: t.offs).take 9, good := good }
  let n := s.tick + 1
  let s :=
    if stepped then
      let s := (s.setTb k t).setTime k n (s.tbAt k n - theta) (s.lastAnchor k).rate (-theta) true
      (s.bump .TIM_TB_CNT_steps k).log 0x3401 noPanel k (unsigned 64 (-shown))
    else
      let integ := clampInt (-(200000 * 2 ^ 32)) (200000 * 2 ^ 32) (t.integ + s.fld .TIM_TB_SERVO_ki k * theta)
      let s := s.setTb k { t with integ := integ }
      let rate := servoRate (s.fld .TIM_TB_SERVO_kp k) theta integ
      (s.setTime k n (s.tbAt k n) rate 0 false).bumpWrap .TIM_TB_CNT_offsets k
  let next :=
    if st = 0 ∨ st = 3 then 1
    else if st = 1 then (if 8 ≤ good then 2 else 1)
    else if stepped ∨ 4 * lock < theta.natAbs then 1 else st
  let s := s.setTbState k next
  (s.showQualified k).pairDecide k

/-- The loss timeout of a timebase in ticks (R324): three mean intervals of the last 8 offsets, 1 to 16 s. -/
def lossTimeout (t : Tb) : Nat :=
  let l := t.offs
  let n := l.length - 1
  let mean := if n = 0 then 16 * 200000000 else (l.headD 0 - l.getLastD 0) / n
  min (16 * 200000000) (max 200000000 (3 * mean))

/-- TIMEBASE_LOSS_TIMEOUT: no offset within the loss timeout: HOLDOVER, the rate set to i (R324; the sign as written, log 179). -/
def execTimebaseLossTimeout (k : Nat) (s : State) : Host.Outcome State Fault Refusal :=
  .next (
    let st := s.fld .TIM_TB_STATUS_tb_state k
    if 8 ≤ k ∨ ¬ (st = 1 ∨ st = 2) then s
    else
      let t := s.tb k
      let s := s.reach (t.offs.headD s.tick + lossTimeout t)
      let rate := clampInt (-51200000) 51200000 (roundDiv t.integ (2 ^ 24))
      let n := s.tick + 1
      (s.setTime k n (s.tbAt k n) rate 0 false).setTbState k 3)

/-- The tick at which the φ of an anchor reaches 0 (R326). -/
def Anchor.slewEnd (a : Anchor) : Nat := a.tick + ceilDiv (a.phi.natAbs * 1000000000) (327680 * a.slew)

/-- SLEW_END: φ of a pair has reached 0 and an anchor is written (R326, R545). -/
def execSlewEnd (pair : Nat) (s : State) : Host.Outcome State Fault Refusal :=
  .next (match s.pairs.find? (fun p => p.2 == pair) with
    | none => s
    | some p =>
      let a := s.lastAnchor p.1.out
      if a.phi = 0 ∨ a.slew = 0 then s
      else
        let s := s.reach (a.slewEnd - 1)
        let n := s.tick + 1
        (s.anchor p.1.out { tick := n, val := a.at n, rate := a.rate }).showPhi p)

/-- Nanoseconds of a second wrapped to the half second around 0, in 2^-16 ns (R321). -/
def wrapSecond (v : Int) : Int :=
  let u := v % (secUnits : Int)
  if u < 500000000 * 65536 then u else u - secUnits

/-- PPS_IN_EDGE: an edge gives an offset to every PPS timebase (R321), and `pps_valid` follows its interval (R501). -/
def execPpsInEdge (tick16 : Nat) (s : State) : Host.Outcome State Fault Refusal :=
  .next (
    let n := tick16 / 16
    let s := { s with tick := max s.tick n }
    let ok := s.tim.ppsIn.any (fun p => decide (199980000 ≤ n - p) && decide (n - p ≤ 200020000))
    let s := (s.setFlag .PWR_CLK_STATUS_pps_valid 0 ok)
    let s := { s with tim := { s.tim with ppsIn := some n } }
    forAll ((List.range 8).filter (fun k => s.tbRole k == tbPps)) (fun k s =>
      s.tbOffset k (wrapSecond (s.tbAt16 k tick16))) s)

/-- PPS_IN_TIMEOUT: no edge within 1 s plus 100 µs of the last (R501). -/
def execPpsInTimeout (s : State) : Host.Outcome State Fault Refusal :=
  .next (
    let s := match s.tim.ppsIn with
      | some p => s.reach (p + 200020001)
      | none => s
    { (s.setFlag .PWR_CLK_STATUS_pps_valid 0 false) with tim := { s.tim with ppsIn := none } })

/-- Set the AON time of day (R496). -/
def State.setTod (s : State) (sec : Nat) : State :=
  let s : State := { s with rst := { s.rst with todAt := s.tick, todMs := 0 } }
  ((s.setFld .PWR_TOD_LO_tod_lo 0 (sec % 2 ^ 32)).setFld .PWR_TOD_HI_tod_hi 0 (sec / 2 ^ 32)).setFlag .PWR_TOD_HI_tod_valid 0 true

/-- PPS_OUT_EDGE: the nanoseconds of `pps_src` wrap at a tick (R327): the edge rises, the AON time of day is set (R496), and a GWT
line is due. -/
def execPpsOutEdge (tick : Nat) (s : State) : Host.Outcome State Fault Refusal :=
  .next (
    let k := s.pat.tbs.ppsSrc
    if s.tbRole k = tbOff ∨ s.tbAt k tick / secUnits = s.tbAt k (tick - 1) / secUnits then s
    else
      let s := s.reach tick
      let sec := (tbParts (s.tbAt k tick)).1
      let due : Nat × Int × Nat := (sec, s.tim.utc, s.fld .TIM_TB_STATUS_tb_state k)
      { (s.setTod sec) with tim := { s.tim with ppsEdge := some tick, todDue := some due } })

/-- The level of PPS_OUT (R327). -/
def State.ppsOut (s : State) : Bool :=
  s.tim.ppsEdge.any (fun t => decide (s.tick < t + msTicks s.pat.tbs.ppsWidth))

/-- The ASCII digits of a number. -/
def asciiNat (n : Nat) : List Byte := (Nat.toDigits 10 n).map (fun c => byte c.toNat)

/-- The ASCII digits of an integer. -/
def asciiInt (n : Int) : List Byte := (if n < 0 then [byte 0x2D] else []) ++ asciiNat n.natAbs

/-- An upper-case hexadecimal digit. -/
def hexDigit (n : Nat) : Byte := byte (if n < 10 then 0x30 + n else 0x37 + n)

/-- The line of R327. -/
def gwtLine (sec : Nat) (utc : Int) (q : Nat) : List Byte :=
  let b := [byte 0x47, byte 0x57, byte 0x54, byte 0x2C] ++ asciiNat sec ++ [byte 0x2C] ++ asciiInt utc ++ [byte 0x2C]
    ++ asciiNat q
  let x := (b.foldl (· ^^^ ·) 0).toNat
  b ++ [byte 0x2A, hexDigit (x / 16), hexDigit (x % 16), byte 0x0D, byte 0x0A]

/-- TOD_TX_LINE: 10 ms after the edge one line is sent (R327). -/
def execTodTxLine (s : State) : Host.Outcome State Fault Refusal :=
  .next (match s.tim.todDue with
    | none => s
    | some (sec, utc, q) =>
      let s := s.reach (s.tim.ppsEdge.getD 0 + msTicks 10)
      { s with tim := { s.tim with todLine := gwtLine sec utc q, todDue := none } })

/-- The checks every time command shares (R329): then its operation. -/
def timCmd (s : State) (p k : Nat) (f : State × Option Resp) : State × Option Resp :=
  if 7 < k then refuse s .badArg
  else if p ≠ 0 then refuse s .denied
  else if s.tbRole k = tbOff then refuse s .notPresent
  else f

/-- The words of `TIM_TB_TIME0` to `TIM_TB_TIME2` at a tick. -/
def State.tbWords (s : State) (k n : Nat) : List Nat :=
  let v := tbParts (s.tbAt k n)
  [v.2.2 + v.1 % 65536 * 65536, v.1 / 65536, v.2.1]

/-- Seconds in HOLDOVER (R324), saturating. -/
def State.holdoverS (s : State) (k : Nat) : Nat :=
  if s.fld .TIM_TB_STATUS_tb_state k = 3 then min 65535 ((s.tick - (s.tb k).hoTick) / 200000000) else 0

/-- The word of `TIM_TB_STATUS`. -/
def State.tbStatusWord (s : State) (k : Nat) : Nat :=
  s.fld .TIM_TB_STATUS_tb_state k + 8 * s.fld .TIM_TB_STATUS_qualified k + 256 * s.fld .TIM_TB_STATUS_gm_class k
    + 65536 * s.holdoverS k

/-- TIM_QUERY (R329). -/
def opTimQuery (p k : Nat) (s : State) : State × Option Resp :=
  timCmd s p k (s, some ⟨.ok, ((s.tbWords k s.tick ++ [s.tbStatusWord k, s.fld .TIM_TB_RATE_rate k]).map (le 4)).flatten⟩)

/-- TIM_SET (R329): value and rate; of a PPS timebase the seconds only. -/
def opTimSet (p k sec ns rate : Nat) (s : State) : State × Option Resp :=
  let role := s.tbRole k
  let n := s.tick + 1
  timCmd s p k (
    if role = tbPtp ∨ role = tbOutput then refuse s .badState
    else if 999999999 < ns ∨ 51200000 < (signed 32 rate).natAbs then refuse s .badArg
    else
      let old := s.tbAt k n
      let val := if role = tbPps then tbVal sec 0 0 + old % (secUnits : Int) else tbVal sec ns 0
      let r := if role = tbPps then (s.lastAnchor k).rate else signed 32 rate
      (s.setTime k n val r (val - old) true, some (rsp .ok)))

/-- TIM_FEED (R329): an offset for a DRIVER timebase. -/
def opTimFeed (p k off : Nat) (s : State) : State × Option Resp :=
  timCmd s p k (
    if s.tbRole k ≠ tbDriver then refuse s .badState
    else (s.tbOffset k (signed 64 off), some (rsp .ok)))

/-- TIM_PAIR_SELECT (R326, R329): a command of the redundant time domain (R72). -/
def opTimPairSelect (p k which : Nat) (s : State) : State × Option Resp :=
  if 1 < which ∨ 7 < k then refuse s .badArg
  else if p ≠ 0 then refuse s .denied
  else featGate s 8 (timCmd s p k (
    match s.pairs.find? (fun q => q.1.out == k) with
    | none => refuse s .badState
    | some q =>
      let m := if which = 0 then q.1.primary else q.1.secondary
      if s.tbRole k ≠ tbOutput ∨ s.tbQualified m = false then refuse s .badState
      else if s.pairSrc q = m then (s, some (rsp .ok))
      else (s.pairSwitch q (which == 1) 1, some (rsp .ok))))

/-- TIM_AT (R546). -/
def opTimAt (p k tick : Nat) (s : State) : State × Option Resp :=
  timCmd s p k (
    match (s.tb k).anchors.find? (fun a => a.tick ≤ tick) with
    | none => refuse s .badArg
    | some a =>
      if s.tick < tick then refuse s .badArg
      else
        let v := tbParts (a.at tick)
        let jumped := (s.tb k).anchors.any (fun b => b.jump && decide (tick < b.tick) && decide (b.tick ≤ s.tick))
        (s, some ⟨.ok, le 6 v.1 ++ le 4 v.2.1 ++ le 2 v.2.2 ++ [byte (b2n jumped)]⟩))

/-- TIM_QUERY. -/
def execTimQuery (c : Cmd) (tb : Nat) (s : State) : Host.Outcome State Fault Refusal :=
  .next (ohi s c 0x3401 (opTimQuery c.pnl tb s))

/-- TIM_SET. -/
def execTimSet (c : Cmd) (tb sec ns rate : Nat) (s : State) : Host.Outcome State Fault Refusal :=
  .next (ohi s c 0x3402 (opTimSet c.pnl tb sec ns rate s))

/-- TIM_FEED. -/
def execTimFeed (c : Cmd) (tb off : Nat) (s : State) : Host.Outcome State Fault Refusal :=
  .next (ohi s c 0x3403 (opTimFeed c.pnl tb off s))

/-- TIM_PAIR_SELECT. -/
def execTimPairSelect (c : Cmd) (tb which : Nat) (s : State) : Host.Outcome State Fault Refusal :=
  .next (ohi s c 0x3404 (opTimPairSelect c.pnl tb which s))

/-- TIM_AT. -/
def execTimAt (c : Cmd) (tb tick : Nat) (s : State) : Host.Outcome State Fault Refusal :=
  .next (ohi s c 0x3405 (opTimAt c.pnl tb tick s))

/-- The AON time of day in 2^-16 ns. -/
def State.todVal (s : State) : Int := tbVal (s.fld .PWR_TOD_LO_tod_lo 0 + 2 ^ 32 * s.fld .PWR_TOD_HI_tod_hi 0) 0 0

/-- A timebase starts FREE (R330): from its value where it has one, else from the AON time of day, at rate 0. -/
def State.startTb (s : State) (k : Nat) (role : Nat) : State :=
  let val := if (s.tb k).anchors = [] then s.todVal else s.tbAt k s.tick
  let s := s.setTb k { anchors := if role = tbOff then [] else [{ tick := s.tick, val := val, jump := true }] }
  let s := s.setFld .TIM_TB_STATUS_tb_state k (if role = tbOutput then 4 else 0)
  (s.setFlag .TIM_TB_STATUS_qualified k false).setFld .TIM_TB_RATE_rate k 0

/-- The timebases at a seal (R325, R330): an item unchanged keeps its timebase; each OUTPUT follows its primary with
φ 0. `old` is the section that was in service. -/
def State.sealTime (s : State) (old : TbSec) : State :=
  let s := forAll (List.range 8) (fun k s =>
    let it := s.tbItem k
    let same := old.tbs.find? (fun i => i.tb == k) == s.pat.tbs.tbs.find? (fun i => i.tb == k)
    let s := (s.setFld .TIM_TB_CFG_domain k it.domain).setFld .TIM_TB_CFG_lock_ns k it.lockNs
    let s := ((s.setFld .TIM_TB_SERVO_kp k it.kp).setFld .TIM_TB_SERVO_ki k it.ki).setFld .TIM_TB_STEP_step_ns k it.stepNs
    let s := if same && (s.tb k).anchors != [] then s
      else if it.role = s.tbRole k && (s.tb k).anchors != [] then s else s.startTb k it.role
    s.setFld .TIM_TB_CFG_role k it.role) s
  let same := old.pairs == s.pat.tbs.pairs
  s.pairs.foldl (fun s p =>
    if same then s
    else
      let s := s.setFlag .TIM_PAIR_STATUS_on_secondary p.2 false
      let a := s.lastAnchor p.1.primary
      let n := s.tick + 1
      (s.anchor p.1.out { tick := n, val := s.tbAt p.1.primary n, rate := a.rate, jump := true }).showPhi p) s

end Sys2Proof.Machine
end

