-- ==== Sys2Proof/Machine/Ptp.lean ====
section
/-! DEFINITION. Chapter 10, timestamps, PTP messages, the transparent clock, peer delay and launch-time frames
(R309 to R321). Port 0 is EP0, 1 EP1, 2 + c channel c. -/

namespace Sys2Proof.Machine

/-- Read a PTP message from its header onward (R313): the layout is that of IEEE 1588-2019. -/
def ptpParse (b : List Byte) : PtpMsg :=
  { typ := beAt b 0 1 % 16, ver := beAt b 1 1 % 16, domain := beAt b 4 1, twoStep := bit (beAt b 6 1) 1
    corr := signed 64 (beAt b 8 8), srcId := beAt b 20 8, srcPort := beAt b 28 2, seq := beAt b 30 2
    ts := beAt b 34 6, tsNs := beAt b 40 4, body := b }

/-- A message with another correctionField. -/
def PtpMsg.withCorr (m : PtpMsg) (c : Int) : PtpMsg :=
  { m with corr := c, body := m.body.take 8 ++ be 8 (unsigned 64 c) ++ m.body.drop 16 }

/-- The module's MAC address (R391). -/
def State.macAddr (s : State) : Nat := s.fld .GLB_MAC_mac 0 + 2 ^ 32 * (s.fld .GLB_MAC_mac 1 % 65536)

/-- The module's clockIdentity: the EUI-64 made of its address. -/
def State.clockId (s : State) : Nat := s.macAddr / 2 ^ 24 * 2 ^ 40 + 0xFFFE * 2 ^ 24 + s.macAddr % 2 ^ 24

/-- A PTP message of the module: type, flags 0, sequence, correction, and its body after the header. -/
def State.ptpMake (s : State) (port typ domain seq : Nat) (corr : Int) (rest : List Byte) : PtpMsg :=
  ptpParse ([byte typ, 2] ++ be 2 (34 + rest.length) ++ [byte domain, 0, 0, 0] ++ be 8 (unsigned 64 corr) ++ be 4 0
    ++ be 8 s.clockId ++ be 2 (port + 1) ++ be 2 seq ++ [5, 0x7F] ++ rest)

/-- A channel is in `tc_chans`. -/
def State.inTc (s : State) (ch : Nat) : Bool := bit s.pat.tbs.tcChans ch

/-- A port is a TC port (R315). -/
def State.tcPort (s : State) (p : Nat) : Bool :=
  s.pat.tbs.tcOn && (match p with
    | 0 => s.pat.tbs.tcEth0
    | 1 => s.pat.tbs.tcEth1
    | n + 2 => s.inTc n && s.chState n == chLive)

/-- The TC ports. -/
def State.tcPorts (s : State) : List Nat := (List.range 194).filter s.tcPort

/-- A PTP timebase takes its time from a port (R307). -/
def TbItem.names (i : TbItem) (p : Nat) : Bool :=
  match p with
  | 0 => bit i.ports 0
  | 1 => bit i.ports 1
  | n + 2 => bit i.ports 2 && i.plcChan == n

/-- The PTP timebases that name a port. -/
def State.ptpTbs (s : State) (p : Nat) : List Nat :=
  (List.range 8).filter (fun k => s.tbRole k == tbPtp && (s.tbItem k).names p)

/-- A port runs peer delay (R317). -/
def State.pdPort (s : State) (p : Nat) : Bool := s.tcPort p || s.ptpTbs p != []

/-- The state of a port's initiator. -/
def State.pd (s : State) (p : Nat) : PdSt := tget {} p s.tim.pd

/-- Store it, and show D (R317) in Q4 ns. -/
def State.setPd (s : State) (p : Nat) (d : PdSt) : State :=
  let s := { s with tim := { s.tim with pd := tput {} p d s.tim.pd } }
  let q := (clampInt 0 16777215 (roundDiv (d.d.getD 0) 4096)).toNat
  match p with
  | n + 2 =>
    let s := s.setFlag .CHN_PTP_DELAY_valid n d.d.isSome
    if d.d.isSome then s.setFld .CHN_PTP_DELAY_delay n q else s
  | _ =>
    let s := s.setFlag .TIM_EP_DELAY_valid p d.d.isSome
    if d.d.isSome then s.setFld .TIM_EP_DELAY_delay p q else s

/-- A PLC port leaves LIVE: its D becomes invalid (R317). -/
def State.pdDrop (s : State) (ch : Nat) : State :=
  if (s.pd (ch + 2)).d.isSome then s.setPd (ch + 2) { s.pd (ch + 2) with d := none } else s

/-- The analogue latencies of a channel in ns (R309): transmit. -/
def State.headTx (s : State) (ch : Nat) : Rat := (((tget (0, 0) ch s.hlk.slotLat).1 : Nat) : Rat) / 10
/-- Receive. -/
def State.headRx (s : State) (ch : Nat) : Rat := (((tget (0, 0) ch s.hlk.slotLat).2 : Nat) : Rat) / 10

/-- Sixteenths of a tick in ns. -/
def ns16 (t : Nat) : Rat := ((t * 5 : Nat) : Rat) / 16

/-- The ingress timestamp of a port in ns (R309, R310): `t` is the tick, in sixteenths, of the PCS crossing or of the sync
point at the head converter. -/
def State.ingressNs (s : State) (p t : Nat) : Rat :=
  match p with
  | n + 2 => ns16 t - (((s.ls - 1024) * 5 : Nat) : Rat) - s.headRx n
  | _ => ns16 t - ((s.fld .TIM_EP_LAT_rx_lat p : Nat) : Rat) / 16
      - ((signed 16 (s.fld .TIM_EP_BOARD_board_rx p) : Int) : Rat) / 1000

/-- The egress timestamp of a host port in ns (R309). -/
def State.egressNs (s : State) (p t : Nat) : Rat :=
  ns16 t + ((s.fld .TIM_EP_LAT_tx_lat p : Nat) : Rat) / 16
    + ((signed 16 (s.fld .TIM_EP_BOARD_board_tx p) : Int) : Rat) / 1000

/-- The transmit timestamp of a frame committed to a slot (R311) in ns. -/
def State.slotNs (s : State) (ch k : Nat) : Rat := ((s.slotTick k * 5 : Nat) : Rat) + s.headTx ch

/-- TBk at a time in ns, in 2^-16 ns. -/
def State.tbAtNs (s : State) (k : Nat) (t : Rat) : Int :=
  let n := (t / 5).floor.toNat
  let rate := (((s.tb k).anchors.find? (fun a => a.tick ≤ n)).map (·.rate)).getD 0
  let y : Rat := 1 + (rate : Rat) / 256000000000
  s.tbAt k n + roundRat ((t - ((n * 5 : Nat) : Rat)) * 65536 * y)

/-- The rate of the PTP timebase that follows a domain, in Q8 ppb; 0 without one (R315). -/
def State.domainRate (s : State) (domain : Nat) : Int :=
  match (List.range 8).find? (fun k => s.tbRole k == tbPtp && s.fld .TIM_TB_CFG_domain k == domain) with
  | some k => (s.lastAnchor k).rate
  | none => 0

/-- The residence of a message plus the ingress link delay, in 2^-16 ns (R315). -/
def State.residence (s : State) (nIn nOut : Rat) (dIn : Int) (domain : Nat) : Int :=
  roundRat ((nOut - nIn) * 65536 * (1 + (s.domainRate domain : Rat) / 256000000000)) + dIn

/-- A PTP message leaves: what its departure writes into it (R315 to R317). -/
def State.ptpDepart (s : State) (o : PtpOut) (nOut : Rat) : PtpMsg × State :=
  let m := o.msg
  let r := s.residence o.nIn nOut o.dIn m.domain
  match o.need with
  | .plain => (m, s)
  | .residence => (m.withCorr (m.corr + r), s)
  | .hold =>
    let h : HeldR := ⟨m.srcId, m.srcPort, m.domain, m.seq, o.port, r, s.tick⟩
    let same (x : HeldR) : Bool :=
      x.srcId == m.srcId && x.srcPort == m.srcPort && x.domain == m.domain && x.seq == m.seq
    let rest := s.tim.held.filter (fun x => !(same x && x.port == o.port))
    let ids := (rest.map (fun x => (x.srcId, x.srcPort, x.domain, x.seq))).dedup
    let rest := if 64 ≤ ids.length && !rest.any same then
        rest.filter (fun x => some (x.srcId, x.srcPort, x.domain, x.seq) != ids.head?) else rest
    (m, { s with tim := { s.tim with held := rest ++ [h] } })
  | .addHeld =>
    match s.tim.held.find? (fun x => x.srcId == m.srcId && x.srcPort == m.srcPort && x.domain == m.domain
        && x.seq == m.seq && x.port == o.port) with
    | none => (m, s)
    | some h => (m.withCorr (m.corr + h.r), { s with tim := { s.tim with held := s.tim.held.erase h } })
  | .turnaround => (m.withCorr (m.corr + roundRat ((nOut - o.nIn) * 65536)), s)
  | .request => (m, s.setPd o.port { s.pd o.port with t1 := some nOut })

/-- Queue a PTP message for a port; an event message from a channel to a host port waits in a launch-time queue, whose
launch time the spec does not state (log 3). -/
def State.ptpQueue (s : State) (o : PtpOut) (fromPlc : Bool) : State :=
  if fromPlc && o.port < 2 && (o.need == .residence || o.need == .hold) then
    let (v, s) := s.drawFree
    { s with tim := { s.tim with out := s.tim.out ++ [{ o with launch := some (s.tick + v) }] } }
  else { s with tim := { s.tim with out := s.tim.out ++ [o] } }

/-- Forward a message to every TC port but its own (R315); one already forwarded within a second is dropped and counted.
Answers whether the message lives on. -/
def State.ptpForward (s : State) (p : Nat) (m : PtpMsg) (need : PtpNeed) (nIn : Rat) (dIn : Int) : Bool × State :=
  if s.tcPort p = false then (true, s)
  else
    let same (x : FwdTuple) : Bool := x.srcId == m.srcId && x.srcPort == m.srcPort && x.domain == m.domain
      && x.typ == m.typ && x.seq == m.seq && decide (s.tick ≤ x.tick + 200000000)
    if s.tim.fwd.any same then (false, s.bump .TIM_PTP_CNT_loop_drop 0)
    else
      let t : FwdTuple := ⟨m.srcId, m.srcPort, m.domain, m.typ, m.seq, s.tick⟩
      let s := { s with tim := { s.tim with fwd := (t :: s.tim.fwd).take 1024 } }
      (true, (s.tcPorts.filter (· != p)).foldl
        (fun s q => s.ptpQueue { port := q, msg := m, need := need, nIn := nIn, dIn := dIn } (decide (2 ≤ p))) s)

/-- The time a Sync or Follow_Up tells, in 2^-16 ns. -/
def PtpMsg.origin (m : PtpMsg) : Int := tbVal m.ts m.tsNs 0

/-- The grandmaster a timebase selects (R321): the best data set. -/
def Tb.best (t : Tb) : Option Gm :=
  t.gms.foldl (fun b g => match b with
    | none => some g
    | some x => if g.key < x.key then some g else some x) none

/-- A Sync reaches a PTP timebase (R321). -/
def State.syncTb (s : State) (m : PtpMsg) (nRx : Rat) (d : Int) (k : Nat) : State :=
  let t := s.tb k
  match t.best with
  | none => s
  | some g =>
    if m.domain ≠ s.fld .TIM_TB_CFG_domain k ∨ g.srcId ≠ m.srcId ∨ g.srcPort ≠ m.srcPort
        ∨ t.lastSync = some (m.srcId * 65536 + m.srcPort, m.seq) then s
    else
      let at16 := s.tbAtNs k nRx
      let t := { t with lastSync := some (m.srcId * 65536 + m.srcPort, m.seq) }
      if m.twoStep then s.setTb k { t with wait := [⟨m.srcId, m.srcPort, m.seq, at16, m.corr, d, s.tick⟩] }
      else (s.setTb k t).tbOffset k (at16 - (m.origin + m.corr + d))

/-- A Follow_Up reaches a PTP timebase (R321). -/
def State.followTb (s : State) (m : PtpMsg) (k : Nat) : State :=
  let t := s.tb k
  match t.wait.find? (fun w => w.srcId == m.srcId && w.srcPort == m.srcPort && w.seq == m.seq) with
  | none => s
  | some w => (s.setTb k { t with wait := t.wait.erase w }).tbOffset k (w.at16 - (m.origin + w.corr + m.corr + w.delay))

/-- An Announce reaches a PTP timebase (R321): the data set of its grandmaster replaces the one before. -/
def State.announceTb (s : State) (p : Nat) (m : PtpMsg) (k : Nat) : State :=
  if m.domain ≠ s.fld .TIM_TB_CFG_domain k then s
  else
    let b := m.body
    let g : Gm := { port := p, srcId := m.srcId, srcPort := m.srcPort, cls := beAt b 48 1
                    key := [beAt b 47 1, beAt b 48 1, beAt b 49 1, beAt b 50 2, beAt b 52 1, beAt b 53 8, beAt b 61 2,
                      m.srcId, m.srcPort] }
    let t := s.tb k
    let t := { t with gms := t.gms.filter (fun x => !(x.srcId == g.srcId && x.srcPort == g.srcPort)) ++ [g] }
    let s := s.setTb k t
    let s := match t.best with
      | some x => s.setFld .TIM_TB_STATUS_gm_class k x.cls
      | none => s
    s.showQualified k

/-- A completed peer-delay exchange (R317). -/
def State.pdDone (s : State) (p : Nat) (turn : Int) (c : Int) (t4 : Rat) : State :=
  let d := s.pd p
  match d.t1 with
  | none => s
  | some t1 =>
    let new := (roundRat ((t4 - t1) * 65536) - turn - c) / 2
    let v := match d.d with
      | none => new
      | some o => o + roundDiv (new - o) 8
    s.setPd p { d with t1 := none, t2 := none, missed := 0, d := some v }

/-- The requestingPortIdentity of an answer is the port's own (R317). -/
def State.pdMine (s : State) (p : Nat) (m : PtpMsg) : Bool :=
  beAt m.body 44 8 == s.clockId && beAt m.body 52 2 == p + 1 && m.seq == (s.pd p).seq

/-- A PTP message of the table of R313 arrives at a port. -/
def State.ptpMessage (s : State) (p : Nat) (m : PtpMsg) (tIn : Nat) (suspect : Bool) : State :=
  let nIn := s.ingressNs p tIn
  if m.ver ≠ 2 then s.bump .TIM_PTP_CNT2_unsupported 0
  else if suspect ∧ 2 ≤ p ∧ (m.typ = 0 ∨ m.typ = 2 ∨ m.typ = 3) then s.bump .TIM_PTP_CNT_ts_suspect 0
  else match m.typ with
    | 0 => match (s.pd p).d with
      | none => s.bump .TIM_PTP_CNT2_no_pdelay 0
      | some d =>
        let (go, s) := s.ptpForward p m (if m.twoStep then .hold else .residence) nIn d
        if go then (s.ptpTbs p).foldl (fun s k => s.syncTb m nIn d k) s else s
    | 8 =>
      let (go, s) := s.ptpForward p m .addHeld nIn 0
      if go then (s.ptpTbs p).foldl (fun s k => s.followTb m k) s else s
    | 0xB =>
      let (go, s) := s.ptpForward p m .plain nIn 0
      let s := { s with tim := { s.tim with utc := signed 16 (beAt m.body 44 2) } }
      if go then (s.ptpTbs p).foldl (fun s k => s.announceTb p m k) s else s
    | 0xC => (s.ptpForward p m .plain nIn 0).2
    | 0xD => (s.ptpForward p m .plain nIn 0).2
    | 2 =>
      if s.pdPort p then
        let rest := List.replicate 10 0 ++ be 8 m.srcId ++ be 2 m.srcPort
        s.ptpQueue { port := p, msg := s.ptpMake p 3 m.domain m.seq m.corr rest, need := .turnaround, nIn := nIn } false
      else s
    | 3 =>
      if s.pdPort p && s.pdMine p m then
        if m.twoStep then s.setPd p { s.pd p with t4 := nIn, c := m.corr, t2 := some m.origin }
        else s.pdDone p 0 m.corr nIn
      else s
    | 0xA =>
      if s.pdPort p && s.pdMine p m then
        match (s.pd p).t2 with
        | some t2 => s.pdDone p (m.origin - t2) ((s.pd p).c + m.corr) (s.pd p).t4
        | none => s
      else s
    | _ => s.bump .TIM_PTP_CNT2_unsupported 0

/-- A row's message type: other types are none of its event. -/
def State.ptpOf (s : State) (typ p : Nat) (m : PtpMsg) (tIn : Nat) (suspect : Bool) : State :=
  if m.typ = typ then s.ptpMessage p m tIn suspect else s

/-- SYNC (R315). -/
def execSync (port : Nat) (msg : PtpMsg) (tIn : Nat) (suspect : Bool) (s : State) : Host.Outcome State Fault Refusal :=
  .next (s.ptpOf 0 port msg tIn suspect)

/-- FOLLOW_UP (R316). -/
def execFollowUp (port : Nat) (msg : PtpMsg) (tIn : Nat) (suspect : Bool) (s : State) :
    Host.Outcome State Fault Refusal := .next (s.ptpOf 8 port msg tIn suspect)

/-- PDELAY_REQ (R317). -/
def execPdelayReq (port : Nat) (msg : PtpMsg) (tIn : Nat) (suspect : Bool) (s : State) :
    Host.Outcome State Fault Refusal := .next (s.ptpOf 2 port msg tIn suspect)

/-- PDELAY_RESP (R317). -/
def execPdelayResp (port : Nat) (msg : PtpMsg) (tIn : Nat) (suspect : Bool) (s : State) :
    Host.Outcome State Fault Refusal := .next (s.ptpOf 3 port msg tIn suspect)

/-- PDELAY_RESP_FOLLOW_UP (R317). -/
def execPdelayRespFollowUp (port : Nat) (msg : PtpMsg) (tIn : Nat) (suspect : Bool) (s : State) :
    Host.Outcome State Fault Refusal := .next (s.ptpOf 0xA port msg tIn suspect)

/-- ANNOUNCE (R321). -/
def execAnnounce (port : Nat) (msg : PtpMsg) (tIn : Nat) (suspect : Bool) (s : State) :
    Host.Outcome State Fault Refusal := .next (s.ptpOf 0xB port msg tIn suspect)

/-- SIGNALING (R313). -/
def execSignaling (port : Nat) (msg : PtpMsg) (tIn : Nat) (suspect : Bool) (s : State) :
    Host.Outcome State Fault Refusal := .next (s.ptpOf 0xC port msg tIn suspect)

/-- MANAGEMENT (R313). -/
def execManagement (port : Nat) (msg : PtpMsg) (tIn : Nat) (suspect : Bool) (s : State) :
    Host.Outcome State Fault Refusal := .next (s.ptpOf 0xD port msg tIn suspect)

/-- PDELAY_INTERVAL: `pdelay_ms` after the last a port sends a Pdelay_Req; after three without a response D becomes invalid (R317). -/
def execPdelayInterval (port : Nat) (s : State) : Host.Outcome State Fault Refusal :=
  .next (
    if s.pdPort port = false then s
    else
      let d := s.pd port
      let s := match d.reqAt with
        | some t => s.reach (t + msTicks s.pat.tbs.pdelayMs)
        | none => s
      let missed := if d.t1.isSome then d.missed + 1 else d.missed
      let seq := (d.seq + 1) % 65536
      let s := s.setPd port { d with reqAt := some s.tick, seq := seq, t1 := none, t2 := none, missed := missed
                                     d := if 3 ≤ missed then none else d.d }
      s.ptpQueue { port := port, msg := s.ptpMake port 2 0 seq 0 (List.replicate 20 0), need := .request } false)

/-- HELD_CORRECTION_EXPIRY: a correction has been held for 1 s unmatched: it is discarded, with any other as old (R316). -/
def execHeldCorrectionExpiry (s : State) : Host.Outcome State Fault Refusal :=
  .next (match s.tim.held with
    | [] => s
    | h :: _ =>
      let s := s.reach (h.tick + 200000000)
      { s with tim := { s.tim with held := s.tim.held.filter (fun h => decide (s.tick < h.tick + 200000000)) } })

/-- The Ethernet frame of a PTP message (R313): VLAN 0, `ptp_pcp`. -/
def State.ptpFrame (s : State) (m : PtpMsg) : List Byte :=
  let peer := m.typ == 2 || m.typ == 3 || m.typ == 0xA
  be 6 (if peer then 0x0180C200000E else 0x011B19000000) ++ be 6 s.macAddr ++ be 2 0x8100
    ++ be 2 (s.pat.tbs.ptpPcp * 8192) ++ be 2 0x88F7 ++ m.body

/-- A frame leaves a host port. -/
def State.sendEth (s : State) (port : Nat) (b : List Byte) : State :=
  { s with host := { s.host with sent := s.host.sent ++ [(port, b)] } }

/-- A waiting PTP message leaves a host port at an egress time (R309, R315, R320). -/
def State.ptpLaunch (s : State) (o : PtpOut) (nOut : Rat) : State :=
  let s := { s with tim := { s.tim with out := s.tim.out.erase o } }
  let (m, s) := s.ptpDepart o nOut
  s.sendEth o.port (s.ptpFrame m)

/-- LAUNCH_TIME_FRAME: the first frame of a port's launch-time queue leaves with its egress timestamp at its launch time, or is dropped
as late (R320). -/
def execLaunchTimeFrame (port tick : Nat) (s : State) : Host.Outcome State Fault Refusal :=
  .next (
    let s := { s with tick := max s.tick tick }
    match s.tim.out.find? (fun o => o.port == port && o.launch.isSome) with
    | none => s
    | some o =>
      let l := o.launch.getD 0
      if l < s.tick then { (s.bump .TIM_PTP_CNT2_late 0) with tim := { s.tim with out := s.tim.out.erase o } }
      else (s.reach l).ptpLaunch o ((l * 5 : Nat) : Rat))

/-- The tick of a launch time by a timebase (R318): its value and rate now. -/
def State.launchTick (s : State) (k sec ns : Nat) : Int :=
  let d := tbVal sec ns 0 - s.tbAt k s.tick
  let rate : Rat := 1 + ((s.lastAnchor k).rate : Rat) / 256000000000
  (s.tick : Int) + ((d : Rat) / (327680 * rate)).ceil

end Sys2Proof.Machine
end

