-- ==== Sys2Proof/Machine/Host.lean ====
section
/-! DEFINITION. Chapter 13: host frames, handover, credits, flood origination, GOOSE, PRP, egress and the panel query. -/

namespace Sys2Proof.Machine

/-- An Ethernet frame without its FCS: addresses, 802.1Q tag, EtherType and what follows it. -/
structure EthHdr where
  dst : Nat
  src : Nat
  tagged : Bool
  pcp : Nat
  vid : Nat
  etype : Nat
  body : List Byte
  deriving DecidableEq, Repr

/-- Read a frame's header. -/
def ethParse (b : List Byte) : EthHdr :=
  if beAt b 12 2 = 0x8100 then
    ⟨beAt b 0 6, beAt b 6 6, true, beAt b 14 2 / 8192, beAt b 14 2 % 4096, beAt b 16 2, b.drop 18⟩
  else ⟨beAt b 0 6, beAt b 6 6, false, 0, 0, beAt b 12 2, b.drop 14⟩

/-- Destination addresses a port accepts (R391). -/
def State.macTaken (s : State) (d : Nat) : Bool :=
  d == s.macAddr || d == 0x011B19000000 || d == 0x0180C200000E || d == 0x01154E000100
    || decide (0x010CCD010000 ≤ d ∧ d ≤ 0x010CCD0101FF)

/-- The panel whose `data_vid` a VID is. -/
def State.dataPanel (s : State) (vid : Nat) : Option PanelItem :=
  s.pat.panels.find? (fun i => i.dataVid == vid && vid != 0)

/-- The panel whose `mgmt_vid` a VID is. -/
def State.mgmtPanel (s : State) (vid : Nat) : Option PanelItem :=
  s.pat.panels.find? (fun i => i.mgmtVid == vid && vid != 0)

/-- The handover header (R393). -/
structure HoHdr where
  ver : Nat
  kind : Nat
  prio : Nat
  flags : Nat
  target : Nat
  tb : Nat
  ep : Nat
  peer : Nat
  len : Nat
  sec : Nat
  ns : Nat
  rsv : Nat
  deriving DecidableEq, Repr

/-- Read a handover header. -/
def hoParse (b : List Byte) : HoHdr :=
  ⟨beAt b 0 1, beAt b 1 1, beAt b 2 1, beAt b 3 1, beAt b 4 1, beAt b 5 1, beAt b 6 2, beAt b 8 2, beAt b 10 2,
   beAt b 12 6, beAt b 18 4, beAt b 22 10⟩

/-- Write a handover header. -/
def HoHdr.bytes (h : HoHdr) : List Byte :=
  [byte h.ver, byte h.kind, byte h.prio, byte h.flags, byte h.target, byte h.tb] ++ be 2 h.ep ++ be 2 h.peer
    ++ be 2 h.len ++ be 6 h.sec ++ be 4 h.ns ++ be 10 h.rsv

/-- `ack_req`, launch time present, `enc`. -/
def HoHdr.ack (h : HoHdr) : Bool := bit h.flags 0 && h.peer != 0xFFFF
/-- Launch time present. -/
def HoHdr.hasLaunch (h : HoHdr) : Bool := bit h.flags 1
/-- `enc`. -/
def HoHdr.enc (h : HoHdr) : Bool := bit h.flags 2

/-- `length` agrees with the bytes present; padding to the least frame is ignored (R393, R394). -/
def hoLenOk (h : HoHdr) (m : List Byte) : Bool :=
  m.length == 32 + h.len || (decide (32 + h.len < m.length) && decide (m.length ≤ 46))

/-- Check 1 of R394: a wrong version, kind, reserved field or length; a field out of its range counts as wrong. -/
def hoBad (h : HoHdr) (m : List Byte) : Bool :=
  h.ver != 1 || !(h.kind == 1 || h.kind == 2) || decide (8 ≤ h.flags) || h.rsv != 0 || decide (3 < h.prio)
    || decide (7 < h.tb) || !(decide (1 ≤ h.ep) && decide (h.ep ≤ 0xFEFF))
    || !(decide (1 ≤ h.len) && decide (h.len ≤ 16384)) || !hoLenOk h m || decide (999999999 < h.ns)
    || (!h.hasLaunch && (h.sec != 0 || h.ns != 0)) || (h.kind == 2 && h.peer != 0)

/-- The message breaks R256, or R472 with `enc`. -/
def hoTooLong (h : HoHdr) : Bool :=
  let one := h.prio == 3 || !(h.ack && h.kind == 1)
  if h.enc then decide (16192 < h.len) || (one && decide (2024 < h.len)) else one && decide (2048 < h.len)

/-- Check 2 of R394: a channel the panel does not own, a domain not granted or flooding not in force, R256. -/
def State.hoDenied (s : State) (p : Nat) (h : HoHdr) : Bool :=
  (if h.kind = 1 then s.owner h.target != some p
   else !(s.panelItem p).any (fun i => decide (h.target < 64) && bit i.domains h.target) || !s.inForce 10) || hoTooLong h

/-- Check 3 of R394: a right the panel lacks. -/
def State.hoNoRight (s : State) (p : Nat) (h : HoHdr) : Bool :=
  (h.prio == 3 && !s.right p 1) || (h.kind == 2 && !s.right p 2) || (h.hasLaunch && !s.right p 3)
    || (h.enc && !s.right p 4)

/-- The free credits of a panel's class. -/
def State.credit (s : State) (p q : Nat) : Nat := tget 0 (8 * p + q) s.host.credits

/-- Set them. -/
def State.setCredit (s : State) (p q v : Nat) : State :=
  { s with host := { s.host with credits := tput 0 (8 * p + q) v s.host.credits } }

/-- Return a credit (R395, R397): free again, and counted in the panel's returned credits. -/
def State.returnCredit (s : State) (p q : Nat) : State :=
  let s := s.setCredit p q (s.credit p q + 1)
  let F : Fld := if q % 2 = 0 then .PNL_CREDIT_ret_lo else .PNL_CREDIT_ret_hi
  let s := s.setFld F (4 * p + q / 2) (s.fld F (4 * p + q / 2) + 1)
  { s with host := { s.host with
      creditChanged := if s.host.creditChanged.contains p then s.host.creditChanged else s.host.creditChanged ++ [p] } }

/-- The class-3 messages in a panel's protection queue. -/
def State.protCount (s : State) (p : Nat) : Nat :=
  (s.host.queues.filter (fun m => m.panel == p && m.prio == 3)).length

/-- Queue a message (R395): class 3 in the protection queue of 64, others against a credit of their class. -/
def State.queueMsg (s : State) (m : QMsg) : State :=
  if m.prio = 3 then
    if 64 ≤ s.protCount m.panel then s.bump .HST_GOOSE_CNT_goose_ovf 0
    else { s with host := { s.host with queues := s.host.queues ++ [m] } }
  else
    let s := s.setCredit m.panel m.cls (s.credit m.panel m.cls - 1)
    { s with host := { s.host with queues := s.host.queues ++ [m] } }

/-- The launch of a message that passed the checks (R318, R319): its tick, or the counter of its drop. -/
def State.hoLaunch (s : State) (h : HoHdr) : Option (Option Nat) × State :=
  if h.hasLaunch = false then (some none, s)
  else
    let t := s.launchTick h.tb h.sec h.ns
    if (s.tick : Int) + 400000000 < t then (none, s.bump .TIM_PTP_CNT2_far 0)
    else if t < s.slotTick (s.grid.slot + s.commitAhead - 1) + 1 then (none, s.bump .TIM_PTP_CNT2_late 0)
    else (some (some t.toNat), s)

/-- A handover of kind SEND or FLOOD from a panel in queue class q (R394, R395). -/
def State.handoverIn (s : State) (p q : Nat) (m : List Byte) : State :=
  let h := hoParse m
  if hoBad h m then s.bump .PNL_HO_CNT_ho_err p
  else if s.hoDenied p h then s.bump .DLV_EP_CNT_ep_denied 0
  else if s.hoNoRight p h then s.bump .PNL_HO_CNT_right_deny p
  else if h.prio ≠ 3 ∧ s.credit p q = 0 then s.bump .PNL_THIMBLE_CNT_credit_drop p
  else match s.hoLaunch h with
    | (none, s) => s
    | (some l, s) => s.queueMsg
        { panel := p, cls := q, prio := h.prio, flood := h.kind == 2, target := h.target, dst := h.peer, ep := h.ep
          ackReq := h.ack, enc := h.enc, data := slice m 32 h.len, tickIn := s.tick, launch := l }

/-- SEND (R394). -/
def execSend (p q : Nat) (msg : List Byte) (s : State) : Host.Outcome State Fault Refusal :=
  .next (if p < 16 ∧ q < 8 ∧ (s.panelItem p).isSome ∧ (hoParse msg).kind ≠ 2 then s.handoverIn p q msg else s)

/-- FLOOD (R394). -/
def execFlood (p q : Nat) (msg : List Byte) (s : State) : Host.Outcome State Fault Refusal :=
  .next (if p < 16 ∧ q < 8 ∧ (s.panelItem p).isSome ∧ (hoParse msg).kind ≠ 1 then s.handoverIn p q msg else s)

/-- The channels of a domain. -/
def State.domChans (s : State) (m : Nat) : List Nat :=
  match s.pat.doms.find? (fun d => d.domain == m) with
  | some d => (List.range 192).filter (bit d.chans)
  | none => []

/-- The domain of a channel. -/
def State.domainOf (s : State) (ch : Nat) : Option Nat := (s.pat.doms.find? (fun d => bit d.chans ch)).map (·.domain)

/-- A channel is in TRAINING or LIVE. -/
def State.chUp (s : State) (ch : Nat) : Bool := s.chState ch == chTraining || s.chState ch == chLive

/-- The channel whose Bobbin takes FLOOD messages of a domain (R396). -/
def State.floodServer (s : State) (m : Nat) : Option Nat := (s.domChans m).find? s.chUp

/-- Entries the seen-cache holds (R277). -/
def State.seenLimit (s : State) : Nat := if s.narrow then 8192 else 262144

/-- Enter an identifier in the seen-cache (R277): the oldest gives way where it is full. -/
def State.enterSeen (s : State) (m origin oseq : Nat) : State :=
  let e : Seen := ⟨m, origin, oseq, s.tick, s.fld .DLV_CFG2_seen_life 0⟩
  let old := s.dlv.seen
  if old.length < s.seenLimit then
    ({ s with dlv := { s.dlv with seen := old ++ [e] } }).setFld .DLV_SEEN_seen_used 0 (old.length + 1)
  else
    let s := ({ s with dlv := { s.dlv with seen := old.drop 1 ++ [e] } }).bump .DLV_FLOOD_CNT_seen_evict 0
    if s.dlv.evictHem = some s.grid.hem then s
    else ({ s with dlv := { s.dlv with evictHem := some s.grid.hem } }).log 0x2C02 noPanel noInst 0

/-- Queue a flood copy on a channel under a descriptor (R276). -/
def State.addCopy (s : State) (panel prio ch ttl origin oseq : Nat) (segs : List Byte) (enc : Bool) : State :=
  match s.takeDesc prio panel with
  | none => s.bump .DLV_MISC_CNT_flood_nodesc 0
  | some (pool, s) =>
    let mid := s.dlv.nextMid
    let c : FloodCopy := ⟨mid, ch, ttl, origin, oseq, prio, segs, s.fld .DLV_CFG2_flood_rep 0 + 1, enc⟩
    { s with dlv := { s.dlv with
        nextMid := mid + 1
        copies := s.dlv.copies ++ [c]
        txMsgs := s.dlv.txMsgs ++ [{ mid := mid, panel := panel, ch := ch, pool := pool, floodCopy := true }] } }

/-- Originate a message on one channel of its domain (R274): the identifier enters the seen-cache before the copy. The
sequence number of a segment outside every flow is not stated (log 3). -/
def State.originateOn (s : State) (m : QMsg) (oseq ttl ch : Nat) : State :=
  let origin := s.ownAddr ch
  let s := s.enterSeen m.target origin oseq
  let (v, s) := s.drawFree
  let seq := v % 4096
  if m.enc then
    match s.sealField ch origin 0xFFFF 0xFFF m.ep seq 3 m.data with
    | none => s.bump .SEC_CNT_enc_nokey 0
    | some (field, s) => s.addCopy m.panel m.prio ch ttl origin oseq (segBytes m.ep seq 3 field) true
  else s.addCopy m.panel m.prio ch ttl origin oseq (segBytes m.ep seq 3 m.data) false

/-- Originate a flood message (R274). -/
def State.originate (s : State) (m : QMsg) : State :=
  let oseq := s.dlv.oseq
  let s := { s with dlv := { s.dlv with oseq := (oseq + 1) % 65536 } }
  let ttl := s.fld .DLV_CFG2_flood_ttl 0
  ((s.domChans m.target).filter s.chUp).foldl (fun s ch => s.originateOn m oseq ttl ch) s

/-- Remove a message from its queue, returning the credit of classes 0 to 2. -/
def State.dequeue (s : State) (m : QMsg) : State :=
  let s := { s with host := { s.host with queues := s.host.queues.erase m } }
  if m.prio = 3 then s else s.returnCredit m.panel m.cls

/-- Take one message for the PLC side (R396, R452, R472): handed over, originated, or dropped for want of a key. None where it
finds no descriptor or buffer. -/
def State.takeMsg (s : State) (m : QMsg) : Option State :=
  if m.flood then some ((s.dequeue m).originate m)
  else if m.enc && !s.canSeal m.target then some ((s.dequeue m).bump .SEC_CNT_enc_nokey 0)
  else (s.handoverWake m.panel m.target m.dst m.prio m.ackReq m.enc m.ep m.data m.launch).map (fun s => s.dequeue m)

/-- A channel's Bobbin may take a message (R396). -/
def State.forChan (s : State) (ch : Nat) (m : QMsg) : Bool :=
  if m.flood then s.floodServer m.target == some ch else m.target == ch

/-- The heads of the queues a channel's Bobbin takes from, in its order (R396). -/
def State.queueHeads (s : State) (ch : Nat) : List QMsg :=
  let mine := s.host.queues.filter (s.forChan ch)
  let head (f : QMsg → Bool) : List QMsg := (mine.find? f).toList
  head (fun m => m.prio == 3) ++ [7, 6, 5, 4, 3, 2, 1, 0].flatMap (fun q => head (fun m => m.prio != 3 && m.cls == q))

/-- The first of a list of messages that can be taken is taken. -/
def State.takeFirst (s : State) : List QMsg → State
  | [] => s
  | m :: ms => (s.takeMsg m).getD (s.takeFirst ms)

/-- The working CHANNEL Bobbin in whose sub-slices a channel runs (R438, R444). -/
def State.bobOf (s : State) (ch : Nat) : Option Bob :=
  (s.bob.bobs.find? (fun e => e.2.role == 1 && !e.2.fault && e.2.owner.contains ch)).map (·.2)

/-- A channel's Bobbin has a message of classes 0 to 2 to take (R396). -/
def State.workReady (s : State) (ch : Nat) : Bool := (s.queueHeads ch).any (fun m => m.prio != 3)

/-- The channel a Bobbin runs in sub-slice `i` (R438): its owner; under `share`, where the owner has no work ready, the next of the
same panel that has some. -/
def State.sliceRuns (s : State) (b : Bob) (i : Nat) : Option Nat :=
  let own := b.owner.getD i 255
  if 191 < own then none
  else if s.workReady own ∨ b.share = false then some own
  else
    let next := (List.range 7).map (fun k => b.owner.getD ((i + 1 + k) % 8) 255)
    some ((next.find? (fun c => decide (c < 192) && s.owner c == s.owner own && s.workReady c)).getD own)

/-- The tick at which sub-slice `n` counted from the start of the slot in progress begins (R119, R438): eight to a slot. -/
def State.sliceTick (s : State) (n : Nat) : Nat := s.slotTick s.grid.slot + (n * s.ls + 7) / 8

/-- When a channel's Bobbin next runs it for classes 0 to 2 (R438): now in a sub-slice of its own, or at the start of its next. -/
def State.sliceAt (s : State) (ch : Nat) : Option Nat :=
  match s.bobOf ch with
  | none => none
  | some b =>
    let i := 8 * (s.tick - s.slotTick s.grid.slot) / s.ls
    ((List.range 9).find? (fun k => s.sliceRuns b ((i + k) % 8) == some ch)).map (fun k =>
      if k = 0 then s.tick else s.sliceTick (i + k))

/-- The abandonment time of a queued message in ticks (R395, R396). -/
def State.queueAge (s : State) (m : QMsg) : Nat :=
  msTicks (if m.prio = 3 then s.fld .DLV_CFG_prot_abandon_ms 0 else s.fld .DLV_CFG_abandon_ms 0)

/-- Q_AGE_DROP: the oldest message of a queue, class 8 the protection queue, has waited its time (R395, R396). -/
def execQAgeDrop (panel q : Nat) (s : State) : Host.Outcome State Fault Refusal :=
  .next (
    let inQ (m : QMsg) : Bool := m.panel == panel && (if q = 8 then m.prio == 3 else m.prio != 3 && m.cls == q)
    match s.host.queues.find? inQ with
    | none => s
    | some m => ((s.reach (m.tickIn + s.queueAge m)).dequeue m).bump .PNL_HO_CNT_q_age_drop panel)

/-- PRP is in force (R403). -/
def State.prpOn (s : State) : Bool := s.flag .HST_STATUS_prp_on 0

/-- The redundancy control trailer of a frame: sequence, LAN (0xA or 0xB), LSDU size, suffix (R403, IEC 62439-3). -/
def rct (seq lan : Nat) (frame : List Byte) : List Byte :=
  let h := if (ethParse frame).tagged then 18 else 14
  be 2 seq ++ be 2 (lan * 4096 + (frame.length - h + 6) % 4096) ++ be 2 0x88FB

/-- Queue a frame for egress (R403, R404): under PRP once for each port, with its trailer; else as it is. -/
def State.egressFrame (s : State) (f : EgFrame) : State :=
  if s.prpOn then
    let n := s.host.prpSeq
    let a : EgFrame := { f with ports := 1, bytes := f.bytes ++ rct n 0xA f.bytes }
    let b : EgFrame := { f with ports := 2, bytes := f.bytes ++ rct n 0xB f.bytes, copy := true }
    { s with host := { s.host with prpSeq := (n + 1) % 65536, egress := s.host.egress ++ [a, b] } }
  else { s with host := { s.host with egress := s.host.egress ++ [f] } }

/-- The ports of a panel (R405). -/
def PanelItem.ports (i : PanelItem) : Nat := i.portCfg % 4

/-- The frame of the module's handover EtherType to a panel's host (R393). -/
def State.hoFrame (s : State) (i : PanelItem) (pcp : Nat) (h : HoHdr) (m : List Byte) : List Byte :=
  be 6 i.hostMac ++ be 6 s.macAddr ++ be 2 0x8100 ++ be 2 (pcp % 8 * 8192 + i.dataVid) ++ be 2 0x88B5 ++ h.bytes ++ m

/-- Messages in a to-host queue (R398). -/
def State.toHostCount (s : State) (p cls : Nat) : Nat :=
  (s.host.egress.filter (fun f => f.panel == p && f.cls == cls && !f.copy)).length

/-- A to-host queue has room (R398). -/
def State.toHostRoom (s : State) (p cls : Nat) : Bool := decide (s.toHostCount p cls < 256)

/-- Put a DELIVER in a panel's to-host queue (R398); the fields of R393 that are for the way to the module are 0. -/
def State.toHost (s : State) (p cls prio : Nat) (flood : Bool) (ch src ep : Nat) (data : List Byte) : State :=
  match s.panelItem p with
  | none => s
  | some i =>
    let h : HoHdr := ⟨1, 3, prio, 8 * b2n flood, ch, 0, ep, src, data.length, 0, 0, 0⟩
    s.egressFrame { order := if prio = 3 then 2 else 4, panel := p, ports := i.ports, cls := cls
                    bytes := s.hoFrame i cls h data }

/-- Send a GOOSE publication (R402): the tag goes in after the source address, on each of its ports. -/
def State.publish (s : State) (pub : Publication) (data : List Byte) : State :=
  let b := data.take 12 ++ be 2 0x8100 ++ be 2 (pub.pcp * 8192 + pub.vid) ++ data.drop 12
  let one (p : Nat) (s : State) : State :=
    s.egressFrame { order := 2, panel := pub.panel, ports := 2 ^ p, cls := 8, bytes := b }
  if s.prpOn then one 0 s
  else
    let s := if bit pub.ports 0 then one 0 s else s
    if bit pub.ports 1 then one 1 s else s

/-- The CREDIT message of a panel (R397): its priority code point, `prio` and `ep` are not stated (log 3). -/
def State.sendCredit (s : State) (p : Nat) : State :=
  match s.panelItem p with
  | none => s
  | some i =>
    if i.dataVid = 0 then s
    else
      let (v, s) := s.drawFree
      let h : HoHdr := ⟨1, 4, v / 8 % 4, 0, 0, 0, v / 32 % 0xFEFF + 1, 0, 16, 0, 0, 0⟩
      let n (q : Nat) : Nat :=
        s.fld (if q % 2 = 0 then Fld.PNL_CREDIT_ret_lo else Fld.PNL_CREDIT_ret_hi) (4 * p + q / 2)
      s.egressFrame { order := 3, panel := p, ports := i.ports, cls := 8
                      bytes := s.hoFrame i v h ((List.range 8).flatMap (fun q => be 2 (n q))) }

/-- The credit reports of a Hem boundary (R397). -/
def State.creditReport (s : State) : State :=
  let ps := s.host.creditChanged
  ps.foldl (fun s p => s.sendCredit p) { s with host := { s.host with creditChanged := [] } }

/-- Re-create a panel's queues (R395, R397): its messages are dropped, the credits are all free and the counts restart. -/
def State.freshQueues (s : State) (p : Nat) : State :=
  let s := { s with host := { s.host with
    queues := s.host.queues.filter (fun m => m.panel != p), creditChanged := s.host.creditChanged.erase p } }
  let cr := ((s.pat.thimbles.find? (fun t => t.panel == p)).map (·.credits)).getD []
  let s := (List.range 8).foldl (fun s q => s.setCredit p q (cr.getD q 0)) s
  (List.range 4).foldl (fun s n => (s.setFld .PNL_CREDIT_ret_lo (4 * p + n) 0).setFld .PNL_CREDIT_ret_hi (4 * p + n) 0) s

/-- A GOOSE frame of a panel (R401): the frame without its tag is a class-3 message along its map item. -/
def State.gooseIn (s : State) (i : PanelItem) (h : EthHdr) : State :=
  let s := s.bumpWrap .HST_GOOSE_CNT_goose_in 0
  let data := be 6 h.dst ++ be 6 h.src ++ be 2 h.etype ++ h.body
  match s.pat.ports.maps.find? (fun m => m.appid == beAt h.body 0 2 && m.panel == i.panel) with
  | none => s.bump .HST_GOOSE_CNT_goose_unmap 0
  | some m =>
    if h.pcp < s.fld .HST_STATUS_goose_pcp 0 ∨ s.right i.panel 1 = false ∨ 2048 < data.length then
      s.bump .HST_GOOSE_CNT_goose_unmap 0
    else s.queueMsg
      { panel := i.panel, cls := h.pcp, prio := 3, flood := m.kind == 1, target := m.target, dst := m.dst, ep := m.ep
        ackReq := m.ackReq && m.dst != 0xFFFF, enc := false, data := data, tickIn := s.tick }

/-- The reply to an ARP request for a panel's address (R392 step 5); other ARP frames ask nothing. -/
def State.arpReply (s : State) (i : PanelItem) (h : EthHdr) : State :=
  let b := h.body
  if beAt b 6 2 = 1 ∧ beAt b 24 4 = i.ipv4 then
    let reply := be 6 h.src ++ be 6 s.macAddr ++ be 2 0x8100 ++ be 2 (h.pcp * 8192 + i.mgmtVid) ++ be 2 0x0806
      ++ b.take 6 ++ be 2 2 ++ be 6 s.macAddr ++ be 4 i.ipv4 ++ slice b 8 10
    s.egressFrame { order := 3, panel := i.panel, ports := i.ports, cls := 8, bytes := reply }
  else s

/-- The checksum of an IPv4 header (RFC 791): the ones' complement of the ones' complement sum of its words. -/
def ipSum (b : List Byte) : Nat :=
  let t := (List.range (b.length / 2)).foldl (fun n i => n + beAt b (2 * i) 2) 0
  let f := t % 65536 + t / 65536
  65535 - (f % 65536 + f / 65536)

/-- The nonce of an OHI datagram (R475): direction 0 from the driver, 1 from the module. -/
def ohiNonce (p dir seq : Nat) : List Byte := [byte p, byte dir, 0, 0] ++ be 4 seq ++ be 4 0

/-- The response datagram of an OHI datagram (R76, R475), as IPv4 UDP from the panel's address on its management VLAN; its
priority code point, identification and time to live are not stated (log 3). -/
def State.ohiReply (s : State) (d : Dgram) (i : PanelItem) : State :=
  let (v, s) := s.drawFree
  let head := [byte d.panel, byte d.rsps.length, 0, 0] ++ le 4 d.seq
  let body := head ++ Config.gcmSeal d.key (ohiNonce d.panel 1 d.seq) head
    (d.rsps.flatMap (fun r => rspEntry r.tag r.opcode r.resp))
  let ip (sum : Nat) : List Byte := [byte 0x45, 0] ++ be 2 (28 + body.length) ++ be 2 (v / 8) ++ be 2 0 ++ [byte (v / 2 ^ 19), byte 17]
    ++ be 2 sum ++ be 4 i.ipv4 ++ be 4 d.ip
  let udp := be 2 7192 ++ be 2 d.port ++ be 2 (8 + body.length) ++ be 2 0
  let frame := be 6 i.hostMac ++ be 6 s.macAddr ++ be 2 0x8100 ++ be 2 (v % 8 * 8192 + i.mgmtVid) ++ be 2 0x0800
    ++ ip (ipSum (ip 0)) ++ udp ++ body
  s.egressFrame { order := 3, panel := i.panel, ports := i.ports, cls := 8, bytes := frame }

/-- The datagrams whose entries have all answered are queued to leave (R76, R404). -/
def State.sendOhi (s : State) : State :=
  let full (d : Dgram) : Bool := decide (d.want ≤ d.rsps.length)
  let s' : State := { s with host := { s.host with ohiIn := s.host.ohiIn.filter (fun d => !full d) } }
  (s.host.ohiIn.filter full).foldl (fun (s : State) d => match s.panelItem d.panel with
    | some i => s.ohiReply d i
    | none => s) s'

/-- ARP_REQUEST (R392 step 5). -/
def execArpRequest (port vid : Nat) (frame : List Byte) (s : State) : Host.Outcome State Fault Refusal :=
  .next (match s.mgmtPanel vid with
    | some i => if port < 2 ∧ (ethParse frame).etype = 0x0806 then s.arpReply i (ethParse frame) else s
    | none => s)

/-- PRP_SUPERVISION_RX: a supervision frame is consumed (R403). -/
def execPrpSupervisionRx (port : Nat) (frame : List Byte) (s : State) : Host.Outcome State Fault Refusal :=
  let _ := (port, frame)
  .next s

/-- The supervision frame of a node (R403, IEC 62439-3). -/
def State.supFrame (s : State) : List Byte :=
  be 6 0x01154E000100 ++ be 6 s.macAddr ++ be 2 0x88FB ++ be 2 1 ++ be 2 s.host.supSeq ++ [byte 20, byte 6]
    ++ be 6 s.macAddr ++ List.replicate 34 0

/-- PRP_SUPERVISION_SEND: every `prp_life_ms` (R403). -/
def execPrpSupervisionSend (s : State) : Host.Outcome State Fault Refusal :=
  .next (
    if s.prpOn ∧ 0 < s.pat.ports.prpLifeMs then
      let s := s.reach (s.host.supAt + msTicks s.pat.ports.prpLifeMs)
      let s := s.egressFrame { order := 3, panel := noPanel, ports := 3, cls := 8, bytes := s.supFrame }
      { s with host := { s.host with supSeq := (s.host.supSeq + 1) % 65536, supAt := s.tick } }
    else s)

/-- A received frame's trailer: its sequence and LAN, where it ends in the suffix and the LSDU size matches (R403). -/
def rctOf (f : List Byte) : Option (Nat × Nat) :=
  let h := if (ethParse f).tagged then 18 else 14
  let t := f.drop (f.length - 6)
  if 6 + h ≤ f.length ∧ beAt t 4 2 = 0x88FB ∧ beAt t 2 2 % 4096 = (f.length - h) % 4096 then
    some (beAt t 0 2, beAt t 2 2 / 4096)
  else none

/-- PRP processing of a received frame (R403): what is left of it, or nothing for a duplicate. -/
def State.prpIn (s : State) (port : Nat) (f : List Byte) : Option (List Byte) × State :=
  if s.prpOn = false then (some f, s)
  else match rctOf f with
    | none => (some f, s)
    | some (seq, lan) =>
      let src := beAt f 6 6
      let life := msTicks s.pat.ports.prpForgetMs
      let s := if lan = 0xA + port then s else s.bump .HST_PRP_CNT_prp_wrong_lan 0
      if s.host.prpSeen.any (fun e => e.1 == src && e.2.1 == seq && decide (s.tick ≤ e.2.2 + life)) then
        (none, s.bump .HST_PRP_CNT_prp_dup 0)
      else
        let rest := s.host.prpSeen.filter (fun e => !(e.1 == src && e.2.1 == seq))
        let rest := if 4096 ≤ rest.length then rest.drop 1 else rest
        (some (f.take (f.length - 6)), { s with host := { s.host with prpSeen := rest ++ [(src, seq, s.tick)] } })

/-- HOST_LINK_CHANGE (R390, R404): a port gains or loses link; where a panel's frames leave follows at egress. -/
def execHostLinkChange (port : Nat) (up : Bool) (s : State) : Host.Outcome State Fault Refusal :=
  .next (
    if 2 ≤ port then s
    else
      let u := up && s.fld .HST_PORT_STATUS_mode port != 0xF && !s.host.failed.contains port
      ((s.setFlag .HST_PORT_STATUS_link_up port u).setFlag .HST_PORT_STATUS_fec_lock port u).setFlag
        .HST_PORT_STATUS_an_done port (u && s.pat.ports.an))

/-- A port has link. -/
def State.linkUp (s : State) (port : Nat) : Bool := s.flag .HST_PORT_STATUS_link_up port

/-- A waiting frame may leave on a port (R404): the lower-numbered of its ports with link. -/
def State.mayLeave (s : State) (port : Nat) (f : EgFrame) : Bool :=
  s.linkUp port && bit f.ports port && !(port == 1 && bit f.ports 0 && s.linkUp 0)

/-- The bytes a panel may send in the current millisecond have been sent (R404, R405): 2 Gb/s is 250,000 bytes in 1 ms. -/
def State.capped (s : State) (p : Nat) : Bool :=
  match s.panelItem p with
  | none => false
  | some i => i.portCfg / 4 != 0 && decide (i.portCfg / 4 * 250000 ≤ tget 0 p s.host.egBytes)

/-- The next frame of a to-host class (R404): the panels take turns, a capped one is skipped. -/
def State.nextOfClass (s : State) (port cls : Nat) : Option EgFrame :=
  let ok (f : EgFrame) : Bool := f.order == 4 && f.cls == cls && s.mayLeave port f && !s.capped f.panel
  let turn := tget 0 (8 * port + cls) s.host.turn
  let ps := (List.range 16).map (fun i => (turn + i) % 16)
  ps.findSome? (fun p => s.host.egress.find? (fun f => ok f && f.panel == p))

/-- The frame a port sends next after PTP (R404). -/
def State.nextEgress (s : State) (port : Nat) : Option EgFrame :=
  let first (o : Nat) : Option EgFrame := s.host.egress.find? (fun f => f.order == o && s.mayLeave port f)
  match first 2 with
  | some f => some f
  | none => match first 3 with
    | some f => some f
    | none => [7, 6, 5, 4, 3, 2, 1, 0].findSome? (s.nextOfClass port)

/-- Send a waiting frame on a port, counting its panel's bytes and turn. -/
def State.sendEgress (s : State) (port : Nat) (f : EgFrame) : State :=
  let h := { s.host with
    egress := s.host.egress.erase f
    egBytes := tput 0 f.panel (tget 0 f.panel s.host.egBytes + f.bytes.length) s.host.egBytes
    turn := if f.order = 4 then tput 0 (8 * port + f.cls) ((f.panel + 1) % 16) s.host.turn else s.host.turn }
  ({ s with host := h }).sendEth port f.bytes

/-- `PNL_STATUS`, `PNL_AIR`, `PNL_DEC` and `PNL_CREDIT0` to `PNL_CREDIT3` as PNL_QUERY returns them (R413). -/
def State.pnlWords (s : State) (p part : Nat) : List Nat :=
  if part = 0 then
    [s.fld .PNL_STATUS_defined p + 2 * s.fld .PNL_STATUS_in_band p + 4 * s.fld .PNL_STATUS_rights p,
     s.fld .PNL_AIR_air_left p + 2 ^ 18 * s.fld .PNL_AIR_air_borrowed p,
     s.fld .PNL_DEC_dec p + 2 ^ 16 * s.fld .PNL_DEC_dec_used p]
  else (List.range 4).map (fun n => s.fld .PNL_CREDIT_ret_lo (4 * p + n) + 2 ^ 16 * s.fld .PNL_CREDIT_ret_hi (4 * p + n))

/-- PNL_QUERY (R413). -/
def opPnlQuery (p part : Nat) (s : State) : State × Option Resp :=
  if 1 < part then refuse s .badArg else (s, some ⟨.ok, (s.pnlWords p part).flatMap (le 4)⟩)

/-- PNL_QUERY. -/
def execPnlQuery (c : Cmd) (part : Nat) (s : State) : Host.Outcome State Fault Refusal :=
  .next (ohi s c 0x3E01 (opPnlQuery c.pnl part s))

end Sys2Proof.Machine
end

