-- ==== Sys2Proof/Machine/Lanes.lean ====
section
/-! DEFINITION. Chapter 11, the control channel of a Seam lane: messages to a head and what is told of it (R340, R341,
R357), and the ramp spans of a channel (R347). -/

namespace Sys2Proof.Machine

/-- What a lane holds. -/
def State.lane (s : State) (j : Nat) : Lane := tget {} j s.hlk.lanes

/-- Store it. -/
def State.setLane (s : State) (j : Nat) (l : Lane) : State :=
  { s with hlk := { s.hlk with lanes := tput {} j l s.hlk.lanes } }

/-- Change it by a function. -/
def State.updLane (s : State) (j : Nat) (f : Lane → Lane) : State := s.setLane j (f (s.lane j))

/-- The states of a lane (R352). -/
def hlkOff : Nat := 0
/-- DOWN. -/
def hlkDown : Nat := 1
/-- LOCKING. -/
def hlkLocking : Nat := 2
/-- CALIBRATING. -/
def hlkCalibrating : Nat := 3
/-- ALIGNED. -/
def hlkAligned : Nat := 4
/-- FAULT. -/
def hlkFault : Nat := 5

/-- A lane's state. -/
def State.laneState (s : State) (j : Nat) : Nat := s.fld .HLK_STATUS_state j

/-- Head registers of R357. -/
def headTrim : Nat := 0x14
/-- `HEAD_CTRL`. -/
def headCtrl : Nat := 0x10
/-- A slot's register at an offset. -/
def slotReg (ch ofs : Nat) : Nat := 0x100 + 0x10 * slotOf ch + ofs

/-- Send a control message (R341): at most 16 are outstanding, the rest wait. -/
def State.sendCtl (s : State) (j : Nat) (write : Bool) (addr data : Nat) (why : CtlWhy) : State :=
  s.updLane j (fun l =>
    let m : CtlMsg := { tag := l.nextTag, write := write, addr := addr, data := data, why := why, sentAt := s.tick }
    let l := { l with nextTag := (l.nextTag + 1) % 256 }
    if l.out.length < 16 then { l with out := l.out ++ [m], toSend := l.toSend ++ [m.tag] } else { l with queue := l.queue ++ [m] })

/-- An outstanding message was answered: it gives its place to one that waits. -/
def Lane.answered (l : Lane) (tag tick : Nat) : Lane :=
  let out := l.out.filter (fun m => m.tag != tag)
  let k := 16 - out.length
  { l with out := out ++ (l.queue.take k).map (fun m => { m with sentAt := tick }), queue := l.queue.drop k, toSend := l.toSend ++ (l.queue.take k).map (·.tag) }

/-- Answer the command a control message was sent for. -/
def State.completeCmd (s : State) (c : Cmd) (opcode : Nat) (r : Resp) : State :=
  match s.mgmt.deferred.find? (fun d => d.opcode == opcode && d.cmd == c) with
  | none => s
  | some d =>
    let s := { s with mgmt := { s.mgmt with deferred := s.mgmt.deferred.erase d } }
    s.answerOn d.inBand c opcode r

/-- The messages of a lane are lost with its lock; the commands that wait for one answer FAULT. -/
def State.dropCtl (s : State) (j : Nat) : State :=
  let l := s.lane j
  let s := s.setLane j { l with out := [], queue := [], toSend := [] }
  (l.out ++ l.queue).foldl (fun s m => match m.why with
    | .host c op => s.completeCmd c op (rsp .fault)
    | _ => s) s

/-- The four words of HLK_QUERY (R358). -/
def State.hlkWords (s : State) (j : Nat) : List Nat :=
  [s.fld .HLK_STATUS_state j + 8 * s.fld .HLK_STATUS_cause j + 128 * s.fld .HLK_STATUS_gated j,
   s.fld .HLK_RTT_rtt j + 2 ^ 20 * s.fld .HLK_RTT_rtt_valid j,
   s.fld .HLK_DELAY_d_adv j + 2 ^ 16 * s.fld .HLK_DELAY_u_cal j + 2 ^ 31 * s.fld .HLK_DELAY_d_valid j,
   s.fld .HLK_TRIM_p_target j + 2 ^ 16 * s.fld .HLK_TRIM_p_head j + 2 ^ 26 * s.fld .HLK_TRIM_p_valid j]

/-- The checks every lane command shares (R358). -/
def hlkCmd (s : State) (p j : Nat) (k : State × Option Resp) : State × Option Resp :=
  if 7 < j then refuse s .badArg else if p ≠ 0 then refuse s .denied else k

/-- HLK_QUERY (R358). -/
def opHlkQuery (p j : Nat) (s : State) : State × Option Resp :=
  hlkCmd s p j (s, some ⟨.ok, (s.hlkWords j).flatMap (le 4)⟩)

/-- HLK_HEAD_READ (R358): answered when the head answers. -/
def opHlkHeadRead (c : Cmd) (j addr : Nat) (s : State) : State × Option Resp :=
  hlkCmd s c.pnl j (
    if s.laneState j = hlkAligned ∨ s.laneState j = hlkCalibrating then
      (s.sendCtl j false addr 0 (.host c 0x0802), none)
    else refuse s .badState)

/-- HLK_HEAD_WRITE (R358), an expert command (R74): only the head maker's own registers. -/
def opHlkHeadWrite (c : Cmd) (j addr data : Nat) (s : State) : State × Option Resp :=
  hlkCmd s c.pnl j (
    if s.expertOk c.pnl = false ∨ addr < 0x8000 then refuse s .denied
    else if s.laneState j = hlkAligned then (s.sendCtl j true addr data (.host c 0x0803), none)
    else refuse s .badState)

/-- HLK_QUERY. -/
def execHlkQuery (c : Cmd) (lane : Nat) (s : State) : Host.Outcome State Fault Refusal :=
  .next (ohi s c 0x0801 (opHlkQuery c.pnl lane s))

/-- HLK_HEAD_READ. -/
def execHlkHeadRead (c : Cmd) (lane addr : Nat) (s : State) : Host.Outcome State Fault Refusal :=
  .next (ohi s c 0x0802 (opHlkHeadRead c lane addr s))

/-- HLK_HEAD_WRITE. -/
def execHlkHeadWrite (c : Cmd) (lane addr data : Nat) (s : State) : Host.Outcome State Fault Refusal :=
  .next (ohi s c 0x0803 (opHlkHeadWrite c lane addr data s))

end Sys2Proof.Machine
end

