-- ==== Sys2Proof/Machine/Mains.lean ====
section
/-! DEFINITION. The mains: crossings of the supply and of the gauge, the filtered period and the feeder offsets θ
(R223 to R226, R229). -/

namespace Sys2Proof.Machine

/-- The codes of `src_state`: free-run. -/
def srcFree : Nat := 0
/-- Supply. -/
def srcSupply : Nat := 1
/-- Gauge. -/
def srcGauge : Nat := 2
/-- Holdover. -/
def srcHold : Nat := 3

/-- The source in use. -/
def State.srcInUse (s : State) : Nat := s.fld .HEM_STATUS_src_state 0

/-- A mains interval in range (R224). -/
def goodInterval (n : Nat) : Bool := decide (pMin ≤ n) && decide (n ≤ pMax)

/-- A source's record. -/
def State.source (s : State) (gauge : Bool) : Source := if gauge then s.grid.gauge else s.grid.supply

/-- Store a source's record and show whether it is valid (R224: 8 crossings in a row). -/
def State.setSource (s : State) (gauge : Bool) (r : Source) : State :=
  if gauge then { s with grid := { s.grid with gauge := r } }.setFlag .HEM_STATUS_gauge_valid 0 (decide (8 ≤ r.run))
  else { s with grid := { s.grid with supply := r } }.setFlag .HEM_STATUS_supply_valid 0 (decide (8 ≤ r.run))

/-- The source loses its validity, where it had it (R224). -/
def State.srcLost (s : State) (gauge : Bool) : State :=
  if 8 ≤ (s.source gauge).run then s.bump .HEM_SRC_CNT_src_loss 0 else s

/-- Set Pf and show it. -/
def State.setPf (s : State) (pf : Nat) : State :=
  { s with grid := { s.grid with pf := pf } }.setFld .HEM_FILTER_pf 0 pf

/-- A crossing of a source, its offset applied (R223, R224, R226). One already taken changes nothing. -/
def State.crossing (s : State) (gauge : Bool) (z : Nat) : State :=
  let r := s.source gauge
  if r.last = some z then s else
  let keep (l : List Nat) : List Nat := (z :: l).take 4
  let s := if gauge then { s with grid := { s.grid with gaugeZ := keep s.grid.gaugeZ } }
    else { s with grid := { s.grid with supplyZ := keep s.grid.supplyZ } }
  match r.last with
  | none => s.setSource gauge { run := 1, last := some z }
  | some l =>
    let n := z - l
    if goodInterval n then
      let s := s.setSource gauge { run := r.run + 1, last := some z }
      if s.srcInUse = (if gauge then srcGauge else srcSupply) then
        s.setPf ((s.grid.pf : Int) + roundDiv ((n : Int) - s.grid.pf) 8).toNat
      else s
    else (s.srcLost gauge).setSource gauge { run := 1, last := some z }

/-- The nominal θ of a channel (R229). -/
def State.nominalTheta (s : State) (ch : Nat) : Nat :=
  let m := s.fld .CHN_STATUS_coupling ch
  if m = 3 then 0 else (m + 3 - s.fld .HEM_REF_CFG_ref_line 0) % 3 * 21845

/-- θ takes its nominal value (R229). -/
def State.dropTheta (s : State) (ch : Nat) : State :=
  (s.setFld .CHN_HEM_STATUS_theta ch (s.nominalTheta ch)).setFlag .CHN_HEM_STATUS_theta_valid ch false

/-- A positive-going crossing of a feeder (R229): from the eighth in a row θ is measured and filtered. -/
def State.feederCross (s : State) (ch z : Nat) : State :=
  let c := s.chan ch
  let good := c.crossings ≠ 0 ∧ goodInterval (z - c.lastCross)
  let run := if good then c.crossings + 1 else 1
  let s := s.setChan ch { c with crossings := run, lastCross := z }
  if run < 8 then (if good then s else s.dropTheta ch)
  else
    let th := s.fld .CHN_HEM_STATUS_theta ch
    let m := s.phaseOf z
    let d := signed 16 ((m + 65536 - th) % 65536)
    (s.setFld .CHN_HEM_STATUS_theta ch (unsigned 16 ((th : Int) + roundDiv d 8))).setFlag .CHN_HEM_STATUS_theta_valid ch true

/-- A feeder whose crossings stopped loses its measured θ (R229), after 1.5 × Pf as a source does. -/
def State.feederCheck (s : State) (ch : Nat) : State :=
  let c := s.chan ch
  if c.crossings ≠ 0 ∧ c.lastCross + s.grid.pf * 3 / 2 < s.tick then
    (s.setChan ch { c with crossings := 0 }).dropTheta ch
  else s

/-- MAINS_CROSSING (R223, R224, R226): the supply's crossings take `supply_ofs`, the gauge's are those of chain V of
`ref_chan`. -/
def execMainsCrossing (gauge : Bool) (tick : Nat) (s : State) : Host.Outcome State Fault Refusal :=
  .next (
    let s := { s with tick := max s.tick tick }
    if gauge then s.crossing true tick
    else if s.flag .PWR_STATUS_input_dc 0 then s
    else s.crossing false ((tick : Int) + signed 16 (s.fld .HEM_REF_OFS_supply_ofs 0)).toNat)

/-- SOURCE_TIMEOUT: no crossing within 1.5 × Pf of the last (R224; log 157). -/
def execSourceTimeout (gauge : Bool) (s : State) : Host.Outcome State Fault Refusal :=
  .next (
    match (s.source gauge).last with
    | none => s
    | some l => ((s.reach (l + s.grid.pf * 3 / 2)).srcLost gauge).setSource gauge { s.source gauge with run := 0, last := none })

end Sys2Proof.Machine
end

