-- ==== Sys2Proof/Machine/Gauge.lean ====
section
/-! DEFINITION. Chapter 12, Gauge: intake and normalisation, the decimation chains, excitation, impedance, the test-tone
check, crossings, and the Gauge commands (R359 to R378, R388). -/

namespace Sys2Proof.Machine

/-- Gauge of a channel. -/
def State.gauge (s : State) (ch : Nat) : GauCh := tget {} ch s.gau.chans

/-- Store it. -/
def State.setGauge (s : State) (ch : Nat) (g : GauCh) : State :=
  { s with gau := { s.gau with chans := tput {} ch g s.gau.chans } }

/-- Change it by a function. -/
def State.updGauge (s : State) (ch : Nat) (f : GauCh → GauCh) : State := s.setGauge ch (f (s.gauge ch))

/-- The flag bits of a sample: blk, gap, rc, clip; an output adds uns. -/
def fBlk : Nat := 0
/-- gap. -/
def fGap : Nat := 1
/-- rc. -/
def fRc : Nat := 2
/-- clip. -/
def fClip : Nat := 3
/-- uns. -/
def fUns : Nat := 4

/-- `flags` of an item: `exc_interval`, `flt_to_chn`, `sense_to_chn` are bits 1, 4 and 5 (R378). -/
def GaugeItem.flag (i : GaugeItem) (b : Nat) : Bool := bit i.flags b
/-- cs of chains I and Q. -/
def GaugeItem.csIq (i : GaugeItem) : Nat := i.scale % 4
/-- cs of chain V. -/
def GaugeItem.csV (i : GaugeItem) : Nat := i.scale / 16 % 4
/-- N of chains I and Q. -/
def GaugeItem.nIq (i : GaugeItem) : Nat := 3 + i.nm % 4
/-- M of chains I and Q. -/
def GaugeItem.mIq (i : GaugeItem) : Nat := 1 + i.nm / 4 % 2
/-- N of chain V. -/
def GaugeItem.nV (i : GaugeItem) : Nat := 3 + i.nm / 16 % 4
/-- M of chain V. -/
def GaugeItem.mV (i : GaugeItem) : Nat := 1 + i.nm / 64 % 2
/-- The `SLOT_GAUGE` word of an item (R357, R361). -/
def GaugeItem.slotWord (i : GaugeItem) (ref : Bool) : Nat := i.ranges % 128 + 256 * b2n ref

/-- A rational held to 32 bits signed: where it does not fit the spec states no value (log 3). -/
def State.fit32 (s : State) (v : Int) : Nat × State :=
  if -2147483648 ≤ v ∧ v ≤ 2147483647 then (unsigned 32 v, s)
  else
    let (f, s) := s.drawFree
    (f % 2 ^ 32, s)

/-- Normalisation (R360): range code r, chain scale cs; value and whether it is clipped. -/
def normalise (sample : Int) (r cs : Nat) (gclip : Bool) : Int × Bool :=
  let e : Int := 3 + 2 * cs - 2 * r
  let x := if 0 ≤ e then sample * 2 ^ e.toNat else roundDiv sample (2 ^ (-e).toNat)
  let y := clampInt (-262144) 262143 x
  (y, y != x || gclip)

/-- A BLANK input counts as asserted at a tick (R376). -/
def State.blankAt (s : State) (i t : Nat) : Bool :=
  (tget {} i s.gau.blanks).spans.any (fun e => decide (e.1 ≤ t) && (match e.2 with
    | none => true
    | some f => decide (t < f + s.pat.gauge.blankExt * 200)))

/-- One of the BLANK inputs of a mask is asserted at a tick. -/
def State.blankMaskAt (s : State) (mask t : Nat) : Bool := (List.range 4).any (fun i => bit mask i && s.blankAt i t)

/-- The gauge inputs of a period are blanked (R376). -/
def State.gaugeBlanked (s : State) (ch p : Nat) : Bool :=
  let m := (s.gauge ch).item.blankPause
  let t := 128 * p
  let ext := s.pat.gauge.blankExt * 200
  s.blankMaskAt m t || (bit m 4 && s.rampAt ch t ext)
    || (bit m 5 && (List.range 24).any (fun i => s.rampAt (24 * headOf ch + i) t ext))

/-- The NCO driving a channel's DAC in a period. -/
def GauCh.ncoAt (g : GauCh) (p : Nat) : Option Nco := g.ncos.find? (fun n => decide (n.from_ ≤ p))

/-- An NCO's phase in a period (R366). -/
def Nco.phaseAt (n : Nco) (p : Nat) : Nat := (n.phase + (p - n.from_) * n.ftw) % 2 ^ 32

/-- round(32,767 × cos) and round(32,767 × sin) of a phase (R362). -/
def ncoCs (phase : Nat) : Int × Int :=
  let z := Config.expTurn ((phase : Rat) / 4294967296)
  (roundRat (32767 * z.re), roundRat (32767 * z.im))

/-- The excitation sample of a period (R366, R372): 0 where no NCO drives the DAC. -/
def GauCh.dac (g : GauCh) (p : Nat) : Int :=
  match g.ncoAt p with
  | some n => if n.who = 0 then 0 else
      roundRat ((n.amp : Rat) * (Config.expTurn ((n.phaseAt p : Rat) / 4294967296)).re)
  | none => 0

/-- Integrators of a chain on an input, modulo 2^84 (R363). -/
def integrate (m : Int) : List Nat → List Nat
  | [] => []
  | i :: t =>
    let v := (i + unsigned 84 m) % 2 ^ 84
    v :: integrate (v : Int) t

/-- A chain of order N before its first input. -/
def Chain.fresh (n m : Nat) : Chain :=
  { ints := List.replicate n 0, combs := List.replicate n (List.replicate m 0) }

/-- A chain takes an input of a period (R363, R365): every D-th input gives a word to the combs. -/
def Chain.feed (c : Chain) (N D M : Nat) (x : Int) (flags p : Nat) : Chain :=
  let c := if c.ints = [] then { Chain.fresh N M with unsUntil := c.unsUntil, last := c.last, lastFlags := c.lastFlags } else c
  let ints := integrate x c.ints
  let n := c.n + 1
  let lf := (List.range 4).map (fun f => if bit flags f then n else c.lastFlag.getD f 0)
  let out := (List.range 4).foldl (fun a f => if lf.getD f 0 ≠ 0 ∧ n < lf.getD f 0 + N * D * M then a + 2 ^ f else a) 0
  let out := if n ≤ c.unsUntil then out + 16 else out
  { c with ints := ints, n := n, lastFlag := lf
           ready := if n % D = 0 then c.ready ++ [(ints.getLastD 0, out, p)] else c.ready }

/-- The combs on a word (R363), oldest delayed word first. -/
def comb : List (List Nat) → Nat → Nat × List (List Nat)
  | [], w => (w, [])
  | l :: t, w =>
    let (r, t') := comb t ((w + 2 ^ 84 - l.headD 0) % 2 ^ 84)
    (r, (l.drop 1 ++ [w]) :: t')

/-- S of R363: ceil(N × log2(D × M)), the least S with 2^S ≥ (D × M)^N. -/
def chainS (N D M : Nat) : Nat :=
  let g := (D * M) ^ N
  if 2 ^ Nat.log2 g = g then Nat.log2 g else Nat.log2 g + 1

/-- The gain G of a chain (R363). -/
def chainGain (N D M : Nat) : Rat := (((D * M) ^ N * 2 ^ 13 : Nat) : Rat) / ((2 ^ chainS N D M : Nat) : Rat)

/-- A chain produces its next output (R363): the value, its flags and the period of its last input. -/
def Chain.output (c : Chain) (N D M : Nat) : Option Chain :=
  match c.ready with
  | [] => none
  | (w, flags, p) :: t =>
    let (r, combs) := comb c.combs w
    some { c with ready := t, combs := combs, outN := c.outN + 1, lastFlags := flags, lastPeriod := p
                  last := roundDiv (signed 84 r * 2 ^ 13) (2 ^ chainS N D M) }

/-- An excitation switch on a chain (R368) at the input about to come. -/
def Chain.switch (c : Chain) (restart : Bool) (N D M : Nat) : Chain :=
  if restart then { Chain.fresh N M with unsUntil := N * D * M }
  else { c with unsUntil := c.n + N * D * M - 1 }

/-- The excitation switches due by a period take effect on chains I and Q (R367, R368). -/
def State.applySwitches (s : State) (ch p : Nat) : State :=
  let g := s.gauge ch
  if g.switches.any (fun q => decide (q ≤ p)) then
    let i := g.item
    let r := s.flag .GAU_CH_CFG_exc_restart ch
    let sw (c : Chain) : Chain := c.switch r i.nIq i.dIq i.mIq
    (s.setGauge ch { g with chainI := sw g.chainI, chainQ := sw g.chainQ
                            switches := g.switches.filter (fun q => decide (p < q)) }).setFlag .GAU_CH_STATUS_uns ch true
  else s

/-- An input of a path enters its chains (R362). -/
def State.chainIn (s : State) (ch path p : Nat) (x : GaugeIn) : State :=
  let s := if path = 0 then s.applySwitches ch p else s
  let g := s.gauge ch
  let i := g.item
  if path = 1 then s.setGauge ch { g with chainV := g.chainV.feed i.nV i.dV i.mV x.x x.flags p }
  else
    let (c, sn) := ncoCs (((g.ncoAt p).map (fun n => n.phaseAt p)).getD 0)
    s.setGauge ch { g with
      chainI := g.chainI.feed i.nIq i.dIq i.mIq (roundDiv (x.x * c) 32768) x.flags p
      chainQ := g.chainQ.feed i.nIq i.dIq i.mIq (roundDiv (-x.x * sn) 32768) x.flags p }

/-- The leading run of `rc` samples of a delay line. -/
def rcRun (l : List GaugeIn) : Nat := (l.takeWhile (fun x => bit x.flags fRc)).length

/-- Replace a run of `rc` samples by linear interpolation (R361): between the sample before the run and the first after it,
where the run is of 1 to 8 samples, none clipped. -/
def interpolate (left : Int) (l : List GaugeIn) : List GaugeIn :=
  let n := rcRun l
  if n = 0 ∨ 8 < n ∨ l.length ≤ n ∨ (l.take n).any (fun x => bit x.flags fClip) then l
  else
    let right := (l.getD n {}).x
    ((l.take n).zipIdx.map (fun (e : GaugeIn × Nat) =>
      { e.1 with x := left + roundDiv ((right - left) * ((e.2 : Int) + 1)) (n + 1) })) ++ l.drop n

/-- An input leaves the `rc_mode` stage (R361) in order: at once with mode 0, 8 periods late with mode 1. -/
def State.rcStage (s : State) (ch path p : Nat) (x : GaugeIn) : State :=
  let g := s.gauge ch
  let line := g.delay.getD path []
  if s.flag .GAU_CH_CFG_rc_mode ch then
    let line := line ++ [x]
    if line.length < 9 then s.setGauge ch { g with delay := g.delay.set path line }
    else
      let prev := g.lastOut.getD path {}
      let line := if bit prev.flags fRc then line else interpolate prev.x line
      let y := line.headD {}
      let s := s.setGauge ch { g with delay := g.delay.set path (line.drop 1), lastOut := g.lastOut.set path y }
      s.chainIn ch path (p - 8) y
  else
    let s := s.setGauge ch { g with delay := g.delay.set path [], lastOut := g.lastOut.set path x }
    let s := (line.zipIdx).foldl (fun s (e : GaugeIn × Nat) => s.chainIn ch path (p - line.length + e.2) e.1) s
    s.chainIn ch path p x

/-- The input of a path for its period, blanked where R376 says so: then the previous normalised input, flagged. -/
def State.takeInput (s : State) (ch path p : Nat) (x : GaugeIn) : State :=
  let g := s.gauge ch
  let prev := g.prev.getD path {}
  let x := if s.gaugeBlanked ch p then { x with x := prev.x, flags := setBit x.flags fBlk true } else x
  let s := s.setGauge ch { g with prev := g.prev.set path x, next := g.next.set path (some (p + 1)) }
  s.rcStage ch path p x

/-- Take the samples of a path that wait for their turn. -/
def State.drainInputs : Nat → Nat → Nat → State → State
  | 0, _, _, s => s
  | fuel + 1, ch, path, s =>
    let g := s.gauge ch
    match g.next.getD path none with
    | none => s
    | some p => match g.wait.find? (fun e => e.1 == path && e.2.1 == p) with
      | none => s
      | some e =>
        let s := s.setGauge ch { g with wait := g.wait.erase e }
        (s.takeInput ch path p e.2.2).drainInputs fuel ch path

/-- An upstream gauge word for a channel (R359, R360): `last` is the last tick its frame carries. -/
def State.gaugeWord (s : State) (ch path tag range : Nat) (rc gclip : Bool) (sample : Int) (last : Nat) : State :=
  let q := last / 128
  let p := q - (q + 8 - tag) % 8
  if (q + 8 - tag) % 8 ≤ q ∧ last ≤ 128 * p + 169 then
    let s := s.setFld (if path = 0 then Fld.GAU_CH_STATUS_range0 else Fld.GAU_CH_STATUS_range1) ch range
    let s := if rc then (s.bumpWrap .GAU_CH_CNT_rc_cnt ch).updChan ch (fun c => { c with rangeSlot := some s.grid.slot }) else s
    let g := s.gauge ch
    let cs := if path = 0 then g.item.csIq else g.item.csV
    let (x, clip) := normalise sample range cs gclip
    let inp : GaugeIn := ⟨x, 4 * b2n rc + 8 * b2n clip⟩
    let nxt := (g.next.getD path none).getD p
    if p < nxt ∨ g.wait.any (fun e => e.1 == path && e.2.1 == p) then s
    else
      let s := s.setGauge ch { g with next := g.next.set path (some nxt), wait := g.wait ++ [(path, p, inp)] }
      s.drainInputs 32 ch path
  else s

/-- GAUGE_SAMPLE_DEADLINE: the sample of a period did not come (R359): the previous normalised input, flagged `gap`. -/
def execGaugeSampleDeadline (ch path period : Nat) (s : State) : Host.Outcome State Fault Refusal :=
  .next (
    let g := s.gauge ch
    if 1 < path ∨ g.next.getD path none ≠ some period ∨ s.flag .GAU_CH_STATUS_no_gauge ch then s
    else
      let s := (s.reach (128 * period + 170)).bump .GAU_CH_CNT_gap_cnt ch
      let prev := (s.gauge ch).prev.getD path {}
      (s.takeInput ch path period ⟨prev.x, 2⟩).drainInputs 32 ch path)

/-- The first gauge period after now (R367). -/
def State.nextPeriod (s : State) : Nat := s.tick / 128 + 1

/-- An NCO takes a channel's DAC, or none does, from the next period, which is an excitation switch (R367). -/
def State.switchNco (s : State) (ch who phase ftw amp : Nat) : State :=
  let n : Nco := ⟨s.nextPeriod, who, phase, ftw, amp⟩
  (s.updGauge ch (fun g => { g with ncos := (n :: g.ncos).take 8, switches := g.switches ++ [n.from_] })).setFlag
    .GAU_CH_STATUS_z_valid ch false

/-- The gauge states (R374). -/
def gIdle : Nat := 0
/-- EXCITING. -/
def gExciting : Nat := 1
/-- CHECKING. -/
def gChecking : Nat := 2

/-- A channel's gauge state. -/
def State.gState (s : State) (ch : Nat) : Nat := s.fld .GAU_CH_STATUS_g_state ch

/-- Enter IDLE: the DAC sends 0. -/
def State.gaugeIdle (s : State) (ch : Nat) : State := (s.setFld .GAU_CH_STATUS_g_state ch gIdle).switchNco ch 0 0 0 0

/-- Enter EXCITING: φ starts at 0 (R366). -/
def State.gaugeExcite (s : State) (ch : Nat) : State :=
  (s.setFld .GAU_CH_STATUS_g_state ch gExciting).switchNco ch 1 0 (s.fld .GAU_CH_FTW_ftw ch) (s.fld .GAU_CH_CFG_amp ch)

/-- The excitation is due (R367). -/
def State.excDue (s : State) (ch : Nat) : Bool :=
  let g := s.gauge ch
  s.flag .GAU_CH_CFG_exc_on ch && (!g.item.flag 1 || g.excDue) && s.laneAligned (headOf ch)

/-- A check is abandoned (R372, R374): counted, `ref_sel` 0 written while the lane is up. -/
def State.abandonCheck (s : State) (ch : Nat) : State :=
  let s := s.bump .GAU_CH_CNT_chk_skip ch
  let s := if s.laneAligned (headOf ch) then
      s.sendCtl (headOf ch) true (slotReg ch 8) ((s.gauge ch).item.slotWord false) (.gauge ch) else s
  (s.updGauge ch (fun g => { g with chkRef := false, chkCal := false, chkZ := [], chkOuts := 0 })).gaugeIdle ch

/-- Bring a channel's gauge state to what R367 and R374 ask. -/
def State.gaugeUpdate (s : State) (ch : Nat) : State :=
  if s.excDue ch then
    if s.gState ch = gExciting then s
    else if s.gState ch = gChecking then (s.abandonCheck ch).gaugeExcite ch else s.gaugeExcite ch
  else if s.gState ch = gExciting then s.gaugeIdle ch else s

/-- A change of `ftw` or `amp` while EXCITING is an excitation switch, phase-continuous (R366, R367). -/
def State.gaugeRetune (s : State) (ch : Nat) : State :=
  if s.gState ch = gExciting then
    let ph := (((s.gauge ch).ncoAt s.nextPeriod).map (fun n => n.phaseAt s.nextPeriod)).getD 0
    s.switchNco ch 1 ph (s.fld .GAU_CH_FTW_ftw ch) (s.fld .GAU_CH_CFG_amp ch)
  else s

/-- The time from `base` on that recurs every `every` ticks (`first` the first one) and is handled next: the latest one past,
unless that is `done`, else the one to come. -/
def dueNext (first every done tick : Nat) : Nat :=
  if tick < first then first
  else
    let m := first + (tick - first) / max every 1 * every
    if done < m then m else m + every

/-- The start of the interval EXCITATION_INTERVAL begins (R367): the multiple of `exc_period` s after the seal that has come
and began none, while its `exc_len` ms last, or else the next one. -/
def State.excStart (s : State) (ch : Nat) : Nat :=
  let g := s.gauge ch
  let e := g.item.excPeriod * 200000000
  let m := dueNext (s.gau.sealTick + e) e g.excFrom s.tick
  if s.tick < m + msTicks g.item.excLen then m else m + e

/-- EXCITATION_INTERVAL: an interval of R367 starts, at the next time it does, or the one in progress ends, at its end. -/
def execExcitationInterval (ch : Nat) (start : Bool) (s : State) : Host.Outcome State Fault Refusal :=
  .next (
    let g := s.gauge ch
    if g.item.flag 1 = false ∨ g.excDue = start then s
    else
      let t := if start then s.excStart ch else g.excFrom + msTicks g.item.excLen
      ((s.reach t).updGauge ch (fun g => { g with excDue := start, excFrom := if start then t else g.excFrom })).gaugeUpdate ch)

/-- A check starts from IDLE (R371, R372): `ref_sel` 1 is written. -/
def State.startCheck (s : State) (ch : Nat) (cal : Bool) : State :=
  let s := s.setFld .GAU_CH_STATUS_g_state ch gChecking
  let s := s.updGauge ch (fun g => { g with chkRef := false, chkCal := cal, chkZ := [], chkOuts := 0 })
  (s.switchNco ch 0 0 0 0).sendCtl (headOf ch) true (slotReg ch 8) ((s.gauge ch).item.slotWord true) (.check ch)

/-- The head acknowledged `ref_sel` 1: the check NCO drives the DAC from the next period (R372). -/
def State.checkDrive (s : State) (ch : Nat) : State :=
  let i := (s.gauge ch).item
  if s.gState ch = gChecking ∧ (s.gauge ch).chkRef = false then
    (s.updGauge ch (fun g => { g with chkRef := true })).switchNco ch 2 0 i.chkFtw i.chkAmp
  else s

/-- When a channel's next scheduled check falls due (R371): every `chk_interval` s after the seal, `exc_period` / 2 s later in
interval mode. -/
def State.checkTime (s : State) (ch : Nat) : Nat :=
  let g := s.gauge ch
  let e := g.item.chkInterval * 200000000
  dueNext (s.gau.sealTick + e + (if g.item.flag 1 then g.item.excPeriod * 100000000 else 0)) e g.chkAt s.tick

/-- CHECK_DUE: the next scheduled check falls due (R371). -/
def execCheckDue (ch : Nat) (s : State) : Host.Outcome State Fault Refusal :=
  .next (
    if (s.gauge ch).item.chkInterval = 0 ∨ s.laneAligned (headOf ch) = false ∨ s.flag .GAU_CH_STATUS_no_gauge ch then s
    else
      let t := s.checkTime ch
      let s := (s.reach t).updGauge ch (fun g => { g with chkAt := t })
      if s.gState ch = gExciting then s.bump .GAU_CH_CNT_chk_skip ch
      else if s.gState ch = gIdle then s.startCheck ch false else s)

/-- K of a channel (R369), signed Q16. -/
def State.gaugeK (s : State) (ch : Nat) : Cx :=
  ⟨((signed 32 (s.fld .GAU_CH_K_k (2 * ch)) : Int) : Rat) / 65536,
   ((signed 32 (s.fld .GAU_CH_K_k (2 * ch + 1)) : Int) : Rat) / 65536⟩

/-- Z of an output pair (R369); for Y = 0 the spec states none (log 3). -/
def State.impedance (s : State) (ch amp : Nat) (oI oQ : Int) : Cx × State :=
  let i := (s.gauge ch).item
  let g := chainGain i.nIq i.dIq i.mIq
  let y : Cx := ⟨(oI : Rat) / g, (oQ : Rat) / g⟩
  if oI = 0 ∧ oQ = 0 then
    let (a, s) := s.drawFree
    let (b, s) := s.drawFree
    (⟨((a : Nat) : Rat), ((b : Nat) : Rat)⟩, s)
  else ((Cx.scale ((amp * 2 ^ (2 + 2 * i.csIq) : Nat) : Rat) (s.gaugeK ch)).div y, s)

/-- round(√q) of a square. -/
def rootRound (q : Rat) : Nat := (Nat.sqrt (4 * q).floor.toNat + 1) / 2

/-- The gauge takes a channel to FAULT with cause 0x4 (R370, R373). -/
def State.gaugeFault (s : State) (ch : Nat) : State :=
  if s.effState ch = chOff ∨ s.effState ch = chFault ∨ (s.chanItem ch).isNone then s else s.requestState ch chFault 4

/-- An impedance value is evaluated (R370). -/
def State.evalZ (s : State) (ch : Nat) (z : Cx) : State :=
  if s.flag .GAU_CH_STATUS_sense_fault ch then s
  else
    let g := s.gauge ch
    let i := g.item
    let m := z.abs2
    let bad := m < ((i.zMin * i.zMin : Nat) : Rat) ∨ ((i.zMax * i.zMax : Nat) : Rat) < m
    let b := if bad then g.badRun + 1 else 0
    let k := if bad then 0 else g.goodRun + 1
    let s := s.setGauge ch { g with badRun := b, goodRun := k }
    if s.flag .GAU_CH_STATUS_cpl_fault ch then
      if i.fltN ≤ k then s.setFlag .GAU_CH_STATUS_cpl_fault ch false else s
    else if i.fltN ≤ b then
      let s := (s.setFlag .GAU_CH_STATUS_cpl_fault ch true).log 0x3801 (s.evOwner ch) ch (rootRound m)
      if i.flag 4 then s.gaugeFault ch else s
    else s

/-- Z_ref of a check (R372); with a reference capacitance of 0 the spec states none (log 3). -/
def State.zRef (s : State) (ch : Nat) : Cx × State :=
  let (r, c) := tget (0, 0) ch s.hlk.slotRef
  let ft : Rat := (((s.gauge ch).item.chkFtw : Nat) : Rat) * 1562500 / 4294967296
  if c = 0 then
    let (f, s) := s.drawFree
    (⟨(r : Rat) / 10, -((f : Nat) : Rat)⟩, s)
  else (⟨(r : Rat) / 10, -(1 / (Config.twoPi * ft * ((c : Rat) / 10000000000)))⟩, s)

/-- A check ends (R372 to R374): `ref_sel` 0 is written and the state becomes IDLE. -/
def State.endCheck (s : State) (ch : Nat) : State :=
  let s := s.sendCtl (headOf ch) true (slotReg ch 8) ((s.gauge ch).item.slotWord false) (.gauge ch)
  ((s.updGauge ch (fun g => { g with chkRef := false, chkCal := false, chkZ := [], chkOuts := 0 })).gaugeIdle ch).gaugeUpdate ch

/-- A check passes (R373). -/
def State.checkPass (s : State) (ch : Nat) : State :=
  (s.updGauge ch (fun g => { g with chkFails := 0 })).setFlag .GAU_CH_STATUS_sense_fault ch false

/-- A check fails (R373). -/
def State.checkFail (s : State) (ch : Nat) (z : Cx) : State :=
  let g := s.gauge ch
  let s := (s.setGauge ch { g with chkFails := g.chkFails + 1 }).bump .GAU_CH_CNT_chk_fail ch
  if 2 ≤ g.chkFails + 1 ∧ s.flag .GAU_CH_STATUS_sense_fault ch = false then
    let s := (s.setFlag .GAU_CH_STATUS_sense_fault ch true).log 0x3802 (s.evOwner ch) ch (rootRound z.abs2)
    if g.item.flag 5 then s.gaugeFault ch else s
  else s

/-- 16 clean outputs were averaged (R372, R373). -/
def State.checkDone (s : State) (ch : Nat) : State :=
  let g := s.gauge ch
  let z := Cx.scale (1 / 16) (Cx.sum g.chkZ)
  let (zr, s) := s.zRef ch
  if g.chkCal then
    let k := ((s.gaugeK ch).mul zr).div z
    let (a, s) := s.fit32 (roundRat (k.re * 65536))
    let (b, s) := s.fit32 (roundRat (k.im * 65536))
    (((s.setFld .GAU_CH_K_k (2 * ch) a).setFld .GAU_CH_K_k (2 * ch + 1) b).checkPass ch).endCheck ch
  else if (z.sub zr).abs2 * 10000 ≤ ((g.item.chkTol * g.item.chkTol : Nat) : Rat) * zr.abs2 then (s.checkPass ch).endCheck ch
  else (s.checkFail ch z).endCheck ch

/-- An output pair of chains I and Q (R369 to R372). -/
def State.iqOutput (s : State) (ch : Nat) : State :=
  let g := s.gauge ch
  let flags := g.chainI.lastFlags ||| g.chainQ.lastFlags
  let s := s.setFlag .GAU_CH_STATUS_uns ch (bit flags fUns)
  if s.gState ch = gExciting then
    if flags ≠ 0 then s
    else
      let amp := ((g.ncoAt g.chainI.lastPeriod).map (·.amp)).getD 0
      let (z, s) := s.impedance ch amp g.chainI.last g.chainQ.last
      let (a, s) := s.fit32 (roundRat (z.re * 256))
      let (b, s) := s.fit32 (roundRat (z.im * 256))
      let s := ((s.setFld .GAU_CH_Z_z (2 * ch) a).setFld .GAU_CH_Z_z (2 * ch + 1) b).setFlag .GAU_CH_STATUS_z_valid ch true
      s.evalZ ch z
  else if s.gState ch = gChecking then
    let n := g.chkOuts + 1
    let s := s.setGauge ch { g with chkOuts := n }
    let s := if flags ≠ 0 ∨ g.chkRef = false then s else
      let (z, s) := s.impedance ch g.item.chkAmp g.chainI.last g.chainQ.last
      s.updGauge ch (fun g => { g with chkZ := g.chkZ ++ [z] })
    if 16 ≤ (s.gauge ch).chkZ.length then s.checkDone ch
    else if 4 * (g.item.nIq * g.item.mIq + 16) ≤ n then (s.abandonCheck ch).gaugeUpdate ch else s
  else s

/-- The DC blocker on an output of chain V (R364): y and the new estimate; `prev` is the output before. -/
def dcBlock (k : Nat) (frozen : Bool) (h : Rat) (prev o : Int) : Rat × Rat :=
  let a : Rat := 1 - 1 / ((2 ^ k : Nat) : Rat)
  let h := if frozen then h else (1 - a) * (prev : Rat) + a * h
  ((o : Rat) - h, h)

/-- A positive-going crossing accepted between two outputs (R375): its tick. -/
def crossTick (i : GaugeItem) (t : Nat) (y0 y1 : Rat) : Int :=
  roundRat ((((t * 128 : Nat) : Rat)) + 128 * (i.dV : Rat) * (-y0) / (y1 - y0))
    - 64 * (i.nV * (i.dV * i.mV - 1) : Nat) - 8 * signed 16 i.vOfs

/-- A crossing of a feeder was accepted: it feeds θ, and the gauge source where the channel is `ref_chan` (R375). -/
def State.gaugeCross (s : State) (ch : Nat) (z : Int) : State :=
  let s := s.feederCross ch z.toNat
  if s.fld .HEM_REF_CFG_ref_chan 0 = ch then s.crossing true z.toNat else s

/-- An output of chain V (R364, R375). `o0` and `p0` are the output before it and its last period. -/
def State.vOutput (s : State) (ch : Nat) (o0 : Int) (p0 : Nat) : State :=
  let g := s.gauge ch
  let i := g.item
  let fl := g.chainV.lastFlags
  let frozen := s.flag .GAU_CH_CFG_dcb_freeze ch || bit fl fBlk || bit fl fGap
  let (y, h) := dcBlock i.dcbK frozen g.dcH o0 g.chainV.last
  let low : Rat := -((i.vHyst * 2 ^ (3 + 2 * i.csV) : Nat) : Rat) * chainGain i.nV i.dV i.mV
  let dirty (f : Nat) : Bool := bit f fUns || bit f fBlk || bit f fGap
  let armed := g.armedLow || decide (y ≤ low)
  let hit := decide (g.yPrev < 0) && decide (0 ≤ y) && g.armedLow && !dirty fl && !dirty g.flagsPrev
  let s := s.setGauge ch { g with dcH := h, yPrev := y, flagsPrev := fl, armedLow := armed && !hit }
  if hit then s.gaugeCross ch (crossTick i p0 g.yPrev y) else s

/-- CHAIN_OUTPUT: chain 0 (I), 1 (Q) or 2 (V) of a channel produces an output (R363 to R375). -/
def execChainOutput (ch chain : Nat) (s : State) : Host.Outcome State Fault Refusal :=
  .next (
    let g := s.gauge ch
    let i := g.item
    match chain with
    | 0 => match g.chainI.output i.nIq i.dIq i.mIq with
      | none => s
      | some c =>
        let s := s.setGauge ch { g with chainI := c }
        if c.outN = g.chainQ.outN then s.iqOutput ch else s
    | 1 => match g.chainQ.output i.nIq i.dIq i.mIq with
      | none => s
      | some c =>
        let s := s.setGauge ch { g with chainQ := c }
        if c.outN = g.chainI.outN then s.iqOutput ch else s
    | 2 => match g.chainV.output i.nV i.dV i.mV with
      | none => s
      | some c => (s.setGauge ch { g with chainV := c }).vOutput ch g.chainV.last g.chainV.lastPeriod
    | _ => s)

/-- The lane of a channel is lost (R372, R374): EXCITING ends, a check is abandoned. -/
def State.gaugeLaneLost (s : State) (ch : Nat) : State :=
  if s.gState ch = gChecking then s.abandonCheck ch
  else if s.gState ch = gExciting then s.gaugeIdle ch else s

/-- The lane of a channel enters ALIGNED (R361, R363, R367): the range modes are written, the chains start afresh. -/
def State.gaugeLaneUp (s : State) (ch : Nat) : State :=
  let g := s.gauge ch
  let i := g.item
  let s := s.setGauge ch { g with
    next := [some s.nextPeriod, some s.nextPeriod], wait := [], prev := [{}, {}], delay := [[], []], lastOut := [{}, {}]
    chainI := Chain.fresh i.nIq i.mIq, chainQ := Chain.fresh i.nIq i.mIq, chainV := Chain.fresh i.nV i.mV
    dcH := 0, yPrev := 0, flagsPrev := 0, armedLow := false }
  let s := s.sendCtl (headOf ch) true (slotReg ch 8) (i.slotWord false) (.gauge ch)
  ((s.updGauge ch (fun g => { g with switches := g.switches ++ [s.nextPeriod] })).setFlag .GAU_CH_STATUS_z_valid ch
    false).gaugeUpdate ch

/-- The checks every Gauge command shares (R388). -/
def gauCmd (s : State) (p ch : Nat) (k : State × Option Resp) : State × Option Resp :=
  if 191 < ch then refuse s .badArg
  else if s.mayName p ch = false then refuse s .denied
  else if s.laneAligned (headOf ch) = false ∨ s.flag .GAU_CH_STATUS_no_gauge ch then refuse s .notPresent
  else k

/-- `GAU_CH_STATUS` (R388). -/
def State.gauStatusWord (s : State) (ch : Nat) : Nat :=
  s.fld .GAU_CH_STATUS_g_state ch + 4 * s.fld .GAU_CH_STATUS_cpl_fault ch + 8 * s.fld .GAU_CH_STATUS_sense_fault ch
    + 16 * s.fld .GAU_CH_STATUS_uns ch + 32 * s.fld .GAU_CH_STATUS_no_gauge ch + 256 * s.fld .GAU_CH_STATUS_range0 ch
    + 1024 * s.fld .GAU_CH_STATUS_range1 ch + 65536 * s.fld .GAU_CH_STATUS_z_valid ch

/-- GAU_QUERY (R388). -/
def opGauQuery (p ch : Nat) (s : State) : State × Option Resp :=
  gauCmd s p ch (s, some ⟨.ok, [s.gauStatusWord ch, s.fld .GAU_CH_Z_z (2 * ch), s.fld .GAU_CH_Z_z (2 * ch + 1)].flatMap (le 4)⟩)

/-- GAU_CHECK (R371, R388). -/
def opGauCheck (p ch : Nat) (s : State) : State × Option Resp :=
  gauCmd s p ch (
    if s.gState ch = gExciting then refuse s .badState
    else if s.gState ch = gChecking then (s, some (rsp .ok)) else (s.startCheck ch false, some (rsp .ok)))

/-- GAU_CALIBRATE (R371, R373, R388). -/
def opGauCalibrate (p ch : Nat) (s : State) : State × Option Resp :=
  gauCmd s p ch (
    if s.gState ch = gExciting then refuse s .badState
    else if s.gState ch = gChecking then (s.updGauge ch (fun g => { g with chkCal := true }), some (rsp .ok))
    else (s.startCheck ch true, some (rsp .ok)))

/-- GAU_EXCITE (R367, R388): 0 off, 1 on. -/
def opGauExcite (p ch : Nat) (args : List Nat) (s : State) : State × Option Resp :=
  let v := args.headD 2
  if 1 < v ∨ args.length ≠ 1 then refuse s .badArg
  else gauCmd s p ch (
    if s.gState ch = gChecking then refuse s .badState
    else ((s.setFld .GAU_CH_CFG_exc_on ch v).gaugeUpdate ch, some (rsp .ok)))

/-- GAU_QUERY. -/
def execGauQuery (c : Cmd) (ch : Nat) (s : State) : Host.Outcome State Fault Refusal :=
  .next (ohi s c 0x3801 (opGauQuery c.pnl ch s))

/-- GAU_CHECK. -/
def execGauCheck (c : Cmd) (ch : Nat) (s : State) : Host.Outcome State Fault Refusal :=
  .next (ohi s c 0x3802 (opGauCheck c.pnl ch s))

/-- GAU_CALIBRATE takes no further argument. -/
def execGauCalibrate (c : Cmd) (ch : Nat) (args : List Nat) (s : State) : Host.Outcome State Fault Refusal :=
  .next (ohi s c 0x3803 (if args = [] then opGauCalibrate c.pnl ch s else refuse s .badArg))

/-- GAU_EXCITE. -/
def execGauExcite (c : Cmd) (ch : Nat) (args : List Nat) (s : State) : Host.Outcome State Fault Refusal :=
  .next (ohi s c 0x3804 (opGauExcite c.pnl ch args s))

end Sys2Proof.Machine
end

