-- ==== Sys2Proof/Machine/Cast.lean ====
section
/-! DEFINITION. Chapter 12, Cast: the BLANK inputs, the ring, wavefront arrivals, freeze regions and their export, and the
Cast commands (R181, R376, R379 to R389, R544). -/

namespace Sys2Proof.Machine

/-- Cast records (R379). -/
def State.castOn (s : State) : Bool := s.flag .SRG_STATUS_on 0

/-- The channels recorded. -/
def State.castChans (s : State) : List Nat := (List.range 192).filter (bit s.pat.cast.chans)

/-- A channel is recorded. -/
def State.castRecords (s : State) (ch : Nat) : Bool := s.castOn && bit s.pat.cast.chans ch

/-- The detector item of a channel, or its defaults (R387). -/
def State.castItem (s : State) (ch : Nat) : CastItem :=
  (s.pat.cast.items.find? (fun i => i.channel == ch)).getD { channel := ch }

/-- Samples of a block (R379). -/
def castLen : Nat := 32768

/-- B of R379. -/
def castBlocks (ringGib n : Nat) : Nat := if n = 0 then 0 else ringGib * 2 ^ 30 / (n * 65552)

/-- The key of a block. -/
def blockKey (ch i : Nat) : Nat := ch * 16777216 + i

/-- A freeze region. -/
def State.region (s : State) (r : Nat) : Region := tget {} r s.gau.regions

/-- The codes of a region's state. -/
def RegionSt.code : RegionSt → Nat
  | .free => 0 | .collecting => 1 | .held => 2 | .exporting => 3

/-- A region that is not FREE holds a block (R383). -/
def regionHolds (g : Region) (b : CastBlock) : Bool :=
  g.st != .free && g.era == b.era && decide (b.first ≤ g.stop) && decide (g.start < b.first + castLen)

/-- Some region holds a block. -/
def State.blockHeld (s : State) (b : CastBlock) : Bool := s.gau.regions.any (fun e => regionHolds e.2 b)

/-- The blocks of a channel a region holds, in tick order. -/
def State.heldBlocks (s : State) (g : Region) (ch : Nat) : List CastBlock :=
  let mine := s.gau.blocks.filter (fun (e : Nat × CastBlock) => e.1 / 16777216 == ch && regionHolds g e.2)
  (mine.map (fun (e : Nat × CastBlock) => e.2)).mergeSort (fun a b => decide (a.first ≤ b.first))

/-- Show a region and the count of FREE ones. -/
def State.showRegion (s : State) (r : Nat) : State :=
  let g := s.region r
  let gap := s.gau.blocks.any (fun e => e.2.gap && regionHolds g e.2)
  let s := (((s.setFld .SRG_REGION_state r g.st.code).setFlag .SRG_REGION_short r g.short).setFlag .SRG_REGION_gap r
    gap).setFld .SRG_REGION_trigger r g.kind
  s.setFld .SRG_STATUS_regions_free 0
    (((List.range s.pat.cast.regions).filter (fun i => (s.region i).st == .free)).length)

/-- Store a region. -/
def State.setRegion (s : State) (r : Nat) (g : Region) : State :=
  ({ s with gau := { s.gau with regions := tput {} r g s.gau.regions } }).showRegion r

/-- Store a block; where its gap flag is set anew, the regions that hold it show it. -/
def State.setBlock (s : State) (ch i : Nat) (b : CastBlock) : State :=
  let s := { s with gau := { s.gau with blocks := tset (blockKey ch i) b s.gau.blocks } }
  if b.gap then (List.range s.pat.cast.regions).foldl (fun s r => if regionHolds (s.region r) b then s.showRegion r else s) s
  else s

/-- The next block of a channel that no region holds, from index `i` on; none where all are held. -/
def State.nextBlock (s : State) (ch b : Nat) : Nat → Nat → Option Nat
  | 0, _ => none
  | fuel + 1, i =>
    match tfind (blockKey ch (i % b)) s.gau.blocks with
    | some k => if s.blockHeld k then s.nextBlock ch b fuel (i + 1) else some (i % b)
    | none => some (i % b)

/-- The block that takes a tick of a channel (R379, R383): the one being written, or the next that is not held. -/
def State.castBlockFor (s : State) (ch n : Nat) : Option (Nat × CastBlock × State) :=
  let b := s.fld .SRG_STATUS_blocks 0
  let start (i : Nat) : Option (Nat × CastBlock × State) :=
    match s.nextBlock ch b b i with
    | none => none
    | some i =>
      let o := tfind (blockKey ch i) s.gau.blocks
      let old := (o.map (fun k => k.samples ++ k.old.drop k.samples.length)).getD []
      some (i, { first := n, gap := false, samples := [], old := old, era := s.gau.era },
        { s with gau := { s.gau with pos := tset ch i s.gau.pos } })
  match tfind ch s.gau.pos with
  | none => start 0
  | some i => match tfind (blockKey ch i) s.gau.blocks with
    | none => start i
    | some k => if k.era = s.gau.era ∧ n < k.first + castLen then some (i, k, s) else start (i + 1)

/-- The ring writer may store one more sample within its budget of the slot, or of what it may borrow (R380, R410, R411). -/
def State.castMay (s : State) : Bool × State :=
  let g := s.gau
  if s.memUp = false then (false, s)
  else if g.slotBytes + 2 ≤ s.pat.thimble.memCast then (true, { s with gau := { g with slotBytes := g.slotBytes + 2 } })
  else if bit s.pat.thimble.actBorrow 2 ∧ g.slotBytes + 2 ≤ s.pat.thimble.memCast + g.slotBorrow then
    let n := g.slotBytes + 2
    let s := { s with gau := { g with slotBytes := n } }
    (true, if (n - s.pat.thimble.memCast) % 4096 < 2 then s.bump .HST_TMB_CNT_mem_borrow 0 else s)
  else if g.slotStop then (false, s)
  else (false, ({ s with gau := { g with slotStop := true } }).bump .HST_TMB_CNT_mem_wait 0)

/-- A sample at a position of a block; the positions passed over keep what the ring held. -/
def CastBlock.put (b : CastBlock) (i v : Nat) : CastBlock :=
  let pad := (List.range (i - b.samples.length)).map (fun k => b.old.getD (b.samples.length + k) 0)
  { b with samples := b.samples.take i ++ pad ++ [v] ++ b.samples.drop (i + 1) }

/-- Store one sample of a recorded channel (R380): bits [15:2] the sample, bit 1 `gap`, bit 0 the ramp. -/
def State.castPut (s : State) (ch n : Nat) (x : Int) (gap : Bool) : State :=
  match s.castBlockFor ch n with
  | none => s
  | some (i, b, s) =>
    if n < b.first then s
    else
      let (ok, s) := s.castMay
      if ok then
        s.setBlock ch i (b.put (n - b.first) (4 * unsigned 14 x + 2 * b2n gap + b2n (s.rampAt ch n 0)))
      else
        let s := if b.gap then s else s.bump .SRG_CNT2_gap_blocks 0
        s.setBlock ch i { b with gap := true }

/-- Samples of a channel from a tick on reach Cast (R26, R379). -/
def State.castIn (s : State) (ch first : Nat) (xs : List Int) (gap : Bool) : State :=
  if s.castRecords ch then
    xs.zipIdx.foldl (fun s (e : Int × Nat) => s.castPut ch (first + e.2) e.1 gap) s
  else s

/-- The ticks of a slot on channels whose lane is not ALIGNED are gaps (R32, R380). -/
def State.castLostSlot (s : State) (first n : Nat) : State :=
  s.castChans.foldl (fun s ch =>
    if s.castOn ∧ s.laneAligned (headOf ch) = false then s.castIn ch first (List.replicate n 0) true else s) s

/-- The Cast writer's budget is refilled, and it may borrow `more` bytes (R410, R411). -/
def State.castRefill (s : State) (more : Nat) : State :=
  { s with gau := { s.gau with slotBytes := 0, slotBorrow := more, slotStop := false } }

/-- The oldest HELD region. -/
def State.oldestHeld (s : State) : Option Nat :=
  let l := (List.range s.pat.cast.regions).filter (fun r => (s.region r).st == .held)
  l.foldl (fun m r => match m with
    | none => some r
    | some k => if (s.region r).order < (s.region k).order then some r else some k) none

/-- A region is taken by a trigger. -/
def State.takeRegion (s : State) (r t kind : Nat) : State :=
  let n := s.gau.order
  ({ s with gau := { s.gau with order := n + 1 } }).setRegion r
    { st := .collecting, trig := t, kind := kind, start := t - msTicks s.pat.cast.preMs, stop := t + msTicks s.pat.cast.postMs
      order := n, era := s.gau.era }

/-- A freeze trigger at a tick (R383); whether it found or joined a region. The lowest FREE region is taken. -/
def State.freeze (s : State) (t kind : Nat) : Bool × State :=
  if s.gau.regions.any (fun e => e.2.st == .collecting && decide (e.2.start ≤ t) && decide (t ≤ e.2.stop)) then
    (true, s.bump .SRG_CNT_frz_merged 0)
  else match (List.range s.pat.cast.regions).find? (fun r => (s.region r).st == .free) with
    | some r => (true, s.takeRegion r t kind)
    | none =>
      let s := s.bump .SRG_CNT_frz_full 0
      if s.pat.cast.overwrite then
        match s.oldestHeld with
        | some r => (true, s.takeRegion r t kind)
        | none => (false, s)
      else (false, s)

/-- The spans of a BLANK input kept: those that can still matter. -/
def State.keepSpans (s : State) (l : List (Nat × Option Nat)) : List (Nat × Option Nat) :=
  l.filter (fun e => match e.2 with
    | none => true
    | some f => decide (s.tick ≤ f + s.pat.gauge.blankExt * 200 + 200000000))

/-- The channels whose `blank_arm` mask holds a BLANK input. -/
def State.armChans (s : State) (i : Nat) : List Nat :=
  (List.range 192).filter (fun ch => bit (s.fld .CHN_STEP_CFG_blank_arm ch) i)

/-- An input rises (R181, R376, R383): channels are armed from the next slot boundary on. -/
def State.blankRise (s : State) (i tick : Nat) : State :=
  let b := tget {} i s.gau.blanks
  let s := { s with gau := { s.gau with blanks := tput {} i ⟨true, s.keepSpans ((tick, none) :: b.spans)⟩ s.gau.blanks } }
  let s := s.setFld .GAU_BLANK_STATUS_pin 0 (setBit (s.fld .GAU_BLANK_STATUS_pin 0) i true)
  let s := s.setFld .GAU_BLANK_STATUS_asserted 0 (setBit (s.fld .GAU_BLANK_STATUS_asserted 0) i true)
  let s := (s.armChans i).foldl (fun s ch =>
    (s.updChan ch (fun c => { c with armedUntil := tick + msTicks (s.fld .CHN_STEP_CFG_arm_ms ch) })).request (.arm ch)) s
  if s.castOn ∧ bit s.pat.cast.trigBlank i then (s.freeze tick 1).2 else s

/-- An input falls. -/
def State.blankFall (s : State) (i tick : Nat) : State :=
  let b := tget {} i s.gau.blanks
  let spans := match b.spans with
    | (r, none) :: t => (r, some tick) :: t
    | l => l
  let s := { s with gau := { s.gau with blanks := tput {} i ⟨false, spans⟩ s.gau.blanks } }
  let s := s.setFld .GAU_BLANK_STATUS_pin 0 (setBit (s.fld .GAU_BLANK_STATUS_pin 0) i false)
  if s.pat.gauge.blankExt = 0 then
    s.setFld .GAU_BLANK_STATUS_asserted 0 (setBit (s.fld .GAU_BLANK_STATUS_asserted 0) i false)
  else s

/-- The AON time of day in ms (R494, R496): the seconds last set, and the ticks since. -/
def State.aonMs (s : State) : Nat :=
  (s.fld .PWR_TOD_LO_tod_lo 0 + 2 ^ 32 * s.fld .PWR_TOD_HI_tod_hi 0) * 1000 + s.rst.todMs + (s.tick - s.rst.todAt) / 200000

/-- An edge of a BLANK input in KEEP (R494, R504): only a rise of BLANK0 is watched; with the input absent it is recorded. -/
def State.keepEdge (s : State) (i : Nat) (rising : Bool) : State :=
  if i = 0 && rising && !s.flag .PWR_STATUS_input_ok 0 then
    { s with rst := { s.rst with blankRing := (s.aonMs :: s.rst.blankRing).take 16 } }
  else s

/-- BLANK_EDGE (R376). -/
def execBlankEdge (i : Nat) (rising : Bool) (tick : Nat) (s : State) : Host.Outcome State Fault Refusal :=
  .next (
    let s := { s with tick := max s.tick tick }
    if s.rst.pwr = .keep then s.keepEdge i rising
    else if 3 < i ∨ (tget {} i s.gau.blanks).high = rising then s
    else if rising then s.blankRise i tick else s.blankFall i tick)

/-- BLANK_EXTENSION_END (R376). -/
def execBlankExtensionEnd (i : Nat) (s : State) : Host.Outcome State Fault Refusal :=
  .next (
    if i < 4 ∧ (tget {} i s.gau.blanks).high = false then
      let s := match ((tget {} i s.gau.blanks).spans.head?).bind (fun e => e.2) with
        | some f => s.reach (f + s.pat.gauge.blankExt * 200)
        | none => s
      s.setFld .GAU_BLANK_STATUS_asserted 0 (setBit (s.fld .GAU_BLANK_STATUS_asserted 0) i false)
    else s)

/-- A channel requested so becomes armed at a slot boundary, unless its time has passed (R181). -/
def State.armChannel (s : State) (ch : Nat) : State :=
  if s.tick < (s.chan ch).armedUntil then s.setFlag .CHN_TM_STATUS_armed ch true else s

/-- ARM_EXPIRY: the time of a channel's latest arming passes (R181). -/
def execArmExpiry (ch : Nat) (s : State) : Host.Outcome State Fault Refusal :=
  .next (
    if s.flag .CHN_TM_STATUS_armed ch then (s.reach (s.chan ch).armedUntil).setFlag .CHN_TM_STATUS_armed ch false else s)

/-- The self pair of a channel removes its echo (R381). -/
def State.echoRemoved (s : State) (ch : Nat) : Bool :=
  match s.victimIdx 0 ch with
  | some vi => pairActive (s.pair 0 vi 0)
  | none => false

/-- Seconds and nanoseconds of `cast_tb` at a tick; of a timebase that is OFF the spec states none (log 3). -/
def State.castTime (s : State) (t ns : Nat) : Nat × Nat × State :=
  let k := s.pat.cast.castTb
  if s.tbRole k = tbOff then
    let (a, s) := s.drawFree
    let (b, s) := s.drawFree
    (a % 2 ^ 48, b % 2 ^ 32, s)
  else
    let (sec, n, _) := tbParts (s.tbAt16 k (16 * t) + (ns : Int) * 65536)
    (sec, n, s)

/-- An arrival enters the ring and is logged (R382); its group may trigger a freeze (R383), once. -/
def State.arrive (s : State) (ch n : Nat) (neg : Bool) (ta : Int) (peak : Nat) (gapNear : Bool) : State :=
  let t := ta.toNat / 5
  let ns := ta.toNat % 5
  let (sec, nn, s) := s.castTime t ns
  let fl := b2n neg + 2 * b2n (s.rampAt ch n 0 && !s.echoRemoved ch) + 4 * b2n gapNear
    + 8 * b2n (s.tbRole s.pat.cast.castTb == tbOff)
  let i := s.fld .SRG_CNT2_arr_head 0
  let a : Arrival := ⟨t, ns, ch, fl, s.gau.arrN % 256, peak % 65536, sec, nn⟩
  let win := s.pat.cast.trigWin * 200
  let recent := (ch, t) :: s.gau.recent.filter (fun (e : Nat × Nat) => decide (t ≤ e.2 + win) && decide (e.2 ≤ t + win))
  let s := { s with gau := { s.gau with
    arrivals := tset i a s.gau.arrivals, arrN := s.gau.arrN + 1, recent := recent
    dead := tset ch (n + (s.castItem ch).wfDead * 200) s.gau.dead } }
  let s := (s.setFld .SRG_CNT2_arr_head 0 (i + 1)).bumpWrap .SRG_CNT_arrivals 0
  let s := s.log 0x3A01 (s.evOwner ch) ch i
  if s.pat.cast.trigN ≤ (recent.map (fun (e : Nat × Nat) => e.1)).dedup.length then
    let s := { s with gau := { s.gau with recent := [] } }
    (s.freeze (recent.foldl (fun m (e : Nat × Nat) => min m e.2) t) 0).2
  else s

/-- REGION_COLLECTED: tick t + `post_ms` has been written (R384). -/
def execRegionCollected (r : Nat) (s : State) : Host.Outcome State Fault Refusal :=
  .next (
    let g := s.region r
    if g.st = .collecting then
      let s := s.reach g.stop
      (s.setRegion r { g with st := .held }).log 0x3A02 noPanel r (r + 256 * g.kind)
    else s)

/-- GASP entry or a WARM reset cuts collection short and ends exports (R384, R544). -/
def State.castCut (s : State) : State :=
  (List.range 8).foldl (fun s r =>
    let g := s.region r
    match g.st with
    | .collecting => (s.setRegion r { g with st := .held, short := true, stop := min g.stop s.tick }).log 0x3A02 noPanel r
        (r + 256 * g.kind)
    | .exporting => s.setRegion r { g with st := .held }
    | _ => s) s

/-- Every region is released. -/
def State.releaseRegions (s : State) : State := forAll (List.range 8) (fun r s => s.setRegion r {}) s

/-- Cast at the seal of a full pattern (R379, R386): regions are kept when `ring_gib` and `chans` are unchanged. `old` is the
section of the pattern that was in service. -/
def State.castSeal (s : State) (old : CastSec) (present : Bool) : State :=
  let c := s.pat.cast
  let on := present && s.inForce 6
  let s := (s.setFlag .SRG_STATUS_on 0 on).setFld .SRG_STATUS_blocks 0 (castBlocks c.ringGib s.castChans.length)
  let s := { s with gau := { s.gau with dead := [], mean := [], recent := [] } }
  if old.ringGib = c.ringGib ∧ old.chans = c.chans then s.showRegion 0
  else (({ s with gau := { s.gau with blocks := [], pos := [] } }).releaseRegions).showRegion 0

/-- The samples a region has of a channel. -/
def State.regionSamples (s : State) (g : Region) (ch : Nat) : Nat :=
  (s.heldBlocks g ch).foldl (fun n b => n + b.samples.length) 0

/-- The next up to 4,096 samples of a channel from sample number `k` of a region on, within one block: first tick and
samples. -/
def exportPiece : List CastBlock → Nat → Option (Nat × List Nat)
  | [], _ => none
  | b :: bs, k => if k < b.samples.length then some (b.first + k, (b.samples.drop k).take 4096)
    else exportPiece bs (k - b.samples.length)

/-- The next channel of an export from `c` up that has samples. -/
def State.exportChan (s : State) (g : Region) (c : Nat) : Option Nat :=
  s.castChans.find? (fun ch => decide (c ≤ ch) && bit g.mask ch && decide (0 < s.regionSamples g ch))

/-- An EXPORT message in the to-host queue of a panel (R385, R393, R398); its `prio` and `ep` are not stated (log 3). -/
def State.sendExport (s : State) (p cls : Nat) (msg : List Byte) : State :=
  match s.panelItem p with
  | none => s
  | some i =>
    let (v, s) := s.drawFree
    let h : HoHdr := ⟨1, 5, v % 4, 0, 0, 0, v / 4 % 0xFEFF + 1, 0, msg.length, 0, 0, 0⟩
    s.egressFrame { order := 4, panel := p, ports := i.ports, cls := cls, bytes := s.hoFrame i cls h msg }

/-- EXPORT_MESSAGE: the next message of a region is queued when its queue has room (R385). -/
def execExportMessage (r : Nat) (s : State) : Host.Outcome State Fault Refusal :=
  .next (
    let g := s.region r
    if g.st ≠ .exporting ∨ s.toHostRoom g.cmd.pnl g.cls = false then s
    else match s.exportChan g g.expCh with
      | none => s.setRegion r { g with st := .held }
      | some ch =>
        let k := if ch = g.expCh then g.expAt else 0
        match exportPiece (s.heldBlocks g ch) k with
        | none => s.setRegion r { g with expCh := ch + 1, expAt := 0 }
        | some (t, xs) =>
          let last := decide (s.regionSamples g ch ≤ k + xs.length)
          let msg := [byte r, byte ch] ++ be 2 (b2n last + 2 * b2n g.short) ++ be 4 0 ++ be 8 t ++ be 4 xs.length
            ++ be 8 g.trig ++ be 4 0 ++ xs.flatMap (be 2)
          let s := s.sendExport g.cmd.pnl g.cls msg
          let g : Region := if last then { g with expCh := ch + 1, expAt := 0 }
            else { g with expCh := ch, expAt := k + xs.length }
          if (s.exportChan g g.expCh).isNone then s.setRegion r { g with st := .held } else s.setRegion r g)

/-- The checks every Cast command shares (R389). -/
def srgCmd (s : State) (p : Nat) (k : State × Option Resp) : State × Option Resp :=
  if p ≠ 0 then refuse s .denied else featGate s 6 k

/-- `SRG_STATUS` (R389). -/
def State.srgStatusWord (s : State) : Nat :=
  s.fld .SRG_STATUS_on 0 + 16 * s.fld .SRG_STATUS_regions_free 0 + 256 * s.fld .SRG_STATUS_blocks 0

/-- A region's register. -/
def State.srgRegionWord (s : State) (r : Nat) : Nat :=
  s.fld .SRG_REGION_state r + 4 * s.fld .SRG_REGION_short r + 8 * s.fld .SRG_REGION_gap r
    + 16 * s.fld .SRG_REGION_trigger r

/-- The tick of the first sample a region holds. -/
def State.regionFirst (s : State) (g : Region) : Nat :=
  let l := (s.gau.blocks.filter (fun (e : Nat × CastBlock) => regionHolds g e.2)).map (fun (e : Nat × CastBlock) => e.2.first)
  match l with
  | [] => 0
  | a :: t => t.foldl min a

/-- SRG_QUERY (R389). -/
def opSrgQuery (p r : Nat) (s : State) : State × Option Resp :=
  srgCmd s p (
    if s.pat.cast.regions ≤ r then refuse s .badArg
    else
      let g := s.region r
      let f := decide (g.st ≠ .free)
      (s, some ⟨.ok, le 4 s.srgStatusWord ++ le 4 (s.srgRegionWord r) ++ le 8 (if f then g.trig else 0)
        ++ le 8 (if f then s.regionFirst g else 0)⟩))

/-- SRG_FREEZE (R383, R389). -/
def opSrgFreeze (p : Nat) (s : State) : State × Option Resp :=
  srgCmd s p (match s.freeze s.tick 2 with
    | (true, s) => (s, some (rsp .ok))
    | (false, s) => (s, some (rsp .busy)))

/-- SRG_EXPORT (R385, R389). -/
def opSrgExport (c : Cmd) (r cls mask : Nat) (s : State) : State × Option Resp :=
  srgCmd s c.pnl (
    if s.pat.cast.regions ≤ r ∨ 7 < cls then refuse s .badArg
    else
      let g := s.region r
      match g.st with
      | .held => (s.setRegion r { g with st := .exporting, cmd := c, cls := cls, mask := mask, expCh := 0, expAt := 0 },
          some (rsp .ok))
      | .exporting => refuse s .busy
      | _ => refuse s .badState)

/-- SRG_RELEASE (R389). -/
def opSrgRelease (p r : Nat) (s : State) : State × Option Resp :=
  srgCmd s p (
    if s.pat.cast.regions ≤ r then refuse s .badArg
    else match (s.region r).st with
      | .held => (s.setRegion r {}, some (rsp .ok))
      | .exporting => refuse s .busy
      | _ => refuse s .badState)

/-- The 24 bytes of an arrival record (R382) as data of a response (R12). -/
def Arrival.bytes (a : Arrival) : List Byte :=
  le 8 a.tick ++ [byte a.ns, byte a.ch, byte a.flags, byte a.seq] ++ le 2 a.peak ++ le 6 a.sec ++ le 4 a.nsec

/-- SRG_ARRIVAL_READ (R389). A record never written reads 0, as the Spool does (log 1). -/
def opSrgArrivalRead (p index : Nat) (s : State) : State × Option Resp :=
  srgCmd s p (
    if 4095 < index then refuse s .badArg
    else (s, some ⟨.ok, ((tfind index s.gau.arrivals).map (·.bytes)).getD (List.replicate 24 0)⟩))

/-- SRG_QUERY. -/
def execSrgQuery (c : Cmd) (r : Nat) (s : State) : Host.Outcome State Fault Refusal :=
  .next (ohi s c 0x3A01 (opSrgQuery c.pnl r s))

/-- SRG_FREEZE. -/
def execSrgFreeze (c : Cmd) (args : List Nat) (s : State) : Host.Outcome State Fault Refusal :=
  .next (ohi s c 0x3A02 (if args = [] then opSrgFreeze c.pnl s else refuse s .badArg))

/-- The number a list of argument bytes spells, first byte least significant (R12). -/
def natOfArgs (l : List Nat) : Nat := l.foldr (fun b n => b % 256 + 256 * n) 0

/-- SRG_EXPORT: region, class and the 24 bytes of the channel mask. -/
def execSrgExport (c : Cmd) (args : List Nat) (s : State) : Host.Outcome State Fault Refusal :=
  .next (ohi s c 0x3A03 (
    if args.length = 26 then opSrgExport c (args.getD 0 0) (args.getD 1 0) (natOfArgs (args.drop 2)) s else refuse s .badArg))

/-- SRG_RELEASE. -/
def execSrgRelease (c : Cmd) (r : Nat) (s : State) : Host.Outcome State Fault Refusal :=
  .next (ohi s c 0x3A04 (opSrgRelease c.pnl r s))

/-- SRG_ARRIVAL_READ. -/
def execSrgArrivalRead (c : Cmd) (index : Nat) (s : State) : Host.Outcome State Fault Refusal :=
  .next (ohi s c 0x3A05 (opSrgArrivalRead c.pnl index s))

end Sys2Proof.Machine
end

