-- ==== Sys2Proof/Machine/Serial.lean ====
section
/-! DEFINITION. Chapter 14, the serial ports: characters, FIFOs, messages, and the serial commands (R414 to R427, R436). -/

namespace Sys2Proof.Machine

/-- A serial port. -/
def State.port (s : State) (n : Nat) : SerPort := tget {} n s.ser

/-- Show a port's levels and pending divisor. -/
def State.showPort (s : State) (n : Nat) : State :=
  let p := s.port n
  ((s.setFld .SER_STATUS_rx_level n p.rx.length).setFld .SER_STATUS_tx_level n p.tx.length).setFlag
    .SER_STATUS_div_pending n (p.rxPend || p.txPend)

/-- Store a port. -/
def State.setPort (s : State) (n : Nat) (p : SerPort) : State := ({ s with ser := tput {} n p s.ser }).showPort n

/-- Change a port by a function. -/
def State.updPort (s : State) (n : Nat) (f : SerPort → SerPort) : State := s.setPort n (f (s.port n))

/-- The functions of R422. -/
def serUnused : Nat := 0
/-- DIRECT. -/
def serDirect : Nat := 1
/-- TUNNEL. -/
def serTunnel : Nat := 2
/-- PROTECT. -/
def serProtect : Nat := 3
/-- BUS. -/
def serBus : Nat := 4

/-- A port's function. -/
def SerPort.func (p : SerPort) : Nat := (p.item.map (·.function)).getD serUnused

/-- A bit of a port's `fmt`. -/
def SerPort.fmtBit (p : SerPort) (b : Nat) : Bool := p.item.any (fun i => bit i.fmt b)

/-- The port is of class F. -/
def SerPort.classF (p : SerPort) : Bool := p.item.any (fun i => i.cls == 1)

/-- The port makes messages of its characters (R423). -/
def SerPort.messages (p : SerPort) : Bool := decide (serTunnel ≤ p.func)

/-- The panel that owns a port: the one whose `ser` grants it, or PNL0 (R426). -/
def State.portOwner (s : State) (n : Nat) : Nat :=
  ((s.pat.panels.find? (fun i => bit i.ser n)).map (·.panel)).getD 0

/-- The limits of `div` (R416). -/
def clampDiv (classF : Bool) (d : Nat) : Nat := min 16777215 (max (if classF then 32768 else 1748) d)

/-- Ticks that a number of half bits takes at a divisor (R415): 390,625 / 64 ticks a cycle for class W, 25 / 16 for class F. -/
def SerPort.halfBits (p : SerPort) (div n : Nat) : Nat :=
  if p.classF then n * div * 25 / 8192 else n * div * 390625 / 32768

/-- The bits of a character (R414). -/
def SerPort.charBits (p : SerPort) : Nat :=
  9 + b2n (p.fmtBit 0) + b2n (p.fmtBit 4) + b2n (p.item.any (fun i => i.fmt / 2 % 4 != 0)) + b2n (p.fmtBit 3)

/-- Ticks of a number of character times at a divisor (R414). -/
def SerPort.chars (p : SerPort) (div n : Nat) : Nat := p.halfBits div (2 * n * p.charBits)

/-- Bytes of the 4,096-byte receive buffer in use (R424). -/
def SerPort.rxUsed (p : SerPort) : Nat := p.run.length + (p.ready.map List.length).foldl (· + ·) 0

/-- A character carries an error: `parity`, `frame`, `brk` or `ovr` (R423). -/
def badChar (c : Nat) : Bool := bits c 9 4 != 0

/-- The mark of an entry that closes the open message. -/
def closeMark : Nat := 16384

/-- Close the open message (R423): one with a bad character is discarded whole; whether it was. -/
def SerPort.close (p : SerPort) : SerPort × Bool :=
  if p.run = [] then (p, false)
  else if p.run.any badChar then ({ p with run := [] }, true)
  else ({ p with run := [], ready := p.ready ++ [p.run.map (fun c => byte c)] }, false)

/-- Close it, counting. -/
def State.closePort (s : State) (n : Nat) : State :=
  let (p, bad) := (s.port n).close
  let s := s.setPort n p
  if bad then s.bump .SER_CNT2_msg_bad n else s

/-- Close the open message after the last character that waits in the FIFO, or at once where none does. -/
def State.endMessage (s : State) (n : Nat) : State :=
  let p := s.port n
  match p.rx.getLast? with
  | none => s.closePort n
  | some c => if c < closeMark then s.setPort n { p with rx := p.rx.dropLast ++ [c + closeMark] } else s

/-- Characters move from the FIFO into the buffer while it has room (R423, R424). -/
def State.drainRx : Nat → Nat → State → State
  | 0, _, s => s
  | fuel + 1, n, s =>
    let p := s.port n
    match p.rx with
    | [] => s
    | c :: t =>
      if 4096 ≤ p.rxUsed then s
      else
        let s := s.setPort n { p with rx := t, run := p.run ++ [c % closeMark] }
        let full := p.item.any (fun i => decide (i.maxLen ≤ p.run.length + 1))
        let s := if closeMark ≤ c ∨ full then s.closePort n else s
        s.drainRx fuel n

/-- The message of a port as a message of a panel (R423). -/
def State.serMsg (s : State) (n : Nat) (i : SerItem) (data : List Byte) : QMsg :=
  { panel := s.portOwner n, cls := 0, prio := if i.function = serProtect then 3 else i.prio, flood := i.kind == 1
    target := i.target, dst := i.dst, ep := i.ep, ackReq := bit i.flags 0 && i.dst != 0xFFFF, enc := false
    data := data, tickIn := s.tick }

/-- Hand a message over to a channel, or originate it in a domain; none where it finds no descriptor or buffer, or no channel of the
domain is in TRAINING or LIVE. -/
def State.giveMsg (s : State) (m : QMsg) : Option State :=
  if m.flood then if (s.floodServer m.target).isNone then none else some (s.originate m)
  else s.handoverWake m.panel m.target m.dst m.prio m.ackReq m.enc m.ep m.data m.launch

/-- Hand the closed messages of a port over (R423, R424). -/
def State.giveSerial : Nat → Nat → State → State
  | 0, _, s => s
  | fuel + 1, n, s =>
    let p := s.port n
    match p.item, p.ready with
    | some i, m :: t =>
      match s.giveMsg (s.serMsg n i m) with
      | none => s
      | some s =>
        let s := ((s.updPort n (fun p => { p with ready := t })).bumpWrap .SER_CNT2_msg_out n).drainRx 64 n
        s.giveSerial fuel n
    | _, _ => s

/-- A character is stored (R417, R419, R423). -/
def State.storeChar (s : State) (n c : Nat) : State :=
  let p := s.port n
  if 64 ≤ p.rx.length then (s.setPort n { p with ovrNext := true }).bump .SER_CNT_overrun n
  else
    let c := if p.ovrNext then c + 4096 else c
    let s := s.setPort n { p with rx := p.rx ++ [c], ovrNext := false }
    if p.messages then (s.drainRx 64 n).giveSerial 64 n else s

/-- An address character matches a port's own (R420). -/
def addrMatch (i : SerItem) (d : Nat) : Bool := d &&& i.mask == i.addr &&& i.mask || (bit i.flags 1 && d == 0xFF)

/-- A character received in 9-bit mode (R420, R423): stored, or discarded while the port sleeps. -/
def State.busChar (s : State) (n : Nat) (i : SerItem) (c : Nat) : State :=
  let awake := s.flag .SER_STATUS_awake n
  if bit c 8 then
    let s := if i.function = serBus then (s.endMessage n).giveSerial 64 n else s
    if addrMatch i (c % 256) then (s.setFlag .SER_STATUS_awake n true).storeChar n c
    else s.setFlag .SER_STATUS_awake n false
  else if awake then s.storeChar n c else s

/-- A start edge (R418, R421): the receiver takes the shadow divisor, the oscillator of class F starts. -/
def State.startEdge (s : State) (n : Nat) : State :=
  let p := s.port n
  let s := s.setPort n (if p.rxPend then { p with rxPend := false, rxDiv := s.fld .SER_DIV_div n } else p)
  if p.classF then s.setFlag .SER_STATUS_osc_on n true else s

/-- SERIAL_CHARACTER_RX: bits 7 to 0 of `data`, and bit 8 the address bit; `tick` is that of its last sample (R415 to R421). -/
def execSerialCharacterRx (port data : Nat) (falseStart parityOk stopOk : Bool) (tick : Nat) (s : State) :
    Host.Outcome State Fault Refusal :=
  .next (
    let s := { s with tick := max s.tick tick }
    let p := s.port port
    match p.item with
    | none => s
    | some i =>
      if i.function = serUnused ∨ p.armed = false ∨ (bit i.fmt 5 ∧ s.flag .SER_STATUS_de port) then s
      else
        let s := s.startEdge port
        let s := s.updPort port (fun p => { p with rxEnd := max p.rxEnd tick })
        if falseStart then s.bump .SER_CNT_false_start port
        else
          let nine := bit i.fmt 4
          let d := data % (if nine then 512 else if bit i.fmt 0 then 256 else 128)
          let brk := !stopOk && d % 256 == 0
          let c := d + 512 * b2n (!parityOk) + 1024 * b2n (!stopOk) + 2048 * b2n brk
          let s := if parityOk then s else s.bump .SER_CNT_par_err port
          let s := if stopOk then s else
            (s.updPort port (fun p => { p with armed := false })).bump .SER_CNT_frm_err port
          if nine then s.busChar port i c else s.storeChar port c)

/-- FRAMING_REARM: the line has stayed at mark for one character time (R417). -/
def execFramingRearm (port : Nat) (s : State) : Host.Outcome State Fault Refusal :=
  .next (
    let p := s.port port
    if p.armed then s else (s.reach (p.rxEnd + p.chars p.rxDiv 1)).setPort port { p with armed := true })

/-- SERIAL_GAP_CLOSE: the line has been idle for `gap` character times after a stop bit, which ends half a bit after its sample
(R423). -/
def execSerialGapClose (port : Nat) (s : State) : Host.Outcome State Fault Refusal :=
  .next (
    let p := s.port port
    if p.messages = false ∨ (p.run = [] ∧ p.rx = []) then s
    else
      let s := s.reach (p.rxEnd + p.halfBits p.rxDiv 1 + p.chars p.rxDiv ((p.item.map (·.gap)).getD 0))
      (s.endMessage port).giveSerial 64 port)

/-- Characters move from the transmit buffer into the transmit FIFO (R424). -/
def SerPort.feed (p : SerPort) : SerPort :=
  let k := 64 - p.tx.length
  { p with tx := p.tx ++ p.out.take k, out := p.out.drop k }

/-- A message delivered to a port enters its transmit buffer whole, or waits (R424). On BUS its first byte is an address
character (R422). -/
def State.serialDeliver (s : State) (n : Nat) (data : List Byte) : Option State :=
  let p := s.port n
  if p.messages = false ∨ 4096 < p.out.length + data.length then none
  else
    let cs := data.map (fun b => b.toNat)
    let cs := if p.func = serBus then (match cs with
      | [] => []
      | c :: t => (c + 256) :: t) else cs
    some (s.setPort n ({ p with out := p.out ++ cs }).feed)

/-- A port starts under an item (R427): FIFOs and buffers cleared, DE released. -/
def State.startPort (s : State) (n : Nat) (i : Option SerItem) : State :=
  let div := (i.map (·.div)).getD (s.fld .SER_DIV_div n)
  let s := s.setPort n { item := i, rxDiv := div, txDiv := div, emptyAt := s.tick }
  let s := (s.setFld .SER_STATUS_function n ((i.map (·.function)).getD 0)).setFld .SER_STATUS_class n ((i.map (·.cls)).getD 0)
  let s := (s.setFlag .SER_STATUS_awake n false).setFlag .SER_STATUS_osc_on n false
  (s.setFlag .SER_STATUS_de n false).setFld .SER_DIV_div n div

/-- The characters in a port's shifters are done: a new item waiting takes over (R427). -/
def State.shiftDone (s : State) (n : Nat) : State :=
  match (s.port n).swap with
  | some i => s.startPort n i
  | none => s.updPort n (fun p => { p with shift := none })

/-- A port's next character goes out (R418, R421, R425): the character before it is done; the first of a burst comes `de_lead` bit
times after DE. -/
def State.nextChar (s : State) (n : Nat) : State :=
  let s := if (s.port n).shift.isSome then s.reach (s.port n).txEnd else s
  let s := s.shiftDone n
  let p := s.port n
  match p.tx with
  | [] => s
  | c :: t =>
    let p : SerPort := if p.txPend then { p with txPend := false, txDiv := s.fld .SER_DIV_div n } else p
    let lead := if s.flag .SER_STATUS_de n then 0 else (p.item.map (fun i => i.de % 16)).getD 0
    let start := s.tick + p.halfBits p.txDiv (2 * lead)
    let p : SerPort := ({ p with tx := t, shift := some c, txEnd := start + p.chars p.txDiv 1 }).feed
    let s := s.setPort n (if p.tx = [] then { p with emptyAt := start } else p)
    let s := s.setFlag .SER_STATUS_de n true
    if p.classF then s.setFlag .SER_STATUS_osc_on n true else s

/-- DE_RELEASE: `de_lag` bit times after the burst (R425). -/
def execDeRelease (port : Nat) (s : State) : Host.Outcome State Fault Refusal :=
  .next (
    let p := s.port port
    if p.tx ≠ [] ∨ s.flag .SER_STATUS_de port = false then s
    else
      let s := s.reach (p.txEnd + p.halfBits p.txDiv (2 * (p.item.map (fun i => i.de / 16)).getD 0))
      (s.shiftDone port).setFlag .SER_STATUS_de port false)

/-- OSC_STOP: no character is in either shifter and the transmit FIFO has been empty for `osc_hold` character times (R421). -/
def execOscStop (port : Nat) (s : State) : Host.Outcome State Fault Refusal :=
  .next (
    let p := s.port port
    if p.classF ∧ p.shift.isNone ∧ p.tx = [] ∧ s.flag .SER_STATUS_osc_on port then
      (s.reach (max p.rxEnd (p.emptyAt + p.chars p.txDiv ((p.item.map (·.oscHold)).getD 0)))).setFlag .SER_STATUS_osc_on port
        false
    else s)

/-- A write of `SER_DIV` (R416, R418). -/
def State.writeDiv (s : State) (n d : Nat) : State :=
  let p := s.port n
  (s.setFld .SER_DIV_div n (clampDiv p.classF d)).setPort n { p with rxPend := true, txPend := true }

/-- A read of `SER_RX_DATA` (R419): the word and the state after it. -/
def State.readRxData (s : State) (n : Nat) : Nat × State :=
  let p := s.port n
  if p.func = serDirect then
    match p.rx with
    | [] => (0, s)
    | c :: t => (c % 8192 + 8192, s.setPort n { p with rx := t })
  else (0, s)

/-- A write of `SER_TX_DATA` (R422). -/
def State.writeTxData (s : State) (n d : Nat) : State :=
  let p := s.port n
  if p.func = serDirect then
    if 64 ≤ p.tx.length then s.bump .SER_CNT2_tx_ovf n else s.setPort n { p with tx := p.tx ++ [d % 512] }
  else s

/-- The ports at a seal (R427): one whose item is unchanged keeps running. -/
def State.sealPorts (s : State) : State :=
  forAll (List.range 8) (fun n s =>
    let i := s.pat.serial.find? (fun i => i.port == n)
    let p := s.port n
    if p.item = i then s.setPort n { p with swap := none }
    else if p.shift.isNone then s.startPort n i
    else s.setPort n { p with swap := some i }) s

/-- A port named by a panel (R436). -/
def serCmd (s : State) (p n : Nat) (k : State × Option Resp) : State × Option Resp :=
  if 7 < n then refuse s .badArg else if p ≠ 0 ∧ s.portOwner n ≠ p then refuse s .denied else k

/-- The four words of SER_QUERY (R436). -/
def State.serWords (s : State) (n : Nat) : List Nat :=
  [s.fld .SER_STATUS_function n + 8 * s.fld .SER_STATUS_class n + 16 * s.fld .SER_STATUS_awake n
     + 32 * s.fld .SER_STATUS_osc_on n + 64 * s.fld .SER_STATUS_de n + 128 * s.fld .SER_STATUS_div_pending n
     + 256 * s.fld .SER_STATUS_rx_level n + 65536 * s.fld .SER_STATUS_tx_level n,
   s.fld .SER_DIV_div n,
   s.fld .SER_CNT_overrun n + 256 * s.fld .SER_CNT_frm_err n + 65536 * s.fld .SER_CNT_par_err n
     + 2 ^ 24 * s.fld .SER_CNT_false_start n,
   s.fld .SER_CNT2_msg_out n + 65536 * s.fld .SER_CNT2_msg_bad n + 2 ^ 24 * s.fld .SER_CNT2_tx_ovf n]

/-- SER_QUERY (R436). -/
def opSerQuery (p n : Nat) (s : State) : State × Option Resp :=
  serCmd s p n (s, some ⟨.ok, (s.serWords n).flatMap (le 4)⟩)

/-- SER_FLUSH (R436). -/
def opSerFlush (p n which : Nat) (s : State) : State × Option Resp :=
  if which = 0 ∨ 3 < which then refuse s .badArg
  else serCmd s p n (
    if (s.port n).func = serUnused then refuse s .badState
    else
      let s := if bit which 0 then s.updPort n (fun p => { p with rx := [], run := [], ready := [], ovrNext := false }) else s
      let s := if bit which 1 then s.updPort n (fun p => { p with tx := [], out := [], emptyAt := if p.tx = [] then p.emptyAt else s.tick }) else s
      (s, some (rsp .ok)))

/-- SER_QUERY. -/
def execSerQuery (c : Cmd) (port : Nat) (s : State) : Host.Outcome State Fault Refusal :=
  .next (ohi s c 0x4001 (opSerQuery c.pnl port s))

end Sys2Proof.Machine
end

