-- ==== Sys2Proof/Machine/Contacts.lean ====
section
/-! DEFINITION. Chapter 14, the command contacts: inputs, command messages, outputs, and the contact commands (R428 to
R436). -/

namespace Sys2Proof.Machine

/-- The item of a contact. -/
def State.contact (s : State) (i : Nat) : Option ContactItem := s.pat.contacts.contacts.find? (fun c => c.contact == i)

/-- A contact is an input. -/
def State.isInput (s : State) (i : Nat) : Bool := (s.contact i).any (fun c => c.function == 1)

/-- A contact is an output. -/
def State.isOutput (s : State) (i : Nat) : Bool := (s.contact i).any (fun c => c.function == 2)

/-- A group's item. -/
def State.groupItem (s : State) (g : Nat) : Option GroupItem := s.pat.contacts.groups.find? (fun c => c.group == g)

/-- What a group holds. -/
def State.group (s : State) (g : Nat) : CmdGroup := tget {} g s.cmd.groups

/-- Store it. -/
def State.setGroup (s : State) (g : Nat) (c : CmdGroup) : State :=
  { s with cmd := { s.cmd with groups := tput {} g c s.cmd.groups } }

/-- The panel that owns a contact (R435). -/
def State.contactOwner (s : State) (i : Nat) : Nat :=
  ((s.pat.panels.find? (fun p => bit p.cmd i)).map (·.panel)).getD 0

/-- The input contacts of a group. -/
def State.groupInputs (s : State) (g : Nat) : List ContactItem :=
  s.pat.contacts.contacts.filter (fun c => c.function == 1 && c.group == g)

/-- The output contacts of a group. -/
def State.groupOutputs (s : State) (g : Nat) : List ContactItem :=
  s.pat.contacts.contacts.filter (fun c => c.function == 2 && c.group == g)

/-- The owner of a group: that of its inputs, or PNL0 (R435). -/
def State.groupOwner (s : State) (g : Nat) : Nat :=
  (((s.groupInputs g).head?).map (fun c => s.contactOwner c.contact)).getD 0

/-- An input is accepted as asserted. -/
def State.inputOn (s : State) (i : Nat) : Bool := bit (s.fld .CMD_IN_STATE_asserted 0) i

/-- The bytes of a command message (R431). -/
def cmdBytes (seq valid state : Nat) : List Byte := [byte 0xC1, byte 1] ++ be 2 seq ++ be 2 valid ++ be 2 state

/-- The message of a group as it stands (R430). -/
def State.groupBytes (s : State) (g : Nat) : List Byte :=
  let ins := s.groupInputs g
  let valid := ins.foldl (fun v c => v ||| 2 ^ c.bitpos) 0
  let st := ins.foldl (fun v c => if s.inputOn c.contact then v ||| 2 ^ c.bitpos else v) 0
  cmdBytes (s.group g).seq valid st

/-- The message of a group along its route: class 3 (R430). -/
def State.groupMsg (s : State) (g : Nat) (i : GroupItem) : QMsg :=
  { panel := s.groupOwner g, cls := 0, prio := 3, flood := i.kind == 1, target := i.target, dst := i.dst, ep := i.ep
    ackReq := i.ackReq && i.dst != 0xFFFF, enc := false, data := s.groupBytes g, tickIn := s.tick }

/-- The copies of the flood message whose first copy has a number (R274). -/
def State.copiesOf (s : State) (m : Nat) : List FloodCopy :=
  match s.dlv.copies.find? (fun c => c.mid == m) with
  | none => []
  | some k => s.dlv.copies.filter (fun c => m ≤ c.mid && c.oseq == k.oseq)

/-- The group's last message is handed over and no frame carries it yet (R430). -/
def State.groupQueued (s : State) (g : Nat) (flood : Bool) : Bool :=
  match (s.group g).mid with
  | none => false
  | some m =>
    if flood then
      let cs := s.copiesOf m
      cs != [] && cs.all (fun c => c.reps == s.fld .DLV_CFG2_flood_rep 0 + 1)
        && !s.grid.committed.any (fun f => f.kind == .flood && cs.any (fun c => c.mid == f.aux))
    else s.dlv.segs.any (fun x => x.mid == m && x.state == .queued && x.sent == 0 && x.seq.isNone)

/-- Put new data into the message queued (R430). -/
def State.replaceQueued (s : State) (g : Nat) (flood : Bool) (data : List Byte) : State :=
  match (s.group g).mid with
  | none => s
  | some m =>
    let s := s.bump .CMD_CNT_cmd_merge 0
    if flood then
      let mids := (s.copiesOf m).map (·.mid)
      let again (c : FloodCopy) : List Byte := segBytes (beAt c.segs 2 2) (beAt c.segs 4 2) (beAt c.segs 6 1) data
      let one (c : FloodCopy) : FloodCopy := if mids.contains c.mid then { c with segs := again c } else c
      { s with dlv := { s.dlv with copies := s.dlv.copies.map one } }
    else
      let one (x : Seg) : Seg := if x.mid = m then { x with data := data } else x
      { s with dlv := { s.dlv with segs := s.dlv.segs.map one } }

/-- A group's message is given to its route; where nothing is free it waits. -/
def State.giveGroup (s : State) (g : Nat) : State :=
  match s.groupItem g with
  | none => s
  | some i =>
    let mid := s.dlv.nextMid
    match s.giveMsg (s.groupMsg g i) with
    | none => s.setGroup g { s.group g with waits := true }
    | some s => s.setGroup g { s.group g with waits := false, mid := some mid }

/-- Send the message of a group (R430). -/
def State.sendGroup (s : State) (g : Nat) : State :=
  match s.groupItem g with
  | none => s
  | some i =>
    let s := s.setGroup g { s.group g with built := true, sentAt := s.tick }
    if (s.group g).waits then s.bump .CMD_CNT_cmd_merge 0
    else if s.groupQueued g (i.kind == 1) then s.replaceQueued g (i.kind == 1) (s.groupBytes g)
    else s.giveGroup g

/-- An input change is accepted (R429, R430). -/
def State.acceptInput (s : State) (i : Nat) : State :=
  match s.contact i, tfind i s.cmd.edges with
  | some c, some (high, t) =>
    let on := xor high c.invert
    let s := { s with cmd := { s.cmd with edges := tdel i s.cmd.edges, changed := tset i t s.cmd.changed } }
    if c.function ≠ 1 ∨ on = s.inputOn i then s
    else
      let s := s.setFld .CMD_IN_STATE_asserted 0 (setBit (s.fld .CMD_IN_STATE_asserted 0) i on)
      let s := s.setGroup c.group { s.group c.group with seq := ((s.group c.group).seq + 1) % 65536 }
      s.sendGroup c.group
  | _, _ => s

/-- CONTACT_CHANGE_ACCEPTED (R429): the level has held for `debounce` samples at 1 MHz after the first that showed it. -/
def execContactChangeAccepted (i : Nat) (s : State) : Host.Outcome State Fault Refusal :=
  .next (match tfind i s.cmd.edges with
    | none => s
    | some e => (s.reach (e.2 + 200 * s.fld .CMD_CT_CFG_debounce i)).acceptInput i)

/-- CONTACT_INPUT_EDGE (R429): a level other than the accepted one starts the count anew; one that reverts ends it. With
`debounce` 0 the change is accepted at once. -/
def execContactInputEdge (i : Nat) (high : Bool) (tick : Nat) (s : State) : Host.Outcome State Fault Refusal :=
  .next (
    if 15 < i then s
    else
      let s := { s with tick := max s.tick tick }
      let s := s.setFld .CMD_IN_STATE_pin 0 (setBit (s.fld .CMD_IN_STATE_pin 0) i high)
      if s.isInput i then
        let on := xor high ((s.contact i).any (·.invert))
        if on = s.inputOn i then { s with cmd := { s.cmd with edges := tdel i s.cmd.edges } }
        else
          let s := { s with cmd := { s.cmd with edges := tset i (high, tick) s.cmd.edges } }
          if s.fld .CMD_CT_CFG_debounce i = 0 then s.acceptInput i else s
      else s)

/-- COMMAND_REFRESH: `refresh_ms` after the last message of the group the current one is sent again with the same `seq`
(R430). -/
def execCommandRefresh (g : Nat) (s : State) : Host.Outcome State Fault Refusal :=
  .next (match s.groupItem g with
    | none => s
    | some i =>
      if (s.group g).built = true ∧ i.refreshMs ≠ 0 then (s.reach ((s.group g).sentAt + msTicks i.refreshMs)).sendGroup g else s)

/-- An output. -/
def State.outPin (s : State) (i : Nat) : OutPin := tget {} i s.cmd.outs

/-- Store an output and drive its contact (R428, R434). -/
def State.setOut (s : State) (i : Nat) (o : OutPin) : State :=
  let s := { s with cmd := { s.cmd with outs := tput {} i o s.cmd.outs } }
  let s := s.setFld .CMD_OUT_STATE_active 0 (setBit (s.fld .CMD_OUT_STATE_active 0) i (o.forced.getD o.active))
  s.setFld .CMD_OUT_STATE_forced 0 (setBit (s.fld .CMD_OUT_STATE_forced 0) i o.forced.isSome)

/-- A bit applied to an output at a tick (R433): 0 FOLLOW, 1 PULSE, 2 LATCH. -/
def OutPin.apply (o : OutPin) (mode : Nat) (b : Bool) (tick : Nat) : OutPin :=
  match mode with
  | 1 =>
    if b ∧ o.last = false ∧ o.pulse = false then { o with active := true, pulse := true, pulseAt := tick, last := true }
    else { o with last := b }
  | _ => { o with active := b, last := b, watched := false }

/-- A command message of a group is applied to its outputs, restarts the watchdog or is dropped as behind (R432). -/
def State.applyCommand (s : State) (g : Nat) (msg : List Byte) : State :=
  if msg.length ≠ 8 ∨ beAt msg 0 1 ≠ 0xC1 ∨ beAt msg 1 1 ≠ 1 then s.bump .CMD_CNT_cmd_bad 0
  else
    let seq := beAt msg 2 2
    let valid := beAt msg 4 2
    let st := beAt msg 6 2
    let c := s.group g
    let d := (seq + 65536 - c.rxSeq.getD 0) % 65536
    let all := s.groupOutputs g
    let outs := all.filter (fun o => bit valid o.bitpos)
    if c.rxSeq.isNone ∨ (1 ≤ d ∧ d ≤ 32767) then
      let s := s.setGroup g { c with rxSeq := some seq, seen := true, rxAt := s.tick }
      let s := all.foldl (fun s o => s.setOut o.contact { s.outPin o.contact with watched := false }) s
      outs.foldl (fun s o => s.setOut o.contact ((s.outPin o.contact).apply o.mode (bit st o.bitpos) s.tick)) s
    else if d = 0 then
      let s := s.setGroup g { c with rxAt := s.tick }
      outs.foldl (fun s o =>
        let p := s.outPin o.contact
        if o.mode = 0 ∧ p.watched then s.setOut o.contact (p.apply 0 (bit st o.bitpos) s.tick) else s) s
    else s.bump .CMD_CNT_cmd_stale 0

/-- COMMAND_MESSAGE (R432). -/
def execCommandMessage (g : Nat) (msg : List Byte) (s : State) : Host.Outcome State Fault Refusal :=
  .next (if g < 16 then s.applyCommand g msg else s)

/-- The event data of an output: group and bit. -/
def outData (c : ContactItem) : Nat := c.group + 256 * c.bitpos

/-- CMD_WATCH: no message of the group for `watch_ms` (R433). -/
def execCmdWatch (i : Nat) (s : State) : Host.Outcome State Fault Refusal :=
  .next (match s.contact i with
    | none => s
    | some c =>
      let o := s.outPin i
      if c.function ≠ 2 ∨ c.mode ≠ 0 ∨ c.watchMs = 0 ∨ o.watched ∨ (s.group c.group).seen = false then s
      else
        let s := s.reach ((s.group c.group).rxAt + msTicks c.watchMs)
        let s := (s.setOut i { o with active := false, watched := true }).bump .CMD_CNT_watch_exp 0
        s.log 0x4101 (s.contactOwner i) i (outData c))

/-- PULSE_END: `pulse_ms` after its start the pulse ends (R433). -/
def execPulseEnd (i : Nat) (s : State) : Host.Outcome State Fault Refusal :=
  .next (
    let o := s.outPin i
    if o.pulse then
      (s.reach (o.pulseAt + msTicks (((s.contact i).map (·.pulseMs)).getD 0))).setOut i { o with active := false, pulse := false }
    else s)

/-- Forcing ends (R3, R434): the force timer is cleared and CMD_FORCE_END logged; `data` names the output's group and bit. -/
def State.endForceAs (s : State) (i data : Nat) : State :=
  let o := s.outPin i
  if o.forced.isNone then s
  else (s.setOut i { o with forced := none, forceEnd := 0 }).log 0x4102 (s.contactOwner i) i data

/-- Forcing of an output of the pattern in service ends. -/
def State.endForce (s : State) (i : Nat) : State := s.endForceAs i (((s.contact i).map outData).getD 0)

/-- CMD_FORCE_END: the forced time ends (R434). -/
def execCmdForceEnd (i : Nat) (s : State) : Host.Outcome State Fault Refusal :=
  .next (if (s.outPin i).forced.isNone then s else (s.reach (s.outPin i).forceEnd).endForce i)

/-- A contact named by a panel (R436). -/
def conCmd (s : State) (p i : Nat) (k : State × Option Resp) : State × Option Resp :=
  if 15 < i then refuse s .badArg else if p ≠ 0 ∧ s.contactOwner i ≠ p then refuse s .denied else k

/-- `CMD_CT_CFG` of a contact. -/
def State.contactWord (s : State) (i : Nat) : Nat :=
  s.fld .CMD_CT_CFG_function i + 4 * s.fld .CMD_CT_CFG_mode i + 16 * s.fld .CMD_CT_CFG_invert i
    + 256 * s.fld .CMD_CT_CFG_debounce i

/-- CMD_QUERY (R436). -/
def opCmdQuery (p i : Nat) (s : State) : State × Option Resp :=
  conCmd s p i (s, some ⟨.ok, [s.fld .CMD_IN_STATE_asserted 0 + 65536 * s.fld .CMD_IN_STATE_pin 0,
    s.fld .CMD_OUT_STATE_active 0 + 65536 * s.fld .CMD_OUT_STATE_forced 0, s.contactWord i].flatMap (le 4)⟩)

/-- CMD_FORCE, an expert command (R74, R436). -/
def opCmdForce (p i level ms : Nat) (s : State) : State × Option Resp :=
  if 1 < level ∨ ms = 0 ∨ 60000 < ms then refuse s .badArg
  else conCmd s p i (
    if s.expertOk p = false then refuse s .denied
    else if s.isOutput i = false then refuse s .badArg
    else (s.setOut i { s.outPin i with forced := some (level == 1), forceEnd := s.tick + msTicks ms }, some (rsp .ok)))

/-- CMD_RELEASE (R436). -/
def opCmdRelease (p i : Nat) (s : State) : State × Option Resp :=
  conCmd s p i (
    if s.isOutput i = false then refuse s .badArg
    else if (s.outPin i).forced.isNone then refuse s .badState
    else (s.endForce i, some (rsp .ok)))

/-- CMD_QUERY. -/
def execCmdQuery (c : Cmd) (i : Nat) (s : State) : Host.Outcome State Fault Refusal :=
  .next (ohi s c 0x4101 (opCmdQuery c.pnl i s))

/-- CMD_FORCE; the time is in ms. -/
def execCmdForce (c : Cmd) (i state secs : Nat) (s : State) : Host.Outcome State Fault Refusal :=
  .next (ohi s c 0x4102 (opCmdForce c.pnl i state secs s))

/-- CMD_RELEASE. -/
def execCmdRelease (c : Cmd) (i : Nat) (s : State) : Host.Outcome State Fault Refusal :=
  .next (ohi s c 0x4103 (opCmdRelease c.pnl i s))

/-- The contacts at the seal of a pattern (R434): one whose item is unchanged keeps its state, a forcing of another ends (R3).
`old` is the section before. -/
def State.sealContacts (s : State) (old : ContactSec) : State :=
  let s := forAll (List.range 16) (fun i s =>
    let c := s.contact i
    let o := old.contacts.find? (fun x => x.contact == i)
    if o = c then s
    else
      let s := (s.endForceAs i ((o.map outData).getD 0)).setOut i {}
      let high := bit (s.fld .CMD_IN_STATE_pin 0) i
      let s := { s with cmd := { s.cmd with
        edges := if c.any (fun (x : ContactItem) => x.function == 1 && xor high x.invert) then tset i (high, s.tick) s.cmd.edges
          else tdel i s.cmd.edges
        changed := tdel i s.cmd.changed } }
      let s := s.setFld .CMD_IN_STATE_asserted 0 (setBit (s.fld .CMD_IN_STATE_asserted 0) i false)
      let s := (s.setFld .CMD_CT_CFG_function i ((c.map (·.function)).getD 0)).setFld .CMD_CT_CFG_mode i
        ((c.map (·.mode)).getD 0)
      (s.setFlag .CMD_CT_CFG_invert i (c.any (·.invert))).setFld .CMD_CT_CFG_debounce i ((c.map (·.debounce)).getD 0)) s
  forAll (List.range 16) (fun g s => s.setGroup g { s.group g with rxSeq := none }) s

end Sys2Proof.Machine
end

