-- ==== Sys2Proof/Machine/Rs.lean ====
section
/-! DEFINITION. Chapter 11, the code of a Seam frame: the scrambler and the RS(560,528) code (R333 to R338). -/

namespace Sys2Proof.Machine

/-- Multiplication by α in GF(2^10), field polynomial x^10 + x^3 + 1 (R334). -/
def gfTimesA (a : Nat) : Nat := if a < 512 then 2 * a else (2 * a - 1024) ^^^ 9

/-- Product in GF(2^10), over the bits of the second factor. -/
def gfMul (a b : Nat) : Nat :=
  (List.range 10).foldl (fun r i => gfTimesA r ^^^ (if b.testBit (9 - i) then a else 0)) 0

/-- α^n. -/
def gfPow : Nat → Nat
  | 0 => 1
  | n + 1 => gfTimesA (gfPow n)

/-- The inverse of a nonzero element: its 1,022nd power. -/
def gfInv (a : Nat) : Nat :=
  let sq (x : Nat) : Nat := gfMul x x
  ((List.range 9).foldl (fun (p : Nat × Nat) _ => (gfMul p.1 (sq p.2), sq p.2)) (1, a)).1

/-- The value of a polynomial, lowest coefficient first. -/
def polyEval (x : Nat) : List Nat → Nat
  | [] => 0
  | c :: cs => c ^^^ gfMul x (polyEval x cs)

/-- The sum of two polynomials. -/
def polyAdd : List Nat → List Nat → List Nat
  | [], b => b
  | a, [] => a
  | a :: as, b :: bs => (a ^^^ b) :: polyAdd as bs

/-- A polynomial times x^m and a factor. -/
def polyShift (m k : Nat) (a : List Nat) : List Nat := List.replicate m 0 ++ a.map (gfMul k)

/-- The product of two polynomials. -/
def polyMul (a : List Nat) : List Nat → List Nat
  | [] => []
  | b :: bs => polyAdd (a.map (gfMul b)) (0 :: polyMul a bs)

/-- The syndromes of a word of symbols, first symbol of the highest power: c(α^0) to c(α^31) (R334). -/
def rsSyndromes (cw : List Nat) : List Nat :=
  (List.range 32).map (fun j => let a := gfPow j; cw.foldl (fun r c => gfMul a r ^^^ c) 0)

/-- The working state of the search for the error locator. -/
structure RsLoc where
  c : List Nat := [1]
  b : List Nat := [1]
  l : Nat := 0
  m : Nat := 1
  d : Nat := 1
  deriving DecidableEq, Repr

/-- The discrepancy of a locator at syndrome n. -/
def rsDelta (syn : List Nat) (st : RsLoc) (n : Nat) : Nat :=
  (List.range (st.l + 1)).foldl (fun r i => r ^^^ gfMul (st.c.getD i 0) (if i ≤ n then syn.getD (n - i) 0 else 0)) 0

/-- One step of the search. -/
def rsLocStep (syn : List Nat) (st : RsLoc) (n : Nat) : RsLoc :=
  let d := rsDelta syn st n
  if d = 0 then { st with m := st.m + 1 }
  else
    let c := polyAdd st.c (polyShift st.m (gfMul d (gfInv st.d)) st.b)
    if 2 * st.l ≤ n then { c := c, b := st.c, l := n + 1 - st.l, m := 1, d := d }
    else { st with c := c, m := st.m + 1 }

/-- The error locator of a word's syndromes and its degree. -/
def rsLocator (syn : List Nat) : RsLoc := (List.range 32).foldl (rsLocStep syn) {}

/-- The derivative of a polynomial over a field of characteristic 2. -/
def polyDeriv : List Nat → List Nat
  | [] => []
  | _ :: cs => (cs.zipIdx.map (fun (e : Nat × Nat) => if e.2 % 2 = 0 then e.1 else 0))

/-- The powers of x at which a word of 560 symbols is in error, with the error there. -/
def rsErrors (syn : List Nat) (loc : List Nat) : List (Nat × Nat) :=
  let om := (polyMul syn loc).take 32
  let dl := polyDeriv loc
  (List.range 560).filterMap (fun p =>
    let xi := gfPow ((1023 - p) % 1023)
    if polyEval xi loc = 0 then some (p, gfMul (gfPow p) (gfMul (polyEval xi om) (gfInv (polyEval xi dl)))) else none)

/-- Decode a word of 560 symbols (R334): the symbols corrected and their number; none beyond 16 symbol errors. -/
def rsDecode (cw : List Nat) : Option (List Nat × Nat) :=
  let syn := rsSyndromes cw
  if syn.all (· == 0) then some (cw, 0)
  else
    let loc := rsLocator syn
    let errs := rsErrors syn loc.c
    if 16 < loc.l ∨ errs.length ≠ loc.l then none
    else
      let fixed := cw.zipIdx.map (fun (e : Nat × Nat) => e.1 ^^^ ((errs.find? (fun x => x.1 == 559 - e.2)).map (·.2)).getD 0)
      if (rsSyndromes fixed).all (· == 0) then some (fixed, errs.length) else none

/-- The scrambler of a lane over zero input (R335): `n` bits from a register of 31 bits. -/
def laneScr (r : Nat) : Nat → List Bool
  | 0 => []
  | n + 1 =>
    let b := xor (r.testBit 30) (r.testBit 27)
    b :: laneScr ((2 * r + b2n b) % 2 ^ 31) n

/-- The 5,600 line bits of a frame with the scrambler added or taken off (R335), which starts from its `fcount` at payload bit 64. -/
def laneUnscramble (l : List Bool) : List Bool :=
  let fc := ofBitsMsb ((l.drop 24).take 40)
  l.take 64 ++ List.zipWith xor (l.drop 64) (laneScr (2 * (fc % 2 ^ 30) + 1) (l.length - 64))

/-- g(x) of R334 without its leading 1, highest power first. -/
def rsGen : List Nat :=
  (((List.range 32).foldl (fun (g : List Nat) j => polyMul g [gfPow j, 1]) [1]).take 32).reverse

/-- The register of the systematic encoder after a message symbol. -/
def rsFeed (r : List Nat) (m : Nat) : List Nat :=
  let fb := m ^^^ r.headD 0
  List.zipWith (fun a g => a ^^^ gfMul fb g) (r.drop 1 ++ [0]) rsGen

/-- The 32 parity symbols of a message (R334). -/
def rsParity (msg : List Nat) : List Nat := msg.foldl rsFeed (List.replicate 32 0)

/-- The 10-bit symbols of a bit string, first bit most significant. -/
def symbols10 : Nat → List Bool → List Nat
  | 0, _ => []
  | n + 1, l => ofBitsMsb (l.take 10) :: symbols10 n (l.drop 10)

/-- The 5,600 line bits of a frame's payload of 5,280 (R334, R335). -/
def laneEncode (p : List Bool) : List Bool := laneUnscramble (p ++ (rsParity (symbols10 528 p)).flatMap (bitsMsb 10))

/-- The payload of a frame as its 5,600 line bits are received, bit 0 first, and the symbols corrected; none where it fails
to decode (R334, R335). -/
def laneDecode (line : List Bool) : Option (List Bool × Nat) :=
  match rsDecode (symbols10 560 (laneUnscramble line)) with
  | none => none
  | some (w, n) => some ((w.take 528).flatMap (bitsMsb 10), n)

/-- A field of a payload: `n` bits from bit `o`, most significant first. -/
def pf (l : List Bool) (o n : Nat) : Nat := ofBitsMsb ((l.drop o).take n)

end Sys2Proof.Machine
end

