-- ==== Sys2Proof/Machine/LaneState.lean ====
section
/-! DEFINITION. Chapter 11, the lane: its states, calibration and alignment, what a head answers and reports, coupling
modes, and an upstream frame (R32, R114, R214, R336 to R356, R539). -/

namespace Sys2Proof.Machine

/-- The channels of a lane. -/
def laneChans (j : Nat) : List Nat := (List.range 24).map (· + 24 * j)

/-- The pattern in service uses a lane. -/
def State.laneUsed (s : State) (j : Nat) : Bool := (s.lane j).used

/-- Set a lane's state; what the state it leaves vouched for is no longer valid. -/
def State.setLaneState (s : State) (j st cause : Nat) : State :=
  let s := (s.setFld .HLK_STATUS_state j st).setFld .HLK_STATUS_cause j cause
  let s := s.setFlag .HLK_TRIM_p_valid j (st == hlkAligned)
  if st = hlkAligned ∨ st = hlkCalibrating then s
  else (s.setFlag .HLK_DELAY_d_valid j false).setFlag .HLK_RTT_rtt_valid j false

/-- The Overlock work of a lost head in flight is dropped (R539). -/
def State.olaDropHead (s : State) (j : Nat) : State :=
  let mine (d : Nat) : Bool := headOf d == j
  let entryLost (e : Nat) : Bool := [0, 1, 2].any (fun cls =>
    let k := s.olaClass cls
    let n := k.nd * 1024
    decide (k.base ≤ e) && decide (e < k.base + k.victims * n) &&
      (let v := (s.olaVictims cls).getD ((e - k.base) / (max n 1)) 255
       let d := (s.olaSlots cls v).getD ((e - k.base) % (max n 1) / 1024) 255
       mine v || mine d))
  let involves (r : Resid) : Bool := mine r.victim || r.dists.any mine
  let stale := (s.ola.resid.filter (fun r => r.cls == 2 && involves r)).length
    + (s.ola.parts.filter (fun p => mine p.ch)).length
  let s := { s with ola := { s.ola with
    writes := s.ola.writes.filter (fun w => !entryLost w.entry)
    resid := s.ola.resid.filter (fun r => !involves r)
    parts := s.ola.parts.filter (fun p => !mine p.ch) } }
  s.bumpN .OLA_ERR_CNT_err_stale 0 stale

/-- Slots in which a channel has a transmission committed or under way, sync symbols of the slots already built included. -/
def State.txSlots (s : State) (ch : Nat) : List Nat :=
  let k := s.grid.slot
  ((s.grid.committed ++ s.grid.launched).filter (fun f => f.ch == ch)).flatMap (fun f =>
    (List.range f.len).map (· + f.slot))
    ++ (if s.syncMember 2 ch then [k, k + 1, k + 2].filter s.isDnSync else [])

/-- Symbols of the slot in progress and the two after it are precoded already: their terms for a head that is lost stay in them
(R214), with the cells they were built from. -/
def State.keepTerms (s : State) (j : Nat) : State :=
  let k := s.grid.slot
  let terms := (s.olaVictims 2).zipIdx.flatMap (fun (e : Nat × Nat) =>
    if headOf e.1 = j ∨ s.olaOn 2 = false then [] else
      ((s.olaSlots 2 e.1).zipIdx.filter (fun (d : Nat × Nat) => headOf d.1 == j && pairActive (s.pair 2 e.2 d.2))).map
        (fun (d : Nat × Nat) => (⟨e.1, d.1, k + 2, (carrierRange 74 1097).map (fun c => (c, s.coefWord 2 e.2 d.2 c))⟩ : PrecTerm)))
  { s with ola := { s.ola with
      terms := s.ola.terms ++ terms
      ghosts := s.ola.ghosts ++ s.grid.onAir.filter (fun a => headOf a.ch == j)
      ghostTx := s.ola.ghostTx ++ s.grid.committed.filter (fun f => headOf f.ch == j && f.kind != .prs && decide (f.slot ≤ k + 2)) } }

/-- A lane is lost (R32, R214, R352, R353, R539): it leaves ALIGNED for another state with a cause. -/
def State.laneLost (s : State) (j st cause : Nat) : State :=
  let k := s.grid.slot
  let tx := (laneChans j).flatMap (fun ch =>
    ((s.txSlots ch).filter (fun n => decide (k ≤ n) && decide (n ≤ k + 2))).map (fun n => (ch, n)))
  let s := (s.setLaneState j st cause).bump .HLK_LOSS_CNT_lost j
  let s := s.log 0x0801 noPanel j cause
  let s := s.updLane j (fun l => { l with enabled := false, pAck := none, calBad := 0, lostSlot := some k, lostTx := tx })
  let s := ((s.keepTerms j).dropCtl j).olaDropHead j
  let s := { s with grid := { s.grid with symbols := s.grid.symbols.map (fun x =>
    if headOf x.ch = j then { x with erased := true, y := [], z1 := [], extra := [] } else x) } }
  (laneChans j).foldl (fun s ch =>
    let s := (((s.discardFrames ch).olaEmpty ch).gaugeLaneLost ch).updChan ch (fun c => { c with rx := {} })
    if s.effState ch = chOff ∨ (s.chanItem ch).isNone then s else s.requestState ch chFault 1) s

/-- A lane that is not ALIGNED changes state: no loss is counted. -/
def State.laneFallBack (s : State) (j st cause : Nat) : State :=
  ((s.setLaneState j st cause).updLane j (fun l => { l with enabled := false, pAck := none, calBad := 0 })).dropCtl j

/-- A lane leaves the state it is in for LOCKING, DOWN or FAULT. -/
def State.laneLeave (s : State) (j st cause : Nat) : State :=
  let s := if s.laneState j = hlkAligned then s.laneLost j st cause else s.laneFallBack j st cause
  s.updLane j (fun l => { l with good := 0, bad := 0, lastCount := none })

/-- SIGNAL_AND_SYMBOL_LOCK: a lane in DOWN enters LOCKING (R352). -/
def execSignalAndSymbolLock (lane : Nat) (s : State) : Host.Outcome State Fault Refusal :=
  .next (
    let s := s.updLane lane (fun l => { l with signal := true })
    if s.laneState lane = hlkDown then s.laneLeave lane hlkLocking (s.fld .HLK_STATUS_cause lane) else s)

/-- Enter CALIBRATING: the head's registers are read (R352). -/
def State.startCalib (s : State) (j : Nat) : State :=
  let s := s.setLaneState j hlkCalibrating (s.fld .HLK_STATUS_cause j)
  let s := s.updLane j (fun l => { l with latRead := false, pAck := none, enabled := false, calBad := 0 })
  [0x0, 0x4, 0x8, 0xC].foldl (fun s a => s.sendCtl j false a 0 .calib) s

/-- FRAME_LOCK: 8 good frames in succession (R336). -/
def execFrameLock (lane : Nat) (s : State) : Host.Outcome State Fault Refusal :=
  .next (if s.laneState lane = hlkLocking ∧ 8 ≤ (s.lane lane).good then s.startCalib lane else s)

/-- The lane has frame lock to lose: CALIBRATING or ALIGNED. -/
def State.laneLocked (s : State) (j : Nat) : Bool := s.laneState j == hlkCalibrating || s.laneState j == hlkAligned

/-- FRAME_LOCK_LOST: 4 bad frames in succession (R353). -/
def execFrameLockLost (lane : Nat) (s : State) : Host.Outcome State Fault Refusal :=
  .next (if s.laneLocked lane ∧ 4 ≤ (s.lane lane).bad then s.laneLeave lane hlkLocking 2 else s)

/-- LOSS_OF_SIGNAL (R353). A lane in FAULT stays there. -/
def execLossOfSignal (lane : Nat) (s : State) : Host.Outcome State Fault Refusal :=
  .next (
    let s := s.updLane lane (fun l => { l with signal := false })
    if s.laneLocked lane ∨ s.laneState lane = hlkLocking then s.laneLeave lane hlkDown 1 else s)

/-- The lane enters FAULT with a cause (R343 to R345, R352). -/
def State.laneFault (s : State) (j cause : Nat) : State :=
  (s.laneLeave j hlkFault cause).updLane j (fun l => { l with faultAt := s.tick })

/-- Send a coupling mode to the head (R114, R213, R349): from now until it confirms, the mode change is pending. -/
def State.sendCoupling (s : State) (ch mode : Nat) : State :=
  let s := (s.setFlag .CHN_STATUS_coupling_pending ch true).updChan ch (fun c => { c with cplMode := some mode, cplAgain := false })
  let s := s.olaEmpty ch
  if s.laneAligned (headOf ch) then s.sendCtl (headOf ch) true (slotReg ch 0) (mode + 4) (.coupling ch) else s

/-- The head confirmed a coupling mode (R114): it is in force from the next slot boundary (R31). -/
def State.couplingDone (s : State) (ch : Nat) : State :=
  if (s.chan ch).cplMode.isSome then s.request (.coupled ch true) else s

/-- A confirmed coupling mode comes into force. -/
def State.couplingOn (s : State) (ch : Nat) : State :=
  match (s.chan ch).cplMode with
  | none => s
  | some m =>
    let changed := decide (s.fld .CHN_STATUS_coupling ch ≠ m)
    let s := (s.setFlag .CHN_STATUS_coupling_pending ch false).setFld .CHN_STATUS_coupling ch m
    let s := s.updChan ch (fun c => { c with
      cplMode := none, cplFail := c.cplFail && c.cplAgain, cplAgain := false, quietOk := c.quietOk && !changed })
    if changed then
      let s := if s.flag .CHN_HEM_STATUS_theta_valid ch then s else s.dropTheta ch
      s.invalidate ch 3 false
    else s

/-- The head refused a mode, or did not answer (R114, R349). -/
def State.couplingFailed (s : State) (ch : Nat) : State :=
  match (s.chan ch).cplMode with
  | none => s
  | some _ =>
    let s := (s.setFlag .CHN_STATUS_coupling_pending ch false).updChan ch (fun c => { c with cplMode := none, cplFail := true })
    s.requestState ch chFault 2

/-- The message writes a slot's coupling mode. -/
def CtlWhy.isCoupling (w : CtlWhy) : Bool :=
  match w with
  | .coupling _ => true
  | _ => false

/-- COUPLING_TIMEOUT: 200 ms without an answer (R349): the change counts as refused. -/
def execCouplingTimeout (ch : Nat) (s : State) : Host.Outcome State Fault Refusal :=
  .next (
    let j := headOf ch
    let mine (m : CtlMsg) : Bool := m.why == .coupling ch
    let l := s.lane j
    if l.out.any mine || l.queue.any mine then
      let s := s.reach ((((l.out.find? mine).map (·.sentAt)).getD s.tick) + msTicks 200)
      (s.setLane j { l with out := l.out.filter (fun m => !mine m), queue := l.queue.filter (fun m => !mine m) }).couplingFailed ch
    else s)

/-- Hold a time of Q6 ticks in ns. -/
def q6Ns (n : Nat) : Rat := (n : Rat) * 5 / 64

/-- L_dn and L_up of R343 in ns from R and H_loop in ns and `asym` in 0.1 ns. -/
def laneLat (r hloop a : Rat) : Rat × Rat := ((r - hloop + a) / 2, (r - hloop - a) / 2)

/-- P of R343 in units of 1/64 tick. -/
def trimFor (d : Int) (ldn hdn : Rat) : Int := roundRat (((d : Rat) * 5 - ldn - hdn) * 64 / 5)

/-- ceil of a rational. -/
def ceilRat (q : Rat) : Int := -((-q).floor)

/-- A lane is aligned: its channels' coupling modes are sent to the head again (R352). The repeat is no CHN_SET_COUPLING, and clears no
refusal (R114). -/
def State.laneAlign (s : State) (j : Nat) : State :=
  let s := (s.setLaneState j hlkAligned (s.fld .HLK_STATUS_cause j)).updLane j (fun l => { l with lostSlot := none, lostTx := [] })
  (laneChans j).foldl (fun s ch =>
    let s := match s.chanItem ch with
      | none => s
      | some _ =>
        let again := (s.chan ch).cplMode.isNone
        (s.sendCoupling ch (((s.chan ch).cplMode).getD (s.fld .CHN_STATUS_coupling ch))).updChan ch (fun c => { c with cplAgain := again })
    s.gaugeLaneUp ch) s

/-- The first calibration of a lane (R343, R344): D, P and U_cal are derived and P is written. -/
def State.laneCalibrate (s : State) (j : Nat) (r : Rat) : State :=
  let hdn := q6Ns (s.fld .HLK_HEAD_LAT_h_dn j)
  let hloop := q6Ns (s.fld .HLK_HEAD_LAT_h_loop j)
  let a : Rat := ((signed 16 (s.fld .HLK_CFG_asym j) : Int) : Rat) / 10
  let (ldn, lup) := laneLat r hloop a
  let d := roundRat ((ldn + hdn) / 5) + 8
  let p := trimFor d ldn hdn
  let u := hloop - hdn - (p : Rat) * 5 / 64 + lup
  let ucal := ceilRat (u / 5) + s.fld .HLK_CFG_drift_allow j
  if 2400 < d ∨ 2400 < ucal ∨ (s.flag .HLK_ALIGN_a_valid 0 ∧ (s.grid.a : Int) < ucal) then s.laneFault j 5
  else
    let s := ((s.setFld .HLK_DELAY_d_adv j d.toNat).setFld .HLK_DELAY_u_cal j ucal.toNat).setFlag .HLK_DELAY_d_valid j true
    (s.setFld .HLK_TRIM_p_target j p.toNat).sendCtl j true headTrim p.toNat .trim

/-- A lane that is ALIGNED is tracked (R345). -/
def State.laneTrack (s : State) (j : Nat) (r : Rat) : State :=
  let hdn := q6Ns (s.fld .HLK_HEAD_LAT_h_dn j)
  let hloop := q6Ns (s.fld .HLK_HEAD_LAT_h_loop j)
  let a : Rat := ((signed 16 (s.fld .HLK_CFG_asym j) : Int) : Rat) / 10
  let (ldn, lup) := laneLat r hloop a
  let p := trimFor (s.fld .HLK_DELAY_d_adv j) ldn hdn
  let u := hloop - hdn - (p : Rat) * 5 / 64 + lup
  if p < 32 ∨ 992 < p then s.laneFault j 4
  else if 5 * (s.fld .HLK_DELAY_u_cal j : Rat) < u then s.laneFault j 5
  else
    let s := s.setFld .HLK_TRIM_p_target j p.toNat
    let l := s.lane j
    match l.pAck with
    | some q =>
      if (l.out ++ l.queue).any (fun m => m.why == .trim) ∨ q = p.toNat then s
      else s.sendCtl j true headTrim (if q < p.toNat then q + 1 else q - 1) .trim
    | none => s

/-- Every register asked of the head in CALIBRATING was read. -/
def Lane.readsDone (l : Lane) : Bool := l.latRead && !(l.out ++ l.queue).any (fun m => m.why == .calib)

/-- LANE_RECALCULATE: 1,024 round trips in 1/64 tick (R343, R345). -/
def execLaneRecalculate (lane : Nat) (rtts : List Nat) (s : State) : Host.Outcome State Fault Refusal :=
  .next (
    if rtts.length ≠ 1024 ∨ s.laneLocked lane = false then s
    else
      let sum := rtts.foldl (· + ·) 0
      let r : Rat := q6Ns sum / 1024
      let s := (s.setFld .HLK_RTT_rtt lane (roundDiv sum 1024).toNat).setFlag .HLK_RTT_rtt_valid lane true
      if s.laneState lane = hlkAligned then s.laneTrack lane r
      else if (s.lane lane).readsDone ∧ s.flag .HLK_DELAY_d_valid lane = false then s.laneCalibrate lane r
      else s)

/-- Fix A (R344) and show it in every instance. -/
def State.fixAlign (s : State) (a : Nat) : State :=
  forAll (List.range 8) (fun j s => (s.setFld .HLK_ALIGN_a_ticks j a).setFlag .HLK_ALIGN_a_valid j true)
    { s with grid := { s.grid with a := a } }

/-- ALIGNMENT_DELAY_FIX (R344): every used lane is ALIGNED, or 1 s has passed since the seal. -/
def execAlignmentDelayFix (s : State) : Host.Outcome State Fault Refusal :=
  .next (
    let used := (List.range 8).filter s.laneUsed
    let up := used.filter s.laneAligned
    if s.isSealed = false ∨ s.flag .HLK_ALIGN_a_valid 0 ∨ used = []
        ∨ (up.length < used.length ∧ s.tick < s.gau.sealTick + 200000000) then s
    else if up = [] then s.fixAlign 2400
    else s.fixAlign ((up.map (fun j => s.fld .HLK_DELAY_u_cal j)).foldl max 0))

/-- LANE_FAULT_RETRY: 1 s after a FAULT of cause 0x4 or 0x7 (R352). -/
def execLaneFaultRetry (lane : Nat) (s : State) : Host.Outcome State Fault Refusal :=
  .next (
    let c := s.fld .HLK_STATUS_cause lane
    if s.laneState lane = hlkFault ∧ (c = 4 ∨ c = 7) then
      (s.reach ((s.lane lane).faultAt + 200000000)).laneLeave lane hlkLocking c
    else s)

/-- HLK_REALIGN (R353, R358): a lane in FAULT keeps its cause (R352). -/
def opHlkRealign (p j : Nat) (s : State) : State × Option Resp :=
  hlkCmd s p j (
    if s.laneState j = hlkAligned then (s.laneLeave j hlkLocking 8, some (rsp .ok))
    else if s.laneState j = hlkFault then (s.laneLeave j hlkLocking (s.fld .HLK_STATUS_cause j), some (rsp .ok))
    else refuse s .badState)

/-- HLK_REALIGN. -/
def execHlkRealign (c : Cmd) (lane : Nat) (s : State) : Host.Outcome State Fault Refusal :=
  .next (ohi s c 0x0804 (opHlkRealign c.pnl lane s))

/-- What the head's registers tell in CALIBRATING (R352, R357). -/
def State.calibRead (s : State) (j addr data : Nat) : State :=
  if addr = 0x0 then s.updLane j (fun l => { l with headId := data })
  else if addr = 0x4 then
    let s := s.updLane j (fun l => { l with headVer := data })
    if data % 256 = 1 then s else s.laneFault j 6
  else if addr = 0x8 then
    let s := s.updLane j (fun l => { l with caps := data })
    let s := (laneChans j).foldl (fun s ch => s.setFlag .GAU_CH_STATUS_no_gauge ch (!bit data 28)) s
    ((List.range 24).filter (bit data)).foldl (fun s k =>
      (s.sendCtl j false (slotReg (24 * j + k) 4) 0 .calib).sendCtl j false (slotReg (24 * j + k) 0xC) 0 .calib) s
  else if addr = 0xC then
    ((s.setFld .HLK_HEAD_LAT_h_dn j (data % 65536)).setFld .HLK_HEAD_LAT_h_loop j (data / 65536)).updLane j
      (fun l => { l with latRead := true })
  else
    let ch := 24 * j + (addr - 0x100) / 16
    let v := (data % 65536, data / 65536 % 65536)
    if addr % 16 = 4 then { s with hlk := { s.hlk with slotLat := tset ch v s.hlk.slotLat } }
    else { s with hlk := { s.hlk with slotRef := tset ch v s.hlk.slotRef } }

/-- The outstanding message of a lane with a tag. -/
def State.ctlMsg (s : State) (j tag : Nat) : Option CtlMsg := (s.lane j).out.find? (fun m => m.tag == tag)

/-- A READ_RSP (R341): a message that is not outstanding is answered no more. -/
def State.takeReadRsp (s : State) (j tag data : Nat) : State :=
  match s.ctlMsg j tag with
  | none => s
  | some m =>
    if m.write then s
    else
      let s := s.updLane j (fun l => l.answered tag s.tick)
      match m.why with
      | .calib => if s.laneState j = hlkCalibrating then s.calibRead j m.addr data else s
      | .host c op => s.completeCmd c op ⟨.ok, le 4 data⟩
      | _ => s

/-- A WRITE_ACK (R341). -/
def State.takeWriteAck (s : State) (j tag : Nat) : State :=
  match s.ctlMsg j tag with
  | none => s
  | some m =>
    if !m.write then s
    else
      let s := s.updLane j (fun l => l.answered tag s.tick)
      match m.why with
      | .trim =>
        let s := s.updLane j (fun l => { l with pAck := some (m.data % 1024) })
        if s.laneState j = hlkCalibrating then s.sendCtl j true headCtrl 1 .enable else s
      | .enable =>
        let s := s.updLane j (fun l => { l with enabled := true })
        if s.laneState j = hlkCalibrating then s.laneAlign j else s
      | .coupling ch => s.couplingDone ch
      | .check ch => s.checkDrive ch
      | .host c op => s.completeCmd c op (rsp .ok)
      | _ => s

/-- A NAK (R340, R349, R358). -/
def State.takeNak (s : State) (j tag cause : Nat) : State :=
  match s.ctlMsg j tag with
  | none => s
  | some m =>
    let s := s.updLane j (fun l => l.answered tag s.tick)
    match m.why with
    | .coupling ch => s.couplingFailed ch
    | .host c op => s.completeCmd c op ⟨.fault, [byte cause]⟩
    | _ => s

/-- An EVENT of the head: its code, the newest 16 kept. -/
def State.takeEvent (s : State) (j code : Nat) : State :=
  s.updLane j (fun l => { l with events := (code :: l.events).take 16 })

/-- READ_RSP. -/
def execReadRsp (lane tag addr data : Nat) (s : State) : Host.Outcome State Fault Refusal :=
  let _ := addr
  .next (s.takeReadRsp lane tag data)

/-- WRITE_ACK. -/
def execWriteAck (lane tag addr : Nat) (s : State) : Host.Outcome State Fault Refusal :=
  let _ := addr
  .next (s.takeWriteAck lane tag)

/-- NAK. -/
def execNak (lane tag cause : Nat) (s : State) : Host.Outcome State Fault Refusal :=
  .next (s.takeNak lane tag cause)

/-- EVENT. -/
def execEvent (lane code : Nat) (s : State) : Host.Outcome State Fault Refusal :=
  .next (s.takeEvent lane code)

/-- CONTROL_REPEAT: 128 frames without an answer: a message is repeated, and after the third repeat goes unanswered the lane is lost
(R341). A write to `SLOT_COUPLING` has the time of R349. -/
def execControlRepeat (lane tag : Nat) (s : State) : Host.Outcome State Fault Refusal :=
  .next (match s.ctlMsg lane tag with
    | none => s
    | some m =>
      if m.why.isCoupling = true then s
      else
        let s := s.reach (m.sentAt + 1280)
        if m.repeats < 3 then
          let again (x : CtlMsg) : CtlMsg := { x with repeats := x.repeats + 1, sentAt := s.tick }
          s.updLane lane (fun l => { l with out := updFirst (fun x => x.tag == tag) again l.out, toSend := l.toSend ++ [tag] })
        else (s.bump .HLK_LOSS_CNT_ctl_timeout lane).laneLeave lane hlkLocking 3)

/-- The head refused a ramp of a slot in a frame's ticks (R37, R114, R348): the frame on that channel is discarded. -/
def State.rampRefused (s : State) (ch tick : Nat) : State :=
  let covers (f : Frame) : Bool := f.ch == ch && decide (s.slotTick f.slot ≤ tick) && decide (tick < s.slotTick (f.slot + f.len))
  match (s.grid.launched ++ s.grid.committed).find? covers with
  | none => s
  | some f =>
    let s := (s.discardFrame f).bump .CHN_TX_DISCARD_CNT_ramp_refused ch
    let n := (s.chan ch).rampRefusals + 1
    let s := s.updChan ch (fun c => { c with rampRefusals := n })
    if 4 ≤ n ∧ s.effState ch ≠ chOff ∧ s.effState ch ≠ chFault then s.requestState ch chFault 3 else s

/-- The status fields of an upstream frame (R337, R345, R348, R355). -/
def State.laneFields (s : State) (j first : Nat) (p : List Bool) : State :=
  let hs := pf p 3640 16
  let s := s.updLane j (fun l => { l with
    clip := ofBitsMsb ((p.drop 3544).take 24).reverse, paOn := ofBitsMsb ((p.drop 3568).take 24).reverse
    slotFault := ofBitsMsb ((p.drop 3616).take 24).reverse, headState := hs })
  let s := if bit hs 1 then s.bump .HLK_LOSS_CNT_ds_err j else s
  let s := ((List.range 24).filter (fun k => (p.drop 3592).getD k false)).foldl
    (fun s k => s.rampRefused (24 * j + k) first) s
  let echo := pf p 3656 16
  let s := s.setFld .HLK_TRIM_p_head j (echo % 1024)
  if s.laneState j = hlkAligned ∧ bit echo 15 then
    match (s.lane j).pAck with
    | none => s
    | some q =>
      if q = echo % 1024 then s.updLane j (fun l => { l with calBad := 0 })
      else
        let s := s.bump .HLK_LOSS_CNT_cal_err j
        let n := (s.lane j).calBad + 1
        let s := s.updLane j (fun l => { l with calBad := n })
        if 2 ≤ n then s.laneFault j 7 else s
  else s

/-- One gauge word of an upstream frame (R339): word bit 29 first. -/
def State.laneGauge (s : State) (j last : Nat) (w : Nat) : State :=
  if bit w 29 ∧ bits w 24 5 < 24 then
    s.gaugeWord (24 * j + bits w 24 5) (bits w 23 1) (bits w 20 3) (bits w 18 2) (bit w 17) (bit w 16) (signed 16 (bits w 0 16)) last
  else s

/-- One control message of an upstream frame (R340), bit 95 first. -/
def State.laneControl (s : State) (j m : Nat) : State :=
  let tag := bits m 84 8
  match bits m 92 4 with
  | 0x8 => s.takeReadRsp j tag (bits m 36 32)
  | 0x9 => s.takeWriteAck j tag
  | 0xA => s.takeNak j tag (bits m 36 8)
  | 0xF => s.takeEvent j (bits m 36 16)
  | _ => s

/-- The frame a 40-bit counter names: the one nearest the tick counter (R333). -/
def State.frameIndex (s : State) (fc : Nat) : Nat :=
  let e := s.tick / 10
  ((e : Int) + signed 40 ((fc + 2 ^ 40 - e % 2 ^ 40) % 2 ^ 40)).toNat

/-- Samples of a channel go to its pipe and to Cast alike (R26, R379). -/
def State.takeSamples (s : State) (ch first : Nat) (xs : List Int) (gap : Bool) : State :=
  (s.updChan ch (fun c => { c with rx := c.rx.add first xs })).castIn ch first xs gap

/-- The receive samples of a frame (R26, R337, R380). -/
def State.laneSamples (s : State) (j first : Nat) (p : List Bool) : State :=
  (List.range 24).foldl (fun s k =>
    s.takeSamples (24 * j + k) first ((List.range 10).map (fun i => signed 14 (pf p (64 + 14 * (24 * i + k)) 14))) false) s

/-- What a good frame brings a lane in CALIBRATING or ALIGNED. -/
def State.laneTake (s : State) (j : Nat) (p : List Bool) : State :=
  let first := 10 * s.frameIndex (pf p 24 40)
  let s := { s with tick := max s.tick first }
  let up := s.laneState j == hlkAligned
  let s := if up then s.laneSamples j first p else s
  let s := if up then (List.range 4).foldl (fun s i => s.laneGauge j (first + 9) (pf p (3424 + 30 * i) 30)) s else s
  let s := s.laneFields j first p
  (List.range 2).foldl (fun s i => if s.laneLocked j then s.laneControl j (pf p (3672 + 96 * i) 96) else s) s

/-- A frame that failed on a lane (R355): while ALIGNED its samples are 0 and Cast marks a gap. -/
def State.laneBad (s : State) (j : Nat) : State :=
  if s.laneState j = hlkAligned then
    match (s.lane j).lastCount with
    | none => s
    | some n =>
      let first := 10 * s.frameIndex n
      let s := s.updLane j (fun l => { l with zeroed := (first :: l.zeroed).take 4096 })
      (laneChans j).foldl (fun s ch => s.takeSamples ch first (List.replicate 10 0) true) s
  else s

/-- The runs of good and bad frames, and the counter the next frame should carry (R336, R353). -/
def Lane.count (l : Lane) (fc : Option Nat) : Lane :=
  match fc with
  | none => { l with good := 0, bad := l.bad + 1, lastCount := l.lastCount.map (fun n => (n + 1) % 2 ^ 40) }
  | some n =>
    let follows := l.lastCount.all (fun k => (k + 1) % 2 ^ 40 == n)
    { l with good := if follows then l.good + 1 else 1, bad := 0, lastCount := some n }

end Sys2Proof.Machine
end

