-- ==== Sys2Proof/Machine/Faults.lean ====
section
/-! DEFINITION. Chapters 15 and 20: Bobbins and their roles, stacked memory, the flash log, and what a unit that fails
takes with it (R120, R149, R152, R437 to R458, R537). -/

namespace Sys2Proof.Machine

/-- The block types of RST_BLOCK (R488): pipe. -/
def blkPipe : Nat := 0
/-- Bobbin. -/
def blkBob : Nat := 1
/-- Lane. -/
def blkLane : Nat := 2
/-- Host port. -/
def blkHost : Nat := 3
/-- Serial port. -/
def blkSer : Nat := 4
/-- Viterbi unit. -/
def blkVit : Nat := 5
/-- LDPC unit. -/
def blkLdpc : Nat := 6

/-- A unit is fenced off. -/
def State.isFenced (s : State) (typ idx : Nat) : Bool := s.rst.fenced.contains (typ, idx)

/-- Fence a unit off. -/
def State.fence (s : State) (typ idx : Nat) : State :=
  if s.isFenced typ idx then s else { s with rst := { s.rst with fenced := s.rst.fenced ++ [(typ, idx)] } }

/-- The capacities of R149 at the guard in force. -/
def State.showCap (s : State) : State :=
  let ns := 5 * s.ls
  (s.setFld .COD_CAP_vit_cap 0 (ns / 576 * s.fld .COD_POOL_STATUS_vit_units 0)).setFld .COD_CAP_ldpc_cap 0
    (ns / 240 * s.fld .COD_POOL_STATUS_ldpc_units 0)

/-- A decoder map names an LDPC code. -/
def ldpcMap (t : Tbl ToneMap) : Bool := t.any (fun e => decide (4 ≤ e.2.code) && decide (e.2.code ≤ 6))

/-- Without busbar duplex NEXT pairs but the self pairs stay EMPTY (R219). -/
def State.emptyNext (s : State) : State :=
  (s.olaVictims 0).zipIdx.foldl (fun (s : State) (e : Nat × Nat) =>
    (s.olaSlots 0 e.1).zipIdx.foldl (fun (s : State) (d : Nat × Nat) =>
      if d.2 = 0 ∨ (s.pair 0 e.2 d.2).st = .empty then s else s.setPair 0 e.2 d.2 .empty) s) s

/-- A feature whose offer was withdrawn stops (R73, R537). -/
def State.stopFeature (s : State) (b : Nat) : State :=
  if b = 0 then (s.emptyNext.olaShow).handDuplex
  else if b < 3 then s.olaShow.handDuplex
  else if b = 3 then
    forAll (List.range 192) (fun ch s =>
      let c := s.chan ch
      if ldpcMap c.rxMaps ∨ ldpcMap c.txMaps then s.invalidate ch 5 true else s) s
  else if b = 6 then s.olaShow.setFlag .SRG_STATUS_on 0 false
  else if b = 11 then s.setFlag .HST_STATUS_prp_on 0 false
  else s

/-- The offer of a feature is withdrawn at a slot boundary (R73, R525). -/
def State.dropFeature (s : State) (b : Nat) : State :=
  if s.offered b then (s.withdraw b).stopFeature b else s

/-- A Bobbin. -/
def State.bobbin (s : State) (b : Nat) : Bob := tget {} b s.bob.bobs

/-- Count the Bobbins that work and those in reserve. -/
def State.showBobs (s : State) : State :=
  let ok := (List.range 256).filter (fun b => !(s.bobbin b).fault)
  (s.setFld .BOB_STATUS_working 0 ok.length).setFld .BOB_STATUS_spares 0
    ((ok.filter (fun b => (s.bobbin b).role == 0)).length)

/-- Store a Bobbin. -/
def State.setBob (s : State) (b : Nat) (x : Bob) : State :=
  ({ s with bob := { s.bob with bobs := tput {} b x s.bob.bobs } }).showBobs

/-- The lowest-numbered SPARE. -/
def State.spare (s : State) : Option Nat :=
  (List.range 256).find? (fun b => (s.bobbin b).role == 0 && !(s.bobbin b).fault && (s.bobbin b).fencing.isNone)

/-- A role's work is on some Bobbin. -/
def State.roleHeld (s : State) (r : Nat) : Bool := s.bob.bobs.any (fun e => e.2.role == r && !e.2.fault)

/-- BOBBIN_FAULT: an uncorrectable error, a watchdog expiry or a lock-up (R444); the fence takes effect at the next slot
boundary. -/
def execBobbinFault (b cause : Nat) (s : State) : Host.Outcome State Fault Refusal :=
  .next (if 255 < b ∨ (s.bobbin b).fault then s else s.setBob b { s.bobbin b with fencing := some cause })

/-- A Bobbin is fenced off (R444): a CHANNEL role waits for the Hem boundary, another moves to the lowest SPARE. -/
def State.fenceBob (s : State) (b cause : Nat) : State :=
  let x := s.bobbin b
  let s := ((s.setBob b { x with fault := true, fencing := none }).fence blkBob b).log 0x4201 noPanel b cause
  if x.role = 0 then s
  else if x.role = 1 then { s with bob := { s.bob with moves := s.bob.moves ++ [b] } }
  else match s.spare with
    | some n => s.setBob n { s.bobbin n with role := x.role, share := x.share, owner := x.owner }
    | none => if s.roleHeld x.role ∨ x.role ≠ 5 then s else s.request (.offer 6)

/-- The fences due at a slot boundary. -/
def State.bobSlot (s : State) : State :=
  (s.bob.bobs.filterMap (fun e => e.2.fencing.map (fun c => (e.1, c)))).foldl (fun s e => s.fenceBob e.1 e.2) s

/-- BOB_MOVE: at the Hem boundary a SPARE takes a failed CHANNEL Bobbin's item, or its channels stop (R444). -/
def execBobMove (b : Nat) (s : State) : Host.Outcome State Fault Refusal :=
  .next (
    if s.bob.moves.contains b then
      let x := s.bobbin b
      let s := { s with bob := { s.bob with moves := s.bob.moves.erase b } }
      match s.spare with
      | some n =>
        ((s.setBob n { s.bobbin n with role := x.role, share := x.share, owner := x.owner }).setBob b
          { x with role := 0, share := false, owner := [] }).log 0x4202 noPanel b n
      | none =>
        let s := (s.setBob b { x with role := 0, share := false, owner := [] }).log 0x4203 noPanel b x.role
        (x.owner.filter (· < 192)).dedup.foldl (fun s ch =>
          if s.effState ch = chOff then s else s.requestState ch chOff 0) s
    else s)

/-- The Bobbins at a seal (R437, R442). -/
def State.sealBobs (s : State) : State :=
  let s := { s with bob := { s.bob with moves := [] } }
  (forAll (List.range 256) (fun b s =>
    let x := s.bobbin b
    match s.pat.engines.find? (fun i => i.engine == b) with
    | some i =>
      let n : Bob := { x with role := i.role, share := i.share, owner := i.owner }
      { s with bob := { s.bob with bobs := tput {} b n s.bob.bobs } }
    | none =>
      let n : Bob := { x with role := 0, share := false, owner := [] }
      { s with bob := { s.bob with bobs := tput {} b n s.bob.bobs } }) s).showBobs

/-- `BOB_ENG_DATA` of a Bobbin. -/
def State.bobWord (s : State) (b : Nat) : Nat :=
  let x := s.bobbin b
  x.role + 16 * b2n x.share + 32 * b2n x.fault + 64 * b2n (x.role == 0 || x.fault) + 256 * x.lmCe + 65536 * x.sliceWait

/-- BOB_QUERY (R458). -/
def opBobQuery (p b : Nat) (s : State) : State × Option Resp :=
  if 255 < b then refuse s .badArg else if p ≠ 0 then refuse s .denied else (s, some ⟨.ok, le 4 (s.bobWord b)⟩)

/-- HBM_QUERY (R458). -/
def opHbmQuery (p : Nat) (s : State) : State × Option Resp :=
  if p ≠ 0 then refuse s .denied
  else if s.narrow then refuse s .notPresent
  else (s, some ⟨.ok, [
    s.fld .HBM_STATUS_trained 0 + 16 * s.fld .HBM_STATUS_fenced 0 + 32 * s.fld .HBM_STATUS_self_refresh 0
      + 256 * s.fld .HBM_STATUS_temp_max 0,
    s.fld .HBM_ECC_CNT_ce 0 + 2 ^ 24 * s.fld .HBM_ECC_CNT_ue 0,
    s.fld .HBM_SCRUB_STATUS_position 0 + 2 ^ 24 * s.fld .HBM_SCRUB_STATUS_passes 0].flatMap (le 4)⟩)

/-- BOB_QUERY. -/
def execBobQuery (c : Cmd) (b : Nat) (s : State) : Host.Outcome State Fault Refusal :=
  .next (ohi s c 0x4201 (opBobQuery c.pnl b s))

/-- HBM_QUERY. -/
def execHbmQuery (c : Cmd) (s : State) : Host.Outcome State Fault Refusal :=
  .next (ohi s c 0x5001 (opHbmQuery c.pnl s))

/-- The features that need stacked memory (R524). -/
def memFeatures : List Nat := [0, 1, 2, 4, 6]

/-- Stacked memory is fenced off after a seal (R537): every channel goes to OFF, the offers that need it are withdrawn and
narrow service is offered. -/
def State.memFail (s : State) : State :=
  if s.flag .HBM_STATUS_fenced 0 then s
  else
    let s := (s.setFlag .HBM_STATUS_fenced 0 true).setFld .FEAT_OFFER_offer 0 (setBit (s.fld .FEAT_OFFER_offer 0) 14 true)
    let s := memFeatures.foldl (fun s b => if s.grid.running then s.request (.offer b) else s.dropFeature b) s
    forAll (List.range 192) (fun ch s => if s.effState ch = chOff then s else s.requestState ch chOff 0) s

/-- MEM_FENCE: a stack's interface is lost (R537). -/
def execMemFence (s : State) : Host.Outcome State Fault Refusal := .next s.memFail

/-- The region of a kind (R449). -/
def State.carve (s : State) (kind ch : Nat) : Option CarveItem :=
  s.pat.carve.find? (fun r => r.kind == kind && (r.channel == ch || ch == 0xFF))

/-- An uncorrectable burst of the coefficient table (R217): its entries count as 0 in the slot in progress, and the pair it touches,
one entry of 16 carriers, goes to EMPTY at the next boundary, counted and logged once. -/
def State.olaEcc (s : State) (addr : Nat) : State :=
  let e := (addr - ((s.carve 1 0xFF).map (·.offset)).getD 0) / 64 * 16
  let s := (List.range 3).foldl (fun s cls =>
    let k := s.olaClass cls
    let n := k.nd * 1024
    if k.base ≤ e ∧ e < k.base + k.victims * n ∧ n ≠ 0 then
      let vi := (e - k.base) / n
      let slot := (e - k.base) % n / 1024
      if (s.pair cls vi slot).st = .empty ∨ s.pairBad cls vi slot = true then s
      else
        let v := (s.olaVictims cls).getD vi 0
        ((s.request (.pair cls vi slot .empty)).bump .OLA_DIV_CNT_ecc_drop 0).log 0x2402 (s.evOwner v) v (cls + 256 * slot)
    else s) s
  { s with ola := { s.ola with bad := s.ola.bad ++ [e] } }

/-- A freely chosen element of a list: the layout of the regions of stacked memory is not stated (log 3). -/
def State.pick {α : Type} (s : State) (l : List α) : Option α × State :=
  let (v, s) := s.drawFree
  (l[v % max l.length 1]?, s)

/-- An uncorrectable read of delivery data: a message is abandoned or discarded (R265, R269, R447). -/
def State.dlvEcc (s : State) : State :=
  let (x, s) := s.pick (s.dlv.txMsgs.map (fun m => some m.mid) ++ s.dlv.done.map (fun _ => none))
  match x with
  | some (some m) => s.abandonSegs (fun g => g.mid == m)
  | some none => match s.pick s.dlv.done with
    | (some d, s) =>
      let s := match d.pool with
        | some p => s.giveDesc p
        | none => s
      ({ s with dlv := { s.dlv with done := s.dlv.done.erase d } }).bump .DLV_RX_CNT2_rx_drop 0
    | (none, s) => s
  | none => s

/-- What the client of an uncorrectable read does (R447): 0 Overlock, 1 descriptor or message data, 2 endpoint table,
3 seen-cache, 4 dormant record, 5 interleaver, 6 Cast sample, 7 logs and telemetry. -/
def State.memClient (s : State) (addr client : Nat) : State :=
  match client with
  | 0 => s.olaEcc addr
  | 1 => s.dlvEcc
  | 2 => s.bump .DLV_EP_CNT_ep_unknown 0
  | 3 =>
    let (x, s) := s.pick s.dlv.seen
    match x with
    | some e => { s with dlv := { s.dlv with seen := s.dlv.seen.erase e } }
    | none => s
  | 4 =>
    let (x, s) := s.pick ((s.drm.recs.filter (fun e => e.2.st != .free)).map (·.1))
    match x with
    | some r => (s.freeRec r).bump .DRM_MISC_CNT_lost 0
    | none => s
  | 5 =>
    match s.pat.carve.find? (fun r => r.kind == 3 && decide (r.offset ≤ addr) && decide (addr < r.offset + r.size)) with
    | none => s
    | some r =>
      let (v, s) := s.drawFree
      let mark (l : List RxCell) : List RxCell := l.modify (v / 2 ^ 16 % max 1 l.length) (fun x => { x with erased := true })
      s.updChan r.channel (fun c => { c with liCells := c.liCells.modify (v % max 1 c.liCells.length) (fun e => (e.1, mark e.2)) })
  | 6 =>
    let (x, s) := s.pick s.gau.blocks
    match x with
    | some (k, b) =>
      let (v, s) := s.drawFree
      let o := v % 1024 * 32
      let mark (e : Nat × Nat) : Nat := if o ≤ e.2 ∧ e.2 < o + 32 then e.1 ||| 2 else e.1
      { s with gau := { s.gau with blocks := tset k { b with samples := b.samples.zipIdx.map mark } s.gau.blocks } }
    | none => s
  | _ =>
    let (x, s) := s.pick s.hbm.staged
    match x with
    | some e => { s with hbm := { s.hbm with staged := s.hbm.staged.erase e } }
    | none => s

/-- HBM_UE: an uncorrectable read (R447); 16 in one Hem are a failure of stacked memory (R537). -/
def execHbmUe (addr client : Nat) (s : State) : Host.Outcome State Fault Refusal :=
  .next (
    if s.memUp = false then s
    else
      let s := (s.bump .HBM_ECC_CNT_ue 0).log 0x5001 noPanel noInst addr
      let n := s.hbm.ueHem + 1
      let s := { s with hbm := { s.hbm with ueHem := n } }
      let s := s.memClient addr client
      if 16 ≤ n then s.memFail else s)

/-- HBM_RECALIBRATION of a pseudo-channel (R455). -/
def execHbmRecalibration (pc : Nat) (s : State) : Host.Outcome State Fault Refusal :=
  .next (
    if 127 < pc ∨ s.memUp = false then s
    else
      let late := tget 0 pc s.hbm.calAt + 2 * s.fld .HBM_SCRUB_CFG_cal_s 0 * 200000000 < s.tick
      let s := { s with hbm := { s.hbm with calAt := tput 0 pc s.tick s.hbm.calAt } }
      if late then s.bump .HBM_MISC_CNT_cal_late 0 else s)

/-- The blocks of the register map, by `block_id` (R522). -/
def blocks : List Nat :=
  [0x0, 0x1, 0x2, 0x3, 0x4, 0x8, 0x10, 0x18, 0x20, 0x24, 0x28, 0x2c, 0x30, 0x34, 0x38, 0x3a, 0x3c, 0x3e, 0x40, 0x41, 0x42, 0x50, 0x60, 0x70]

/-- The RC fields of the register map. -/
def rcFlds : List Fld := (blocks.flatMap blkFlds).filter (fun F => F.info.acc == .rc)

/-- 32-bit words of a snapshot (R534): the header and one for each RC field. -/
def telWords : Nat := 4 + (rcFlds.map (fun F => F.info.n * F.info.sub)).foldl (· + ·) 0

/-- Snapshots held (R449, R534): as many as the telemetry region has room for; the newest alone in narrow service. -/
def State.keepSnaps (s : State) (l : List Snap) : List Snap :=
  if s.narrow then l.take 1
  else l.take (((s.carve 6 0xFF).map (·.size)).getD 0 / (4 * telWords))

/-- The snapshot being written takes its part of A6 in a slot (R453, R534): the bytes used. -/
def State.snapSlot (s : State) : Nat × State :=
  match s.mgmt.snapWr with
  | none => (0, s)
  | some (x, n) =>
    if s.memUp = false then (0, s)
    else
      let bud := s.pat.thimble.memBg
      if bud < n then (bud, (({ s with mgmt := { s.mgmt with snapWr := some (x, n - bud) } }).bump .HST_TMB_CNT_mem_wait 0))
      else (n, { s with mgmt := { s.mgmt with snapWr := none, snaps := s.keepSnaps (x :: s.mgmt.snaps) } })

/-- The scrubber reads on by the bytes of a slot that a snapshot being written left (R453, R454): what it borrows is not
stated (log 3). -/
def State.scrubSlot (s : State) (used more : Nat) : State :=
  let cap := s.fld .HBM_SCRUB_CFG_scrub_cap 0 * 4096
  if cap = 0 ∨ s.memUp = false ∨ s.narrow then s
  else
    let bud := s.pat.thimble.memBg
    let left := bud - used
    let n := min cap (left + more)
    let s := if n < cap ∧ bud < cap then s.bump .HST_TMB_CNT_mem_wait 0 else s
    let s := s.bumpN .HST_TMB_CNT_mem_borrow 0 ((n - left) / 4096)
    let total := 103079215104
    let a := s.hbm.scrub + n
    let s := { s with hbm := { s.hbm with scrub := a % total } }
    let s := s.setFld .HBM_SCRUB_STATUS_position 0 (a % total / 1048576)
    s.setFld .HBM_SCRUB_STATUS_passes 0 (s.fld .HBM_SCRUB_STATUS_passes 0 + a / total)

/-- A client of the stacked-memory controller in a slot: what it asks for, its budget, and whether it may borrow (R410, R411). -/
structure MemReq where
  want : Nat
  budget : Nat
  borrow : Bool
  deriving DecidableEq, Repr

/-- What each client beyond its budget is served from the capacity left, in the order they stand in (R65, R411). -/
def memExtra : Nat → List MemReq → List Nat
  | _, [] => []
  | left, r :: rs =>
    let n := if r.borrow then min left (r.want - r.budget) else 0
    n :: memExtra (left - n) rs

/-- The clients of a slot in the order of R65: Overlock reads, class-3 delivery, the Cast writer, the interleaver, other delivery by
panel, Overlock writes, background. What delivery and the interleaver ask for the spec does not state: `v` spells it (log 24). -/
def State.memReqs (s : State) (v bg : Nat) : List MemReq :=
  let t := s.pat.thimble
  let part (i : Nat) : Nat := v / 2 ^ (32 * i) % 2 ^ 32
  let used := (s.pat.chans.filter (fun i => bit s.pat.cast.chans i.channel)).length
  let li := (List.range 192).any (fun ch => s.flag .CHN_CODE_STATUS_li_tx_on ch || s.flag .CHN_CODE_STATUS_li_rx_on ch)
  let mine (p : Nat) : Bool := s.dlv.segs.any (fun g => decide (g.prio < 3) && s.owner g.ch == some p)
  let olr := ((List.range 3).filter s.olaOn).map (fun c => 4096 * (s.olaClass c).victims * (s.olaClass c).nd)
  [⟨olr.foldl (· + ·) 0, t.memOlr, false⟩,
   ⟨if s.dlv.segs.any (fun g => g.prio == 3) then part 0 else 0, t.memProt, true⟩,
   ⟨2 * s.ls * used, t.memCast, bit t.actBorrow 2⟩, ⟨if li then part 1 else 0, t.memLi, bit t.actBorrow 3⟩]
  ++ s.pat.thimbles.map (fun i => ⟨if mine i.panel then part (2 + i.panel) else 0, i.mem, bit i.borrow 2⟩)
  ++ [⟨4 * s.ola.writes.length, t.memOlw, bit t.actBorrow 5⟩, ⟨bg, t.memBg, bit t.actBorrow 6⟩]

/-- Stacked memory's budgets are refilled at a slot boundary (R410): in-budget requests are served first, and what capacity is left
goes to the clients that may borrow (R65, R411, R541). What class-3 and other delivery and the interleaver ask beyond waits, and
is counted once for each; what they borrow is counted by 4,096 bytes. Answers what background work may borrow. -/
def State.memSlot (s : State) (bg : Nat) : Nat × State :=
  let (v, s) := s.drawFree
  let l := if s.memUp then s.memReqs v bg else []
  let served := (l.map (fun r => min r.want r.budget)).foldl (· + ·) 0
  let extra := memExtra (s.fld .HST_TMB_CAP_cm 0 - served) l
  let n := l.length
  let own : List Nat := [1, 3] ++ (List.range (n - 6)).map (· + 4)
  let waits := own.filter (fun i => (l[i]?).any (fun r => decide (r.budget + extra.getD i 0 < r.want)))
  let lent := (own.map (fun i => extra.getD i 0)).foldl (· + ·) 0
  let s := s.bumpN .HST_TMB_CNT_mem_wait 0 waits.length
  let s := s.bumpN .HST_TMB_CNT_mem_borrow 0 (lent / 4096)
  (extra.getD (n - 1) 0, s.castRefill (extra.getD 2 0))

/-- Blocks of the log partition before any is retired (R456): 32,768 blocks of 256 KiB, less the other partitions and the
spare pool of 2 %. -/
def logBlocks : Nat := 32768 - 644 - 655

/-- Entries 256 KiB holds. -/
def logChunk : Nat := 10922

/-- The staged entries of one write go to flash (R457); a write that fails retires the block. -/
def State.flashLog (s : State) (n : Nat) (ok : Bool) : State :=
  if ok then
    let blocks := logBlocks - (s.hbm.spares - 655)
    let all := s.hbm.flash ++ s.hbm.staged.take n
    { s with hbm := { s.hbm with staged := s.hbm.staged.drop n, flash := all.drop (all.length - blocks * logChunk)
                                 erases := s.hbm.erases + 1 } }
  else
    let (v, s) := s.drawFree
    let s := { s with hbm := { s.hbm with spares := s.hbm.spares + 1 } }
    (s.setFld .HBM_MISC_CNT_retired 0 (min 4095 (s.fld .HBM_MISC_CNT_retired 0 + 1))).log 0x5003 noPanel noInst (v % 32768)

/-- LOG_FLASH_WRITE: 256 KiB of staged entries are written, unless a pattern store holds the flash (R65, R457). -/
def execLogFlashWrite (ok : Bool) (s : State) : Host.Outcome State Fault Refusal :=
  .next (if s.ldr.storing.isSome ∨ s.hbm.staged.length < logChunk then s else s.flashLog logChunk ok)

/-- PIPE_FENCE (R120). -/
def execPipeFence (p : Nat) (s : State) : Host.Outcome State Fault Refusal :=
  .next (
    if 23 < p then s
    else
      let s := (s.setFlag .PIPE_STATUS_fenced p true).fence blkPipe p
      ((List.range 8).map (· + 8 * p)).foldl (fun s ch =>
        if s.effState ch = chOff ∨ (s.chanItem ch).isNone then s else s.requestState ch chFault 5) s)

/-- A decoder unit is fenced at a slot boundary (R152, R537). -/
def State.fenceUnit (s : State) (pool unit : Nat) : State :=
  if s.isFenced (blkVit + pool) unit then s
  else
    let F : Fld := if pool = 0 then .COD_POOL_STATUS_vit_units else .COD_POOL_STATUS_ldpc_units
    let s := ((s.fence (blkVit + pool) unit).setFld F 0 (s.fld F 0 - 1)).showCap
    let s := s.log 0x2001 noPanel noInst (pool + 256 * unit)
    let busy := (s.grid.work.zipIdx.filter (fun (e : Work × Nat) => e.1.pool == pool && e.1.served)).map (·.2)
    let s : State := { s with grid := { s.grid with work := s.grid.work.zipIdx.map (fun (e : Work × Nat) =>
      if busy[unit]? = some e.2 then { e.1 with served := false } else e.1) } }
    if pool = 1 ∧ s.fld .COD_POOL_STATUS_ldpc_units 0 = 0 then s.dropFeature 3 else s

/-- COD_UNIT_FENCED: at the next slot boundary (R152). -/
def execCodUnitFenced (pool unit : Nat) (s : State) : Host.Outcome State Fault Refusal :=
  .next (
    if 1 < pool ∨ (if pool = 0 then 47 else 31) < unit ∨ s.isFenced (blkVit + pool) unit then s
    else if s.grid.running then s.request (.decUnits pool unit)
    else s.fenceUnit pool unit)

/-- A unit is fenced no longer. -/
def State.unfence (s : State) (typ idx : Nat) : State := { s with rst := { s.rst with fenced := s.rst.fenced.filter (· != (typ, idx)) } }

/-- A decoder unit rejoins its pool at a slot boundary (R489). -/
def State.unfenceUnit (s : State) (pool unit : Nat) : State :=
  if s.isFenced (blkVit + pool) unit then
    let F : Fld := if pool = 0 then .COD_POOL_STATUS_vit_units else .COD_POOL_STATUS_ldpc_units
    ((s.unfence (blkVit + pool) unit).setFld F 0 (s.fld F 0 + 1)).showCap
  else s

/-- HOST_PORT_FAIL (R404, R537): the port loses link and the PRP offer is withdrawn. -/
def execHostPortFail (port : Nat) (s : State) : Host.Outcome State Fault Refusal :=
  .next (
    if 1 < port ∨ s.host.failed.contains port then s
    else
      let s := ({ s with host := { s.host with failed := s.host.failed ++ [port] } }).fence blkHost port
      let s := ((s.setFlag .HST_PORT_STATUS_link_up port false).setFlag .HST_PORT_STATUS_fec_lock port false).setFlag
        .HST_PORT_STATUS_an_done port false
      if s.grid.running then s.request (.offer 11) else s.dropFeature 11)

end Sys2Proof.Machine
end

