-- ==== Sys2Proof/Machine/Security.lean ====
section
/-! DEFINITION. The SEC block (chapter 16): fuses and levels, firmware images, enrolment, attestation, keys, debug access
and the tamper loop. -/

namespace Sys2Proof.Machine

/-- Change the security state. -/
def State.updSec (s : State) (f : SecSt → SecSt) : State := { s with sec := f s.sec }

/-- An owner slot in service (R461). -/
def OwnerSlot.live (o : OwnerSlot) : Bool := o.valid && !o.revoked

/-- A slot none of whose bits has been blown (R466). -/
def OwnerSlot.unused (o : OwnerSlot) : Bool := !o.blown && !o.valid && !o.revoked

/-- The owner slot in force (R461). -/
def State.ownerSlot (s : State) : Option Nat :=
  [3, 2, 1, 0].find? (fun i => (s.sec.owners.getD i {}).live)

/-- The module is OWNED. -/
def State.owned (s : State) : Bool := s.ownerSlot.isSome

/-- Show the owner slot in force. -/
def State.showOwner (s : State) : State :=
  (s.setFlag .SEC_STATUS_owned 0 s.owned).setFld .SEC_STATUS_slot 0 (s.ownerSlot.getD 0)

/-- The owner key in force: the key record, where its digest matches the slot in force (R466). -/
def State.ownerKey (s : State) : Option (List Byte) :=
  match s.ownerSlot with
  | none => none
  | some i => if Config.shake256 s.sec.ownerPk = (s.sec.owners.getD i {}).digest then some s.sec.ownerPk else none

/-- The module's `fuse_id`. -/
def State.fuseId (s : State) : Nat := s.fld .SEC_FUSE_ID_fuse_id 0 + 2 ^ 32 * s.fld .SEC_FUSE_ID_fuse_id 1

/-- A byte string of a memory. -/
def memSlice (m : Memory) (off n : Nat) : List Byte := memBytes m off n

/-- A big-endian number of a memory (R12). -/
def memBe (m : Memory) (off n : Nat) : Nat := ofBe (memSlice m off n)

/-- The running partition's image. -/
def State.fwImage (s : State) : Memory := (tget {} s.sec.fwRun s.sec.parts).bytes

/-- The checks of R463 on an image, and the lengths of R462 that place its signature (DEDUCED, log 31). -/
def State.imageOk (s : State) (m : Memory) : Bool :=
  let n := memBe m 8 4
  let pk := memSlice m 32 1793
  let sp := memSlice m 1832 1793
  memBe m 0 4 == 0x47575946 && memBe m 4 1 == 1 && decide (4908 + 1280 ≤ n) && decide (n ≤ 2 ^ 26) &&
    Config.shake256 pk == s.sec.rootDigest &&
    Config.falconVerify pk (Config.shake256 (memSlice m 1828 1800)) (memSlice m 3628 1280) &&
    Config.falconVerify sp (Config.shake256 (memSlice m 0 (n - 1280))) (memSlice m (n - 1280) 1280) &&
    decide (s.fld .SEC_ROLLBACK_fw_level 0 ≤ memBe m 16 4)

/-- The partition the boot ROM runs (R463): of those marked valid that pass, the one of the higher version; where none
does, the one that ran. -/
def State.bootPart (s : State) : Nat :=
  let p (i : Nat) : FwPart := tget {} i s.sec.parts
  let ok (i : Nat) : Bool := (p i).valid && s.imageOk (p i).bytes
  let v (i : Nat) : Nat := memBe (p i).bytes 12 4
  match ok 0, ok 1 with
  | true, true => if v 0 < v 1 then 1 else 0
  | true, false => 0
  | false, true => 1
  | false, false => s.sec.fwRun

/-- The words SEC_QUERY returns. -/
def State.secStatusWord (s : State) : Nat :=
  s.fld .SEC_STATUS_owned 0 + 2 * s.fld .SEC_STATUS_slot 0 + 8 * s.fld .SEC_STATUS_debug_open 0
    + 16 * s.fld .SEC_STATUS_scope 0 + 128 * s.fld .SEC_STATUS_tamper 0 + 256 * s.fld .SEC_STATUS_loop_open 0
    + 512 * s.fld .SEC_STATUS_debug_lock 0

/-- SEC_QUERY (R479). -/
def opSecQuery (s : State) : State × Option Resp :=
  (s, some ⟨.ok, le 4 s.secStatusWord ++ le 4 (s.fld .SEC_ROLLBACK_fw_level 0 + 256 * s.fld .SEC_ROLLBACK_pat_level 0)
    ++ le 8 s.fuseId⟩)

/-- A command that only PNL0 may issue (R479). -/
def pnl0 (s : State) (p : Nat) (k : State × Option Resp) : State × Option Resp := if p = 0 then k else refuse s .denied

/-- SEC_STAGE (R479): the area is written as R61 writes the loader's; a report in it is replaced (R469). -/
def opSecStage (p off : Nat) (data : List Byte) (s : State) : State × Option Resp :=
  if data.length = 0 ∨ 52 < data.length ∨ 65536 < off + data.length then refuse s .badArg
  else pnl0 s p (
    let m := if s.sec.report then [] else s.sec.stage
    let n := if s.sec.report then 0 else s.sec.stageLen
    (s.updSec (fun x => { x with stage := memStores m off data, stageLen := max n (off + data.length), report := false }),
      some (rsp .ok)))

/-- Blow an owner slot: digest, then valid bit (R466). -/
def State.blowOwner (s : State) (i : Nat) (pk : List Byte) : State :=
  (s.updSec (fun x => { x with
    owners := x.owners.set i { digest := Config.shake256 pk, blown := true, valid := true }, ownerPk := pk })).showOwner

/-- Revoke an owner slot (R466). -/
def State.revokeOwner (s : State) (i : Nat) : State :=
  (s.updSec (fun x => { x with owners := x.owners.set i { x.owners.getD i {} with revoked := true } })).showOwner

/-- The lowest unused owner slot from `lo` up. -/
def State.freeOwner (s : State) (lo : Nat) : Option Nat :=
  [0, 1, 2, 3].find? (fun i => decide (lo ≤ i) && (s.sec.owners.getD i {}).unused)

/-- SEC_ENROL (R465, R466). An object whose layout is not that of R465 is malformed. -/
def opSecEnrol (p : Nat) (args : List Byte) (s : State) : State × Option Resp :=
  let m := s.sec.stage
  let op := memBe m 4 1
  let pk := memSlice m 16 1793
  let formOk := memBe m 0 4 == 0x47575945 && (op == 1 || op == 2) && memBe m 5 3 == 0 && memBe m 1809 3 == 0
  if args ≠ [] then refuse s .badArg
  else pnl0 s p (
    if !formOk then refuse s .badArg
    else if memBe m 8 8 ≠ s.fuseId then refuse s .denied
    else if op = 1 then
      if s.inBand p then refuse s .denied
      else if s.owned then refuse s .badState
      else match s.freeOwner 0 with
        | none => refuse s .badState
        | some i => (s.blowOwner i pk, some (rsp .ok))
    else match s.ownerSlot with
      | none => refuse s .badState
      | some old => match s.freeOwner (old + 1) with
        | none => refuse s .badState
        | some i =>
          if s.ownerKey.any (fun k => Config.falconVerify k (Config.shake256 (memSlice m 0 1812)) (memSlice m 1812 1280)) then
            ((s.blowOwner i pk).revokeOwner old, some (rsp .ok))
          else refuse s .denied)

/-- The partition that is not running. -/
def State.fwOther (s : State) : Nat := 1 - s.sec.fwRun

/-- SEC_FW_WRITE (R464): offset and data. -/
def opSecFwWrite (p : Nat) (args : List Byte) (s : State) : State × Option Resp :=
  let off := leAt args 0 4
  let data := args.drop 4
  if data.length = 0 ∨ 52 < data.length ∨ 2 ^ 26 < off + data.length then refuse s .badArg
  else pnl0 s p (
    let i := s.fwOther
    let m := if s.sec.fwErased then (tget {} i s.sec.parts).bytes else []
    (s.updSec (fun x => { x with parts := tput {} i ⟨memStores m off data, false⟩ x.parts, fwErased := true }), some (rsp .ok)))

/-- SEC_FW_COMMIT (R464). -/
def opSecFwCommit (p : Nat) (args : List Byte) (s : State) : State × Option Resp :=
  if args ≠ [] then refuse s .badArg
  else pnl0 s p (
    let i := s.fwOther
    let f := tget {} i s.sec.parts
    let ok := s.imageOk f.bytes
    (s.updSec (fun x => { x with parts := tput {} i { f with valid := ok } x.parts, fwErased := false }),
      some (rsp (if ok then .ok else .denied))))

/-- SEC_ROLLBACK_ADVANCE (R460, R467). -/
def opSecRollbackAdvance (p : Nat) (args : List Byte) (s : State) : State × Option Resp :=
  let a := leAt args 0 1
  let target := if a = 0 then memBe s.fwImage 16 4 else (s.full.map (fun q => q.hdr.rollback)).getD 0
  if args.length ≠ 1 ∨ 1 < a then refuse s .badArg
  else pnl0 s p (
    if 64 < target then refuse s .badArg
    else if a = 0 then
      if target ≤ s.fld .SEC_ROLLBACK_fw_level 0 then refuse s .badState
      else (s.setFld .SEC_ROLLBACK_fw_level 0 target, some (rsp .ok))
    else if !s.isSealed || target ≤ s.fld .SEC_ROLLBACK_pat_level 0 then refuse s .badState
    else (s.setFld .SEC_ROLLBACK_pat_level 0 target, some (rsp .ok)))

/-- The bits of a blown level (R460). -/
def levelBits (n : Nat) : List Bool := bitsMsb 64 (2 ^ n - 1)

/-- Every fuse bit except the device secret, in the order of R459, then the other fuses it lists (log 32). -/
def State.fuseBits (s : State) : List Bool :=
  bitsMsb 64 s.fuseId ++ bitsMsb 512 s.sec.rootDigest
    ++ s.sec.owners.flatMap (fun o => bitsMsb 512 o.digest ++ [o.valid]) ++ s.sec.owners.map (·.revoked)
    ++ levelBits (s.fld .SEC_ROLLBACK_fw_level 0) ++ levelBits (s.fld .SEC_ROLLBACK_pat_level 0)
    ++ [s.flag .SEC_STATUS_debug_lock 0] ++ bitsMsb 4 (s.fld .GLB_IDENT_variant 0)
    ++ bitsMsb 48 (s.fld .GLB_MAC_mac 0 + 2 ^ 32 * s.fld .GLB_MAC_mac 1)
    ++ bitsMsb 16 (s.fld .TIM_EP_LAT_rx_lat 0) ++ bitsMsb 16 (s.fld .TIM_EP_LAT_tx_lat 0)
    ++ bitsMsb 16 (s.fld .TIM_EP_LAT_rx_lat 1) ++ bitsMsb 16 (s.fld .TIM_EP_LAT_tx_lat 1) ++ bitsMsb 22 (s.fld .RST_MAP_map 0)

/-- The digest of the panel patterns in force (R469). -/
def State.panelsDigest (s : State) : Nat :=
  if s.ldr.inEffect = [] then 0
  else Config.shake256 (s.ldr.inEffect.flatMap (fun (e : Nat × PanelPat) => byte e.1 :: be 64 (Config.shake256 e.2.bytes)))

/-- The report of R469 up to its signature. -/
def State.attestBody (s : State) (nonce : List Byte) : List Byte :=
  let img := s.fwImage
  let n := memBe img 8 4
  let sealed (v : Nat) : Nat := if s.isSealed then v else 0
  be 4 0x47575941 ++ [byte (b2n s.owned + 2 * s.fld .SEC_STATUS_debug_open 0 + 4 * s.fld .SEC_STATUS_tamper 0 + 8 * b2n s.narrow),
      byte (s.fld .PAT_STATUS_source 0), byte (s.ownerSlot.getD 0xFF), 0]
    ++ be 8 s.fuseId ++ slice nonce 0 32 ++ be 8 s.tick ++ be 4 (memBe img 12 4)
    ++ [byte (s.fld .SEC_ROLLBACK_fw_level 0), byte (s.fld .SEC_ROLLBACK_pat_level 0), 0, 0]
    ++ be 64 (Config.shake256 (memSlice img 0 (n - 1280)))
    ++ be 64 (sealed (Config.shake256 (s.ldr.image.take (s.ldr.image.length - 1280))))
    ++ be 8 (sealed ((s.full.map (fun q => q.hdr.serial)).getD 0)) ++ be 64 s.panelsDigest
    ++ be 64 (Config.shake256 (bitsToBytes s.fuseBits))

/-- SEC_ATTEST (R469): report, signature and certificate. -/
def opSecAttest (args : List Byte) (s : State) : State × Option Resp :=
  if args.length ≠ 32 then refuse s .badArg
  else
    let body := s.attestBody args
    let sig := slice (Config.falconSign s.sec.secret (Config.shake256 body)) 0 1280
    let all := body ++ sig ++ slice s.sec.cert 0 3100
    (s.updSec (fun x => { x with stage := memStores [] 0 all, stageLen := 4708, report := true }), some (rsp .ok))

/-- SEC_READ (R469): offset and count. -/
def opSecRead (args : List Byte) (s : State) : State × Option Resp :=
  let off := leAt args 0 2
  let n := leAt args 2 1
  if args.length ≠ 3 ∨ n = 0 ∨ 24 < n ∨ s.sec.stageLen < off + n then refuse s .badArg
  else (s, some ⟨.ok, memSlice s.sec.stage off n⟩)

/-- Ticks of a number of seconds. -/
def secTicks (n : Nat) : Nat := n * 200000000

/-- SEC_DEBUG_CHALLENGE (R476, R477). -/
def opSecDebugChallenge (p : Nat) (args : List Byte) (s : State) : State × Option Resp :=
  if args ≠ [] then refuse s .badArg
  else if p ≠ 0 ∨ s.flag .SEC_STATUS_debug_lock 0 = true ∨ s.owned = false then refuse s .denied
  else
    let (v, s) := s.drawBelow (2 ^ 192)
    let c := be 24 v
    (s.updSec (fun x => { x with chal := some (c, s.tick) }), some ⟨.ok, c⟩)

/-- Close debug (R477). -/
def State.closeDebug (s : State) : State :=
  ((s.setFlag .SEC_STATUS_debug_open 0 false).setFld .SEC_STATUS_scope 0 0).updSec (fun x => { x with debugEnd := 0 })

/-- SEC_DEBUG_OPEN (R476, R477): any attempt uses the challenge. -/
def opSecDebugOpen (p : Nat) (args : List Byte) (s : State) : State × Option Resp :=
  let m := s.sec.stage
  let scope := memBe m 4 1
  let dur := memBe m 8 4
  let fresh := s.sec.chal.any (fun c => c.1 == memSlice m 20 24 && decide (s.tick ≤ c.2 + secTicks 60))
  let form := memBe m 0 4 == 0x47575944 && decide (scope < 8) && memBe m 5 3 == 0 && decide (1 ≤ dur) && decide (dur ≤ 86400)
  let sig := s.ownerKey.any (fun k => Config.falconVerify k (Config.shake256 (memSlice m 0 44)) (memSlice m 44 1280))
  if args ≠ [] then refuse s .badArg
  else pnl0 s p (
    let good := form && fresh && sig && memBe m 12 8 == s.fuseId && !s.flag .SEC_STATUS_debug_lock 0
    let s := s.updSec (fun x => { x with chal := none })
    if !good then ((s.bump .SEC_CNT2_debug_deny 0), some (rsp .denied))
    else
      let s := if bit scope 2 then s.clearKeys else s
      let s := ((s.setFlag .SEC_STATUS_debug_open 0 true).setFld .SEC_STATUS_scope 0 scope).updSec
        (fun x => { x with debugEnd := s.tick + secTicks dur })
      (s.log 0x0401 noPanel noInst scope, some (rsp .ok)))

/-- A channel of a panel has a key slot selected for transmission (R471). -/
def State.slotInUse (s : State) (p k : Nat) : Bool :=
  (List.range 192).any (fun ch => s.owner ch == some p && s.txSlot ch == some k)

/-- SEC_KEY_SET (R471): slot and key. -/
def opSecKeySet (p : Nat) (args : List Byte) (s : State) : State × Option Resp :=
  let k := leAt args 0 1
  if args.length ≠ 33 ∨ 3 < k then refuse s .badArg
  else if !s.right p 4 then refuse s .denied
  else if s.slotInUse p k then refuse s .badState
  else (s.updSec (fun x => { x with keys := tset (4 * p + k) ⟨args.drop 1, 0⟩ x.keys }), some (rsp .ok))

/-- SEC_KEY_CLEAR (R471). -/
def opSecKeyClear (p : Nat) (args : List Byte) (s : State) : State × Option Resp :=
  let k := leAt args 0 1
  if args.length ≠ 1 ∨ 3 < k then refuse s .badArg
  else if !s.right p 4 then refuse s .denied
  else if s.slotInUse p k then refuse s .badState
  else (s.updSec (fun x => { x with keys := tdel (4 * p + k) x.keys }), some (rsp .ok))

/-- SEC_KEY_TX (R479): channel and slot, 0xFF for none. -/
def opSecKeyTx (p : Nat) (args : List Byte) (s : State) : State × Option Resp :=
  let ch := leAt args 0 1
  let k := leAt args 1 1
  if args.length ≠ 2 ∨ 191 < ch ∨ (3 < k ∧ k ≠ 0xFF) then refuse s .badArg
  else if !s.mayName p ch then refuse s .denied
  else if k = 0xFF then (s.updSec (fun x => { x with txSel := tput 0 ch 0 x.txSel }), some (rsp .ok))
  else if !(s.owner ch).any (fun o => (s.linkKey o k).isSome) then refuse s .badState
  else (s.updSec (fun x => { x with txSel := tput 0 ch (k + 1) x.txSel }), some (rsp .ok))

/-- SEC_OHI_KEY (R475): panel and key. PNL0 sets any panel's over SPI; a panel may set its own. -/
def opSecOhiKey (p : Nat) (args : List Byte) (s : State) : State × Option Resp :=
  let q := leAt args 0 1
  if args.length ≠ 33 ∨ 15 < q then refuse s .badArg
  else if q ≠ p ∧ (p ≠ 0 ∨ s.inBand 0 = true) then refuse s .denied
  else (s.updSec (fun x => { x with ohiKeys := tset q (args.drop 1) x.ohiKeys, ohiSeq := tput 0 q 0 x.ohiSeq }), some (rsp .ok))

/-- SEC_TAMPER_CLEAR (R478). -/
def opSecTamperClear (p : Nat) (args : List Byte) (s : State) : State × Option Resp :=
  if args ≠ [] then refuse s .badArg
  else pnl0 s p (
    if s.flag .SEC_STATUS_loop_open 0 then refuse s .badState
    else (((s.setFlag .SEC_STATUS_tamper 0 false).setFlag .GLB_STATUS_tamper 0 false).updSec
      (fun x => { x with tamperOff := false }), some (rsp .ok)))

/-- CHN_STOP on a channel that is not OFF (R116): its records are released (R283) and it leaves for OFF. -/
def State.stopChannel (s : State) (ch : Nat) : State :=
  let s := s.releaseRecs ch
  if s.effState ch = chOff then s else s.requestState ch chOff 0

/-- The response to an opened loop (R478): keys and debug from mode 1 on, the channels from mode 2 on. -/
def State.tamperAct (s : State) : State :=
  let m := s.fld .SEC_CFG_tamper_mode 0
  let s := if m = 0 then s else (s.clearKeys.updSec (fun x => { x with ohiKeys := [] })).closeDebug
  if m < 2 then s
  else forAll (List.range 192) (fun ch s => s.stopChannel ch) (s.updSec (fun x => { x with tamperOff := true }))

/-- TAMPER_OPEN (R478): an opening in KEEP is logged at the return to RUN. -/
def execTamperOpen (s : State) : Host.Outcome State Fault Refusal :=
  .next (
    if s.flag .SEC_STATUS_loop_open 0 then s
    else
      let s := ((s.setFlag .SEC_STATUS_loop_open 0 true).setFlag .SEC_STATUS_tamper 0 true).setFlag .GLB_STATUS_tamper 0 true
      let s := if s.rst.pwr = .keep then s.updSec (fun x => { x with tamperLog := true })
        else s.log 0x0402 noPanel noInst (s.fld .SEC_CFG_tamper_mode 0)
      s.tamperAct)

/-- TAMPER_LOOP_CLOSED (R478): the flag stays. -/
def execTamperLoopClosed (s : State) : Host.Outcome State Fault Refusal :=
  .next (s.setFlag .SEC_STATUS_loop_open 0 false)

/-- DEBUG_CLOSE: `duration` has passed (R477). -/
def execDebugClose (s : State) : Host.Outcome State Fault Refusal :=
  .next (
    if s.flag .SEC_STATUS_debug_open 0 then
      let s := { s with tick := max s.tick s.sec.debugEnd }
      s.closeDebug
    else s)

/-- SEC_QUERY. -/
def execSecQuery (c : Cmd) (s : State) : Host.Outcome State Fault Refusal := .next (ohi s c 0x0401 (opSecQuery s))

/-- SEC_STAGE. -/
def execSecStage (c : Cmd) (off : Nat) (data : List Byte) (s : State) : Host.Outcome State Fault Refusal :=
  .next (ohi s c 0x0402 (opSecStage c.pnl off data s))

/-- SEC_ENROL. -/
def execSecEnrol (c : Cmd) (args : List Byte) (s : State) : Host.Outcome State Fault Refusal :=
  .next (ohi s c 0x0403 (opSecEnrol c.pnl args s))

/-- SEC_FW_WRITE. -/
def execSecFwWrite (c : Cmd) (args : List Byte) (s : State) : Host.Outcome State Fault Refusal :=
  .next (ohi s c 0x0404 (opSecFwWrite c.pnl args s))

/-- SEC_FW_COMMIT. -/
def execSecFwCommit (c : Cmd) (args : List Byte) (s : State) : Host.Outcome State Fault Refusal :=
  .next (ohi s c 0x0405 (opSecFwCommit c.pnl args s))

/-- SEC_ROLLBACK_ADVANCE. -/
def execSecRollbackAdvance (c : Cmd) (args : List Byte) (s : State) : Host.Outcome State Fault Refusal :=
  .next (ohi s c 0x0406 (opSecRollbackAdvance c.pnl args s))

/-- SEC_ATTEST. -/
def execSecAttest (c : Cmd) (args : List Byte) (s : State) : Host.Outcome State Fault Refusal :=
  .next (ohi s c 0x0407 (opSecAttest args s))

/-- SEC_READ. -/
def execSecRead (c : Cmd) (args : List Byte) (s : State) : Host.Outcome State Fault Refusal :=
  .next (ohi s c 0x0408 (opSecRead args s))

/-- SEC_DEBUG_CHALLENGE. -/
def execSecDebugChallenge (c : Cmd) (args : List Byte) (s : State) : Host.Outcome State Fault Refusal :=
  .next (ohi s c 0x0409 (opSecDebugChallenge c.pnl args s))

/-- SEC_DEBUG_OPEN. -/
def execSecDebugOpen (c : Cmd) (args : List Byte) (s : State) : Host.Outcome State Fault Refusal :=
  .next (ohi s c 0x040A (opSecDebugOpen c.pnl args s))

/-- SEC_KEY_SET. -/
def execSecKeySet (c : Cmd) (args : List Byte) (s : State) : Host.Outcome State Fault Refusal :=
  .next (ohi s c 0x040B (opSecKeySet c.pnl args s))

/-- SEC_KEY_TX. -/
def execSecKeyTx (c : Cmd) (args : List Byte) (s : State) : Host.Outcome State Fault Refusal :=
  .next (ohi s c 0x040C (opSecKeyTx c.pnl args s))

/-- SEC_KEY_CLEAR. -/
def execSecKeyClear (c : Cmd) (args : List Byte) (s : State) : Host.Outcome State Fault Refusal :=
  .next (ohi s c 0x040D (opSecKeyClear c.pnl args s))

/-- SEC_OHI_KEY. -/
def execSecOhiKey (c : Cmd) (args : List Byte) (s : State) : Host.Outcome State Fault Refusal :=
  .next (ohi s c 0x040E (opSecOhiKey c.pnl args s))

/-- SEC_TAMPER_CLEAR. -/
def execSecTamperClear (c : Cmd) (args : List Byte) (s : State) : Host.Outcome State Fault Refusal :=
  .next (ohi s c 0x040F (opSecTamperClear c.pnl args s))

end Sys2Proof.Machine
end

