-- ==== Sys2Proof/Machine/Receive.lean ====
section
/-! DEFINITION. Chapter 8, the receiver: segments read from a payload, flows, delivery to the endpoints' consumers, floods,
and the sender's part of an acknowledgement (R254, R255, R263 to R277). -/

namespace Sys2Proof.Machine

/-- A segment as a payload holds it (R254): its bytes in the payload, its fields and whether it was received (R255). -/
structure RawSeg where
  off : Nat
  len : Nat
  ep : Nat
  seq : Nat
  frag : Nat
  head : List Byte
  data : List Byte
  ok : Bool
  deriving DecidableEq, Repr

/-- Read up to `n` segments of a payload from an offset; `bad` lists the payload bytes that came from a codeword marked
failed (R255). -/
def parseSegs (payload : List Byte) (bad : List Nat) : Nat → Nat → List RawSeg
  | 0, _ => []
  | n + 1, off =>
    let len := beAt payload off 2
    let size := segLen len
    if payload.length < off + 8 ∨ payload.length < off + size then []
    else
      let b := slice payload off size
      let ok := crc32Bytes (b.take (size - 4)) == b.drop (size - 4)
        && !bad.any (fun i => decide (off ≤ i) && decide (i < off + size))
      ⟨off, len, beAt b 2 2, beAt b 4 2, beAt b 6 1, b.take 8, slice b 8 len, ok⟩ :: parseSegs payload bad n (off + size)

/-- The segments a frame carries (R257): none where `dlv` is all ones. -/
def frameSegs (fc : FC) (payload : List Byte) (bad : List Nat) : List RawSeg :=
  if fcDlv fc = 0xFFFFFFFF then [] else parseSegs payload bad (bits (fcDlv fc) 14 6 + 1) (if fcFlood fc then 8 else 0)

/-- A received segment that the receiver ignores (R255). -/
def RawSeg.malformed (g : RawSeg) : Bool := g.len == 0 || decide (3 < g.frag) || decide (4095 < g.seq) || g.ep == 0

/-- The panel that owns a channel, for pools and rights; PNL0 where none does. -/
def State.rxPanel (s : State) (ch : Nat) : Nat := (s.owner ch).getD 0

/-- The endpoint of a number (R271, R278). -/
def State.endpoint (s : State) (ep : Nat) : Option Endpoint := s.pat.eps.find? (fun e => e.ep == ep)

/-- A device endpoint in use (R271). -/
def isDevEp (ep : Nat) : Bool := ep == 0xFFE0 || ep == 0xFFE1 || ep == 0xFFE2 || ep == 0xFFF0

/-- What drops a segment by its endpoint, and its counter (R271, R272). The tone-map endpoint takes messages of TONEMAP frames
only (R271). -/
def State.epDrop (s : State) (ch typ ep : Nat) : Option Fld :=
  if 0xFF00 ≤ ep then
    if isDevEp ep ∧ (ep = 0xFFE0 → typ = 5) then none else some .DLV_EP_CNT_ep_unknown
  else match s.endpoint ep with
    | none => some .DLV_EP_CNT_ep_unknown
    | some e => if s.owner ch = some e.panel then none else some .DLV_EP_CNT_ep_denied

/-- The tick of a channel's last frame in sixteenths (R310), and whether it is suspect (R312). -/
def State.frameTick (s : State) (ch : Nat) : Nat × Bool := ((s.chan ch).trigTick / 2, (s.chan ch).trigTick % 2 == 1)

/-- A message for the device is taken (R271). -/
def State.deviceMsg (s : State) (ch src ep : Nat) (data : List Byte) : State :=
  if ep = 0xFFE0 then s.tmMessage ch src data
  else if ep = 0xFFE1 then s.reportPart ch data
  else if ep = 0xFFE2 then s.sleepMessage ch src data
  else s.ptpMessage (ch + 2) (ptpParse data) (s.frameTick ch).1 (s.frameTick ch).2

/-- A message is offered to its endpoint's consumer (R268, R278); none where the consumer has no room. What an onward message
carries beside its endpoint and class is not stated (log 3); one that R256 confines to a segment and is longer is refused. -/
def State.consume (s : State) (m : RxMsg) : Option State :=
  match s.endpoint m.ep with
  | none => some s
  | some e => match e.kind with
    | 0 => if s.toHostRoom e.panel e.target then some (s.toHost e.panel e.target m.prio m.flood m.ch m.src m.ep m.data) else none
    | 1 => s.serialDeliver e.target m.data
    | 2 => some (s.applyCommand e.target m.data)
    | 3 => match s.pat.ports.pubs.find? (fun p => p.index == e.target) with
      | some pub => some (s.publish pub m.data)
      | none => some s
    | _ =>
      let (v, s') := s.drawFree
      let peer := v / 2 % 65536
      let one := e.cls == 3 || v % 2 == 0 || peer == 0xFFFF || decide (0xFF00 ≤ m.ep)
      if one && decide (2048 < m.data.length) then some (s'.bump .DLV_EP_CNT_ep_denied 0)
      else s'.handoverWake e.panel e.target peer e.cls (v % 2 == 1) false m.ep m.data

/-- Return the descriptor of a message that was taken or discarded (R269). -/
def State.giveRx (s : State) (p : Option Pool) : State :=
  match p with
  | some p => s.giveDesc p
  | none => s

/-- Offer the complete messages to their consumers, in order; one that must wait holds back the later ones of its
endpoint (R268, R269). -/
def State.deliverDone (s : State) : State :=
  let l := s.dlv.done
  let s := { s with dlv := { s.dlv with done := [] } }
  l.foldl (fun s m =>
    let wait (s : State) : State := { s with dlv := { s.dlv with done := s.dlv.done ++ [m] } }
    if s.dlv.done.any (fun x => x.ep == m.ep) then wait s
    else match s.consume m with
      | some s => s.giveRx m.pool
      | none => wait s) s

/-- A message is complete: it joins those that wait, and they are offered. -/
def State.complete1 (s : State) (m : RxMsg) : State :=
  ({ s with dlv := { s.dlv with done := s.dlv.done ++ [m] } }).deliverDone

/-- A segment that is a message of its own is delivered under a descriptor (R268, R269). -/
def State.deliverSeg (s : State) (ch : Nat) (fc : FC) (ep : Nat) (data : List Byte) (pool : Pool) : State :=
  if 0xFF00 ≤ ep then (s.deviceMsg ch fc.src ep data).giveDesc pool
  else s.complete1 { ep := ep, ch := ch, src := fc.src, prio := fc.prio, flood := fcFlood fc, data := data, pool := some pool }

/-- The receive flow of a sender on a channel, made on first use. -/
def State.rxFlow (s : State) (ch peer : Nat) (sp : Bool) : RxFlow :=
  (s.dlv.rxFlows.find? (fun f => f.ch == ch && f.peer == peer && f.space3 == sp)).getD { ch := ch, peer := peer, space3 := sp }

/-- Store a receive flow. -/
def State.setRxFlow (s : State) (f : RxFlow) : State :=
  let rest := s.dlv.rxFlows.filter (fun g => !(g.ch == f.ch && g.peer == f.peer && g.space3 == f.space3))
  { s with dlv := { s.dlv with rxFlows := f :: rest } }

/-- A held segment of a flow. -/
def RxFlow.at_ (f : RxFlow) (q : Nat) : Option RxSeg := f.held.find? (fun g => g.seq == q % 4096)

/-- The numbers of the held segments joined to a segment in one message, from it downward. -/
def RxFlow.down (f : RxFlow) : Nat → RxSeg → List Nat
  | 0, _ => []
  | n + 1, g =>
    if bit g.frag 0 then []
    else match f.at_ (g.seq + 4095) with
      | some h => if bit h.frag 1 then [] else h.seq :: f.down n h
      | none => []

/-- The same, upward. -/
def RxFlow.up (f : RxFlow) : Nat → RxSeg → List Nat
  | 0, _ => []
  | n + 1, g =>
    if bit g.frag 1 then []
    else match f.at_ (g.seq + 1) with
      | some h => if bit h.frag 0 then [] else h.seq :: f.up n h
      | none => []

/-- A buffer and, where no fragment of its message holds one yet, a descriptor for an accepted segment (R269, R452): the
flow's pools with it, an extra descriptor returned where two parts prove to be one message. -/
def State.rxRoom (s : State) (f : RxFlow) (g : RxSeg) (prio : Nat) : Option (List (Nat × Pool) × State) :=
  if s.bufRoom 1 = false then none
  else
    let near := f.down 8 g ++ f.up 8 g
    match f.pools.filter (fun (e : Nat × Pool) => near.contains e.1) with
    | [] => (s.takeDesc prio (s.rxPanel f.ch)).map (fun (x : Pool × State) => (f.pools ++ [(g.seq, x.1)], x.2))
    | _ :: extra =>
      some (f.pools.filter (fun (e : Nat × Pool) => !extra.contains e), extra.foldl (fun s (e : Nat × Pool) => s.giveDesc e.2) s)

/-- The running outcome of a frame's segments: state, flow, and whether one lacked a descriptor. -/
structure RxRun where
  s : State
  f : RxFlow
  full : Bool := false
  failed : Nat := 0

/-- Accept, drop or refuse one segment of a flow (R266, R268, R269, R272). -/
def RxRun.take (r : RxRun) (fc : FC) (g : RxSeg) : RxRun :=
  let f := r.f
  let d := (g.seq + 4096 - f.base) % 4096
  let mark (f : RxFlow) : RxFlow := { f with map := f.map ||| 2 ^ d }
  if 2048 ≤ d ∨ (d < 64 ∧ bit f.map d = true) then { r with s := r.s.bump .DLV_RX_CNT_dup 0 }
  else if 64 ≤ d then { r with s := r.s.bump .DLV_RX_CNT_out_win 0 }
  else match r.s.epDrop f.ch fc.typ g.ep with
    | some F => { r with s := r.s.bump F 0, f := mark f }
    | none =>
      let noDesc : RxRun := { r with s := r.s.bump .DLV_RX_CNT2_rx_nodesc 0, full := true }
      if f.space3 ∨ 0xFF00 ≤ g.ep then
        match r.s.takeDesc fc.prio (r.s.rxPanel f.ch) with
        | none => noDesc
        | some (p, s) => { r with s := s.deliverSeg f.ch fc g.ep g.data p, f := mark f }
      else match r.s.rxRoom f g fc.prio with
        | none => noDesc
        | some (ps, s) => { r with s := s, f := mark { f with held := f.held ++ [g], pools := ps } }

/-- The base moves past the accepted numbers at the bottom of the map (R266). -/
def RxFlow.slide : Nat → RxFlow → RxFlow
  | 0, f => f
  | n + 1, f => if bit f.map 0 then slide n { f with base := (f.base + 1) % 4096, map := f.map / 2 } else f

/-- The base moves to `low`, counting the numbers never accepted (R266). -/
def RxFlow.jump (f : RxFlow) (low : Nat) : RxFlow × Nat :=
  if seqAhead low f.base then
    let n := (low + 4096 - f.base) % 4096
    let skipped := n - ((List.range (min n 64)).filter (bit f.map)).length
    (({ f with base := low, map := f.map / 2 ^ n }).slide 64, skipped)
  else (f, 0)

/-- Forget held segments: their descriptor is returned. -/
def State.dropHeld (s : State) (f : RxFlow) (qs : List Nat) : State × RxFlow :=
  let gone := f.pools.filter (fun (e : Nat × Pool) => qs.contains e.1)
  (gone.foldl (fun s (e : Nat × Pool) => s.giveDesc e.2) s,
   { f with held := f.held.filter (fun g => !qs.contains g.seq), pools := f.pools.filter (fun (e : Nat × Pool) => !qs.contains e.1) })

/-- Deliver the complete messages of space G below the base, in order of their numbers from `q` on, and discard those that
hold a skipped number (R266, R268); `cur` is the message being put together. -/
def State.flushFlow (fc : FC) : Nat → Nat → List RxSeg → State → RxFlow → State × RxFlow
  | 0, _, _, s, f => (s, f)
  | n + 1, q, cur, s, f =>
    if q % 4096 = f.base then (s, f)
    else match f.at_ q with
      | none =>
        let (s, f) := s.dropHeld f (cur.map (·.seq))
        State.flushFlow fc n (q + 1) [] s f
      | some g =>
        if !bit g.frag 0 && cur == [] then
          let (s, f) := s.dropHeld f [g.seq]
          State.flushFlow fc n (q + 1) [] s f
        else
          let (s, f) := if bit g.frag 0 then s.dropHeld f (cur.map (·.seq)) else (s, f)
          let cur := if bit g.frag 0 then [g] else cur ++ [g]
          if bit g.frag 1 then
            let qs := cur.map (·.seq)
            let pool := (f.pools.find? (fun (e : Nat × Pool) => qs.contains e.1)).map (·.2)
            let f : RxFlow := { f with
              held := f.held.filter (fun x => !qs.contains x.seq)
              pools := f.pools.filter (fun (e : Nat × Pool) => !qs.contains e.1) }
            let s := s.complete1 ⟨(cur.headD g).ep, f.ch, fc.src, fc.prio, false, cur.flatMap (·.data), pool, 0⟩
            State.flushFlow fc n (q + 1) [] s f
          else State.flushFlow fc n (q + 1) cur s f

/-- The lowest number held in a flow behind its base. -/
def RxFlow.lowest (f : RxFlow) : Nat :=
  let ds := (f.held.filter (fun g => seqBehind g.seq f.base)).map (fun g => (f.base + 4096 - g.seq) % 4096)
  (f.base + 4096 - ds.foldl max 0) % 4096

/-- The text of a received segment (R255, R474): none where it counts as not received, or is ignored. -/
def State.openSeg (s : State) (ch : Nat) (fc : FC) (sender link dst : Nat) (g : RawSeg) : Option RxSeg × Bool × State :=
  if !g.ok then (none, true, s)
  else if g.malformed then (none, false, s.bump .DLV_EP_CNT_ep_unknown 0)
  else if !fcEnc fc then (some ⟨g.seq, g.ep, g.frag, g.data⟩, false, s)
  else match s.openField ch sender dst link g.head g.data with
    | (some t, s) => (some ⟨g.seq, g.ep, g.frag, t⟩, false, s)
    | (none, s) => (none, true, s)

/-- The failed segments of a frame are counted (R170): of those `dlv` announces (R257), one that cannot be found has failed. -/
def State.countFailures (s : State) (ch : Nat) (fc : FC) (failed found : Nat) : State :=
  let n := if fcDlv fc = 0xFFFFFFFF then found else bits (fcDlv fc) 14 6 + 1
  s.segFailures ch (failed + (n - found)) (max n found)

/-- The ACK a frame is owed (R262, R243, R267). -/
def ackFor (fc : FC) (own base map : Nat) (high : Nat) (full : Bool) : FC :=
  let ofs := if seqAhead high base then min 31 ((high + 4096 - base) % 4096 - 32) else 0
  let m := map / 2 ^ (1 + ofs) % 2 ^ 32
  { typ := 1, ver := 0, prio := fc.prio, link := fc.link, src := own, dst := fc.src
    body := base % 4096 * 2 ^ 40 + ofs * 2 ^ 34 + m * 4 + b2n full * 2 }

/-- The frame's segments are handled for a flow and the ACK is owed (R266, R267): in QUIET none is (R115). -/
def State.takeFlow (s : State) (ch : Nat) (fc : FC) (gs : List RawSeg) : State :=
  let sp := fc.prio == 3 && fc.typ == 3
  let r := gs.foldl (fun (r : RxRun) g =>
    match r.s.openSeg ch fc fc.src fc.link fc.dst g with
    | (some t, _, s) => ({ r with s := s }).take fc t
    | (none, bad, s) => { r with s := s, failed := r.failed + b2n bad }) ⟨s, s.rxFlow ch fc.src sp, false, 0⟩
  let q := r.f.lowest
  let f := r.f.slide 64
  let (f, skipped) := f.jump (bits (fcDlv fc) 20 12)
  let s := r.s.bumpN .DLV_RX_CNT2_skip 0 skipped
  let (s, f) := State.flushFlow fc 4096 q [] s f
  let s := s.setRxFlow f
  let got := (gs.filter (fun g => g.ok && !g.malformed)).map (·.seq)
  let high := got.foldl (fun m q => if seqAhead q m then q else m) (got.headD f.base)
  let s := if s.chState ch = chQuiet then s
    else
      let a : AckDue := ⟨s.boundaryAfter (s.chan ch).rxEnd 8, ackFor fc (s.ownAddr ch) f.base f.map high r.full⟩
      s.updChan ch (fun c => { c with acks := c.acks ++ [a] })
  s.countFailures ch fc r.failed gs.length

/-- A segment of a frame with `ack_req` 0 is delivered when it is received (R268), under a descriptor (R269). -/
def State.takeLoose (s : State) (ch : Nat) (fc : FC) (g : RxSeg) : State :=
  match s.epDrop ch fc.typ g.ep with
  | some F => s.bump F 0
  | none => match (if s.bufRoom 1 then s.takeDesc fc.prio (s.rxPanel ch) else none) with
    | none => s.bump .DLV_RX_CNT2_rx_nodesc 0
    | some (p, s) => s.deliverSeg ch fc g.ep g.data p

/-- The segments of a frame with `ack_req` 0. -/
def State.takeAllLoose (s : State) (ch : Nat) (fc : FC) (sender link dst : Nat) (gs : List RawSeg) : State :=
  let r := gs.foldl (fun (r : State × Nat) g =>
    match r.1.openSeg ch fc sender link dst g with
    | (some t, _, s) => (s.takeLoose ch fc t, r.2)
    | (none, bad, s) => (s, r.2 + b2n bad)) (s, 0)
  r.1.countFailures ch fc r.2 gs.length

/-- The channel receives frames of its link. -/
def State.rxUp (s : State) (ch : Nat) : Bool :=
  let st := s.chState ch
  st == chTraining || st == chLive || st == chQuiet

/-- A peer's frame is taken (R239, R258): 64 addresses are recorded. -/
def State.peerOk (s : State) (ch addr : Nat) : Bool :=
  !s.isBanned ch addr && ((s.chan ch).peers.any (fun p => p.addr == addr) || decide ((s.chan ch).peers.length < 64))

/-- A decoded frame is the channel's: its link, and its own address or everybody's. -/
def State.frameMine (s : State) (ch : Nat) (fc : FC) : Bool :=
  s.rxUp ch && fc.link == s.fld .CHN_CFG_link_id ch && s.frameTo ch fc && s.peerOk ch fc.src

/-- The domain of a channel while flooding is in force. -/
def State.floodDomain (s : State) (ch : Nat) : Option Nat := if s.inForce 10 then s.domainOf ch else none

/-- The channels a flood is repeated on (R275, R474): an encrypted copy stays with the arrival channel's panel. -/
def State.refloodTo (s : State) (m ch : Nat) (enc : Bool) : List Nat :=
  (s.domChans m).filter (fun x => x != ch && s.chUp x && (!enc || s.owner x == s.owner ch))

/-- Minimum contention window of a class (R247). -/
def State.cwMin (s : State) (ch cls : Nat) : Nat :=
  8 * 2 ^ (match cls with
    | 0 => s.fld .CHN_ACCESS_CFG_cw_min0 ch
    | 1 => s.fld .CHN_ACCESS_CFG_cw_min1 ch
    | _ => s.fld .CHN_ACCESS_CFG_cw_min2 ch)

/-- Maximum contention window: one below the minimum acts as the minimum. -/
def State.cwMax (s : State) (ch cls : Nat) : Nat :=
  max (s.cwMin ch cls) (8 * 2 ^ (match cls with
    | 0 => s.fld .CHN_ACCESS_CFG_cw_max0 ch
    | 1 => s.fld .CHN_ACCESS_CFG_cw_max1 ch
    | _ => s.fld .CHN_ACCESS_CFG_cw_max2 ch))

/-- A frame of the class waits on the channel. -/
def State.classWaits (s : State) (ch cls : Nat) : Bool :=
  s.dlv.segs.any (fun g => g.ch == ch && g.prio == cls && (g.state == .queued || g.state == .lost))
    || s.dlv.copies.any (fun c => c.ch == ch && c.prio == cls)
    || (cls == 2 && ((s.chan ch).soundOwe.isSome || s.tim.out.any (fun o => o.port == ch + 2)))
    || (cls == 0 && (s.chan ch).filling && decide (0 < (s.chan ch).liTxLeft))

/-- Hold a backoff count for a class, or none. -/
def State.setBc (s : State) (ch cls : Nat) (v : Option Nat) : State := s.updChan ch (fun c => { c with bc := c.bc.set cls v })

/-- Set a contention window. -/
def State.setCw (s : State) (ch cls v : Nat) : State := s.updChan ch (fun c => { c with cw := c.cw.set cls (some v) })

/-- The contention window of a class (R247): it starts at `cw_min`. -/
def State.cwOf (s : State) (ch cls : Nat) : Nat := ((s.chan ch).cw.getD cls none).getD (s.cwMin ch cls)

/-- Draw a backoff count (R247). -/
def State.drawBc (s : State) (ch cls : Nat) : State :=
  let (v, s) := s.drawBelow (s.cwOf ch cls)
  s.setBc ch cls (some v)

/-- An exchange of a class succeeded (R247): an acknowledged one restores CW. -/
def State.exchangeOk (s : State) (ch cls : Nat) (acked : Bool) : State :=
  if 3 ≤ cls then s
  else
    let s := if acked then s.setCw ch cls (s.cwMin ch cls) else s
    if s.classWaits ch cls then s else s.setBc ch cls none

/-- An exchange brought no acknowledgement (R247). -/
def State.exchangeFailed (s : State) (ch cls : Nat) : State :=
  let s := s.bump .CHN_ACCESS_CNT_no_ack ch
  if 3 ≤ cls then s
  else (s.setCw ch cls (min (s.cwMax ch cls) (2 * s.cwOf ch cls))).drawBc ch cls

/-- Late acknowledgement (R265): the abandoned segments that the ACK of an exchange names are counted once, and forgotten once the
exchanges committed before they were abandoned are over. -/
def State.lateAcks (s : State) (f : Frame) (names : Nat → Bool) : State :=
  let hit (e : Abandoned) : Bool :=
    e.ch == f.ch && e.peer == f.fc.dst && e.space3 == (f.fc.prio == 3) && e.slots.contains f.slot && names e.seq
  let s := s.bumpN .DLV_MISC_CNT_late_ack 0 (s.dlv.abandoned.filter hit).length
  ({ s with dlv := { s.dlv with abandoned := s.dlv.abandoned.filter (fun e => !hit e) } }).endExchange f.ch f.slot

/-- Segments are acknowledged (R263): in-flight slots returned, what a tone-map message brings about done, descriptors
returned. -/
def State.ackSegs (s : State) (ch : Nat) (pick : Seg → Bool) : State :=
  let gone := s.dlv.segs.filter pick
  let s := { s with dlv := { s.dlv with segs := s.dlv.segs.filter (fun g => !pick g) } }
  let s := gone.foldl (fun s g =>
    let s := s.giveIf g.slotOf
    let s := if g.ep = 0xFFE2 ∧ beAt g.data 0 1 = 2 ∧ beAt g.data 4 1 = 0 then s.grantAcked ch g.peer else s
    match g.toneMsg with
    | some m => s.tmAcked ch m
    | none => s) s
  s.sweepTx

/-- An ACK of the exchange that waits for one (R262, R263, R265). -/
def State.takeAck (s : State) (ch : Nat) (fc : FC) : State :=
    match (s.chan ch).await.find? (fun f => f.fc.dst == fc.src && f.fc.prio == fc.prio) with
    | none => s
    | some f =>
      if fc.typ ≠ 1 ∨ s.frameMine ch fc = false then s
      else
        let s := s.notePeer ch fc.src
        let sp := f.fc.prio == 3
        let low := bits fc.body 40 12
        let ofs := bits fc.body 34 6
        let map := bits fc.body 2 32
        let names (q : Nat) : Bool :=
          let d := (q + 4096 - low) % 4096
          seqBehind q low || (decide (1 + ofs ≤ d) && decide (d ≤ ofs + 32) && bit map (d - 1 - ofs))
        let inFlow (g : Seg) : Bool := g.ch == ch && g.peer == fc.src && g.space3 == sp && g.ackReq
        let s := s.updChan ch (fun c => { c with await := c.await.erase f })
        let s := s.lateAcks f names
        let s := s.ackSegs ch (fun g => inFlow g && g.state == .outstanding && g.seq.any names)
        let rest := f.mids.filter (fun (e : Nat × Nat) => !names e.2)
        let s := s.loseSegs rest
        let s := s.setTxFlow { s.txFlow ch fc.src sp with rxFull := bit fc.body 1 }
        s.exchangeOk ch f.fc.prio true

/-- ACK_RX: the oldest ACK decoded. -/
def execAckRx (ch : Nat) (s : State) : Host.Outcome State Fault Refusal :=
  .next (match s.heard ch (fun fc => fc.typ == 1) with
    | none => s
    | some f => ((s.takeHeard ch f).takeAck ch f.fc).reviewMaps ch)

/-- ACK_MISSING: no ACK was decoded in the acknowledgement slot (R264, R247). -/
def execAckMissing (ch : Nat) (s : State) : Host.Outcome State Fault Refusal :=
  .next (
    match (s.chan ch).await with
    | [] => s
    | f :: _ =>
      let s := s.updChan ch (fun c => { c with await := c.await.erase f })
      let s := s.lateAcks f (fun _ => false)
      let s := s.loseSegs f.mids
      s.exchangeFailed ch f.fc.prio)

/-- SEGMENT_DEADLINE: at the first Hem boundary at or after their deadline a channel's segments are abandoned (R265). -/
def execSegmentDeadline (ch : Nat) (s : State) : Host.Outcome State Fault Refusal :=
  .next (s.abandonSegs (fun g => g.ch == ch && decide (g.deadline ≤ s.tick)))

/-- RX_MESSAGE_DISCARD: a complete message not taken by the second Hem boundary after its completion (R269). -/
def execRxMessageDiscard (s : State) : Host.Outcome State Fault Refusal :=
  .next (
    match s.dlv.done.find? (fun m => decide (2 ≤ m.hems)) with
    | none => s
    | some m =>
      let s := { s with dlv := { s.dlv with done := s.dlv.done.erase m } }
      (s.giveRx m.pool).bump .DLV_RX_CNT2_rx_drop 0)

/-- The tick a seen-cache entry's life ends at (R277). -/
def Seen.due (e : Seen) : Nat := e.tick + secTicks e.life

/-- The entry of the seen-cache whose life ends first. -/
def firstSeen : List Seen → Option Seen
  | [] => none
  | e :: l => match firstSeen l with
    | some d => if d.due < e.due then some d else some e
    | none => some e

/-- SEEN_ENTRY_EXPIRY: the life of the entry that expires first has passed (R277). -/
def execSeenEntryExpiry (s : State) : Host.Outcome State Fault Refusal :=
  .next (
    match firstSeen s.dlv.seen with
    | none => s
    | some e =>
      let l := s.dlv.seen.erase e
      let s := s.reach e.due
      ({ s with dlv := { s.dlv with seen := l } }).setFld .DLV_SEEN_seen_used 0 l.length)

/-- SERIAL_CHARACTER_TX: a port's next character goes out, and a message that waits for its buffer may enter (R424). -/
def execSerialCharacterTx (port : Nat) (s : State) : Host.Outcome State Fault Refusal := .next (s.nextChar port).deliverDone

/-- SER_FLUSH empties buffers that waiting messages may then enter (R424). -/
def flushDone (r : State × Option Resp) : State × Option Resp := (r.1.deliverDone, r.2)

/-- SER_FLUSH. -/
def execSerFlush (c : Cmd) (port which : Nat) (s : State) : Host.Outcome State Fault Refusal :=
  .next (ohi s c 0x4002 (flushDone (opSerFlush c.pnl port which s)))

/-- A route's messages are taken by a channel's Bobbin (R396). -/
def State.routeOf (s : State) (kind target ch : Nat) : Bool :=
  if kind = 0 then target == ch else s.floodServer target == some ch

/-- Waiting messages of serial ports and command groups whose route the channel serves are tried again (R396, R423, R430). -/
def State.retryRoutes (s : State) (ch : Nat) : State :=
  let s := (s.pat.contacts.groups.filter (fun g => s.routeOf g.kind g.target ch)).foldl (fun s g =>
    if (s.group g.group).waits then s.giveGroup g.group else s) s
  (s.pat.serial.filter (fun i => s.routeOf i.kind i.target ch)).foldl (fun s i => s.giveSerial 64 i.port) s

/-- A channel's Bobbin takes its next message (R396): one of class 3 at once (R439), another in a sub-slice it runs the channel in
(R438). -/
def State.takeNext (s : State) (ch : Nat) : State :=
  match (s.queueHeads ch).find? (fun m => m.prio == 3 && (s.takeMsg m).isSome) with
  | some m => (s.takeMsg m).getD s
  | none => match s.sliceAt ch with
    | none => s
    | some t =>
      let rest := (s.queueHeads ch).filter (fun m => m.prio != 3)
      if rest = [] then s else (s.reach t).takeFirst rest

/-- MESSAGE_HANDOVER: a channel's Bobbin takes its next message (R396). -/
def execMessageHandover (ch : Nat) (s : State) : Host.Outcome State Fault Refusal := .next ((s.takeNext ch).retryRoutes ch)

/-- ETHERNET_EGRESS: a port sends its next frame (R404), PTP messages first; a to-host queue may take a message that waits. -/
def execEthernetEgress (port : Nat) (s : State) : Host.Outcome State Fault Refusal :=
  .next (
    let ms := s.tick / 200000
    let s := if s.host.egMs = ms then s else { s with host := { s.host with egMs := ms, egBytes := [] } }
    let s := s.sendOhi
    if 2 ≤ port ∨ s.linkUp port = false then s
    else match s.tim.out.find? (fun o => o.port == port && o.launch.isNone) with
      | some o => s.ptpLaunch o s.tick
      | none => match s.nextEgress port with
        | some f => (s.sendEgress port f).deliverDone
        | none => s)

end Sys2Proof.Machine
end

