-- ==== Sys2Proof/Machine/Chan.lean ====
section
/-! DEFINITION. Channel states and the CHN commands (R114 to R120): what a change of state does at its slot boundary, and
which command a state takes. -/

namespace Sys2Proof.Machine

/-- Show the activity of a channel's pipe and head (R40, R120, R352): a pipe whose channels are all OFF is gated, and so is a
lane whose channels are all OFF. -/
def State.showGates (s : State) (ch : Nat) : State :=
  let p := pipeOf ch
  let j := headOf ch
  let act := (List.range 8).foldl (fun m i => if s.chState (8 * p + i) = chOff then m else m + 2 ^ i) 0
  let s := (s.setFld .PIPE_STATUS_slice_active p act).setFlag .PIPE_STATUS_gated p (act == 0)
  s.setFlag .HLK_STATUS_gated j (s.laneAligned j && (laneChans j).all (fun c => s.chState c == chOff)
    && !(laneChans j).any s.castRecords)

/-- What is left of a plain frame whose reception ended early counts as failed: its further symbols do not come. -/
def RxFrame.cut (f : RxFrame) : RxFrame :=
  if f.li.isSome then f
  else { f with blocks := f.blocks.map (fun b => if b.queued then b else { b with queued := true, out := some (List.replicate b.k false, true) }) }

/-- A channel's detector is armed and its gain released (R104, R107). What its pools still decode goes on (R150, R151). -/
def State.rearm (s : State) (ch : Nat) : State :=
  (s.updChan ch (fun c => { c with det := .armed, agcFrozen := false, curFc := none, fcWord := none, symIdx := 0 })).setFlag
    .CHN_STATUS_rx_busy ch false

/-- The reception of a channel is abandoned (R107 to R109, R115): the symbols in the pipe are dropped. -/
def State.resetRx (s : State) (ch : Nat) : State :=
  let s := { s with grid := { s.grid with symbols := s.grid.symbols.filter (fun x => x.ch != ch) } }
  (s.updChan ch (fun c => { c with rxq := (c.rxq.map (fun f => if f.at_ = c.syncAt ∧ c.curFc.isSome then f.cut else f)).filter (fun f =>
      !(f.fc.typ == 4 && f.at_ == c.syncAt && f.cells.length != fcNSym f.fc)) })).rearm ch

/-- What leaving a state does (R115): committed frames discarded, tone maps emptied, the PLC port's delay dropped. -/
def State.leaveState (s : State) (ch old new : Nat) : State :=
  let down := new = chArmed ∨ new = chOff ∨ new = chFault
  let s := if old = chLive ∨ (old = chTraining ∧ new ≠ chLive) then s.discardFrames ch else s
  let s := if (old = chLive ∧ new = chTraining) ∨ (old ≠ chArmed ∧ down) then s.clearMaps ch else s
  let s := if old = chLive then s.pdDrop ch else s
  let s := if new = chQuiet ∨ new = chOff ∨ new = chFault then s.stopTones ch else s
  if down then s.channelLeaves ch else s

/-- What entering a state does (R115, R144, R166, R259, R270). -/
def State.enterState (s : State) (ch old new cause : Nat) : State :=
  if new = chTraining then
    let s := if old = chArmed then s.flowRestart ch else s
    s.startTraining ch
  else if new = chLive then (s.restartLi ch true true).updChan ch (fun c => { c with rxHems := 0 })
  else if new = chQuiet then
    s.updChan ch (fun c => { c with quietHems := 0, quietOk := old == chLive && c.rxGeneral.isSome, acks := [], cont := none })
  else
    let s := s.resetRx ch
    let s := s.updChan ch (fun c => { c with
      quietOk := false, rxq := [], bcnCount := 0, bcnHeard := 0, bcnMissed := 0, rampRefusals := if new = chFault then c.rampRefusals else 0
      peers := if new = chOff then [] else c.peers })
    let s := s.setFlag .CHN_HEM_OFS_delta_valid ch false
    if new = chFault then s.setFld .CHN_STATUS_fault_cause ch cause else s

/-- A requested change of channel state takes effect at a slot boundary (R31, R115): a channel asked for the state it is in
keeps it, but training restarts, and a second fault shows its cause. -/
def State.applyState (s : State) (ch new cause : Nat) : State :=
  let old := s.chState ch
  if old = new then
    if new = chTraining then s.startTraining ch
    else if new = chFault then s.setFld .CHN_STATUS_fault_cause ch cause
    else s
  else
    let s := (s.leaveState ch old new).setFld .CHN_STATUS_state ch new
    let s := s.updChan ch (fun c => { c with changed := some s.grid.slot })
    let s := if new = chLive then s else s.setFlag .CHN_SNR_snr_valid ch false
    let s := (s.enterState ch old new cause).olaStateChange ch old new
    (s.showGates ch).log 0x1801 (s.evOwner ch) ch (old + 256 * new + 65536 * s.fld .CHN_STATUS_fault_cause ch)

/-- A channel may leave OFF (R44, R116, R120, R352). -/
def State.mayStart (s : State) (ch : Nat) : Bool :=
  s.laneAligned (headOf ch) && !s.flag .PIPE_STATUS_fenced (pipeOf ch) && (!s.flag .HBM_STATUS_fenced 0 || s.narrow)

/-- The cause of a channel's FAULT has cleared (R114, R115, R120, R352, R370, R373). -/
def State.faultCleared (s : State) (ch : Nat) : Bool :=
  s.mayStart ch && !(s.chan ch).cplFail
    && !(s.fld .CHN_STATUS_fault_cause ch == 4 && (s.flag .GAU_CH_STATUS_cpl_fault ch || s.flag .GAU_CH_STATUS_sense_fault ch))

/-- The checks every channel command shares (R116): number, ownership, CHANNEL_MAP item. -/
def chnCmd (s : State) (p ch : Nat) (k : State × Option Resp) : State × Option Resp :=
  if 191 < ch then refuse s .badArg
  else if !s.mayName p ch then refuse s .denied
  else if (s.chanItem ch).isNone then refuse s .notPresent
  else k

/-- CHN_START (R116); refused while the tamper response holds the channels (R478). -/
def opChnStart (p ch : Nat) (s : State) : State × Option Resp :=
  chnCmd s p ch (
    if s.sec.tamperOff then refuse s .denied
    else
      let st := s.effState ch
      if (st = chOff ∧ s.mayStart ch) ∨ (st = chFault ∧ s.faultCleared ch) then
        (s.requestState ch chArmed 0, some (rsp .ok))
      else refuse s .badState)

/-- CHN_STOP (R116): of a channel without an item it changes nothing. -/
def opChnStop (p ch : Nat) (s : State) : State × Option Resp :=
  if ch ≤ 191 ∧ p = 0 ∧ (s.chanItem ch).isNone then refuse s .ok
  else chnCmd s p ch (s.stopChannel ch, some (rsp .ok))

/-- CHN_QUIET (R116). -/
def opChnQuiet (p ch : Nat) (s : State) : State × Option Resp :=
  chnCmd s p ch (
    let st := s.effState ch
    if st = chOff ∨ st = chFault then refuse s .badState
    else if st = chQuiet then refuse s .ok
    else (s.requestState ch chQuiet 0, some (rsp .ok)))

/-- What R117 asks of a channel that is QUIET once the changes requested have applied: it entered QUIET from LIVE, and neither its
coupling mode nor its tone maps have changed since. -/
def State.resumesLive (s : State) (ch : Nat) : Bool :=
  let c := s.chan ch
  (s.grid.changes.foldl (fun (e : Nat × Bool) x => match x with
    | .state c' st _ => if c' = ch then (st, if st = chQuiet ∧ e.1 ≠ chQuiet then e.1 == chLive && c.rxGeneral.isSome else e.2) else e
    | .coupling c' _ => if c' = ch then (e.1, false) else e
    | _ => e) (s.chState ch, c.quietOk)).2 && (s.chState ch != chQuiet || decide (c.quietHems ≤ 256))

/-- CHN_RESUME (R116, R117). -/
def opChnResume (p ch : Nat) (s : State) : State × Option Resp :=
  chnCmd s p ch (
    if s.effState ch ≠ chQuiet then refuse s .badState
    else (s.requestState ch (if s.resumesLive ch then chLive else chArmed) 0, some (rsp .ok)))

/-- CHN_RETRAIN (R116, R170 trigger 4). -/
def opChnRetrain (p ch : Nat) (s : State) : State × Option Resp :=
  chnCmd s p ch (
    let st := s.effState ch
    if st = chTraining ∨ st = chLive then (s.invalidate ch 4 true, some (rsp .ok)) else refuse s .badState)

/-- A change of the coupling mode waits or is under way. -/
def State.couplingBusy (s : State) (ch : Nat) : Bool :=
  s.flag .CHN_STATUS_coupling_pending ch || s.grid.changes.any (fun c => match c with
    | .coupling x _ => x == ch
    | _ => false)

/-- CHN_SET_COUPLING (R114, R116). -/
def opChnSetCoupling (p ch mode : Nat) (s : State) : State × Option Resp :=
  if 3 < mode then refuse s .badArg
  else chnCmd s p ch (
    let st := s.effState ch
    if st = chTraining ∨ st = chLive then refuse s .badState
    else if s.couplingBusy ch then refuse s .busy
    else (s.request (.coupling ch mode), some (rsp .ok)))

/-- CHN_SET_ROLE (R116, R213): FEXT and precoder pairs of the channel go to EMPTY. -/
def opChnSetRole (p ch role : Nat) (s : State) : State × Option Resp :=
  if 1 < role then refuse s .badArg
  else chnCmd s p ch (
    if s.effState ch ≠ chOff then refuse s .badState
    else if s.fld .CHN_STATUS_role ch = role then refuse s .ok
    else ((s.setFld .CHN_STATUS_role ch role).olaEmptyFar ch, some (rsp .ok)))

/-- The words CHN_QUERY returns (R116). -/
def State.chnWords (s : State) (ch : Nat) : List Nat :=
  [s.fld .CHN_STATUS_state ch + 8 * s.fld .CHN_STATUS_role ch + 16 * s.fld .CHN_STATUS_coupling ch
      + 64 * s.fld .CHN_STATUS_profile ch + 256 * s.fld .CHN_STATUS_fault_cause ch
      + 4096 * s.fld .CHN_STATUS_rx_busy ch + 8192 * s.fld .CHN_STATUS_coupling_pending ch,
    s.fld .CHN_RSSI_rssi ch + 4096 * s.fld .CHN_RSSI_rssi_valid ch + 65536 * s.fld .CHN_RSSI_noise_floor ch
      + 2 ^ 28 * s.fld .CHN_RSSI_nf_valid ch,
    s.fld .CHN_SYNC_sync_offset ch + 2 ^ 14 * s.fld .CHN_SYNC_sync_frac ch + 2 ^ 18 * s.fld .CHN_SYNC_sync_valid ch,
    s.fld .CHN_FREQ_sco_ppm ch + 65536 * s.fld .CHN_FREQ_sco_valid ch]

/-- CHN_QUERY (R116): PNL0 also asks after channels without an item. -/
def opChnQuery (p ch : Nat) (s : State) : State × Option Resp :=
  if 191 < ch then refuse s .badArg
  else if !s.mayName p ch then refuse s .denied
  else (s, some ⟨.ok, (s.chnWords ch).flatMap (le 4)⟩)

/-- CHN_START. -/
def execChnStart (c : Cmd) (ch : Nat) (s : State) : Host.Outcome State Fault Refusal :=
  .next (ohi s c 0x1801 (opChnStart c.pnl ch s))

/-- CHN_STOP. -/
def execChnStop (c : Cmd) (ch : Nat) (s : State) : Host.Outcome State Fault Refusal :=
  .next (ohi s c 0x1802 (opChnStop c.pnl ch s))

/-- CHN_QUIET. -/
def execChnQuiet (c : Cmd) (ch : Nat) (s : State) : Host.Outcome State Fault Refusal :=
  .next (ohi s c 0x1803 (opChnQuiet c.pnl ch s))

/-- CHN_RESUME. -/
def execChnResume (c : Cmd) (ch : Nat) (s : State) : Host.Outcome State Fault Refusal :=
  .next (ohi s c 0x1804 (opChnResume c.pnl ch s))

/-- CHN_RETRAIN. -/
def execChnRetrain (c : Cmd) (ch : Nat) (s : State) : Host.Outcome State Fault Refusal :=
  .next (ohi s c 0x1805 (opChnRetrain c.pnl ch s))

/-- CHN_SET_COUPLING. -/
def execChnSetCoupling (c : Cmd) (ch mode : Nat) (s : State) : Host.Outcome State Fault Refusal :=
  .next (ohi s c 0x1806 (opChnSetCoupling c.pnl ch mode s))

/-- CHN_SET_ROLE. -/
def execChnSetRole (c : Cmd) (ch role : Nat) (s : State) : Host.Outcome State Fault Refusal :=
  .next (ohi s c 0x1807 (opChnSetRole c.pnl ch role s))

/-- CHN_QUERY. -/
def execChnQuery (c : Cmd) (ch : Nat) (s : State) : Host.Outcome State Fault Refusal :=
  .next (ohi s c 0x1808 (opChnQuery c.pnl ch s))

/-- TRAIN_TIMEOUT: `train_timeout` Hems in TRAINING, or in LIVE without a frame of the link (R115). -/
def execTrainTimeout (ch : Nat) (s : State) : Host.Outcome State Fault Refusal :=
  .next (
    let n := s.fld .CHN_CFG_train_timeout ch
    let c := s.chan ch
    if (s.effState ch = chTraining ∧ n ≤ c.trainHems) ∨ (s.effState ch = chLive ∧ n ≤ c.rxHems) then
      s.requestState ch chArmed 0
    else s)

/-- FAULT_AUTO_REARM: at a Hem boundary after the cause has cleared (R115). -/
def execFaultAutoRearm (ch : Nat) (s : State) : Host.Outcome State Fault Refusal :=
  .next (
    if s.effState ch = chFault ∧ s.flag .CHN_CFG_auto_rearm ch = true ∧ s.faultCleared ch = true
        ∧ s.sec.tamperOff = false then s.requestState ch chArmed 0 else s)

end Sys2Proof.Machine
end

