-- ==== Sys2Proof/Machine/Air.lean ====
section
/-! DEFINITION. What the module sends (chapters 3, 4 and 6): the cells of a frame's symbols, the interleaver's transmit line,
sync symbols, the precoder and what transmits in a slot (R83 to R99, R111, R135 to R147, R184, R196, R197, R200, R203). -/

namespace Sys2Proof.Machine

/-- A cell before scaling, with E. -/
abbrev Cell := (Int × Int) × Nat

/-- The cell +1 (R99, R159). -/
def oneCell : Cell := ((1, 0), 1)

/-- Cells of a symbol by loading (R137), each with E. -/
def loadCells (loads : List Nat) (l : List Bool) : List Cell :=
  (mapSymbol loads l).zip (loads.map (fun b => if b = 0 then 1 else cellE b))

/-- The cells of `d` data carriers sent in a repetition mode with `m` cells, R copies each (R99). -/
def repCells (d m R : Nat) (l : List Bool) : List Cell :=
  let cs := loadCells (List.replicate m 2) l
  (repLayout d m R).map (fun o => match o with
    | some i => cs.getD i oneCell
    | none => oneCell)

/-- Cells put on carriers. -/
def onCarriers (cs : List Nat) (l : List Cell) : List (Nat × (Int × Int) × Nat) := cs.zip l

/-- Pilots of a symbol with their signs (R92). -/
def pilotCells (cs : List Nat) (signs : List Bool) : List (Nat × (Int × Int) × Nat) :=
  cs.zip (signs.map (fun b => (((if b then -1 else 1 : Int), (0 : Int)), 1)))

/-- The cells of the frame-control symbol (R98), pilots included, and the pilot register after it. -/
def fcSymbol (p : BandPlan) (w : Nat) : List (Nat × (Int × Int) × Nat) × Nat :=
  let set := fcSet p
  let d := dataOf set
  let (signs, r) := pilotSigns (pilotsOf set).length 511
  (onCarriers d (repCells d.length 134 6 (fcCoded w)) ++ pilotCells (pilotsOf set) signs, r)

/-- Payload symbols with their pilots, from a pilot register. -/
def paySymbols (set : List Nat) : Nat → List (List Cell) → List (List (Nat × (Int × Int) × Nat))
  | _, [] => []
  | r, l :: ls =>
    let (signs, r') := pilotSigns (pilotsOf set).length r
    (onCarriers (dataOf set) l ++ pilotCells (pilotsOf set) signs) :: paySymbols set r' ls

/-- The scrambled payload of a frame (R124). -/
def Frame.scrambled (f : Frame) : List Bool := scramble f.fc.link (bytesToBits f.payload)

/-- The tone map a frame was committed with (R36). -/
def State.frameMap (_ : State) (f : Frame) : Option ToneMap := f.map

/-- The repetition a frame's payload is sent in: BEACON frames in ROBO-6 (R236). -/
def frameRobo (fc : FC) : Nat := if fc.typ = 2 then 2 else fcRobo fc

/-- A bit string in symbols of `first` and then `n` bits. -/
def symbolBits (first n : Nat) : Nat → List Bool → List (List Bool)
  | 0, _ => []
  | k + 1, l => l.take first :: symbolBits n n k (l.drop first)

/-- The data cells of a frame's payload symbols that bypasses the interleaver (R99, R135, R136, R154). -/
def State.plainCells (s : State) (f : Frame) : List (List Cell) :=
  let n := fcPayload f.fc
  let d := s.dCount f.ch
  if f.fc.typ = 4 then
    (symbolBits (2 * d) (2 * d) n (scramble f.fc.link (List.replicate (2 * d * n) false))).map (loadCells (List.replicate d 2))
  else
    let robo := frameRobo f.fc
    if robo = 0 then match s.frameMap f with
      | none => []
      | some m =>
        let bs := symBits m.loads
        (symbolBits bs bs n (fillBits (bs * n) (encodePayload m.code f.scrambled))).map (loadCells m.loads)
    else
      let m := d / roboR robo
      (symbolBits (2 * m) (2 * m) n (fillBits (2 * m * n) (encodePayload 0 f.scrambled))).map (repCells d m (roboR robo))

/-- W of a channel's transmit direction in link symbols (R140). -/
def State.liW (s : State) (ch : Nat) : Nat := 64 * (s.fld .CHN_CODE_STATUS_li_span_tx ch + 1)

/-- The input cells of an interleaved frame's payload symbols (R125, R135, R136, R147): positions 48 upward in the first. -/
def liInput (f : Frame) (m : ToneMap) : List (List Cell) :=
  let n := fcNSym f.fc
  let first := symBitsFirst m.loads
  let bs := symBits m.loads
  let total := first + bs * (n - 1)
  let l := if f.kind = .fill then scramble f.fc.link (List.replicate total false)
    else fillBits total (encodePayload m.code f.scrambled)
  (symbolBits first bs n l).zipIdx.map (fun (e : List Bool × Nat) =>
    if e.2 = 0 then (stampCells 0).map (fun c => (c, 2)) ++ loadCells (m.loads.drop 48) e.1 else loadCells m.loads e.1)

/-- Position `k` of link symbol `t` takes a cell that would have entered before the stream's start (R141). -/
def liEarly (w t k : Nat) : Bool := decide (48 ≤ k) && decide (t < liDelay w k)

/-- Bits of the fill cells among the first `n` positions of link symbol `t`. -/
def liFillBits (w t : Nat) (loads : List Nat) (n : Nat) : Nat :=
  (((loads.take n).zipIdx.filter (fun e => liEarly w t e.2)).map (·.1)).foldl (· + ·) 0

/-- One link symbol leaves the delay line (R141): `line` holds the input symbols before it, newest first, `t` its index, `fill` the
scrambled zeros its fill cells carry, in order (R125 with R141: DEDUCED, log 30). -/
def liOutput (w t : Nat) (loads : List Nat) (fill : List Bool) (line : List (List Cell)) (input : List Cell) : List Cell :=
  input.zipIdx.map (fun (e : Cell × Nat) =>
    let d := liDelay w e.2
    let b := loads.getD e.2 0
    if e.2 < 48 ∨ d = 0 then e.1
    else if liEarly w t e.2 then
      if b = 0 then oneCell else (mapCell ((fill.drop (liFillBits w t loads e.2)).take b), cellE b)
    else (line.getD (d - 1) []).getD e.2 oneCell)

/-- The first symbol's stamp (R142). -/
def withStamp (idx : Nat) (l : List Cell) : List Cell :=
  ((stampCells idx).zipIdx.map (fun (e : (Int × Int) × Nat) => (e.1, if e.2 < 44 then 2 else 1))) ++ l.drop 48

/-- Link symbols pass through the delay line: the output symbols and the line after them, which keeps what a frame cut short puts
back (R145). -/
def liRun (w : Nat) (loads : List Nat) : Nat → List Bool → List (List Cell) → List (List Cell) → List (List Cell) × List (List Cell)
  | _, _, line, [] => ([], line)
  | t, fill, line, x :: xs =>
    let o := liOutput w t loads fill line x
    let r := liRun w loads (t + 1) (fill.drop (liFillBits w t loads loads.length)) ((x :: line).take (w + 512)) xs
    (o :: r.1, r.2)

/-- The longest delay of the positions of a symbol. -/
def liMax (w d : Nat) : Nat := ((List.range d).map (liDelay w)).foldl max 0

/-- The data cells of a frame's payload symbols, and the transmit line after them (R139 to R147): `liTxLeft` link symbols
are still needed to emit the last real cell. -/
def State.payCells (s : State) (f : Frame) : List (List Cell) × State :=
  match f.liPos, s.frameMap f with
  | some _, some m =>
    let c := s.chan f.ch
    let w := s.liW f.ch
    let n := fcNSym f.fc
    let input := (liInput f m).zipIdx.map (fun (e : List Cell × Nat) => if e.2 = 0 then withStamp c.liTxT e.1 else e.1)
    let sent := if f.kind = .fill then symBitsFirst m.loads + symBits m.loads * (n - 1) else 8 * f.payload.length
    let fill := scramble f.fc.link (List.replicate (sent + n * symBits m.loads) false)
    let (out, line) := liRun w m.loads c.liTxT (fill.drop sent) c.liLine input
    let left := if f.kind = .fill then c.liTxLeft - n else liMax w m.loads.length
    (out, (s.setChan f.ch { c with liTxT := c.liTxT + n, liLine := line, liTxLeft := left }).setFld
      .CHN_CODE_STATUS_li_tx_pos f.ch (c.liTxT + n))
  | _, _ => (s.plainCells f, s)

/-- A launched frame's cells (R84, R92, R98, R135). -/
def State.buildAir (s : State) (f : Frame) : AirFrame × State :=
  let w := fcPack f.fc
  let (fcs, r) := fcSymbol (s.plan f.ch) w
  let (pay, s) := s.payCells f
  ({ ch := f.ch, slot := f.slot, kind := f.kind, fcBits := w, cells := fcs :: paySymbols (s.payload f.ch) r pay
     ramp := s.fld .CHN_CFG_ramp_us f.ch, level := s.effFld .CHN_TX_LEVEL_tx_atten f.ch }, s)

/-- The cells of a channel's sync symbol at an index (R203); a carrier of a masked ledger segment carries 0 (R202). -/
def State.syncSymbol (s : State) (ch t : Nat) : List (Nat × (Int × Int) × Nat) :=
  let bits := scrambleFrom 0x7000 (List.replicate 2048 false)
  let w := pilotSign (s.pilotCode ch) t
  ((carrierRange 74 1097).filter (fun c => !notched (s.plan ch) c && !s.maskedFor ch [c] 0)).map (fun c =>
    let i := c - 74
    let v := mapCell [bits.getD (2 * i) false, bits.getD (2 * i + 1) false]
    (c, (w * v.1, w * v.2), 2))

/-- Slots a transmission fills. -/
def AirFrame.slots (a : AirFrame) : Nat :=
  match a.kind with
  | .prs | .sync => 1
  | _ => 1 + a.cells.length

/-- The transmission of a channel in a slot. -/
def State.airAt (s : State) (ch k : Nat) : Option AirFrame :=
  s.grid.onAir.find? (fun a => a.ch == ch && decide (a.slot ≤ k) && decide (k < a.slot + a.slots))

/-- A channel transmits in a slot (R108, R198, R246, R295). -/
def State.txAt (s : State) (ch k : Nat) : Bool := (s.airAt ch k).isSome || s.toneIn ch k

/-- The cells of a channel's cyclic symbol in a slot: none in a preamble slot or a PRS. -/
def State.airCells (s : State) (ch k : Nat) : Option (List (Nat × (Int × Int) × Nat)) :=
  match s.airAt ch k with
  | none => none
  | some a => match a.kind with
    | .sync => a.cells.head?
    | .prs => none
    | _ => if k = a.slot then none else a.cells[k - a.slot - 1]?

/-- The value of a cell at unit mean power (R137). -/
def cellVal (v : (Int × Int) × Nat) : Cx := Cx.scale (Config.rsqrt v.2) ⟨(v.1.1 : Int), (v.1.2 : Int)⟩

/-- A channel's cell on a carrier before precoding. -/
def State.rawCell (s : State) (ch k c : Nat) : Option Cx :=
  (s.airCells ch k).bind (fun l => (l.find? (fun e => e.1 == c)).map (fun e => cellVal e.2))

/-- The amplitude a plan's masks leave a carrier (R86, R90, R111). -/
def maskAmp (p : BandPlan) (c : Nat) : Rat :=
  let db := maskDb p c
  if db = 0 then 1 else Config.powerRatio (-2 * (db : Int))

/-- The mean power of a channel's cells on a carrier, in units of a data cell (R199, R208): 0 where notched, less the mask. -/
def State.cellPower (s : State) (d c : Nat) : Rat :=
  if notched (s.plan d) c then 0 else maskAmp (s.plan d) c * maskAmp (s.plan d) c

/-- The precoder pairs applied to a victim in a slot (R197): disturber and slot index. -/
def State.precPairs (s : State) (v k : Nat) : List (Nat × Nat × Nat) :=
  match s.victimIdx 2 v with
  | none => []
  | some vi =>
    if !s.olaOn 2 || (s.airCells v k).isNone then []
    else ((s.olaSlots 2 v).zipIdx.filter (fun (e : Nat × Nat) =>
      pairActive (s.pair 2 vi e.2) && (s.airCells e.1 k).isSome)).map (fun (e : Nat × Nat) => (e.1, vi, e.2))

/-- What a symbol precoded before a head was lost holds of that head (R214): coefficient and cell by disturber. -/
def State.lostTerms (s : State) (v k c : Nat) : List (Cx × Cx) :=
  (s.ola.terms.filter (fun t => t.victim == v && decide (k ≤ t.upto))).filterMap (fun t =>
    let cells (a : AirFrame) : Option (Int × Int × Nat) :=
      if a.ch = t.dist ∧ a.slot < k + b2n (a.kind == .sync) ∧ a.kind ≠ .prs then
        ((a.cells.getD (k - a.slot - b2n (a.kind != .sync)) []).find? (fun e => e.1 == c)).map (fun e => (e.2.1.1, e.2.1.2, e.2.2))
      else none
    let built := s.ola.ghosts ++ (s.ola.ghostTx.map (fun f => (s.buildAir f).1))
    (built.filterMap cells).head?.map (fun x => (entryVal (tget 0 c t.words), cellVal ((x.1, x.2.1), x.2.2))))

/-- A cell of a symbol that the precoder changes (R197), before its limit (R196, R200): 0 where notched, less the mask. -/
def State.precSum (s : State) (v k c : Nat) : Option Cx :=
  (s.rawCell v k c).map (fun x =>
    if c < 74 ∨ 1097 < c then x.scale (maskAmp (s.plan v) c)
    else if notched (s.plan v) c then Cx.zero
    else
      let add := Cx.sum ((s.precPairs v k).map (fun (e : Nat × Nat × Nat) =>
        (s.coefVal 2 e.2.1 e.2.2 c).mul ((s.rawCell e.1 k c).getD Cx.zero)))
      let old := Cx.sum ((s.lostTerms v k c).map (fun (e : Cx × Cx) => e.1.mul e.2))
      ((x.add add).add old).scale (maskAmp (s.plan v) c))

/-- A symbol of a channel is precoded (R197, R214). -/
def State.precoded (s : State) (v k : Nat) : Bool :=
  s.precPairs v k != [] || s.ola.terms.any (fun t => t.victim == v && decide (k ≤ t.upto) && (s.airCells v k).isSome)

/-- A cell beyond the limit of R200. -/
def State.overClip (s : State) (z : Cx) : Bool := decide (Config.powerRatio (s.fld .OLA_SYNC_CFG_prec_clip 0) < z.abs2)

/-- The cell a channel sends on a carrier in a slot (R90, R183, R184, R196, R200): a precoded one of the vectored band is held to the
limit. -/
def State.sentCell (s : State) (v k c : Nat) : Option Cx :=
  (s.precSum v k c).map (fun z =>
    if 74 ≤ c ∧ c ≤ 1097 ∧ s.precoded v k = true ∧ s.overClip z = true then
      z.scale (rootRat (Config.powerRatio (s.fld .OLA_SYNC_CFG_prec_clip 0) / z.abs2))
    else z)

/-- A symbol of a victim holds a cell limited under R200. -/
def State.clips (s : State) (v k : Nat) : Bool :=
  s.precoded v k && (carrierRange 74 1097).any (fun c => (s.precSum v k c).any s.overClip)

/-- Sample n of the short symbol before scaling (R93), its carriers less their masks (R90). -/
def shortSample (p : BandPlan) (n : Nat) : Rat :=
  ((preambleSet p).map (fun c =>
    let m := c / 8
    maskAmp p c * (Config.expTurn ((preamblePhase m : Rat) / 256 + ((m * n : Nat) : Rat) / 1024)).re)).foldl (· + ·) 0

/-- Samples of a channel's ramp-up (R112). -/
def State.rampSamples (s : State) (ch : Nat) : Nat := (s.fld .CHN_CFG_ramp_us ch + 1) * 200

/-- The ramp-up factor 0.5 (1 − cos π t / T) of sample `k` of a slot whose ramp is `n` samples long (R112, R203). -/
def rampUp (n k : Nat) : Rat := if n ≤ k then 1 else (1 - (Config.expTurn ((k : Rat) / ((2 * n : Nat) : Rat))).re) / 2

/-- The ramp-down factor 0.5 (1 + cos π t / Td) (R113, R203): 0 from its end on. -/
def rampDown (n k : Nat) : Rat := if n ≤ k then 0 else (1 + (Config.expTurn ((k : Rat) / ((2 * n : Nat) : Rat))).re) / 2

/-- K_p of R93 in units of a data cell: the root-mean-square of the short symbol equals a data symbol's. -/
def State.preambleScale (s : State) (ch : Nat) : Rat :=
  let power (l : List Nat) : Rat := (l.map (s.cellPower ch)).foldl (· + ·) 0
  rootRat (power (s.payload ch) / power (preambleSet (s.plan ch)))

/-- Sample `k` of a preamble slot before the transmit level (R93, R94, R112): the ramp is that of the frame. -/
def State.preambleSample (s : State) (ch ramp k : Nat) : Rat :=
  let j := preambleIndex s.ls k
  let v := shortSample (s.plan ch) j.1
  s.preambleScale ch * rampUp ramp k * (if j.2 then -v else v)

/-- The FFT of a preamble slot's body on a carrier, in units of a data cell (R93, R94, R197). -/
def State.preambleRef (s : State) (ch ramp c : Nat) : Cx :=
  (Cx.sum ((List.range 8192).map (fun n =>
    Cx.scale (s.preambleSample ch ramp (n + guardSamples s.grid.guard)) (Config.expTurn (-((c * n : Nat) : Rat) / 8192))))).scale (1 / 4096)

/-- The NEXT reference of a disturber in a slot (R184, R196, R197): 0 on its notched carriers. -/
def State.nextRef (s : State) (d k c : Nat) : Cx :=
  if notched (s.plan d) c then Cx.zero
  else match s.airAt d k with
    | none => Cx.zero
    | some a =>
      if a.kind = .prs then Cx.zero
      else if a.kind ≠ .sync ∧ k = a.slot then s.preambleRef d ((a.ramp + 1) * 200) c
      else (s.sentCell d k c).getD Cx.zero

/-- A channel's slot holds a ramp-down tail only (R113, R197, R203): the slot after a frame's last symbol. -/
def State.tailAt (s : State) (d k : Nat) : Bool :=
  decide (1 ≤ k) && !s.txAt d k && (match s.airAt d (k - 1) with
    | some a => a.kind != .prs && decide (a.slot + a.slots = k)
    | none => false)

/-- A disturber's slot is not cyclic (R199): its preamble slot or the slot after its last frame symbol. -/
def State.nonCyclic (s : State) (d k : Nat) : Bool := (s.txAt d k && (s.airCells d k).isNone) || s.tailAt d k

end Sys2Proof.Machine
end

