-- ==== Sys2Proof/Machine/Send.lean ====
section
/-! DEFINITION. What leaves for the heads: the transmit samples of a channel (R83, R93, R111 to R113, R203, R246, R295) and the
downstream frames of a lane (R333 to R341, R345, R347, R366). -/

namespace Sys2Proof.Machine

/-- K of R83: the amplitude of a carrier whose cell has unit power at an attenuation of `att` half decibels (R111, log 165). -/
def sendScale (att : Nat) : Rat := Config.reference * Config.powerRatio (-(att : Int))

/-- The power of a data symbol's carriers, in units of a data cell. -/
def State.symPower (s : State) (ch : Nat) : Rat := ((s.payload ch).map (s.cellPower ch)).foldl (· + ·) 0

/-- Sample `n` of the body of a channel's cyclic symbol in a slot, before its scale (R83). -/
def State.bodySample (s : State) (ch k n : Nat) : Rat :=
  (((s.airCells ch k).getD []).map (fun e =>
    (((s.sentCell ch k e.1).getD Cx.zero).mul (Config.expTurn (((e.1 * n : Nat) : Rat) / 8192))).re)).foldl (· + ·) 0

/-- The body of a channel's symbol, its peak held to `papr_limit` above its root mean square (R111, log 165). -/
def State.symBody (s : State) (ch k : Nat) : List Rat :=
  let l := (List.range 8192).map (s.bodySample ch k)
  let sq := l.map (fun x => x * x)
  let limit := 24 + s.fld .CHN_TX_LEVEL_papr_limit ch
  if sq.all (fun x => decide (x * 8192 ≤ Config.powerRatio (limit : Int) * sq.foldl (· + ·) 0)) then l
  else Config.paprFilter limit (s.plan ch) l

/-- Sample `n` of a PRS before its scale (R246): 128 samples of ramped cyclic extension and four short symbols. -/
def State.prsSample (s : State) (ch n : Nat) : Rat :=
  if 4224 ≤ n then 0 else s.preambleScale ch * rampUp 128 n * shortSample (s.plan ch) ((n + 896) % 1024)

/-- The factor of a tone `n` samples into a chip (R295): ramps of 10 µs follow a change of the chip. -/
def chipGain (before now : Bool) (n : Nat) : Rat :=
  if now then (if before then 1 else rampUp 2000 n) else (if before then rampDown 2000 n else 0)

/-- A sequence's sample at a tick, before its scale (R295): the root mean square of an on chip is a data symbol's. -/
def State.toneSample (s : State) (t : Tone) (tick : Nat) : Rat :=
  let t0 := s.slotTick t.slot
  if tick < t0 ∨ s.toneEnd t ≤ tick then 0
  else
    let i := (tick - t0) / 200000
    let chip (i : Nat) : Bool := (toneChips t.group).getD (i % 72) false
    rootRat (s.symPower t.ch) * chipGain (decide (0 < i) && chip (i - 1)) (chip i) ((tick - t0) % 200000)
      * (Config.expTurn (((toneCarrier t.carrier * (tick - t0) : Nat) : Rat) / 8192)).re

/-- A channel's samples in a slot as its transmission there makes them, without the tail of the one before. -/
def State.slotWave (s : State) (ch k : Nat) : List Rat :=
  let n := s.ls
  match s.airAt ch k with
  | some a =>
    let K := sendScale a.level
    if a.kind = .prs then
      let o := a.half * (n / 2)
      (List.range n).map (fun i => if i < o then 0 else K * s.prsSample ch (i - o))
    else if a.kind ≠ .sync ∧ k = a.slot then
      (List.range n).map (fun i => K * s.preambleSample ch ((a.ramp + 1) * 200) i)
    else
      let b := s.symBody ch k
      (List.range n).map (fun i => K * (if a.kind = .sync then rampUp 64 i else 1) * b.getD ((i + 8192 - guardSamples s.grid.guard) % 8192) 0)
  | none => match s.drm.tones.find? (fun t => t.ch == ch && decide (t.slot ≤ k) && decide (s.slotTick k < s.toneEnd t)) with
    | some t => (List.range n).map (fun i => sendScale (s.effFld .CHN_TX_LEVEL_tx_atten ch) * s.toneSample t (s.slotTick k + i))
    | none => []

/-- The ramp-down tail a channel's last symbol leaves after a slot (R113, R203): none where its transmission goes on. -/
def State.slotTail (s : State) (ch k : Nat) : List Rat :=
  match s.airAt ch k with
  | none => []
  | some a =>
    if a.kind = .prs ∨ a.slot + a.slots ≠ k + 1 then []
    else
      let td := if a.kind = .sync then 64 else min ((a.ramp + 1) * 200) (guardSamples s.grid.guard)
      let b := s.symBody ch k
      (List.range td).map (fun i => sendScale a.level * rampDown td i * b.getD i 0)

/-- What the channels sent in a slot that ends: each one's last ten samples, and the tail to come. -/
def State.keepTails (s : State) (k : Nat) : State :=
  let on := (s.grid.onAir.map (·.ch) ++ s.drm.tones.map (·.ch)).dedup
  let l := on.filter (fun ch => s.txAt ch k)
  { s with hlk := { s.hlk with past := l.foldl (fun t ch => tset ch ((s.slotWave ch k).drop (s.ls - 10), s.slotTail ch k) t) [] } }

/-- A sample at 12 bits (R111, R113). -/
def sample12 (x : Rat) : Int := clampInt (-2048) 2047 (roundRat x)

/-- A channel's samples from ten ticks before a slot to its end, the last tail added (R113): empty where it sends nothing. -/
def State.sendWave (s : State) (ch k : Nat) : List Int :=
  let (old, tail) := tget ([], []) ch s.hlk.past
  let now := s.slotWave ch k
  if old = [] ∧ now = [] then []
  else (List.range 10).map (fun i => sample12 (old.getD i 0))
    ++ (List.range s.ls).map (fun i => sample12 (now.getD i 0 + tail.getD i 0))

/-- A channel's ramp code in frame `m` (R347): START at the first tick of a transmission, END at its last; overlapping ones run on. -/
def State.rampCode (s : State) (ch m : Nat) : Nat :=
  let on (t : Nat) : Bool := s.rampAt ch t 0
  let ticks := List.range 10
  match ticks.find? (fun i => on (10 * m + i) && !on (10 * m + i - 1)), ticks.find? (fun i => on (10 * m + i) && !on (10 * m + i + 1)) with
  | some i, _ => 16 + i
  | none, some i => 32 + i
  | none, none => if on (10 * m) then 48 else 0

/-- The last frame that may carry the excitation samples of a gauge period: it ends at least 20 ticks before 128p (R339). -/
def excLast (p : Nat) : Nat := (128 * p - 30) / 10

/-- The excitation words of frame `m` (R339, R366): the six frames up to the last allowed carry a period's 24 slots, four each in order
(log 176). -/
def State.excWords (s : State) (j m : Nat) : List (Option (Nat × Nat × Int)) :=
  let p := (10 * m + 30 + 127) / 128
  let i := m + 5 - excLast p
  (List.range 4).map (fun w =>
    if m + 5 < excLast p then none
    else some (4 * i + w, p % 8, (s.gauge (24 * j + 4 * i + w)).dac p))

/-- A control message's 96 bits (R340). -/
def CtlMsg.word (m : CtlMsg) : Nat := (if m.write then 2 else 1) * 2 ^ 92 + m.tag * 2 ^ 84 + m.addr * 2 ^ 68 + m.data * 2 ^ 36

/-- The message waiting at a place of a lane's queue of tags; NOP where none waits or it was answered meanwhile. -/
def Lane.ctlWord (l : Lane) (i : Nat) : Nat :=
  match l.toSend[i]? with
  | none => 0
  | some t => ((l.out.find? (fun m => m.tag == t)).map CtlMsg.word).getD 0

/-- Samples and ramp codes of a lane's frames of the slot in progress (R338, R347): zero and IDLE unless the lane is ALIGNED (R352). -/
def State.fillDown (s : State) (j : Nat) : State :=
  if s.laneAligned j = false then s
  else
    let k := s.grid.slot
    let waves := (List.range 24).map (fun i => s.sendWave (24 * j + i) k)
    s.updLane j (fun l => { l with down := l.down.map (fun d =>
      let at_ (t : Nat) : List Int := waves.map (fun w => w.getD (t + 10 - s.slotTick k) 0)
      { d with samples := (List.range 10).flatMap (fun i => at_ (10 * d.n + i))
               ramps := (List.range 24).map (fun i => s.rampCode (24 * j + i) d.n) }) })

/-- The frames `m` to `m + n - 1` of a lane, before their samples: excitation words where it is ALIGNED, `cal_mark` in one of 1,024
(R345), and two control messages each (R338). -/
def State.openDown (s : State) (j m n : Nat) : State :=
  let up := s.laneAligned j
  s.updLane j (fun l => { l with
    toSend := l.toSend.drop (2 * n)
    down := (List.range n).map (fun i =>
      ({ n := m + i, samples := List.replicate 240 0, ramps := List.replicate 24 0
         exc := if up then s.excWords j (m + i) else List.replicate 4 none, cal := (m + i) % 1024 == 0
         ctl := [l.ctlWord (2 * i), l.ctlWord (2 * i + 1)] } : DownFrame)) })

/-- The downstream frames whose last tick lies in the slot that begins, on every lane whose line is up (R333, R338, R352, log 176). -/
def State.sendSlot (s : State) : State :=
  let k := s.grid.slot
  let m := s.slotTick k / 10
  let n := s.slotTick (k + 1) / 10 - m
  ((List.range 8).filter (fun j => s.laneState j != hlkOff)).foldl (fun (s : State) j => (s.openDown j m n).fillDown j) s

/-- A lane's downstream frame while the grid does not run (log 176). -/
def State.sendIdle (s : State) (j : Nat) : State :=
  if s.grid.running then s else s.openDown j (s.tick / 10) 1

/-- An excitation word's 25 bits (R339). -/
def excBits (w : Option (Nat × Nat × Int)) : List Bool :=
  match w with
  | none => List.replicate 25 false
  | some (slot, tag, x) => [true] ++ bitsMsb 5 slot ++ bitsMsb 3 tag ++ bitsMsb 16 (unsigned 16 x)

/-- The payload bits of a downstream frame (R338). -/
def DownFrame.payload (d : DownFrame) : List Bool :=
  bitsMsb 24 0xC29E5B ++ bitsMsb 40 (d.n % 2 ^ 40) ++ d.samples.flatMap (fun x => bitsMsb 12 (unsigned 12 x)) ++ d.exc.flatMap excBits
    ++ d.ramps.flatMap (bitsMsb 6) ++ [d.cal] ++ List.replicate 11 false ++ d.ctl.flatMap (bitsMsb 96) ++ List.replicate 1888 false

/-- A downstream frame on the line (R334, R335). -/
def DownFrame.line (d : DownFrame) : List Bool := laneEncode d.payload

end Sys2Proof.Machine
end

