-- ==== Sys2Proof/Machine/Wave.lean ====
section
/-! DEFINITION. What the upstream samples bring beside the pipes (R26, R334 to R337, R353, R355) and the wavefront detector that works on
them (R381, R382). -/

namespace Sys2Proof.Machine

/-- The echo of a channel's own transmission at a tick (R381), in steps of the receive sample (log 175): 0 where its self pair is not
ACTIVE or HELD. -/
def State.echoAt (s : State) (ch n : Nat) : Rat :=
  let k := (n - s.grid.epoch) / s.ls
  match s.victimIdx 0 ch with
  | none => 0
  | some vi =>
    if s.echoRemoved ch = false ∨ n < s.grid.epoch ∨ (s.airAt ch k).isNone then 0
    else
      let i := (n - s.slotTick k + 8192 - guardSamples s.grid.guard) % 8192
      (Cx.sum ((carrierRange 74 1097).map (fun c =>
        ((s.coefVal 0 vi 0 c).mul (s.nextRef ch k c)).mul (Config.expTurn (((c * i : Nat) : Rat) / 8192))))).re / 4096

/-- x' of R381: a receive sample less the echo; none where it is not held. -/
def State.waveX (s : State) (ch n : Nat) : Option Rat :=
  ((s.chan ch).rx.span n 1).map (fun l => ((l.headD 0 : Int) : Rat) - s.echoAt ch n)

/-- d of R381. -/
def State.waveD (s : State) (ch n : Nat) : Option Rat :=
  let lag := (s.castItem ch).wfLag
  match s.waveX ch n, (if n < lag then none else s.waveX ch (n - lag)) with
  | some a, some b => some (a - b)
  | _, _ => none

/-- |d|. -/
def absRat (q : Rat) : Rat := if q < 0 then -q else q

/-- A tick of a channel lies in its detector's dead time (R382). -/
def State.inDead (s : State) (ch n : Nat) : Bool := (tfind ch s.gau.dead).any (fun e => decide (n < e))

/-- μ follows |d| with a time constant of 65,536 samples, outside dead time (R381). -/
def State.waveMean (s : State) (ch n : Nat) : State :=
  match s.waveD ch n with
  | none => s
  | some d =>
    if s.inDead ch n then s
    else
      let m := tget 0 ch s.gau.mean
      { s with gau := { s.gau with mean := tset ch (m + (absRat d - m) / 65536) s.gau.mean } }

/-- The ten samples a lane's frame brought pass the detectors of its recorded channels. -/
def State.waveLane (s : State) (j : Nat) : State :=
  (laneChans j).foldl (fun s ch =>
    let r := (s.chan ch).rx
    let e := r.start + r.xs.length
    if s.castRecords ch ∧ s.laneAligned j then (List.range 10).foldl (fun s i => s.waveMean ch (e - 10 + i)) s else s) s

/-- UPSTREAM_FRAME: 5,600 line bits, the first most significant (R334 to R337, R353, R355, R381). -/
def execUpstreamFrame (lane : Nat) (bits : BitVec 5600) (s : State) : Host.Outcome State Fault Refusal :=
  .next (
    if s.laneState lane = hlkOff ∨ s.laneState lane = hlkDown ∨ 7 < lane then s
    else
      let s := s.sendIdle lane
      let locked := s.laneState lane != hlkLocking
      match laneDecode (bitsMsb 5600 bits.toNat) with
      | none =>
        let s := s.updLane lane (fun l => l.count none)
        let s := if locked then s.bump .HLK_FEC_CNT_fec_fail lane else s
        (s.laneBad lane).waveLane lane
      | some (p, n) =>
        let s := if locked then s.bumpWrapN .HLK_FEC_CNT_fec_corr lane n else s
        if pf p 0 24 = 0xC29E5B then
          let s := s.updLane lane (fun l => l.count (some (pf p 24 40)))
          if s.laneLocked lane then (s.laneTake lane p).waveLane lane else s
        else ((s.updLane lane (fun l => l.count none)).laneBad lane).waveLane lane)

/-- T_w of R381 at a tick. -/
def State.waveLimit (s : State) (ch n : Nat) : Rat :=
  let i := s.castItem ch
  let t : Rat := max (i.wfMin : Rat) ((i.wfMult : Rat) / 4 * tget 0 ch s.gau.mean)
  if s.rampAt ch n 0 then t * ((i.txMult : Rat) / 4) else t

/-- t_a of R382 in ns, `a` and `b` being |d| before and at the tick. -/
def State.arrivalNs (s : State) (ch n : Nat) (a b tw : Rat) : Int :=
  let lat := (tget (0, 0) ch s.hlk.slotLat).2
  roundRat (5 * ((n : Rat) - 1) + 5 * (tw - a) / (b - a) - (lat : Rat) / 10)

/-- Samples marked `gap` lie within 1 µs of a tick (R380, R382). -/
def State.gapNear (s : State) (ch n : Nat) : Bool :=
  (s.lane (headOf ch)).zeroed.any (fun a => decide (a ≤ n + 200) && decide (n < a + 210))

/-- WAVEFRONT_ARRIVAL: a sample reaches the threshold outside dead time (R381, R382), the one before it did not, and the 200 that follow
are there. μ is taken as it stands (log 175). -/
def execWavefrontArrival (ch tick : Nat) (s : State) : Host.Outcome State Fault Refusal :=
  .next (
    let s := s.reach tick
    let tw := s.waveLimit ch tick
    let after := (List.range 200).filterMap (fun i => s.waveD ch (tick + 1 + i))
    match s.waveD ch (tick - 1), s.waveD ch tick with
    | some d0, some d1 =>
      if s.castRecords ch = false ∨ s.inDead ch tick = true ∨ absRat d1 < tw ∨ tw ≤ absRat d0 ∨ after.length < 200 then s
      else
        let peak := (after.map absRat).foldl max (absRat d1)
        s.arrive ch tick (decide (d1 < 0)) (s.arrivalNs ch tick (absRat d0) (absRat d1) tw) (roundRat peak).toNat (s.gapNear ch tick)
    | _, _ => s)

/-- DEAD_TIME_END (R382; log 157). -/
def execDeadTimeEnd (ch : Nat) (s : State) : Host.Outcome State Fault Refusal :=
  .next (match tfind ch s.gau.dead with
    | none => s
    | some t =>
      let s := s.reach t
      { s with gau := { s.gau with dead := tdel ch s.gau.dead } })

end Sys2Proof.Machine
end

