-- ==== Sys2Proof/Machine/Phy.lean ====
section
/-! DEFINITION. Reception (R100 to R110, R174 to R178, R194 to R199): the detector, the frame control, and what the pipe makes
of a symbol before the other channels' symbols are known. -/

namespace Sys2Proof.Machine

/-- The slot a tick lies in. -/
def State.slotAt (s : State) (t : Nat) : Nat := (t - s.grid.epoch) / s.ls

/-- A channel's receiver runs: a state that receives, its coupling mode confirmed, its lane up (R32, R114, R115). -/
def State.listens (s : State) (ch : Nat) : Bool :=
  let st := s.chState ch
  (st == chArmed || st == chTraining || st == chLive || st == chQuiet)
    && !s.flag .CHN_STATUS_coupling_pending ch && s.laneAligned (headOf ch)

/-- A channel is busy sending in a slot and cannot receive (R108): half a slot of PRS leaves the other half (R246). -/
def State.deaf (s : State) (ch k : Nat) : Bool :=
  (match s.airAt ch k with
    | some a => a.kind != .prs
    | none => false) || s.toneIn ch k

/-- F of a channel (R101): before its first idle slot the mean is of nothing, and its value free (log 3). -/
def State.floorOf (s : State) (ch : Nat) : Rat × State :=
  match (s.chan ch).floor with
  | some f => (f, s)
  | none => let (v, s) := s.drawFree; ((v : Rat), s)

/-- ENERGY_TRIGGER (R101, R106): at the sample of a tick, over the last 256. -/
def execEnergyTrigger (ch tick : Nat) (s : State) : Host.Outcome State Fault Refusal :=
  .next (
    let s := s.release tick
    match (s.chan ch).rx.last tick 256 with
    | none => s
    | some w =>
      if (s.chan ch).det ≠ .armed ∨ s.listens ch = false ∨ s.deaf ch (s.slotAt tick) = true then s
      else
        let (f, s) := s.floorOf ch
        if triggered ((energy w : Nat) : Rat) f (s.fld .CHN_DET_CFG_det_thr ch) = false then s
        else
          let s := s.updChan ch (fun c => { c with det := .triggered, trigAt := tick, detAt := tick, agcFrozen := false })
          (((s.setFlag .CHN_RSSI_rssi_valid ch false).setFlag .CHN_STATUS_rx_busy ch true)).bump .CHN_RX_DET_CNT_detections ch)

/-- A station hears a PRS in a half-slot of its priority slot (R246): a class below the half-slot's withdraws. -/
def State.hearPrs (s : State) (ch tick : Nat) : State :=
  match (s.chan ch).cont with
  | none => s
  | some c =>
    let t := s.slotTick c.prio
    let half := if tick < t + s.ls / 2 then 0 else 1
    if t ≤ tick ∧ tick < t + s.ls ∧ c.withdrawn = false ∧ c.cls + half < 2 then
      (s.updChan ch (fun x => { x with cont := some { c with withdrawn := true } })).bump .CHN_ACCESS_CNT_prs_defer ch
    else s

/-- QUALIFIER_PASS (R102, R104, R105, R107): at the sample of a tick, and 1,024 samples before. The latest pass is the one the sync
point is looked for after (DEDUCED, log 167); an AGC that has settled freezes at the first. Two repetitions are enough to hear a PRS (R246). -/
def execQualifierPass (ch tick : Nat) (s : State) : Host.Outcome State Fault Refusal :=
  .next (
    let s := s.release tick
    let c := s.chan ch
    let thr := s.fld .CHN_DET_CFG_qual_thr ch
    let first := decide (c.det = .triggered) && decide (tick ≤ c.trigAt + 9216)
    if (first || c.det == .qualified) = false ∨ c.rx.point thr tick = false then s
    else
      let s := s.hearPrs ch tick
      if tick < 1024 ∨ c.rx.point thr (tick - 1024) = false then s
      else
        let l := s.agcGains ch tick
        let s := s.updChan ch (fun c => { c with det := .qualified, detAt := tick })
        if agcSettled l = true ∧ c.agcFrozen = false then s.freezeAgc ch (l.headD 0) else s)

/-- QUAL_FAIL: the qualifier or the sync point was not found in time (R102, R105; log 157). -/
def execQualFail (ch : Nat) (s : State) : Host.Outcome State Fault Refusal :=
  .next (
    let c := s.chan ch
    if c.det = .triggered then ((s.release (c.trigAt + 9216)).resetRx ch).bump .CHN_RX_DET_CNT_qual_fail ch
    else if c.det = .qualified then ((s.release (c.detAt + 2048)).resetRx ch).bump .CHN_RX_DET_CNT_qual_fail ch
    else s)

/-- A sync point at the station's own, in a slot in which a channel of the station launches a preamble (R109). -/
def State.selfSync (s : State) (tick idx frac : Nat) : Bool :=
  let d : Int := (16 * idx + frac : Nat) - (16 * ownSync s.ls : Nat)
  decide (d.natAbs ≤ 128) && s.grid.onAir.any (fun a => a.slot == s.slotAt tick && a.kind != .prs && a.kind != .sync)

/-- δ in sixteenths of a sample, brought into its range (R194). -/
def normDelta (ls : Nat) (d : Int) : Int :=
  let h : Int := 16 * (ls : Int)
  let r := d % h
  if h < 2 * r then r - h else r

/-- δ of a sync point (R194). -/
def State.deltaOf (s : State) (idx frac : Nat) : Int :=
  normDelta s.ls ((16 * idx + frac : Nat) - (16 * ownSync s.ls : Nat) : Int)

/-- δ of the window of a channel: 0 where it is not receiving a frame (R194). -/
def State.winDelta (s : State) (ch : Nat) : Int :=
  if (s.chan ch).det = .inFrame then s.deltaOf (s.fld .CHN_SYNC_sync_offset ch) (s.fld .CHN_SYNC_sync_frac ch) else 0

/-- δ lies in the lock range (R194). -/
def State.inLock (s : State) (d : Int) : Bool :=
  let low : Int := 64 * ((s.fld .OLA_SYNC_CFG_next_span 0 : Int) + 1) + 64 - (guardSamples s.grid.guard : Int)
  decide (16 * low ≤ d) && decide (d ≤ 0)

/-- A BLANK input of a mask is asserted at a tick of a span. -/
def State.blankOver (s : State) (mask a b : Nat) : Bool :=
  (List.range 4).any (fun i => bit mask i && (tget {} i s.gau.blanks).spans.any (fun e =>
    decide (e.1 ≤ b) && (match e.2 with
      | none => true
      | some f => decide (a < f + s.pat.gauge.blankExt * 200))))

/-- A receive timestamp is suspect (R312): `span` holds the last 2,048 samples of the preamble slot before the AGC. -/
def State.suspectSync (s : State) (ch tick : Nat) (span : List Int) (late : Bool) : Bool :=
  let c := s.chan ch
  let fs2 : Rat := ((fullScale * fullScale : Nat) : Rat)
  let t2 := min (c.chisel2 * Config.powerRatio (s.fld .CHN_CHISEL_CFG_chisel_thr ch)) (fs2 * Config.powerRatio (-1))
  late || span.any (fun x => decide (t2 ≤ ((x * x : Int) : Rat) * Config.powerRatio c.agcGain))
    || s.blankOver (s.gauge ch).item.blankErase (tick - 1024) (tick + 1023)

/-- A frame that starts in a contention cycle ends it for the channel (R246, R247): `t` is its preamble slot's start. -/
def State.hearFrame (s : State) (ch t : Nat) : State :=
  match (s.chan ch).cont with
  | none => s
  | some c =>
    let q := s.slotAt (t + s.ls / 2)
    let n := (q - (c.prio + 5)) / 4
    let step := decide (c.prio + 5 ≤ q) && (q - (c.prio + 5)) % 4 == 0 && decide (n ≤ 7)
    let s := s.updChan ch (fun x => { x with cont := none })
    match (s.chan ch).bc.getD c.cls none with
    | some b => if step && !c.withdrawn && decide (c.cls < 3) && decide (n < b) then s.setBc ch c.cls (some (b - n)) else s
    | none => s

/-- SYNC_POINT (R95, R105, R106, R109, R110, R310, R312): the sync point lies at the sample of a tick or up to 15 / 16 of a sample
after it. The offset is what the pipe reads from the repetitions before it. -/
def execSyncPoint (ch tick : Nat) (s : State) : Host.Outcome State Fault Refusal :=
  .next (
    let s := s.release (tick + 1023)
    let c := s.chan ch
    match c.rx.syncFrac tick, c.rx.span (tick - 1024) 2048 with
    | some frac, some span =>
      let idx := tick - s.slotTick (s.slotAt tick)
      if c.det ≠ .qualified ∨ c.detAt + 2048 < tick ∨ s.listens ch = false then s
      else if s.selfSync tick idx frac then (s.resetRx ch).bump .CHN_RX_ABORT_CNT_self_det ch
      else
        let late := !c.agcFrozen
        let s := if late then s.freezeAgc ch ((s.agcGains ch tick).headD 0) else s
        let rssi := rssiOf ((energy (span.drop 1024) : Nat) : Rat) 1024
        let s := (s.setFld .CHN_RSSI_rssi ch rssi).setFlag .CHN_RSSI_rssi_valid ch true
        let s := (s.setFld .CHN_SYNC_sync_offset ch idx).setFld .CHN_SYNC_sync_frac ch frac
        let sco := clampInt (-32768) 32767 (Config.scoEstimate span)
        let s := (s.setFlag .CHN_SYNC_sync_valid ch true).setFld .CHN_FREQ_sco_ppm ch (unsigned 16 sco)
        let s := s.setFlag .CHN_FREQ_sco_valid ch true
        let t16 := 16 * tick + frac - 16 * ownSync s.ls
        let bad := s.suspectSync ch tick span late
        let s := s.updChan ch (fun c => { c with
          det := .inFrame, curFc := none, fcWord := none, symIdx := 0, winMove := 0, syncAt := 2 * t16 + b2n bad })
        s.hearFrame ch (t16 / 16)
    | _, _ => s)

/-- DETECTOR_REARM: the frame's last slot ends, or the frame-control slot of a dropped frame (R104, R107). -/
def execDetectorRearm (ch : Nat) (s : State) : Host.Outcome State Fault Refusal :=
  .next (
    let c := s.chan ch
    if c.det ≠ .inFrame then s
    else match c.curFc with
      | some fc => (s.reach (s.frameEnd (c.syncAt / 32) (fcPayload fc))).rearm ch
      | none => (s.reach (s.frameEnd (c.syncAt / 32) 0)).resetRx ch)

/-- The idle point a frame leaves (R244): the seventh boundary after its exchange. -/
def State.idleAfter (s : State) (e : Nat) (ack : Bool) : Nat :=
  if ack then s.boundaryAfter (s.slotTick (s.boundaryAfter e 8 + 2)) 7 else s.boundaryAfter e 7

/-- R100 calls a frame control foreign: version, type, `robo`, link or a reserved bit of `dlv` (R257). -/
def State.fcForeign (s : State) (ch : Nat) (fc : FC) : Bool :=
  fc.ver != 0 || decide (6 < fc.typ) || (fcIsData fc && fcRobo fc == 3) || fc.link != s.fld .CHN_CFG_link_id ch
    || (fcIsData fc && fcDlv fc != 0xFFFFFFFF && bits (fcDlv fc) 0 14 != 0) || s.isBanned ch fc.src

/-- A BEACON of the channel's own link reached a COORDINATOR (R239): counted and logged once in a Hem, and its sender's frames
are foreign for 16 Hems. -/
def State.roleConflict (s : State) (ch src : Nat) : State :=
  let once := (s.chan ch).conflictHem == some s.grid.hem
  let s := s.updChan ch (fun c => { c with
    conflictHem := some s.grid.hem, banned := c.banned.filter (fun b => b.1 != src) ++ [(src, s.grid.hem, s.tick - s.grid.b)] })
  if once then s
  else (s.bump .CHN_SCHED_CNT_bcn_conflict ch).log 0x2802 (s.evOwner ch) ch src

/-- The lock of a channel follows a frame (R194). -/
def State.setLock (s : State) (ch : Nat) (d : Int) : State :=
  let ok := s.inLock d
  let s := (s.setFld .CHN_OLA_LOCK_delta ch (unsigned 18 d)).setFlag .CHN_OLA_LOCK_locked ch ok
  let s := (s.setFlag .CHN_OLA_LOCK_lock_valid ch true).updChan ch (fun c => { c with lockHems := 0 })
  if ok then s else s.bump .CHN_OLA_CNT_gl_miss ch

/-- The tone map a received frame names. -/
def State.rxMap (s : State) (ch : Nat) (fc : FC) : Option ToneMap := tfind (fcTmi fc) (s.chan ch).rxMaps

/-- A frame control whose payload is sent with a tone map (R96). -/
def fcMapped (fc : FC) : Bool := (fc.typ == 0 || fc.typ == 3 || fc.typ == 5) && fcRobo fc == 0

/-- The code of a frame's payload (R122). -/
def RxFrame.code (f : RxFrame) : Nat := (f.map.map (·.code)).getD 0

/-- The loadings of a frame's payload symbols; none in a repetition mode. -/
def RxFrame.loads (f : RxFrame) : List Nat := (f.map.map (·.loads)).getD []

/-- W of a channel's receive direction (R140). -/
def State.rxW (s : State) (ch : Nat) : Nat := 64 * ((s.chan ch).liSpanRx + 1)

/-- Position `k` of symbol `i` of a frame carries coded bits by its loading: not where the stamp stands (R135, R142). -/
def RxFrame.codes (f : RxFrame) (i k : Nat) : Bool := !(f.li.isSome && i == 0 && decide (k < 48))

/-- Symbol and position of each coded bit that a frame's symbols have room for (R99, R135). -/
def State.bitPlaces (s : State) (ch : Nat) (f : RxFrame) : List (Nat × Nat) :=
  (List.range (fcNSym f.fc)).flatMap (fun i =>
    if f.map.isNone then List.replicate (2 * (s.dCount ch / roboR (frameRobo f.fc))) (i, 0)
    else (f.loads.zipIdx.filter (fun (e : Nat × Nat) => f.codes i e.2)).flatMap (fun (e : Nat × Nat) => List.replicate e.1 (i, e.2)))

/-- The blocks of a frame with `len` payload bytes (R127, R133), each due with its last soft bit, repeated ones counted (R136, R150);
none in a SOUND or a fill frame, nor without a payload. -/
def State.frameBlocks (s : State) (ch : Nat) (f : RxFrame) (len : Nat) : List RxBlock :=
  if fcPayload f.fc = 0 ∨ f.fc.typ = 4 ∨ (f.fc.typ = 0 ∧ fcDlv f.fc = 0xFFFFFFFF) then []
  else
    let spans := blockSpans f.code (8 * len + 1) 0 (8 * len)
    let nc := spans.foldl (fun n e => n + e.2.1) 0
    let places := (s.bitPlaces ch f).zipIdx
    let w := s.rxW ch
    spans.map (fun (e : Nat × Nat × Nat) =>
      let mine := places.filter (fun p => decide (e.1 ≤ p.2 % nc) && decide (p.2 % nc < e.1 + e.2.1))
      let due := mine.foldl (fun m p => max m (match f.li with
        | some t => t + p.1.1 + liDelay w p.1.2
        | none => p.1.1)) 0
      { start := e.1, sent := e.2.1, k := e.2.2, due := due })

/-- The interleaver is turned on for the receive direction by the first frame sent under a map that wants it (R144, R167): one that
awaits its retirement turns nothing on. -/
def State.rxLink (s : State) (ch : Nat) (fc : FC) : State :=
  if s.flag .CHN_CODE_STATUS_li_rx_on ch = true ∨ ((s.chan ch).retire.any (fun e => e.1 == fcTmi fc)) = true then s
  else (s.restartLi ch false true).setFlag .CHN_CODE_STATUS_li_rx_on ch true

/-- A frame whose frame control was taken joins those being received; the index expected next is past its link symbols (R146). -/
def State.addFrame (s : State) (ch : Nat) (fc : FC) (len : Nat) : State :=
  let map := if fcMapped fc then s.rxMap ch fc else none
  let link := fcMapped fc && fc.typ == 0 && decide (fc.prio < 3) && map.any (fun m => m.use == 0 && bit m.caps 2)
  let s := if link then s.rxLink ch fc else s
  let c := s.chan ch
  let f : RxFrame := { at_ := c.syncAt, fc := fc, map := map, li := if link then some c.liRxT else none }
  let f := { f with blocks := s.frameBlocks ch f len }
  let s := s.updChan ch (fun c => { c with
    rxq := c.rxq ++ [f], liRxT := if link then c.liRxT + fcNSym fc else c.liRxT
    liLoads := if link then ((c.liRxT, f.loads) :: c.liLoads).take 8192 else c.liLoads })
  if link then s.setFld .CHN_CODE_STATUS_li_rx_pos ch (s.chan ch).liRxT else s

/-- A frame control that passes is taken (R95, R165, R194, R238, R239, R258): of a frame dropped here the payload is not decoded, but
the detector stays disarmed to its end (R107). -/
def State.takeFc (s : State) (ch : Nat) (fc : FC) (len : Nat) : State :=
  let t := (s.chan ch).syncAt / 32
  let d := s.winDelta ch
  let s := s.setLock ch d
  let s := if fc.typ = 2 ∧ s.fld .CHN_STATUS_role ch = 0 then s.roleConflict ch fc.src else s
  let s := s.updChan ch (fun c => { c with curFc := some fc, fcWord := none, symIdx := 0 })
  if s.isBanned ch fc.src then s
  else if s.peerOk ch fc.src = false then s.bump .DLV_RX_CNT2_peer_full 0
  else
    let s := (s.notePeer ch fc.src).establish ch fc.src
    let s := s.updChan ch (fun c => { c with
      peers := updFirst (fun p => p.addr == fc.src) (fun p => { p with delta := unsigned 18 d }) c.peers
      stepRuns := 0, rxEnd := s.frameEnd t (fcPayload fc) })
    if s.frameTo ch fc = false then s
    else if fcMapped fc ∧ (s.rxMap ch fc).isNone then s.bump .CHN_TM_CNT_tm_reject ch
    else s.addFrame ch fc len

/-- FRAME_CONTROL_RX (R97, R100, R244): the frame control the pipe decoded. `len` is the payload's length in bytes, which the spec
gives the receiver no way to tell (log 170). -/
def execFrameControlRx (ch len : Nat) (s : State) : Host.Outcome State Fault Refusal :=
  .next (
    let c := s.chan ch
    match c.fcWord with
    | none => s
    | some bits =>
      if c.det ≠ .inFrame ∨ c.curFc.isSome ∨ s.listens ch = false then s
      else
        let t := c.syncAt / 32
        if fcsOk bits = false then
          let s := s.updChan ch (fun c => { c with idleSlot := s.idleAfter (s.frameEnd t 0) false, noPrs := true })
          (s.resetRx ch).bump .CHN_RX_FC_CNT_fc_crc_err ch
        else
          let fc := fcParse bits
          let ack := fcIsData fc && fcAckReq fc && fc.dst != 0xFFFF
          let s := s.updChan ch (fun c => { c with
            idleSlot := s.idleAfter (s.frameEnd t (fcPayload fc)) ack, noPrs := false
            sense := some (fc.prio, s.slotFrom (s.frameEnd t (fcPayload fc))) })
          if s.fcForeign ch fc then (s.resetRx ch).bump .CHN_RX_FC_CNT_fc_foreign ch
          else s.takeFc ch fc len)

/-- The kind is that of a symbol received from a partner. -/
def SymKind.rx : SymKind → Bool
  | .own | .idle => false
  | _ => true

/-- A channel's pipe takes symbols: a state that receives, its lane up (R32, R115). -/
def State.pipeRuns (s : State) (ch : Nat) : Bool :=
  let st := s.chState ch
  (st == chArmed || st == chTraining || st == chLive || st == chQuiet) && s.laneAligned (headOf ch)

/-- What the symbol of a channel in a slot is; none where its pipe has nothing to receive. -/
def State.symKind (s : State) (ch k : Nat) : Option SymKind :=
  let c := s.chan ch
  if (s.airCells ch k).isSome then some .own
  else if s.deaf ch k ∨ s.pipeRuns ch = false then none
  else match c.det, c.curFc with
    | .inFrame, none => if c.fcWord.isSome then some .idle else some .fc
    | .inFrame, some fc => if c.symIdx < fcPayload fc then some (.payload c.symIdx) else some .idle
    | _, _ => if s.isUpSync k && s.syncMember 1 ch then some .sync else some .idle

/-- The tick of the first body sample of a symbol: the window of a frame where R110 moved it. -/
def State.bodyTick (s : State) (ch k : Nat) (kind : SymKind) : Nat :=
  let c := s.chan ch
  let g := guardSamples s.grid.guard
  let t := (((c.syncAt / 32 : Nat) : Int) + c.winMove).toNat
  match kind with
  | .fc => t + s.ls + g
  | .payload n => t + (2 + n) * s.ls + g
  | _ => s.slotTick k + g

/-- The frame a channel is receiving, where its payload is taken. -/
def State.rxNow (s : State) (ch : Nat) : Option RxFrame := (s.chan ch).rxq.find? (fun f => f.at_ == (s.chan ch).syncAt)

/-- The symbol is a link symbol of the interleaver (R139). -/
def State.isLink (s : State) (ch : Nat) (kind : SymKind) : Bool :=
  match kind with
  | .payload _ => (s.rxNow ch).any (fun f => f.li.isSome)
  | _ => false

/-- Chisel applies to a symbol (R172). -/
def State.chiselOn (s : State) (ch : Nat) (kind : SymKind) : Bool :=
  s.inForce 5 && kind.rx && kind != .sync
    && (s.flag .CHN_TM_STATUS_imp_chisel ch || (s.flag .CHN_TM_STATUS_imp_li ch && !s.isLink ch kind))

/-- The body samples that came in frames that failed to decode (R355). -/
def State.laneZeros (s : State) (ch t : Nat) : List Bool :=
  let z := (s.lane (headOf ch)).zeroed.filter (fun a => decide (t < a + 10) && decide (a < t + 8192))
  (List.range 8192).map (fun i => z.any (fun a => decide (a ≤ t + i) && decide (t + i < a + 10)))

/-- The carriers the pipe keeps of a symbol: those of its set, and all that Overlock acts on (R183, R208). -/
def State.symCarriers (s : State) (ch : Nat) (kind : SymKind) : List Nat :=
  match kind with
  | .payload _ => (carrierRange 74 1097).filter (fun c => !notched (s.plan ch) c && !(s.payload ch).contains c) ++ s.payload ch
  | _ => (carrierRange 74 1097).filter (fun c => !notched (s.plan ch) c)

/-- A channel is grid-locked (R194). -/
def State.locked (s : State) (ch : Nat) : Bool := s.flag .CHN_OLA_LOCK_locked ch

/-- The NEXT pairs applied to a victim in a slot (R197): disturber, victim index and slot index. -/
def State.nextApplied (s : State) (v k : Nat) : List (Nat × Nat × Nat) :=
  match s.victimIdx 0 v with
  | none => []
  | some vi =>
    if s.txAt v k || !s.locked v then []
    else ((s.olaSlots 0 v).zipIdx.filter (fun (e : Nat × Nat) =>
      e.1 != v && pairActive (s.pair 0 vi e.2) && (s.tailAt e.1 k || (match s.airAt e.1 k with
        | some a => a.kind != .prs
        | none => false)))).map (fun (e : Nat × Nat) => (e.1, vi, e.2))

/-- A symbol that NEXT makes unreliable (R198). -/
def State.nextUnsafe (s : State) (v k : Nat) : Bool :=
  let on := s.nextApplied v k
  (s.olaSlots 0 v).any (fun d => d != v && s.txAt d k && !on.any (fun e => e.1 == d))

/-- A victim's symbol is erased because a NEXT disturber's head was lost (R214). -/
def State.lossErased (s : State) (v k : Nat) : Bool :=
  (List.range 8).any (fun j =>
    let l := s.lane j
    j != headOf v && (match l.lostSlot with
      | some n => decide (n ≤ k) && decide (k ≤ n + 2) && (s.olaSlots 0 v).any (fun d => headOf d == j && l.lostTx.any (fun e => e.1 == d))
      | none => false))

/-- ρ_c(x) of R196, x in sixteenths of a sample. -/
def rho (c : Nat) (x : Int) : Cx := Config.expTurn ((((c : Int) * x : Int) : Rat) / 131072)

/-- The NEXT sum on a carrier over some pairs (R196). -/
def State.nextSum (s : State) (k c : Nat) (d16 : Int) (l : List (Nat × Nat × Nat)) : Cx :=
  Cx.sum (l.map (fun (e : Nat × Nat × Nat) => ((s.coefVal 0 e.2.1 e.2.2 c).mul (rho c d16)).mul (s.nextRef e.1 k c)))

/-- Carriers that Overlock acts on for a victim (R183). -/
def State.vectored (s : State) (v c : Nat) : Bool := decide (74 ≤ c) && decide (c ≤ 1097) && !notched (s.plan v) c

/-- The noise NEXT adds to a carrier (R199). -/
def State.nextNoise (s : State) (k c nz : Nat) (l : List (Nat × Nat × Nat)) : Rat :=
  let span : Rat := 2 * (64 * (s.fld .OLA_SYNC_CFG_next_span 0 + 1) : Nat) / 8192
  let f : Rat := if nz < 8192 then (nz : Rat) / ((8192 - nz : Nat) : Rat) else 0
  (l.map (fun (e : Nat × Nat × Nat) => ((if s.nonCyclic e.1 k then span else 0) + f) * (s.coefVal 0 e.2.1 e.2.2 c).abs2 * s.cellPower e.1 c)).foldl (· + ·) 0

/-- What the pipe and NEXT make of a symbol (R172 to R176, R196 to R199). -/
def State.pipeSymbol (s : State) (ch k : Nat) (kind : SymKind) (x : List Int) : State :=
  let c := s.chan ch
  let t := s.bodyTick ch k kind
  let zeros := s.laneZeros ch t
  let post := s.fld .CHN_CHISEL_CFG_chisel_post ch
  let imp := if s.chiselOn ch kind then s.impulses ch c.chisel2 x else List.replicate 8192 false
  let mask := List.zipWith or zeros (blankMask (s.fld .CHN_CHISEL_CFG_chisel_pre ch) post c.chiselRun imp)
  let nz := (mask.filter id).length
  let kept := List.zipWith (fun (b : Bool) (v : Int) => if b then 0 else v) mask x
  let q : Rat := ((energy kept : Nat) : Rat) / ((8192 - nz : Nat) : Rat)
  let s := s.updChan ch (fun c => { c with
    chiselRun := blankCarry post (guardSamples s.grid.guard) imp
    chisel2 := if nz = 8192 ∨ kind.rx = false then c.chisel2 else c.chisel2 + (q - c.chisel2) / 4
    symIdx := if kind matches .payload _ then c.symIdx + 1 else c.symIdx })
  let tooMany := kind.rx && decide (128 * s.fld .CHN_CHISEL_CFG_chisel_max ch < nz)
  let s := if tooMany then s.bump .CHN_CHISEL_CNT_sym_erased ch
    else if kind.rx && decide (0 < nz) then s.bump .CHN_CHISEL_CNT_blanked ch else s
  let blank := s.blankOver (s.gauge ch).item.blankErase t (t + 8191) || s.flag .CHN_STATUS_coupling_pending ch
  let lost := s.lossErased ch k
  let erased := kind.rx && (tooMany || blank || lost)
  let s := if kind.rx && lost && !(tooMany || blank) then s.bump .OLA_LOSS_CNT_loss_erase 0 else s
  let risky := kind.rx && !erased && s.nextUnsafe ch k
  let s := if risky then s.bump .OLA_LOSS_CNT_next_unsafe 0 else s
  let d16 := if kind matches .own then 0 else s.winDelta ch
  let on := if kind matches .own then [] else s.nextApplied ch k
  let y : Tbl Cx := if nz = 8192 then [] else (s.symCarriers ch kind).map (fun c =>
    (c, (fftAt kept c).scale (8192 / ((8192 - nz : Nat) : Rat))))
  let z1 : Tbl Cx := y.map (fun (e : Nat × Cx) => if s.vectored ch e.1 then (e.1, e.2.sub (s.nextSum k e.1 d16 on)) else e)
  let extra : Tbl Rat := y.map (fun (e : Nat × Cx) => (e.1, if s.vectored ch e.1 then s.nextNoise k e.1 nz on else 0))
  let power := quarterDb (2 * energy kept) (8192 * 8191 * 8191) - c.agcGain
  let sym : RxSym := { ch := ch, slot := k, frame := c.syncAt, kind := kind, blanked := nz, erased := erased || risky, delta := d16, power := power, y := y
                       z1 := z1, extra := extra }
  { s with grid := { s.grid with symbols := s.grid.symbols.filter (fun x => x.ch != ch) ++ [sym] } }

/-- SYMBOL_RX: the 8,192 body samples of the channel's symbol of the slot in progress, at the AGC's gain (R30, R41, R103).
Its Overlock stage follows at the slot boundary, when every channel's symbol of the slot is there (R196). -/
def execSymbolRx (ch : Nat) (s : State) : Host.Outcome State Fault Refusal :=
  .next (
    match s.symKind ch s.grid.slot with
    | none => s
    | some kind =>
      let t := s.bodyTick ch s.grid.slot kind
      match (s.chan ch).rx.span t 8192 with
      | none => s
      | some l => if ch < 192 then (s.release (t + 8191)).pipeSymbol ch s.grid.slot kind (scaled (s.chan ch).agcGain l) else s)

end Sys2Proof.Machine
end

