-- ==== Sys2Proof/Machine/Symbols.lean ====
section
/-! DEFINITION. The Overlock stage of a slot and what follows it (R146, R150, R153, R155, R177 to R179, R196, R197, R204, R207 to
R215): it runs at the slot boundary, over the symbols of the slot that ended. -/

namespace Sys2Proof.Machine

/-- The symbol a channel received in a slot. -/
def State.rxSymAt (s : State) (ch k : Nat) : Option RxSym :=
  s.grid.symbols.find? (fun x => x.ch == ch && x.slot == k && x.kind.rx)

/-- The FEXT pairs applied to a victim in a slot (R197): disturber, victim index and slot index. -/
def State.fextApplied (s : State) (v k : Nat) : List (Nat × Nat × Nat) :=
  match s.victimIdx 1 v, s.rxSymAt v k with
  | some vi, some x =>
    if !s.olaOn 1 || !s.locked v || x.y.isEmpty then []
    else ((s.olaSlots 1 v).zipIdx.filter (fun (e : Nat × Nat) =>
      e.1 != v && pairActive (s.pair 1 vi e.2) && s.locked e.1 && (s.rxSymAt e.1 k).any (fun y => !y.erased))).map
        (fun (e : Nat × Nat) => (e.1, vi, e.2))
  | _, _ => []

/-- Z2 of a symbol (R196). -/
def State.z2 (s : State) (x : RxSym) : Tbl Cx :=
  let on := (s.fextApplied x.ch x.slot).map (fun (e : Nat × Nat × Nat) => (e, s.rxSymAt e.1 x.slot))
  x.z1.map (fun (z : Nat × Cx) =>
    if !s.vectored x.ch z.1 then z
    else (z.1, z.2.sub (Cx.sum (on.map (fun (e : (Nat × Nat × Nat) × Option RxSym) =>
      match e.2 with
      | none => Cx.zero
      | some d => ((s.coefVal 1 e.1.2.1 e.1.2.2 z.1).mul (rho z.1 (x.delta - d.delta))).mul (tget Cx.zero z.1 d.z1))))))

/-- The odd level of `bits` bits nearest to a value, in units of a half step. -/
def nearOdd (bits : Nat) (v : Rat) : Int :=
  clampInt (1 - (2 ^ bits : Nat)) ((2 ^ bits : Nat) - 1) (2 * (v / 2).floor + 1)

/-- The cell of loading `b` nearest to an equalised value (R137). -/
def hardCell (b : Nat) (v : Cx) : Cx :=
  if b = 0 then ⟨1, 0⟩
  else
    let k := Config.rsqrt (cellE b)
    Cx.scale k ⟨(nearOdd ((b + 1) / 2) (v.re / k) : Int), (nearOdd (b / 2) (v.im / k) : Int)⟩

/-- Loadings of a repetition symbol on `d` data carriers (R99). -/
def repLoads (d m R : Nat) : List Nat := (repLayout d m R).map (fun o => if o.isSome then 2 else 0)

/-- The loadings that the cell of position `k` of a frame's symbol `n` came in with (R141 to R143): those of the link symbol it entered
in, where the interleaver delayed it. -/
def State.entryLoad (s : State) (ch : Nat) (f : RxFrame) (n k : Nat) : Nat :=
  let own := f.loads.getD k 0
  match f.li with
  | none => own
  | some t =>
    let d := liDelay (s.rxW ch) k
    if k < 48 then (if n ≠ 0 then own else if k < 44 then 2 else 0)
    else if d = 0 ∨ t + n < d then own
    else (((s.chan ch).liLoads.find? (fun e => decide (e.1 + d ≤ t + n))).map (fun e => e.2.getD k 0)).getD own

/-- The loadings of a received payload symbol's data carriers. -/
def State.payLoads (s : State) (ch : Nat) (f : RxFrame) (n : Nat) : List Nat :=
  let d := s.dCount ch
  let r := roboR (frameRobo f.fc)
  if f.fc.typ = 4 then List.replicate d 2
  else if f.map.isNone then repLoads d (d / r) r
  else (List.range d).map (s.entryLoad ch f n)

/-- The data carriers of a symbol with their loadings. -/
def State.symLoads (s : State) (x : RxSym) : List (Nat × Nat) :=
  match x.kind with
  | .fc =>
    let d := dataOf (fcSet (s.plan x.ch))
    d.zip (repLoads d.length 134 6)
  | .payload n => match (s.chan x.ch).rxq.find? (fun f => f.at_ == x.frame) with
    | some f => (s.dataCarriers x.ch).zip (s.payLoads x.ch f n)
    | none => []
  | .sync => (carrierRange 74 1097).map (fun c => (c, 2))
  | _ => []

/-- The estimate that equalises a carrier (R153, R179). -/
def State.eqH (s : State) (ch c : Nat) : Option Cx :=
  match (if s.flag .CHN_TM_STATUS_step_active ch then tfind c (s.chan ch).rebased else none) with
  | some h => some h
  | none => (tfind c (s.chan ch).est).map (·.h)

/-- The known value of a payload symbol's pilots (R92). -/
def State.pilotRef (s : State) (ch n : Nat) : List (Nat × Cx) :=
  let ps := pilotsOf (s.payload ch)
  let r := (pilotSigns ((pilotsOf (fcSet (s.plan ch))).length + n * ps.length) 511).2
  ps.zip ((pilotSigns ps.length r).1.map (fun b => (⟨if b then -1 else 1, 0⟩ : Cx)))

/-- The known value of a frame-control symbol's pilots (R92). -/
def State.fcPilotRef (s : State) (ch : Nat) : List (Nat × Cx) :=
  let ps := pilotsOf (fcSet (s.plan ch))
  ps.zip ((pilotSigns ps.length 511).1.map (fun b => (⟨if b then -1 else 1, 0⟩ : Cx)))

/-- The pilots of a symbol with the values they were sent with (R92). -/
def State.symPilots (s : State) (x : RxSym) : List (Nat × Cx) :=
  match x.kind with
  | .payload n => s.pilotRef x.ch n
  | .fc => s.fcPilotRef x.ch
  | _ => []

/-- Common phase, in turns, and the samples the window lies late, as the pilots of a symbol show them against the estimates (R110). -/
def State.symFit (s : State) (x : RxSym) (z : Tbl Cx) : Rat × Rat :=
  let l := (s.symPilots x).filterMap (fun (e : Nat × Cx) => match tfind e.1 z, s.eqH x.ch e.1 with
    | some y, some h => some (e.1, y.div (h.mul e.2))
    | _, _ => none)
  if l = [] then (0, 0) else Config.pilotFit l

/-- The turn that phase and slope give a carrier. -/
def fitTurn (fit : Rat × Rat) (c : Nat) : Cx := Config.expTurn (fit.1 + ((c : Nat) : Rat) * fit.2 / 8192)

/-- A symbol with common phase and slope taken out (R110, R155). -/
def unturn (fit : Rat × Rat) (z : Tbl Cx) : Tbl Cx := z.map (fun (e : Nat × Cx) => (e.1, e.2.mul (fitTurn fit e.1).conj))

/-- H·X̂ of a symbol's data carriers (R215), where an estimate is held. -/
def State.decided (s : State) (x : RxSym) (z : Tbl Cx) : Tbl Cx :=
  let fit := s.symFit x z
  (s.symLoads x).filterMap (fun (e : Nat × Nat) =>
    match tfind e.1 z, s.eqH x.ch e.1 with
    | some v, some h =>
      let h := h.mul (fitTurn fit e.1)
      some (e.1, h.mul (hardCell e.2 (v.div h)))
    | _, _ => none)

/-- The energy left on the data carriers of the vectored band (R215). -/
def State.leftEnergy (s : State) (v : Nat) (z dec : Tbl Cx) : Rat :=
  ((dec.filter (fun (e : Nat × Cx) => s.vectored v e.1)).map (fun (e : Nat × Cx) =>
    ((tget Cx.zero e.1 z).sub e.2).abs2)).foldl (· + ·) 0

/-- The divergence guards of a received symbol (R215): of one erased whole too, as long as its values are there. -/
def State.guardSym (s : State) (x : RxSym) (z : Tbl Cx) : State :=
  if x.y.isEmpty || !x.kind.rx then s
  else
    let dec := s.decided x z
    let e0 := s.leftEnergy x.ch x.y dec
    let e1 := s.leftEnergy x.ch x.z1 dec
    let e2 := s.leftEnergy x.ch z dec
    let fextOn := s.fextApplied x.ch x.slot != []
    let s := if s.nextApplied x.ch x.slot = [] then s else s.divGuard 0 x.ch (decide (e0 < e1))
    if fextOn then s.divGuard 1 x.ch (decide (e1 < e2)) else s

/-- H·X̂ of every carrier a symbol's cells are known on (R92, R208): hard decisions on data carriers, the pilots' own values. -/
def State.decidedAll (s : State) (x : RxSym) (z : Tbl Cx) : Tbl Cx :=
  let fit := s.symFit x z
  (s.symPilots x).filterMap (fun (e : Nat × Cx) => (s.eqH x.ch e.1).map (fun h => (e.1, (h.mul (fitTurn fit e.1)).mul e.2))) ++ s.decided x z

/-- NEXT learning from a symbol (R207, R208, R211, R219): pairs of other channels while the victim receives, the self pair
while it transmits. -/
def State.learnNext (s : State) (x : RxSym) (z : Tbl Cx) : State :=
  let v := x.ch
  let k := x.slot
  match s.victimIdx 0 v with
  | none => s
  | some vi =>
    if x.blanked ≠ 0 ∨ x.erased ∨ s.flag .CHN_TM_STATUS_step_active v = true ∨ s.unsettled v k = true then s
    else
      let slots := (s.olaSlots 0 v).zipIdx
      let all := (slots.filter (fun (e : Nat × Nat) => (s.pair 0 vi e.2).st != .empty && (s.airAt e.1 k).isSome)).map
        (fun (e : Nat × Nat) => (e.1, vi, e.2))
      let dec := if x.kind = .own ∨ x.kind = .idle ∨ x.kind = .sync then [] else s.decidedAll x z
      let cis := (List.range 1024).filter (fun ci => ci % 8 == k % 8)
      let err (c : Nat) : Option Cx := (tfind c x.y).map (fun y =>
        (y.sub (s.nextSum k c x.delta all)).sub (tget Cx.zero c dec))
      let mu : Rat := 1 / ((2 ^ s.fld .OLA_LEARN_CFG_next_mu 0 : Nat) : Rat)
      (slots.filter (fun (e : Nat × Nat) =>
        (if x.kind = .own then e.1 == v else e.1 != v && s.inForce 0) && s.olaOn 0 && (s.airCells e.1 k).isSome
          && !s.unsettled e.1 k && !s.pairBad 0 vi e.2 && (s.pair 0 vi e.2).st != .held)).foldl (fun st (e : Nat × Nat) =>
        let ups := cis.filterMap (fun ci =>
          let c := ci + 74
          let p := s.cellPower e.1 c
          match err c with
          | none => none
          | some er => if s.vectored v c = false ∨ p = 0 then none
            else some (ci, Cx.scale (mu / p) (er.mul ((rho c x.delta).mul (s.nextRef e.1 k c)).conj)))
        let st := ups.foldl (fun st (u : Nat × Cx) =>
          let c := u.1 + 74
          st.writeCoef (s.entryOf 0 vi e.2 c) (entryWord ((s.coefVal 0 vi e.2 c).add u.2)) 2) st
        if ups = [] then st else st.countUpdate 0 vi e.2 (ups.map (·.1))) s

/-- Linear between adjacent pilots, constant beyond the outermost (R179). -/
def interpAt (l : List (Nat × Cx)) (c : Nat) : Cx :=
  match (l.filter (fun (e : Nat × Cx) => e.1 ≤ c)).getLast?, l.find? (fun (e : Nat × Cx) => decide (c ≤ e.1)) with
  | some a, some b =>
    if a.1 = b.1 then a.2
    else a.2.add (Cx.scale (((c - a.1 : Nat) : Rat) / ((b.1 - a.1 : Nat) : Rat)) (b.2.sub a.2))
  | some a, none => a.2
  | none, some b => b.2
  | none, none => Cx.zero

/-- Δ of R177 in quarter decibels. -/
def stepDelta (l : List (Cx × Est)) : Int :=
  let n := (l.map (fun (e : Cx × Est) => (e.1.sub e.2.h).abs2)).foldl (· + ·) 0 - (l.map (fun (e : Cx × Est) => e.2.s2)).foldl (· + ·) 0
  let d := (l.map (fun (e : Cx × Est) => e.2.h.abs2)).foldl (· + ·) 0
  quarterDb (n / d).num.natAbs (n / d).den

/-- The step check of a payload symbol over its pilots Y/X (R177 to R179, R213). -/
def State.stepCheck (s : State) (ch : Nat) (obs : List (Nat × Cx)) : State :=
  let c := s.chan ch
  let rebase (s : State) : State := s.updChan ch (fun c => { c with rebased := (s.payload ch).map (fun x => (x, interpAt obs x)) })
  if s.flag .CHN_TM_STATUS_step_active ch then rebase s
  else
    let l := obs.filterMap (fun (e : Nat × Cx) => (tfind e.1 c.est).map (fun h => (e.2, h)))
    if l = [] ∨ l.length < obs.length then s
    else
      let armed := s.flag .CHN_TM_STATUS_armed ch
      let run := if stepSeen (s.fld .CHN_STEP_CFG_step_thr ch) l then c.stepRuns + 1 else 0
      let s := s.updChan ch (fun c => { c with stepRuns := run })
      if 2 ≤ run ∨ (armed = true ∧ stepSeen (s.fld .CHN_STEP_CFG_step_thr_armed ch) l = true) then
        let s := s.bump .CHN_STEP_CNT_step_det ch
        let s := if armed then s.bump .CHN_STEP_CNT_step_armed ch else s
        let s := (rebase (s.setFlag .CHN_TM_STATUS_step_active ch true)).olaDemote ch
        s.log 0x1803 (s.evOwner ch) ch (unsigned 16 (stepDelta l))
      else s

/-- A decoded cell updates an estimate (R155), in the order the rule writes. -/
def updEst (sh : Nat) (y x : Cx) : Option Est → Est
  | none => ⟨y.div x, 0⟩
  | some e =>
    let k : Rat := 1 / ((2 ^ sh : Nat) : Rat)
    let h := e.h.add (Cx.scale k ((y.div x).sub e.h))
    ⟨h, e.s2 + k * ((y.sub (h.mul x)).abs2 - e.s2)⟩

/-- Cells that count as decoded update the estimates of a channel. -/
def State.takeCells (s : State) (ch : Nat) (l : List (Nat × Cx × Cx)) : State :=
  let sh := s.fld .CHN_ADAPT_CFG_nse_shift ch
  s.updChan ch (fun c => { c with
    est := l.foldl (fun t (e : Nat × Cx × Cx) => tset e.1 (updEst sh e.2.1 e.2.2 (tfind e.1 t)) t) c.est })

/-- Queue decoder work (R150). -/
def State.addWork (s : State) (l : List Work) : State := { s with grid := { s.grid with work := s.grid.work ++ l } }

/-- The most likely index word of a stamp: the 16 bits whose cells agree best with the equalised ones (R142). -/
def stampWord (l : List (Cx × Cx)) : Nat :=
  let metric (w : Nat) : Rat :=
    let cs := mapSymbol (List.replicate 22 2) (convBlock 0 (bitsMsb 16 w))
    (((cs ++ cs).zip l).map (fun (e : (Int × Int) × (Cx × Cx)) =>
      let p := e.2.1.mul e.2.2.conj
      (e.1.1 : Rat) * p.re + (e.1.2 : Rat) * p.im)).foldl (· + ·) 0
  ((List.range 65536).foldl (fun (b : Nat × Rat) w =>
    let m := metric w
    if b.2 < m then (w, m) else b) (0, metric 0)).1

/-- Change the frame being received that has a number. -/
def State.updFrame (s : State) (ch at_ : Nat) (g : RxFrame → RxFrame) : State :=
  s.updChan ch (fun c => { c with rxq := updFirst (fun f => f.at_ == at_) g c.rxq })

/-- The link symbols of a frame have another index than expected: its blocks are due with it. -/
def RxFrame.moveTo (f : RxFrame) (old new : Nat) : RxFrame :=
  { f with li := some new, blocks := f.blocks.map (fun b => { b with due := b.due + new - old }) }

/-- The stamp of an interleaved frame sets the stream's index (R146): cells of link symbols that were lost are found nowhere, and so
erased. -/
def State.takeStamp (s : State) (x : RxSym) (f : RxFrame) (t : Nat) (z : Tbl Cx) : State :=
  let ch := x.ch
  let l := ((s.dataCarriers ch).take 44).filterMap (fun c => match tfind c z, s.eqH ch c with
    | some v, some h => some (v, h)
    | _, _ => none)
  let w := stampWord l
  if l.length < 44 ∨ crc4 (w / 16) ≠ w % 16 then s.bump .CHN_CODE_CNT_li_stamp_err ch
  else
    let d := (w / 16 + 4096 - t % 4096) % 4096
    let new := if d < 2048 then t + d else w / 16
    let move (s : State) : State :=
      let s := (s.updFrame ch x.frame (fun f => f.moveTo t new)).updChan ch (fun c => { c with
        liRxT := new + fcNSym f.fc, liLoads := (new, f.loads) :: c.liLoads.drop 1 })
      s.setFld .CHN_CODE_STATUS_li_rx_pos ch (new + fcNSym f.fc)
    if d = 0 then s
    else if d < 2048 then move s
    else (move (s.updChan ch (fun c => { c with
      liCells := [], liLoads := c.liLoads.take 1, rxq := c.rxq.filter (fun g => g.li.isNone || g.at_ == x.frame) }))).bump
        .CHN_CODE_CNT_li_resync ch

/-- Blocks and codewords whose last soft bit was demapped are ready for their pool (R150): those of the frame whose symbol `n` came,
and with link symbol `link` those of every interleaved frame. -/
def State.queueDue (s : State) (ch at_ n : Nat) (link : Option Nat) : State :=
  let ready (f : RxFrame) (b : RxBlock) : Bool := !b.queued && (match f.li, link with
    | some _, some t => decide (b.due ≤ t)
    | none, _ => f.at_ == at_ && decide (b.due ≤ n)
    | _, none => false)
  let work := (s.chan ch).rxq.flatMap (fun f => (f.blocks.zipIdx.filter (fun (e : RxBlock × Nat) => ready f e.1)).map
    (fun (e : RxBlock × Nat) => ({ pool := if f.code < 4 then 0 else 1, ch := ch, prio := f.fc.prio, panel := s.rxPanel ch
                                   frame := f.at_, block := e.2 } : Work)))
  let mark (f : RxFrame) : RxFrame := { f with blocks := f.blocks.map (fun b => if ready f b then { b with queued := true } else b) }
  (s.updChan ch (fun c => { c with rxq := c.rxq.map mark })).addWork work

/-- A channel's estimate of a carrier: the estimate held, rebased in a step (R153, R179). Where none is held yet the symbol's own
pilots give it, with noise as strong as the signal (log 169). -/
def State.cellEst (s : State) (ch c : Nat) (obs : List (Nat × Cx)) : Cx × Rat :=
  match s.eqH ch c, tfind c (s.chan ch).est with
  | some h, some e => (h, e.s2)
  | some h, none => (h, h.abs2)
  | none, _ => let h := interpAt obs c; (h, h.abs2)

/-- A cell after the array, with its effective noise (R176, R199); `z` holds the symbol's values and `obs` its pilots over their own. -/
def State.rxCell (s : State) (x : RxSym) (z : Tbl Cx) (obs : List (Nat × Cx)) (free : Bool) (c : Nat) : RxCell :=
  let e := s.cellEst x.ch c obs
  let f : Rat := ((x.blanked : Nat) : Rat) / 8192
  let extra := tget 0 c x.extra
  { y := tget Cx.zero c z, h := e.1, noise := if 8192 ≤ x.blanked then 0 else e.2 / (1 - f) + f / (1 - f) * e.1.abs2 + extra
    free := free, erased := x.erased || (tfind c z).isNone, weighed := x.blanked != 0 || extra != 0 }

/-- The FFT window follows the timing error (R110): by one sample where it reaches half of one. -/
def State.trackWindow (s : State) (ch : Nat) (late : Rat) : State :=
  let m : Int := if 1 ≤ 2 * late then -1 else if 2 * late ≤ -1 then 1 else 0
  s.updChan ch (fun c => { c with winMove := c.winMove + m })

/-- Pilots that were received, with what was sent on them. -/
def State.heardPilots (s : State) (x : RxSym) (z : Tbl Cx) : List (Nat × Cx × Cx) :=
  (s.symPilots x).filterMap (fun (e : Nat × Cx) => (tfind e.1 z).map (fun y => (e.1, y, e.2)))

/-- A frame-control symbol after the array: tracking (R110), the pilots' estimates (R153, R155), and the decoding in the pipe itself,
which draws on no pool (R98, R99). -/
def State.takeControl (s : State) (x : RxSym) (z : Tbl Cx) : State :=
  let ch := x.ch
  let fit := s.symFit x z
  let z := unturn fit z
  let pil := s.heardPilots x z
  let obs := pil.map (fun (e : Nat × Cx × Cx) => (e.1, e.2.1.div e.2.2))
  let cells := (dataOf (fcSet (s.plan ch))).map (fun c =>
    let k := s.rxCell x z obs false c
    cellSoft 2 k.y k.h k.noise k.erased)
  let free := x.blanked == 0 && !x.erased && !s.flag .CHN_TM_STATUS_step_active ch
  let s := if free then s.takeCells ch (pil.filter (fun (e : Nat × Cx × Cx) => (s.payload ch).contains e.1)) else s
  (s.trackWindow ch fit.2).updChan ch (fun c => { c with fcWord := some (decodeFc (repSoft 134 6 cells)) })

/-- A payload symbol after the array: tracking (R110), step check (R177 to R179), pilots' estimates (R153), its cells, the stamp
(R146) and what is ready to decode (R150). A frame no one waits for ends with its last symbol. -/
def State.takePayload (s : State) (x : RxSym) (f : RxFrame) (n : Nat) (z : Tbl Cx) : State :=
  let ch := x.ch
  let fit := s.symFit x z
  let z := unturn fit z
  let s := s.trackWindow ch fit.2
  let pil := s.heardPilots x z
  let obs := pil.map (fun (e : Nat × Cx × Cx) => (e.1, e.2.1.div e.2.2))
  let s := if x.erased ∨ pil = [] then s else s.stepCheck ch obs
  let step := s.flag .CHN_TM_STATUS_step_active ch
  let s := if step then s.updFrame ch x.frame (fun f => { f with stepped := true }) else s
  let free := x.blanked == 0 && !x.erased && !step
  let s := if free then s.takeCells ch pil else s
  let cells := (s.dataCarriers ch).map (s.rxCell x z obs free)
  match f.li with
  | none =>
    (s.updFrame ch x.frame (fun f => { f with cells := f.cells ++ List.replicate (n - f.cells.length) [] ++ [cells] })).queueDue
      ch x.frame n none
  | some t0 =>
    let s := if n = 0 then s.takeStamp x f t0 z else s
    let t := (((s.chan ch).rxq.find? (fun g => g.at_ == x.frame)).bind (·.li)).getD t0 + n
    let s := s.updChan ch (fun c => { c with liCells := tset t cells (c.liCells.filter (fun e => decide (t < e.1 + 8192))) })
    let s := s.queueDue ch x.frame n (some t)
    if fcDlv f.fc = 0xFFFFFFFF ∧ n + 1 = fcNSym f.fc then
      s.updChan ch (fun c => { c with rxq := c.rxq.filter (fun g => g.at_ != x.frame) })
    else s

/-- One symbol of the slot after the array. -/
def State.takeSymbol (s : State) (x : RxSym) (z : Tbl Cx) : State :=
  let s := (s.learnNext x z).guardSym x z
  match x.kind with
  | .fc => s.takeControl x z
  | .payload n => match (s.chan x.ch).rxq.find? (fun f => f.at_ == x.frame) with
    | some f => s.takePayload x f n z
    | none => s
  | _ => s

/-- A channel takes part in an upstream sync slot (R204). -/
def State.takesPart (s : State) (ch : Nat) (x : Option RxSym) : Bool :=
  match x with
  | none => false
  | some x => x.kind == .sync && !x.erased && s.locked ch && s.flag .CHN_RSSI_nf_valid ch
      && decide (signed 12 (s.fld .CHN_RSSI_noise_floor ch) + 2 * (s.fld .CHN_DET_CFG_det_thr ch : Int) ≤ x.power)

/-- Sync indices in a row without taking part hold the pairs of the direction's class (R213). -/
def State.missSync (s : State) (cls ch : Nat) (part : Bool) : State :=
  let old := if cls = 1 then s.ola.missUp else s.ola.missDn
  let n := if part then 0 else tget 0 ch old + 1
  let t := tput 0 ch n old
  let o := if cls = 1 then { s.ola with missUp := t } else { s.ola with missDn := t }
  let s := { s with ola := o }
  if 4 ≤ n then s.holdPairs cls ch else s

/-- What an upstream sync slot leaves (R204, R209): who took part, and the residuals. -/
def State.endUpSync (s : State) (k : Nat) (zs : List (RxSym × Tbl Cx)) : State :=
  let ms := (List.range 192).filter (s.syncMember 1)
  let sym (ch : Nat) : Option (RxSym × Tbl Cx) := zs.find? (fun (e : RxSym × Tbl Cx) => e.1.ch == ch && e.1.kind.rx)
  let part := ms.filter (fun c => s.takesPart c ((sym c).map (·.1)))
  let t := s.syncIndex k
  let s := ms.foldl (fun (s : State) c => (s.setFlag .CHN_OLA_STATUS_sync_part c (part.contains c)).missSync 1 c (part.contains c)) s
  let new := part.filterMap (fun v => match s.victimIdx 1 v, sym v with
    | some _, some (_, z) =>
      let w : Rat := ((pilotSign (s.pilotCode v) t : Int) : Rat)
      let vals := (List.range 1024).filterMap (fun ci => match tfind (ci + 74) z, tfind (ci + 74) (s.chan v).est with
        | some y, some e => some (ci, y.sub (e.h.mul (Cx.scale w (syncCells.getD ci Cx.zero))))
        | _, _ => none)
      some (⟨1, v, t, vals, (s.olaSlots 1 v).filter (fun d => d != v && part.contains d && !s.unsettled d k && !s.unsettled v k), 8⟩ : Resid)
    | _, _ => none)
  { s with ola := { s.ola with resid := s.ola.resid.filter (fun r => r.cls != 1) ++ new } }

/-- What a downstream sync slot leaves (R213): a member that sent a frame in it took no part. -/
def State.endDnSync (s : State) (k : Nat) : State :=
  ((List.range 192).filter (s.syncMember 2)).foldl (fun (s : State) c =>
    s.missSync 2 c ((s.airAt c k).any (fun a => a.kind == .sync))) s

/-- The Overlock stage of a slot that ended, and the demapping of its symbols. -/
def State.endSymbols (s : State) (k : Nat) : State :=
  let zs := (s.grid.symbols.filter (fun x => x.slot == k)).map (fun x => (x, s.z2 x))
  let s := zs.foldl (fun (s : State) (e : RxSym × Tbl Cx) => s.takeSymbol e.1 e.2) s
  let s := if s.isUpSync k then s.endUpSync k zs else s
  let s := if s.isDnSync k then s.endDnSync k else s
  { s with grid := { s.grid with symbols := [] } }

end Sys2Proof.Machine
end

