-- ==== Sys2Proof/Machine/Frames.lean ====
section
/-! DEFINITION. Decoder units and decoded frames (R134, R149 to R155, R235 to R241, R254, R266, R273, R275). -/

namespace Sys2Proof.Machine

/-- A pool's capacity in force (R149): Viterbi 0, LDPC 1. -/
def State.decCap (s : State) (pool : Nat) : Nat := s.fld (if pool = 0 then .COD_CAP_vit_cap else .COD_CAP_ldpc_cap) 0

/-- The order of decoder work (R65, R151): class, waiting work first, then channels in the order of the slot. -/
def workBefore (rot : Nat) (a b : Work) : Bool :=
  let turn (w : Work) : Nat := (w.ch + 192 - rot % 192) % 192
  decide (b.prio < a.prio) || (a.prio == b.prio && (decide (b.age < a.age) || (a.age == b.age && decide (turn a ≤ turn b))))

/-- Grants of a pool: class 3 first, work in budget, then borrowers (R150, R151, R410, R411). `used` counts units of the pool,
`budget` holds what each panel has left. -/
def grantWork (cap : Nat) (may : Nat → Bool) : List (Work × Nat) → Nat → List Nat → List Nat
  | [], _, acc => acc
  | w :: ws, used, acc =>
    if used < cap ∧ may w.1.panel = true then grantWork cap may ws (used + 1) (w.2 :: acc) else grantWork cap may ws used acc

/-- Grants of the work within panels' budgets: `spent` by panel, over both pools. -/
def grantOwn (cap : Nat) (budget : Nat → Nat) : List (Work × Nat) → Nat → Tbl Nat → List Nat → List Nat × Tbl Nat
  | [], _, spent, acc => (acc, spent)
  | w :: ws, used, spent, acc =>
    let n := tget 0 w.1.panel spent
    if used < cap ∧ n < budget w.1.panel then grantOwn cap budget ws (used + 1) (tput 0 w.1.panel (n + 1) spent) (w.2 :: acc)
    else grantOwn cap budget ws used spent acc

/-- A pool's units take work for the slot that begins (R150 to R152, R410, R411). -/
def State.grantPool (s : State) (pool : Nat) : State :=
  let cap := s.decCap pool
  let all := s.grid.work.zipIdx.filter (fun (e : Work × Nat) => e.1.pool == pool && !e.1.served)
  let p3 := (all.filter (fun e => 3 ≤ e.1.prio)).mergeSort (fun a b => workBefore s.grid.slot a.1 b.1)
  let rest := (all.filter (fun e => e.1.prio < 3)).mergeSort (fun a b => workBefore s.grid.slot a.1 b.1)
  let g3 := grantWork cap (fun _ => true) p3 0 []
  let (own, spent) := grantOwn cap (fun p => s.fld .PNL_DEC_dec p) rest g3.length s.grid.decUsed []
  let used := g3.length + own.length
  let keep := s.pat.thimble.protDec - g3.length
  let left := rest.filter (fun e => !own.contains e.2)
  let borrows (p : Nat) : Bool := (s.pat.thimbles.find? (fun i => i.panel == p)).any (fun i => bit i.borrow 1)
  let bor := grantWork (cap - keep) borrows left used []
  let done := g3 ++ own ++ bor
  let wait := all.filter (fun e => !done.contains e.2)
  let work := s.grid.work.zipIdx.map (fun (e : Work × Nat) =>
    if done.contains e.2 then { e.1 with served := true }
    else if e.1.pool = pool ∧ e.1.served = false then { e.1 with age := e.1.age + 1 } else e.1)
  let s := { s with grid := { s.grid with work := work, decUsed := spent } }
  let late := (wait.filter (fun e => 3 ≤ e.1.prio)).length
  let s := if late = 0 then s else s.bumpN .COD_PROT_CNT_prot_late 0 late
  let s := if bor.length = 0 then s else s.bumpN .COD_PROT_CNT_dec_borrow 0 bor.length
  if wait.length = late then s else s.bumpN .COD_DEFER_CNT_defer 0 (wait.length - late)

/-- Decoder work of a slot is granted at its boundary (R150). -/
def State.grantDecoders (s : State) : State :=
  let s := { s with grid := { s.grid with decUsed := [] } }
  let s := (s.grantPool 0).grantPool 1
  (List.range 16).foldl (fun (s : State) p => s.setFld .PNL_DEC_dec_used p (tget 0 p s.grid.decUsed)) s

/-- A cell weighed by R176 falls short of SNRreq by more than `erase_db`. -/
def State.tooWeak (s : State) (ch code b : Nat) (r : RxCell) : Bool :=
  let q := r.h.abs2 / r.noise
  r.weighed && decide (0 < b) && decide (0 < r.noise)
    && !snrMeets (quarterDb q.num.natAbs q.den) b code (-4 * (s.fld .CHN_ADAPT_CFG2_erase_db ch : Int))

/-- The soft values of a cell that carries `b` bits (R138, R176); one that was lost gives none. -/
def State.softCell (s : State) (ch code b : Nat) (r : Option RxCell) : List Int :=
  match r with
  | none => List.replicate b 0
  | some r => cellSoft b r.y r.h r.noise (r.erased || s.tooWeak ch code b r)

/-- The received cell of position `k` of a frame's symbol `i`, given back by the delay line where it is interleaved (R141). -/
def State.frameCell (s : State) (ch : Nat) (f : RxFrame) (i k : Nat) : Option RxCell :=
  match f.li with
  | none => (f.cells.getD i [])[k]?
  | some t => (tget [] (t + i + liDelay (s.rxW ch) k) (s.chan ch).liCells)[k]?

/-- The soft values of a frame's `nc` coded bits (R99, R135, R136, R143). -/
def State.frameSoft (s : State) (ch : Nat) (f : RxFrame) (nc : Nat) : List Int :=
  let d := s.dCount ch
  let r := roboR (frameRobo f.fc)
  foldFill nc ((List.range (fcNSym f.fc)).flatMap (fun i =>
    if f.map.isNone then
      repSoft (d / r) r ((repLoads d (d / r) r).zipIdx.map (fun e => s.softCell ch 0 e.1 (s.frameCell ch f i e.2)))
    else (f.loads.zipIdx.filter (fun (e : Nat × Nat) => f.codes i e.2)).flatMap (fun (e : Nat × Nat) =>
      s.softCell ch f.code e.1 (s.frameCell ch f i e.2))))

/-- A decoded block or codeword of a frame, and whether it failed. -/
def State.decodeOf (s : State) (ch : Nat) (f : RxFrame) (b : RxBlock) : List Bool × Bool :=
  let nc := (f.blocks.map (·.sent)).foldl (· + ·) 0
  decodeBlock f.code b.k (s.effFld .COD_LDPC_CFG_ldpc_iter 0) (((s.frameSoft ch f nc).drop b.start).take b.sent)

/-- What became of a block of a frame is known. -/
def State.blockOut (s : State) (ch at_ i : Nat) (out : List Bool × Bool) : State :=
  s.updFrame ch at_ (fun f => { f with blocks := f.blocks.zipIdx.map (fun (e : RxBlock × Nat) =>
    if e.2 = i then { e.1 with queued := true, out := some out } else e.1) })

/-- DECODE_COMPLETE (R129, R134, R150): a unit of a pool finishes the first of the work being decoded, and its bits go to the channel's
Bobbin with the failure flag. Work of a frame no longer there is finished without a trace. -/
def execDecodeComplete (pool unit : Nat) (s : State) : Host.Outcome State Fault Refusal :=
  .next (
    let units := s.fld (if pool = 0 then .COD_POOL_STATUS_vit_units else .COD_POOL_STATUS_ldpc_units) 0
    match s.grid.work.find? (fun w => w.pool == pool && w.served) with
    | none => s
    | some w =>
      if 1 < pool ∨ units = 0 ∨ (if pool = 0 then 48 else 32) ≤ unit ∨ s.isFenced (blkVit + pool) unit = true then s
      else
        let s := { s with grid := { s.grid with work := s.grid.work.erase w } }
        match (s.chan w.ch).rxq.find? (fun f => f.at_ == w.frame) with
        | none => s
        | some f => match f.blocks[w.block]? with
          | none => s
          | some b =>
            let out := s.decodeOf w.ch f b
            let s := s.blockOut w.ch w.frame w.block out
            if out.2 then s.bump .CHN_CODE_CNT_cw_fail w.ch else s)

/-- DECODE_DROP: work that has waited 64 slots is dropped as failed (R151), and R134 applies to it as to a failed codeword. -/
def execDecodeDrop (s : State) : Host.Outcome State Fault Refusal :=
  .next (
    match s.grid.work.find? (fun w => decide (64 ≤ w.age) && decide (w.prio < 3) && !w.served) with
    | none => s
    | some w =>
      let s := ({ s with grid := { s.grid with work := s.grid.work.erase w } }).bump .COD_DEFER_CNT_drop 0
      let k := (((s.chan w.ch).rxq.find? (fun f => f.at_ == w.frame)).bind (fun f => f.blocks[w.block]?)).map (·.k)
      let s := s.blockOut w.ch w.frame w.block (List.replicate (k.getD 0) false, true)
      s.bump .CHN_CODE_CNT_cw_fail w.ch)

/-- The payload of a decoded frame (R124), and its bytes that a failed block or codeword touches (R134, R255). -/
def RxFrame.payload (f : RxFrame) : List Byte × List Nat :=
  let outs := f.blocks.map (fun b => (b.out.getD ([], true)))
  let bits := outs.flatMap (·.1)
  let marks := outs.flatMap (fun o => o.1.map (fun _ => o.2))
  (bitsToBytes (scramble f.fc.link bits), (List.range (ceilDiv marks.length 8)).filter (fun i => ((marks.drop (8 * i)).take 8).any id))

/-- The coded bits of a payload with whether their block or codeword counts as decoded (R153): a codeword none of whose bytes is
`bad`, a block all of whose bytes lie in segments that were received. -/
def codedTags (code link : Nat) (payload : List Byte) (good : Nat → Bool) : List (Bool × Bool) :=
  let n := if code < 4 then 2048 else 960
  let l := scramble link (bytesToBits payload)
  (chunks n (l.length + 1) l).zipIdx.flatMap (fun (e : List Bool × Nat) =>
    let ok := (List.range (ceilDiv e.1.length 8)).all (fun i => good (n / 8 * e.2 + i))
    (encodePayload code e.1).map (fun b => (b, ok)))

/-- Whether all bits of each cell count as decoded; a carrier of loading 0 carries none. -/
def cellTags : List Nat → List Bool → List Bool
  | [], _ => []
  | b :: bs, l => (b != 0 && (l.take b).length == b && (l.take b).all id) :: cellTags bs (l.drop b)

/-- The cells of one payload symbol with whether they count as decoded. -/
def symTags (loads : List Nat) (bits tags : List Bool) : List (Cx × Bool) :=
  ((loadCells loads bits).map cellVal).zip (cellTags loads tags)

/-- Coded bits of a frame's payload symbol (R135). -/
def State.symCap (s : State) (ch : Nat) (f : RxFrame) (n : Nat) : Nat :=
  if f.map.isNone then 2 * (s.dCount ch / roboR (frameRobo f.fc))
  else if f.li.isSome ∧ n = 0 then symBitsFirst f.loads else symBits f.loads

/-- The cells a received frame's payload symbols were sent with (R135, R136), re-encoded (R153). -/
def State.resentCells (s : State) (ch : Nat) (f : RxFrame) (payload : List Byte) (good : Nat → Bool) : List (List (Cx × Bool)) :=
  let n := fcNSym f.fc
  let caps := (List.range n).map (s.symCap ch f)
  let total := caps.foldl (· + ·) 0
  let tagged := codedTags f.code f.fc.link payload good
  let fb := fillBits total (tagged.map (·.1))
  let ft := fillBits total (tagged.map (·.2))
  let bs := symbolBits (caps.headD 0) (caps.getD 1 0) n fb
  let ts := symbolBits (caps.headD 0) (caps.getD 1 0) n ft
  let d := s.dCount ch
  let r := roboR (frameRobo f.fc)
  (bs.zip ts).zipIdx.map (fun (e : (List Bool × List Bool) × Nat) =>
    if f.map.isNone then
      let m := d / r
      let cs := symTags (List.replicate m 2) e.1.1 e.1.2
      (repLayout d m r).map (fun o => match o with
        | some i => cs.getD i (Cx.zero, false)
        | none => (Cx.zero, false))
    else if f.li.isSome ∧ e.2 = 0 then List.replicate 48 (Cx.zero, false) ++ symTags (f.loads.drop 48) e.1.1 e.1.2
    else symTags f.loads e.1.1 e.1.2)

/-- Received values of cells that count as decoded, with the cells (R155). -/
def State.pairCells (s : State) (ch : Nat) (f : RxFrame) (xs : List (List (Cx × Bool))) : List (Nat × Cx × Cx) :=
  let cs := s.dataCarriers ch
  xs.zipIdx.flatMap (fun (e : List (Cx × Bool) × Nat) =>
    ((cs.zip e.1).zipIdx.filter (fun (g : (Nat × (Cx × Bool)) × Nat) => g.1.2.2)).filterMap (fun (g : (Nat × (Cx × Bool)) × Nat) =>
      match s.frameCell ch f e.2 g.2 with
      | some r => if r.free then some (g.1.1, r.y, g.1.2.1) else none
      | none => none))

/-- Bytes of a payload that count as decoded: an LDPC codeword's own outcome, or the segments that were received (R153). -/
def RxFrame.goodByte (f : RxFrame) (bad : List Nat) (gs : List RawSeg) (i : Nat) : Bool :=
  if f.code < 4 then gs.any (fun g => g.ok && decide (g.off ≤ i) && decide (i < g.off + segLen g.len)) else !bad.contains i

/-- A decoded frame's cells update the estimates (R153, R155), but not where a step was in it; then the figures of R156 follow. -/
def State.learnFrame (s : State) (ch : Nat) (f : RxFrame) (payload : List Byte) (bad : List Nat) (gs : List RawSeg) : State :=
  if f.stepped || f.fc.typ == 4 then s
  else (s.takeCells ch (s.pairCells ch f (s.resentCells ch f payload (f.goodByte bad gs)))).refreshSnr ch

/-- The segments of a DATA, PROTECT or TONEMAP frame (R254, R255, R260, R266 to R268), and after it the maps are reviewed (R168). -/
def State.takeData (s : State) (ch : Nat) (f : RxFrame) : State :=
  let fc := f.fc
  let (payload, bad) := f.payload
  let gs := frameSegs fc payload bad
  if !s.frameMine ch fc then s
  else
    let s := (s.learnFrame ch f payload bad gs).notePeer ch fc.src
    let s := if fcAckReq fc ∧ fc.dst ≠ 0xFFFF then s.takeFlow ch fc gs else s.takeAllLoose ch fc fc.src fc.link fc.dst gs
    s.reviewMaps ch

/-- DATA_FRAME_RX: the oldest such frame decoded. -/
def execDataFrameRx (ch : Nat) (s : State) : Host.Outcome State Fault Refusal :=
  .next (match s.heard ch (fun fc => (fc.typ == 0 || fc.typ == 3 || fc.typ == 5) && !fcFlood fc) with
    | none => s
    | some f => (s.takeHeard ch f).takeData ch f)

/-- A flood frame (R273, R275): its header, its segments, and its copies on the other channels of the domain. -/
def State.takeFlood (s : State) (ch : Nat) (f : RxFrame) : State :=
  let fc := f.fc
  let (payload, bad) := f.payload
  if !s.frameMine ch fc then s
  else if crc 16 0x1021 0xFFFF (bytesToBits (slice payload 0 6)) ≠ beAt payload 6 2 ∨ payload.length < 8 then
    s.bump .CHN_RX_FC_CNT_fc_foreign ch
  else
    let gs := frameSegs fc payload bad
    let s := (s.learnFrame ch f payload bad gs).notePeer ch fc.src
    let ttl := beAt payload 0 1 / 16
    let origin := beAt payload 2 2
    let oseq := beAt payload 4 2
    let give (s : State) : State := (s.takeAllLoose ch fc origin 0x0FFF 0xFFFF gs).reviewMaps ch
    match s.floodDomain ch with
    | none => give s
    | some m =>
      if s.dlv.seen.any (fun e => e.domain == m && e.origin == origin && e.oseq == oseq) then s.bump .DLV_FLOOD_CNT_flood_dup 0
      else
        let s := give (s.enterSeen m origin oseq)
        if ttl = 0 then s.bump .DLV_FLOOD_CNT_ttl_end 0
        else
          let body := (gs.filter (·.ok)).flatMap (fun g => slice payload g.off (segLen g.len))
          if body = [] then s else (s.refloodTo m ch (fcEnc fc)).foldl
            (fun s x => s.addCopy (s.rxPanel ch) fc.prio x (ttl - 1) origin oseq body (fcEnc fc)) s

/-- FLOOD_FRAME_RX: the oldest such frame decoded. -/
def execFloodFrameRx (ch : Nat) (s : State) : Host.Outcome State Fault Refusal :=
  .next (match s.heard ch (fun fc => (fc.typ == 0 || fc.typ == 3 || fc.typ == 5) && fcFlood fc) with
    | none => s
    | some f => (s.takeHeard ch f).takeFlood ch f)

/-- The estimates a SOUND frame of the link gives (R154, R155), from the cells of its payload symbols. -/
def State.soundTable (s : State) (ch : Nat) (f : RxFrame) : Tbl Est :=
  let cs := s.dataCarriers ch
  let d := cs.length
  let xs := scrCells (0x7000 + s.fld .CHN_CFG_link_id ch) (d * f.cells.length)
  let new := cs.zipIdx.map (fun (e : Nat × Nat) =>
    (e.1, soundEst (f.cells.zipIdx.map (fun (y : List RxCell × Nat) =>
      (((y.1[e.2]?).map (·.y)).getD Cx.zero, xs.getD (y.2 * d + e.2) Cx.zero)))))
  ((s.chan ch).est.filter (fun (e : Nat × Est) => isPilot e.1)).foldl (fun t (e : Nat × Est) => tset e.1 e.2 t) new

/-- A SOUND frame replaces the estimates (R155) and a MAP follows (R168); with a step in the frame its estimates are discarded and
SOUND_REQ is sent again (R180). When the optional PROTECT map is sent, the spec does not say: after each SOUND frame of LIVE
(DESIGN CHOICE, log 174). -/
def State.takeSound (s : State) (ch : Nat) (f : RxFrame) : State :=
  let st := s.chState ch
  if ¬ (st = chTraining ∨ st = chLive) ∨ f.cells.length < 4 ∨ 15 < f.cells.length ∨ s.frameMine ch f.fc = false then s
  else
    let s := s.notePeer ch f.fc.src
    if f.stepped then s.askSound ch
    else
      let s := s.updChan ch (fun c => { c with est := s.soundTable ch f, soundOut := none, soundHems := 0 })
      let s := ((s.bump .CHN_SOUND_CNT_sound_rx ch).showSnr ch).renewMap ch 0
      if st = chLive then s.renewMap ch 1 else s

/-- SOUND_RX: the oldest SOUND frame received. -/
def execSoundRx (ch : Nat) (s : State) : Host.Outcome State Fault Refusal :=
  .next (match s.heard ch (fun fc => fc.typ == 4) with
    | none => s
    | some f => (s.takeHeard ch f).takeSound ch f)

/-- Bytes of a beacon payload before its CRC (R236). -/
def bcnSize (payload : List Byte) : Nat := (24 + 8 * beAt payload 3 1 + 4 * beAt payload 4 1 + 3) / 4 * 4

/-- A beacon payload passes its CRC and the ranges of R236. -/
def bcnOk (payload : List Byte) : Bool :=
  let n := bcnSize payload
  decide (n + 4 ≤ payload.length) && beAt payload 0 1 == 1 && decide (beAt payload 3 1 ≤ 8) && decide (beAt payload 4 1 ≤ 8)
    && decide (1 ≤ beAt payload 1 1) && decide (beAt payload 1 1 ≤ 64)
    && crc32Bytes (slice payload 0 n) == slice payload n 4

/-- A window as a beacon carries it (R231, R236). -/
def bcnWindow (ch : Nat) (b : List Byte) : Window :=
  { typ := beAt b 0 1, localPhase := bit (beAt b 1 1) 0, start := beAt b 2 2, stop := beAt b 4 2, owner := beAt b 6 2
    chans := 2 ^ ch }

/-- Δ after a beacon (R241): the first is adopted, a later one moves it by a quarter of the difference with wrap-around. -/
def bcnDelta (first : Bool) (old new : Nat) : Nat :=
  if first then new else unsigned 16 ((old : Int) + roundDiv (signed 16 (unsigned 16 ((new : Int) - (old : Int)))) 4)

/-- A beacon (R236 to R241): a MEMBER follows it, a COORDINATOR finds a conflict. -/
def State.takeBeacon (s : State) (ch : Nat) (f : RxFrame) : State :=
    let fc := f.fc
    let (payload, bad) := f.payload
    let tick := f.at_ / 32
    let st := s.chState ch
    let up := st == chArmed || s.rxUp ch
    if fc.typ ≠ 2 ∨ fc.link ≠ s.fld .CHN_CFG_link_id ch ∨ up = false then s
    else if s.fld .CHN_STATUS_role ch = 0 then s.roleConflict ch fc.src
    else if bad ≠ [] ∨ bcnOk payload = false ∨ s.peerOk ch fc.src = false then s
    else
      let s := s.notePeer ch fc.src
      let c := s.chan ch
      let hem := bits fc.body 35 8
      let fresh := !c.bcnGot || c.bcnHem != some hem
      let total := beAt payload 1 1
      let first := beAt payload 2 1
      let old := if total = c.layoutTotal then c.layout else []
      let lay := (List.range (beAt payload 3 1)).foldl (fun t i =>
        if first + i < total then tset (first + i) (bcnWindow ch (slice payload (24 + 8 * i) 8)) t else t) old
      let new := (bits fc.body 19 16 + 65536 - s.phaseOf tick) % 65536
      let s := s.setFld .CHN_HEM_OFS_delta_m ch (bcnDelta (c.bcnHeard == 0) (s.fld .CHN_HEM_OFS_delta_m ch) new)
      let count := if fresh then c.bcnCount + 1 else c.bcnCount
      let s := s.updChan ch (fun c => { c with
        layout := lay, layoutTotal := total, bcnTheta := beAt payload 5 2, bcnGot := true, bcnHem := some hem
        bcnHeard := c.bcnHeard + 1, bcnMissed := 0, bcnLost := none, bcnCount := count })
      let s := if 1 ≤ c.bcnHeard then s.setFlag .CHN_HEM_OFS_delta_valid ch true else s
      let s := s.setFlag .CHN_HEM_STATUS_bcn_ok ch true
      if 2 ≤ count ∧ s.effState ch = chArmed then s.requestState ch chTraining 0 else s

/-- BEACON_RX: the oldest beacon decoded. -/
def execBeaconRx (ch : Nat) (s : State) : Host.Outcome State Fault Refusal :=
  .next (match s.heard ch (fun fc => fc.typ == 2) with
    | none => s
    | some f => ((s.takeHeard ch f).takeBeacon ch f).reviewMaps ch)

end Sys2Proof.Machine
end

