-- ==== Sys2Proof/Machine/Commit.lean ====
section
/-! DEFINITION. The Hem scheduler's commitments (R36, R230 to R248, R256 to R265, R288, R314, R315, R410 to R412, R493): which frame
a channel sends in a slot, what it carries, what it is charged, and what its launch does. -/

namespace Sys2Proof.Machine

/-- The slot whose commit point it is (R36). -/
def State.commitSlot (s : State) : Nat := s.grid.slot + s.commitAhead

/-- Slots a frame's exchange fills (R243, R244): eight boundaries after an acknowledged frame, two slots of ACK. -/
def Frame.exchange (f : Frame) : Nat :=
  if fcIsData f.fc && fcAckReq f.fc && f.fc.dst != 0xFFFF then f.len + 9 else f.len

/-- A channel's transmitter is free for `n` slots from a slot: no frame, acknowledgement, exchange or tone of its own. -/
def State.clearFor (s : State) (ch k n : Nat) : Bool :=
  let c := s.chan ch
  !((s.grid.committed ++ s.grid.launched ++ c.await).any (fun f => f.ch == ch && slotsMeet f.slot f.exchange k n))
    && !c.acks.any (fun a => slotsMeet a.slot 2 k n) && (List.range n).all (fun i => !s.toneIn ch (k + i))

/-- A channel may transmit in a state (R115, R240, R241, R492): LIVE and TRAINING; `all` adds ARMED. -/
def State.maySend (s : State) (ch : Nat) (all : Bool) : Bool :=
  let st := s.chState ch
  (st == chLive || st == chTraining || (all && st == chArmed)) && s.laneAligned (headOf ch)
    && !s.flag .CHN_STATUS_coupling_pending ch
    && (s.fld .CHN_STATUS_role ch == 0 || (s.flag .CHN_HEM_OFS_delta_valid ch
        && (match (s.chan ch).bcnLost with
          | some h => decide (s.grid.hem ≤ h + 16)
          | none => true)))

/-- Slots from `k` on that lie in one window and, below class 3, are no sync slots of the channel (R245), at most `n`. -/
def State.runFrom (s : State) (ch k prio : Nat) : Nat → Nat
  | 0 => 0
  | n + 1 =>
    let r := s.runFrom ch k prio n
    if r = n ∧ s.windowAt ch (k + n) = s.windowAt ch k ∧ (3 ≤ prio ∨ s.syncSlotOf ch (k + n) = false) then n + 1 else r

/-- The longest exchange: 511 payload symbols, frame control, preamble and acknowledgement. -/
def maxExchange : Nat := 522

/-- The repetition and the map a frame of a class is sent with (R115, R161, R162, R169): FALLBACK rules every frame below class 3. -/
def State.sendMode (s : State) (ch prio : Nat) (tone : Bool) : Nat × Option (Nat × ToneMap) :=
  let heard := (s.chan ch).partnerRobo
  let any := if heard = 0 then 2 else heard
  let gen := s.txMap ch 0
  let use (m : Option (Nat × ToneMap)) (r : Nat) : Nat × Option (Nat × ToneMap) := match m with
    | some (i, m) => if m.bs = 0 then (m.robo, none) else (0, some (i, m))
    | none => (r, none)
  let general := (gen.map (·.2.robo)).getD any
  if prio < 3 ∧ (s.chan ch).fallRobo ≠ 0 then ((s.chan ch).fallRobo, none)
  else if tone then (any, none)
  else if s.chState ch ≠ chLive then (general, none)
  else if prio = 3 then use (s.txMap ch 1) general
  else use gen any

/-- A frame of a class sent with a map enters the interleaver (R139), where it is in force under that map (R167). -/
def State.liSends (s : State) (_ch typ prio : Nat) (mode : Nat × Option (Nat × ToneMap)) : Bool :=
  typ == 0 && decide (prio < 3) && mode.2.any (fun m => s.liWish m.2)

/-- Payload symbols of `n` bytes (R135). -/
def State.symsFor (s : State) (ch : Nat) (mode : Nat × Option (Nat × ToneMap)) (li : Bool) (n : Nat) : Nat :=
  match mode.2 with
  | some (_, m) =>
    let bs := symBits m.loads
    nSymOf (codedLen m.code (8 * n)) bs (if li then symBitsFirst m.loads else bs)
  | none =>
    let bs := 2 * (s.dCount ch / roboR mode.1)
    nSymOf (codedLen 0 (8 * n)) bs bs

/-- The Hem a slot lies in. -/
def State.hemOf (s : State) (k : Nat) : Nat := s.grid.hem + s.hemSide (s.slotTick k)

/-- A frame with the fields every data frame shares (R96). -/
def State.dataFrame (s : State) (ch k typ prio dst : Nat) (kind : FrameKind) (mode : Nat × Option (Nat × ToneMap)) (li : Bool)
    (nSym : Nat) (enc ack flood : Bool) (dlv : Nat) (payload : List Byte) : Frame :=
  { ch := ch, slot := k, kind := kind
    fc := ⟨typ, 0, prio, s.fld .CHN_CFG_link_id ch, s.ownAddr ch, dst,
      dataBody nSym ((mode.2.map (·.1)).getD 0) mode.1 enc ack flood dlv⟩
    payload := payload, len := 2 + nSym, panel := (s.owner ch).getD 0, hem := s.hemOf k
    map := mode.2.map (·.2), liPos := if li then some 0 else none }

/-- A segment waits for a frame: QUEUED or LOST, in no committed frame, its launch time reached (R265, R319). -/
def State.segWaits (s : State) (ch k prio : Nat) (g : Seg) : Bool :=
  g.ch == ch && g.prio == prio && (g.state == .queued || g.state == .lost)
    && (match g.launch with
      | some t => decide (t ≤ s.slotTick k)
      | none => true)
    && !(g.seq.any (fun q => s.grid.committed.any (fun f => f.mids.contains (g.mid, q))))
    && !(g.state == .queued && g.ackReq && (s.txFlow ch g.peer g.space3).rxFull)

/-- The segments of a message take consecutive sequence numbers of their flow, all at once (R256, R261). -/
def State.numberMsg (s : State) (g : Seg) : State :=
  let f := s.txFlow g.ch g.peer g.space3
  let mine := s.dlv.segs.filter (fun x => x.mid == g.mid)
  let num (x : Seg) : Seg := if x.mid = g.mid then { x with seq := some ((f.next + x.part) % 4096) } else x
  let s := { s with dlv := { s.dlv with segs := s.dlv.segs.map num } }
  s.setTxFlow { f with next := (f.next + mine.length) % 4096 }

/-- A segment of the books as it stands. -/
def State.segNow (s : State) (g : Seg) : Seg := (s.dlv.segs.find? (fun x => x.mid == g.mid && x.part == g.part)).getD g

/-- A segment taken into a frame (R261, R472): numbered, given its in-flight slot, and encrypted once; none where it cannot be. -/
def State.takeSeg (s : State) (g : Seg) : Option (Seg × State) :=
  let g := s.segNow g
  let numbered : Option (Seg × State) :=
    if g.state = .lost then some (g, s)
    else if !g.ackReq then
      match g.seq with
      | some _ => some (g, s)
      | none =>
        let (v, s) := s.drawFree
        some ({ g with seq := some (v % 4096) }, s)
    else
      let f := s.txFlow g.ch g.peer g.space3
      let q := g.seq.getD f.next
      if s.effFld .DLV_CFG2_window 0 ≤ (q + 4096 - s.flowLow f) % 4096 then none
      else match s.takeIf g.prio with
        | none => none
        | some (p, s) =>
          let s := if g.seq.isNone then s.numberMsg g else s
          some ({ s.segNow g with slotOf := some p }, s)
  match numbered with
  | none => none
  | some (g, s) =>
    if g.enc && g.cipher.isNone then
      match s.sealField g.ch (s.ownAddr g.ch) g.peer (s.fld .CHN_CFG_link_id g.ch) g.ep (g.seq.getD 0) g.frag g.data with
      | none => none
      | some (field, s) => some ({ g with cipher := some field }, s)
    else some (g, s)

/-- Data field bytes of a segment. -/
def Seg.fieldLen (g : Seg) : Nat := g.data.length + (if g.enc then 24 else 0)

/-- The bytes of a segment as a frame carries it (R254, R472). -/
def Seg.bytes (g : Seg) : List Byte := segBytes g.ep (g.seq.getD 0) g.frag (g.cipher.getD g.data)

/-- Put a segment back into the books. -/
def State.putSeg (s : State) (g : Seg) : State :=
  { s with dlv := { s.dlv with segs := s.dlv.segs.map (fun x => if x.mid = g.mid ∧ x.part = g.part then g else x) } }

/-- Collect segments into a frame (R254, R257, R261): up to 64, while `fits` admits the bytes and the earliest deadline; the first
that cannot be taken ends the frame. Answers what was taken, newest first. -/
def State.collect (fits : Nat → Nat → Bool) : List Seg → Nat → Nat → List Seg → State → List Seg × State
  | [], _, _, acc, s => (acc, s)
  | g :: gs, bytes, dl, acc, s =>
    let n := bytes + segLen g.fieldLen
    let d := min dl g.deadline
    if 64 ≤ acc.length ∨ fits n d = false then (acc, s)
    else match s.takeSeg g with
      | none => (acc, s)
      | some (g', s) =>
        let mark : Seg := { g' with state := if g'.ackReq then .outstanding else .queued, sent := g'.sent + 1 }
        State.collect fits gs n d (mark :: acc) (s.putSeg mark)

/-- A data frame of waiting segments of a class for a slot (R65, R257 to R261, R265): LOST before new ones, of one flow and one
frame form. The second part is the state with it built, or with `if_wait` counted where it waits for in-flight slots. -/
def State.segFrame (s : State) (ch k prio : Nat) : Option Frame × State :=
  let ready := s.dlv.segs.filter (s.segWaits ch k prio)
  let order := ready.filter (fun g => g.state == .lost) ++ ready.filter (fun g => g.state == .queued)
  match order with
  | [] => (none, s)
  | h :: _ =>
    let tone := h.toneMsg.isSome
    let mode := s.sendMode ch prio tone
    let typ := if tone then 5 else if prio = 3 then 3 else 0
    let li := s.liSends ch typ prio mode
    let room := s.runFrom ch k prio maxExchange
    let tail := 2 + (if h.ackReq then 9 else 0)
    let fits (n d : Nat) : Bool :=
      let y := s.symsFor ch mode li n
      decide (y ≤ 511) && decide (y + tail ≤ room) && decide (s.slotTick (k + y + tail) + 200000 ≤ d)
    let mates := if tone || !h.ackReq then [h]
      else order.filter (fun g => g.peer == h.peer && g.enc == h.enc && g.ackReq && g.toneMsg.isNone)
    let (got, s1) := State.collect fits mates 0 (2 ^ 64) [] s
    match got.reverse with
    | [] => (none, if fits (segLen h.fieldLen) h.deadline then s.bump .DLV_MISC_CNT_if_wait 0 else s)
    | l =>
      let payload := l.flatMap Seg.bytes
      let low := if h.ackReq then s1.flowLow (s1.txFlow ch h.peer h.space3) else 0
      let dlv := low * 2 ^ 20 + (l.length - 1) * 2 ^ 14
      let f := s1.dataFrame ch k typ prio h.peer .data mode li (s1.symsFor ch mode li payload.length) h.enc h.ackReq false dlv payload
      let first := l.filter (fun g => g.sent == 1)
      (some { f with mids := l.map (fun g => (g.mid, g.seq.getD 0)), firsts := first.map (fun g => g.seq.getD 0) }, s1)

/-- A flood copy's frame (R273 to R276). -/
def State.floodFrame (s : State) (ch k prio : Nat) : Option Frame :=
  match s.dlv.copies.find? (fun c => c.ch == ch && c.prio == prio && decide (0 < c.reps)
      && !s.grid.committed.any (fun f => f.kind == .flood && f.aux == c.mid)) with
  | none => none
  | some c =>
    let mode := s.sendMode ch prio false
    let typ := if prio = 3 then 3 else 0
    let li := s.liSends ch typ prio mode
    let head := [byte (c.ttl * 16), 0] ++ be 2 c.origin ++ be 2 c.oseq
    let payload := head ++ be 2 (crc 16 0x1021 0xFFFF (bytesToBits head)) ++ c.segs
    let n := (parseSegs c.segs [] 64 0).length
    let f := s.dataFrame ch k typ prio 0xFFFF .flood mode li (s.symsFor ch mode li payload.length) c.enc false true
      ((n - 1) * 2 ^ 14) payload
    some { f with aux := c.mid, panel := ((s.dlv.txMsgs.find? (fun m => m.mid == c.mid)).map (·.panel)).getD f.panel }

/-- A PTP message's frame (R311, R314, R315): its correction is made for the slot. -/
def State.ptpFrameFor (s : State) (ch k : Nat) : Option (Frame × State) :=
  match s.tim.out.find? (fun o => o.port == ch + 2) with
  | none => none
  | some o =>
    let (m, s) := s.ptpDepart o (s.slotNs ch k)
    let s := { s with tim := { s.tim with out := s.tim.out.erase o } }
    let (v, s) := s.drawFree
    let g := (s.txMap ch 0).map (·.2.robo)
    let fall := (s.chan ch).fallRobo
    let mode : Nat × Option (Nat × ToneMap) := (if fall ≠ 0 then fall else g.getD (s.sendMode ch 2 true).1, none)
    let payload := segBytes 0xFFF0 (v % 4096) 3 m.body
    let f := s.dataFrame ch k 0 2 0xFFFF .ptp mode false (s.symsFor ch mode false payload.length) false false false 0 payload
    some ({ f with ptp := some o }, s)

/-- The SOUND frame a channel owes (R154, R166). -/
def State.soundFrame (s : State) (ch k : Nat) : Option Frame :=
  match (s.chan ch).soundOwe with
  | none => none
  | some n =>
    if s.grid.committed.any (fun f => f.ch == ch && f.kind == .sound) then none
    else some (s.dataFrame ch k 4 2 (s.partner ch) .sound (0, none) false n false false false 0xFFFFFFFF [])

/-- A fill frame (R147). -/
def State.fillFrame (s : State) (ch k : Nat) : Option Frame :=
  let c := s.chan ch
  match s.txMap ch 0 with
  | some m =>
    if c.filling ∧ 0 < c.liTxLeft ∧ s.chState ch = chLive ∧ s.flag .CHN_CODE_STATUS_li_tx_on ch = true
        ∧ s.grid.committed.any (fun f => f.ch == ch && f.kind == .fill) = false then
      some (s.dataFrame ch k 0 0 (s.partner ch) .fill (0, some m) true (min 64 c.liTxLeft) false false false 0xFFFFFFFF [])
    else none
  | none => none

/-- The PROTECT window a slot lies in is the station's own on the channel (R234). -/
def State.ownWindow (s : State) (ch k : Nat) : Bool := (s.windowAt ch k).any (fun w => w.owner == s.ownAddr ch)

/-- The gasp message (R493). -/
def State.gaspMessage (s : State) : List Byte :=
  [byte 0xD1, 1, byte (if s.rst.byKeep then 2 else 1), 0, 0, 0, 0, 0]
    ++ be 8 (s.fld .SEC_FUSE_ID_fuse_id 0 + 2 ^ 32 * s.fld .SEC_FUSE_ID_fuse_id 1)

/-- A channel of the gasp set (R492). -/
def State.inGaspSet (s : State) (ch : Nat) : Bool := bit (s.fld .PWR_GASP_CHAN_chans (ch / 32)) (ch % 32)

/-- The frame of the gasp message in one of the first two PROTECT windows the station owns on a channel (R493). -/
def State.gaspFrame (s : State) (ch k : Nat) : Option (Frame × State) :=
  let ep := s.fld .PWR_GASP_CFG_gasp_ep 0
  let n := tget 0 ch s.rst.gaspSent
  if s.rst.pwr ≠ .gasp ∨ ep = 0 ∨ s.inGaspSet ch = false ∨ 2 ≤ n ∨ tget 0 (ch + 256) s.rst.gaspSent = 1 then none
  else
    let mode := s.sendMode ch 3 false
    let (v, s) := s.drawFree
    let payload := segBytes ep (v % 4096) 3 s.gaspMessage
    let f := s.dataFrame ch k 3 3 0xFFFF .data mode false (s.symsFor ch mode false payload.length) false false false 0 payload
    some (f, { s with rst := { s.rst with gaspSent := tset (ch + 256) 1 (tset ch (n + 1) s.rst.gaspSent) } })

/-- A frame that fits its window from its slot (R245). -/
def State.fitsAt (s : State) (f : Frame) : Bool :=
  decide (f.exchange ≤ s.runFrom f.ch f.slot f.fc.prio maxExchange) && decide (fcNSym f.fc ≤ 511)

/-- The head-of-line frame of a class on a channel for a slot (R65, R242), with the state it is built in; where none is ready, the
state with what waiting counts. Retransmissions lead, then SOUND and PTP in class 2, then floods and new segments by age, then
a fill frame. -/
def State.headFrame (s : State) (ch k prio : Nat) : Option Frame × State :=
  let fit (f : Option Frame) (s1 : State) : Option Frame × State := match f with
    | some f => if s.fitsAt f then (some f, s1) else (none, s)
    | none => (none, s)
  let lost := s.dlv.segs.any (fun g => g.state == .lost && s.segWaits ch k prio g)
  let seg := s.dlv.segs.find? (s.segWaits ch k prio)
  let copy := s.dlv.copies.find? (fun c => c.ch == ch && c.prio == prio && decide (0 < c.reps)
    && !s.grid.committed.any (fun f => f.kind == .flood && f.aux == c.mid))
  match (if prio = 3 then s.gaspFrame ch k else none) with
  | some (f, s1) => fit (some f) s1
  | none =>
    if lost then s.segFrame ch k prio
    else match (if prio = 2 then s.soundFrame ch k else none), (if prio = 2 then s.ptpFrameFor ch k else none) with
      | some f, _ => fit (some f) s
      | none, some (f, s1) => fit (some f) s1
      | none, none => match seg, copy with
        | some g, some c => if c.mid < g.mid then fit (s.floodFrame ch k prio) s else s.segFrame ch k prio
        | some _, none => s.segFrame ch k prio
        | none, some _ => fit (s.floodFrame ch k prio) s
        | none, none => if prio = 0 then fit (s.fillFrame ch k) s else (none, s)

/-- A class has something to send on a channel. -/
def State.classReady (s : State) (ch k prio : Nat) : Bool :=
  s.dlv.segs.any (s.segWaits ch k prio)
    || (s.floodFrame ch k prio).isSome
    || (prio == 2 && ((s.soundFrame ch k).isSome || s.tim.out.any (fun o => o.port == ch + 2)))
    || (prio == 0 && (s.fillFrame ch k).isSome)

/-- Charge a frame's airtime to its panel (R410, R411): none where the budget or the class's share is spent. -/
def State.chargeAir (s : State) (p cls n : Nat) : Option (List AirSrc × State) :=
  let own := s.fld .PNL_AIR_air_left p
  let item := s.pat.thimbles.find? (fun i => i.panel == p)
  let share := (item.map (fun i => i.classAir.getD cls 255)).getD 255
  let used := tget 0 (4 * p + cls) s.grid.classAir
  let bor := n - own
  if (share ≠ 255 ∧ ((item.map (·.air)).getD 0) * share ≤ 255 * used)
      ∨ (0 < bor ∧ ¬ (item.any (fun i => bit i.borrow 0) = true ∧ bor ≤ s.grid.airPool)) then none
  else
    let s := (s.setFld .PNL_AIR_air_left p (own - n)).setFld .PNL_AIR_air_borrowed p
      (min (2 ^ 14 - 1) (s.fld .PNL_AIR_air_borrowed p + bor))
    some (List.replicate (min n own) .own ++ List.replicate bor .borrowed,
      { s with grid := { s.grid with airPool := s.grid.airPool - bor, classAir := tput 0 (4 * p + cls) (used + n) s.grid.classAir } })

/-- A panel had a frame refused for airtime: counted once in a Hem (R410). -/
def State.airRefused (s : State) (p : Nat) : State :=
  if s.grid.airWaited.contains p then s
  else ({ s with grid := { s.grid with airWaited := p :: s.grid.airWaited } }).bump .PNL_THIMBLE_CNT_air_wait p

/-- Carriers to which a frame gives energy (R250, R252). -/
def State.airSet (s : State) (f : Frame) : List Nat :=
  if f.kind = .prs then preambleSet (s.plan f.ch)
  else if f.len = 2 then s.fcCarriers f.ch else s.fcCarriers f.ch ++ s.payload f.ch

/-- Checks 3 to 5 of R242 and R290, in their order: the outcome's state with its counter, or the frame with its airtime. Only frames
that pay airtime are held for a listen window: a beacon is committed regardless (R290). -/
def State.checkFrame (s : State) (f : Frame) (built : State) (pays : Bool) : Option (Frame × State) × State :=
  let p := f.fc.prio
  if p < 3 ∧ pays = true ∧ s.dormHeld f.ch f.slot f.exchange = true then (none, s)
  else if s.clearFor f.ch f.slot f.exchange = false then (none, s)
  else if s.maskedFor f.ch (s.airSet f) p then (none, s.bump .CHN_SCHED_CNT_ledger_defer f.ch)
  else if p < 3 ∧ s.duplexHeld f.ch f.slot f.exchange = true then (none, s.bump .CHN_SCHED_CNT_dup_defer f.ch)
  else if p < 3 ∧ pays = true then match built.chargeAir f.panel p f.len with
    | none => (none, s.airRefused f.panel)
    | some (air, s1) => (some ({ f with air := air }, s1), s)
  else (some (f, built), s)

/-- The first frame committed under a GENERAL map turns the transmit interleaver on, which restarts its stream, or off (R144, R167). -/
def State.switchLi (s : State) (f : Frame) : State :=
  match f.map with
  | none => s
  | some m =>
    let on := s.liWish m
    if m.use ≠ 0 ∨ on = s.flag .CHN_CODE_STATUS_li_tx_on f.ch then s
    else (if on then s.restartLi f.ch true false else s).setFlag .CHN_CODE_STATUS_li_tx_on f.ch on

/-- A frame is committed (R36, R147, R244): it joins the committed frames and sets the link's next idle point. -/
def State.commitFrame (s : State) (f : Frame) : State :=
  let s := s.switchLi f
  let s := { s with grid := { s.grid with committed := s.grid.committed ++ [f] } }
  let data := f.liPos.isSome && f.kind != .fill
  s.updChan f.ch (fun c => { c with
    idleSlot := max c.idleSlot (s.idleAfter (s.slotTick (f.slot + f.len)) (decide (f.len < f.exchange)))
    filling := c.filling && !data, liIdleHems := if data then 0 else c.liIdleHems })

/-- Try a class of a channel for a slot (R242). -/
def State.tryClass (s : State) (ch k prio : Nat) : Bool × State :=
  match s.headFrame ch k prio with
  | (none, s) => (false, s)
  | (some f, built) => match s.checkFrame f built true with
    | (some (f, s1), _) => (true, s1.commitFrame f)
    | (none, s) => (false, s)

/-- Checks 1 to 5 of a class's head-of-line frame at a slot that is not its step (R242): what the first that fails counts. -/
def State.judgeClass (s : State) (ch k prio : Nat) : State :=
  match s.headFrame ch k prio with
  | (none, _) => s
  | (some f, built) => (s.checkFrame f built true).2

/-- Try the first of some classes that has something to send. -/
def State.tryFirst (s : State) (ch k : Nat) (l : List Nat) : State :=
  match l.find? (s.classReady ch k) with
  | some p => (s.tryClass ch k p).2
  | none => s

/-- The windows of a channel in the order a beacon numbers them (R236). -/
def State.bcnWindows (s : State) (ch : Nat) : List Window := (s.windowsOf ch).mergeSort (fun a b => decide (a.start ≤ b.start))

/-- The lock range's centre in sixteenths of a sample (R194, R195). -/
def State.lockCentre (s : State) : Int :=
  (16 * (64 * ((s.fld .OLA_SYNC_CFG_next_span 0 : Int) + 1) + 64 - (guardSamples s.grid.guard : Int))) / 2

/-- The adjustments a beacon may carry, the largest offsets first (R237): address and shift in Q4. -/
def State.bcnAdjust (s : State) (ch : Nat) : List (Nat × Int) :=
  let c := s.lockCentre
  let l := ((s.chan ch).peers.filter (fun p => decide (p.hem < 64))).map (fun p => (p.addr, c - signed 18 p.delta))
  (l.filter (fun (e : Nat × Int) => decide (32 < e.2.natAbs))).mergeSort (fun a b => decide (b.2.natAbs ≤ a.2.natAbs))

/-- The bytes of a beacon's window (R231, R236). -/
def windowBytes (w : Window) : List Byte := [byte w.typ, byte (b2n w.localPhase)] ++ be 2 w.start ++ be 2 w.stop ++ be 2 w.owner

/-- The beacon payload's length with `w` windows and `a` adjustments, CRC included. -/
def bcnBytes (w a : Nat) : Nat := (24 + 8 * w + 4 * a + 3) / 4 * 4 + 4

/-- A beacon from a slot (R235 to R237), with the number of the window the next one starts at; none where it does not fit. -/
def State.beacon (s : State) (ch k : Nat) : Option (Frame × Nat) :=
  let room := min 511 (s.runFrom ch k 2 maxExchange - 2)
  let ws := s.bcnWindows ch
  let total := ws.length
  let adj := s.bcnAdjust ch
  let first := (s.chan ch).bcnNext % max 1 total
  let ok (w a : Nat) : Bool := decide (s.symsFor ch (2, none) false (bcnBytes w a) ≤ room)
  let most (n : Nat) (p : Nat → Bool) : Option Nat := ((List.range (n + 1)).reverse).find? p
  if s.runFrom ch k 2 maxExchange < 3 then none
  else match most (min 8 (total - first)) (fun w => ok w 0) with
    | none => none
    | some w =>
      let a := (most (min 8 adj.length) (fun a => ok w a)).getD 0
      let now := s.hemSide (s.slotTick k)
      let fresh := min pMax (max pMin s.grid.pf)
      let body := [byte 1, byte total, byte first, byte w, byte a] ++ be 2 (s.fld .CHN_HEM_STATUS_theta ch) ++ [0] ++ be 8 k
        ++ be 4 (if now = 0 then s.grid.p else s.nextP) ++ be 4 (if now = 0 then s.nextP else fresh)
        ++ ((ws.drop first).take w).flatMap windowBytes ++ (adj.take a).flatMap (fun e => be 2 e.1 ++ be 2 (unsigned 16 e.2))
      let l := pad4 body
      let payload := l ++ crc32Bytes l
      let n := s.symsFor ch (2, none) false payload.length
      let src := s.srcInUse
      let fcBody := n * 2 ^ 43 + s.hemOf k % 256 * 2 ^ 35 + s.phaseOf (s.slotTick k) * 2 ^ 19 + s.grid.guard * 2 ^ 17
        + s.fld .OLA_SYNC_CFG_sync_period 0 * 2 ^ 13 + b2n (src == srcSupply || src == srcGauge) * 2 ^ 12
        + b2n (s.syncMember 1 ch) * 2 ^ 11
      some ({ ch := ch, slot := k, kind := .beacon
              fc := ⟨2, 0, 2, s.fld .CHN_CFG_link_id ch, s.ownAddr ch, 0xFFFF, fcBody⟩
              payload := payload, len := 2 + n, panel := (s.owner ch).getD 0, hem := s.hemOf k },
            (first + w) % max 1 total)

/-- Beacon commitment (R237): once in each BEACON window, from the first slot it fits. -/
def State.commitBeacon (s : State) (ch k : Nat) : State :=
  if (s.chan ch).bcnSent ∨ s.fld .CHN_STATUS_role ch ≠ 0 then s
  else match s.beacon ch k with
    | none => s
    | some (f, nxt) => match s.checkFrame f s false with
      | (some (f, s1), _) => (s1.commitFrame f).updChan ch (fun c => { c with bcnSent := true, bcnNext := nxt })
      | (none, s) => s

/-- The acknowledgement due at a slot is committed (R243, R267), where no masked segment would receive energy and R248 allows it
(R242, R252): one that is held back is not sent, since its slot is the only one it has. -/
def State.commitAck (s : State) (ch : Nat) (a : AckDue) : State :=
  let s := s.updChan ch (fun c => { c with acks := c.acks.erase a })
  let f : Frame := { ch := ch, slot := a.slot, kind := .ack, fc := a.fc, payload := [], len := 2, panel := (s.owner ch).getD 0
                     hem := s.hemOf a.slot }
  if s.chState ch = chQuiet ∨ s.maySend ch false = false then s
  else if s.maskedFor ch (s.airSet f) a.fc.prio then s.bump .CHN_SCHED_CNT_ledger_defer ch
  else if a.fc.prio < 3 ∧ s.duplexHeld ch a.slot 2 = true then s.bump .CHN_SCHED_CNT_dup_defer ch
  else { s with grid := { s.grid with committed := s.grid.committed ++ [f] } }

/-- A priority slot (R246, R247): the class that heads the channel enters the cycle with its backoff count and commits its PRS, but in
a sync slot of the channel, which stays free of it (R204; log 163). -/
def State.prioritySlot (s : State) (ch k : Nat) : State :=
  let quiet := (s.chan ch).noPrs
  let enter (cls : Nat) (s : State) : State := s.updChan ch (fun c => { c with cont := some ⟨k, cls, false⟩, noPrs := false })
  match [2, 1, 0].find? (s.classReady ch k) with
  | none => enter 3 s
  | some cls =>
    let probe : Frame := { ch := ch, slot := k, kind := .prs, fc := ⟨0, 0, cls, 0, 0, 0, 0⟩, payload := [], len := 1
                           panel := (s.owner ch).getD 0, hem := s.hemOf k, aux := 2 - cls }
    let masked := s.maskedFor ch (s.fcCarriers ch ++ s.payload ch) cls
    let s := if masked then s.bump .CHN_SCHED_CNT_ledger_defer ch else s
    if masked then enter 3 s
    else match s.checkFrame probe s true with
      | (none, s) => enter 3 s
      | (some _, _) =>
        let s := if ((s.chan ch).bc.getD cls none).isNone then s.drawBc ch cls else s
        let s := enter cls s
        if cls = 0 ∨ quiet = true ∨ s.syncSlotOf ch k = true then s
        else { s with grid := { s.grid with committed := s.grid.committed ++ [probe] } }

/-- A contention cycle at a slot (R242, R246, R247): its priority slot, the step of the count held, or a slot in which the frame
that heads the channel waits for its step. -/
def State.contend (s : State) (ch k : Nat) : State :=
  let c := s.chan ch
  let wait (s : State) : State := match [2, 1, 0].find? (s.classReady ch k) with
    | none => s
    | some cls => s.judgeClass ch k cls
  match c.cont with
  | none => if k < c.idleSlot then wait s else s.prioritySlot ch k
  | some x => match c.bc.getD x.cls none with
    | none => wait s
    | some b =>
      if x.cls = 3 ∨ x.withdrawn = true ∨ 7 < b ∨ k ≠ x.prio + 5 + 4 * b then wait s
      else match s.tryClass ch k x.cls with
        | (true, s) => s.updChan ch (fun c => { c with cont := none })
        | (false, s) => s.updChan ch (fun c => { c with cont := some { x with withdrawn := true } })

/-- The commitments of one channel to a slot (R234, R242). -/
def State.commitChan (s : State) (ch k : Nat) : State :=
  let due := (s.chan ch).acks.filter (fun a => a.slot == k)
  let s := due.foldl (fun s a => s.commitAck ch a) s
  let t := s.winType ch k
  let s := if s.windowAt ch (k - 1) ≠ s.windowAt ch k ∧ (s.chan ch).bcnSent = true then
      s.updChan ch (fun c => { c with bcnSent := false }) else s
  let s := if (t ≠ wtProtect ∨ s.ownWindow ch k = false) ∧ tget 0 (ch + 256) s.rst.gaspSent = 1 then
      { s with rst := { s.rst with gaspSent := tdel (ch + 256) s.rst.gaspSent } } else s
  if t = wtBeacon then (if s.maySend ch true && s.rst.pwr != .gasp then s.commitBeacon ch k else s)
  else if s.maySend ch false = false then s
  else if t = wtProtect then (if s.ownWindow ch k && ((s.gaspFrame ch k).isSome || s.classReady ch k 3) then (s.tryClass ch k 3).2 else s)
  else if s.rst.pwr = .gasp ∨ t = wtQuiet then s
  else if t = wtReserved then (if s.ownWindow ch k then s.tryFirst ch k [2, 1, 0] else s)
  else s.contend ch k

/-- TRANSMIT_COMMIT: the commit point of a slot (R36, R242). -/
def execTransmitCommit (s : State) : Host.Outcome State Fault Refusal :=
  .next (
    if !s.grid.running then s
    else
      let k := s.commitSlot
      (List.range 192).foldl (fun (s : State) ch => if (s.chanItem ch).isSome then s.commitChan ch k else s) s)

/-- CONTENTION_CYCLE_END: P + 37 came without a frame (R246, R247): a surviving count loses 8, down to 0. -/
def execContentionCycleEnd (ch : Nat) (s : State) : Host.Outcome State Fault Refusal :=
  .next (
    match (s.chan ch).cont with
    | none => s
    | some c =>
      let s := match (s.chan ch).bc.getD c.cls none with
        | some b => if c.cls < 3 ∧ c.withdrawn = false then s.setBc ch c.cls (some (b - 8)) else s
        | none => s
      s.updChan ch (fun x => { x with cont := none, idleSlot := max x.idleSlot (c.prio + 37) }))

/-- LI_IDLE_FILL: `li_idle` Hems without an interleaved DATA frame while real cells wait in the line (R147). -/
def execLiIdleFill (ch : Nat) (s : State) : Host.Outcome State Fault Refusal :=
  .next (
    let c := s.chan ch
    if s.flag .CHN_CODE_STATUS_li_tx_on ch = true ∧ 0 < c.liTxLeft ∧ s.fld .CHN_CODE_CFG_li_idle ch ≤ c.liIdleHems then
      s.updChan ch (fun c => { c with filling := true }) else s)

/-- Charge a launched slot of a channel to its ledgers (R250): carriers with energy in the slot. -/
def State.chargeSlot (s : State) (ch k : Nat) : State :=
  let energised : Option (List Nat) :=
    if s.toneIn ch k then some ((s.drm.tones.filter (fun t => t.ch == ch && s.toneOn t k)).map (fun t => toneCarrier t.carrier))
    else match s.airAt ch k with
      | none => none
      | some a => some (if a.kind = .prs ∨ (a.kind ≠ .sync ∧ k = a.slot) then preambleSet (s.plan ch)
          else (((s.airCells ch k).getD []).filter (fun e => e.2.1 != (0, 0))).map (·.1))
  match energised with
  | none => s
  | some l =>
    (s.ledgersOf ch).foldl (fun (s : State) g =>
      let key := 16 * ch + g.segment
      let b := tget {} key s.grid.ledgers
      let n := countIn l g.first g.last
      let b' : LedgerSt := { b with buckets := (b.buckets.headD 0 + n) :: b.buckets.drop 1 }
      { s with grid := { s.grid with ledgers := tput {} key b' s.grid.ledgers } }) s

/-- Ticks of a channel's ramp-down tail (R113). -/
def State.tailTicks (s : State) (ch : Nat) : Nat := min ((s.fld .CHN_CFG_ramp_us ch + 1) * 200) (guardSamples s.grid.guard)

/-- What a launch does to the segments of a frame with `ack_req` 0 (R265), and to a flood copy (R276). -/
def State.launchSegs (s : State) (f : Frame) : State :=
  if f.kind = .flood then
    let left := (s.dlv.copies.find? (fun c => c.mid == f.aux)).map (fun c => c.reps - 1)
    match left with
    | none => s
    | some 0 =>
      let back := s.dlv.txMsgs.filter (fun m => m.mid == f.aux)
      let s := back.foldl (fun s m => s.giveDesc m.pool) s
      { s with dlv := { s.dlv with
          copies := s.dlv.copies.filter (fun c => c.mid != f.aux), txMsgs := s.dlv.txMsgs.filter (fun m => m.mid != f.aux) } }
    | some n => { s with dlv := { s.dlv with copies := s.dlv.copies.map (fun c => if c.mid = f.aux then { c with reps := n } else c) } }
  else if f.len < f.exchange then s.updChan f.ch (fun c => { c with await := c.await ++ [f] })
  else
    let mine (g : Seg) : Bool := !g.ackReq && g.seq.any (fun q => f.mids.contains (g.mid, q))
    ({ s with dlv := { s.dlv with segs := s.dlv.segs.filter (fun g => !mine g) } }).sweepTx

/-- A committed frame launches (R36, R37, R108, R112, R247, R250, R347). -/
def State.launch (s : State) (f : Frame) : State :=
  let may := s.maySend f.ch (f.kind == .beacon || f.kind == .wakeReply)
  if !may then s.discardFrame f
  else
    let s := if (s.chan f.ch).det = .armed then s else (s.resetRx f.ch).bump .CHN_RX_ABORT_CNT_preempt f.ch
    let s := { s with grid := { s.grid with committed := s.grid.committed.erase f } }
    let f := { f with liPos := f.liPos.map (fun _ => (s.chan f.ch).liTxLeft) }
    let s := { s with grid := { s.grid with launched := s.grid.launched ++ [f] } }
    let (a, s) : AirFrame × State :=
      if f.kind = .prs then
        ({ ch := f.ch, slot := f.slot, kind := .prs, half := f.aux, ramp := s.fld .CHN_CFG_ramp_us f.ch
           level := s.effFld .CHN_TX_LEVEL_tx_atten f.ch }, s)
      else s.buildAir f
    let s := { s with grid := { s.grid with onAir := s.grid.onAir ++ [a] } }
    let t := s.slotTick f.slot + (if f.kind = .prs then f.aux * (s.ls / 2) else 0)
    let stop := if f.kind = .prs then t + 4224 else s.slotTick (f.slot + f.len) + s.tailTicks f.ch
    let s := (s.addRamp f.ch t stop).chargeSlot f.ch f.slot
    if f.kind = .prs then s
    else
      let s := if f.kind = .sound then s.updChan f.ch (fun c => { c with soundOwe := none }) else s
      let s := if f.kind = .ack then s.tmSent f.ch f.slot else s
      let s := s.launchSegs f
      if f.len = f.exchange ∧ (f.kind = .data ∨ f.kind = .flood ∨ f.kind = .ptp ∨ f.kind = .sound ∨ f.kind = .fill) then
        s.exchangeOk f.ch f.fc.prio false
      else s

/-- FRAME_LAUNCH: the slot a channel's frame is committed to begins (R36); its samples and ramp codes go to the head (R338). -/
def execFrameLaunch (ch : Nat) (s : State) : Host.Outcome State Fault Refusal :=
  .next (((s.grid.committed.filter (fun f => f.ch == ch && f.slot == s.grid.slot)).foldl (fun s f => s.launch f) s).fillDown (headOf ch))

/-- ACK_SEND: the acknowledgement a channel owes is committed to its slot (R243, R267), and launched where that slot runs. -/
def execAckSend (ch : Nat) (s : State) : Host.Outcome State Fault Refusal :=
  .next (
    let s := match (s.chan ch).acks with
      | a :: _ => if s.grid.slot ≤ a.slot then s.commitAck ch a else s.updChan ch (fun c => { c with acks := c.acks.erase a })
      | [] => s
    ((s.grid.committed.filter (fun f => f.ch == ch && f.kind == .ack && f.slot == s.grid.slot)).foldl (fun s f => s.launch f) s).fillDown
      (headOf ch))

end Sys2Proof.Machine
end

