-- ==== Sys2Proof/Machine/Grid.lean ====
section
/-! DEFINITION. The grid and the Hem (R29, R31, R33, R58, R115, R194, R201 to R204, R222 to R229, R241, R250, R251, R397, R410 to R412,
R548, R549): what a slot boundary and a Hem boundary do. -/

namespace Sys2Proof.Machine

/-- A pair changes state at a slot boundary, where the state it leaves allows it (R212), and the pair is one of the class (R189). -/
def State.changePair (s : State) (cls vi slot : Nat) (dest : PairSt) : State :=
  let st := (s.pair cls vi slot).st
  let used := match (s.olaVictims cls)[vi]? with
    | none => false
    | some v => decide (slot < (s.olaSlots cls v).length) && (slot == 0 || cls != 0 || s.inForce 0)
  if dest = .empty ∨ (used = true ∧ ((dest = .learn ∧ st = .empty) ∨ (dest = .active ∧ (st = .learn ∨ st = .held)))) then
    s.setPair cls vi slot dest
  else s

/-- One requested change takes effect (R31). -/
def State.applyChange (s : State) (c : SlotChange) : State :=
  match c with
  | .state ch st cause => s.applyState ch st cause
  | .coupling ch mode => s.sendCoupling ch mode
  | .coupled ch ok => if ok then s.couplingOn ch else s
  | .olaFence => s.olaStop
  | .pair cls vi slot dest => s.changePair cls vi slot dest
  | .decUnits pool unit => s.fenceUnit pool unit
  | .decBack pool unit => s.unfenceUnit pool unit
  | .offer b => s.dropFeature b
  | .arm ch => s.armChannel ch

/-- The change takes a pair to EMPTY: it is applied last (R213). -/
def SlotChange.empties (c : SlotChange) : Bool :=
  match c with
  | .pair _ _ _ .empty => true
  | _ => false

/-- The changes requested are applied. -/
def State.applyChanges (s : State) : State :=
  let l := s.grid.changes
  let s := { s with grid := { s.grid with changes := [], late := [] } }
  (l.filter (fun c => !c.empties) ++ l.filter SlotChange.empties).foldl (fun (s : State) c => s.applyChange c) s

/-- Transmissions that are over leave the books, each a ramp that was not refused (R115), the segments it sent again counted (R264)
and a reply taking effect (R288); a frame whose slot passed without a launch is discarded (R37). -/
def State.passSlots (s : State) : State :=
  let n := s.grid.slot
  let g := s.grid
  let s := (g.launched.filter (fun f => decide (f.slot + f.len ≤ n))).foldl (fun (s : State) f =>
    let s := (s.updChan f.ch (fun c => { c with rampRefusals := 0 })).bumpN .DLV_TX_CNT_retx 0 (f.mids.length - f.firsts.length)
    if f.kind = .wakeReply then s.replySent f else s) s
  let s := { s with grid := { g with
    launched := g.launched.filter (fun f => decide (n < f.slot + f.len))
    onAir := g.onAir.filter (fun a => decide (n ≤ a.slot + a.slots)) } }
  (s.grid.committed.filter (fun f => decide (f.slot < n))).foldl (fun (s : State) f => s.discardFrame f) s

/-- In a downstream sync slot every sync member sends its sync symbol, but one with a frame in the slot (R202 to R204). -/
def State.sendSync (s : State) : State :=
  let n := s.grid.slot
  if !s.isDnSync n then s
  else ((List.range 192).filter (s.syncMember 2)).foldl (fun (s : State) ch =>
    let busy := s.txAt ch n || s.grid.committed.any (fun f => f.ch == ch && decide (f.slot ≤ n) && decide (n < f.slot + f.len))
    if busy || !s.laneAligned (headOf ch) then s
    else
      let a : AirFrame := { ch := ch, slot := n, kind := .sync, cells := [s.syncSymbol ch (s.syncIndex n)]
                            level := s.effFld .CHN_TX_LEVEL_tx_atten ch }
      (({ s with grid := { s.grid with onAir := s.grid.onAir ++ [a] } }).noteSync ch).addRamp ch (s.slotTick n) (s.slotTick (n + 1) + 64)) s

/-- Slots of a ledger's bucket (R251). -/
def bucketSlots (ls windowS : Nat) : Nat := ceilDiv (windowS * 200000000) (64 * ls)

/-- U and C of a segment (R251). -/
def State.ledgerUse (s : State) (l : Ledger) : Nat × Nat :=
  ((tget {} (16 * l.channel + l.segment) s.grid.ledgers).buckets.foldl (· + ·) 0,
    (l.last + 1 - l.first) * 64 * bucketSlots s.ls l.windowS)

/-- A ledger at a slot boundary: its bucket turns over, and its segment is masked or unmasked (R251). -/
def State.ledgerSlot (s : State) (l : Ledger) : State :=
  let key := 16 * l.channel + l.segment
  let b := tget {} key s.grid.ledgers
  let now := s.grid.slot / bucketSlots s.ls l.windowS
  let b' : LedgerSt := if now = b.bucket then b
    else { buckets := (List.replicate (min 65 (now - b.bucket)) 0 ++ b.buckets).take 65, bucket := now }
  let s := { s with grid := { s.grid with ledgers := tput {} key b' s.grid.ledgers } }
  let (u, c) := s.ledgerUse l
  let m := s.fld .CHN_LEDGER_STATUS_masked l.channel
  let set (on : Bool) : State := (s.setFld .CHN_LEDGER_STATUS_masked l.channel (setBit m l.segment on)).log 0x2803
    (s.evOwner l.channel) l.channel (l.segment + 256 * b2n on)
  if bit m l.segment = false ∧ l.limit * c ≤ 1000 * u then set true
  else if bit m l.segment = true ∧ 1000 * u < l.reenable * c then set false
  else s

/-- The slots of transmissions under way are charged (R250); a frame's first slot is charged at its launch. -/
def State.chargeSlots (s : State) : State :=
  let n := s.grid.slot
  let on := ((s.grid.onAir.filter (fun a => a.kind == .sync || decide (a.slot < n))).map (·.ch)
    ++ s.drm.tones.map (·.ch)).dedup
  on.foldl (fun (s : State) ch => if s.txAt ch n then s.chargeSlot ch n else s) s

/-- A slot in which the detector was idle: F follows its energy (R101), shown once 64 such slots have passed (R106). -/
def State.idleSlot (s : State) (ch : Nat) : State :=
  let c := s.chan ch
  let k := s.grid.slot - 1
  if s.listens ch = false ∨ c.det ≠ .armed ∨ s.deaf ch k = true then s
  else match c.rx.span (s.slotTick k) s.ls with
    | none => s
    | some l =>
      let f := floorStep c.floor (((256 * energy l : Nat) : Rat) / ((s.ls : Nat) : Rat))
      let n := min 64 (c.idleSlots + 1)
      let s := s.setChan ch { c with idleSlots := n, floor := some f }
      if n < 64 then s else (s.setFld .CHN_RSSI_noise_floor ch (rssiOf f 256)).setFlag .CHN_RSSI_nf_valid ch true

/-- A MEMBER follows its BEACON windows (R240, R241): a window is judged once a beacon sent in it could have been decoded. -/
def State.watchBeacons (s : State) (ch : Nat) : State :=
  let n := s.grid.slot
  let c := s.chan ch
  let here := (s.windowAt ch n).filter (fun w => w.typ == wtBeacon)
  let c := if c.bcnIn.isSome ∧ c.bcnIn ≠ here then { c with bcnIn := here, bcnEval := some (n + 5) } else { c with bcnIn := here }
  let s := s.setChan ch c
  match c.bcnEval with
  | none => s
  | some m =>
    if n < m then s
    else if c.bcnGot then s.setChan ch { c with bcnEval := none, bcnGot := false }
    else
      let missed := c.bcnMissed + 1
      let s := s.setChan ch { c with bcnEval := none, bcnCount := 0, bcnMissed := missed
                                     bcnLost := if missed = 4 then some s.grid.hem else c.bcnLost }
      (s.bump .CHN_SCHED_CNT_bcn_miss ch).setFlag .CHN_HEM_STATUS_bcn_ok ch
        (decide (missed < 4) && s.flag .CHN_HEM_STATUS_bcn_ok ch)

/-- e of R227 for the Hem in force: the crossing of the source in use nearest to B; none without a measured crossing. -/
def State.phaseErr (s : State) : Option Int :=
  let src := s.srcInUse
  let zs := if src = srcSupply then s.grid.supplyZ else if src = srcGauge then s.grid.gaugeZ else []
  let es := zs.map (fun (z : Nat) => (z : Int) - (s.grid.b : Int))
  es.foldl (fun (m : Option Int) e => match m with
    | none => some e
    | some x => if e.natAbs < x.natAbs then some e else m) none

/-- The length of the next Hem and its window maps are fixed (R227, R228). -/
def State.fixHem (s : State) : State :=
  let e := s.phaseErr
  let sl : Int := (s.fld .HEM_REF_CFG_slew 0 : Nat)
  let p := clampInt (pMin : Nat) (pMax : Nat) ((s.grid.pf : Int) + clampInt (-sl) sl (roundDiv (e.getD 0) 4))
  let s := { s with grid := { s.grid with nxt := some p.toNat } }
  let s := (s.pat.chans.map (·.channel)).foldl (fun (s : State) ch =>
    s.updChan ch (fun c => { c with nextMap := some (s.liveMap ch) })) s
  match e with
  | some e => (s.setFld .HEM_PHASE_ERR_err 0 (unsigned 24 e)).setFlag .HEM_PHASE_ERR_err_valid 0 true
  | none => s.setFlag .HEM_PHASE_ERR_err_valid 0 false

/-- HEM_MAP_FIX: at the first slot start at or after the middle of a Hem the next one's length and map are final (R228). -/
def execHemMapFix (s : State) : Host.Outcome State Fault Refusal :=
  .next (if s.grid.running && s.grid.nxt.isNone && decide (2 * s.grid.b + s.grid.p ≤ 2 * s.slotTick s.grid.slot) then s.fixHem else s)

/-- The source in use is chosen (R225): the first choice is not a change. -/
def State.chooseSource (s : State) : State :=
  let sup := s.flag .HEM_STATUS_supply_valid 0
  let gau := s.flag .HEM_STATUS_gauge_valid 0
  let src := match s.fld .HEM_REF_CFG_ref_src 0 with
    | 0 => if sup then srcSupply else if gau then srcGauge else srcHold
    | 1 => if sup then srcSupply else srcHold
    | 2 => if gau then srcGauge else srcHold
    | _ => srcFree
  let old := s.srcInUse
  let first := !s.grid.srcChosen
  let s := ({ s with grid := { s.grid with srcChosen := true } }).setFld .HEM_STATUS_src_state 0 src
  if first ∨ src = old then s else (s.bump .HEM_SRC_CNT_src_switch 0).log 0x2801 noPanel noInst src

/-- Airtime of a Hem (R410). -/
def State.refillAir (s : State) : State :=
  let s := { s with grid := { s.grid with airPool := s.pat.thimble.airPool, classAir := [], airWaited := [] } }
  (List.range 16).foldl (fun (s : State) p =>
    let n := ((s.pat.thimbles.find? (fun i => i.panel == p)).map (·.air)).getD 0
    (s.setFld .PNL_AIR_air_left p n).setFld .PNL_AIR_air_borrowed p 0) s

/-- A channel in OFF enters its initial state at the first Hem boundary after lane alignment (R115), and at no later one. -/
def State.startChannel (s : State) (ch : Nat) : State :=
  match s.chanItem ch with
  | none => s
  | some i =>
    if (s.chan ch).autoStart = false ∨ s.mayStart ch = false ∨ s.sec.tamperOff = true
        ∨ s.fld .PAT_STATUS_loader_state 0 = 4 then s
    else if s.chState ch ≠ chOff then s.updChan ch (fun c => { c with autoStart := false })
    else (s.applyState ch (if i.initial = 4 then chQuiet else chArmed) 0).updChan ch (fun c => { c with autoStart := false })

/-- Counts of Hems of a channel. -/
def State.hemChan (s : State) (ch : Nat) : State :=
  let st := s.chState ch
  let on (b : Bool) (n : Nat) : Nat := if b then n + 1 else n
  let s := s.updChan ch (fun c => { c with
    quietHems := on (st == chQuiet) c.quietHems
    trainHems := on (st == chTraining) c.trainHems
    rxHems := on (st == chLive) c.rxHems
    mapHems := c.mapHems + 1
    soundHems := c.soundHems + 1
    soundOut := c.soundOut.map (· + 1)
    liIdleHems := on (s.flag .CHN_CODE_STATUS_li_tx_on ch) c.liIdleHems
    lockHems := c.lockHems + 1
    retire := c.retire.map (fun (e : Nat × Nat) => (e.1, e.2 - 1))
    peers := c.peers.map (fun p => { p with hem := p.hem + 1 }) })
  let s := if 64 ≤ (s.chan ch).lockHems ∧ s.flag .CHN_OLA_LOCK_lock_valid ch = true then
      (s.setFlag .CHN_OLA_LOCK_lock_valid ch false).setFlag .CHN_OLA_LOCK_locked ch false else s
  (s.serveMaps ch).feederCheck ch

/-- The record of a quantity that did not balance (R549). -/
def State.leak (s : State) (code : Nat) (corr : Int) : State :=
  if corr = 0 then s
  else (s.bump .DLV_MISC_CNT_leak 0).log 0x2C03 noPanel noInst (code + 2 ^ 32 * unsigned 32 corr)

/-- Descriptors held, by what they were taken from (R269). -/
def State.heldPools (s : State) : List Pool :=
  s.dlv.txMsgs.map (·.pool) ++ s.dlv.rxFlows.flatMap (fun f => f.pools.map (·.2)) ++ s.dlv.done.filterMap (·.pool)

/-- The descriptors of the device (R269, R548). -/
def State.descTotal (s : State) : Nat := if s.narrow then 16384 else 262144

/-- The descriptors of each panel's quota. -/
def State.quotas (s : State) : List (Nat × Nat) :=
  (s.pat.dlv.quotas.zipIdx.map (fun (e : Nat × Nat) => (e.2, e.1))).filter (fun (e : Nat × Nat) => e.2 != 0xFFFFFFFF)

/-- The books of descriptors and in-flight slots (R280, R549): free counts follow the records held. -/
def State.checkPools (s : State) : State :=
  let held := s.heldPools
  let n (p : Pool) : Nat := (held.filter (· == p)).length
  let d := s.dlv
  let qs := s.quotas
  let prot := s.pat.dlv.protDesc - n .reserve
  let shared := s.descTotal - s.pat.dlv.protDesc - (qs.map (·.2)).foldl (· + ·) 0 - n .shared
  let q (e : Nat × Nat) : Nat := e.2 - n (.quota e.1)
  let corr : Int := ((prot + shared + (qs.map q).foldl (· + ·) 0 : Nat) : Int)
    - ((d.descProt + d.descShared + (qs.map (fun e => tget 0 e.1 d.quotaFree)).foldl (· + ·) 0 : Nat) : Int)
  let inUse (p : Pool) : Nat := (d.segs.filter (fun g => g.slotOf == some p)).length
  let ifProt := s.pat.dlv.protInflight - inUse .reserve
  let ifShared := 4096 - s.pat.dlv.protInflight - inUse .shared
  let corr2 : Int := ((ifProt + ifShared : Nat) : Int) - ((d.ifProt + d.ifShared : Nat) : Int)
  let s := if corr = 0 then s
    else { s with dlv := { s.dlv with descProt := prot, descShared := shared
                                      quotaFree := qs.foldl (fun t e => tput 0 e.1 (q e) t) [] } }
  let s := if corr2 = 0 then s else { s with dlv := { s.dlv with ifProt := ifProt, ifShared := ifShared } }
  (s.leak 1 corr).leak 2 corr2

/-- The books of credits and airtime (R412, R549). -/
def State.checkBudgets (s : State) : State :=
  s.pat.thimbles.foldl (fun (s : State) t =>
    let s := (List.range 8).foldl (fun (s : State) q =>
      let free := t.credits.getD q 0 - (s.host.queues.filter (fun m => m.panel == t.panel && m.cls == q && m.prio != 3)).length
      let corr : Int := (free : Int) - (s.credit t.panel q : Int)
      if corr = 0 then s else (s.setCredit t.panel q free).leak 3 corr) s
    let used := ((List.range 3).map (fun c => tget 0 (4 * t.panel + c) s.grid.classAir)).foldl (· + ·) 0
    s.leak 4 (((t.air + s.fld .PNL_AIR_air_borrowed t.panel : Nat) : Int) - ((used + s.fld .PNL_AIR_air_left t.panel : Nat) : Int))) s

/-- During APPLYING every channel goes to OFF and committed frames are discarded (R58). -/
def State.offForApply (s : State) : State :=
  if s.fld .PAT_STATUS_loader_state 0 ≠ 4 then s
  else
    let s := (List.range 192).foldl (fun (s : State) ch => s.applyState ch chOff 0) s
    s.grid.committed.foldl (fun (s : State) f => s.discardFrame f) s

/-- Counts of the Hem that begins (R222): its number, bounds and length, what is counted in Hems, and the window maps fixed for it. -/
def State.nextHem (s : State) : State :=
  let s := if s.grid.nxt.isNone then s.fixHem else s
  let g := s.grid
  let p := s.nextP
  let s := { s with grid := { g with hem := g.hem + 1, b := g.b + g.p, p := p, prevP := g.p, nxt := none, hemDue := true }
                    tick := max s.tick (g.b + g.p) }
  let s := (s.setFld .HEM_STATUS_hem_seq 0 s.grid.hem).setFld .HEM_PERIOD_p_cur 0 p
  let pairs : Tbl Pair := s.ola.pairs.map (fun (e : Nat × Pair) =>
    if e.2.st = PairSt.held then (e.1, { e.2 with hold := e.2.hold + 1 }) else e)
  let done := s.dlv.done.map (fun m => { m with hems := m.hems + 1 })
  let s : State := { s with
    hbm := { s.hbm with ueHem := 0 }
    dlv := { s.dlv with done := done }
    ola := { s.ola with pairs := pairs } }
  (s.pat.chans.map (fun (i : ChanItem) => i.channel)).foldl (fun (s : State) ch =>
    (s.hemChan ch).updChan ch (fun c => { c with map := c.nextMap, nextMap := none })) s

/-- What changes at a Hem boundary takes effect with the first slot of the Hem (R33): the reference in use, airtime, channels that
start, hand-overs and credits. -/
def State.startHem (s : State) : State :=
  let s := { s with grid := { s.grid with hemDue := false } }
  let s := s.chooseSource.offForApply.refillAir
  let s := (s.pat.chans.map (fun (i : ChanItem) => i.channel)).foldl (fun (s : State) ch => s.startChannel ch) s
  s.handDuplex.creditReport

/-- The Hem's first slot has begun: a slot start at or after B (R33). -/
def State.hemDueNow (s : State) : Bool := s.grid.hemDue && decide (s.grid.b ≤ s.slotTick s.grid.slot)

/-- HEM_BOUNDARY (R33, R222): a new Hem begins; where a slot starts with it, that is its first. -/
def execHemBoundary (s : State) : Host.Outcome State Fault Refusal :=
  .next (
    if !s.grid.running then s
    else
      let s := (s.checkPools.checkBudgets).nextHem
      if s.hemDueNow then s.startHem else s)

/-- What a slot boundary does for a channel with an item. -/
def State.slotChan (s : State) (ch : Nat) : State :=
  let s := s.idleSlot ch
  let s := s.setFld .CHN_HEM_STATUS_win_type ch (s.winType ch s.grid.slot)
  if s.fld .CHN_STATUS_role ch = 1 ∧ s.chState ch ≠ chOff then s.watchBeacons ch else s

/-- Symbols with a cell limited under R200 are counted. -/
def State.countClips (s : State) (k : Nat) : State :=
  (List.range 192).foldl (fun (s : State) ch => if s.clips ch k then s.bump .CHN_OLA_CNT_prec_clipped ch else s) s

/-- Cast's samples of a lost lane's slot (R26). -/
def State.castSlot (s : State) (k : Nat) : State := s.castLostSlot (s.slotTick k) s.ls

/-- GRID_SLOT_BOUNDARY (R29, R31): the slot that ran ends and the next begins. -/
def execGridSlotBoundary (s : State) : Host.Outcome State Fault Refusal :=
  .next (
    if !s.grid.running then s
    else
      let k := s.grid.slot
      let s := ((s.keepTails k).endSymbols k).countClips k
      let s := { s with grid := { s.grid with slot := k + 1 }, tick := max s.tick (s.slotTick (k + 1)) }
      let s := if s.hemDueNow then s.startHem else s
      let s := (s.applyChanges.bobSlot.serveDev.olaSlot.passSlots).drmSlot
      let s := s.pat.ledgers.foldl (fun (s : State) l => s.ledgerSlot l) s
      let s := s.sendSync.chargeSlots
      let (more, s) := (s.castSlot k).memSlot (s.fld .HBM_SCRUB_CFG_scrub_cap 0 * 4096)
      let (used, s) := s.snapSlot
      let s := (s.scrubSlot used more).grantDecoders
      ((s.pat.chans.map (·.channel)).foldl (fun (s : State) ch => s.slotChan ch) s).sendSlot)

end Sys2Proof.Machine
end

