-- ==== Sys2Proof/Machine/RegIf.lean ====
section
/-! DEFINITION. The register interface (R12 to R21, R70 to R74, R81, R406, R522, R523, R529, R532, R535): reads and writes of
register words, whoever asks for them. -/

namespace Sys2Proof.Machine

/-- The instance of a field whose word an address is. -/
def FldInfo.instAt (r : FldInfo) (a : Nat) : Option Nat :=
  if a < r.base then none
  else
    let o := a - r.base
    let i := o / r.stride
    let q := o % r.stride
    if r.n ≤ i then none
    else if r.sub ≤ 1 then (if q = 0 then some i else none)
    else if q % r.sstride = 0 ∧ q / r.sstride < r.sub then some (i * r.sub + q / r.sstride) else none

/-- The fields of a word, with their instances. -/
def fldsAt (a : Nat) : List (Fld × Nat) :=
  match blkOf a with
  | none => []
  | some b => (blkFlds b).filterMap (fun F => (F.info.instAt a).map (fun i => (F, i)))

/-- A span of addresses holds one. -/
def spanHas (base n stride i a : Nat) : Bool := decide (i < n) && decide (base + i * stride ≤ a) && decide (a < base + (i + 1) * stride)

/-- A panel's alias window (R406). -/
def State.inAlias (s : State) (p a : Nat) : Bool :=
  p == 0 || decide (a < 0x1000) || spanHas 0x3E0000 16 0x1000 p a
    || (decide (0x180000 ≤ a) && spanHas 0x180000 192 0x400 ((a - 0x180000) / 0x400) a
        && s.owner ((a - 0x180000) / 0x400) == some p)
    || (decide (0x400000 ≤ a) && spanHas 0x400000 8 0x100 ((a - 0x400000) / 0x100) a
        && (s.panelItem p).any (fun i => bit i.ser ((a - 0x400000) / 0x100)))

/-- The oldest live entry of the event ring, where there is one (R532). -/
def State.evOldest (s : State) : Nat := (s.evHead + 8192 - s.mgmt.live) % 8192

/-- The live entries from an index to the newest, oldest first. -/
def State.evFrom (s : State) (rd : Nat) : List (Nat × Ev) :=
  let n := min s.mgmt.live ((s.evHead + 8192 - rd) % 8192)
  (List.range n).filterMap (fun k =>
    let i := (s.evHead + 8192 - n + k) % 8192
    (tfind i s.mgmt.ring).map (fun e => (i, e)))

/-- A panel's unread entries at or above its `sev_min`. -/
def State.evPending (s : State) (p : Nat) : Nat :=
  ((s.evFrom (s.fld .EVT_PNL_RD_rd p)).filter (fun e => evFor p e.2 && decide (s.fld .EVT_PNL_CFG_sev_min p ≤ e.2.sev))).length

/-- The 24 bytes of an entry (R529). -/
def evBytes (e : Ev) : List Byte :=
  le 2 e.code ++ [byte e.sev, byte e.panel] ++ le 2 e.inst ++ le 2 e.rep ++ le 8 e.tick ++ le 8 e.data

/-- A lane, channel, pipe, Bobbin or decoder unit is in FAULT or fenced off. -/
def State.faultAny (s : State) : Bool :=
  (List.range 8).any (fun j => s.laneState j == hlkFault) || (List.range 192).any (fun c => s.chState c == chFault)
    || s.rst.fenced.any (fun f => f.1 != blkHost && f.1 != blkSer) || s.bob.bobs.any (fun e => e.2.fault)

/-- The word of `CHN_CARRIER_DATA`. -/
def State.carrierWord (s : State) (ch : Nat) : Nat :=
  let c := s.fld .CHN_CARRIER_SEL_carrier ch
  let ds := s.dataCarriers ch
  let load (m : Option ToneMap) : Nat := match m, ds.findIdx? (· == c) with
    | some m, some k => m.loads.getD k 0
    | _, _ => 0
  let ok := s.flag .CHN_SNR_snr_valid ch && (tfind c (s.chan ch).est).isSome
  (if ok then unsigned 12 (s.snr ch c) else 0) + 4096 * load (s.rxGeneralMap ch)
    + 65536 * load ((s.txMap ch 0).map (·.2)) + 2 ^ 20 * b2n (isPilot c)
    + 2 ^ 21 * b2n (!(s.payload ch).contains c) + 2 ^ 22 * b2n ok

/-- The word of `CHN_LEDGER_DATA` (R251). -/
def State.ledgerWord (s : State) (ch : Nat) : Nat :=
  match (s.ledgersOf ch).find? (fun l => l.segment == s.fld .CHN_LEDGER_SEL_segment ch) with
  | none => 0
  | some l =>
    let (u, c) := s.ledgerUse l
    min 2047 (1000 * u / max 1 c) + 2048

/-- The word of the status of the device. -/
def State.statusWord (s : State) : Nat :=
  b2n (s.rst.pwr == .gasp) + 4 * s.fld .GLB_STATUS_boot 0 + 8 * b2n s.isSealed + 16 * b2n s.narrow + 32 * b2n s.faultAny
    + 64 * s.fld .SEC_STATUS_tamper 0

/-- The word of a register whose fields follow from other state; none for a stored one. -/
def State.viewWord (s : State) (F : Fld) (i : Nat) : Option Nat :=
  match F with
  | .GLB_STATUS_power | .GLB_STATUS_sealed | .GLB_STATUS_narrow | .GLB_STATUS_fault_any | .GLB_STATUS_tamper => some s.statusWord
  | .TIM_TICK_tick => some (bits s.tick (32 * (i % 2)) 32)
  | .TIM_TB_TIME_time => some ((s.tbWords (i / 3) s.tick).getD (i % 3) 0)
  | .TIM_TB_STATUS_ho_s => some (s.tbStatusWord i)
  | .CHN_CARRIER_DATA_snr | .CHN_CARRIER_DATA_bits_rx | .CHN_CARRIER_DATA_bits_tx | .CHN_CARRIER_DATA_pilot
  | .CHN_CARRIER_DATA_notched | .CHN_CARRIER_DATA_valid => some (s.carrierWord i)
  | .CHN_LEDGER_DATA_occ | .CHN_LEDGER_DATA_valid => some (s.ledgerWord i)
  | .DRM_REC_DATA0_state | .DRM_REC_DATA0_channel | .DRM_REC_DATA0_misses | .DRM_REC_DATA0_group | .DRM_REC_DATA0_carrier =>
    some ((recWords (s.drec (s.fld .DRM_REC_SEL_record 0))).getD 0 0)
  | .DRM_REC_DATA1_addr | .DRM_REC_DATA1_period => some ((recWords (s.drec (s.fld .DRM_REC_SEL_record 0))).getD 1 0)
  | .DRM_REC_DATA2_drift => some ((recWords (s.drec (s.fld .DRM_REC_SEL_record 0))).getD 2 0)
  | .DRM_REC_DATA3_bound => some ((recWords (s.drec (s.fld .DRM_REC_SEL_record 0))).getD 3 0)
  | .DRM_STATUS_narrow => some (2 ^ 13 * b2n s.narrow)
  | .DLV_DESC_desc_free | .DLV_DESC_narrow =>
    some ((s.dlv.descShared + (s.dlv.quotaFree.map (·.2)).foldl (· + ·) 0) % 2 ^ 19 + 2 ^ 19 * b2n s.narrow)
  | .DLV_DESC_PROT_prot_free => some s.dlv.descProt
  | .DLV_INFLIGHT_if_free | .DLV_INFLIGHT_prot_if_free => some (s.dlv.ifShared % 2 ^ 13 + 65536 * s.dlv.ifProt)
  | .BOB_ENG_DATA_role | .BOB_ENG_DATA_share | .BOB_ENG_DATA_fault | .BOB_ENG_DATA_gated | .BOB_ENG_DATA_lm_ce
  | .BOB_ENG_DATA_slice_wait => some (s.bobWord (s.fld .BOB_ENG_SEL_engine 0))
  | .BOB_FW_fw_version => some (memBe s.fwImage 12 4)
  | .SER_RX_DATA_data | .SER_RX_DATA_parity | .SER_RX_DATA_frame | .SER_RX_DATA_brk | .SER_RX_DATA_ovr | .SER_RX_DATA_valid =>
    some (s.readRxData i).1
  | .EVT_PNL_CNT_pending => some (s.evPending i)
  | .TEL_STATUS_tel_seq | .TEL_STATUS_tel_words =>
    some (((s.mgmt.window.map (·.seq)).getD 0) % 65536 + 65536 * (if s.isSealed then telWords else 0))
  | _ => none

/-- The value a field reads as; WO fields read 0 (R15). -/
def State.view (s : State) (F : Fld) (i : Nat) : Nat :=
  if F.info.acc = .wo then 0
  else match s.viewWord F i with
    | some w => bits w F.info.lo F.width
    | none => s.fld F i

/-- The word a register reads as. -/
def State.regWord (s : State) (a : Nat) : Nat :=
  (fldsAt a).foldl (fun n e => n + 2 ^ e.1.info.lo * s.view e.1 e.2) 0

/-- The multi-register values (R13, R14): first address, words, instances, stride. -/
def regGroups : List (Nat × Nat × Nat × Nat) :=
  [(0x8, 2, 1, 0x1000), (0x10, 4, 1, 0x1000), (0x20, 4, 1, 0x1000), (0x30, 4, 1, 0x1000), (0x340008, 2, 1, 0x1000),
   (0x340108, 3, 8, 0x40), (0x38100C, 2, 192, 0x40), (0x381014, 2, 192, 0x40), (0x40008, 2, 1, 0x1000),
   (0x20010, 6, 1, 0x1000), (0x20030, 2, 1, 0x1000), (0x300014, 4, 1, 0x1000)]

/-- The multi-register value a word belongs to: its first address and its words. -/
def groupOf (a : Nat) : Option (Nat × Nat) :=
  regGroups.findSome? (fun g =>
    let (b, n, k, st) := g
    if b ≤ a ∧ (a - b) / st < k ∧ (a - b) % st < 4 * n then some (a - (a - b) % st, n) else none)

/-- The RC fields of the map in the order of R534. -/
def rcInsert (e : Nat × Nat × Nat) : List (Nat × Nat × Nat) → List (Nat × Nat × Nat)
  | [] => [e]
  | x :: t => if e.1 < x.1 ∨ (e.1 = x.1 ∧ e.2.1 ≤ x.2.1) then e :: x :: t else x :: rcInsert e t

/-- The RC fields of a block, as address, lowest bit and key, in ascending order. -/
def rcOfBlock (b : Nat) : List (Nat × Nat × Nat) :=
  let fs := (blkFlds b).filter (fun F => F.info.acc == .rc)
  ((List.range 192).flatMap (fun i => fs.flatMap (fun F =>
    if F.info.n ≤ i then []
    else (List.range F.info.sub).map (fun j =>
      (F.info.base + i * F.info.stride + j * F.info.sstride, F.info.lo, F.key (i * F.info.sub + j)))))).foldr rcInsert []

/-- The keys of the accumulators, in the order of a snapshot. -/
def rcKeys : List Nat := (blocks.flatMap rcOfBlock).map (·.2.2)

/-- The words of a snapshot (R534). -/
def snapWord (x : Snap) (k : Nat) : Nat :=
  match k with
  | 0 => x.seq % 2 ^ 32
  | 1 => x.hem % 2 ^ 24
  | 2 => x.tick % 2 ^ 32
  | 3 => x.tick / 2 ^ 32 % 2 ^ 32
  | k + 4 => match rcKeys[k]? with
    | some key => tget 0 key x.accs
    | none => 0

/-- The ring area of a PNL instance (R76): the panel, and the offset in it. -/
def ringPlace (a : Nat) : Option (Nat × Nat) :=
  if 0x3E0000 ≤ a ∧ a < 0x3F0000 ∧ 0x400 ≤ (a - 0x3E0000) % 0x1000 then some ((a - 0x3E0000) / 0x1000, (a - 0x3E0000) % 0x1000)
  else none

/-- A word of the areas that are no registers: the rings, the event ring and the telemetry window; none elsewhere. -/
def State.areaWord (s : State) (a : Nat) : Option Nat :=
  if (ringPlace a).isSome then some (ofLe (memBytes s.mgmt.ringRam (a - 0x3E0000) 4))
  else if 0x610000 ≤ a ∧ a < 0x640000 then
    let o := a - 0x610000
    some (match tfind (o / 24) s.mgmt.ring with
      | some e => leAt (evBytes e) (o % 24) 4
      | none => 0)
  else if 0x710000 ≤ a ∧ a < 0x750000 then
    let k := (a - 0x710000) / 4
    some (match s.mgmt.window with
      | some x => if k < telWords then snapWord x k else 0
      | none => 0)
  else none

/-- Reading an RC field clears it (R15, R17): `n` events of the same cycle stay counted, saturating (R19). -/
def State.clearRc (s : State) (F : Fld) (i n : Nat) : State :=
  if F = .BOB_ENG_DATA_lm_ce ∨ F = .BOB_ENG_DATA_slice_wait then
    let b := s.fld .BOB_ENG_SEL_engine 0
    let x := s.bobbin b
    s.setBob b (if F = .BOB_ENG_DATA_lm_ce then { x with lmCe := min n 255 } else { x with sliceWait := min n 65535 })
  else if F.width = 1 ∨ (F = .SER_RX_DATA_data) then s
  else (s.setFld F i 0).bumpN F i n

/-- A read takes effect on what it reads: RC fields clear, `SER_RX_DATA` gives up a character (R419). -/
def State.afterRead (s : State) (a : Nat) (incs : List Nat) : State :=
  let fs := fldsAt a
  match fs.find? (fun e => e.1 == .SER_RX_DATA_data) with
  | some e => (s.readRxData e.2).2
  | none =>
    let rc := fs.filter (fun e => e.1.info.acc == .rc)
    (rc.zip (incs ++ List.replicate rc.length 0)).foldl (fun (s : State) e => s.clearRc e.1.1 e.1.2 e.2) s

/-- A read of `TEL_STATUS` moves the window to the newest snapshot (R535). -/
def State.telMove (s : State) : State := { s with mgmt := { s.mgmt with window := s.mgmt.snaps.head? } }

/-- Read a word under R13: from the panel's shadow where it holds it, else live. The first word of a group latches the
others. -/
def State.readLive (s : State) (p a : Nat) (incs : List Nat) : Nat × State :=
  match groupOf a with
  | none =>
    let s := if a = 0x700008 then s.telMove else s
    (s.regWord a, s.afterRead a incs)
  | some (b, n) =>
    let others := s.mgmt.shadows.filter (fun x => !(x.panel == p && x.start == b))
    if a = b then
      let ws := (List.range (n - 1)).map (fun k => (b + 4 * (k + 1), s.regWord (b + 4 * (k + 1))))
      (s.regWord a, { s with mgmt := { s.mgmt with shadows := ⟨p, b, ws⟩ :: others } })
    else match s.mgmt.shadows.find? (fun x => x.panel == p && x.start == b) with
      | none => (s.regWord a, s)
      | some x => match tfind a x.words with
        | none => (s.regWord a, s)
        | some w =>
          let rest := x.words.filter (fun e => e.1 != a)
          (w, { s with mgmt := { s.mgmt with shadows := if rest = [] then others else ⟨p, b, rest⟩ :: others } })

/-- A panel reads a word (R20, R523): outside its window, outside every span or misaligned it reads 0 and is counted. -/
def State.regRead (s : State) (p a : Nat) (incs : List Nat) : Nat × State :=
  if s.inAlias p a = false then (0, s.bump .PNL_ALIAS_FAULT_CNT_count p)
  else if (blkOf a).isNone ∨ a % 4 ≠ 0 then (0, s.bump .GLB_UNMAPPED_CNT_count 0)
  else match s.areaWord a with
    | some w => (w, s)
    | none => s.readLive p a incs

/-- The features a field belongs to (R72): it is written where one of them is in force; no feature where the list is
empty. -/
def fldFeats : Fld → List Nat
  | .CHN_CODE_CFG_li_span | .CHN_CODE_CFG_li_idle => [4]
  | .CHN_CHISEL_CFG_chisel_thr | .CHN_CHISEL_CFG_chisel_pre | .CHN_CHISEL_CFG_chisel_post | .CHN_CHISEL_CFG_chisel_max => [5]
  | .COD_LDPC_CFG_ldpc_iter => [3]
  | .OLA_LEARN_CFG_next_mu | .OLA_LEARN_MIN_next_min | .OLA_HOLD0_next_hold => [0, 6]
  | .OLA_LEARN_CFG_fext_mu | .OLA_LEARN_MIN_fext_min | .OLA_HOLD0_fext_hold => [1]
  | .OLA_LEARN_CFG_prec_mu | .OLA_LEARN_MIN_prec_min | .OLA_HOLD1_prec_hold | .OLA_SYNC_CFG_err_deadline
  | .OLA_SYNC_CFG_prec_clip => [2]
  | .DRM_CFG_drift_shift | .DRM_CFG_unc_floor | .DRM_CFG_tone_tries | .DRM_REC_SEL_record => [9]
  | .DLV_CFG2_seen_life | .DLV_CFG2_flood_ttl | .DLV_CFG2_flood_rep => [10]
  | _ => []

/-- No feature the field belongs to is in force. -/
def State.fldShut (s : State) (F : Fld) : Bool := fldFeats F != [] && !(fldFeats F).any s.inForce

/-- A value held to limits. -/
def clampNat (lo hi v : Nat) : Nat := min hi (max lo v)

/-- The value a write stores, where the field's description limits it. -/
def clampFld (F : Fld) (v : Nat) : Nat :=
  match F with
  | .CHN_CFG_train_timeout | .CHN_CODE_CFG_li_idle | .CHN_ADAPT_CFG_tm_holdoff | .CHN_CHISEL_CFG_chisel_max
  | .CHN_STEP_CFG_arm_ms | .OLA_LEARN_CFG_next_mu | .OLA_LEARN_CFG_fext_mu | .OLA_LEARN_CFG_prec_mu | .OLA_LEARN_CFG_div_n
  | .OLA_LEARN_MIN_next_min | .OLA_LEARN_MIN_fext_min | .OLA_LEARN_MIN_prec_min | .OLA_SYNC_CFG_err_deadline
  | .HEM_REF_CFG_slew | .DRM_CFG_tone_tries | .TIM_TB_CFG_lock_ns | .GAU_CH_CFG_amp | .HBM_SCRUB_CFG_cal_s
  | .RST_WD_CFG_wd_mgmt | .RST_WD_CFG_wd_host | .RST_WD_CFG_wd_mem | .RST_WD_CFG_wd_plane | .RST_WD_CFG_wd_lane
  | .TEL_CFG_tel_period => max 1 v
  | .COD_LDPC_CFG_ldpc_iter | .CHN_ADAPT_CFG_nse_shift => clampNat 1 10 v
  | .CHN_ADAPT_CFG_tm_delta => clampNat 1 100 v
  | .CHN_ADAPT_CFG2_sound_n => max 4 v
  | .CHN_CARRIER_SEL_carrier => if 74 ≤ v ∧ v ≤ 3522 then v else 74
  | .DLV_CFG_abandon_ms | .DLV_CFG_prot_abandon_ms => clampNat 10 60000 v
  | .DLV_CFG2_window => clampNat 1 64 v
  | .DLV_CFG2_seen_life => clampNat 1 60 v
  | .DRM_CFG_drift_shift => clampNat 1 8 v
  | .GAU_CH_FTW_ftw => clampNat 54975582 1099511627 v
  | _ => v

/-- Fields that take effect at the slot boundary after their write. -/
def fldLate : Fld → Bool
  | .CHN_TX_LEVEL_tx_atten | .COD_LDPC_CFG_ldpc_iter | .DLV_CFG2_window => true
  | _ => false

/-- Store a written value. -/
def State.storeFld (s : State) (F : Fld) (i v : Nat) : State :=
  let s := if fldLate F ∧ (tfind (F.key i) s.grid.late).isNone then
      { s with grid := { s.grid with late := tset (F.key i) (s.fld F i) s.grid.late } } else s
  s.setFld F i (clampFld F v)

/-- The event read position of a panel (R532). -/
def State.setEvRd (s : State) (p idx : Nat) : State :=
  let live := idx = s.evHead ∨ (idx + 8192 - s.evOldest) % 8192 < s.mgmt.live
  s.setFld .EVT_PNL_RD_rd p (if live then idx else s.evOldest)

/-- A write to one field (R15, R18, R72, R74); the loader also writes RWP fields. -/
def State.writeFld (s : State) (loader : Bool) (p : Nat) (F : Fld) (i w : Nat) : State :=
  let v := bits w F.info.lo F.width
  if s.fldShut F ∨ (F.info.expert = true ∧ s.expertOk p = false) then s
  else match F.info.acc with
    | .ro | .rc => s
    | .w1c => s.setFld F i (s.fld F i - (s.fld F i &&& v))
    | .w1s => s.setFld F i (s.fld F i ||| v)
    | .wo => if F = .SER_TX_DATA_data then s.writeTxData i v else s
    | .rwp => if loader then s.storeFld F i v else s
    | .rw => match F with
      | .EVT_PNL_RD_rd => s.setEvRd i v
      | .SER_DIV_div => s.writeDiv i v
      | _ => s.storeFld F i v

/-- What a write asks of the block, once its fields are stored (R367). -/
def State.afterWrite (s old : State) (fs : List (Fld × Nat)) : State :=
  fs.foldl (fun (s : State) e =>
    if old.fld e.1 e.2 = s.fld e.1 e.2 then s
    else match e.1 with
      | .GAU_CH_CFG_exc_on => s.gaugeUpdate e.2
      | .GAU_CH_CFG_amp | .GAU_CH_FTW_ftw => s.gaugeRetune e.2
      | _ => s) s

/-- The counts of a register write: RWP fields after the seal (R18), expert fields (R74), features (R72). -/
def State.countWrite (s : State) (loader : Bool) (p : Nat) (fs : List (Fld × Nat)) (w : Nat) : State :=
  let diff (e : Fld × Nat) : Bool := bits w e.1.info.lo e.1.width != s.fld e.1 e.2
  let sealedW := !loader && s.isSealed && fs.any (fun e => e.1.info.acc == .rwp && diff e)
  let expert := !s.expertOk p && fs.any (fun e => e.1.info.expert && diff e)
  let feat := fs.any (fun e => s.fldShut e.1)
  let s := if sealedW then s.bump .GLB_SEALED_WRITE_CNT_count 0 else s
  let s := if expert then s.bump .PNL_EXPERT_DENY_CNT_count p else s
  if feat then s.bump .GLB_NOT_NEGOTIATED_CNT_count 0 else s

/-- Write one register. -/
def State.writeReg (s : State) (loader : Bool) (p a w : Nat) : State :=
  let fs := fldsAt a
  let s := s.countWrite loader p fs w
  (fs.foldl (fun (s : State) e => s.writeFld loader p e.1 e.2 w) s).afterWrite s fs

/-- The accept words are writable (R71): the loader is IDLE with no full pattern sealed, or RECEIVING a full load. -/
def State.acceptOpen (s : State) : Bool :=
  match s.fld .PAT_STATUS_loader_state 0 with
  | 0 => !s.isSealed
  | 1 => s.ldr.kind == 1
  | _ => false

/-- The accept words take a value (R70, R71). -/
def State.writeAccept (s : State) (ws : List Nat) : State :=
  if s.acceptOpen = false then s.bump .GLB_FEAT_DROP_CNT_count 0
  else
    let extra := (List.range 4).any (fun k => ws.getD k 0 % 2 ^ 32 != ws.getD k 0 % 2 ^ 32 &&& s.fld .FEAT_OFFER_offer k)
    let s := if extra then s.bump .GLB_FEAT_DROP_CNT_count 0 else s
    (List.range 4).foldl (fun (s : State) k => s.setFld .FEAT_ACCEPT_accept k (ws.getD k 0 % 2 ^ 32 &&& s.fld .FEAT_OFFER_offer k)) s

/-- A write to a word of a multi-register value takes effect with its last word (R14); where no write can take effect each
word is handled as a register of its own, for its counts. -/
def State.writeGroup (s : State) (loader : Bool) (p b n a w : Nat) : State :=
  let accept := b = 0x20
  let plain := (fldsAt a).all (fun e => e.1.info.acc == .ro || (e.1.info.acc == .rwp && !loader) || (e.1.info.expert && !s.expertOk p))
  if accept ∧ p ≠ 0 then s
  else if plain ∧ !accept then s.writeReg loader p a w
  else
    let who := if loader then 256 else p
    let others := s.mgmt.latches.filter (fun x => !(x.panel == who && x.start == b))
    let done := if a = b then some [] else
      (s.mgmt.latches.find? (fun x => x.panel == who && x.start == b && b + 4 * x.words.length == a)).map (·.words)
    match done with
    | none => { s with mgmt := { s.mgmt with latches := others } }
    | some ws =>
      let ws := ws ++ [w]
      if ws.length < n then { s with mgmt := { s.mgmt with latches := ⟨who, b, ws⟩ :: others } }
      else
        let s := { s with mgmt := { s.mgmt with latches := others } }
        if accept then s.writeAccept ws
        else ws.zipIdx.foldl (fun (s : State) e => s.writeReg loader p (b + 4 * e.2) e.1) s

/-- A write of `PNL_RING_IDX` (R77, R81): ignored as a whole and counted where it overruns, discarded and counted where the
panel's transport is in-band. -/
def State.writeRingIdx (s : State) (q w : Nat) : State :=
  let t := bits w 0 6
  let h := bits w 24 6
  if s.inBand q then s.bump .PNL_OHI_WRONG_CNT_count q
  else if 32 < (t + 64 - s.fld .PNL_RING_IDX_cmd_head q) % 64 ∨ 32 < (s.fld .PNL_RING_IDX_rsp_tail q + 64 - h) % 64 then
    s.bump .PNL_CMD_OVF_CNT_count q
  else (s.setFld .PNL_RING_IDX_cmd_tail q t).setFld .PNL_RING_IDX_rsp_head q h

/-- A panel writes a word (R20, R523). -/
def State.regWrite (s : State) (p a w : Nat) : State :=
  let w := w % 2 ^ 32
  if s.inAlias p a = false then s.bump .PNL_ALIAS_FAULT_CNT_count p
  else if (blkOf a).isNone ∨ a % 4 ≠ 0 then s.bump .GLB_UNMAPPED_CNT_count 0
  else match ringPlace a with
    | some (q, o) =>
      if 0xC00 ≤ o then s
      else if s.inBand q then s.bump .PNL_OHI_WRONG_CNT_count q
      else { s with mgmt := { s.mgmt with ringRam := memStores s.mgmt.ringRam (a - 0x3E0000) (le 4 w) } }
    | none =>
      if 0x3E0000 ≤ a ∧ a < 0x3F0000 ∧ (a - 0x3E0000) % 0x1000 = 0x20 then s.writeRingIdx ((a - 0x3E0000) / 0x1000) w
      else match groupOf a with
        | some (b, n) => s.writeGroup false p b n a w
        | none => s.writeReg false p a w

/-- What the management port last drove out. -/
def State.spi (s : State) (b : List Byte) : State := { s with mgmt := { s.mgmt with spiOut := b } }

/-- A panel reads one word and the port drives it out. -/
def State.readOut (s : State) (p a : Nat) (incs : List Nat) : State :=
  let (w, s) := s.regRead p a incs
  s.spi (le 4 w)

/-- GROUP_READ: the read of the lowest word of a multi-register value (R13). -/
def execGroupRead (p addr : Nat) (s : State) : Host.Outcome State Fault Refusal :=
  .next (if p < 16 ∧ (groupOf addr).any (fun g => g.1 == addr) = true then s.readOut p addr [] else s)

/-- RC_FIELD_READ: a read of a word with RC fields, with the increments of the same cycle (R17). -/
def execRcFieldRead (p addr : Nat) (incs : List Nat) (s : State) : Host.Outcome State Fault Refusal :=
  .next (if p < 16 then s.readOut p addr incs else s)

/-- W1C_WRITE: a write to a word with W1C bits, with the bits hardware sets in the same cycle (R17): the set wins. -/
def execW1cWrite (p addr w hwSet : Nat) (s : State) : Host.Outcome State Fault Refusal :=
  .next (
    if 16 ≤ p then s
    else
      let s := s.regWrite p addr w
      ((fldsAt addr).filter (fun e => e.1.info.acc == .w1c)).foldl (fun (s : State) e =>
        s.setFld e.1 e.2 (s.fld e.1 e.2 ||| bits hwSet e.1.info.lo e.1.width)) s)

/-- FEAT_ACCEPT_WRITE: the four accept words, lowest address first (R70, R71). -/
def execFeatAcceptWrite (p w0 w1 w2 w3 : Nat) (s : State) : Host.Outcome State Fault Refusal :=
  .next (if p < 16 then (((s.regWrite p 0x20 w0).regWrite p 0x24 w1).regWrite p 0x28 w2).regWrite p 0x2C w3 else s)

/-- EVT_PNL_RD_WRITE: PNL0 sets a panel's read position (R532). -/
def execEvtPnlRdWrite (p target idx : Nat) (s : State) : Host.Outcome State Fault Refusal :=
  .next (if p < 16 ∧ target < 16 then s.regWrite p (0x600100 + 0x10 * target) idx else s)

/-- TEL_STATUS_READ (R535). -/
def execTelStatusRead (p : Nat) (s : State) : Host.Outcome State Fault Refusal :=
  .next (if p < 16 then s.readOut p 0x700008 [] else s)

/-- SER_RX_DATA_READ (R419). -/
def execSerRxDataRead (p port : Nat) (s : State) : Host.Outcome State Fault Refusal :=
  .next (if p < 16 ∧ port < 8 then s.readOut p (0x40000C + 0x100 * port) [] else s)

/-- SER_TX_DATA_WRITE (R422). -/
def execSerTxDataWrite (p port data : Nat) (s : State) : Host.Outcome State Fault Refusal :=
  .next (if p < 16 ∧ port < 8 then s.regWrite p (0x400010 + 0x100 * port) data else s)

/-- SER_DIV_WRITE (R418). -/
def execSerDivWrite (p port div : Nat) (s : State) : Host.Outcome State Fault Refusal :=
  .next (if p < 16 ∧ port < 8 then s.regWrite p (0x400008 + 0x100 * port) div else s)

/-- The checks of REG_READ and REG_WRITE (R413): where a word lies outside the window the whole command is refused and each
such word counted. -/
def regCmd (s : State) (p addr count hi : Nat) (k : State × Option Resp) : State × Option Resp :=
  let as_ := (List.range count).map (fun i => addr + 4 * i)
  let out := as_.filter (fun a => !s.inAlias p a)
  if count = 0 ∨ hi < count then refuse s .badArg
  else if out ≠ [] then (s.bumpN .PNL_ALIAS_FAULT_CNT_count p out.length, some (rsp .denied))
  else k

/-- REG_READ (R413). -/
def opRegRead (p addr count : Nat) (s : State) : State × Option Resp :=
  regCmd s p addr count 6 (
    let (ws, s) := (List.range count).foldl (fun (x : List Nat × State) i =>
      let (w, s) := x.2.regRead p (addr + 4 * i) []
      (x.1 ++ [w], s)) ([], s)
    (s, some ⟨.ok, (ws.map (le 4)).flatten⟩))

/-- REG_WRITE (R413). -/
def opRegWrite (p addr : Nat) (words : List Nat) (s : State) : State × Option Resp :=
  regCmd s p addr words.length 12 (
    (words.zipIdx.foldl (fun (s : State) e => s.regWrite p (addr + 4 * e.2) e.1) s, some (rsp .ok)))

/-- REG_READ. -/
def execRegRead (c : Cmd) (addr count : Nat) (s : State) : Host.Outcome State Fault Refusal :=
  .next (ohi s c 0x3E02 (opRegRead c.pnl addr count s))

end Sys2Proof.Machine
end

