-- ==== Sys2Proof/Machine/Events.lean ====
section
/-! DEFINITION. The event ring's and telemetry's commands (R532 to R536), and the levels of the lines the module drives (R486, R491,
R515, R533). -/

namespace Sys2Proof.Machine

/-- EVT_READ (R532, R536): the panel's next entry; entries that are not its own are passed over. -/
def opEvtRead (p : Nat) (s : State) : State × Option Resp :=
  match (s.evFrom (s.fld .EVT_PNL_RD_rd p)).find? (fun e => evFor p e.2) with
  | some (i, e) => (s.setFld .EVT_PNL_RD_rd p ((i + 1) % 8192), some ⟨.ok, evBytes e⟩)
  | none => (s.setFld .EVT_PNL_RD_rd p s.evHead, some (rsp .ok))

/-- EVT_CFG (R536). -/
def opEvtCfg (p sevMin irqEn : Nat) (s : State) : State × Option Resp :=
  if 3 < sevMin ∨ 3 < irqEn then refuse s .badArg
  else
    (((s.setFld .EVT_PNL_CFG_sev_min p sevMin).setFlag .EVT_PNL_CFG_irq_ev p (bit irqEn 0)).setFlag .EVT_PNL_CFG_irq_rsp p (bit irqEn 1),
      some (rsp .ok))

/-- TEL_SNAP (R536). -/
def opTelSnap (p : Nat) (s : State) : State × Option Resp :=
  if p ≠ 0 then refuse s .denied
  else if s.mgmt.snapPend then refuse s .busy
  else ({ s with mgmt := { s.mgmt with snapPend := true } }, some (rsp .ok))

/-- TEL_READ (R536). -/
def opTelRead (p back word count : Nat) (s : State) : State × Option Resp :=
  if count = 0 ∨ 6 < count then refuse s .badArg
  else if p ≠ 0 then refuse s .denied
  else if s.narrow = true ∧ back ≠ 0 then refuse s .notPresent
  else match s.mgmt.snaps[back]? with
    | none => refuse s .badArg
    | some x =>
      if telWords < word + count then refuse s .badArg
      else (s, some ⟨.ok, (List.range count).flatMap (fun k => le 4 (snapWord x (word + k)))⟩)

/-- EVT_READ. -/
def execEvtRead (c : Cmd) (s : State) : Host.Outcome State Fault Refusal := .next (ohi s c 0x6001 (opEvtRead c.pnl s))

/-- EVT_CFG. -/
def execEvtCfg (c : Cmd) (sevMin irqEn : Nat) (s : State) : Host.Outcome State Fault Refusal :=
  .next (ohi s c 0x6002 (opEvtCfg c.pnl sevMin irqEn s))

/-- TEL_SNAP. -/
def execTelSnap (c : Cmd) (s : State) : Host.Outcome State Fault Refusal := .next (ohi s c 0x7001 (opTelSnap c.pnl s))

/-- TEL_READ. -/
def execTelRead (c : Cmd) (back word count : Nat) (s : State) : Host.Outcome State Fault Refusal :=
  .next (ohi s c 0x7002 (opTelRead c.pnl back word count s))

/-- The Hem of the newest snapshot. -/
def State.snapHem (s : State) : Option Nat :=
  match s.mgmt.snapWr with
  | some x => some x.1.hem
  | none => s.mgmt.snaps.head?.map (·.hem)

/-- A snapshot is due in the Hem (R534, R536): periodic, or asked for. -/
def State.snapDue (s : State) : Bool :=
  s.mgmt.snapPend || (s.flag .TEL_CFG_tel_on 0 && s.grid.hem % max 1 (s.fld .TEL_CFG_tel_period 0) == 0 && s.snapHem != some s.grid.hem)

/-- TELEMETRY_SNAPSHOT: all accumulators are sampled at the first slot boundary of a Hem (R534). One still being written is dropped;
in narrow service the newest is kept at once. -/
def execTelemetrySnapshot (s : State) : Host.Outcome State Fault Refusal :=
  .next (
    if s.isSealed = false ∨ s.grid.running = false ∨ s.snapDue = false then s
    else
      let x : Snap := ⟨s.mgmt.snapSeq, s.grid.hem, s.tick, s.tel⟩
      let s := if s.mgmt.snapWr.isSome then s.bump .TEL_CNT_tel_drop 0 else s
      let m : MgmtSt := { s.mgmt with snapSeq := (x.seq + 1) % 2 ^ 32, snapPend := false, snapWr := none }
      if s.narrow then { s with mgmt := { m with snaps := [x] } }
      else { s with mgmt := { m with snapWr := some (x, 4 * telWords) } })

/-- `RESET_OUT_N` is high (R486, R504): from the release of fabric and Bobbins, but in KEEP. -/
def State.resetOutN (s : State) : Bool :=
  decide (s.rst.pwr ≠ .keep) && !s.rst.off && decide (s.rst.level.getD 0 < 2) && s.rst.boot == 0 && !s.bootOnly

/-- `PWR_GOOD` is high (R491, R504): only in RUN, and not in reset. -/
def State.pwrGood (s : State) : Bool := s.rst.pwr == .run && !s.rst.off && decide (s.rst.level.getD 0 < 2)

/-- `SUPPLY_FAIL_N` is high (R491, R504). -/
def State.supplyFailN (s : State) : Bool := s.rst.pwr == .run && !s.rst.off && s.flag .PWR_STATUS_input_ok 0

/-- `IRQ_N` is driven low (R486, R533): a panel on SPI has an unread event or response it wants to be told of. -/
def State.irq (s : State) : Bool :=
  s.resetOutN && (List.range 16).any (fun p => !s.inBand p
    && ((s.flag .EVT_PNL_CFG_irq_ev p && decide (0 < s.evPending p)) || (s.flag .EVT_PNL_CFG_irq_rsp p && decide (0 < s.rspUnread p))))

/-- What a contact the module drives is at (R504): high impedance (an open drain released), electrical idle, driven with data, low
or high. -/
inductive Drive where
  | hz | ei | data | low | high
  deriving DecidableEq, Repr

/-- The contacts outside the AON domain (R504): without a supply and in KEEP high impedance, in a COLD or WARM reset `inReset`, else
as the function has it. -/
def State.drive (s : State) (inReset run : Drive) : Drive :=
  if s.rst.off ∨ s.rst.pwr = .keep then .hz else if s.resetOutN then run else inReset

/-- A block is being reset (R489, R505). -/
def State.inBlockReset (s : State) (typ idx : Nat) : Bool := s.rst.blocks.any (fun e => e.1 == typ && e.2.1 == idx)

/-- `HLj_TX` (R504, R505). -/
def State.laneTx (s : State) (j : Nat) : Drive :=
  s.drive .ei (if s.rst.level.isSome ∨ s.inBlockReset blkLane j ∨ s.laneState j = hlkOff then .ei else .data)

/-- `EPp_TX` (R504, R505): in GASP the port with link alone. -/
def State.portTx (s : State) (p : Nat) : Drive :=
  s.drive .ei (if s.inBlockReset blkHost p ∨ s.fld .HST_PORT_STATUS_mode p = 0xF ∨ (s.rst.pwr = .gasp ∧ s.linkUp p = false) then .ei
    else .data)

/-- `PPS_OUT` (R327, R504): high for `pps_width` ms from an edge. -/
def State.ppsDrive (s : State) : Drive := s.drive .low (if s.ppsOut then .high else .low)

/-- `TOD_TX` (R327, R504): it idles high. -/
def State.todTx (s : State) : Drive := s.drive .hz .high

/-- `SERn_TX` (R422, R504, R505): the idle mark or a character. -/
def State.serTx (s : State) (n : Nat) : Drive :=
  s.drive .hz (if s.inBlockReset blkSer n ∨ (s.port n).func = serUnused then .hz
    else if (s.port n).shift.isSome then .data else .high)

/-- `SERn_DE` (R425, R504, R505). -/
def State.serDe (s : State) (n : Nat) : Drive :=
  s.drive .hz (if s.flag .SER_STATUS_de n ∧ s.inBlockReset blkSer n = false then .high else .low)

/-- `CMDi` (R428, R504): an output in the active state drives low; any other contact is released. -/
def State.cmdOut (s : State) (i : Nat) : Drive :=
  s.drive .hz (if s.isOutput i ∧ bit (s.fld .CMD_OUT_STATE_active 0) i then .low else .hz)

/-- `TDO` (R476, R504): driven while debug is open with the JTAG scope. -/
def State.tdo (s : State) : Drive :=
  s.drive .hz (if s.flag .SEC_STATUS_debug_open 0 ∧ bit (s.fld .SEC_STATUS_scope 0) 0 then .data else .hz)

/-- `AUX3V3` is on (R504, R511). -/
def State.aux3v3 (s : State) : Bool := !s.rst.off && s.rst.pwr != .keep

/-- What an LED drive does (R515). -/
inductive Led where
  | off | on | blink (hz : Nat)
  deriving DecidableEq, Repr

/-- The LED drives `LED0` to `LED3` (R515). -/
def State.leds (s : State) : List Led :=
  let on (b : Bool) : Led := if b then .on else .off
  if s.resetOutN = false then [.off, .off, .off, .off]
  else if s.rst.pwr = .gasp then [.blink 4, .off, .off, .off]
  else
    [if s.isSealed then .on else .blink 1,
     on (s.flag .SEC_STATUS_tamper 0 || (List.range 8).any (fun j => s.laneState j == hlkFault)
       || (List.range 192).any (fun c => s.chState c == chFault) || s.narrow),
     on ((List.range 2).any (fun p => s.flag .HST_PORT_STATUS_link_up p)),
     on ((List.range 192).any (fun c => s.chState c == chLive))]

end Sys2Proof.Machine
end

