-- ==== Sys2Proof/Machine/Parse.lean ====
section
/-! DEFINITION. Reading a pattern: its header (R46), its sections (R48, R49, R51), and each section's layout with the
ranges and reserved fields whose violation is a malformed section, as the owning chapters give them. -/

namespace Sys2Proof.Machine

/-- A value where a check holds. -/
def onlyIf {α : Type} (c : Bool) (v : α) : Option α := if c then some v else none

/-- A value in a closed range. -/
def within (lo hi v : Nat) : Bool := decide (lo ≤ v) && decide (v ≤ hi)

/-- `k` items of `n` bytes from an offset. -/
def cutItems (b : List Byte) (off n k : Nat) : List (List Byte) := (List.range k).map (fun i => slice b (off + n * i) n)

/-- A channel bitmap: bit (c mod 8) of byte (c div 8) for channel c. -/
def chanMap (b : List Byte) (off : Nat) : Nat := leAt b off 24

/-- No value occurs twice. -/
def distinct {α : Type} [DecidableEq α] (l : List α) : Bool := decide l.Nodup

/-- The header of a pattern (R46). -/
def parseHdr (b : List Byte) : PatHdr where
  kind := beAt b 6 1
  panel := beAt b 7 1
  total := beAt b 8 4
  count := beAt b 12 4
  fuseId := beAt b 16 8
  rollback := beAt b 24 4
  features := (List.range 4).foldl (fun (a : Nat) k => a + 2 ^ (32 * k) * beAt b (32 + 4 * k) 4) 0
  serial := beAt b 48 8
  parent := beAt b 56 8

/-- The header checks of R46 that reject with 0x01. -/
def hdrBad (b : List Byte) (h : PatHdr) (kind panel : Nat) : Bool :=
  beAt b 0 4 != 0x47575950 || beAt b 4 1 != 1 || !(h.kind == 1 || h.kind == 2) ||
    (h.kind == 1 && h.panel != 0) || (h.kind == 2 && !within 1 15 h.panel) ||
    h.kind != kind || h.panel != panel || beAt b 28 4 != 0

/-- What reading the section list gave (R48, R49): the sections met, END left out, those skipped, whether it is well formed,
and the number of sections up to and including END. -/
structure Sections where
  list : List (Nat × List Byte)
  skips : Nat
  ok : Bool
  count : Nat
  deriving DecidableEq, Repr

/-- A section type of R51. -/
def knownType (t : Nat) : Bool := within 1 0x14 t

/-- Read sections until END, a malformed section or an unknown mandatory type (R48, R49). -/
def readSections : Nat → List Byte → Sections → Sections
  | 0, _, acc => acc
  | fuel + 1, b, acc =>
    let t := beAt b 0 2
    let n := beAt b 2 4
    let full := (6 + n + 3) / 4 * 4
    let acc' : Sections := { acc with count := acc.count + 1 }
    if b.length < full ∨ (slice b (6 + n) (full - 6 - n)).any (· != 0) then acc'
    else if t = 0 then { acc' with ok := n == 0 && b.length == 8 }
    else if knownType t then readSections fuel (b.drop full) { acc' with list := acc.list ++ [(t, slice b 6 n)] }
    else if 32768 ≤ t then readSections fuel (b.drop full) { acc' with skips := acc.skips + 1 }
    else acc'

/-- The sections of a pattern: the bytes between the header and the signature. -/
def sectionsOf (b : List Byte) : Sections :=
  let body := (b.take (b.length - 1280)).drop 64
  readSections (body.length + 1) body ⟨[], 0, false, 0⟩

/-- GUARD_GRID (R85). -/
def parseGuard (b : List Byte) : Option Nat := onlyIf (b.length == 4 && beAt b 0 1 ≤ 2 && beAt b 1 3 == 0) (beAt b 0 1)

/-- A CHANNEL_MAP item (R118). -/
def parseChan (b : List Byte) : Option ChanItem :=
  let i : ChanItem := ⟨beAt b 0 1, beAt b 1 1, beAt b 2 1, beAt b 3 1, beAt b 4 1, beAt b 5 1, beAt b 6 2, beAt b 8 1,
    beAt b 9 1, beAt b 10 1, beAt b 11 1⟩
  onlyIf (i.channel < 192 && (i.initial == 0 || i.initial == 1 || i.initial == 4) && i.role ≤ 1 && i.coupling ≤ 3 &&
    i.profile ≤ 3 && i.panel ≤ 15 && within 1 0xFFE i.link && i.plan ≤ 15 && i.ramp ≤ 15 && 1 ≤ i.timeout && i.flags ≤ 1) i

/-- Items of one size that fill a section. -/
def parseItems {α : Type} (n : Nat) (f : List Byte → Option α) (b : List Byte) : Option (List α) :=
  if b.length % n = 0 then (cutItems b 0 n (b.length / n)).mapM f else none

/-- CHANNEL_MAP (R118). -/
def parseChans (b : List Byte) : Option (List ChanItem) :=
  match parseItems 12 parseChan b with
  | some l => onlyIf (distinct (l.map (·.channel))) l
  | none => none

/-- One BAND_PLAN item and the bytes it takes (R86); byte 7 is a channel in a panel pattern (R89). -/
def parsePlan (panelPat : Bool) (b : List Byte) : Option (BandPlan × Nat) :=
  let nc := beAt b 1 1
  let mc := beAt b 6 1
  let lo := beAt b 2 2
  let hi := beAt b 4 2
  let size := 8 + 4 * nc + 6 * mc
  let ns := (cutItems b 8 4 nc).map (fun x => (beAt x 0 2, beAt x 2 2))
  let raw := cutItems b (8 + 4 * nc) 6 mc
  let ms := raw.map (fun x => (⟨beAt x 0 2, beAt x 2 2, beAt x 4 1⟩ : Mask))
  let span (f l : Nat) : Bool := decide (74 ≤ f) && decide (f ≤ l) && decide (l ≤ 3522)
  onlyIf (decide (size ≤ b.length) && decide (8 ≤ b.length) && decide (beAt b 0 1 ≤ 15) && decide (nc ≤ 32) && decide (mc ≤ 16) &&
      span lo hi && (if panelPat then decide (beAt b 7 1 < 192) else beAt b 7 1 == 0) && ns.all (fun n => span n.1 n.2) &&
      ms.all (fun m => span m.first m.last && decide (m.db ≤ 30)) && raw.all (fun x => beAt x 5 1 == 0))
    (⟨beAt b 0 1, lo, hi, beAt b 7 1, ns, ms⟩, size)

/-- The BAND_PLAN items one after another. -/
def parsePlans (panelPat : Bool) : Nat → List Byte → Option (List BandPlan)
  | 0, b => if b.isEmpty then some [] else none
  | k + 1, b =>
    if b.isEmpty then some []
    else match parsePlan panelPat b with
      | none => none
      | some (p, n) => (parsePlans panelPat k (b.drop n)).map (p :: ·)

/-- BAND_PLAN (R86). -/
def parseBandPlan (panelPat : Bool) (b : List Byte) : Option (List BandPlan) :=
  match parsePlans panelPat 16 b with
  | some l => onlyIf (l.length != 0 && distinct (l.map (·.plan))) l
  | none => none

/-- An ENGINE_ALLOC item (R442). -/
def parseEng (b : List Byte) : Option EngItem :=
  let role := beAt b 1 1
  let own := (slice b 4 8).map (·.toNat)
  onlyIf (within 1 8 role && decide (beAt b 2 1 ≤ 1) && (role == 1 || beAt b 2 1 == 0) && beAt b 3 1 == 0 &&
    (if role == 1 then own.all (fun c => decide (c < 192) || c == 0xFF) else own.all (· == 0xFF)))
    ⟨beAt b 0 1, role, beAt b 2 1 == 1, own⟩

/-- ENGINE_ALLOC (R442). -/
def parseEngines (b : List Byte) : Option (List EngItem) :=
  let n := beAt b 0 2
  if within 1 256 n && beAt b 2 2 == 0 && b.length == 4 + 12 * n then (cutItems b 4 12 n).mapM parseEng else none

/-- An OLA_PARTITION item (R187). -/
def parseOlaPart (b : List Byte) : Option OlaClass :=
  onlyIf (beAt b 0 4 % 1024 == 0 && decide (beAt b 4 2 ≤ 192) && decide (beAt b 6 1 ≤ 64) && beAt b 7 1 == 0)
    ⟨beAt b 0 4, beAt b 4 2, beAt b 6 1⟩

/-- OLA_PARTITION (R187, R188): three items; NEXT may not have one slot. -/
def parseOla (b : List Byte) : Option (List OlaClass) :=
  if b.length = 24 ∧ beAt b 6 1 ≠ 1 then parseItems 8 parseOlaPart b else none

/-- The OLA_DISTURBERS items one after another (R189). -/
def parseDists : Nat → List Byte → Option (List OlaItem)
  | 0, b => if b.isEmpty then some [] else none
  | k + 1, b =>
    if b.isEmpty then some []
    else
      let n := beAt b 3 1
      let ds := (slice b 4 n).map (·.toNat)
      if decide (4 + n ≤ b.length) && decide (beAt b 0 1 ≤ 2) && decide (beAt b 1 1 < 192) && decide (beAt b 2 1 < 64 ∨ beAt b 0 1 = 0) &&
          decide (1 ≤ n) && ds.all (· < 192) then
        (parseDists k (b.drop (4 + n))).map (⟨beAt b 0 1, beAt b 1 1, beAt b 2 1, ds⟩ :: ·)
      else none

/-- OLA_DISTURBERS (R189). -/
def parseOlaItems (b : List Byte) : Option (List OlaItem) := parseDists b.length b

/-- A HEM_WINDOWS item (R231). -/
def parseWindow (b : List Byte) : Option Window :=
  let t := beAt b 0 1
  let f := beAt b 1 1
  let w : Window := ⟨t, f == 1, beAt b 2 2, beAt b 4 2, beAt b 6 2, chanMap b 8⟩
  onlyIf (decide (t ≤ 4) && decide (f ≤ 1) && (f == 0 || t == 4) && w.start != w.stop && (t == 1 || t == 2 || w.owner == 0)) w

/-- HEM_WINDOWS (R230, R231, R233). -/
def parseHem (b : List Byte) : Option (HemHdr × List Window) :=
  let n := beAt b 6 1
  if within 1 64 n && b.length == 12 + 32 * n && decide (beAt b 0 1 ≤ 3) && decide (beAt b 1 1 < 192) && decide (beAt b 2 1 ≤ 1) &&
      decide (beAt b 3 1 ≤ 2) && decide (1 ≤ beAt b 4 2) && beAt b 7 1 == 0 && beAt b 10 2 == 0 then
    match (cutItems b 12 32 n).mapM parseWindow with
    | some l => onlyIf (decide ((l.filter (fun w => w.typ == 1)).length ≤ 16))
        (⟨beAt b 0 1, beAt b 1 1, beAt b 2 1, beAt b 3 1, beAt b 4 2, beAt b 8 2⟩, l)
    | none => none
  else none

/-- A DUTY_LEDGERS item (R249). -/
def parseLedger (b : List Byte) : Option Ledger :=
  let l : Ledger := ⟨beAt b 0 1, beAt b 1 1, beAt b 2 2, beAt b 4 2, beAt b 6 2, beAt b 8 2, beAt b 10 2, beAt b 12 1 == 1⟩
  onlyIf (decide (l.channel < 192) && decide (l.segment ≤ 15) && decide (74 ≤ l.first) && decide (l.first ≤ l.last) &&
    decide (l.last ≤ 3522) && within 1 3600 l.windowS && within 1 1000 l.limit && decide (l.reenable < l.limit) &&
    decide (beAt b 12 1 ≤ 1) && beAt b 13 3 == 0) l

/-- DUTY_LEDGERS (R249). -/
def parseLedgers (b : List Byte) : Option (List Ledger) :=
  match parseItems 16 parseLedger b with
  | some l => onlyIf (distinct (l.map (fun x => (x.channel, x.segment)))) l
  | none => none

/-- One PANELS item and the bytes it takes (R405). -/
def parsePanel (b : List Byte) : Option (PanelItem × Nat) :=
  let k := beAt b 30 2
  let size := (32 + k + 3) / 4 * 4
  let i : PanelItem := {
      panel := beAt b 0 1, transport := beAt b 1 1, rights := beAt b 2 2, dataVid := beAt b 4 2,
      mgmtVid := beAt b 6 2, ipv4 := beAt b 8 4, hostMac := beAt b 12 6, domains := beAt b 18 8, ser := beAt b 26 1,
      portCfg := beAt b 27 1, cmd := beAt b 28 2, keyLen := k, key := slice b 32 k }
  onlyIf (decide (size ≤ b.length) && decide (i.panel ≤ 15) && decide (i.transport ≤ 1) && decide (i.rights < 32) && decide (i.dataVid ≤ 4094) &&
    decide (i.mgmtVid ≤ 4094) && i.portCfg % 4 != 0 && (k == 0 || k == 1793) && (slice b (32 + k) (size - 32 - k)).all (· == 0) &&
    !(i.transport == 1 && i.mgmtVid == 0)) (i, size)

/-- The PANELS items one after another. -/
def parsePanelItems : Nat → List Byte → Option (List PanelItem)
  | 0, b => if b.isEmpty then some [] else none
  | k + 1, b => match parsePanel b with
    | none => none
    | some (p, n) => (parsePanelItems k (b.drop n)).map (p :: ·)

/-- PANELS (R405). -/
def parsePanels (b : List Byte) : Option (List PanelItem) :=
  let n := beAt b 0 1
  if within 1 16 n && beAt b 1 3 == 0 then
    match parsePanelItems n (b.drop 4) with
    | some l => onlyIf (distinct (l.map (·.panel)) && (l.map (·.panel)).contains 0) l
    | none => none
  else none

/-- A TIMEBASES timebase item (R307). -/
def parseTb (b : List Byte) : Option TbItem :=
  let t : TbItem := ⟨beAt b 0 1, beAt b 1 1, beAt b 2 1, beAt b 3 1, beAt b 4 1, beAt b 5 1, beAt b 6 2, beAt b 8 2, beAt b 10 2, beAt b 12 4⟩
  onlyIf (decide (t.tb ≤ 7) && decide (t.role ≤ 5) && decide (t.ports < 8) && (decide (t.plcChan < 192) || t.plcChan == 0xFF) &&
    decide (1 ≤ t.lockNs)) t

/-- A TIMEBASES pair item (R308): a timebase number, `slew_ppb`, the reserved byte and `secondary` differing from `primary`. -/
def parsePair (b : List Byte) : Option PairItem :=
  let p : PairItem := ⟨beAt b 0 1, beAt b 1 1, beAt b 2 1, beAt b 4 2, beAt b 6 2⟩
  onlyIf (decide (p.out ≤ 7) && decide (p.primary ≤ 7) && decide (p.secondary ≤ 7) && p.primary != p.secondary && beAt b 3 1 == 0 &&
    decide (1 ≤ p.slewPpb)) p

/-- TIMEBASES (R306 to R308). -/
def parseTimebases (b : List Byte) : Option TbSec :=
  let n := beAt b 0 1
  let m := beAt b 1 1
  let f := beAt b 2 1
  if within 1 8 n && decide (m ≤ 2) && decide (f < 8) && decide (beAt b 3 1 ≤ 7) && within 1 200 (beAt b 4 1) && decide (beAt b 5 1 ≤ 7) &&
      within 125 8000 (beAt b 6 2) && b.length == 32 + 16 * n + 8 * m then
    match (cutItems b 32 16 n).mapM parseTb, (cutItems b (32 + 16 * n) 8 m).mapM parsePair with
    | some ts, some ps => onlyIf (distinct (ts.map (·.tb)))
        {
            tcOn := bit f 0, tcEth0 := bit f 1, tcEth1 := bit f 2, ppsSrc := beAt b 3 1, ppsWidth := beAt b 4 1, ptpPcp := beAt b 5 1,
            pdelayMs := beAt b 6 2, tcChans := chanMap b 8, tbs := ts, pairs := ps }
    | _, _ => none
  else none

/-- A GAUGE item (R378). -/
def parseGaugeItem (b : List Byte) : Option GaugeItem :=
  let i : GaugeItem := {
      channel := beAt b 0 1, flags := beAt b 1 1, ranges := beAt b 2 1, scale := beAt b 3 1, ftw := beAt b 4 4,
      amp := beAt b 8 2, dIq := beAt b 10 2, dV := beAt b 12 2, nm := beAt b 14 1, dcbK := beAt b 15 1, blankPause := beAt b 16 1,
      blankErase := beAt b 17 1, chkInterval := beAt b 18 2, chkFtw := beAt b 20 4, chkAmp := beAt b 24 2, chkTol := beAt b 26 1,
      fltN := beAt b 27 1, zMin := beAt b 28 2, zMax := beAt b 30 2, vOfs := beAt b 32 2, vHyst := beAt b 34 2, excLen := beAt b 36 2,
      excPeriod := beAt b 38 2 }
  onlyIf (decide (i.channel < 192) && decide (i.flags < 64) && decide (i.ranges % 8 ≤ 4) && decide (i.ranges / 16 ≤ 4) && i.ranges / 8 % 2 == 0 &&
    i.scale / 4 % 4 == 0 && decide (i.scale < 64) && within 1 32767 i.amp && within 8 4096 i.dIq && within 8 4096 i.dV &&
    decide (i.nm % 4 ≤ 2) && i.nm / 8 % 2 == 0 && decide (i.nm / 16 % 4 ≤ 2) && decide (i.nm < 128) && within 1 24 i.dcbK &&
    decide (i.blankPause < 64) && decide (i.blankErase < 16) && within 1 32767 i.chkAmp && within 1 100 i.chkTol && within 1 255 i.fltN &&
    decide (i.zMin < i.zMax) && within 1 32767 i.vHyst && decide (1 ≤ i.excLen) && decide (1 ≤ i.excPeriod) &&
    decide (i.excLen < i.excPeriod * 500)) i

/-- GAUGE (R378). -/
def parseGauge (b : List Byte) : Option GaugeSec :=
  if decide (4 ≤ b.length) && beAt b 2 2 == 0 then
    match parseItems 40 parseGaugeItem (b.drop 4) with
    | some l => onlyIf (distinct (l.map (·.channel))) ⟨beAt b 0 2, l⟩
    | none => none
  else none

/-- A CAST detector item (R387). -/
def parseCastItem (b : List Byte) : Option CastItem :=
  let i : CastItem := ⟨beAt b 0 1, beAt b 1 1, beAt b 2 1, beAt b 3 1, beAt b 4 2, beAt b 6 1⟩
  onlyIf (decide (i.channel < 192) && within 1 16 i.wfLag && decide (1 ≤ i.wfMult) && decide (4 ≤ i.txMult) && within 1 8191 i.wfMin &&
    decide (1 ≤ i.wfDead) && beAt b 7 1 == 0) i

/-- CAST (R387). -/
def parseCast (b : List Byte) : Option CastSec :=
  if decide (40 ≤ b.length) && within 1 80 (beAt b 0 1) && within 1 8 (beAt b 1 1) && within 1 1000 (beAt b 2 2) && within 1 1000 (beAt b 4 2) &&
      within 1 8 (beAt b 6 1) && decide (beAt b 7 1 < 16) && within 1 10000 (beAt b 8 2) && decide (beAt b 10 1 ≤ 1) &&
      decide (beAt b 11 1 ≤ 7) && beAt b 36 4 == 0 then
    match parseItems 8 parseCastItem (b.drop 40) with
    | some l => onlyIf (distinct (l.map (·.channel)))
        {
            ringGib := beAt b 0 1, regions := beAt b 1 1, preMs := beAt b 2 2, postMs := beAt b 4 2, trigN := beAt b 6 1,
            trigBlank := beAt b 7 1, trigWin := beAt b 8 2, overwrite := beAt b 10 1 == 1, castTb := beAt b 11 1,
            chans := chanMap b 12, items := l }
    | none => none
  else none

/-- A SERIAL item (R416, R422, R426). -/
def parseSer (b : List Byte) : Option SerItem :=
  let i : SerItem := ⟨beAt b 0 1, beAt b 1 1, beAt b 2 1, beAt b 3 1, beAt b 4 4, beAt b 8 1, beAt b 9 1, beAt b 10 1, beAt b 11 1,
    beAt b 12 2, beAt b 14 1, beAt b 15 1, beAt b 16 2, beAt b 18 2, beAt b 20 1, beAt b 21 1, beAt b 22 1⟩
  onlyIf (decide (i.port ≤ 7) && decide (i.cls ≤ 1) && decide (i.function ≤ 4) && decide (i.fmt < 64) &&
    (if i.cls == 0 then within 1748 16777215 i.div else within 32768 16777215 i.div) && decide (1 ≤ i.gap) && within 1 2048 i.maxLen &&
    decide (i.kind ≤ 1) && (if i.kind == 0 then decide (i.target < 192) else decide (i.target < 64)) && within 1 0xFEFF i.ep &&
    (i.function == 3 || decide (i.prio ≤ 2)) && decide (i.flags < 4) && decide (1 ≤ i.oscHold) && beAt b 23 1 == 0 &&
    (i.function != 3 || i.cls == 1) && (i.function != 4 || (i.cls == 0 && bit i.fmt 4)) && !(bit i.fmt 4 && i.cls == 1)) i

/-- SERIAL (R426). -/
def parseSerial (b : List Byte) : Option (List SerItem) :=
  match parseItems 24 parseSer b with
  | some l => onlyIf (distinct (l.map (·.port))) l
  | none => none

/-- A CONTACTS group item (R435). -/
def parseGroup (b : List Byte) : Option GroupItem :=
  let g : GroupItem := ⟨beAt b 0 1, beAt b 1 1, beAt b 2 1, beAt b 3 1 == 1, beAt b 4 2, beAt b 6 2, beAt b 8 2⟩
  onlyIf (decide (g.group ≤ 15) && decide (g.kind ≤ 1) && (if g.kind == 0 then decide (g.target < 192) else decide (g.target < 64)) &&
    decide (beAt b 3 1 ≤ 1) && within 1 0xFEFF g.ep && (g.refreshMs == 0 || within 10 60000 g.refreshMs) && beAt b 10 2 == 0) g

/-- A CONTACTS contact item (R433, R435). -/
def parseContact (b : List Byte) : Option ContactItem :=
  let m := beAt b 6 1
  let c : ContactItem := ⟨beAt b 0 1, beAt b 1 1, beAt b 2 1, beAt b 3 1, beAt b 4 2, m % 4, bit m 2, beAt b 8 2, beAt b 10 2⟩
  onlyIf (decide (c.contact ≤ 15) && decide (c.function ≤ 2) && decide (c.group ≤ 15) && decide (c.bitpos ≤ 15) && decide (c.mode ≤ 2) &&
    decide (m < 8) && (!c.invert || c.function == 1) && within 1 60000 c.pulseMs && decide (c.watchMs ≤ 60000) && beAt b 7 1 == 0) c

/-- CONTACTS (R433, R435). -/
def parseContacts (b : List Byte) : Option ContactSec :=
  let g := beAt b 0 1
  let n := beAt b 1 1
  if decide (g ≤ 16) && decide (n ≤ 16) && beAt b 2 2 == 0 && b.length == 4 + 12 * (g + n) then
    match (cutItems b 4 12 g).mapM parseGroup, (cutItems b (4 + 12 * g) 12 n).mapM parseContact with
    | some gs, some cs =>
      let ins := cs.filter (fun c => c.function == 1)
      onlyIf (distinct (gs.map (·.group)) && distinct (cs.map (·.contact)) && distinct (ins.map (fun c => (c.group, c.bitpos)))) ⟨cs, gs⟩
    | _, _ => none
  else none

/-- One mebibyte. -/
def mib : Nat := 1048576
/-- The size of stacked memory in bytes (R446). -/
def stackedSize : Nat := 103079215104
/-- The size of the Spool's carvable area in bytes (R445). -/
def spoolSize : Nat := 28311552

/-- Whether a region's kind, memory and size agree (R449); the sizes of kinds 0x03 and 0x04 are left to R148 and R387. -/
def regionFits (k m n : Nat) : Bool :=
  match k with
  | 0x01 => m == 0 && n == 64 * mib
  | 0x02 => m == 0 && within (1024 * mib) (16384 * mib) n
  | 0x03 => m == 0
  | 0x04 => m == 0
  | 0x05 => m == 0 && within (64 * mib) (4096 * mib) n
  | 0x06 => m == 0 && within (16 * mib) (256 * mib) n
  | 0x10 => m == 1 && within 65536 (27 * mib) n
  | 0x11 => m == 1 && within (4 * mib) (24 * mib) n
  | _ => false

/-- A MEM_CARVE item (R449, R450). -/
def parseCarveItem (b : List Byte) : Option CarveItem :=
  let i : CarveItem := ⟨beAt b 0 1, beAt b 1 1, beAt b 2 1, beAt b 4 8, beAt b 12 8⟩
  onlyIf (decide (i.memory ≤ 1) && regionFits i.kind i.memory i.size && (if i.kind == 3 then decide (i.channel < 192) else i.channel == 0xFF) &&
    i.offset % (if i.memory == 0 then mib else 65536) == 0 && beAt b 3 1 == 0 && beAt b 20 4 == 0) i

/-- MEM_CARVE (R449): a kind allowed once appears once, kind 0x03 once per channel, kind 0x10 any number of times. -/
def parseCarve (b : List Byte) : Option (List CarveItem) :=
  let n := beAt b 0 2
  if within 1 256 n && beAt b 2 2 == 0 && b.length == 4 + 24 * n then
    match (cutItems b 4 24 n).mapM parseCarveItem with
    | some l => onlyIf (distinct ((l.filter (fun i => i.kind != 0x10)).map (fun i => (i.kind, i.channel)))) l
    | none => none
  else none

/-- A DELIVERY endpoint item (R278). -/
def parseEp (b : List Byte) : Option Endpoint :=
  let e : Endpoint := ⟨beAt b 0 2, beAt b 2 1, beAt b 3 1, beAt b 4 2, beAt b 6 1⟩
  let tgt := match e.kind with
    | 0 => decide (e.target ≤ 7)
    | 1 => decide (e.target ≤ 7)
    | 2 => decide (e.target ≤ 15)
    | 3 => decide (e.target ≤ 255)
    | 4 => decide (e.target < 192)
    | _ => false
  onlyIf (within 1 0xFEFF e.ep && decide (e.panel ≤ 15) && tgt && (if e.kind == 4 then decide (e.cls ≤ 3) else e.cls == 0) && beAt b 7 1 == 0) e

/-- A DELIVERY domain item (R278). -/
def parseDom (b : List Byte) : Option Domain :=
  onlyIf (decide (beAt b 0 1 ≤ 63) && beAt b 1 3 == 0) ⟨beAt b 0 1, chanMap b 4⟩

/-- DELIVERY (R278); the header fields of a panel pattern are ignored. -/
def parseDelivery (panelPat : Bool) (b : List Byte) : Option (DlvHdr × List Endpoint × List Domain) :=
  let n := beAt b 12 4
  let m := beAt b 16 1
  let h : DlvHdr := {
      abandonMs := beAt b 0 2, protAbandonMs := beAt b 2 2, retxMax := beAt b 4 1, window := beAt b 5 1,
      seenLife := beAt b 6 1, floodTtl := beAt b 7 1, protInflight := beAt b 8 2, protDesc := beAt b 10 2, floodRep := beAt b 17 1,
      quotas := (List.range 16).map (fun p => beAt b (20 + 4 * p) 4) }
  let fields := within 10 60000 h.abandonMs && within 10 60000 h.protAbandonMs && decide (h.retxMax ≤ 15) && within 1 64 h.window &&
    within 1 60 h.seenLife && decide (h.floodTtl ≤ 15) && decide (h.protInflight ≤ 1024) && decide (h.protDesc ≤ 16384) &&
    within 1 4 h.floodRep
  if (panelPat || fields) && decide (n ≤ 65279) && decide (m ≤ 64) && beAt b 18 2 == 0 && b.length == 84 + 8 * n + 28 * m then
    match (cutItems b 84 8 n).mapM parseEp, (cutItems b (84 + 8 * n) 28 m).mapM parseDom with
    | some es, some ds => onlyIf (distinct (es.map (·.ep)) && distinct (ds.map (·.domain))) (h, es, ds)
    | _, _ => none
  else none

/-- A DORMANT item (R300). -/
def parseDorm (b : List Byte) : Option DormItem :=
  let d : DormItem := ⟨beAt b 0 1, beAt b 1 1, beAt b 2 2, beAt b 4 2, beAt b 6 2, beAt b 8 2, beAt b 10 1, beAt b 11 1, beAt b 12 1⟩
  onlyIf (decide (d.channel < 192) && decide (d.carrier ≤ 7) && d.groups != 0 && decide (1 ≤ d.periodMin) && decide (d.periodMin ≤ d.periodMax) &&
    within 10 10000 d.margin && within 1 15 d.missLimit && within 1 8 d.toneReps && decide (1 ≤ d.hold) && beAt b 13 3 == 0) d

/-- DORMANT (R300); the header fields of a panel pattern are ignored. -/
def parseDormant (panelPat : Bool) (b : List Byte) : Option (DormHdr × List DormItem) :=
  if decide (4 ≤ b.length) && (panelPat || (within 1 8 (beAt b 0 1) && within 1 15 (beAt b 2 1))) && beAt b 3 1 == 0 then
    match parseItems 16 parseDorm (b.drop 4) with
    | some l => onlyIf (distinct (l.map (·.channel))) (⟨beAt b 0 1, beAt b 1 1, beAt b 2 1⟩, l)
    | none => none
  else none

/-- A THIMBLE item (R408). -/
def parseThimbleItem (b : List Byte) : Option ThimbleItem :=
  let t : ThimbleItem := {
      panel := beAt b 0 1, borrow := beAt b 1 1, air := beAt b 4 4, dec := beAt b 8 2, mem := beAt b 12 4,
      credits := (List.range 8).map (fun q => beAt b (16 + 2 * q) 2), classAir := (List.range 3).map (fun q => beAt b (32 + q) 1) }
  onlyIf (decide (t.panel ≤ 15) && decide (t.borrow < 8) && beAt b 2 2 == 0 && beAt b 10 2 == 0 && beAt b 35 1 == 0) t

/-- THIMBLE (R408). -/
def parseThimble (b : List Byte) : Option (ThimbleHdr × List ThimbleItem) :=
  if decide (32 ≤ b.length) && decide (beAt b 30 1 < 128) && beAt b 31 1 == 0 then
    match parseItems 36 parseThimbleItem (b.drop 32) with
    | some l => onlyIf (distinct (l.map (·.panel)))
        (⟨beAt b 0 4, beAt b 4 4, beAt b 8 4, beAt b 12 4, beAt b 16 4, beAt b 20 4, beAt b 24 4, beAt b 28 2, beAt b 30 1⟩, l)
    | none => none
  else none

/-- The registers with a field a write can change (R52): RW or RWP. -/
def regWritable (a : Nat) : Bool :=
  (fldsAt a).any (fun e => e.1.info.acc == .rw || e.1.info.acc == .rwp)

/-- REGISTER_INIT (R52). -/
def parseRegInit (b : List Byte) : Option (List (Nat × Nat)) :=
  parseItems 8 (fun x => onlyIf (decide (beAt x 0 4 < 2 ^ 24) && beAt x 0 4 % 4 == 0 && regWritable (beAt x 0 4)) (beAt x 0 4, beAt x 4 4)) b

/-- A HOST_PORTS map item (R399). -/
def parseMapItem (b : List Byte) : Option GooseMap :=
  let g : GooseMap := ⟨beAt b 0 2, beAt b 2 1, beAt b 3 1, beAt b 4 1, beAt b 5 1 == 1, beAt b 6 2, beAt b 8 2⟩
  onlyIf (decide (g.panel ≤ 15) && decide (g.kind ≤ 1) && (if g.kind == 0 then decide (g.target < 192) else decide (g.target < 64)) &&
    decide (beAt b 5 1 ≤ 1) && within 1 0xFEFF g.ep && beAt b 10 2 == 0) g

/-- A HOST_PORTS publication item (R399). -/
def parsePub (b : List Byte) : Option Publication :=
  let p : Publication := ⟨beAt b 0 1, beAt b 1 1, beAt b 2 2, beAt b 4 1, beAt b 5 1⟩
  onlyIf (within 1 3 p.ports && within 1 4094 p.vid && decide (p.pcp ≤ 7) && decide (p.panel ≤ 15) && beAt b 6 2 == 0) p

/-- A port mode of R390. -/
def portMode (m : Nat) : Bool := decide (m ≤ 3) || m == 0xF

/-- HOST_PORTS (R390, R399). -/
def parsePorts (b : List Byte) : Option HostPorts :=
  let n := beAt b 4 2
  let m := beAt b 6 2
  let f := beAt b 2 1
  if portMode (beAt b 0 1) && portMode (beAt b 1 1) && decide (f < 4) && decide (beAt b 3 1 ≤ 7) && decide (n ≤ 256) && decide (m ≤ 256) &&
      (beAt b 8 2 == 0 || within 100 10000 (beAt b 8 2)) && within 10 10000 (beAt b 10 2) && beAt b 12 4 == 0 &&
      b.length == 16 + 12 * n + 8 * m && (!bit f 0 || beAt b 0 1 == beAt b 1 1) then
    match (cutItems b 16 12 n).mapM parseMapItem, (cutItems b (16 + 12 * n) 8 m).mapM parsePub with
    | some gs, some ps => onlyIf (distinct (gs.map (fun g => (g.appid, g.panel))) && distinct (ps.map (·.index)))
        {
            mode0 := beAt b 0 1, mode1 := beAt b 1 1, prpOn := bit f 0, an := bit f 1, goosePcp := beAt b 3 1, prpLifeMs := beAt b 8 2,
            prpForgetMs := beAt b 10 2, maps := gs, pubs := ps }
    | _, _ => none
  else none

/-- One section read into the pattern; none where it is malformed. -/
def parseSection (panelPat : Bool) (t : Nat) (b : List Byte) (p : Pat) : Option Pat :=
  match t with
  | 0x01 => (parseGuard b).map (fun g => { p with guard := g })
  | 0x02 => (parseChans b).map (fun l => { p with chans := l })
  | 0x03 => (parseBandPlan panelPat b).map (fun l => if panelPat then { p with chanPlans := l } else { p with plans := l })
  | 0x04 => (parseEngines b).map (fun l => { p with engines := l })
  | 0x05 => (parseOla b).map (fun l => { p with olaParts := l })
  | 0x06 => (parseOlaItems b).map (fun l => { p with olaItems := l })
  | 0x07 => (parseHem b).map (fun x => { p with hem := x.1, windows := x.2 })
  | 0x08 => (parseLedgers b).map (fun l => { p with ledgers := l })
  | 0x09 => (parsePanels b).map (fun l => { p with panels := l })
  | 0x0A => (parseTimebases b).map (fun x => { p with tbs := x })
  | 0x0B => (parseGauge b).map (fun x => { p with gauge := x })
  | 0x0C => (parseCast b).map (fun x => { p with cast := x })
  | 0x0D => (parseSerial b).map (fun l => { p with serial := l })
  | 0x0E => (parseContacts b).map (fun x => { p with contacts := x })
  | 0x0F => (parseCarve b).map (fun l => { p with carve := l })
  | 0x10 => (parseDelivery panelPat b).map (fun x => { p with dlv := x.1, eps := x.2.1, doms := x.2.2 })
  | 0x11 => (parseDormant panelPat b).map (fun x => { p with dormHdr := x.1, dorm := x.2 })
  | 0x12 => (parseThimble b).map (fun x => { p with thimble := x.1, thimbles := x.2 })
  | 0x13 => (parseRegInit b).map (fun l => { p with regInit := l })
  | 0x14 => (parsePorts b).map (fun x => { p with ports := x })
  | _ => none

/-- Read the sections one after another. -/
def parseSections (panelPat : Bool) : List (Nat × List Byte) → Pat → Option Pat
  | [], p => some p
  | (t, b) :: l, p => match parseSection panelPat t b p with
    | some q => parseSections panelPat l { q with types := q.types ++ [t] }
    | none => none

end Sys2Proof.Machine
end

