-- ==== Sys2Proof/Machine/PatCheck.lean ====
section
/-! DEFINITION. The loader's checks over a whole pattern, in the order of R58: malformed (0x06), features (0x07),
conflicts and limits (0x08, R62 to R64), a panel pattern's grant (0x09). -/

namespace Sys2Proof.Machine

/-- The CHANNEL_MAP item of a channel. -/
def Pat.item (p : Pat) (ch : Nat) : Option ChanItem := p.chans.find? (fun i => i.channel == ch)

/-- The PANELS item of a panel. -/
def Pat.panel (p : Pat) (n : Nat) : Option PanelItem := p.panels.find? (fun i => i.panel == n)

/-- The band plan of a channel: a panel's replacement (R89), else the plan its item names. -/
def Pat.planOf (p : Pat) (i : ChanItem) : Option BandPlan :=
  (p.chanPlans.find? (fun x => x.chan == i.channel)).or (p.plans.find? (fun x => x.plan == i.plan))

/-- The owner of a serial port (R426): the panel granted it, or PNL0. -/
def Pat.serOwner (p : Pat) (i : Nat) : Nat := ((p.panels.filter (fun x => bit x.ser i)).map (·.panel)).min?.getD 0

/-- The owner of a contact (R435). -/
def Pat.cmdOwner (p : Pat) (i : Nat) : Nat := ((p.panels.filter (fun x => bit x.cmd i)).map (·.panel)).min?.getD 0

/-- The owners of the inputs a pattern places in a group. -/
def Pat.groupOwners (p : Pat) (g : Nat) : List Nat :=
  ((p.contacts.contacts.filter (fun c => c.function == 1 && c.group == g)).map (fun c => p.cmdOwner c.contact)).dedup

/-- The owner of a group (R435). -/
def Pat.groupOwner (p : Pat) (g : Nat) : Nat := (p.groupOwners g).min?.getD 0

/-- A panel holds a route's target: a channel CHANNEL_MAP gives it, or a flood domain granted to it. -/
def Pat.holds (p : Pat) (pnl kind target : Nat) : Bool :=
  if kind = 0 then (p.item target).any (fun i => i.panel == pnl) else (p.panel pnl).any (fun x => bit x.domains target)

/-- A right PANELS gives a panel. -/
def Pat.right (p : Pat) (pnl b : Nat) : Bool := (p.panel pnl).any (fun x => bit x.rights b)

/-- The feature bits a class of the Overlock table is used under (R42). -/
def classFeatures (cls : Nat) : List Nat := match cls with | 0 => [0, 6] | 1 => [1] | _ => [2]

/-- A class is in use (R42). -/
def Pat.classUsed (p : Pat) (accept cls : Nat) : Bool :=
  let c := p.olaParts.getD cls ⟨0, 0, 0⟩
  c.victims != 0 && c.nd != 0 && (classFeatures cls).any (bit accept)

/-- Entries a class occupies (R187). -/
def OlaClass.entries (c : OlaClass) : Nat := c.victims * c.nd * 1024

/-- Victims with their disturbers, of a class (R189, R191). -/
def Pat.olaSets (p : Pat) (cls : Nat) : List (Nat × List Nat) :=
  if p.types.contains 6 then (p.olaItems.filter (fun i => i.cls == cls)).map (fun i => (i.victim, i.dists))
  else
    let c := p.olaParts.getD cls ⟨0, 0, 0⟩
    (List.range c.victims).map (fun v => (v, defaultDists v (if cls = 0 then c.nd - 1 else c.nd)))

/-- A channel's pilot code (R192). -/
def Pat.code (p : Pat) (ch : Nat) : Nat :=
  ((p.olaItems.find? (fun i => i.cls != 0 && i.victim == ch)).map (·.code)).getD (ch % 64)

/-- The rules of R190 (and the disturber counts of R189) hold. -/
def Pat.olaOk (p : Pat) : Bool :=
  (List.range 3).all (fun cls =>
    let c := p.olaParts.getD cls ⟨0, 0, 0⟩
    let sets := p.olaSets cls
    let most := if cls = 0 then c.nd - 1 else c.nd
    (sets.length == c.victims) && distinct (sets.map (·.1)) &&
      sets.all (fun x => decide (x.2.length ≤ most) && distinct x.2 && !x.2.contains x.1 &&
        (cls == 0 || distinct ((x.1 :: x.2).map p.code)))) &&
    p.olaItems.all (fun i => p.olaItems.all (fun j => i.cls == 0 || j.cls == 0 || i.victim != j.victim || i.code == j.code))

/-- R88, R118: every channel's plan is defined and leaves enough data carriers. -/
def Pat.plansOk (p : Pat) : Bool :=
  p.chans.all (fun i => p.plans.any (fun x => x.plan == i.plan) && (p.planOf i).any (fun b =>
    decide (804 ≤ (dataOf (fcSet b)).length) && decide (96 ≤ (dataOf (payloadSet i.profile b)).length)))

/-- The rules of R442 that reject with 0x06. -/
def Pat.enginesOk (p : Pat) : Bool :=
  let workers := p.engines.filter (fun e => e.role == 1)
  let has (r : Nat) : Bool := p.engines.any (fun e => e.role == r)
  p.chans.all (fun i => ((workers.filter (fun e => e.owner.contains i.channel)).map (·.engine)).dedup.length == 1) &&
    workers.all (fun e => e.owner.all (fun c => c == 0xFF || (p.item c).isSome)) &&
    has 6 && has 3 && (has 2 || p.tbs.tbs.all (fun t => t.role == 0)) && (has 4 || p.chans.isEmpty) &&
    (has 5 || !p.types.contains 0x0C)

/-- The least phase length of `n` slots (R233). -/
def windowMin (n ls : Nat) : Nat := ceilDiv (n * ls * 6553600) 307692308

/-- The rules of R233 that reject with 0x06. -/
def Pat.windowsOk (p : Pat) : Bool :=
  let ls := slotSamples p.guard
  p.windows.all (fun w =>
    let n := (w.stop + 65536 - w.start) % 65536
    (w.typ != 1 || decide (windowMin 4 ls ≤ n)) && (w.typ != 0 || decide (windowMin 6 ls ≤ n))) &&
    p.chans.all (fun i => i.role != 0 || i.initial == 0 || p.windows.any (fun w => w.typ == 0 && bit w.chans i.channel))

/-- THIMBLE holds one item for each panel of PANELS (R408). -/
def Pat.thimblesOk (p : Pat) : Bool :=
  p.panels.all (fun x => p.thimbles.any (fun t => t.panel == x.panel)) && p.thimbles.all (fun t => (p.panel t.panel).isSome)

/-- The regions R449 requires are present, and narrow delivery only in narrow service (R450). -/
def Pat.carveOk (p : Pat) (accept : Nat) (narrow : Bool) : Bool :=
  let has (k : Nat) : Bool := p.carve.any (fun r => r.kind == k)
  has 0x10 && (if narrow then has 0x11 else has 2 && has 5 && has 6 && !has 0x11 && (has 4 || !p.types.contains 0x0C) &&
    (has 1 || !(List.range 3).any (p.classUsed accept)))

/-- A SERIAL item's rights and route (R426). The route is that of a port with one (R422). -/
def Pat.serOk (p : Pat) (i : SerItem) : Bool :=
  let o := p.serOwner i.port
  let routed := i.function == 2 || i.function == 3 || i.function == 4
  !routed || ((i.function != 3 || p.right o 1) && (i.kind != 1 || p.right o 2) && p.holds o i.kind i.target)

/-- The rules of R435 that join items; `base` is the full pattern, which gives the owners of the groups. -/
def Pat.contactsOk (p base : Pat) : Bool :=
  let c := p.contacts
  c.contacts.all (fun x => x.function != 1 || c.groups.any (fun g => g.group == x.group)) &&
    c.groups.all (fun g => decide ((p.groupOwners g.group).length ≤ 1) && p.right (base.groupOwner g.group) 1 &&
      p.holds (base.groupOwner g.group) g.kind g.target)

/-- An endpoint of kind 0x3 names a publication of its panel (R399). -/
def Pat.pubOk (p : Pat) (e : Endpoint) : Bool := e.kind != 3 || p.ports.pubs.any (fun x => x.index == e.target && x.panel == e.panel)

/-- An endpoint of kind 0x1 names a port whose function takes messages (R426). -/
def Pat.serEpOk (p : Pat) (e : Endpoint) : Bool :=
  e.kind != 1 || p.serial.any (fun i => i.port == e.target && decide (2 ≤ i.function))

/-- The rules of R296 and R300 on a DORMANT item. -/
def Pat.dormOk (p : Pat) (d : DormItem) : Bool :=
  (p.item d.channel).any (fun i => i.role == 0 && (p.planOf i).any (fun b => !notched b (79 + 12 * d.carrier)))

/-- The `next_span` a pattern sets, else its reset value (R194). -/
def Pat.nextSpan (p : Pat) : Nat :=
  64 * (((p.regInit.filter (fun e => e.1 == 0x240040)).getLast?.map (fun e => bits e.2 8 4)).getD 3 + 1)

/-- No check over several sections rejects with 0x06; `pubs` tells the endpoints' publications are among them. -/
def Pat.wellMade (p base : Pat) (accept : Nat) (narrow pubs : Bool) : Bool :=
  p.plansOk && p.enginesOk && p.olaOk && p.windowsOk && p.thimblesOk && p.carveOk accept narrow && p.serial.all p.serOk &&
    p.contactsOk base && distinct (p.eps.map (·.ep)) && p.eps.all p.serEpOk && (!pubs || p.eps.all p.pubOk) &&
    p.ports.maps.all (fun g => p.holds g.panel g.kind g.target) && p.dorm.all p.dormOk &&
    decide (p.nextSpan + 128 ≤ guardSamples p.guard)

/-- The sections a full pattern must hold (R51). -/
def requiredTypes : List Nat := [1, 2, 4, 7, 9, 0xF, 0x12]

/-- The sections a panel pattern may hold (R51). -/
def panelTypes : List Nat := [2, 3, 0xD, 0xE, 0x10, 0x11, 0x12, 0x13]

/-- A check of features fails (0x07): `accept` is the accepted set of word 0, `all` of all four words, `flash` that it is the
pattern's own (R46, R67, R173, R300, R307, R387, R526). -/
def Pat.featBad (p : Pat) (accept all offer : Nat) (flash full : Bool) : Bool :=
  let force (b : Nat) : Bool := bit accept b && bit offer b
  p.hdr.features &&& all != p.hdr.features || (flash && p.hdr.features &&& offer != p.hdr.features) ||
    (full && bit offer 14 && !bit accept 14) || (p.chans.any (fun i => i.profile == 2) && !bit accept 5) ||
    (p.types.contains 0x11 && !force 9) || (p.types.contains 0x0C && !force 6) ||
    ((p.tbs.tcOn || p.tbs.tcChans != 0) && !force 7) || (!p.tbs.pairs.isEmpty && !force 8)

/-- A conflict or limit exceeded: kind, contested unit, claimants A and B (R63). -/
structure Conflict where
  kind : Nat
  unit : Nat
  a : Nat
  b : Nat
  deriving DecidableEq, Repr

/-- A claimant (R63). -/
def claim (sec item : Nat) : Nat := sec * 65536 + item % 65536
/-- Claimant B of a device limit. -/
def limitB : Nat := 0xFFFFFFFF
/-- The item of a header's claim. -/
def hdrItem : Nat := 0xFFFF

/-- The pairs of a list with their indices, the first before the second. -/
def pairsOf {α : Type} (l : List α) : List ((α × Nat) × (α × Nat)) :=
  l.zipIdx.flatMap (fun x => (l.zipIdx.filter (fun y => x.2 < y.2)).map (fun y => (x, y)))

/-- Conflicts of PANELS (R405): VIDs, serial ports, contacts. -/
def Pat.panelConflicts (p : Pat) : List Conflict :=
  (pairsOf p.panels).flatMap (fun e =>
    let x := e.1.1
    let y := e.2.1
    let a := claim 9 e.1.2
    let b := claim 9 e.2.2
    (([x.dataVid, x.mgmtVid].filter (fun v => v != 0 && (v == y.dataVid || v == y.mgmtVid))).map (fun v => (⟨0x0B, v, a, b⟩ : Conflict)))
      ++ (((List.range 8).filter (fun i => bit x.ser i && bit y.ser i)).map (fun i => (⟨0x0E, i, a, b⟩ : Conflict)))
      ++ (((List.range 16).filter (fun i => bit x.cmd i && bit y.cmd i)).map (fun i => (⟨0x01, i, a, b⟩ : Conflict))))

/-- Conflicts of ENGINE_ALLOC (R442). -/
def Pat.engineConflicts (p : Pat) (works : Nat → Bool) : List Conflict :=
  ((pairsOf p.engines).filterMap (fun e =>
    if e.1.1.engine = e.2.1.engine then some (⟨0x02, e.1.1.engine, claim 4 e.1.2, claim 4 e.2.2⟩ : Conflict) else none))
    ++ (p.engines.zipIdx.filterMap (fun e => if works e.1.engine then none else some (⟨0x02, e.1.engine, claim 4 e.2, limitB⟩ : Conflict)))

/-- The first number two spans share. -/
def sharedFrom (a n b m : Nat) : Option Nat := if max a b < min (a + n) (b + m) then some (max a b) else none

/-- Conflicts of OLA_PARTITION (R188). -/
def Pat.olaConflicts (p : Pat) : List Conflict :=
  ((pairsOf p.olaParts).filterMap (fun e =>
    (sharedFrom e.1.1.base e.1.1.entries e.2.1.base e.2.1.entries).map (fun u => (⟨0x03, u, claim 5 e.1.2, claim 5 e.2.2⟩ : Conflict))))
    ++ (p.olaParts.zipIdx.filterMap (fun e =>
      if e.1.entries ≠ 0 ∧ 16777216 < e.1.base + e.1.entries then some (⟨0x03, 16777216, claim 5 e.2, limitB⟩ : Conflict) else none))

/-- Conflicts of MEM_CARVE (R450): stacked memory in MiB, the Spool in bytes; in narrow service a stacked region is refused as
such. -/
def Pat.carveConflicts (p : Pat) (narrow : Bool) : List Conflict :=
  let kindOf (m : Nat) : Nat := if m = 0 then 0x04 else 0x07
  let unitOf (m u : Nat) : Nat := if m = 0 then u / mib else u
  let sizeOf (m : Nat) : Nat := if m = 0 then stackedSize else spoolSize
  let plain (r : CarveItem) : Bool := !(narrow && r.memory == 0)
  ((pairsOf p.carve).filterMap (fun e =>
    let x := e.1.1
    let y := e.2.1
    if x.memory = y.memory ∧ plain x = true then
      (sharedFrom x.offset x.size y.offset y.size).map (fun u => (⟨kindOf x.memory, unitOf x.memory u, claim 15 e.1.2, claim 15 e.2.2⟩ : Conflict))
    else none))
    ++ (p.carve.zipIdx.filterMap (fun e =>
      let r := e.1
      if plain r = false then some (⟨0x0D, 0, claim 15 e.2, limitB⟩ : Conflict)
      else if sizeOf r.memory < r.offset + r.size then
        some (⟨kindOf r.memory, unitOf r.memory (sizeOf r.memory), claim 15 e.2, limitB⟩ : Conflict)
      else none))

/-- The running sum of a list of claims first exceeds a bound at this claimant. -/
def firstOver (bound : Nat) : Nat → List (Nat × Nat) → Option Nat
  | _, [] => none
  | acc, (v, a) :: l => if bound < acc + v then some a else firstOver bound (acc + v) l

/-- Conflicts of THIMBLE (R409); `units` is the number of working Viterbi units. -/
def Pat.thimbleConflicts (p : Pat) (accept units : Nat) (narrow : Bool) : List Conflict :=
  let ls := slotSamples p.guard
  let cm := 18840 * ls
  let h := p.thimble
  let items := p.thimbles.zipIdx
  let item (k : Nat) : Nat := claim 0x12 k
  let head := h.memOlr + h.memProt + h.memCast + h.memLi + h.memOlw + h.memBg
  let need := 4 * (((List.range 3).filter (p.classUsed accept)).map (fun c => (p.olaParts.getD c ⟨0, 0, 0⟩).entries)).foldl (· + ·) 0
  let cap := poolCap ls 576 units
  let room := ((p.carve.filter (fun r => r.kind == 0x10)).map (·.size)).foldl (· + ·) 0
  let chansOf (n : Nat) : Nat := (p.chans.filter (fun i => i.panel == n)).length
  let at1 (c : Option Nat) (k u : Nat) : List Conflict := (c.map (fun a => (⟨k, u, a, limitB⟩ : Conflict))).toList
  at1 (firstOver cm 0 ((head, item hdrItem) :: items.map (fun e => (e.1.mem, item e.2)))) 0x05 cm
    ++ (if !narrow && h.memOlr < need then [(⟨0x05, need, item hdrItem, claim 5 hdrItem⟩ : Conflict)] else [])
    ++ at1 (firstOver cap h.protDec (items.map (fun e => (e.1.dec, item e.2)))) 0x09 cap
    ++ (items.filterMap (fun e =>
      if 295 * chansOf e.1.panel < e.1.air then some (⟨0x0A, chansOf e.1.panel, item e.2, limitB⟩ : Conflict) else none))
    ++ at1 (firstOver room 0 (items.map (fun e => (e.1.credits.foldl (· + ·) 0 * 16448, item e.2)))) 0x07 room

/-- The nominal θ of a CHANNEL_MAP item (R229). -/
def Pat.nominalTheta (p : Pat) (i : ChanItem) : Nat := if i.coupling = 3 then 0 else (i.coupling + 3 - p.hem.refLine) % 3 * 21845

/-- Two windows meet on a channel whose θ is given (R232, R233). -/
def windowsMeet (w v : Window) (theta : Nat) : Bool :=
  let from1 (x : Window) : Nat := if x.localPhase then (x.start + theta) % 65536 else x.start
  let len (x : Window) : Nat := (x.stop + 65536 - x.start) % 65536
  decide ((from1 v + 65536 - from1 w) % 65536 < len w) || decide ((from1 w + 65536 - from1 v) % 65536 < len v)

/-- Overlapping windows (R233). -/
def Pat.windowConflicts (p : Pat) : List Conflict :=
  (pairsOf p.windows).flatMap (fun e => p.chans.filterMap (fun i =>
    if bit e.1.1.chans i.channel && bit e.2.1.chans i.channel && windowsMeet e.1.1 e.2.1 (p.nominalTheta i) then
      some (⟨0x0A, i.channel, claim 7 e.1.2, claim 7 e.2.2⟩ : Conflict)
    else none))

/-- Conflicts of TIMEBASES (R308). Pair j is item `tb_count` + j. -/
def Pat.timeConflicts (p : Pat) : List Conflict :=
  let n := p.tbs.tbs.length
  let role (k : Nat) : Nat := ((p.tbs.tbs.find? (fun t => t.tb == k)).map (·.role)).getD 0
  let itemOf (k : Nat) : Option Nat := p.tbs.tbs.findIdx? (fun t => t.tb == k)
  let names (x : PairItem) : List Nat := [x.out, x.primary, x.secondary]
  let bad (k j : Nat) : Conflict := match itemOf k with
    | some i => ⟨0x06, k, claim 10 i, claim 10 (n + j)⟩
    | none => ⟨0x06, k, claim 10 (n + j), claim 10 hdrItem⟩
  ((pairsOf p.tbs.pairs).flatMap (fun e => ((names e.1.1).filter (names e.2.1).contains).map
      (fun k => (⟨0x06, k, claim 10 (n + e.1.2), claim 10 (n + e.2.2)⟩ : Conflict))))
    ++ (p.tbs.pairs.zipIdx.flatMap (fun e =>
      ((if role e.1.out = 4 then [] else [e.1.out])
        ++ [e.1.primary, e.1.secondary].filter (fun k => role k == 0 || role k == 1 || role k == 4)).map (fun k => bad k e.2)))

/-- A channel in two domains (R278). -/
def Pat.domConflicts (p : Pat) : List Conflict :=
  let n := p.eps.length
  (pairsOf p.doms).flatMap (fun e => ((List.range 192).filter (fun c => bit e.1.1.chans c && bit e.2.1.chans c)).map
    (fun c => (⟨0x0C, c, claim 16 (n + e.1.2), claim 16 (n + e.2.2)⟩ : Conflict)))

/-- The descriptor quotas exceed the pool (R278). -/
def Pat.quotaConflicts (p : Pat) (narrow : Bool) : List Conflict :=
  let pool := if narrow then 16384 else 262144
  if pool < (p.dlv.quotas.filter (· != 0xFFFFFFFF)).foldl (· + ·) 0 + p.dlv.protDesc then
    [⟨if narrow then 0x0D else 0x04, pool, claim 16 hdrItem, limitB⟩]
  else []

/-- Conflicts of CAST with its region (R387). -/
def Pat.castConflicts (p : Pat) : List Conflict :=
  if p.types.contains 0x0C then
    let c := p.cast
    let b := castBlocks c.ringGib ((List.range 192).filter (bit c.chans)).length
    let need := c.regions * (ceilDiv ((c.preMs + c.postMs) * 100000) 16384 + 1)
    (p.carve.filterMap (fun r =>
      if r.kind = 4 ∧ r.size < c.ringGib * 1024 * mib then some (⟨0x04, r.size / mib, claim 12 hdrItem, limitB⟩ : Conflict) else none))
      ++ (if b < 2 * need then [⟨0x04, b, claim 12 hdrItem, limitB⟩] else [])
  else []

/-- The largest receive span a pattern sets for a channel (R148), else the reset value of `li_span`. -/
def Pat.liSpan (p : Pat) (ch : Nat) : Nat :=
  64 * (((p.regInit.filter (fun e => e.1 == 0x180020 + 0x400 * ch)).map (fun e => bits e.2 0 6)).max?.getD 31 + 1)

/-- An interleaver region smaller than its channel's delay lines (R148). -/
def Pat.liConflicts (p : Pat) : List Conflict :=
  p.carve.zipIdx.filterMap (fun e =>
    if e.1.kind = 3 then
      match p.item e.1.channel with
      | some i =>
        let d := (((p.planOf i).map (fun b => (dataOf (payloadSet i.profile b)).length)).getD 0)
        if e.1.size < 12 * d * p.liSpan i.channel then some (⟨0x04, e.1.size / mib, claim 15 e.2, limitB⟩ : Conflict) else none
      | none => none
    else none)

/-- What exceeds the limits of narrow service (R44, R45): the head of the first item, the channels, the endpoint table. -/
def Pat.narrowConflicts (p : Pat) : List Conflict :=
  let head := (p.chans.head?.map (fun i => headOf i.channel)).getD 0
  (p.chans.zipIdx.filterMap (fun e =>
    if headOf e.1.channel = head then none else some (⟨0x0D, e.1.channel, claim 2 e.2, limitB⟩ : Conflict)))
    ++ (if 24 < p.chans.length then [⟨0x0D, 24, claim 2 24, limitB⟩] else [])
    ++ (if 4096 < p.eps.length then [⟨0x0D, 4096, claim 16 4096, limitB⟩] else [])

/-- Every conflict of a full pattern. -/
def Pat.conflicts (p : Pat) (accept units : Nat) (works : Nat → Bool) (narrow : Bool) : List Conflict :=
  p.panelConflicts ++ p.engineConflicts works ++ p.olaConflicts ++ p.carveConflicts narrow ++ p.thimbleConflicts accept units narrow
    ++ p.windowConflicts ++ p.timeConflicts ++ p.domConflicts ++ p.quotaConflicts narrow ++ p.castConflicts ++ (if narrow then [] else p.liConflicts)
    ++ (if narrow then p.narrowConflicts else [])

/-- Every conflict a panel pattern can bring into the pattern it modifies. -/
def Pat.panelPatConflicts (p : Pat) (narrow : Bool) : List Conflict :=
  p.domConflicts ++ (if narrow then [] else p.liConflicts) ++ (if narrow then p.narrowConflicts else [])

/-- The order of R64. -/
def Conflict.before (x y : Conflict) : Bool :=
  if x.kind ≠ y.kind then decide (x.kind < y.kind)
  else if x.unit ≠ y.unit then decide (x.unit < y.unit)
  else if x.a ≠ y.a then decide (x.a < y.a)
  else decide (x.b < y.b)

/-- The conflict reported (R64). -/
def leastConflict (l : List Conflict) : Option Conflict :=
  l.foldl (fun (m : Option Conflict) c => match m with
    | none => some c
    | some d => if c.before d then some c else some d) none

/-- A panel's replacement of a band plan stays within the full pattern's plan (R89). -/
def planWithin (new old : BandPlan) : Bool :=
  decide (old.low ≤ new.low) && decide (new.high ≤ old.high) &&
    (carrierRange 74 3522).all (fun c => (!notched old c || notched new c) && decide (maskDb old c ≤ maskDb new c))

/-- A panel's contact item may stand (R435): the contact is granted, and an input goes to a group without another's input. -/
def Pat.contactGranted (full : Pat) (n : Nat) (c : ContactItem) : Bool :=
  (full.panel n).any (fun x => bit x.cmd c.contact) && (c.function != 1 || (full.groupOwners c.group).all (· == n))

/-- A panel pattern stays within what the full pattern grants the panel (R51, R89, R278, R399, R408, R426, R435); `alias`
tells its alias window. -/
def Pat.granted (full new merged : Pat) (n : Nat) (alias1 : Nat → Bool) : Bool :=
  let own (ch : Nat) : Bool := (full.item ch).any (fun i => i.panel == n)
  let x : PanelItem := (full.panel n).getD { panel := n }
  new.types.all panelTypes.contains &&
    new.chans.all (fun i => own i.channel && full.item i.channel == some { i with
      initial := ((full.item i.channel).map (·.initial)).getD 0
      role := ((full.item i.channel).map (·.role)).getD 0
      profile := ((full.item i.channel).map (·.profile)).getD 0 }) &&
    new.chanPlans.all (fun b => own b.chan && ((full.item b.chan).bind full.planOf).any (planWithin b)) &&
    new.serial.all (fun i => bit x.ser i.port) &&
    new.contacts.contacts.all (full.contactGranted n) &&
    new.contacts.groups.all (fun g => full.groupOwners g.group == [n]) &&
    new.eps.all (fun e => e.panel == n && merged.pubOk e) && new.doms.all (fun d => bit x.domains d.domain) &&
    new.dorm.all (fun d => own d.channel) &&
    (!new.types.contains 0x12 || (new.thimble == full.thimble && new.thimbles.all (fun t =>
      (full.thimbles.find? (fun u => u.panel == n)).any (fun u => t == { u with classAir := t.classAir, credits := t.credits } &&
        t.credits.foldl (· + ·) 0 == u.credits.foldl (· + ·) 0)))) &&
    new.regInit.all (fun e => alias1 e.1)

/-- Replace the items of a list that a key identifies by new ones, and add those of new keys. -/
def mergeItems {α : Type} (key : α → Nat) (old new : List α) : List α :=
  old.map (fun o => (new.find? (fun x => key x == key o)).getD o) ++ new.filter (fun x => !old.any (fun o => key o == key x))

/-- A panel pattern's items in the pattern it modifies (R60, R89, R278, R300, R408, R426, R435): those within the grant. -/
def Pat.mergePanel (base full new : Pat) (n : Nat) : Pat :=
  let own (ch : Nat) : Bool := (full.item ch).any (fun i => i.panel == n)
  let x : PanelItem := (full.panel n).getD { panel := n }
  let eps := if new.types.contains 0x10 then base.eps.filter (fun e => e.panel != n) ++ new.eps.filter (fun e => e.panel == n) else base.eps
  { base with
    chans := base.chans.map (fun i => match new.chans.find? (fun j => j.channel == i.channel && own i.channel) with
      | some j => { i with initial := j.initial, role := j.role, profile := j.profile }
      | none => i)
    chanPlans := mergeItems (·.chan) base.chanPlans (new.chanPlans.filter (fun b => own b.chan))
    serial := mergeItems (·.port) base.serial (new.serial.filter (fun i => bit x.ser i.port))
    contacts := ⟨mergeItems (·.contact) base.contacts.contacts (new.contacts.contacts.filter (full.contactGranted n)),
      mergeItems (·.group) base.contacts.groups (new.contacts.groups.filter (fun g => full.groupOwners g.group == [n]))⟩
    eps := eps
    doms := mergeItems (·.domain) base.doms (new.doms.filter (fun d => bit x.domains d.domain))
    dorm := if new.types.contains 0x11 then base.dorm.filter (fun d => !own d.channel) ++ new.dorm.filter (fun d => own d.channel)
      else base.dorm
    types := (base.types ++ (if new.types.contains 0x11 then [0x11] else [])).dedup
    thimbles := base.thimbles.map (fun u => match new.thimbles.find? (fun t => t.panel == n && u.panel == n) with
      | some t => { u with classAir := t.classAir, credits := t.credits }
      | none => u) }

end Sys2Proof.Machine
end

