-- ==== Sys2Proof/Machine/Loader.lean ====
section
/-! DEFINITION. The pattern loader (R46 to R71, R461): its commands, verification, checking and rejection. The loader states
of R53 are 0 IDLE, 1 RECEIVING, 2 VERIFYING, 3 CHECKING, 4 APPLYING. -/

namespace Sys2Proof.Machine

/-- `PAT_STATUS.loader_state`. -/
def State.loader (s : State) : Nat := s.fld .PAT_STATUS_loader_state 0

/-- Enter a loader state. -/
def State.setLoader (s : State) (n : Nat) : State := s.setFld .PAT_STATUS_loader_state 0 n

/-- Change what the loader holds. -/
def State.updLdr (s : State) (f : LdrSt → LdrSt) : State := { s with ldr := f s.ldr }

/-- The four words of a register value as one number. -/
def State.words4 (s : State) (F : Fld) : Nat :=
  (List.range 4).foldl (fun (a : Nat) k => a + 2 ^ (32 * k) * s.fld F k) 0

/-- Set the four words of a register value. -/
def State.setWords4 (s : State) (F : Fld) (v : Nat) : State :=
  (List.range 4).foldl (fun (s : State) k => s.setFld F k (bits v (32 * k) 32)) s

/-- The accepted set (R70). -/
def State.acceptSet (s : State) : Nat := s.words4 .FEAT_ACCEPT_accept

/-- The offered set (R69). -/
def State.offerSet (s : State) : Nat := s.words4 .FEAT_OFFER_offer

/-- Recovery (R66): `BOOT_SEL` 0b11. -/
def State.recovery (s : State) : Bool := s.fld .PWR_STRAPS_boot_sel 0 == 3

/-- The largest pattern of a kind (R47). -/
def patMax (kind : Nat) : Nat := if kind = 2 then 1048576 else 16777216

/-- The bytes staged (R47). -/
def State.staged (s : State) : List Byte := memBytes s.ldr.stage 0 s.ldr.top

/-- End the load: the staged bytes are discarded and the accepted set in force is restored where the load was full (R71). -/
def State.endLoad (s : State) : State :=
  let s := if s.ldr.kind = 1 then s.setWords4 .FEAT_ACCEPT_accept s.ldr.accept else s
  (s.updLdr (fun l => { l with stage := [], top := 0, cmd := none, flash := none, parsed := none })).setLoader 0

/-- Show a rejection (R57, R63), count it and log it. -/
def State.showReject (s : State) (code : Nat) (c : Option Conflict) : State :=
  let x : Conflict := c.getD ⟨0, 0, 0, 0⟩
  let s := (s.setFld .PAT_STATUS_last_reject 0 code).setFld .PAT_STATUS_conflict_kind 0 x.kind
  let s := (s.setFld .PAT_CONFLICT_A_item 0 x.a).setFld .PAT_CONFLICT_A_section 0 (x.a / 65536)
  let s := (s.setFld .PAT_CONFLICT_B_item 0 x.b).setFld .PAT_CONFLICT_B_section 0 (x.b / 65536)
  ((s.setFld .PAT_CONFLICT_UNIT_unit 0 x.unit).bump .PAT_REJECT_CNT_rejects 0).log 0x0302 noPanel noInst (code + 256 * x.kind)

/-- The result code of a rejection (R57). -/
def rejectRes (code : Nat) : Res :=
  match code with
  | 1 | 2 | 6 => .badArg
  | 7 => .notNegotiated
  | 8 => .conflict
  | 0xA => .busy
  | _ => .denied

/-- What PATTERN_COMMIT answers on a rejection (R57, R63). -/
def rejectResp (code : Nat) (c : Option Conflict) : Resp :=
  ⟨rejectRes code, match c with
    | some x => le 4 x.kind ++ le 4 x.a ++ le 4 x.b ++ le 4 x.unit
    | none => []⟩

/-- A load is rejected (R53, R54, R57): the pattern in service stays as it is. -/
def State.reject (s : State) (code : Nat) (c : Option Conflict) : State :=
  let cmd := s.ldr.cmd
  let s := (s.showReject code c).endLoad
  match cmd with
  | some k => s.completeCmd k 0x0303 (rejectResp code c)
  | none => s

/-- The panel patterns that wait for their Hem boundary are dropped for some panels (R60, R542): their loads were cut short. -/
def State.dropPending (s : State) (pick : Nat → Bool) : State :=
  let l := s.ldr.pend.filter (fun e => pick e.1)
  let s := s.updLdr (fun x => { x with pend := x.pend.filter (fun e => !pick e.1) })
  l.foldl (fun (s : State) e =>
    let s := s.showReject 0xA none
    match e.2.cmd with
    | some k => s.completeCmd k 0x0303 (rejectResp 0xA none)
    | none => s) s

/-- PATTERN_BEGIN (R53, R55, R56, R66, R461). -/
def opPatternBegin (p kind panel : Nat) (s : State) : State × Option Resp :=
  if !((kind == 1 && panel == 0) || (kind == 2 && within 1 15 panel)) then refuse s .badArg
  else if (kind = 1 ∧ p ≠ 0) ∨ (kind = 2 ∧ p ≠ 0 ∧ p ≠ panel) ∨ s.recovery = true ∨ s.owned = false then refuse s .denied
  else
    let go : State × Option Resp :=
      let cut := decide (s.loader = 1) && s.ldr.kind == 2 && kind == 1
      if s.loader ≠ 0 ∧ cut = false then refuse s .busy
      else
        let s := if cut then s.reject 0xA none else s
        let acc := s.acceptSet
        ((s.updLdr (fun l => { l with stage := [], top := 0, kind := kind, panel := panel, by_ := p, flash := none, accept := acc })).setLoader 1,
          some (rsp .ok))
    if kind = 2 then featGate s 12 go else go

/-- A command only the panel that began the load may give in RECEIVING (R55). -/
def receiving (s : State) (p : Nat) (later : Res) (k : State × Option Resp) : State × Option Resp :=
  if s.loader = 0 then refuse s .badState
  else if s.loader ≠ 1 then refuse s later
  else if p ≠ s.ldr.by_ then refuse s .denied
  else k

/-- PATTERN_DATA (R61). -/
def opPatternData (p off : Nat) (data : List Byte) (s : State) : State × Option Resp :=
  if data.length = 0 ∨ 52 < data.length then refuse s .badArg
  else receiving s p .badState (
    if patMax s.ldr.kind < off + data.length then refuse s .badArg
    else (s.updLdr (fun l => { l with stage := memStores l.stage off data, top := max l.top (off + data.length) }), some (rsp .ok)))

/-- PATTERN_COMMIT (R53): answered when the load is sealed or rejected. -/
def opPatternCommit (c : Cmd) (s : State) : State × Option Resp :=
  receiving s c.pnl .badState ((s.updLdr (fun l => { l with cmd := some c, commitAt := s.tick })).setLoader 2, none)

/-- PATTERN_ABORT (R53, R71). -/
def opPatternAbort (p : Nat) (s : State) : State × Option Resp := receiving s p .busy (s.endLoad, some (rsp .ok))

/-- PATTERN_STORE (R56, R68): the slot is invalid until the write has been checked. -/
def opPatternStore (p slot : Nat) (s : State) : State × Option Resp :=
  if 1 < slot then refuse s .badArg
  else if p ≠ 0 then refuse s .denied
  else if 2 ≤ s.loader ∨ s.ldr.storing.isSome = true then refuse s .busy
  else if s.isSealed = false then refuse s .badState
  else
    (s.updLdr (fun l => { l with slots := tput {} slot ⟨l.image, false⟩ l.slots, storing := some slot }), some (rsp .ok))

/-- FEATURE_ACCEPT (R56, R70, R71). -/
def opFeatureAccept (p : Nat) (ws : List Nat) (s : State) : State × Option Resp :=
  if p ≠ 0 then refuse s .denied
  else if 2 ≤ s.loader then refuse s .busy
  else if s.acceptOpen = false then refuse s .badState
  else if (List.range 4).any (fun k => ws.getD k 0 % 2 ^ 32 != ws.getD k 0 % 2 ^ 32 &&& s.fld .FEAT_OFFER_offer k) then
    refuse s .notNegotiated
  else ((List.range 4).foldl (fun (s : State) k => s.setFld .FEAT_ACCEPT_accept k (ws.getD k 0)) s, some (rsp .ok))

/-- PATTERN_QUERY (R79). -/
def opPatternQuery (p : Nat) (s : State) : State × Option Resp :=
  (s, some ⟨.ok, le 8 ((s.full.map (fun q => q.hdr.serial)).getD 0) ++ le 8 (if p = 0 then 0 else tget 0 p s.ldr.serials)⟩)

/-- PATTERN_BEGIN. -/
def execPatternBegin (c : Cmd) (kind panel : Nat) (s : State) : Host.Outcome State Fault Refusal :=
  .next (ohi s c 0x0301 (opPatternBegin c.pnl kind panel s))

/-- PATTERN_DATA. -/
def execPatternData (c : Cmd) (off : Nat) (data : List Byte) (s : State) : Host.Outcome State Fault Refusal :=
  .next (ohi s c 0x0302 (opPatternData c.pnl off data s))

/-- PATTERN_COMMIT. -/
def execPatternCommit (c : Cmd) (s : State) : Host.Outcome State Fault Refusal :=
  .next (ohi s c 0x0303 (opPatternCommit c s))

/-- PATTERN_ABORT. -/
def execPatternAbort (c : Cmd) (s : State) : Host.Outcome State Fault Refusal :=
  .next (ohi s c 0x0304 (opPatternAbort c.pnl s))

/-- PATTERN_STORE. -/
def execPatternStore (c : Cmd) (slot : Nat) (s : State) : Host.Outcome State Fault Refusal :=
  .next (ohi s c 0x0305 (opPatternStore c.pnl slot s))

/-- FEATURE_ACCEPT. -/
def execFeatureAccept (c : Cmd) (w0 w1 w2 w3 : Nat) (s : State) : Host.Outcome State Fault Refusal :=
  .next (ohi s c 0x0306 (opFeatureAccept c.pnl [w0, w1, w2, w3] s))

/-- PATTERN_QUERY. -/
def execPatternQuery (c : Cmd) (s : State) : Host.Outcome State Fault Refusal :=
  .next (ohi s c 0x0307 (opPatternQuery c.pnl s))

/-- PATTERN_STORE_DONE: the slot written is valid where its read-back agrees with the digest (R68). -/
def execPatternStoreDone (readBack : Bool) (s : State) : Host.Outcome State Fault Refusal :=
  .next (match s.ldr.storing with
    | none => s
    | some k => s.updLdr (fun l => { l with slots := tput {} k { tget {} k l.slots with valid := readBack } l.slots, storing := none }))

/-- The public key a pattern is verified with (R50): the owner key in force, or the panel's key of PANELS. -/
def State.patternKey (s : State) (h : PatHdr) : Option (List Byte) :=
  if h.kind = 1 then s.ownerKey
  else match s.full with
    | some f => (f.panel h.panel).bind (fun x => if x.keyLen = 0 then none else some x.key)
    | none => none

/-- The first check of a load that fails before its sections are read (R46, R47, R50, R57, R58). -/
def State.verifyFail (s : State) : Option Nat :=
  let b := s.staged
  let h := parseHdr b
  let n := s.ldr.top
  if hdrBad b h s.ldr.kind s.ldr.panel then some 1
  else if h.total ≠ n ∨ n % 4 ≠ 0 ∨ patMax h.kind < n then some 2
  else if (h.fuseId ≠ 0 ∧ h.fuseId ≠ s.fuseId) ∨ (h.kind = 2 ∧ some h.parent ≠ s.full.map (fun q => q.hdr.serial)) then some 3
  else if h.rollback < s.fld .SEC_ROLLBACK_pat_level 0 then some 4
  else match s.patternKey h with
    | none => some 5
    | some k =>
      if 1280 ≤ n ∧ Config.falconVerify k (Config.shake256 (b.take (n - 1280))) (b.drop (n - 1280)) = true then none else some 5

/-- LOADER_VERIFY_DONE: the header, length, target, rollback and signature checks are complete (R53, R58). -/
def execLoaderVerifyDone (s : State) : Host.Outcome State Fault Refusal :=
  .next (
    if s.loader ≠ 2 then s
    else match s.verifyFail with
      | some code => s.reject code none
      | none => s.setLoader 3)

/-- What checking a pattern gave: the pattern to apply, or why it is rejected. -/
inductive Checked where
  | good (p : Pat)
  | bad (code : Nat) (c : Option Conflict)
  deriving DecidableEq, Repr

/-- A section list as R46, R48, R49 and R51 want it. -/
def sectionsOk (x : Sections) (h : PatHdr) : Bool :=
  x.ok && x.count == h.count && distinct (x.list.map (·.1)) && (h.kind == 2 || requiredTypes.all (x.list.map (·.1)).contains)

/-- The checks of a full pattern (R58). A pattern from flash has its own `required_features` as the accepted set (R67). -/
def State.checkFull (s : State) (b : List Byte) : Checked :=
  let h := parseHdr b
  let x := sectionsOf b
  let flash := s.ldr.flash.isSome
  let all := if flash then h.features else s.acceptSet
  let acc := all % 2 ^ 32
  let narrow := s.offered 14
  let p0 : Pat := { hdr := h, skips := x.skips }
  match if sectionsOk x h then parseSections false x.list p0 else none with
  | none => .bad 6 none
  | some p =>
    if p.wellMade p acc narrow true = false then .bad 6 none
    else if p.featBad acc all s.offerSet flash true then .bad 7 none
    else match leastConflict (p.conflicts acc (s.fld .COD_POOL_STATUS_vit_units 0) (fun n => !(s.bobbin n).fault) narrow) with
      | some c => .bad 8 (some c)
      | none => .good p

/-- The checks of a panel pattern (R51, R58): those of the pattern it makes, then its grant. -/
def State.checkPanel (s : State) (b : List Byte) : Checked :=
  let h := parseHdr b
  let x := sectionsOf b
  let all := s.acceptSet
  let acc := all % 2 ^ 32
  let n := h.panel
  match if sectionsOk x h then parseSections true x.list { hdr := h, skips := x.skips } else none, s.full with
  | some new, some full =>
    let m := s.pat.mergePanel full new n
    if (new.chans.all (fun i => full.plans.any (fun x => x.plan == i.plan)) && m.wellMade full acc s.narrow false) = false then .bad 6 none
    else if { m with hdr := h, tbs := {}, types := new.types }.featBad acc all s.offerSet false false then .bad 7 none
    else match leastConflict (m.panelPatConflicts s.narrow) with
      | some c => .bad 8 (some c)
      | none => if full.granted new m n (s.inAlias n) then .good new else .bad 9 none
  | _, _ => .bad 6 none

/-- LOADER_CHECK_DONE: the section, feature and conflict checks are complete (R53, R54, R58). A panel pattern that passes waits
for its Hem boundary with the loader IDLE (R542). -/
def execLoaderCheckDone (s : State) : Host.Outcome State Fault Refusal :=
  .next (
    if s.loader ≠ 3 then s
    else
      let b := s.staged
      let s := s.bumpN .PAT_REJECT_CNT_skips 0 (sectionsOf b).skips
      match if s.ldr.kind = 1 then s.checkFull b else s.checkPanel b with
      | .bad code c => s.reject code c
      | .good p =>
        if s.ldr.kind = 1 then (s.updLdr (fun l => { l with parsed := some p })).setLoader 4
        else
          let e : PanelPat := { pat := p, tick := s.ldr.commitAt, bytes := b.take (b.length - 1280), cmd := s.ldr.cmd }
          let s := s.dropPending (· == p.hdr.panel)
          (s.updLdr (fun l => { l with pend := tset p.hdr.panel e l.pend })).endLoad)

/-- The next flash slot that holds a pattern (R66): empty and invalid slots are passed over. -/
def nextFlash (slots : Tbl FlashSlot) : List Nat → Option (Nat × List Nat)
  | [] => none
  | k :: l => if (tget {} k slots).valid && !(tget {} k slots).bytes.isEmpty then some (k, l) else nextFlash slots l

/-- FLASH_PATTERN_LOAD: the device stages the next slot that `BOOT_SEL` names (R66, R67, R461); its `required_features` are the
accepted set. -/
def execFlashPatternLoad (s : State) : Host.Outcome State Fault Refusal :=
  .next (
    if s.loader ≠ 0 ∨ s.isSealed = true ∨ s.recovery = true ∨ s.owned = false then s
    else match nextFlash s.ldr.slots s.ldr.sources with
      | none => s.updLdr (fun l => { l with sources := [] })
      | some (k, rest) =>
        let b := (tget {} k s.ldr.slots).bytes
        let acc := s.acceptSet
        let s := s.updLdr (fun l => { l with
          stage := memStores [] 0 b, top := b.length, kind := 1, panel := 0, by_ := 0, cmd := none, commitAt := s.tick
          flash := some k, sources := rest, accept := acc })
        (s.setWords4 .FEAT_ACCEPT_accept (parseHdr b).features).setLoader 2)

end Sys2Proof.Machine
end

