-- ==== Sys2Proof/Machine/Apply.lean ====
section
/-! DEFINITION. What a pattern puts into registers (R52, R58, R75), and returning registers to their reset values (R484, R489). -/

namespace Sys2Proof.Machine

/-- Every field of the register map. -/
def allFlds : List Fld := blocks.flatMap blkFlds

/-- The block of a field, by `block_id` (R522). -/
def Fld.blk (F : Fld) : Nat := (blocks.find? (fun b => (blkFlds b).contains F)).getD 0

/-- The field of a key. -/
def fldOf (key : Nat) : Option Fld := allFlds.find? (fun F => F.num == key % 1024)

/-- Return the fields picked, with their instances, to their reset values (R20). -/
def State.clearFlds (s : State) (pick : Fld → Nat → Bool) : State :=
  { s with regs := s.regs.filter (fun (e : Nat × Nat) => !(fldOf e.1).any (fun F => pick F (e.1 / 1024))) }

/-- Keep the fields picked of another state's registers. -/
def State.takeFlds (s old : State) (pick : Fld → Bool) : State :=
  (old.regs.filter (fun (e : Nat × Nat) => (fldOf e.1).any pick)).foldl (fun (s : State) e =>
    { s with regs := tset e.1 e.2 s.regs }) s

/-- The values CHANNEL_MAP, DUTY_LEDGERS and TIMEBASES give a channel's fields (R118, R249, R306). -/
def Pat.chanVals (p : Pat) (i : ChanItem) : List (Fld × Nat × Nat) :=
  [(.CHN_STATUS_role, i.channel, i.role), (.CHN_STATUS_coupling, i.channel, i.coupling), (.CHN_STATUS_profile, i.channel, i.profile),
   (.CHN_CFG_link_id, i.channel, i.link), (.CHN_CFG_band_plan, i.channel, i.plan), (.CHN_CFG_ramp_us, i.channel, i.ramp),
   (.CHN_CFG_auto_rearm, i.channel, i.flags % 2), (.CHN_CFG_train_timeout, i.channel, i.timeout),
   (.CHN_LEDGER_STATUS_defined, i.channel,
     (p.ledgers.filter (fun l => l.channel == i.channel)).foldl (fun (m : Nat) l => m ||| 2 ^ l.segment) 0)]

/-- The Gauge item of a channel, or the section's defaults (R378). -/
def Pat.gaugeItem (p : Pat) (ch : Nat) : GaugeItem := (p.gauge.items.find? (fun i => i.channel == ch)).getD { channel := ch }

/-- The values a Gauge item gives (R378). -/
def GaugeItem.vals (i : GaugeItem) (ch : Nat) : List (Fld × Nat × Nat) :=
  [(.GAU_CH_CFG_exc_on, ch, bits i.flags 0 1), (.GAU_CH_CFG_exc_restart, ch, bits i.flags 2 1),
   (.GAU_CH_CFG_rc_mode, ch, bits i.flags 3 1), (.GAU_CH_CFG_amp, ch, i.amp), (.GAU_CH_FTW_ftw, ch, i.ftw)]

/-- The values PANELS and THIMBLE give a panel's fields (R405, R408). -/
def Pat.panelVals (p : Pat) (x : PanelItem) : List (Fld × Nat × Nat) :=
  [(.PNL_STATUS_defined, x.panel, 1), (.PNL_STATUS_in_band, x.panel, x.transport), (.PNL_STATUS_rights, x.panel, x.rights),
   (.PNL_DEC_dec, x.panel, ((p.thimbles.find? (fun t => t.panel == x.panel)).map (·.dec)).getD 0)]

/-- The values a pattern gives to fields, with their instances (R20). Those of timebases, serial ports and contacts are set
where they start. -/
def Pat.regVals (p : Pat) : List (Fld × Nat × Nat) :=
  p.chans.flatMap p.chanVals
  ++ (List.range 192).flatMap (fun ch => (.CHN_PTP_DELAY_tc_port, ch, b2n (bit p.tbs.tcChans ch)) :: (p.gaugeItem ch).vals ch)
  ++ p.olaParts.zipIdx.flatMap (fun (e : OlaClass × Nat) =>
      [(.OLA_CLASS_BASE_base, e.2, e.1.base), (.OLA_CLASS_DIM_victims, e.2, e.1.victims), (.OLA_CLASS_DIM_nd, e.2, e.1.nd)])
  ++ [(.HEM_REF_CFG_ref_src, 0, p.hem.refSrc), (.HEM_REF_CFG_nominal, 0, p.hem.nominal), (.HEM_REF_CFG_ref_line, 0, p.hem.refLine),
    (.HEM_REF_CFG_ref_chan, 0, p.hem.refChan), (.HEM_REF_CFG_slew, 0, p.hem.slew), (.HEM_REF_OFS_supply_ofs, 0, p.hem.supplyOfs),
    (.DLV_CFG_abandon_ms, 0, p.dlv.abandonMs), (.DLV_CFG_prot_abandon_ms, 0, p.dlv.protAbandonMs),
    (.DLV_CFG2_retx_max, 0, p.dlv.retxMax), (.DLV_CFG2_window, 0, p.dlv.window), (.DLV_CFG2_seen_life, 0, p.dlv.seenLife),
    (.DLV_CFG2_flood_ttl, 0, p.dlv.floodTtl), (.DLV_CFG2_flood_rep, 0, p.dlv.floodRep - 1),
    (.DRM_CFG_drift_shift, 0, p.dormHdr.driftShift), (.DRM_CFG_unc_floor, 0, p.dormHdr.uncFloor),
    (.DRM_CFG_tone_tries, 0, p.dormHdr.toneTries), (.HST_STATUS_goose_pcp, 0, p.ports.goosePcp),
    (.HST_PORT_STATUS_mode, 0, p.ports.mode0), (.HST_PORT_STATUS_mode, 1, p.ports.mode1)]
  ++ p.panels.flatMap p.panelVals

/-- Put the pattern's values into the fields picked. -/
def State.putPat (s : State) (pick : Fld → Nat → Bool) : State :=
  (s.pat.regVals.filter (fun (e : Fld × Nat × Nat) => pick e.1 e.2.1)).foldl (fun (s : State) (e : Fld × Nat × Nat) =>
    s.setFld e.1 e.2.1 e.2.2) s

/-- One entry of REGISTER_INIT writes its register as a register write would (R52). -/
def State.initWrite (s : State) (loader : Bool) (p : Nat) (e : Nat × Nat) : State :=
  let (a, w) := e
  if 0x3E0000 ≤ a ∧ a < 0x3F0000 ∧ (a - 0x3E0000) % 0x1000 = 0x20 then s.writeRingIdx ((a - 0x3E0000) / 0x1000) w
  else match groupOf a with
    | some (b, n) => s.writeGroup loader p b n a w
    | none => s.writeReg loader p a w

/-- REGISTER_INIT of the pattern in service, and of the panel patterns in effect, at the addresses picked. -/
def State.initRegs (s : State) (pick : Nat → Bool) : State :=
  let s := (s.pat.regInit.filter (fun (e : Nat × Nat) => pick e.1)).foldl (fun (s : State) e => s.initWrite true 0 e) s
  s.ldr.inEffect.foldl (fun (s : State) (x : Nat × PanelPat) =>
    (x.2.pat.regInit.filter (fun (e : Nat × Nat) => pick e.1)).foldl (fun (s : State) e => s.initWrite false x.1 e) s) s

/-- Fields that are not registers of a configuration: units fenced off, capacities, A, the seen-cache and the pins stay as they are
at a reset of their block (R344, R484, R537). -/
def fldStays : Fld → Bool
  | .COD_POOL_STATUS_vit_units | .COD_POOL_STATUS_ldpc_units | .COD_CAP_vit_cap | .COD_CAP_ldpc_cap | .PIPE_STATUS_fenced
  | .OLA_STATUS_fenced | .HLK_ALIGN_a_ticks | .HLK_ALIGN_a_valid | .DLV_SEEN_seen_used | .GAU_BLANK_STATUS_pin
  | .GAU_BLANK_STATUS_asserted => true
  | _ => false

/-- Registers return to their reset values and take the pattern's (R484, R489). -/
def State.resetRegs (s : State) (pick : Fld → Nat → Bool) : State :=
  let mine (F : Fld) (i : Nat) : Bool := !fldStays F && pick F i
  ((s.clearFlds mine).putPat mine).initRegs (fun a => (fldsAt a).any (fun (e : Fld × Nat) => mine e.1 e.2))

/-- The fields a seal returns to their reset values before the pattern gives its own (R75): those a pattern gives, RWP and expert
fields. -/
def sealFld (F : Fld) (_ : Nat) : Bool :=
  (decide (F.info.rst = .pat) || F.info.acc == .rwp || F.info.expert
    || [Fld.PNL_STATUS_defined, .PNL_STATUS_in_band, .PNL_STATUS_rights].contains F)
    && !([0x34, 0x40, 0x41].contains F.blk)

/-- The Gauges start under the items of the pattern (R361, R378); `all` where every Gauge starts afresh. -/
def State.startGauges (s : State) : State :=
  forAll (List.range 192) (fun ch s =>
    let g : GauCh := { item := s.pat.gaugeItem ch }
    (s.setGauge ch g).setFld .GAU_CH_STATUS_g_state ch gIdle) { s with gau := { s.gau with chans := [] } }

end Sys2Proof.Machine
end

