-- ==== Sys2Proof/Machine/Reset.lean ====
section
/-! DEFINITION. Resets (R480 to R489): sources, what each level resets and keeps, release, and block resets. -/

namespace Sys2Proof.Machine

/-- Change the reset and power state. -/
def State.updRst (s : State) (f : RstSt → RstSt) : State := { s with rst := f s.rst }

/-- The levels of R480. -/
def lvPlane : Nat := 1
/-- WARM. -/
def lvWarm : Nat := 2
/-- COLD. -/
def lvCold : Nat := 3

/-- The level a source is mapped to (R480): power-on is always COLD. -/
def State.mapOf (s : State) (i : Nat) : Nat := if i = 0 then lvCold else bits (s.fld .RST_MAP_map 0) (2 * i - 2) 2

/-- The level asserted or being released (R482). -/
def State.resetLevel (s : State) : Nat := s.rst.level.getD (if s.rst.boot = 0 then 0 else s.rst.bootLevel)

/-- The MGMT domain runs: an event can be logged. -/
def State.mgmtUp (s : State) : Bool := s.rst.pwr != .keep && !s.rst.off && decide (s.rst.level.getD 0 < lvWarm)

/-- Log an event where the MGMT domain runs. -/
def State.note (s : State) (code data : Nat) : State := if s.mgmtUp then s.log code noPanel noInst data else s

/-- Channels start afresh under the pattern (R115, R229). -/
def State.freshChans (s : State) : State :=
  let s : State := { s with chans := s.pat.chans.foldl (fun (t : Tbl Chan) i =>
    tput {} i.channel { autoStart := i.initial != 0 } t) [] }
  (s.pat.chans.map (·.channel)).foldl (fun (s : State) ch => s.dropTheta ch) s

/-- Delivery's pools are a new book with every item free (R261, R269, R548); messages complete at a consumer stay (R270). -/
def State.freshPools (s : State) : State :=
  let d := s.dlv
  let qs := s.quotas
  let h := s.pat.dlv
  { s with dlv := { d with
      segs := [], txMsgs := [], txFlows := [], rxFlows := [], copies := [], abandoned := [], devQ := []
      done := d.done.map (fun m => { m with pool := none })
      descProt := h.protDesc
      descShared := s.descTotal - h.protDesc - (qs.map (·.2)).foldl (· + ·) 0
      quotaFree := qs.foldl (fun (t : Tbl Nat) e => tput 0 e.1 e.2 t) []
      ifProt := h.protInflight, ifShared := 4096 - h.protInflight } }

/-- What the pipes hold of slots in progress is dropped; requests that are not theirs stay. -/
def State.clearPipes (s : State) : State :=
  let keep (c : SlotChange) : Bool := match c with
    | .decUnits _ _ | .decBack _ _ | .offer _ => true
    | _ => false
  { s with
    grid := { s.grid with
      committed := [], launched := [], onAir := [], work := [], symbols := [], decUsed := [], late := []
      changes := s.grid.changes.filter keep }
    drm := { s.drm with tones := [], owe := [], listens := [] }
    tim := { s.tim with out := s.tim.out.filter (fun o => o.port < 2) } }

/-- Show the gates of every pipe and lane (R40). -/
def State.showAllGates (s : State) : State := forAll (List.range 24) (fun p s => s.showGates (8 * p)) s

/-- A lane is held in reset (R352): OFF, with what its head told forgotten. -/
def State.laneReset (s : State) (j : Nat) : State :=
  let s := if s.laneState j = hlkOff then s.dropCtl j else s.laneLeave j hlkOff 0
  s.setLane j { used := s.laneUsed j }

/-- The blocks of the PLANE and LANE domains, by `block_id`. -/
def planeBlks : List Nat := [0x08, 0x10, 0x18, 0x20, 0x24, 0x2C, 0x38]

/-- A PLANE reset (R484): the PLANE and LANE domains restart under the pattern in service; grid, Hem, time, host ports, records,
outputs, keys and Cast's memory go on. -/
def State.planeReset (s : State) : State :=
  let s := (s.closeDebug.bump .RST_CNT_plane_cnt 0).setFld .RST_CAUSE_level 0 lvPlane
  let s := forAll (List.range 192) (fun ch s => s.applyState ch chOff 0) s
  let s := forAll (List.range 8) (fun j s => s.laneReset j) s
  let s := s.clearPipes
  let s : State := { s with
    ola := {}
    hlk := { s.hlk with slotLat := [], slotRef := [] }
    gau := { s.gau with dead := [], recent := [] } }
  let s := (s.resetRegs (fun F _ => planeBlks.contains F.blk)).freshPools
  let s := (s.freshChans.startGauges.olaShow).handDuplex.showAllGates
  s.updRst (fun r => { r with level := some lvPlane })

/-- Fields of the AON domain (R484): they outlive a WARM reset. -/
def aonFld (F : Fld) : Bool :=
  [Fld.RST_CAUSE_sources, .RST_CAUSE_level, .RST_CAUSE_from_keep, .RST_CNT_warm_cnt, .SEC_STATUS_tamper, .SEC_STATUS_loop_open,
   .SEC_CFG_tamper_mode, .GLB_STATUS_tamper, .PWR_TOD_LO_tod_lo, .PWR_TOD_HI_tod_hi, .PWR_TOD_HI_tod_valid,
   .PWR_STRAPS_straps_valid].contains F

/-- Fields that show fuses, straps or the supply: they outlive every reset. -/
def fixedFld (F : Fld) : Bool :=
  [Fld.SEC_STATUS_owned, .SEC_STATUS_slot, .SEC_STATUS_debug_lock, .SEC_FUSE_ID_fuse_id, .SEC_ROLLBACK_fw_level,
   .SEC_ROLLBACK_pat_level, .PWR_STATUS_input_ok, .PWR_STATUS_input_dc, .PWR_STATUS_bulk, .PWR_STATUS_vbat_ok,
   .PWR_STRAPS_boot_sel, .PWR_STRAPS_mod_addr].contains F

/-- The machine after a COLD reset: what fuses, flash and the key partition hold, the commands waiting, and the fields picked. -/
def State.reborn (s : State) (keep : Fld → Bool) : State :=
  let x := s.sec
  let n : State := {
      pending := s.pending, free := s.free
      sec := { ohiKeys := x.ohiKeys, ohiSeq := x.ohiSeq, owners := x.owners, ownerPk := x.ownerPk, rootDigest := x.rootDigest
               cert := x.cert, parts := x.parts, fwRun := x.fwRun, secret := x.secret }
      ldr := { slots := s.ldr.slots }
      hbm := { flash := s.hbm.flash, spares := s.hbm.spares, erases := s.hbm.erases }
      rst := { heat := s.rst.heat, lostAt := if s.flag .PWR_STATUS_input_ok 0 then none else some 0 } }
  n.takeFlds s keep

/-- A level of reset is asserted: start-up follows its release. -/
def State.asserted (s : State) (level : Nat) : State :=
  (s.updRst (fun r => { r with level := some level, boot := 1, bootLevel := level })).setFld .RST_CAUSE_level 0 level

/-- A COLD reset (R484). -/
def State.coldReset (s : State) : State := (s.reborn fixedFld).asserted lvCold

/-- What a WARM reset that is no return from KEEP keeps of stacked memory and the Spool (R386, R484, R487): HELD regions, the
arrival ring, the log staging buffer and the snapshots. -/
def State.keepMemory (n old : State) : State :=
  let g := old.gau
  let n : State := { n with
    gau := { blocks := g.blocks, arrivals := g.arrivals, arrN := g.arrN, regions := g.regions, order := g.order, era := g.era + 1 }
    hbm := { n.hbm with staged := old.hbm.staged }
    mgmt := { n.mgmt with snaps := old.mgmt.snaps } }
  let n := n.updRst (fun r => { r with
    sealedBefore := if old.isSealed then old.pat.carve else old.rst.sealedBefore
    castBefore := if old.isSealed then old.pat.cast else old.rst.castBefore })
  forAll (List.range 8) (fun r s => s.showRegion r) (n.takeFlds old (fun F => F == .SRG_CNT2_arr_head))

/-- The tamper response in force outlives a WARM reset (R478, R484). -/
def State.keepTamper (n old : State) : State :=
  n.updSec (fun x => { x with tamperOff := old.sec.tamperOff, tamperLog := old.sec.tamperLog })

/-- A WARM reset that is no return from KEEP (R484). -/
def State.warmReset (s : State) : State :=
  let s := s.castCut
  let n := s.reborn (fun F => fixedFld F || aonFld F)
  let n := ((n.keepMemory s).keepTamper s).asserted lvWarm
  let n := n.updRst (fun r => { r with blankRing := s.rst.blankRing })
  (n.setFlag .RST_CAUSE_from_keep 0 false).bump .RST_CNT_warm_cnt 0

/-- A PLANE reset acts at once, or when the loader leaves APPLYING (R483). -/
def State.planeSource (s : State) (i : Nat) : State :=
  if s.loader = 4 then s.updRst (fun r => { r with waiting := r.waiting ++ [i] }) else s.planeReset

/-- A source is recorded (R481, R482). -/
def State.markSource (s : State) (i : Nat) : State :=
  s.setFld .RST_CAUSE_sources 0 (setBit (s.fld .RST_CAUSE_sources 0) i true)

/-- A source fires at a level (R480 to R483): it is logged, recorded, or resets. In KEEP none is watched (R504). -/
def State.fireSource (s : State) (i level : Nat) : State :=
  if s.rst.pwr = .keep ∨ s.rst.off = true then s
  else
    let s := s.markSource i
    if level = 0 then (s.bump .RST_CNT_event_cnt 0).note 0x0101 i
    else if level ≤ s.resetLevel then s
    else if level = lvPlane then s.planeSource i
    else if level = lvWarm then s.warmReset
    else s.coldReset.markSource i

/-- The PLANE resets that waited for the loader (R483). -/
def State.runWaiting (s : State) : State :=
  if s.rst.waiting = [] ∨ s.loader = 4 then s
  else
    let s := s.updRst (fun r => { r with waiting := [] })
    if lvPlane ≤ s.resetLevel then s else s.planeReset

/-- POWER_ON (R66, R480): the AON domain starts from nothing; the straps are sampled. -/
def execPowerOn (bootSel modAddr : Nat) (s : State) : Host.Outcome State Fault Refusal :=
  let keep (F : Fld) : Bool := fixedFld F && !([Fld.PWR_STATUS_input_ok, .PWR_STATUS_input_dc, .PWR_STATUS_bulk, .PWR_STATUS_vbat_ok].contains F)
  let n := ((s.reborn keep).asserted lvCold).updRst (fun r => { r with lostAt := none })
  .next ((((n.markSource 0).setFld .PWR_STRAPS_boot_sel 0 bootSel).setFld .PWR_STRAPS_mod_addr 0 modAddr).setFlag
    .PWR_STRAPS_straps_valid 0 true)

/-- BROWN_OUT: source 0x1. -/
def execBrownOut (s : State) : Host.Outcome State Fault Refusal := .next (s.fireSource 1 (s.mapOf 1))

/-- RESET_N_LOW: source 0x2. -/
def execResetNLow (s : State) : Host.Outcome State Fault Refusal := .next (s.fireSource 2 (s.mapOf 2))

/-- WATCHDOG_EXPIRY of a domain: 0 MGMT, 1 HOST, 2 MEM, 3 PLANE, 4 LANE; sources 0x3 to 0x7. -/
def execWatchdogExpiry (d : Nat) (s : State) : Host.Outcome State Fault Refusal :=
  .next (if 4 < d then s else s.fireSource (3 + d) (s.mapOf (3 + d)))

/-- DBG_REQ_N_LOW: source 0x9, while debug is open with the JTAG scope (R476). -/
def execDbgReqNLow (s : State) : Host.Outcome State Fault Refusal :=
  .next (if s.flag .SEC_STATUS_debug_open 0 && bit (s.fld .SEC_STATUS_scope 0) 0 then s.fireSource 9 (s.mapOf 9) else s)

/-- CLOCK_FAILURE: source 0xA (R500). -/
def execClockFailure (s : State) : Host.Outcome State Fault Refusal := .next (s.fireSource 0xA (s.mapOf 0xA))

/-- LOCK_UP: source 0xB (R480, R538). -/
def execLockUp (s : State) : Host.Outcome State Fault Refusal := .next (s.fireSource 0xB (s.mapOf 0xB))

/-- SOFTWARE_RESET_ASSERT: 1 ms after the response of RST_REQUEST (R502). -/
def execSoftwareResetAssert (s : State) : Host.Outcome State Fault Refusal :=
  .next (match s.rst.soft with
    | none => s
    | some (level, t) =>
      let s : State := { s with tick := max s.tick t }
      (s.updRst (fun r => { r with soft := none })).fireSource 8 level)

/-- RST_QUERY (R502). -/
def opRstQuery (p : Nat) (s : State) : State × Option Resp :=
  if p ≠ 0 then refuse s .denied else (s, some ⟨.ok, le 4 (s.regWord 0x10004) ++ le 4 (s.regWord 0x10040)⟩)

/-- RST_REQUEST (R502): of two waiting, the higher level asserts (R482). -/
def opRstRequest (p level : Nat) (s : State) : State × Option Resp :=
  if level = 0 ∨ lvCold < level then refuse s .badArg
  else if p ≠ 0 ∨ s.mapOf 8 < level then refuse s .denied
  else
    let due : Nat × Nat := match s.rst.soft with
      | some (l, t) => (max l level, t)
      | none => (level, s.tick + msTicks 1)
    (s.updRst (fun r => { r with soft := some due }), some (rsp .ok))

/-- Blocks of each type of RST_BLOCK (R488). -/
def blkCount (typ : Nat) : Nat := [24, 256, 8, 2, 8, 48, 32].getD typ 0

/-- A block is idle (R488). -/
def State.blkIdle (s : State) (typ idx : Nat) : Bool :=
  match typ with
  | 0 => (List.range 8).all (fun i => s.effState (8 * idx + i) == chOff || s.effState (8 * idx + i) == chFault)
  | 1 => (s.bobbin idx).role == 0 || (s.bobbin idx).fault
  | 2 => [hlkOff, hlkDown, hlkFault].contains (s.laneState idx)
  | 3 => !s.linkUp idx || s.fld .HST_PORT_STATUS_mode idx == 0xF
  | 4 =>
    let p := s.port idx
    p.func == serUnused || (p.rx == [] && p.tx == [] && p.shift.isNone && !s.flag .SER_STATUS_de idx)
  | _ => s.isFenced typ idx

/-- RST_BLOCK (R488): answered when the self-test is over. Debug closes (R477). -/
def opRstBlock (c : Cmd) (typ idx : Nat) (s : State) : State × Option Resp :=
  if blkCount typ ≤ idx then refuse s .badArg
  else if c.pnl ≠ 0 then refuse s .denied
  else if 2 ≤ s.loader ∨ s.rst.blocks.any (fun e => e.1 == typ && e.2.1 == idx) = true then refuse s .busy
  else if s.blkIdle typ idx = false then refuse s .badState
  else (s.closeDebug.updRst (fun r => { r with blocks := r.blocks ++ [(typ, idx, c)] }), none)

/-- A Bobbin that passes becomes a SPARE (R489); an item that waited for one goes to the lowest (R444). -/
def State.bobPass (s : State) (b : Nat) : State :=
  let x := s.bobbin b
  let s := s.setBob b {}
  if s.bob.moves.contains b then
    let s : State := { s with bob := { s.bob with moves := s.bob.moves.erase b } }
    match s.spare with
    | some n => (s.setBob n { s.bobbin n with role := x.role, share := x.share, owner := x.owner }).log 0x4202 noPanel b n
    | none => s
  else s

/-- The fields of a block's instance (R489). -/
def blkFld (typ idx : Nat) (F : Fld) (i : Nat) : Bool :=
  match typ with
  | 0 => F.blk == 0x10 && i == idx
  | 2 => F.blk == 0x08 && i == idx
  | 3 => F.blk == 0x3C && F.info.n == 2 && i == idx
  | 4 => F.blk == 0x40 && i == idx
  | _ => false

/-- A block passed its self-test: reconfigured from the pattern in service and returned to service (R489). -/
def State.blkPass (s : State) (typ idx : Nat) : State :=
  match typ with
  | 0 => (((s.unfence 0 idx).resetRegs (blkFld 0 idx)).setFlag .PIPE_STATUS_fenced idx false).showGates (8 * idx)
  | 1 => (s.unfence 1 idx).bobPass idx
  | 2 =>
    let s := ((s.unfence 2 idx).laneReset idx).resetRegs (blkFld 2 idx)
    if s.laneUsed idx then s.setLaneState idx hlkDown 0 else s
  | 3 =>
    let s := (s.unfence 3 idx).resetRegs (blkFld 3 idx)
    { s with host := { s.host with failed := s.host.failed.filter (· != idx) } }
  | 4 => ((s.unfence 4 idx).resetRegs (blkFld 4 idx)).startPort idx (s.pat.serial.find? (fun i => i.port == idx))
  | _ =>
    if s.isFenced typ idx then
      if s.grid.running then s.request (.decBack (typ - blkVit) idx) else s.unfenceUnit (typ - blkVit) idx
    else s

/-- A block failed its self-test: it is fenced off (R489). -/
def State.blkFail (s : State) (typ idx : Nat) : State :=
  let s := s.fence typ idx
  match typ with
  | 0 => s.setFlag .PIPE_STATUS_fenced idx true
  | 1 => s.setBob idx { s.bobbin idx with fault := true }
  | 2 => s.laneReset idx
  | 3 => { s with host := { s.host with failed := (s.host.failed ++ [idx]).dedup } }
  | 4 => s.startPort idx none
  | _ => s

/-- BLOCK_RESET_COMPLETE (R489). -/
def execBlockResetComplete (typ idx : Nat) (pass : Bool) (s : State) : Host.Outcome State Fault Refusal :=
  .next (match s.rst.blocks.find? (fun e => e.1 == typ && e.2.1 == idx) with
    | none => s
    | some e =>
      let s := (s.updRst (fun r => { r with blocks := r.blocks.erase e })).bump .RST_CNT_block_cnt 0
      let s := if pass then s.blkPass typ idx else s.blkFail typ idx
      s.completeCmd e.2.2 0x0103 (rsp (if pass then .ok else .fault)))

/-- RST_QUERY. -/
def execRstQuery (c : Cmd) (s : State) : Host.Outcome State Fault Refusal := .next (ohi s c 0x0101 (opRstQuery c.pnl s))

/-- RST_REQUEST. -/
def execRstRequest (c : Cmd) (level : Nat) (s : State) : Host.Outcome State Fault Refusal :=
  .next (ohi s c 0x0102 (opRstRequest c.pnl level s))

/-- RST_BLOCK. -/
def execRstBlock (c : Cmd) (typ idx : Nat) (s : State) : Host.Outcome State Fault Refusal :=
  .next (ohi s c 0x0103 (opRstBlock c typ idx s))

/-- A source that asserts a reset persists (R482, R520). -/
def State.heldReset (s : State) : Bool := s.rst.off || (s.rst.heat && s.mapOf 1 != 0)

/-- Lanes the pattern uses leave OFF, but those fenced off (R352). -/
def State.releaseLanes (s : State) : State :=
  forAll (List.range 8) (fun j s =>
    if s.laneUsed j && s.laneState j == hlkOff && !s.isFenced blkLane j then s.setLaneState j hlkDown 0 else s) s

/-- RESET_RELEASE (R485): a PLANE reset releases pipes and lanes; after COLD or WARM the ticks start at 0 and the boot ROM runs. -/
def execResetRelease (s : State) : Host.Outcome State Fault Refusal :=
  .next (
    if s.heldReset then s
    else match s.rst.level with
      | none => s
      | some 1 => (s.updRst (fun r => { r with level := none })).releaseLanes
      | some l =>
        let s : State := { s with tick := 0, drm := { s.drm with zero := 0 } }
        let s := s.updRst (fun r => { r with level := none, boot := 1, bootLevel := l, pwr := .run })
        if l = lvCold then s.setFlag .PWR_STRAPS_straps_valid 0 true else s)

/-- FIRMWARE_VERIFIED (R463): an image passed and runs, or the module stays in the boot ROM. -/
def execFirmwareVerified (ok : Bool) (s : State) : Host.Outcome State Fault Refusal :=
  .next (
    if s.rst.level.isSome = true ∨ s.rst.boot ≠ 1 ∨ s.rst.off = true then s
    else if ok then (s.updSec (fun x => { x with fwRun := s.bootPart, fwErased := false })).updRst (fun r => { r with boot := 2 })
    else (s.setFlag .GLB_STATUS_boot 0 true).updRst (fun r => { r with boot := 0 }))

/-- Stacked memory was trained and is not fenced off. -/
def State.memTrained (s : State) : Bool := s.fld .HBM_STATUS_trained 0 != 0 && !s.flag .HBM_STATUS_fenced 0

/-- What the device offers (R44, R69, R524): word 0. -/
def State.offerNow (s : State) : Nat :=
  let mem := s.memTrained
  let ola := mem && !s.flag .OLA_STATUS_fenced 0
  let cast := mem && (List.range 256).any (fun b => !(s.bobbin b).fault)
  let on : List Bool := [ola, ola, ola, decide (0 < s.fld .COD_POOL_STATUS_ldpc_units 0), mem, true, cast, true, true, true, true,
    s.host.failed == [], true, true, !mem]
  on.zipIdx.foldl (fun (n : Nat) (e : Bool × Nat) => n + 2 ^ e.2 * b2n e.1) 0

/-- The flash slots `BOOT_SEL` names (R66); none for an UNOWNED module (R461). -/
def State.bootSources (s : State) : List Nat :=
  if s.owned = false then []
  else match s.fld .PWR_STRAPS_boot_sel 0 with
    | 0 => [0, 1]
    | 2 => [0]
    | _ => []

/-- MEMORY_TRAINING_DONE (R44, R69): stacked memory serves or is fenced off; fabric and Bobbins are released, the offer is valid and
the boot is logged, with what KEEP recorded (R478, R491). -/
def execMemoryTrainingDone (ok : Bool) (s : State) : Host.Outcome State Fault Refusal :=
  .next (
    if s.rst.level.isSome = true ∨ s.rst.boot ≠ 2 then s
    else
      let (v, s) := s.drawFree
      let s := (s.setFld .HBM_STATUS_trained 0 (if ok then 15 else 0)).setFlag .HBM_STATUS_fenced 0 (!ok)
      let s := if ok then s.setFld .HBM_STATUS_temp_max 0 v else s
      let s := s.showBobs
      let s := s.setFld .FEAT_OFFER_offer 0 s.offerNow
      let s := s.updRst (fun r => { r with boot := 0 })
      let s := s.log 0x0001 noPanel noInst (s.rst.bootLevel + 256 * s.fld .RST_CAUSE_sources 0)
      let s := if s.flag .RST_CAUSE_from_keep 0 then
          (s.log 0x0203 noPanel noInst s.rst.blankRing.length).updRst (fun r => { r with blankRing := [] }) else s
      let s := if s.sec.tamperLog then
          (s.log 0x0402 noPanel noInst (s.fld .SEC_CFG_tamper_mode 0)).updSec (fun x => { x with tamperLog := false }) else s
      s.updLdr (fun l => { l with sources := s.bootSources }))

end Sys2Proof.Machine
end

