-- ==== Sys2Proof/Machine/Power.lean ====
section
/-! DEFINITION. Power states, the AON domain, the reference clock and the baseplate temperature (R490 to R502, R520, R542 to R544). -/

namespace Sys2Proof.Machine

/-- PWR_QUERY (R502). -/
def opPwrQuery (p : Nat) (s : State) : State × Option Resp :=
  if p ≠ 0 then refuse s .denied else (s, some ⟨.ok, le 4 (s.regWord 0x20004) ++ le 4 (s.regWord 0x20008)⟩)

/-- The load in progress ends at GASP entry (R492, R542): one in APPLYING leaves nothing sealed. -/
def State.gaspLoader (s : State) : State :=
  let applying := decide (s.loader = 4)
  let s := s.offForApply.dropPending (fun _ => true)
  let s := if s.loader = 0 then s else s.reject 0xA none
  let s := if applying then s.setFlag .PAT_STATUS_sealed 0 false else s
  (s.updLdr (fun l => { l with storing := none })).runWaiting

/-- Channels outside the gasp set enter OFF, and their wake sequences stop (R492, R544). -/
def State.gaspChans (s : State) : State :=
  let s := forAll (List.range 192) (fun ch s =>
    if s.inGaspSet ch || s.effState ch == chOff then s else s.requestState ch chOff 0) s
  { s with drm := { s.drm with tones := s.drm.tones.filter (fun t => s.inGaspSet t.ch) } }

/-- Lanes that serve no channel of the gasp set, and the host port that is not the lower-numbered with link, fall silent (R492,
R504). -/
def State.gaspLinks (s : State) : State :=
  let s := forAll (List.range 8) (fun j s =>
    if s.laneState j = hlkOff ∨ (laneChans j).any (fun ch => s.inGaspSet ch) = true then s else s.laneLeave j hlkOff 0) s
  if s.linkUp 0 then
    ((s.setFlag .HST_PORT_STATUS_link_up 1 false).setFlag .HST_PORT_STATUS_fec_lock 1 false).setFlag .HST_PORT_STATUS_an_done 1 false
  else s

/-- Four units of each decoder pool remain, memory is in self-refresh, Cast and Overlock stop (R492, R544). -/
def State.gaspEngines (s : State) : State :=
  let s := (s.setFld .COD_POOL_STATUS_vit_units 0 (min 4 (s.fld .COD_POOL_STATUS_vit_units 0))).setFld .COD_POOL_STATUS_ldpc_units 0
    (min 4 (s.fld .COD_POOL_STATUS_ldpc_units 0))
  let s : State := { s with ola := { s.ola with writes := [] } }
  (s.castCut.showCap.olaShow).setFlag .HBM_STATUS_self_refresh 0 true

/-- The gasp message to every panel that carries data, on the lower-numbered port with link (R493); its priority code point is
not stated (log 3). -/
def State.gaspHosts (s : State) : State :=
  let ep := s.fld .PWR_GASP_CFG_gasp_ep 0
  match (List.range 2).find? s.linkUp with
  | none => s
  | some port =>
    if ep = 0 ∨ s.flag .PWR_GASP_CFG_gasp_host 0 = false then s
    else (s.pat.panels.filter (fun (i : PanelItem) => i.dataVid != 0)).foldl (fun (s : State) i =>
      let (v, s) := s.drawFree
      let h : HoHdr := ⟨1, 3, 3, 0, 0xFF, 0, ep, 0, 16, 0, 0, 0⟩
      let f : EgFrame := { order := 2, panel := i.panel, ports := 2 ^ port, cls := 8, bytes := s.hoFrame i v h s.gaspMessage }
      { s with host := { s.host with egress := s.host.egress ++ [f] } }) s

/-- GASP is entered (R491, R492). -/
def State.enterGasp (s : State) (byKeep : Bool) : State :=
  let s := s.updRst (fun r => { r with pwr := .gasp, gaspAt := s.tick, byKeep := byKeep, gaspSent := [] })
  let s := (s.setFlag .PWR_STATUS_gasp 0 true).bump .PWR_CNT_gasp_cnt 0
  let s := s.gaspLoader.gaspChans.gaspEngines.gaspLinks.gaspHosts
  s.flashLog s.hbm.staged.length true

/-- PWR_KEEP (R495). -/
def opPwrKeep (p : Nat) (args : List Byte) (s : State) : State × Option Resp :=
  if args ≠ [] then refuse s .badArg
  else if p ≠ 0 then refuse s .denied
  else if s.rst.pwr ≠ .run ∨ s.flag .PWR_STATUS_input_ok 0 = false ∨ (List.range 192).any (fun ch => s.effState ch == chLive) = true then
    refuse s .badState
  else (s.enterGasp true, some (rsp .ok))

/-- PWR_QUERY. -/
def execPwrQuery (c : Cmd) (s : State) : Host.Outcome State Fault Refusal := .next (ohi s c 0x0201 (opPwrQuery c.pnl s))

/-- PWR_KEEP. -/
def execPwrKeep (c : Cmd) (args : List Byte) (s : State) : Host.Outcome State Fault Refusal :=
  .next (ohi s c 0x0202 (opPwrKeep c.pnl args s))

/-- INPUT_LOST (R490, R491): in RUN the loss starts the 25 ms of hold-up; in a KEEP it arms the supply-return comparator. -/
def execInputLost (dc : Bool) (bulk : Nat) (s : State) : Host.Outcome State Fault Refusal :=
  .next (
    if s.flag .PWR_STATUS_input_ok 0 = false then s
    else
      let s := ((s.setFlag .PWR_STATUS_input_ok 0 false).setFlag .PWR_STATUS_input_dc 0 dc).setFld .PWR_STATUS_bulk 0 bulk
      let s := s.updRst (fun r => { r with lostAt := some s.tick, keepArmed := r.keepArmed || r.pwr == .keep })
      if s.mgmtUp then (s.bump .PWR_CNT_loss 0).note 0x0201 bulk else s)

/-- A return from KEEP: a WARM reset (R487, R491, R495) with the time of day as the crystal has it (R496). -/
def State.leaveKeep (s : State) : State :=
  let ms := s.aonMs
  let s := (s.setFld .PWR_TOD_LO_tod_lo 0 (ms / 1000 % 2 ^ 32)).setFld .PWR_TOD_HI_tod_hi 0 (ms / 1000 / 2 ^ 32)
  let s : State := { s with tick := 0 }
  let s := s.updRst (fun r => { r with
    pwr := .run, todAt := 0, todMs := ms % 1000, byKeep := false, keepArmed := false
    lostAt := if s.flag .PWR_STATUS_input_ok 0 then none else some 0 })
  ((s.asserted lvWarm).setFlag .RST_CAUSE_from_keep 0 true).bump .RST_CNT_warm_cnt 0

/-- INPUT_RETURN (R490, R491, R495). -/
def execInputReturn (bulk : Nat) (s : State) : Host.Outcome State Fault Refusal :=
  .next (
    if s.flag .PWR_STATUS_input_ok 0 then s
    else
      let s := (s.setFlag .PWR_STATUS_input_ok 0 true).setFld .PWR_STATUS_bulk 0 bulk
      match s.rst.pwr with
      | .run =>
        let ms := (s.tick - s.rst.lostAt.getD s.tick) / 200000
        (s.note 0x0202 ms).updRst (fun r => { r with lostAt := none })
      | .gasp => if s.rst.byKeep then s else s.warmReset
      | .keep => if s.rst.keepArmed && !s.rst.off then s.leaveKeep else s)

/-- GASP_ENTRY: 25 ms after a loss of the input that has not returned (R491). -/
def execGaspEntry (s : State) : Host.Outcome State Fault Refusal :=
  .next (match s.rst.lostAt with
    | none => s
    | some t =>
      if s.rst.pwr ≠ .run ∨ s.mgmtUp = false then s
      else
        let s : State := { s with tick := max s.tick (t + msTicks 25) }
        s.enterGasp false)

/-- KEEP_ENTRY: at least 300 ms after GASP entry (R491, R495); only the AON domain runs on. -/
def execKeepEntry (s : State) : Host.Outcome State Fault Refusal :=
  .next (
    if s.rst.pwr ≠ .gasp then s
    else
      let s : State := { s with tick := max s.tick (s.rst.gaspAt + msTicks 300) }
      let gone := !s.flag .PWR_STATUS_input_ok 0
      let n := (s.reborn (fun F => fixedFld F || aonFld F)).keepTamper s
      let n : State := { n with tick := s.tick }
      n.updRst (fun r => { r with
        pwr := .keep, byKeep := s.rst.byKeep, keepArmed := !s.rst.byKeep || gone
        lostAt := s.rst.lostAt, todMs := s.rst.todMs, todAt := s.rst.todAt }))

/-- BLANK0_KEEP_WAKE: a rise of BLANK0 wakes the module while the input is present (R491), else it is recorded (R494). -/
def execBlank0KeepWake (tick : Nat) (s : State) : Host.Outcome State Fault Refusal :=
  .next (
    if s.rst.pwr ≠ .keep ∨ s.rst.off = true then s
    else
      let s : State := { s with tick := max s.tick tick }
      if s.flag .PWR_STATUS_input_ok 0 then s.leaveKeep else s.keepEdge 0 true)

/-- AON_STORES_EXHAUSTED: nothing runs until the supply returns by a power-on COLD reset (R491). -/
def execAonStoresExhausted (s : State) : Host.Outcome State Fault Refusal :=
  .next (
    if s.rst.pwr ≠ .keep ∨ s.flag .PWR_STATUS_input_ok 0 = true then s
    else (s.coldReset.markSource 0).updRst (fun r => { r with off := true }))

/-- VBAT_LEVEL_CHANGE (R494). -/
def execVbatLevelChange (ok : Bool) (s : State) : Host.Outcome State Fault Refusal :=
  .next (s.setFlag .PWR_STATUS_vbat_ok 0 ok)

/-- The clock source changes (R499). -/
def State.refSwitch (s : State) (sel : Nat) : State :=
  let old := s.fld .PWR_CLK_STATUS_ref_sel 0
  if old = sel then s
  else
    let s := s.updRst (fun r => { r with slewAt := s.tick })
    ((((s.setFld .PWR_CLK_STATUS_ref_sel 0 sel).setFlag .PWR_CLK_STATUS_slewing 0 true).bump .PWR_CNT_ref_switch 0)).note 0x0208
      (old + 256 * sel)

/-- REFCLK_VALID: valid for 1 s without interruption (R497). -/
def execRefclkValid (mhz25 : Bool) (ofs : Nat) (s : State) : Host.Outcome State Fault Refusal :=
  .next (
    if s.mgmtUp = false then s
    else
      let s := (s.setFlag .PWR_CLK_STATUS_refclk_valid 0 true).setFld .PWR_CLK_STATUS_ref_ofs 0 ofs
      s.refSwitch (if mhz25 then 2 else 1))

/-- CLK_REF_LOST (R498): the TCXO takes over. -/
def execClkRefLost (s : State) : Host.Outcome State Fault Refusal :=
  .next (
    let old := s.fld .PWR_CLK_STATUS_ref_sel 0
    if s.mgmtUp = false ∨ (s.flag .PWR_CLK_STATUS_refclk_valid 0 = false ∧ old = 0) then s
    else
      let s := ((s.setFlag .PWR_CLK_STATUS_refclk_valid 0 false).bump .PWR_CNT_ref_lost 0).note 0x0207 old
      s.refSwitch 0)

/-- CLOCK_SLEW_END (R499): every clock follows the new source; at 0.1 ppm a millisecond the offset between the two, in 0.01 ppm, takes
a tenth of a millisecond for each unit at least. -/
def execClockSlewEnd (s : State) : Host.Outcome State Fault Refusal :=
  .next (
    if s.flag .PWR_CLK_STATUS_slewing 0 then
      (s.reach (s.rst.slewAt + 20000 * (signed 16 (s.fld .PWR_CLK_STATUS_ref_ofs 0)).natAbs)).setFlag .PWR_CLK_STATUS_slewing 0 false
    else s)

/-- PWR_XTAL: a failure of the 32.768 kHz crystal (R496). -/
def execPwrXtal (s : State) : Host.Outcome State Fault Refusal := .next ((s.setFlag .PWR_TOD_HI_tod_valid 0 false).note 0x0204 0)

/-- The baseplate is measured (R520). -/
def State.heatTemp (s : State) (temp : Nat) : State :=
  let t := signed 8 temp
  let s := (s.setFld .PWR_THERMAL_baseplate 0 temp).setFlag .PWR_THERMAL_t_valid 0 true
  if 85 ≤ t ∧ s.flag .PWR_THERMAL_hot 0 = false then
    ((s.setFlag .PWR_THERMAL_hot 0 true).bump .PWR_THERMAL_hot_cnt 0).note 0x0205 (temp % 256)
  else if t < 80 ∧ s.flag .PWR_THERMAL_hot 0 = true then (s.setFlag .PWR_THERMAL_hot 0 false).note 0x0206 (temp % 256)
  else s

/-- PWR_HOT: a temperature of the baseplate is taken (R520): at 100 °C it is a brown-out that persists to 90 °C. -/
def execPwrHot (temp : Nat) (s : State) : Host.Outcome State Fault Refusal :=
  .next (
    let t := signed 8 temp
    let s := if s.mgmtUp then s.heatTemp temp else s
    if 100 ≤ t ∧ s.rst.heat = false then (s.updRst (fun r => { r with heat := true })).fireSource 1 (s.mapOf 1)
    else if t < 90 then s.updRst (fun r => { r with heat := false })
    else s)

end Sys2Proof.Machine
end

