-- ==== Sys2Proof/Machine/Seal.lean ====
section
/-! DEFINITION. A pattern comes into service: the seal of a full pattern (R28, R58 to R60, R71, R75, R115, R191, R226, R330, R344,
R352, R379, R386, R395, R397, R427, R434, R437, R451, R487, R525) and the effect of a panel pattern (R59, R75). -/

namespace Sys2Proof.Machine

/-- The carve items whose contents a seal may keep (R451, R487), with whether the Spool outlived the last reset. -/
def State.oldCarve (s : State) : List CarveItem := if s.isSealed then s.pat.carve else s.rst.sealedBefore

/-- A region is the same in two lists (R451). -/
def sameRegion (a b : List CarveItem) (kind : Nat) : Bool :=
  a.find? (fun r => r.kind == kind) == b.find? (fun r => r.kind == kind)

/-- Items of features that are not in force (R72). -/
def State.itemsShut (s : State) : Nat :=
  let p := s.pat
  let shut (b : Nat) : Bool := !s.inForce b
  let ola := p.olaItems.filter (fun i => if i.cls = 0 then shut 0 && shut 6 else shut i.cls)
  (if shut 10 then p.doms.length else 0) + ola.length + (if shut 4 then (p.carve.filter (fun r => r.kind == 3)).length else 0)
    + b2n (p.ports.prpOn && shut 11)

/-- The features in force at a seal (R69, R71, R525). -/
def State.sealFeats (s : State) : State :=
  let s := s.setFld .FEAT_OFFER_offer 0 s.offerNow
  let a := s.fld .FEAT_ACCEPT_accept 0
  let o := s.fld .FEAT_OFFER_offer 0
  let s := (List.range 4).foldl (fun (s : State) k =>
    s.setFld .GLB_FEAT_FORCE_force k (s.fld .FEAT_ACCEPT_accept k &&& s.fld .FEAT_OFFER_offer k)) s
  { s with mgmt := { s.mgmt with lostFeat := a - (a &&& o) } }

/-- The grid and the Hem start (R28, R29, R222, R226): the epoch is the tick of the seal. The gauge source starts afresh with the
gauge paths (R224, log 160). -/
def State.sealGrid (s : State) : State :=
  let g := s.grid
  let pf := if s.pat.hem.nominal = 0 then 4000000 else 3333333
  let s : State := { s with grid := { g with
    slot := 0, epoch := s.tick, running := true, guard := s.pat.guard, hem := 0, b := s.tick, p := pf, prevP := pf, nxt := none, pf := pf
    hemDue := false, srcChosen := false, gauge := {}, supplyZ := [], gaugeZ := [], changes := [], late := [], committed := [], launched := [], onAir := []
    ledgers := [], work := [], symbols := [], decUsed := [] } }
  let s := ((s.setFld .HEM_STATUS_hem_seq 0 0).setFld .HEM_PERIOD_p_cur 0 pf).setFlag .HEM_PHASE_ERR_err_valid 0 false
  let s := (s.setPf pf).setFlag .HEM_STATUS_gauge_valid 0 false
  (s.setFld .HST_TMB_CAP_cm 0 (18840 * s.ls)).refillAir.showCap

/-- Delivery, queues and the seen-cache (R395, R397, R451): credit counts that restart from other than 0 are reported. -/
def State.sealDelivery (s : State) (keepSeen : Bool) : State :=
  let moved := (List.range 16).filter (fun p => (List.range 4).any (fun n =>
    s.fld .PNL_CREDIT_ret_lo (4 * p + n) != 0 || s.fld .PNL_CREDIT_ret_hi (4 * p + n) != 0))
  let s := (forAll (List.range 16) (fun p s => s.freshQueues p) s).freshPools
  let s : State := { s with host := { s.host with creditChanged := moved } }
  if keepSeen then s else ({ s with dlv := { s.dlv with seen := [] } }).setFld .DLV_SEEN_seen_used 0 0

/-- Dormant records whose channel the pattern still coordinates on the same link stay (R283). -/
def State.sealRecs (s : State) (old : Pat) : State :=
  let link (p : Pat) (ch : Nat) : Option Nat := (p.chans.find? (fun i => i.channel == ch)).map (·.link)
  let stays (ch : Nat) : Bool := (s.chanItem ch).any (fun i => i.role == 0) && link s.pat ch == link old ch && (s.dormItem ch).isSome
  let s := ((s.drm.recs.filter (fun (e : Nat × DrmRec) => e.2.st != .free && !stays e.2.ch)).map (·.1)).foldl (fun (s : State) r => s.freeRec r) s
  { s with drm := { s.drm with owe := [], tones := [], listens := [] } }

/-- A lane at a seal (R344, R352, R361): used or not, and aligned afresh. -/
def State.sealLane (s : State) (j : Nat) : State :=
  let used := s.pat.chans.any (fun i => headOf i.channel == j) || s.pat.gauge.items.any (fun i => headOf i.channel == j)
  let s := (s.updLane j (fun l => { l with used := used })).setFlag .HLK_ALIGN_a_valid j false
  let st := s.laneState j
  let c := s.fld .HLK_STATUS_cause j
  if used = false then (if st = hlkOff then s else s.laneLeave j hlkOff 0)
  else if st = hlkOff then (if s.isFenced blkLane j || s.rst.level.isSome then s else s.setLaneState j hlkDown 0)
  else if st = hlkFault ∧ (c = 5 ∨ c = 6) then s.laneLeave j hlkLocking c
  else if st = hlkAligned then s.laneAlign j
  else s

/-- Gauges end what they do and start under their items (R374); the seal's tick is kept (R367). -/
def State.sealGauges (s : State) : State :=
  let s := forAll (List.range 192) (fun ch s => (s.gaugeLaneLost ch).setFlag .GAU_CH_STATUS_z_valid ch false) s
  let s := s.startGauges
  { s with gau := { s.gau with sealTick := s.tick } }

/-- Snapshots stay where their region does (R451, R487). -/
def State.sealSnaps (s : State) (keep : Bool) : State :=
  if keep then { s with mgmt := { s.mgmt with snapWr := none, snaps := s.keepSnaps s.mgmt.snaps } }
  else { s with mgmt := { s.mgmt with snapWr := none, snaps := [], window := none } }

/-- A host port that the pattern disables has no link (R390); PRP follows its feature (R403). -/
def State.sealHost (s : State) : State :=
  let s := s.setFlag .HST_STATUS_prp_on 0 (s.pat.ports.prpOn && s.inForce 11)
  forAll [0, 1] (fun p s =>
    if s.fld .HST_PORT_STATUS_mode p = 0xF then
      ((s.setFlag .HST_PORT_STATUS_link_up p false).setFlag .HST_PORT_STATUS_fec_lock p false).setFlag .HST_PORT_STATUS_an_done p false
    else s) s

/-- The pattern is written into the blocks (R58, step 7 of the load timing). -/
def State.applyFull (s : State) (p : Pat) : State :=
  let old := if s.isSealed then s.pat else {}
  let carve := s.oldCarve
  let cast := if s.isSealed then s.pat.cast else s.rst.castBefore
  let wasSealed := s.isSealed
  let s : State := { s with pat := p, full := some p }
  let s := s.updLdr (fun l => { l with pend := [], inEffect := [], serials := [], image := s.staged })
  let s := s.sealFeats
  let s := (s.clearFlds sealFld).putPat sealFld
  let s := forAll (List.range 192) (fun ch s => s.setFld .CHN_LEDGER_STATUS_masked ch 0) s
  let s := (s.sealGrid.freshChans).sealHost
  let s := ({ s with ola := {} }).olaAllEmpty.olaShow
  let s := (s.sealTime old.tbs).sealPorts.sealContacts old.contacts
  let s := s.castSeal cast (p.types.contains 0x0C)
  let s := s.sealDelivery (wasSealed && sameRegion carve p.carve 2)
  let s := (s.sealSnaps (sameRegion carve p.carve 6)).sealRecs old
  let s := s.sealGauges.sealBobs
  let s := forAll (List.range 8) (fun j s => s.sealLane j) s
  let s := (s.initRegs (fun _ => true)).handDuplex.showAllGates
  (s.bumpN .GLB_NOT_NEGOTIATED_CNT_count 0 s.itemsShut).updRst (fun r => { r with sealedBefore := [], castBefore := {} })

/-- PATTERN_SEAL (R53, R58, R59): channels go to OFF, the pattern is applied and sealed, and PATTERN_COMMIT is answered. -/
def execPatternSeal (s : State) : Host.Outcome State Fault Refusal :=
  .next (
    match if s.loader = 4 then s.ldr.parsed else none with
    | none => s
    | some p =>
      let cmd := s.ldr.cmd
      let src := match s.ldr.flash with
        | some k => k + 1
        | none => 3
      let s := (s.offForApply.dropPending (fun _ => true)).applyFull p
      let s := s.updLdr (fun l => { l with stage := [], top := 0, cmd := none, flash := none, parsed := none, sources := [] })
      let s := (((s.setFlag .PAT_STATUS_sealed 0 true).setFld .PAT_STATUS_source 0 src).setLoader 0).log 0x0301 noPanel noInst p.hdr.serial
      let s := match cmd with
        | some c => s.completeCmd c 0x0303 (rsp .ok)
        | none => s
      s.runWaiting)

/-- Items of a panel pattern whose fields show them (R118). -/
def State.panelChans (s : State) (new : Pat) : State :=
  new.chans.foldl (fun (s : State) i =>
    (s.setFld .CHN_STATUS_role i.channel i.role).setFld .CHN_STATUS_profile i.channel i.profile) s

/-- A panel pattern is applied to what the full pattern grants the panel (R51, R59, R75, R397). -/
def State.applyPanel (s : State) (n : Nat) (new : Pat) : State :=
  match s.full with
  | none => s
  | some full =>
    let old := s.pat
    let moved := (List.range 4).any (fun k => s.fld .PNL_CREDIT_ret_lo (4 * n + k) != 0 || s.fld .PNL_CREDIT_ret_hi (4 * n + k) != 0)
    let seqs := s.cmd.groups.map (fun (e : Nat × CmdGroup) => (e.1, e.2.rxSeq))
    let s : State := { s with pat := old.mergePanel full new n }
    let s := (s.panelChans new).sealPorts.sealContacts old.contacts
    let s := seqs.foldl (fun (s : State) e => s.setGroup e.1 { s.group e.1 with rxSeq := e.2 }) s
    let s := s.freshQueues n
    let s : State := if moved then { s with host := { s.host with creditChanged := s.host.creditChanged ++ [n] } } else s
    new.regInit.foldl (fun (s : State) e => s.initWrite false n e) s

/-- The slot in progress is the first of its Hem (R33). -/
def State.atHemStart (s : State) : Bool :=
  let t := s.slotTick s.grid.slot
  !s.grid.hemDue && decide (s.grid.b ≤ t) && decide (t < s.grid.b + s.ls)

/-- PANEL_PATTERN_EFFECT: at the first slot of a Hem that begins at least 200 ms after PATTERN_COMMIT was accepted (R33, R59). -/
def execPanelPatternEffect (panel : Nat) (s : State) : Host.Outcome State Fault Refusal :=
  .next (
    match tfind panel s.ldr.pend with
    | none => s
    | some e =>
      if s.grid.running = false ∨ s.atHemStart = false ∨ s.grid.b < e.tick + msTicks 200 then s
      else
        let s := s.applyPanel panel e.pat
        let s := s.updLdr (fun l => { l with
          pend := tdel panel l.pend, inEffect := tset panel { e with cmd := none } l.inEffect
          serials := tset panel e.pat.hdr.serial l.serials })
        let s := s.log 0x0301 panel panel e.pat.hdr.serial
        match e.cmd with
        | some c => s.completeCmd c 0x0303 (rsp .ok)
        | none => s)

end Sys2Proof.Machine
end

