-- ==== Sys2Proof/Machine/Rings.lean ====
section
/-! DEFINITION. The command rings (R76 to R81): an entry's command and arguments, and the taking of entries. -/

namespace Sys2Proof.Machine

/-- A command whose arguments are of one length; any other is malformed (R527). -/
def argLen (s : State) (a : List Byte) (n : Nat) (k : State × Option Resp) : State × Option Resp :=
  if a.length = n then k else refuse s .badArg

/-- The commands of RST and PWR (R502). -/
def cmdPower (c : Cmd) (op : Nat) (a : List Byte) (s : State) : State × Option Resp :=
  match op with
  | 0x0101 => argLen s a 0 (opRstQuery c.pnl s)
  | 0x0102 => argLen s a 1 (opRstRequest c.pnl (leAt a 0 1) s)
  | 0x0103 => argLen s a 2 (opRstBlock c (leAt a 0 1) (leAt a 1 1) s)
  | 0x0201 => argLen s a 0 (opPwrQuery c.pnl s)
  | 0x0202 => opPwrKeep c.pnl a s
  | _ => refuse s .badArg

/-- The commands of the pattern loader (R79). -/
def cmdPattern (c : Cmd) (op : Nat) (a : List Byte) (s : State) : State × Option Resp :=
  match op with
  | 0x0301 => argLen s a 2 (opPatternBegin c.pnl (leAt a 0 1) (leAt a 1 1) s)
  | 0x0302 => if a.length < 5 then refuse s .badArg else opPatternData c.pnl (leAt a 0 4) (a.drop 4) s
  | 0x0303 => argLen s a 0 (opPatternCommit c s)
  | 0x0304 => argLen s a 0 (opPatternAbort c.pnl s)
  | 0x0305 => argLen s a 1 (opPatternStore c.pnl (leAt a 0 1) s)
  | 0x0306 => argLen s a 16 (opFeatureAccept c.pnl [leAt a 0 4, leAt a 4 4, leAt a 8 4, leAt a 12 4] s)
  | 0x0307 => argLen s a 0 (opPatternQuery c.pnl s)
  | _ => refuse s .badArg

/-- The commands of SEC (R479). -/
def cmdSec (c : Cmd) (op : Nat) (a : List Byte) (s : State) : State × Option Resp :=
  match op with
  | 0x0401 => argLen s a 0 (opSecQuery s)
  | 0x0402 => if a.length < 5 then refuse s .badArg else opSecStage c.pnl (leAt a 0 4) (a.drop 4) s
  | 0x0403 => opSecEnrol c.pnl a s
  | 0x0404 => opSecFwWrite c.pnl a s
  | 0x0405 => opSecFwCommit c.pnl a s
  | 0x0406 => opSecRollbackAdvance c.pnl a s
  | 0x0407 => opSecAttest a s
  | 0x0408 => opSecRead a s
  | 0x0409 => opSecDebugChallenge c.pnl a s
  | 0x040A => opSecDebugOpen c.pnl a s
  | 0x040B => opSecKeySet c.pnl a s
  | 0x040C => opSecKeyTx c.pnl a s
  | 0x040D => opSecKeyClear c.pnl a s
  | 0x040E => opSecOhiKey c.pnl a s
  | 0x040F => opSecTamperClear c.pnl a s
  | _ => refuse s .badArg

/-- The commands of lanes, channels and Overlock (R116, R220, R358). -/
def cmdLink (c : Cmd) (op : Nat) (a : List Byte) (s : State) : State × Option Resp :=
  let x := leAt a 0 1
  match op with
  | 0x0801 => argLen s a 1 (opHlkQuery c.pnl x s)
  | 0x0802 => argLen s a 3 (opHlkHeadRead c x (leAt a 1 2) s)
  | 0x0803 => argLen s a 7 (opHlkHeadWrite c x (leAt a 1 2) (leAt a 3 4) s)
  | 0x0804 => argLen s a 1 (opHlkRealign c.pnl x s)
  | 0x1801 => argLen s a 1 (opChnStart c.pnl x s)
  | 0x1802 => argLen s a 1 (opChnStop c.pnl x s)
  | 0x1803 => argLen s a 1 (opChnQuiet c.pnl x s)
  | 0x1804 => argLen s a 1 (opChnResume c.pnl x s)
  | 0x1805 => argLen s a 1 (opChnRetrain c.pnl x s)
  | 0x1806 => argLen s a 2 (opChnSetCoupling c.pnl x (leAt a 1 1) s)
  | 0x1807 => argLen s a 2 (opChnSetRole c.pnl x (leAt a 1 1) s)
  | 0x1808 => argLen s a 1 (opChnQuery c.pnl x s)
  | 0x2401 => argLen s a 3 (opOlaPairQuery c.pnl x (leAt a 1 1) (leAt a 2 1) s)
  | 0x2402 => argLen s a 2 (opOlaVictimReset c.pnl x (leAt a 1 1) s)
  | 0x2403 => argLen s a 6 (opOlaCoefRead c.pnl x (leAt a 1 1) (leAt a 2 1) (leAt a 3 2) (leAt a 5 1) s)
  | 0x2404 =>
    let n := leAt a 6 1
    argLen s a (7 + 4 * n) (opOlaCoefWrite c.pnl x (leAt a 1 1) (leAt a 2 1) (leAt a 4 2) ((List.range n).map (fun i => leAt a (7 + 4 * i) 4)) s)
  | _ => refuse s .badArg

/-- The commands of dormant records, timebases, Gauge and Cast (R302, R329, R388, R389, R546). -/
def cmdTime (c : Cmd) (op : Nat) (a : List Byte) (s : State) : State × Option Resp :=
  let x := leAt a 0 1
  match op with
  | 0x3001 => argLen s a 2 (opDrmQuery c.pnl (leAt a 0 2) s)
  | 0x3002 => argLen s a 2 (opDrmWake c.pnl (leAt a 0 2) s)
  | 0x3003 => argLen s a 2 (opDrmRelease c.pnl (leAt a 0 2) s)
  | 0x3401 => argLen s a 1 (opTimQuery c.pnl x s)
  | 0x3402 => argLen s a 15 (opTimSet c.pnl x (leAt a 1 6) (leAt a 7 4) (leAt a 11 4) s)
  | 0x3403 => argLen s a 9 (opTimFeed c.pnl x (leAt a 1 8) s)
  | 0x3404 => argLen s a 2 (opTimPairSelect c.pnl x (leAt a 1 1) s)
  | 0x3405 => argLen s a 9 (opTimAt c.pnl x (leAt a 1 8) s)
  | 0x3801 => argLen s a 1 (opGauQuery c.pnl x s)
  | 0x3802 => argLen s a 1 (opGauCheck c.pnl x s)
  | 0x3803 => argLen s a 1 (opGauCalibrate c.pnl x s)
  | 0x3804 => argLen s a 2 (opGauExcite c.pnl x [leAt a 1 1] s)
  | 0x3A01 => argLen s a 1 (opSrgQuery c.pnl x s)
  | 0x3A02 => argLen s a 0 (opSrgFreeze c.pnl s)
  | 0x3A03 => argLen s a 26 (opSrgExport c x (leAt a 1 1) (leAt a 2 24) s)
  | 0x3A04 => argLen s a 1 (opSrgRelease c.pnl x s)
  | 0x3A05 => argLen s a 2 (opSrgArrivalRead c.pnl (leAt a 0 2) s)
  | _ => refuse s .badArg

/-- The commands of panels, serial ports, contacts, Bobbins, memory, events and telemetry (R413, R436, R458, R536). -/
def cmdPanel (c : Cmd) (op : Nat) (a : List Byte) (s : State) : State × Option Resp :=
  let x := leAt a 0 1
  match op with
  | 0x3E01 => argLen s a 1 (opPnlQuery c.pnl x s)
  | 0x3E02 => argLen s a 5 (opRegRead c.pnl (leAt a 0 4) (leAt a 4 1) s)
  | 0x3E03 =>
    let n := leAt a 4 1
    argLen s a (8 + 4 * n) (opRegWrite c.pnl (leAt a 0 4) ((List.range n).map (fun i => leAt a (8 + 4 * i) 4)) s)
  | 0x4001 => argLen s a 1 (opSerQuery c.pnl x s)
  | 0x4002 => argLen s a 2 (flushDone (opSerFlush c.pnl x (leAt a 1 1) s))
  | 0x4101 => argLen s a 1 (opCmdQuery c.pnl x s)
  | 0x4102 => argLen s a 4 (opCmdForce c.pnl x (leAt a 1 1) (leAt a 2 2) s)
  | 0x4103 => argLen s a 1 (opCmdRelease c.pnl x s)
  | 0x4201 => argLen s a 1 (opBobQuery c.pnl x s)
  | 0x5001 => argLen s a 0 (opHbmQuery c.pnl s)
  | 0x6001 => argLen s a 0 (opEvtRead c.pnl s)
  | 0x6002 => argLen s a 2 (opEvtCfg c.pnl x (leAt a 1 1) s)
  | 0x7001 => argLen s a 0 (opTelSnap c.pnl s)
  | 0x7002 => argLen s a 7 (opTelRead c.pnl (leAt a 0 2) (leAt a 2 4) (leAt a 6 1) s)
  | _ => refuse s .badArg

/-- What an entry asks (R79): an opcode that is not defined is refused with BAD_ARG. -/
def cmdOp (c : Cmd) (op : Nat) (a : List Byte) (s : State) : State × Option Resp :=
  if op < 0x0300 then cmdPower c op a s
  else if op < 0x0400 then cmdPattern c op a s
  else if op < 0x0800 then cmdSec c op a s
  else if op < 0x3000 then cmdLink c op a s
  else if op < 0x3E00 then cmdTime c op a s
  else cmdPanel c op a s

/-- A ring's next entry can be taken (R80, R81): entries complete in ring order, and over SPI a response needs room. -/
def State.mayTake (s : State) (p : Nat) : Bool :=
  s.fld .PNL_RING_IDX_cmd_head p != s.fld .PNL_RING_IDX_cmd_tail p && s.serving
    && !s.ohiOpen p && (s.inBand p || !s.rspFull p)

/-- Take the entry at the head of a panel's ring (R78) and run it. -/
def State.takeEntry (s : State) (p : Nat) : State :=
  let h := s.fld .PNL_RING_IDX_cmd_head p
  let e := memBytes s.mgmt.ringRam (cmdAddr p h) 64
  let op := leAt e 0 2
  let n := leAt e 4 2
  let c : Cmd := ⟨p, leAt e 2 2⟩
  let s := s.setFld .PNL_RING_IDX_cmd_head p ((h + 1) % 64)
  (ohi s c op (if 56 < n then refuse s .badArg else cmdOp c op (slice e 8 n) s)).sendOhi

/-- Take a panel's entries while they can be taken, at most `n`. -/
def State.takeEntries (s : State) (p : Nat) : Nat → State
  | 0 => s
  | n + 1 => if s.mayTake p then (s.takeEntry p).takeEntries p n else s

/-- Every ring is served, lower-numbered panels first (R65, R80). -/
def State.pump (s : State) : State := forAll (List.range 16) (fun p s => s.takeEntries p 64) s.sendOhi

/-- What happens while no command waits: the tick counter runs (R303) and the rings are served. -/
def State.idle (s : State) : State :=
  if s.rst.off then s
  else
    let s : State := { s with tick := s.tick + 1 }
    s.pump

end Sys2Proof.Machine
end

