-- ==== Sys2Proof/Machine/Port.lean ====
section
/-! DEFINITION. What reaches the module from outside its commands: the management port (R512 to R514), register writes that ring a
doorbell (R76, R81), in-band datagrams (R76, R77, R475) and host frames (R391, R392). -/

namespace Sys2Proof.Machine

/-- The address of a panel's `PNL_RING_IDX`. -/
def ringIdxAddr (p : Nat) : Nat := 0x3E0020 + 0x1000 * p

/-- RING_DOORBELL: a write of `PNL_RING_IDX` (R76, R81), and the entries it offers. -/
def execRingDoorbell (p word : Nat) (s : State) : Host.Outcome State Fault Refusal :=
  .next (if p < 16 then (s.regWrite p (ringIdxAddr p) word).pump else s)

/-- REGISTER_WRITE (R15). -/
def execRegisterWrite (p addr w : Nat) (s : State) : Host.Outcome State Fault Refusal :=
  .next (if p < 16 then (s.regWrite p addr w).pump else s)

/-- REG_WRITE (R413). -/
def execRegWrite (c : Cmd) (addr : Nat) (words : List Nat) (s : State) : Host.Outcome State Fault Refusal :=
  .next (ohi s c 0x3E03 (opRegWrite c.pnl addr words s)).pump

/-- The words of a transaction (R512). -/
def spiAddrs (addr count : Nat) : List Nat := (List.range count).map (fun i => (addr + 4 * i) % 2 ^ 24)

/-- An address the boot ROM serves (R463, R513): PNL0's rings and `PNL_RING_IDX`. -/
def bootAddr (a : Nat) : Bool := a == ringIdxAddr 0 || (decide (0x3E0400 ≤ a) && decide (a < 0x3E1000))

/-- A transaction is accepted (R513). -/
def State.spiOk (s : State) (p : Nat) (as_ : List Nat) : Bool :=
  (if s.full.isNone then p == 0 else s.flag .PNL_STATUS_defined p && !s.inBand p) && (!s.bootOnly || as_.all bootAddr)

/-- The status byte (R513). -/
def State.spiStatus (s : State) (p : Nat) (as_ : List Nat) : Nat :=
  b2n (s.spiOk p as_) + 2 * b2n (!s.inAlias p (as_.headD 0)) + 4 * b2n s.bootOnly

/-- A transaction of the management port (R512, R513): what `SPI_MISO` carries is 5 bytes 0x00, the status, and the words read, or
0 while writing or not accepted. -/
def State.spiRun (s : State) (write : Bool) (p addr count : Nat) (words : List Nat) : State :=
  let as_ := spiAddrs addr count
  let head := [0, 0, 0, 0, 0, byte (s.spiStatus p as_)]
  if s.serving = false then s
  else if s.spiOk p as_ = false then (s.bump .PNL_OHI_WRONG_CNT_count p).spi (head ++ List.replicate (4 * count) 0)
  else if write then
    let s := (as_.zip words).foldl (fun (s : State) e => s.regWrite p e.1 e.2) s
    (s.spi (head ++ List.replicate (4 * count) 0)).pump
  else
    let (out, s) := as_.foldl (fun (x : List Byte × State) a =>
      let (w, s) := x.2.regRead p a []
      (x.1 ++ le 4 w, s)) ([], s)
    s.spi (head ++ out)

/-- SPI_TRANSACTION (R512): 1 to 64 words. -/
def execSpiTransaction (write : Bool) (p addr count : Nat) (words : List Nat) (s : State) : Host.Outcome State Fault Refusal :=
  .next (if p < 16 ∧ 1 ≤ count ∧ count ≤ 64 ∧ (write = false ∨ words.length = count) then s.spiRun write p addr count words else s)

/-- SPI_CS_N_EARLY_RISE (R514): the words completed stand, the `partialBits` bits of the next one are discarded. -/
def execSpiCsEarlyRise (write : Bool) (p addr : Nat) (words : List Nat) (partialBits : Nat) (s : State) :
    Host.Outcome State Fault Refusal :=
  .next (
    if p < 16 ∧ 1 ≤ words.length ∧ words.length < 64 ∧ partialBits < 32 then s.spiRun write p addr words.length words else s)

/-- The entries of a datagram enter the panel's ring (R76). -/
def State.ringEntries (s : State) (p : Nat) (entries : List Byte) (n : Nat) : State :=
  let t := s.fld .PNL_RING_IDX_cmd_tail p
  let s := (List.range n).foldl (fun (s : State) i =>
    { s with mgmt := { s.mgmt with ringRam := memStores s.mgmt.ringRam (cmdAddr p (t + i)) (slice entries (64 * i) 64) } }) s
  s.setFld .PNL_RING_IDX_cmd_tail p ((t + n) % 64)

/-- Entries waiting in a panel's command ring. -/
def State.cmdWaiting (s : State) (p : Nat) : Nat :=
  (s.fld .PNL_RING_IDX_cmd_tail p + 64 - s.fld .PNL_RING_IDX_cmd_head p) % 64

/-- An OHI datagram to a panel (R475): tag, sequence, then R77. One whose count does not match its entries is discarded. -/
def State.ohiGram (s : State) (header cipher tag : List Byte) (srcIp srcPort : Nat) : State :=
  let p := beAt header 0 1
  let n := beAt header 1 1
  let seq := leAt header 4 4
  let key := (tfind p s.sec.ohiKeys).getD []
  match if key = [] ∨ 15 < p then none else Config.gcmOpen key (ohiNonce p 0 seq) header (cipher ++ tag) with
  | none => s.bump .SEC_CNT2_ohi_auth 0
  | some entries =>
    if seq ≤ tget 0 p s.sec.ohiSeq then s.bump .SEC_CNT2_ohi_replay 0
    else
      let s := s.updSec (fun x => { x with ohiSeq := tput 0 p seq x.ohiSeq })
      if s.inBand p = false then s.bump .PNL_OHI_WRONG_CNT_count p
      else if n = 0 ∨ 32 < n ∨ entries.length ≠ 64 * n then s
      else if 32 < s.cmdWaiting p + n then s.bump .PNL_CMD_OVF_CNT_count p
      else
        let d : Dgram := ⟨p, srcIp, srcPort, seq, key, n, []⟩
        let s : State := { s with host := { s.host with ohiIn := s.host.ohiIn ++ [d] } }
        (s.ringEntries p entries n).pump

/-- OHI_DATAGRAM (R76, R475). -/
def execOhiDatagram (header cipher tag : List Byte) (srcIp srcPort : Nat) (s : State) : Host.Outcome State Fault Refusal :=
  .next (if s.serving ∧ header.length = 8 ∧ tag.length = 16 then s.ohiGram header cipher tag srcIp srcPort else s)

/-- A frame is IPv4 UDP without options or fragmentation to a panel's address and port 7192, with a payload a datagram could fill
(R392). -/
def isOhi (i : PanelItem) (b : List Byte) : Bool :=
  beAt b 0 1 == 0x45 && beAt b 6 2 % 0x4000 == 0 && beAt b 9 1 == 17 && beAt b 16 4 == i.ipv4 && beAt b 22 2 == 7192
    && decide (32 ≤ beAt b 24 2) && decide (20 + beAt b 24 2 ≤ b.length)

/-- A frame on a panel's management VLAN (R392, steps 5 and 6). The panel a datagram names is the VLAN's. -/
def State.mgmtFrame (s : State) (i : PanelItem) (h : EthHdr) : State :=
  let b := h.body
  if h.etype = 0x0806 ∧ beAt b 24 4 = i.ipv4 then s.arpReply i h
  else if h.etype = 0x0800 ∧ isOhi i b = true then
    let u := slice b 28 (beAt b 24 2 - 8)
    if beAt u 0 1 ≠ i.panel then s.bump .SEC_CNT2_ohi_auth 0
    else s.ohiGram (u.take 8) (slice u 8 (u.length - 24)) (u.drop (u.length - 16)) (beAt b 12 4) (beAt b 20 2)
  else s

/-- A frame on a panel's management VLAN that step 5 of R392 takes. -/
def isMgmt (i : PanelItem) (h : EthHdr) : Bool :=
  (h.etype == 0x0806 && beAt h.body 24 4 == i.ipv4) || (h.etype == 0x0800 && isOhi i h.body)

/-- The steps of R392. -/
def State.classify (s : State) (port : Nat) (f : List Byte) (tick16 : Nat) : State :=
  let h := ethParse f
  if h.etype = 0x88A8 ∨ (h.tagged = true ∧ h.etype = 0x8100) then s.bump .HST_PORT_CNT2_etype_drop port
  else if h.vid = 0 then
    if h.etype = 0x88F7 then s.ptpMessage port (ptpParse h.body) tick16 false
    else if h.etype = 0x88FB then s
    else s.bump .HST_PORT_CNT2_vid_drop port
  else match s.mgmtPanel h.vid with
    | some i => if isMgmt i h then s.mgmtFrame i h else s.bump .HST_PORT_CNT2_etype_drop port
    | none => match s.dataPanel h.vid with
      | none => s.bump .HST_PORT_CNT2_vid_drop port
      | some i =>
        if h.etype = 0x88B8 then s.gooseIn i h
        else if h.etype = 0x88B5 then s.handoverIn i.panel h.pcp h.body
        else s.bump .HST_PORT_CNT2_etype_drop port

/-- A frame with a good FCS (R390, R391, R403): `f` is without it. PRP leaves PTP frames alone. -/
def State.frameIn (s : State) (port : Nat) (f : List Byte) (tick16 : Nat) : State :=
  let h := ethParse f
  if f.length < 60 ∨ 16444 < f.length then s.bump .HST_PORT_CNT_mac_drop port
  else if h.etype = 0x8808 then s.bump .HST_PORT_CNT2_etype_drop port
  else if s.macTaken h.dst = false then s.bump .HST_PORT_CNT_mac_drop port
  else if h.etype = 0x88F7 then s.classify port f tick16
  else match s.prpIn port f with
    | (none, s) => s
    | (some f, s) => s.classify port f tick16

/-- HOST_FRAME_RX (R391, R392): `frame` without its FCS, and the tick it crossed the PCS at, in sixteenths. -/
def execHostFrameRx (port : Nat) (frame : List Byte) (fcsOk : Bool) (tick : Nat) (s : State) : Host.Outcome State Fault Refusal :=
  .next (
    if 2 ≤ port ∨ s.linkUp port = false then s
    else
      let s : State := { s with tick := max s.tick (tick / 16) }
      if fcsOk then s.frameIn port frame tick else s.bump .HST_PORT_CNT_fcs_err port)

end Sys2Proof.Machine
end

