-- ==== Sys2Proof/Machine/Dispatch.lean ====
section
/-! DEFINITION. One arm per command of the opcode table. -/

namespace Sys2Proof.Machine

/-- The effect of a command. -/
def exec (i : Instr) (s : State) : Host.Outcome State Fault Refusal :=
  match i with
  | .patternBegin c kind panel => Sys2Proof.Machine.execPatternBegin c kind panel s
  | .patternData c off data => Sys2Proof.Machine.execPatternData c off data s
  | .patternCommit c => Sys2Proof.Machine.execPatternCommit c s
  | .patternAbort c => Sys2Proof.Machine.execPatternAbort c s
  | .patternStore c slot => Sys2Proof.Machine.execPatternStore c slot s
  | .featureAccept c w0 w1 w2 w3 => Sys2Proof.Machine.execFeatureAccept c w0 w1 w2 w3 s
  | .patternQuery c => Sys2Proof.Machine.execPatternQuery c s
  | .loaderVerifyDone => Sys2Proof.Machine.execLoaderVerifyDone s
  | .loaderCheckDone => Sys2Proof.Machine.execLoaderCheckDone s
  | .patternSeal => Sys2Proof.Machine.execPatternSeal s
  | .panelPatternEffect panel => Sys2Proof.Machine.execPanelPatternEffect panel s
  | .patternStoreDone readBack => Sys2Proof.Machine.execPatternStoreDone readBack s
  | .flashPatternLoad => Sys2Proof.Machine.execFlashPatternLoad s
  | .ringDoorbell p word => Sys2Proof.Machine.execRingDoorbell p word s
  | .ohiDatagram header cipher tag srcIp srcPort => Sys2Proof.Machine.execOhiDatagram header cipher tag srcIp srcPort s
  | .spiTransaction write p addr count words => Sys2Proof.Machine.execSpiTransaction write p addr count words s
  | .spiCsEarlyRise write p addr words partialBits => Sys2Proof.Machine.execSpiCsEarlyRise write p addr words partialBits s
  | .registerWrite p addr w => Sys2Proof.Machine.execRegisterWrite p addr w s
  | .groupRead p addr => Sys2Proof.Machine.execGroupRead p addr s
  | .rcFieldRead p addr incs => Sys2Proof.Machine.execRcFieldRead p addr incs s
  | .w1cWrite p addr w hwSet => Sys2Proof.Machine.execW1cWrite p addr w hwSet s
  | .featAcceptWrite p w0 w1 w2 w3 => Sys2Proof.Machine.execFeatAcceptWrite p w0 w1 w2 w3 s
  | .evtPnlRdWrite p target idx => Sys2Proof.Machine.execEvtPnlRdWrite p target idx s
  | .telStatusRead p => Sys2Proof.Machine.execTelStatusRead p s
  | .serRxDataRead p port => Sys2Proof.Machine.execSerRxDataRead p port s
  | .serTxDataWrite p port data => Sys2Proof.Machine.execSerTxDataWrite p port data s
  | .serDivWrite p port div => Sys2Proof.Machine.execSerDivWrite p port div s
  | .chnStart c ch => Sys2Proof.Machine.execChnStart c ch s
  | .chnStop c ch => Sys2Proof.Machine.execChnStop c ch s
  | .chnQuiet c ch => Sys2Proof.Machine.execChnQuiet c ch s
  | .chnResume c ch => Sys2Proof.Machine.execChnResume c ch s
  | .chnRetrain c ch => Sys2Proof.Machine.execChnRetrain c ch s
  | .chnSetCoupling c ch mode => Sys2Proof.Machine.execChnSetCoupling c ch mode s
  | .chnSetRole c ch role => Sys2Proof.Machine.execChnSetRole c ch role s
  | .chnQuery c ch => Sys2Proof.Machine.execChnQuery c ch s
  | .trainTimeout ch => Sys2Proof.Machine.execTrainTimeout ch s
  | .faultAutoRearm ch => Sys2Proof.Machine.execFaultAutoRearm ch s
  | .gridSlotBoundary => Sys2Proof.Machine.execGridSlotBoundary s
  | .hemBoundary => Sys2Proof.Machine.execHemBoundary s
  | .hemMapFix => Sys2Proof.Machine.execHemMapFix s
  | .mainsCrossing gauge tick => Sys2Proof.Machine.execMainsCrossing gauge tick s
  | .sourceTimeout gauge => Sys2Proof.Machine.execSourceTimeout gauge s
  | .transmitCommit => Sys2Proof.Machine.execTransmitCommit s
  | .contentionCycleEnd ch => Sys2Proof.Machine.execContentionCycleEnd ch s
  | .frameLaunch ch => Sys2Proof.Machine.execFrameLaunch ch s
  | .ackMissing ch => Sys2Proof.Machine.execAckMissing ch s
  | .liIdleFill ch => Sys2Proof.Machine.execLiIdleFill ch s
  | .energyTrigger ch tick => Sys2Proof.Machine.execEnergyTrigger ch tick s
  | .qualifierPass ch tick => Sys2Proof.Machine.execQualifierPass ch tick s
  | .qualFail ch => Sys2Proof.Machine.execQualFail ch s
  | .syncPoint ch tick => Sys2Proof.Machine.execSyncPoint ch tick s
  | .detectorRearm ch => Sys2Proof.Machine.execDetectorRearm ch s
  | .frameControlRx ch len => Sys2Proof.Machine.execFrameControlRx ch len s
  | .symbolRx ch => Sys2Proof.Machine.execSymbolRx ch s
  | .stepRebaseEnd ch => Sys2Proof.Machine.execStepRebaseEnd ch s
  | .decodeComplete pool unit => Sys2Proof.Machine.execDecodeComplete pool unit s
  | .decodeDrop => Sys2Proof.Machine.execDecodeDrop s
  | .dataFrameRx ch => Sys2Proof.Machine.execDataFrameRx ch s
  | .ackSend ch => Sys2Proof.Machine.execAckSend ch s
  | .ackRx ch => Sys2Proof.Machine.execAckRx ch s
  | .floodFrameRx ch => Sys2Proof.Machine.execFloodFrameRx ch s
  | .beaconRx ch => Sys2Proof.Machine.execBeaconRx ch s
  | .soundRx ch => Sys2Proof.Machine.execSoundRx ch s
  | .mapRx ch src msg => Sys2Proof.Machine.execMapRx ch src msg s
  | .mapNakRx ch src msg => Sys2Proof.Machine.execMapNakRx ch src msg s
  | .soundReqRx ch src msg => Sys2Proof.Machine.execSoundReqRx ch src msg s
  | .invalidateAllRx ch src msg => Sys2Proof.Machine.execInvalidateAllRx ch src msg s
  | .fallbackRx ch src msg => Sys2Proof.Machine.execFallbackRx ch src msg s
  | .soundTimeout ch => Sys2Proof.Machine.execSoundTimeout ch s
  | .toneMapRetire ch => Sys2Proof.Machine.execToneMapRetire ch s
  | .tmRefresh ch => Sys2Proof.Machine.execTmRefresh ch s
  | .errorReportRx ch msg => Sys2Proof.Machine.execErrorReportRx ch msg s
  | .errReportDeadline ch t => Sys2Proof.Machine.execErrReportDeadline ch t s
  | .pairHoldExpiry cls victim slot => Sys2Proof.Machine.execPairHoldExpiry cls victim slot s
  | .olaPairQuery c cls v slot => Sys2Proof.Machine.execOlaPairQuery c cls v slot s
  | .olaVictimReset c cls v => Sys2Proof.Machine.execOlaVictimReset c cls v s
  | .olaCoefRead c cls v slot carrier count => Sys2Proof.Machine.execOlaCoefRead c cls v slot carrier count s
  | .olaCoefWrite c cls v slot carrier words => Sys2Proof.Machine.execOlaCoefWrite c cls v slot carrier words s
  | .messageHandover ch => Sys2Proof.Machine.execMessageHandover ch s
  | .segmentDeadline ch => Sys2Proof.Machine.execSegmentDeadline ch s
  | .rxMessageDiscard => Sys2Proof.Machine.execRxMessageDiscard s
  | .qAgeDrop panel q => Sys2Proof.Machine.execQAgeDrop panel q s
  | .seenEntryExpiry => Sys2Proof.Machine.execSeenEntryExpiry s
  | .send p q msg => Sys2Proof.Machine.execSend p q msg s
  | .flood p q msg => Sys2Proof.Machine.execFlood p q msg s
  | .hostFrameRx port frame fcsOk tick => Sys2Proof.Machine.execHostFrameRx port frame fcsOk tick s
  | .arpRequest port vid frame => Sys2Proof.Machine.execArpRequest port vid frame s
  | .prpSupervisionRx port frame => Sys2Proof.Machine.execPrpSupervisionRx port frame s
  | .prpSupervisionSend => Sys2Proof.Machine.execPrpSupervisionSend s
  | .hostLinkChange port up => Sys2Proof.Machine.execHostLinkChange port up s
  | .ethernetEgress port => Sys2Proof.Machine.execEthernetEgress port s
  | .launchTimeFrame port tick => Sys2Proof.Machine.execLaunchTimeFrame port tick s
  | .sync port msg tIn suspect => Sys2Proof.Machine.execSync port msg tIn suspect s
  | .followUp port msg tIn suspect => Sys2Proof.Machine.execFollowUp port msg tIn suspect s
  | .pdelayReq port msg tIn suspect => Sys2Proof.Machine.execPdelayReq port msg tIn suspect s
  | .pdelayResp port msg tIn suspect => Sys2Proof.Machine.execPdelayResp port msg tIn suspect s
  | .pdelayRespFollowUp port msg tIn suspect => Sys2Proof.Machine.execPdelayRespFollowUp port msg tIn suspect s
  | .announce port msg tIn suspect => Sys2Proof.Machine.execAnnounce port msg tIn suspect s
  | .signaling port msg tIn suspect => Sys2Proof.Machine.execSignaling port msg tIn suspect s
  | .management port msg tIn suspect => Sys2Proof.Machine.execManagement port msg tIn suspect s
  | .pdelayInterval port => Sys2Proof.Machine.execPdelayInterval port s
  | .heldCorrectionExpiry => Sys2Proof.Machine.execHeldCorrectionExpiry s
  | .ppsInEdge tick16 => Sys2Proof.Machine.execPpsInEdge tick16 s
  | .timebaseLossTimeout k => Sys2Proof.Machine.execTimebaseLossTimeout k s
  | .slewEnd pair => Sys2Proof.Machine.execSlewEnd pair s
  | .ppsOutEdge tick => Sys2Proof.Machine.execPpsOutEdge tick s
  | .todTxLine => Sys2Proof.Machine.execTodTxLine s
  | .timQuery c tb => Sys2Proof.Machine.execTimQuery c tb s
  | .timSet c tb sec ns rate => Sys2Proof.Machine.execTimSet c tb sec ns rate s
  | .timFeed c tb off => Sys2Proof.Machine.execTimFeed c tb off s
  | .timPairSelect c tb which => Sys2Proof.Machine.execTimPairSelect c tb which s
  | .timAt c tb tick => Sys2Proof.Machine.execTimAt c tb tick s
  | .upstreamFrame lane bits => Sys2Proof.Machine.execUpstreamFrame lane bits s
  | .frameLock lane => Sys2Proof.Machine.execFrameLock lane s
  | .frameLockLost lane => Sys2Proof.Machine.execFrameLockLost lane s
  | .lossOfSignal lane => Sys2Proof.Machine.execLossOfSignal lane s
  | .readRsp lane tag addr data => Sys2Proof.Machine.execReadRsp lane tag addr data s
  | .writeAck lane tag addr => Sys2Proof.Machine.execWriteAck lane tag addr s
  | .nak lane tag cause => Sys2Proof.Machine.execNak lane tag cause s
  | .event lane code => Sys2Proof.Machine.execEvent lane code s
  | .controlRepeat lane tag => Sys2Proof.Machine.execControlRepeat lane tag s
  | .couplingTimeout ch => Sys2Proof.Machine.execCouplingTimeout ch s
  | .laneRecalculate lane rtts => Sys2Proof.Machine.execLaneRecalculate lane rtts s
  | .alignmentDelayFix => Sys2Proof.Machine.execAlignmentDelayFix s
  | .laneFaultRetry lane => Sys2Proof.Machine.execLaneFaultRetry lane s
  | .hlkQuery c lane => Sys2Proof.Machine.execHlkQuery c lane s
  | .hlkHeadRead c lane addr => Sys2Proof.Machine.execHlkHeadRead c lane addr s
  | .hlkHeadWrite c lane addr data => Sys2Proof.Machine.execHlkHeadWrite c lane addr data s
  | .hlkRealign c lane => Sys2Proof.Machine.execHlkRealign c lane s
  | .gaugeSampleDeadline ch path period => Sys2Proof.Machine.execGaugeSampleDeadline ch path period s
  | .chainOutput ch chain => Sys2Proof.Machine.execChainOutput ch chain s
  | .excitationInterval ch start => Sys2Proof.Machine.execExcitationInterval ch start s
  | .checkDue ch => Sys2Proof.Machine.execCheckDue ch s
  | .gauQuery c ch => Sys2Proof.Machine.execGauQuery c ch s
  | .gauCheck c ch => Sys2Proof.Machine.execGauCheck c ch s
  | .gauCalibrate c ch args => Sys2Proof.Machine.execGauCalibrate c ch args s
  | .gauExcite c ch args => Sys2Proof.Machine.execGauExcite c ch args s
  | .blankEdge idx rising tick => Sys2Proof.Machine.execBlankEdge idx rising tick s
  | .blankExtensionEnd idx => Sys2Proof.Machine.execBlankExtensionEnd idx s
  | .armExpiry ch => Sys2Proof.Machine.execArmExpiry ch s
  | .wavefrontArrival ch tick => Sys2Proof.Machine.execWavefrontArrival ch tick s
  | .deadTimeEnd ch => Sys2Proof.Machine.execDeadTimeEnd ch s
  | .regionCollected r => Sys2Proof.Machine.execRegionCollected r s
  | .exportMessage r => Sys2Proof.Machine.execExportMessage r s
  | .srgQuery c r => Sys2Proof.Machine.execSrgQuery c r s
  | .srgFreeze c args => Sys2Proof.Machine.execSrgFreeze c args s
  | .srgExport c args => Sys2Proof.Machine.execSrgExport c args s
  | .srgRelease c r => Sys2Proof.Machine.execSrgRelease c r s
  | .srgArrivalRead c index => Sys2Proof.Machine.execSrgArrivalRead c index s
  | .serialCharacterRx port data falseStart parityOk stopOk tick => Sys2Proof.Machine.execSerialCharacterRx port data falseStart parityOk stopOk tick s
  | .framingRearm port => Sys2Proof.Machine.execFramingRearm port s
  | .serialGapClose port => Sys2Proof.Machine.execSerialGapClose port s
  | .serialCharacterTx port => Sys2Proof.Machine.execSerialCharacterTx port s
  | .deRelease port => Sys2Proof.Machine.execDeRelease port s
  | .oscStop port => Sys2Proof.Machine.execOscStop port s
  | .serQuery c port => Sys2Proof.Machine.execSerQuery c port s
  | .serFlush c port which => Sys2Proof.Machine.execSerFlush c port which s
  | .contactChangeAccepted idx => Sys2Proof.Machine.execContactChangeAccepted idx s
  | .commandRefresh g => Sys2Proof.Machine.execCommandRefresh g s
  | .commandMessage g msg => Sys2Proof.Machine.execCommandMessage g msg s
  | .cmdWatch idx => Sys2Proof.Machine.execCmdWatch idx s
  | .pulseEnd idx => Sys2Proof.Machine.execPulseEnd idx s
  | .cmdForceEnd idx => Sys2Proof.Machine.execCmdForceEnd idx s
  | .cmdQuery c idx => Sys2Proof.Machine.execCmdQuery c idx s
  | .cmdForce c idx state secs => Sys2Proof.Machine.execCmdForce c idx state secs s
  | .cmdRelease c idx => Sys2Proof.Machine.execCmdRelease c idx s
  | .sleepReq ch src msg => Sys2Proof.Machine.execSleepReq ch src msg s
  | .syncingTimeout r => Sys2Proof.Machine.execSyncingTimeout r s
  | .wakeSyncRx ch => Sys2Proof.Machine.execWakeSyncRx ch s
  | .wakeSyncReply ch => Sys2Proof.Machine.execWakeSyncReply ch s
  | .listenWindowOpen r => Sys2Proof.Machine.execListenWindowOpen r s
  | .listenWindowClose r => Sys2Proof.Machine.execListenWindowClose r s
  | .wakeSequenceStart r => Sys2Proof.Machine.execWakeSequenceStart r s
  | .wakeListenExpiry r => Sys2Proof.Machine.execWakeListenExpiry r s
  | .awakeHoldExpiry r => Sys2Proof.Machine.execAwakeHoldExpiry r s
  | .drmQuery c r => Sys2Proof.Machine.execDrmQuery c r s
  | .drmWake c r => Sys2Proof.Machine.execDrmWake c r s
  | .drmRelease c r => Sys2Proof.Machine.execDrmRelease c r s
  | .pnlQuery c part => Sys2Proof.Machine.execPnlQuery c part s
  | .regRead c addr count => Sys2Proof.Machine.execRegRead c addr count s
  | .regWrite c addr words => Sys2Proof.Machine.execRegWrite c addr words s
  | .bobQuery c b => Sys2Proof.Machine.execBobQuery c b s
  | .hbmQuery c => Sys2Proof.Machine.execHbmQuery c s
  | .bobbinFault b cause => Sys2Proof.Machine.execBobbinFault b cause s
  | .bobMove b => Sys2Proof.Machine.execBobMove b s
  | .hbmUe addr client => Sys2Proof.Machine.execHbmUe addr client s
  | .hbmRecalibration pc => Sys2Proof.Machine.execHbmRecalibration pc s
  | .logFlashWrite ok => Sys2Proof.Machine.execLogFlashWrite ok s
  | .pipeFence p => Sys2Proof.Machine.execPipeFence p s
  | .codUnitFenced pool unit => Sys2Proof.Machine.execCodUnitFenced pool unit s
  | .overlockFence => Sys2Proof.Machine.execOverlockFence s
  | .memFence => Sys2Proof.Machine.execMemFence s
  | .hostPortFail port => Sys2Proof.Machine.execHostPortFail port s
  | .evtRead c => Sys2Proof.Machine.execEvtRead c s
  | .evtCfg c sevMin irqEn => Sys2Proof.Machine.execEvtCfg c sevMin irqEn s
  | .telSnap c => Sys2Proof.Machine.execTelSnap c s
  | .telRead c back word count => Sys2Proof.Machine.execTelRead c back word count s
  | .telemetrySnapshot => Sys2Proof.Machine.execTelemetrySnapshot s
  | .secQuery c => Sys2Proof.Machine.execSecQuery c s
  | .secStage c off data => Sys2Proof.Machine.execSecStage c off data s
  | .secEnrol c args => Sys2Proof.Machine.execSecEnrol c args s
  | .secFwWrite c args => Sys2Proof.Machine.execSecFwWrite c args s
  | .secFwCommit c args => Sys2Proof.Machine.execSecFwCommit c args s
  | .secRollbackAdvance c args => Sys2Proof.Machine.execSecRollbackAdvance c args s
  | .secAttest c args => Sys2Proof.Machine.execSecAttest c args s
  | .secRead c args => Sys2Proof.Machine.execSecRead c args s
  | .secDebugChallenge c args => Sys2Proof.Machine.execSecDebugChallenge c args s
  | .secDebugOpen c args => Sys2Proof.Machine.execSecDebugOpen c args s
  | .debugClose => Sys2Proof.Machine.execDebugClose s
  | .secKeySet c args => Sys2Proof.Machine.execSecKeySet c args s
  | .secKeyTx c args => Sys2Proof.Machine.execSecKeyTx c args s
  | .secKeyClear c args => Sys2Proof.Machine.execSecKeyClear c args s
  | .secOhiKey c args => Sys2Proof.Machine.execSecOhiKey c args s
  | .secTamperClear c args => Sys2Proof.Machine.execSecTamperClear c args s
  | .tamperOpen => Sys2Proof.Machine.execTamperOpen s
  | .rstQuery c => Sys2Proof.Machine.execRstQuery c s
  | .rstRequest c level => Sys2Proof.Machine.execRstRequest c level s
  | .rstBlock c typ idx => Sys2Proof.Machine.execRstBlock c typ idx s
  | .blockResetComplete typ idx pass => Sys2Proof.Machine.execBlockResetComplete typ idx pass s
  | .pwrQuery c => Sys2Proof.Machine.execPwrQuery c s
  | .pwrKeep c args => Sys2Proof.Machine.execPwrKeep c args s
  | .powerOn bootSel modAddr => Sys2Proof.Machine.execPowerOn bootSel modAddr s
  | .brownOut => Sys2Proof.Machine.execBrownOut s
  | .resetNLow => Sys2Proof.Machine.execResetNLow s
  | .watchdogExpiry d => Sys2Proof.Machine.execWatchdogExpiry d s
  | .dbgReqNLow => Sys2Proof.Machine.execDbgReqNLow s
  | .clockFailure => Sys2Proof.Machine.execClockFailure s
  | .lockUp => Sys2Proof.Machine.execLockUp s
  | .resetRelease => Sys2Proof.Machine.execResetRelease s
  | .firmwareVerified ok => Sys2Proof.Machine.execFirmwareVerified ok s
  | .memoryTrainingDone ok => Sys2Proof.Machine.execMemoryTrainingDone ok s
  | .inputLost dc bulk => Sys2Proof.Machine.execInputLost dc bulk s
  | .inputReturn bulk => Sys2Proof.Machine.execInputReturn bulk s
  | .gaspEntry => Sys2Proof.Machine.execGaspEntry s
  | .keepEntry => Sys2Proof.Machine.execKeepEntry s
  | .blank0KeepWake tick => Sys2Proof.Machine.execBlank0KeepWake tick s
  | .aonStoresExhausted => Sys2Proof.Machine.execAonStoresExhausted s
  | .refclkValid mhz25 ofs => Sys2Proof.Machine.execRefclkValid mhz25 ofs s
  | .clkRefLost => Sys2Proof.Machine.execClkRefLost s
  | .clockSlewEnd => Sys2Proof.Machine.execClockSlewEnd s
  | .pwrXtal => Sys2Proof.Machine.execPwrXtal s
  | .pwrHot temp => Sys2Proof.Machine.execPwrHot temp s
  | .signalAndSymbolLock lane => Sys2Proof.Machine.execSignalAndSymbolLock lane s
  | .softwareResetAssert => Sys2Proof.Machine.execSoftwareResetAssert s
  | .tamperLoopClosed => Sys2Proof.Machine.execTamperLoopClosed s
  | .ppsInTimeout => Sys2Proof.Machine.execPpsInTimeout s
  | .vbatLevelChange ok => Sys2Proof.Machine.execVbatLevelChange ok s
  | .contactInputEdge idx high tick => Sys2Proof.Machine.execContactInputEdge idx high tick s

end Sys2Proof.Machine
end

