-- ==== Sys2Proof/Machine/Entry.lean ====
section
/-! DEFINITION. The ring entry that spells each OHI command (R78, R79): the command's issuer and tag, its opcode, and its
argument bytes in the order of the command tables, multi-byte ones least significant byte first (R12). -/

namespace Sys2Proof.Machine

/-- The issuer, the opcode and the argument bytes of an OHI command; none for every other command. -/
def instrEntry : Instr → Option (Cmd × Nat × List Byte)
  | .rstQuery c => some (c, 0x0101, [])
  | .rstRequest c level => some (c, 0x0102, [byte level])
  | .rstBlock c typ idx => some (c, 0x0103, [byte typ, byte idx])
  | .pwrQuery c => some (c, 0x0201, [])
  | .pwrKeep c args => some (c, 0x0202, args)
  | .patternBegin c kind panel => some (c, 0x0301, [byte kind, byte panel])
  | .patternData c off data => some (c, 0x0302, le 4 off ++ data)
  | .patternCommit c => some (c, 0x0303, [])
  | .patternAbort c => some (c, 0x0304, [])
  | .patternStore c slot => some (c, 0x0305, [byte slot])
  | .featureAccept c w0 w1 w2 w3 => some (c, 0x0306, le 4 w0 ++ le 4 w1 ++ le 4 w2 ++ le 4 w3)
  | .patternQuery c => some (c, 0x0307, [])
  | .secQuery c => some (c, 0x0401, [])
  | .secStage c off data => some (c, 0x0402, le 4 off ++ data)
  | .secEnrol c args => some (c, 0x0403, args)
  | .secFwWrite c args => some (c, 0x0404, args)
  | .secFwCommit c args => some (c, 0x0405, args)
  | .secRollbackAdvance c args => some (c, 0x0406, args)
  | .secAttest c args => some (c, 0x0407, args)
  | .secRead c args => some (c, 0x0408, args)
  | .secDebugChallenge c args => some (c, 0x0409, args)
  | .secDebugOpen c args => some (c, 0x040A, args)
  | .secKeySet c args => some (c, 0x040B, args)
  | .secKeyTx c args => some (c, 0x040C, args)
  | .secKeyClear c args => some (c, 0x040D, args)
  | .secOhiKey c args => some (c, 0x040E, args)
  | .secTamperClear c args => some (c, 0x040F, args)
  | .hlkQuery c lane => some (c, 0x0801, [byte lane])
  | .hlkHeadRead c lane addr => some (c, 0x0802, byte lane :: le 2 addr)
  | .hlkHeadWrite c lane addr data => some (c, 0x0803, byte lane :: (le 2 addr ++ le 4 data))
  | .hlkRealign c lane => some (c, 0x0804, [byte lane])
  | .chnStart c ch => some (c, 0x1801, [byte ch])
  | .chnStop c ch => some (c, 0x1802, [byte ch])
  | .chnQuiet c ch => some (c, 0x1803, [byte ch])
  | .chnResume c ch => some (c, 0x1804, [byte ch])
  | .chnRetrain c ch => some (c, 0x1805, [byte ch])
  | .chnSetCoupling c ch mode => some (c, 0x1806, [byte ch, byte mode])
  | .chnSetRole c ch role => some (c, 0x1807, [byte ch, byte role])
  | .chnQuery c ch => some (c, 0x1808, [byte ch])
  | .olaPairQuery c cls v slot => some (c, 0x2401, [byte cls, byte v, byte slot])
  | .olaVictimReset c cls v => some (c, 0x2402, [byte cls, byte v])
  | .olaCoefRead c cls v slot carrier count =>
    some (c, 0x2403, [byte cls, byte v, byte slot] ++ le 2 carrier ++ [byte count])
  | .olaCoefWrite c cls v slot carrier words =>
    some (c, 0x2404, [byte cls, byte v, byte slot, 0] ++ le 2 carrier ++ byte words.length :: words.flatMap (le 4))
  | .drmQuery c r => some (c, 0x3001, le 2 r)
  | .drmWake c r => some (c, 0x3002, le 2 r)
  | .drmRelease c r => some (c, 0x3003, le 2 r)
  | .timQuery c tb => some (c, 0x3401, [byte tb])
  | .timSet c tb sec ns rate => some (c, 0x3402, byte tb :: (le 6 sec ++ le 4 ns ++ le 4 rate))
  | .timFeed c tb off => some (c, 0x3403, byte tb :: le 8 off)
  | .timPairSelect c pair which => some (c, 0x3404, [byte pair, byte which])
  | .timAt c tb tick => some (c, 0x3405, byte tb :: le 8 tick)
  | .gauQuery c ch => some (c, 0x3801, [byte ch])
  | .gauCheck c ch => some (c, 0x3802, [byte ch])
  | .gauCalibrate c ch args => some (c, 0x3803, byte ch :: args.map byte)
  | .gauExcite c ch args => some (c, 0x3804, byte ch :: args.map byte)
  | .srgQuery c r => some (c, 0x3A01, [byte r])
  | .srgFreeze c args => some (c, 0x3A02, args.map byte)
  | .srgExport c args => some (c, 0x3A03, args.map byte)
  | .srgRelease c r => some (c, 0x3A04, [byte r])
  | .srgArrivalRead c index => some (c, 0x3A05, le 2 index)
  | .pnlQuery c part => some (c, 0x3E01, [byte part])
  | .regRead c addr count => some (c, 0x3E02, le 4 addr ++ [byte count])
  | .regWrite c addr words =>
    some (c, 0x3E03, le 4 addr ++ [byte words.length, 0, 0, 0] ++ words.flatMap (le 4))
  | .serQuery c port => some (c, 0x4001, [byte port])
  | .serFlush c port which => some (c, 0x4002, [byte port, byte which])
  | .cmdQuery c i => some (c, 0x4101, [byte i])
  | .cmdForce c i state ms => some (c, 0x4102, [byte i, byte state] ++ le 2 ms)
  | .cmdRelease c i => some (c, 0x4103, [byte i])
  | .bobQuery c b => some (c, 0x4201, [byte b])
  | .hbmQuery c => some (c, 0x5001, [])
  | .evtRead c => some (c, 0x6001, [])
  | .evtCfg c sevMin irqEn => some (c, 0x6002, [byte sevMin, byte irqEn])
  | .telSnap c => some (c, 0x7001, [])
  | .telRead c back word count => some (c, 0x7002, le 2 back ++ le 4 word ++ [byte count])
  | _ => none

end Sys2Proof.Machine
end

