-- ==== Sys2Proof/WellFormed.lean ====
section
/-! DEFINITION. The well-formed commands: each operand has a value its place can carry. An operand of an OHI command fits
its argument bytes (R78), whatever it names; an event names an instance the device has. -/

namespace Sys2Proof

open Sys2Proof.Machine

/-- An index of an instance the device has. -/
def under (n v : Nat) : Bool := decide (v < n)

/-- A value its `n` bytes can carry. -/
def fits (n v : Nat) : Bool := decide (v < 256 ^ n)

/-- An OHI command comes from one of the 16 panels, with a 16-bit tag (R78). -/
def cmdOk (c : Cmd) : Bool := under 16 c.pnl && fits 2 c.tag

/-- A byte string of at most `n` bytes. -/
def bytesOk (n : Nat) (l : List Byte) : Bool := decide (l.length ≤ n)

/-- At most `n` words of 32 bits. -/
def wordsOk (n : Nat) (l : List Nat) : Bool := decide (l.length ≤ n) && l.all (fits 4)

/-- At most `n` bytes, as numbers. -/
def byteWords (n : Nat) (l : List Nat) : Bool := decide (l.length ≤ n) && l.all (fits 1)

/-- The widths of a frame control's fields (R96). -/
def fcOk (f : FC) : Bool :=
  under 16 f.typ && under 4 f.ver && under 4 f.prio && under 4096 f.link && fits 2 f.src && fits 2 f.dst && under (2 ^ 52) f.body

/-- A PTP message holds a whole IEEE 1588 header, whose fields have their widths (R313). -/
def ptpOk (m : PtpMsg) : Bool :=
  under 16 m.typ && under 16 m.ver && fits 1 m.domain && fits 8 m.srcId && fits 2 m.srcPort && fits 2 m.seq && fits 6 m.ts && fits 4 m.tsNs
    && decide (34 ≤ m.body.length)

/-- The well-formed commands. -/
def Instr.wf : Instr → Bool
  | .patternBegin c kind panel => cmdOk c && fits 1 kind && fits 1 panel
  | .patternData c off data => cmdOk c && fits 4 off && bytesOk 52 data
  | .patternCommit c => cmdOk c
  | .patternAbort c => cmdOk c
  | .patternStore c slot => cmdOk c && fits 1 slot
  | .featureAccept c w0 w1 w2 w3 => cmdOk c && fits 4 w0 && fits 4 w1 && fits 4 w2 && fits 4 w3
  | .patternQuery c => cmdOk c
  | .loaderVerifyDone => true
  | .loaderCheckDone => true
  | .patternSeal => true
  | .panelPatternEffect panel => under 16 panel
  | .patternStoreDone _ => true
  | .flashPatternLoad => true
  | .ringDoorbell p word => under 16 p && fits 4 word
  | .ohiDatagram header cipher tag srcIp srcPort => bytesOk 65536 header && bytesOk 65536 cipher && bytesOk 65536 tag && fits 4 srcIp && fits 2 srcPort
  | .spiTransaction _ p addr count words => under 16 p && fits 4 addr && under 65 count && wordsOk 64 words
  | .spiCsEarlyRise _ p addr words partialBits => under 16 p && fits 4 addr && wordsOk 64 words && under 32 partialBits
  | .registerWrite p addr w => under 16 p && fits 4 addr && fits 4 w
  | .groupRead p addr => under 16 p && fits 4 addr
  | .rcFieldRead p addr _ => under 16 p && fits 4 addr
  | .w1cWrite p addr w hwSet => under 16 p && fits 4 addr && fits 4 w && fits 4 hwSet
  | .featAcceptWrite p w0 w1 w2 w3 => under 16 p && fits 4 w0 && fits 4 w1 && fits 4 w2 && fits 4 w3
  | .evtPnlRdWrite p target idx => under 16 p && under 16 target && fits 4 idx
  | .telStatusRead p => under 16 p
  | .serRxDataRead p port => under 16 p && under 8 port
  | .serTxDataWrite p port data => under 16 p && under 8 port && fits 2 data
  | .serDivWrite p port div => under 16 p && under 8 port && fits 3 div
  | .chnStart c ch => cmdOk c && fits 1 ch
  | .chnStop c ch => cmdOk c && fits 1 ch
  | .chnQuiet c ch => cmdOk c && fits 1 ch
  | .chnResume c ch => cmdOk c && fits 1 ch
  | .chnRetrain c ch => cmdOk c && fits 1 ch
  | .chnSetCoupling c ch mode => cmdOk c && fits 1 ch && fits 1 mode
  | .chnSetRole c ch role => cmdOk c && fits 1 ch && fits 1 role
  | .chnQuery c ch => cmdOk c && fits 1 ch
  | .trainTimeout ch => under 192 ch
  | .faultAutoRearm ch => under 192 ch
  | .gridSlotBoundary => true
  | .hemBoundary => true
  | .hemMapFix => true
  | .mainsCrossing _ _ => true
  | .sourceTimeout _ => true
  | .transmitCommit => true
  | .contentionCycleEnd ch => under 192 ch
  | .frameLaunch ch => under 192 ch
  | .ackMissing ch => under 192 ch
  | .liIdleFill ch => under 192 ch
  | .energyTrigger ch _ => under 192 ch
  | .qualifierPass ch _ => under 192 ch
  | .qualFail ch => under 192 ch
  | .syncPoint ch _ => under 192 ch
  | .detectorRearm ch => under 192 ch
  | .frameControlRx ch len => under 192 ch && fits 2 len
  | .symbolRx ch => under 192 ch
  | .stepRebaseEnd ch => under 192 ch
  | .decodeComplete pool unit => under 2 pool && under 48 unit
  | .decodeDrop => true
  | .dataFrameRx ch => under 192 ch
  | .ackSend ch => under 192 ch
  | .ackRx ch => under 192 ch
  | .floodFrameRx ch => under 192 ch
  | .beaconRx ch => under 192 ch
  | .soundRx ch => under 192 ch
  | .mapRx ch src msg => under 192 ch && fits 2 src && bytesOk 65536 msg
  | .mapNakRx ch src msg => under 192 ch && fits 2 src && bytesOk 65536 msg
  | .soundReqRx ch src msg => under 192 ch && fits 2 src && bytesOk 65536 msg
  | .invalidateAllRx ch src msg => under 192 ch && fits 2 src && bytesOk 65536 msg
  | .fallbackRx ch src msg => under 192 ch && fits 2 src && bytesOk 65536 msg
  | .soundTimeout ch => under 192 ch
  | .toneMapRetire ch => under 192 ch
  | .tmRefresh ch => under 192 ch
  | .errorReportRx ch msg => under 192 ch && bytesOk 65536 msg
  | .errReportDeadline ch t => under 192 ch && fits 1 t
  | .pairHoldExpiry cls victim slot => fits 1 cls && fits 1 victim && fits 1 slot
  | .olaPairQuery c cls v slot => cmdOk c && fits 1 cls && fits 1 v && fits 1 slot
  | .olaVictimReset c cls v => cmdOk c && fits 1 cls && fits 1 v
  | .olaCoefRead c cls v slot carrier count => cmdOk c && fits 1 cls && fits 1 v && fits 1 slot && fits 2 carrier && fits 1 count
  | .olaCoefWrite c cls v slot carrier words => cmdOk c && fits 1 cls && fits 1 v && fits 1 slot && fits 2 carrier && wordsOk 12 words
  | .messageHandover ch => under 192 ch
  | .segmentDeadline ch => under 192 ch
  | .rxMessageDiscard => true
  | .qAgeDrop panel q => under 16 panel && under 8 q
  | .seenEntryExpiry => true
  | .send p q msg => under 16 p && under 8 q && bytesOk 65535 msg
  | .flood p q msg => under 16 p && under 8 q && bytesOk 65535 msg
  | .hostFrameRx port frame _ _ => under 2 port && bytesOk 65535 frame
  | .arpRequest port vid frame => under 2 port && under 4096 vid && bytesOk 65536 frame
  | .prpSupervisionRx port frame => under 2 port && bytesOk 65536 frame
  | .prpSupervisionSend => true
  | .hostLinkChange port _ => under 2 port
  | .ethernetEgress port => under 2 port
  | .launchTimeFrame port _ => under 2 port
  | .sync port msg _ _ => under 194 port && ptpOk msg
  | .followUp port msg _ _ => under 194 port && ptpOk msg
  | .pdelayReq port msg _ _ => under 194 port && ptpOk msg
  | .pdelayResp port msg _ _ => under 194 port && ptpOk msg
  | .pdelayRespFollowUp port msg _ _ => under 194 port && ptpOk msg
  | .announce port msg _ _ => under 194 port && ptpOk msg
  | .signaling port msg _ _ => under 194 port && ptpOk msg
  | .management port msg _ _ => under 194 port && ptpOk msg
  | .pdelayInterval port => under 194 port
  | .heldCorrectionExpiry => true
  | .ppsInEdge _ => true
  | .timebaseLossTimeout k => under 8 k
  | .slewEnd pair => under 4 pair
  | .ppsOutEdge _ => true
  | .todTxLine => true
  | .timQuery c tb => cmdOk c && fits 1 tb
  | .timSet c tb sec ns rate => cmdOk c && fits 1 tb && fits 6 sec && fits 4 ns && fits 4 rate
  | .timFeed c tb off => cmdOk c && fits 1 tb && fits 8 off
  | .timPairSelect c tb which => cmdOk c && fits 1 tb && fits 1 which
  | .timAt c tb tick => cmdOk c && fits 1 tb && fits 8 tick
  | .upstreamFrame lane _ => under 8 lane
  | .frameLock lane => under 8 lane
  | .frameLockLost lane => under 8 lane
  | .lossOfSignal lane => under 8 lane
  | .readRsp lane tag addr data => under 8 lane && fits 1 tag && fits 2 addr && fits 4 data
  | .writeAck lane tag addr => under 8 lane && fits 1 tag && fits 2 addr
  | .nak lane tag cause => under 8 lane && fits 1 tag && fits 1 cause
  | .event lane code => under 8 lane && fits 1 code
  | .controlRepeat lane tag => under 8 lane && fits 1 tag
  | .couplingTimeout ch => under 192 ch
  | .laneRecalculate lane _ => under 8 lane
  | .alignmentDelayFix => true
  | .laneFaultRetry lane => under 8 lane
  | .hlkQuery c lane => cmdOk c && fits 1 lane
  | .hlkHeadRead c lane addr => cmdOk c && fits 1 lane && fits 2 addr
  | .hlkHeadWrite c lane addr data => cmdOk c && fits 1 lane && fits 2 addr && fits 4 data
  | .hlkRealign c lane => cmdOk c && fits 1 lane
  | .gaugeSampleDeadline ch path _ => under 192 ch && under 2 path
  | .chainOutput ch chain => under 192 ch && under 2 chain
  | .excitationInterval ch _ => under 192 ch
  | .checkDue ch => under 192 ch
  | .gauQuery c ch => cmdOk c && fits 1 ch
  | .gauCheck c ch => cmdOk c && fits 1 ch
  | .gauCalibrate c ch args => cmdOk c && fits 1 ch && byteWords 55 args
  | .gauExcite c ch args => cmdOk c && fits 1 ch && byteWords 55 args
  | .blankEdge i _ _ => under 4 i
  | .blankExtensionEnd i => under 4 i
  | .armExpiry ch => under 192 ch
  | .wavefrontArrival ch _ => under 192 ch
  | .deadTimeEnd ch => under 192 ch
  | .regionCollected r => under 8 r
  | .exportMessage r => under 8 r
  | .srgQuery c r => cmdOk c && fits 1 r
  | .srgFreeze c args => cmdOk c && byteWords 56 args
  | .srgExport c args => cmdOk c && byteWords 26 args
  | .srgRelease c r => cmdOk c && fits 1 r
  | .srgArrivalRead c index => cmdOk c && fits 2 index
  | .serialCharacterRx port data _ _ _ _ => under 8 port && fits 2 data
  | .framingRearm port => under 8 port
  | .serialGapClose port => under 8 port
  | .serialCharacterTx port => under 8 port
  | .deRelease port => under 8 port
  | .oscStop port => under 8 port
  | .serQuery c port => cmdOk c && fits 1 port
  | .serFlush c port which => cmdOk c && fits 1 port && fits 1 which
  | .contactChangeAccepted i => under 16 i
  | .commandRefresh g => fits 1 g
  | .commandMessage g msg => fits 1 g && bytesOk 65536 msg
  | .cmdWatch i => under 16 i
  | .pulseEnd i => under 16 i
  | .cmdForceEnd i => under 16 i
  | .cmdQuery c i => cmdOk c && fits 1 i
  | .cmdForce c i state secs => cmdOk c && fits 1 i && fits 1 state && fits 2 secs
  | .cmdRelease c i => cmdOk c && fits 1 i
  | .sleepReq ch src msg => under 192 ch && fits 2 src && bytesOk 65536 msg
  | .syncingTimeout r => under 4096 r
  | .wakeSyncRx ch => under 192 ch
  | .wakeSyncReply ch => under 192 ch
  | .listenWindowOpen r => under 4096 r
  | .listenWindowClose r => under 4096 r
  | .wakeSequenceStart r => under 4096 r
  | .wakeListenExpiry r => under 4096 r
  | .awakeHoldExpiry r => under 4096 r
  | .drmQuery c r => cmdOk c && fits 2 r
  | .drmWake c r => cmdOk c && fits 2 r
  | .drmRelease c r => cmdOk c && fits 2 r
  | .pnlQuery c part => cmdOk c && fits 1 part
  | .regRead c addr count => cmdOk c && fits 4 addr && fits 1 count
  | .regWrite c addr words => cmdOk c && fits 4 addr && wordsOk 12 words
  | .bobQuery c b => cmdOk c && fits 1 b
  | .hbmQuery c => cmdOk c
  | .bobbinFault b cause => under 256 b && fits 1 cause
  | .bobMove b => under 256 b
  | .hbmUe _ client => fits 1 client
  | .hbmRecalibration pc => under 128 pc
  | .logFlashWrite _ => true
  | .pipeFence p => under 24 p
  | .codUnitFenced pool unit => under 2 pool && under 48 unit
  | .overlockFence => true
  | .memFence => true
  | .hostPortFail port => under 2 port
  | .evtRead c => cmdOk c
  | .evtCfg c sevMin irqEn => cmdOk c && fits 1 sevMin && fits 1 irqEn
  | .telSnap c => cmdOk c
  | .telRead c back word count => cmdOk c && fits 2 back && fits 4 word && fits 1 count
  | .telemetrySnapshot => true
  | .secQuery c => cmdOk c
  | .secStage c off data => cmdOk c && fits 4 off && bytesOk 52 data
  | .secEnrol c args => cmdOk c && bytesOk 56 args
  | .secFwWrite c args => cmdOk c && bytesOk 56 args
  | .secFwCommit c args => cmdOk c && bytesOk 56 args
  | .secRollbackAdvance c args => cmdOk c && bytesOk 56 args
  | .secAttest c args => cmdOk c && bytesOk 56 args
  | .secRead c args => cmdOk c && bytesOk 56 args
  | .secDebugChallenge c args => cmdOk c && bytesOk 56 args
  | .secDebugOpen c args => cmdOk c && bytesOk 56 args
  | .debugClose => true
  | .secKeySet c args => cmdOk c && bytesOk 56 args
  | .secKeyTx c args => cmdOk c && bytesOk 56 args
  | .secKeyClear c args => cmdOk c && bytesOk 56 args
  | .secOhiKey c args => cmdOk c && bytesOk 56 args
  | .secTamperClear c args => cmdOk c && bytesOk 56 args
  | .tamperOpen => true
  | .rstQuery c => cmdOk c
  | .rstRequest c level => cmdOk c && fits 1 level
  | .rstBlock c typ idx => cmdOk c && fits 1 typ && fits 1 idx
  | .blockResetComplete typ idx _ => fits 1 typ && fits 4 idx
  | .pwrQuery c => cmdOk c
  | .pwrKeep c args => cmdOk c && bytesOk 56 args
  | .powerOn bootSel modAddr => under 4 bootSel && under 16 modAddr
  | .brownOut => true
  | .resetNLow => true
  | .watchdogExpiry d => fits 1 d
  | .dbgReqNLow => true
  | .clockFailure => true
  | .lockUp => true
  | .resetRelease => true
  | .firmwareVerified _ => true
  | .memoryTrainingDone _ => true
  | .inputLost _ bulk => fits 2 bulk
  | .inputReturn bulk => fits 2 bulk
  | .gaspEntry => true
  | .keepEntry => true
  | .blank0KeepWake _ => true
  | .aonStoresExhausted => true
  | .refclkValid _ ofs => fits 4 ofs
  | .clkRefLost => true
  | .clockSlewEnd => true
  | .pwrXtal => true
  | .pwrHot temp => fits 1 temp
  | .signalAndSymbolLock lane => under 8 lane
  | .softwareResetAssert => true
  | .tamperLoopClosed => true
  | .ppsInTimeout => true
  | .vbatLevelChange _ => true
  | .contactInputEdge i _ _ => under 16 i

end Sys2Proof
end

