-- ==== Sys2Proof/Safety.lean ====
section
/-! DEFINITION. What a safe run keeps, in the terms the statements use. -/

namespace Sys2Proof.Machine

/-- Every register field holds a value of its width (R15, R522). -/
def RegsFit (regs : Tbl Nat) : Prop := ∀ (F : Fld) (i : Nat), tget (F.resetAt i) (F.key i) regs < 2 ^ F.width

/-- No register field is listed twice: the keys rise strictly. -/
def RegsSorted (regs : Tbl Nat) : Prop := regs.Pairwise (fun a b => a.1 < b.1)

/-- The invariant of the machine: register fields are listed in order and fit their widths, and the ring RAM is in canonical
form. -/
def State.Inv (s : State) : Prop := RegsSorted s.regs ∧ RegsFit s.regs ∧ s.mgmt.ringRam.wf

/-- OHI takes a panel's command, and the firmware serves it: over SPI its response ring has room (R81), the module is neither in
KEEP nor under a COLD or WARM reset (R504), the boot ROM has handed over (R463) and no earlier command of the panel is still open
(R80). -/
abbrev State.Takes (s : State) (c : Cmd) : Prop :=
  (s.inBand c.pnl = true ∨ s.rspFull c.pnl = false) ∧ s.serving = true ∧ s.bootOnly = false ∧ s.ohiOpen c.pnl = false

/-- No ring offers an entry and no in-band datagram waits for its responses. -/
abbrev State.RingsIdle (s : State) : Prop :=
  s.host.ohiIn = [] ∧ ∀ p : Nat, p < 16 → s.fld .PNL_RING_IDX_cmd_head p = s.fld .PNL_RING_IDX_cmd_tail p

/-- The 64 bytes of a ring entry (R78): opcode, tag, length, two reserved bytes, the arguments and zeros. -/
def entryBytes (op tag : Nat) (args : List Byte) : List Byte :=
  le 2 op ++ le 2 tag ++ le 2 args.length ++ [0, 0] ++ args ++ List.replicate (56 - args.length) 0

/-- A command completes: it answers a next state, neither a fault nor a refusal. -/
def Completes (c : Instr) (s : State) : Prop := ∃ t, exec c s = .next t

/-- From `s` to `t` the register fields outside `fs` are as they were. -/
def FldsKept (fs : List (Fld × Nat)) (s t : State) : Prop :=
  ∀ (F : Fld) (i : Nat), (F, i) ∉ fs → t.fld F i = s.fld F i

/-- The register fields that raising an event may change (R529, R532): the ring's head, the panels' read positions and lost
counts, and the count of staged entries dropped. -/
def logFlds : List (Fld × Nat) :=
  [(.EVT_STATUS_head, 0), (.EVT_STATUS_wrapped, 0), (.HBM_MISC_CNT_log_drop, 0)]
    ++ (List.range 16).map (fun p => (Fld.EVT_PNL_RD_rd, p)) ++ (List.range 16).map (fun p => (Fld.EVT_PNL_CNT_lost, p))

/-- From `s` to `t` every byte of the ring RAM outside `n` bytes from `a` is as it was. -/
def RingKept (a n : Nat) (s t : State) : Prop :=
  ∀ b : Nat, b < a ∨ a + n ≤ b → memByte t.mgmt.ringRam b = memByte s.mgmt.ringRam b

end Sys2Proof.Machine
end

