-- ==== Sys2Proof/Certificates/Slice0/Obligations.lean ====
section
/-! DEFINITION. The statements about the machine, for the provers. -/

open Sys2Proof Sys2Proof.Machine

/-- A step of a state with a command at the front of its queue is that command's effect on the state with the queue's rest.
The queue is the model's own (log 41). -/
def Obligations.StepRunsTheFrontCommand : Prop :=
  ∀ (c : Instr) (s : State), step { s with pending := c :: s.pending } = exec c s

/-- While no command waits the tick counter runs by one, where no ring offers an entry; without power nothing happens.
The model's choice (log 40). -/
def Obligations.IdleStepCountsOneTick : Prop :=
  ∀ s : State, s.pending = [] →
    (s.rst.off = true → step s = .next s) ∧
    (s.rst.off = false → s.host.ohiIn = [] →
      (∀ p : Nat, p < 16 → s.fld .PNL_RING_IDX_cmd_head p = s.fld .PNL_RING_IDX_cmd_tail p) →
      step s = .next { s with tick := s.tick + 1 })

/-- Every command and every step answers a next state. -/
def Obligations.EveryCommandCompletes : Prop :=
  (∀ (c : Instr) (s : State), Completes c s) ∧ ∀ s : State, ∃ t : State, step s = .next t

/-- No command changes the queue: a reset, a seal or a power loss no more than a query. -/
def Obligations.CommandsLeaveTheQueue : Prop :=
  ∀ (c : Instr) (s t : State), exec c s = .next t → t.pending = s.pending

/-- From every state that meets the invariant, not only those a run from reset reaches, a step leads to a state that meets it. -/
def Obligations.EveryStepKeepsTheInvariant : Prop :=
  ∀ s t : State, s.Inv → step s = .next t → t.Inv

/-- Reset meets the invariant of the machine. -/
def Obligations.ResetMeetsTheInvariant : Prop := State.reset.Inv ∧ State.reset.pending = []

/-- Every field whose Reset column states a value holds it at reset; some named ones. -/
def Obligations.ResetValuesOfTheRegisterTables : Prop :=
  (∀ (F : Fld) (i n : Nat), F.info.rst = .val n → F ≠ .GAU_CH_K_k → State.reset.fld F i = n) ∧
  (∀ ch : Nat, State.reset.fld .GAU_CH_K_k (2 * ch) = 0x10000 ∧ State.reset.fld .GAU_CH_K_k (2 * ch + 1) = 0) ∧
  State.reset.fld .PAT_STATUS_loader_state 0 = 0 ∧ State.reset.fld .PAT_STATUS_sealed 0 = 0 ∧
  State.reset.fld .GLB_STATUS_boot 0 = 0 ∧ (∀ ch : Nat, State.reset.fld .CHN_STATUS_state ch = 0) ∧
  State.reset.fld .CHN_ID_block_id 7 = 0x18 ∧ State.reset.fld .DLV_ID_block_id 0 = 0x2C ∧
  State.reset.tick = 0 ∧ State.reset.mgmt.ringRam = []

/-- The one operation that stores a register field, and that fields and instances do not alias. -/
def Obligations.WrittenFieldReadsBack : Prop :=
  ∀ (s : State) (F G : Fld) (i j v : Nat),
    (s.setFld F i v).fld G j = (if F = G ∧ i = j then v % 2 ^ F.width else s.fld G j) ∧
    s.setFld F i v = { s with regs := (s.setFld F i v).regs }

/-- R19's two kinds of counter, with the accumulators of R534. -/
def Obligations.CountersSaturateOrWrap : Prop :=
  ∀ (s : State) (F : Fld) (i n : Nat),
    (s.bumpN F i n).fld F i = min (s.fld F i + n) (2 ^ F.width - 1) ∧
    (s.bumpWrapN F i n).fld F i = (s.fld F i + n) % 2 ^ F.width ∧
    FldsKept [(F, i)] s (s.bumpN F i n) ∧ FldsKept [(F, i)] s (s.bumpWrapN F i n) ∧
    (∀ key : Nat, tget 0 key (s.bumpN F i n).tel
      = if key = F.key i then (tget 0 key s.tel + n) % 2 ^ 32 else tget 0 key s.tel) ∧
    (∀ key : Nat, tget 0 key (s.bumpWrapN F i n).tel
      = if key = F.key i then (tget 0 key s.tel + n) % 2 ^ 32 else tget 0 key s.tel)

/-- R530: repeats merge, others are written at the head. -/
def Obligations.EventsMergeOrEnterTheRing : Prop :=
  ∀ (s : State) (code panel inst data : Nat),
    (∀ e : Ev, s.evNewest = some e → e.code = code → e.panel = panel → e.inst = inst → e.data = data % 2 ^ 64 →
      e.hem = s.grid.hem →
      (s.log code panel inst data).regs = s.regs ∧
      (s.log code panel inst data).evNewest = some { e with rep := min (e.rep + 1) 65535 } ∧
      ∀ k : Nat, k ≠ (s.evHead + 8191) % 8192 → tfind k (s.log code panel inst data).mgmt.ring = tfind k s.mgmt.ring) ∧
    ((∀ e : Ev, s.evNewest = some e → ¬(e.code = code ∧ e.panel = panel ∧ e.inst = inst ∧ e.data = data % 2 ^ 64 ∧
        e.hem = s.grid.hem)) →
      tfind s.evHead (s.log code panel inst data).mgmt.ring
        = some ⟨code, evSev code, panel, inst, 0, s.tick, data % 2 ^ 64, s.grid.hem⟩ ∧
      (s.log code panel inst data).evHead = (s.evHead + 1) % 8192 ∧
      ∀ k : Nat, k ≠ s.evHead → tfind k (s.log code panel inst data).mgmt.ring = tfind k s.mgmt.ring)

/-- R528. -/
def Obligations.RefusalsAreLogged : Prop :=
  ∀ (s : State) (c : Cmd) (op : Nat) (r : Resp), op < 65536 → s.evHead < 8192 →
    (r.res ≠ .ok → ∃ e : Ev, (s.answer c op r).evNewest = some e ∧ e.code = 0x6001 ∧ e.panel = c.pnl ∧
      e.data % 65536 = op ∧ e.data / 65536 = r.res.code ∧
      ((∃ o : Ev, s.evNewest = some o ∧ e = { o with rep := min (o.rep + 1) 65535 }) ∨
        (s.answer c op r).evHead = (s.evHead + 1) % 8192)) ∧
    (r.res = .ok → (s.answer c op r).mgmt.ring = s.mgmt.ring ∧ (s.answer c op r).evHead = s.evHead)

/-- The response entry of R78, byte by byte, and the frame of an answer. -/
def Obligations.SpiResponseEntersTheRing : Prop :=
  ∀ (s : State) (c : Cmd) (op : Nat) (r : Resp), s.inBand c.pnl = false →
    let a := c.pnl * 0x1000 + 0xC00 + 32 * (s.fld .PNL_RING_IDX_rsp_tail c.pnl % 32)
    let t := s.answer c op r
    memBytes t.mgmt.ringRam a 32
      = le 2 c.tag ++ le 2 op ++ [byte r.res.code, 0] ++ le 2 r.data.length ++ slice r.data 0 24 ∧
    RingKept a 32 s t ∧
    t.fld .PNL_RING_IDX_rsp_tail c.pnl = (s.fld .PNL_RING_IDX_rsp_tail c.pnl + 1) % 64 ∧
    (r.res = .ok → s.fld .PNL_RING_IDX_cmd_head c.pnl ≠ s.fld .PNL_RING_IDX_rsp_tail c.pnl →
      FldsKept [(.PNL_RING_IDX_rsp_tail, c.pnl)] s t) ∧
    (r.res = .ok → FldsKept [(.PNL_RING_IDX_rsp_tail, c.pnl), (.PNL_RING_IDX_cmd_head, c.pnl), (.PNL_RING_IDX_cmd_tail, c.pnl)] s t)

/-- R81, with the modulus 64 of the ring indices. -/
def Obligations.FullResponseRingStopsCommands : Prop :=
  (∀ (s : State) (c : Cmd) (ch a n : Nat), s.inBand c.pnl = false → s.rspFull c.pnl = true →
    exec (.patternQuery c) s = .next s ∧ exec (.chnStart c ch) s = .next s ∧ exec (.regRead c a n) s = .next s) ∧
  (∀ (s : State) (q w : Nat), s.inBand q = false →
    let t := w % 64
    let h := w / 2 ^ 24 % 64
    s.writeRingIdx q w =
      if 32 < (t + 64 - s.fld .PNL_RING_IDX_cmd_head q) % 64 ∨ 32 < (s.fld .PNL_RING_IDX_rsp_tail q + 64 - h) % 64 then
        s.bump .PNL_CMD_OVF_CNT_count q
      else (s.setFld .PNL_RING_IDX_cmd_tail q t).setFld .PNL_RING_IDX_rsp_head q h)

/-- Every opcode and every argument of R79's tables, through the ring. -/
def Obligations.RingEntriesRunTheirCommand : Prop :=
  ∀ (i : Instr) (c : Cmd) (op : Nat) (args : List Byte) (s : State), i.wf = true → instrEntry i = some (c, op, args) →
    (∀ (d : Cmd) (a : Nat) (ws : List Nat), i ≠ .regWrite d a ws) →
    let h := s.fld .PNL_RING_IDX_cmd_head c.pnl
    memBytes s.mgmt.ringRam (cmdAddr c.pnl h) 64 = entryBytes op c.tag args →
    ∃ t : State, exec i (s.setFld .PNL_RING_IDX_cmd_head c.pnl ((h + 1) % 64)) = .next t ∧ s.takeEntry c.pnl = t.sendOhi

/-- R56. -/
def Obligations.FullLoadsBelongToPanelZero : Prop :=
  ∀ (s : State) (c : Cmd), s.Takes c → c.pnl ≠ 0 →
    exec (.patternBegin c 1 0) s = .next (s.answer c 0x0301 (rsp .denied)) ∧
    (∀ slot : Nat, slot < 2 → exec (.patternStore c slot) s = .next (s.answer c 0x0305 (rsp .denied))) ∧
    (∀ w0 w1 w2 w3 : Nat, exec (.featureAccept c w0 w1 w2 w3) s = .next (s.answer c 0x0306 (rsp .denied))) ∧
    (∀ p : Nat, 1 ≤ p → p ≤ 15 → p ≠ c.pnl → exec (.patternBegin c 2 p) s = .next (s.answer c 0x0301 (rsp .denied)))

/-- R61. -/
def Obligations.PatternDataStagesBytes : Prop :=
  (∀ a : Nat, memByte [] a = 0) ∧
  ∀ (s : State) (c : Cmd) (off : Nat) (data : List Byte), s.Takes c → s.loader = 1 → s.ldr.by_ = c.pnl →
    1 ≤ data.length → data.length ≤ 52 →
    let limit := if s.ldr.kind = 2 then 1048576 else 16777216
    (off + data.length ≤ limit → ∃ t : State,
      exec (.patternData c off data) s = .next (t.answer c 0x0302 (rsp .ok)) ∧
      (∀ a : Nat, memByte t.ldr.stage a
        = if off ≤ a ∧ a < off + data.length then data.getD (a - off) 0 else memByte s.ldr.stage a) ∧
      t = { s with ldr := { s.ldr with stage := t.ldr.stage, top := max s.ldr.top (off + data.length) } }) ∧
    (limit < off + data.length → exec (.patternData c off data) s = .next (s.answer c 0x0302 (rsp .badArg)))

/-- The loader's commands, with their frames. -/
def Obligations.LoaderCommandsTakeEffect : Prop :=
  ∀ (s : State) (c : Cmd), s.Takes c →
    (∀ kind panel : Nat, s.loader = 0 → s.recovery = false → s.owned = true →
      (kind = 1 ∧ panel = 0 ∧ c.pnl = 0 ∨
        kind = 2 ∧ 1 ≤ panel ∧ panel ≤ 15 ∧ (c.pnl = 0 ∨ c.pnl = panel) ∧ s.inForce 12 = true) →
      ∃ t : State, exec (.patternBegin c kind panel) s = .next (t.answer c 0x0301 (rsp .ok)) ∧ t.loader = 1 ∧
        t.ldr = { s.ldr with stage := [], top := 0, kind := kind, panel := panel, by_ := c.pnl, flash := none,
                             accept := s.acceptSet } ∧
        FldsKept [(.PAT_STATUS_loader_state, 0)] s t ∧ t = { s with regs := t.regs, ldr := t.ldr }) ∧
    (s.loader = 1 → s.ldr.by_ = c.pnl →
      ∃ t : State, exec (.patternCommit c) s = .next t ∧ t.loader = 2 ∧
        t.ldr = { s.ldr with cmd := some c, commitAt := s.tick } ∧
        t.mgmt = { s.mgmt with deferred := s.mgmt.deferred ++ [⟨0x0303, c, 0, s.inBand c.pnl⟩] } ∧
        FldsKept [(.PAT_STATUS_loader_state, 0)] s t ∧ t = { s with regs := t.regs, ldr := t.ldr, mgmt := t.mgmt }) ∧
    (s.loader = 1 → s.ldr.by_ = c.pnl →
      ∃ t : State, exec (.patternAbort c) s = .next (t.answer c 0x0304 (rsp .ok)) ∧ t.loader = 0 ∧ t.ldr.stage = [] ∧
        t.ldr.top = 0 ∧
        (∀ k : Nat, k < 4 → t.fld .FEAT_ACCEPT_accept k
          = if s.ldr.kind = 1 then s.ldr.accept / 2 ^ (32 * k) % 2 ^ 32 else s.fld .FEAT_ACCEPT_accept k) ∧
        FldsKept [(.PAT_STATUS_loader_state, 0), (.FEAT_ACCEPT_accept, 0), (.FEAT_ACCEPT_accept, 1),
          (.FEAT_ACCEPT_accept, 2), (.FEAT_ACCEPT_accept, 3)] s t ∧ t = { s with regs := t.regs, ldr := t.ldr }) ∧
    (∀ slot : Nat, slot < 2 → c.pnl = 0 → s.loader < 2 → s.ldr.storing = none → s.isSealed = true →
      ∃ t : State, exec (.patternStore c slot) s = .next (t.answer c 0x0305 (rsp .ok)) ∧
        tget {} slot t.ldr.slots = ⟨s.ldr.image, false⟩ ∧ tget {} (1 - slot) t.ldr.slots = tget {} (1 - slot) s.ldr.slots ∧
        t = { s with ldr := { s.ldr with slots := t.ldr.slots, storing := some slot } }) ∧
    exec (.patternQuery c) s = .next (s.answer c 0x0307
      ⟨.ok, le 8 ((s.full.map (fun q => q.hdr.serial)).getD 0) ++ le 8 (if c.pnl = 0 then 0 else tget 0 c.pnl s.ldr.serials)⟩)

/-- R70, with the group write of R14. -/
def Obligations.AcceptedFeaturesAreOffered : Prop :=
  (∀ (s : State) (w0 w1 w2 w3 : Nat), s.acceptOpen = true → w0 < 2 ^ 32 → w1 < 2 ^ 32 → w2 < 2 ^ 32 → w3 < 2 ^ 32 →
    let w (k : Nat) : Nat := [w0, w1, w2, w3].getD k 0
    ∃ t : State, exec (.featAcceptWrite 0 w0 w1 w2 w3) s = .next t ∧
      (∀ k : Nat, k < 4 → t.fld .FEAT_ACCEPT_accept k = (w k &&& s.fld .FEAT_OFFER_offer k) % 2 ^ 32) ∧
      t.fld .GLB_FEAT_DROP_CNT_count 0
        = (if ∃ k : Nat, k < 4 ∧ w k &&& s.fld .FEAT_OFFER_offer k ≠ w k
            then min (s.fld .GLB_FEAT_DROP_CNT_count 0 + 1) 65535 else s.fld .GLB_FEAT_DROP_CNT_count 0) ∧
      FldsKept [(.GLB_FEAT_DROP_CNT_count, 0), (.FEAT_ACCEPT_accept, 0), (.FEAT_ACCEPT_accept, 1),
        (.FEAT_ACCEPT_accept, 2), (.FEAT_ACCEPT_accept, 3)] s t) ∧
  (∀ (s : State) (w : Nat), s.mgmt.latches = [] → exec (.registerWrite 0 0x2C w) s = .next s.pump) ∧
  (∀ (s : State) (p w0 w1 w2 w3 : Nat), 0 < p → p < 16 → exec (.featAcceptWrite p w0 w1 w2 w3) s = .next s) ∧
  (∀ (s : State) (c : Cmd) (w0 w1 w2 w3 : Nat), s.Takes c → c.pnl = 0 → s.loader < 2 → s.acceptOpen = true →
    w0 < 2 ^ 32 → w1 < 2 ^ 32 → w2 < 2 ^ 32 → w3 < 2 ^ 32 →
    let w (k : Nat) : Nat := [w0, w1, w2, w3].getD k 0
    ((∀ k : Nat, k < 4 → w k &&& s.fld .FEAT_OFFER_offer k = w k) →
      ∃ t : State, exec (.featureAccept c w0 w1 w2 w3) s = .next (t.answer c 0x0306 (rsp .ok)) ∧
        (∀ k : Nat, k < 4 → t.fld .FEAT_ACCEPT_accept k = w k) ∧
        FldsKept [(.FEAT_ACCEPT_accept, 0), (.FEAT_ACCEPT_accept, 1), (.FEAT_ACCEPT_accept, 2), (.FEAT_ACCEPT_accept, 3)] s t ∧
        t = { s with regs := t.regs }) ∧
    ((∃ k : Nat, k < 4 ∧ w k &&& s.fld .FEAT_OFFER_offer k ≠ w k) →
      exec (.featureAccept c w0 w1 w2 w3) s = .next (s.answer c 0x0306 (rsp .notNegotiated))))

/-- VERIFYING and CHECKING, and that a rejection disturbs no traffic. -/
def Obligations.LoadsAreVerifiedThenChecked : Prop :=
  (∀ s : State, s.loader = 2 → ∃ t : State, exec .loaderVerifyDone s = .next t ∧ t.pat = s.pat ∧ t.full = s.full ∧
    match s.verifyFail with
    | none => t = s.setLoader 3 ∧ t.loader = 3
    | some code => t.loader = 0 ∧ t.fld .PAT_STATUS_last_reject 0 = code ∧ t.ldr.stage = [] ∧ t.ldr.top = 0 ∧
        t.fld .PAT_REJECT_CNT_rejects 0 = min (s.fld .PAT_REJECT_CNT_rejects 0 + 1) 65535) ∧
  (∀ s : State, s.loader = 3 → s.ldr.kind = 1 → ∃ t : State, exec .loaderCheckDone s = .next t ∧ t.pat = s.pat ∧ t.full = s.full ∧
    match (s.bumpN .PAT_REJECT_CNT_skips 0 (sectionsOf s.staged).skips).checkFull s.staged with
    | .good p => t.loader = 4 ∧ t.ldr = { s.ldr with parsed := some p }
    | .bad code _ => t.loader = 0 ∧ t.fld .PAT_STATUS_last_reject 0 = code % 256 ∧ t.ldr.stage = [])

/-- What brings patterns into service, and the flash slots. -/
def Obligations.SealsPutPatternsIntoService : Prop :=
  (∀ (s : State) (p : Pat), s.loader = 4 → s.ldr.parsed = some p → ∃ u : State,
    exec .patternSeal s = .next u.runWaiting ∧ u.loader = 0 ∧ u.isSealed = true ∧
    u.fld .PAT_STATUS_source 0 = (match s.ldr.flash with | some k => (k + 1) % 4 | none => 3) ∧
    (∃ (k : Nat) (e : Ev), tfind k u.mgmt.ring = some e ∧ e.code = 0x0301 ∧ e.data = p.hdr.serial % 2 ^ 64) ∧
    u.ldr.parsed = none ∧ u.ldr.stage = [] ∧ u.ldr.sources = []) ∧
  (∀ (s : State) (n : Nat) (e : PanelPat), tfind n s.ldr.pend = some e → s.grid.running = true →
    (s.grid.b < e.tick + 40000000 ∨ s.atHemStart = false → exec (.panelPatternEffect n) s = .next s) ∧
    (s.atHemStart = true → e.tick + 40000000 ≤ s.grid.b → ∃ t : State, exec (.panelPatternEffect n) s = .next t ∧ tfind n t.ldr.pend = none ∧
      tfind n t.ldr.inEffect = some { e with cmd := none } ∧ tfind n t.ldr.serials = some e.pat.hdr.serial)) ∧
  (∀ s : State, s.loader = 0 → s.isSealed = false → s.recovery = false → s.owned = true →
    ∃ t : State, exec .flashPatternLoad s = .next t ∧
    match nextFlash s.ldr.slots s.ldr.sources with
    | none => t = { s with ldr := { s.ldr with sources := [] } }
    | some (k, rest) => t.loader = 2 ∧ t.ldr.flash = some k ∧ t.ldr.sources = rest ∧ t.ldr.kind = 1 ∧
        t.ldr.top = (tget {} k s.ldr.slots).bytes.length ∧
        (∀ j : Nat, j < 4 → t.fld .FEAT_ACCEPT_accept j
          = (parseHdr (tget {} k s.ldr.slots).bytes).features / 2 ^ (32 * j) % 2 ^ 32) ∧
        FldsKept [(.PAT_STATUS_loader_state, 0), (.FEAT_ACCEPT_accept, 0), (.FEAT_ACCEPT_accept, 1),
          (.FEAT_ACCEPT_accept, 2), (.FEAT_ACCEPT_accept, 3)] s t ∧ t = { s with regs := t.regs, ldr := t.ldr }) ∧
  (∀ (s : State) (k : Nat) (ok : Bool), s.ldr.storing = some k → ∃ t : State, exec (.patternStoreDone ok) s = .next t ∧
    tget {} k t.ldr.slots = { tget {} k s.ldr.slots with valid := ok } ∧
    (∀ j : Nat, j ≠ k → tget {} j t.ldr.slots = tget {} j s.ldr.slots) ∧
    t = { s with ldr := { s.ldr with slots := t.ldr.slots, storing := none } })

/-- R20 and R523: reads give 0, writes have no effect, each is counted once. -/
def Obligations.WindowsAndSpansGuardRegisters : Prop :=
  ∀ (s : State) (p a w : Nat), p < 16 →
    (s.inAlias p a = false →
      (s.RingsIdle → exec (.registerWrite p a w) s = .next (s.bump .PNL_ALIAS_FAULT_CNT_count p)) ∧
      exec (.rcFieldRead p a []) s = .next ((s.bump .PNL_ALIAS_FAULT_CNT_count p).spi [0, 0, 0, 0])) ∧
    (s.inAlias p a = true → blkOf a = none ∨ a % 4 ≠ 0 →
      (s.RingsIdle → exec (.registerWrite p a w) s = .next (s.bump .GLB_UNMAPPED_CNT_count 0)) ∧
      exec (.rcFieldRead p a []) s = .next ((s.bump .GLB_UNMAPPED_CNT_count 0).spi [0, 0, 0, 0]))

/-- Access codes, by a register of each kind, read and written by PNL0. -/
def Obligations.RegisterAccessesFollowTheirCodes : Prop :=
  (∀ (s : State) (w : Nat), s.RingsIdle → exec (.registerWrite 0 0x700004 w) s
    = .next ((s.setFld .TEL_CFG_tel_on 0 (w % 2)).setFld .TEL_CFG_tel_period 0 (max 1 (w / 256 % 256)))) ∧
  (∀ (s : State) (m n : Nat), ∃ t : State, exec (.rcFieldRead 0 0x30014 [m, n]) s = .next t ∧
    t.mgmt.spiOut = le 4 (s.fld .PAT_REJECT_CNT_rejects 0 + 65536 * s.fld .PAT_REJECT_CNT_skips 0) ∧
    t.fld .PAT_REJECT_CNT_rejects 0 = min m 65535 ∧ t.fld .PAT_REJECT_CNT_skips 0 = min n 65535 ∧
    FldsKept [(.PAT_REJECT_CNT_rejects, 0), (.PAT_REJECT_CNT_skips, 0)] s t) ∧
  (∀ (s : State) (w h : Nat), ∃ t : State, exec (.w1cWrite 0 0x10004 w h) s = .next t ∧
    (∀ b : Nat, b < 12 → w < 2 ^ 32 → s.fld .RST_CAUSE_sources 0 < 4096 → (t.fld .RST_CAUSE_sources 0).testBit b
      = (((s.fld .RST_CAUSE_sources 0).testBit b && !w.testBit b) || h.testBit b)) ∧
    FldsKept [(.RST_CAUSE_sources, 0)] s t ∧ t = { s with regs := t.regs }) ∧
  (∀ s : State, ∃ t : State, exec (.groupRead 0 0x340008) s = .next t ∧ t.mgmt.spiOut = le 4 (s.tick % 2 ^ 32) ∧
    Shadow.mk 0 0x340008 [(0x34000C, s.tick / 2 ^ 32 % 2 ^ 32)] ∈ t.mgmt.shadows ∧
    t = { s with mgmt := { s.mgmt with shadows := t.mgmt.shadows, spiOut := t.mgmt.spiOut } }) ∧
  (∀ s : State, ∃ t : State, exec (.telStatusRead 0) s = .next t ∧ t.mgmt.window = s.mgmt.snaps.head? ∧
    t.mgmt.spiOut = le 4 (((s.mgmt.snaps.head?.map (·.seq)).getD 0) % 65536 + 65536 * (if s.isSealed then telWords else 0)) ∧
    t = { s with mgmt := { s.mgmt with window := t.mgmt.window, spiOut := t.mgmt.spiOut } }) ∧
  (∀ (s : State) (q w : Nat), q < 16 → exec (.evtPnlRdWrite 0 q w) s
    = .next (s.setFld .EVT_PNL_RD_rd q
        (if w % 8192 = s.evHead ∨ (w % 8192 + 8192 - s.evOldest) % 8192 < s.mgmt.live then w % 8192 else s.evOldest)))

/-- DIRECT characters and the divisor's shadow. -/
def Obligations.SerialRegistersOfDirectPorts : Prop :=
  ∀ (s : State) (p n : Nat), p < 16 → n < 8 →
    s.inAlias p (0x40000C + 0x100 * n) = true → s.inAlias p (0x400010 + 0x100 * n) = true →
    s.inAlias p (0x400008 + 0x100 * n) = true → (s.port n).func = serDirect →
    (∀ (x : Nat) (rest : List Nat), (s.port n).rx = x :: rest →
      exec (.serRxDataRead p n) s = .next ((s.setPort n { s.port n with rx := rest }).spi (le 4 (x % 8192 + 8192)))) ∧
    ((s.port n).rx = [] → exec (.serRxDataRead p n) s = .next (s.spi [0, 0, 0, 0])) ∧
    (∀ d : Nat, exec (.serTxDataWrite p n d) s = .next (
      if (s.port n).tx.length < 64 then s.setPort n { s.port n with tx := (s.port n).tx ++ [d % 512] }
      else s.bump .SER_CNT2_tx_ovf n)) ∧
    (∀ d : Nat, exec (.serDivWrite p n d) s = .next
      ((s.setFld .SER_DIV_div n (min 16777215 (max (if (s.port n).classF then 32768 else 1748) (d % 2 ^ 24)))).setPort n
        { s.port n with rxPend := true, txPend := true }))

/-- The two commands of R413. -/
def Obligations.OhiRegisterCommands : Prop :=
  ∀ (s : State) (c : Cmd), s.Takes c →
    (c.pnl = 0 →
      exec (.regRead c 0x700004 1) s = .next (s.answer c 0x3E02
        ⟨.ok, le 4 (s.fld .TEL_CFG_tel_on 0 + 256 * s.fld .TEL_CFG_tel_period 0)⟩) ∧
      ∀ w : Nat, exec (.regWrite c 0x700004 [w]) s
        = .next ((((s.setFld .TEL_CFG_tel_on 0 (w % 2)).setFld .TEL_CFG_tel_period 0 (max 1 (w / 256 % 256))).answer c 0x3E03
            (rsp .ok)).pump)) ∧
    (∀ a n : Nat, n = 0 ∨ 6 < n → exec (.regRead c a n) s = .next (s.answer c 0x3E02 (rsp .badArg))) ∧
    (∀ (a : Nat) (ws : List Nat), ws.length = 0 ∨ 12 < ws.length →
      exec (.regWrite c a ws) s = .next (s.answer c 0x3E03 (rsp .badArg)).pump) ∧
    (∀ (a n : Nat) (ws : List Nat),
      let out (k : Nat) : Nat := (((List.range k).map (fun i => a + 4 * i)).filter (fun x => !s.inAlias c.pnl x)).length
      (1 ≤ n → n ≤ 6 → out n ≠ 0 → exec (.regRead c a n) s
        = .next ((s.bumpN .PNL_ALIAS_FAULT_CNT_count c.pnl (out n)).answer c 0x3E02 (rsp .denied))) ∧
      (1 ≤ ws.length → ws.length ≤ 12 → out ws.length ≠ 0 → exec (.regWrite c a ws) s
        = .next ((s.bumpN .PNL_ALIAS_FAULT_CNT_count c.pnl (out ws.length)).answer c 0x3E03 (rsp .denied)).pump))

/-- R514. -/
def Obligations.EarlyRiseKeepsCompletedWords : Prop :=
  ∀ (s : State) (write : Bool) (p a k : Nat) (words : List Nat), p < 16 → k < 32 → words.length < 64 →
    (words ≠ [] → exec (.spiCsEarlyRise write p a words k) s = exec (.spiTransaction write p a words.length words) s) ∧
    exec (.spiCsEarlyRise write p a [] k) s = .next s

/-- SPI, the doorbell and OHI datagrams. -/
def Obligations.ManagementPortTransactions : Prop :=
  (∀ (s : State) (w : Nat), s.RingsIdle → s.serving = true → s.bootOnly = false → s.full = none →
    exec (.spiTransaction false 0 0x700004 1 []) s = .next (s.spi ([0, 0, 0, 0, 0, 1] ++
      le 4 (s.fld .TEL_CFG_tel_on 0 + 256 * s.fld .TEL_CFG_tel_period 0))) ∧
    exec (.spiTransaction true 0 0x700004 1 [w]) s = .next
      (((s.setFld .TEL_CFG_tel_on 0 (w % 2)).setFld .TEL_CFG_tel_period 0 (max 1 (w / 256 % 256))).spi
        [0, 0, 0, 0, 0, 1, 0, 0, 0, 0]) ∧
    (∀ (p : Nat) (wr : Bool), 0 < p → p < 16 → s.inAlias p 0x700004 = false → ∃ t : State,
      exec (.spiTransaction wr p 0x700004 1 [w]) s = .next t ∧ t = (s.bump .PNL_OHI_WRONG_CNT_count p).spi
        [0, 0, 0, 0, 0, 2, 0, 0, 0, 0])) ∧
  (∀ (s : State) (p w : Nat), p < 16 → exec (.ringDoorbell p w) s = .next (s.writeRingIdx p (w % 2 ^ 32)).pump) ∧
  (∀ (s : State) (header cipher tag : List Byte) (ip port : Nat), s.serving = true → header.length = 8 → tag.length = 16 →
    let p := beAt header 0 1
    let n := beAt header 1 1
    let seq := leAt header 4 4
    let key := (tfind p s.sec.ohiKeys).getD []
    ∃ t : State, exec (.ohiDatagram header cipher tag ip port) s = .next t ∧
      (key = [] ∨ 15 < p → t = s.bump .SEC_CNT2_ohi_auth 0) ∧
      (key ≠ [] → p ≤ 15 →
        match Config.gcmOpen key (ohiNonce p 0 seq) header (cipher ++ tag) with
        | none => t = s.bump .SEC_CNT2_ohi_auth 0
        | some entries =>
          (seq ≤ tget 0 p s.sec.ohiSeq → t = s.bump .SEC_CNT2_ohi_replay 0) ∧
          (tget 0 p s.sec.ohiSeq < seq → s.inBand p = true → 1 ≤ n → n ≤ 32 → entries.length = 64 * n →
            s.cmdWaiting p + n ≤ 32 → ∃ u : State, t = u.pump ∧ tget 0 p u.sec.ohiSeq = seq ∧
              u.fld .PNL_RING_IDX_cmd_tail p = (s.fld .PNL_RING_IDX_cmd_tail p + n) % 64 ∧
              u.host.ohiIn = s.host.ohiIn ++ [⟨p, ip, port, seq, key, n, []⟩] ∧
              FldsKept [(.PNL_RING_IDX_cmd_tail, p)] s u)))

/-- R116's table. The order of the checks is the model's choice (log 50). -/
def Obligations.ChannelCommandsFollowTheirStates : Prop :=
  ∀ (s : State) (c : Cmd) (ch : Nat), s.Takes c →
    let st := s.effState ch
    (191 < ch → exec (.chnStart c ch) s = .next (s.answer c 0x1801 (rsp .badArg)) ∧
      exec (.chnQuery c ch) s = .next (s.answer c 0x1808 (rsp .badArg))) ∧
    (ch ≤ 191 → s.mayName c.pnl ch = false → exec (.chnStart c ch) s = .next (s.answer c 0x1801 (rsp .denied)) ∧
      exec (.chnRetrain c ch) s = .next (s.answer c 0x1805 (rsp .denied))) ∧
    (ch ≤ 191 → s.mayName c.pnl ch = true → s.chanItem ch = none →
      exec (.chnStart c ch) s = .next (s.answer c 0x1801 (rsp .notPresent)) ∧
      exec (.chnQuiet c ch) s = .next (s.answer c 0x1803 (rsp .notPresent))) ∧
    (ch ≤ 191 → s.mayName c.pnl ch = true →
      exec (.chnQuery c ch) s = .next (s.answer c 0x1808 ⟨.ok, (s.chnWords ch).flatMap (le 4)⟩)) ∧
    (ch ≤ 191 → s.mayName c.pnl ch = true → s.chanItem ch ≠ none →
      (s.sec.tamperOff = false → exec (.chnStart c ch) s = .next (
        if st = chOff ∧ s.mayStart ch = true ∨ st = chFault ∧ s.faultCleared ch = true then
          (s.requestState ch chArmed 0).answer c 0x1801 (rsp .ok) else s.answer c 0x1801 (rsp .badState))) ∧
      exec (.chnStop c ch) s = .next ((s.stopChannel ch).answer c 0x1802 (rsp .ok)) ∧
      exec (.chnQuiet c ch) s = .next (
        if st = chOff ∨ st = chFault then s.answer c 0x1803 (rsp .badState)
        else if st = chQuiet then s.answer c 0x1803 (rsp .ok) else (s.requestState ch chQuiet 0).answer c 0x1803 (rsp .ok)) ∧
      exec (.chnResume c ch) s = .next (
        if st = chQuiet then (s.requestState ch (if s.resumesLive ch = true then chLive else chArmed) 0).answer c 0x1804 (rsp .ok)
        else s.answer c 0x1804 (rsp .badState)) ∧
      (s.grid.changes = [] → st = chQuiet →
        (s.resumesLive ch = true ↔ (s.chan ch).quietOk = true ∧ (s.chan ch).quietHems ≤ 256)) ∧
      exec (.chnRetrain c ch) s = .next (
        if st = chTraining ∨ st = chLive then (s.invalidate ch 4 true).answer c 0x1805 (rsp .ok)
        else s.answer c 0x1805 (rsp .badState)) ∧
      (∀ mode : Nat, mode ≤ 3 → exec (.chnSetCoupling c ch mode) s = .next (
        if st = chTraining ∨ st = chLive then s.answer c 0x1806 (rsp .badState)
        else if s.couplingBusy ch = true then s.answer c 0x1806 (rsp .busy)
        else (s.request (SlotChange.coupling ch mode)).answer c 0x1806 (rsp .ok))) ∧
      (∀ role : Nat, role ≤ 1 → exec (.chnSetRole c ch role) s = .next (
        if st ≠ chOff then s.answer c 0x1807 (rsp .badState)
        else if s.fld .CHN_STATUS_role ch = role then s.answer c 0x1807 (rsp .ok)
        else ((s.setFld .CHN_STATUS_role ch role).olaEmptyFar ch).answer c 0x1807 (rsp .ok))))

/-- The two time-driven exits of R115. -/
def Obligations.ChannelTimersAskForArmed : Prop :=
  ∀ (s : State) (ch : Nat),
    let armed : State := { s with grid := { s.grid with changes := s.grid.changes ++ [.state ch chArmed 0] } }
    let n := s.fld .CHN_CFG_train_timeout ch
    (exec (.trainTimeout ch) s = .next (
      if s.effState ch = chTraining ∧ n ≤ (s.chan ch).trainHems ∨ s.effState ch = chLive ∧ n ≤ (s.chan ch).rxHems then armed
      else s)) ∧
    (s.sec.tamperOff = false → exec (.faultAutoRearm ch) s = .next (
      if s.effState ch = chFault ∧ s.fld .CHN_CFG_auto_rearm ch = 1 ∧ s.faultCleared ch = true then armed else s))

/-- The two clocks of the station grid. -/
def Obligations.SlotsAndHemsAdvance : Prop :=
  ∀ s : State,
    (s.grid.running = false → exec .gridSlotBoundary s = .next s ∧ exec .hemBoundary s = .next s) ∧
    (s.grid.running = true →
      (∃ t : State, exec .gridSlotBoundary s = .next t ∧ t.grid.slot = s.grid.slot + 1 ∧ t.grid.hem = s.grid.hem ∧
        t.grid.b = s.grid.b ∧ t.full = s.full) ∧
      (∃ t : State, exec .hemBoundary s = .next t ∧ t.grid.hem = s.grid.hem + 1 ∧ t.grid.b = s.grid.b + s.grid.p ∧
        t.grid.slot = s.grid.slot ∧ t.full = s.full))

/-- R227 and R228. -/
def Obligations.NextHemLengthFollowsThePhaseError : Prop :=
  ∀ s : State, s.grid.running = true →
    let late : Prop := 2 * s.grid.b + s.grid.p ≤ 2 * s.slotTick s.grid.slot
    (s.grid.nxt ≠ none ∨ ¬late → exec .hemMapFix s = .next s) ∧
    (s.grid.nxt = none → late → ∃ t : State, exec .hemMapFix s = .next t ∧
      (let e : Int := s.phaseErr.getD 0
       let sl : Int := s.fld .HEM_REF_CFG_slew 0
       let d := max (-sl) (min sl (roundDiv e 4))
       t.grid.nxt = some (max (pMin : Int) (min (pMax : Int) (s.grid.pf + d))).toNat) ∧
      (∀ e : Int, s.phaseErr = some e → t.fld .HEM_PHASE_ERR_err 0 = (e % 2 ^ 24).toNat ∧ t.fld .HEM_PHASE_ERR_err_valid 0 = 1) ∧
      (s.phaseErr = none → t.fld .HEM_PHASE_ERR_err_valid 0 = 0) ∧
      FldsKept [(.HEM_PHASE_ERR_err, 0), (.HEM_PHASE_ERR_err_valid, 0)] s t ∧
      t = { s with regs := t.regs, chans := t.chans, grid := { s.grid with nxt := t.grid.nxt } })

/-- R223, R224 and R226, for the gauge; the supply's differ by `supply_ofs` alone. -/
def Obligations.MainsCrossingsFilterThePeriod : Prop :=
  (∀ (s : State) (z : Nat), s.grid.gauge.last = none → ∃ t : State, exec (.mainsCrossing true z) s = .next t ∧
    t.grid.gauge = { run := 1, last := some z } ∧ t.fld .HEM_STATUS_gauge_valid 0 = 0 ∧ t.tick = max s.tick z ∧
    t.grid.pf = s.grid.pf ∧ FldsKept [(.HEM_STATUS_gauge_valid, 0)] s t) ∧
  (∀ (s : State) (z l : Nat), s.grid.gauge.last = some l → l ≠ z → ∃ t : State, exec (.mainsCrossing true z) s = .next t ∧
    (let good : Prop := pMin ≤ z - l ∧ z - l ≤ pMax
     (good → t.grid.gauge = { run := s.grid.gauge.run + 1, last := some z } ∧
       t.fld .HEM_STATUS_gauge_valid 0 = (if 7 ≤ s.grid.gauge.run then 1 else 0) ∧
       t.fld .HEM_SRC_CNT_src_loss 0 = s.fld .HEM_SRC_CNT_src_loss 0 ∧
       t.grid.pf = (if s.fld .HEM_STATUS_src_state 0 = 2 then
         ((s.grid.pf : Int) + roundDiv (((z - l : Nat) : Int) - s.grid.pf) 8).toNat else s.grid.pf)) ∧
     (¬good → t.grid.gauge = { run := 1, last := some z } ∧ t.fld .HEM_STATUS_gauge_valid 0 = 0 ∧ t.grid.pf = s.grid.pf ∧
       t.fld .HEM_SRC_CNT_src_loss 0 = (if 8 ≤ s.grid.gauge.run then min (s.fld .HEM_SRC_CNT_src_loss 0 + 1)
         (2 ^ Fld.width .HEM_SRC_CNT_src_loss - 1) else s.fld .HEM_SRC_CNT_src_loss 0))) ∧
    FldsKept [(.HEM_STATUS_gauge_valid, 0), (.HEM_SRC_CNT_src_loss, 0), (.HEM_FILTER_pf, 0)] s t) ∧
  (∀ s : State, s.grid.gauge.last = none → exec (.sourceTimeout true) s = .next s) ∧
  (∀ (s : State) (l : Nat), s.grid.gauge.last = some l → ∃ t : State, exec (.sourceTimeout true) s = .next t ∧
    t.tick = max s.tick (l + s.grid.pf * 3 / 2) ∧ t.grid.gauge = { s.grid.gauge with run := 0, last := none } ∧
    t.fld .HEM_STATUS_gauge_valid 0 = 0 ∧
    t.fld .HEM_SRC_CNT_src_loss 0 = (if 8 ≤ s.grid.gauge.run then min (s.fld .HEM_SRC_CNT_src_loss 0 + 1)
      (2 ^ Fld.width .HEM_SRC_CNT_src_loss - 1) else s.fld .HEM_SRC_CNT_src_loss 0) ∧
    FldsKept [(.HEM_STATUS_gauge_valid, 0), (.HEM_SRC_CNT_src_loss, 0)] s t) ∧
  (∀ (s : State) (z : Nat), s.fld .PWR_STATUS_input_dc 0 = 1 →
    exec (.mainsCrossing false z) s = .next { s with tick := max s.tick z })

/-- The control channel of a Seam lane. -/
def Obligations.HeadMessagesAreTaggedAndAnswered : Prop :=
  (∀ (s : State) (c : Cmd) (j a d : Nat), s.Takes c →
    let l := s.lane j
    let sends (m : CtlMsg) (t : State) (op : Nat) : Prop :=
      t.mgmt.deferred = s.mgmt.deferred ++ [⟨op, c, 0, s.inBand c.pnl⟩] ∧ t.regs = s.regs ∧
      t.lane j = (if l.out.length < 16 then { l with out := l.out ++ [m], nextTag := (l.nextTag + 1) % 256, toSend := l.toSend ++ [m.tag] }
        else { l with queue := l.queue ++ [m], nextTag := (l.nextTag + 1) % 256 }) ∧
      ∀ k : Nat, k ≠ j → t.lane k = s.lane k
    (7 < j → exec (.hlkQuery c j) s = .next (s.answer c 0x0801 (rsp .badArg)) ∧
      exec (.hlkRealign c j) s = .next (s.answer c 0x0804 (rsp .badArg))) ∧
    (j ≤ 7 → c.pnl ≠ 0 → exec (.hlkQuery c j) s = .next (s.answer c 0x0801 (rsp .denied)) ∧
      exec (.hlkHeadRead c j a) s = .next (s.answer c 0x0802 (rsp .denied)) ∧
      exec (.hlkHeadWrite c j a d) s = .next (s.answer c 0x0803 (rsp .denied)) ∧
      exec (.hlkRealign c j) s = .next (s.answer c 0x0804 (rsp .denied))) ∧
    (j ≤ 7 → c.pnl = 0 →
      exec (.hlkQuery c j) s = .next (s.answer c 0x0801 ⟨.ok, (s.hlkWords j).flatMap (le 4)⟩) ∧
      (s.laneState j = hlkAligned ∨ s.laneState j = hlkCalibrating → ∃ t : State, exec (.hlkHeadRead c j a) s = .next t ∧
        sends { tag := l.nextTag, write := false, addr := a, data := 0, why := .host c 0x0802, sentAt := s.tick } t 0x0802) ∧
      (s.laneState j = hlkAligned → s.expertOk 0 = true → 0x8000 ≤ a → ∃ t : State, exec (.hlkHeadWrite c j a d) s = .next t ∧
        sends { tag := l.nextTag, write := true, addr := a, data := d, why := .host c 0x0803, sentAt := s.tick } t 0x0803) ∧
      (s.laneState j = hlkFault → ∃ t : State, exec (.hlkRealign c j) s = .next (t.answer c 0x0804 (rsp .ok)) ∧
        t.laneState j = hlkLocking ∧ t.fld .HLK_STATUS_cause j = s.fld .HLK_STATUS_cause j % 16 ∧ (t.lane j).out = [] ∧ (t.lane j).queue = []) ∧
      (s.laneState j = hlkAligned → exec (.hlkRealign c j) s = .next ((s.laneLeave j hlkLocking 8).answer c 0x0804 (rsp .ok))))) ∧
  (∀ (s : State) (j tag a d : Nat), s.ctlMsg j tag = none →
    exec (.readRsp j tag a d) s = .next s ∧ exec (.writeAck j tag a) s = .next s ∧ exec (.nak j tag d) s = .next s ∧
    exec (.controlRepeat j tag) s = .next s) ∧
  (∀ (s : State) (j tag a d : Nat) (m : CtlMsg) (c : Cmd) (op : Nat), s.ctlMsg j tag = some m → m.why = .host c op →
    let u := s.setLane j ((s.lane j).answered tag s.tick)
    (m.write = false → exec (.readRsp j tag a d) s = .next (u.completeCmd c op ⟨.ok, le 4 d⟩)) ∧
    (m.write = true → exec (.writeAck j tag a) s = .next (u.completeCmd c op (rsp .ok))) ∧
    exec (.nak j tag d) s = .next (u.completeCmd c op ⟨.fault, [byte d]⟩)) ∧
  (∀ (s : State) (j tag : Nat) (m : CtlMsg), s.ctlMsg j tag = some m → m.why.isCoupling = false →
    let u : State := { s with tick := max s.tick (m.sentAt + 1280) }
    let again (l : List CtlMsg) : List CtlMsg :=
      updFirst (fun x => x.tag == tag) (fun x => { x with repeats := x.repeats + 1, sentAt := u.tick }) l
    exec (.controlRepeat j tag) s = .next (
    if m.repeats < 3 then u.setLane j { u.lane j with out := again (u.lane j).out, toSend := (u.lane j).toSend ++ [tag] }
    else (u.bump .HLK_LOSS_CNT_ctl_timeout j).laneLeave j hlkLocking 3)) ∧
  (∀ (s : State) (j code : Nat), exec (.event j code) s
    = .next (s.setLane j { s.lane j with events := (code :: (s.lane j).events).take 16 }))

/-- R352's state machine as far as frames and timers drive it. -/
def Obligations.LanesLockCalibrateAndFail : Prop :=
  (∀ (s : State) (j : Nat), s.laneState j = hlkDown → ∃ t : State, exec (.signalAndSymbolLock j) s = .next t ∧
    t.laneState j = hlkLocking ∧ (t.lane j).signal = true ∧ (t.lane j).good = 0 ∧
    t.fld .HLK_STATUS_cause j = s.fld .HLK_STATUS_cause j % 16) ∧
  (∀ (s : State) (j : Nat), s.laneState j = hlkLocking → 8 ≤ (s.lane j).good → (s.lane j).out = [] →
    ∃ t : State, exec (.frameLock j) s = .next t ∧ t.laneState j = hlkCalibrating ∧ t.fld .HLK_STATUS_cause j = s.fld .HLK_STATUS_cause j % 16 ∧
      ((t.lane j).out.map (fun m => (m.write, m.addr))) = [(false, 0x0), (false, 0x4), (false, 0x8), (false, 0xC)]) ∧
  (∀ (s : State) (j : Nat), 4 ≤ (s.lane j).bad →
    (s.laneState j = hlkCalibrating → ∃ t : State, exec (.frameLockLost j) s = .next t ∧ t.laneState j = hlkLocking ∧
      t.fld .HLK_STATUS_cause j = 2 ∧ (t.lane j).bad = 0) ∧
    (s.laneState j = hlkAligned → exec (.frameLockLost j) s = .next (s.laneLeave j hlkLocking 2))) ∧
  (∀ (s : State) (j : Nat), s.laneState j = hlkLocking ∨ s.laneState j = hlkCalibrating →
    ∃ t : State, exec (.lossOfSignal j) s = .next t ∧ t.laneState j = hlkDown ∧ t.fld .HLK_STATUS_cause j = 1 ∧
      (t.lane j).signal = false) ∧
  (∀ (s : State) (j : Nat) (rtts : List Nat), rtts.length = 1024 → s.laneState j = hlkCalibrating → (s.lane j).readsDone = false →
    exec (.laneRecalculate j rtts) s
      = .next ((s.setFld .HLK_RTT_rtt j (roundDiv (rtts.foldl (· + ·) 0 : Nat) 1024).toNat).setFlag .HLK_RTT_rtt_valid j true)) ∧
  (∀ s : State, s.isSealed = true → s.fld .HLK_ALIGN_a_valid 0 = 0 → (List.range 8).filter s.laneUsed ≠ [] →
    (∀ j : Nat, j < 8 → s.laneUsed j = true → s.laneState j = hlkAligned) → ∃ t : State, exec .alignmentDelayFix s = .next t ∧
      (∀ j : Nat, j < 8 → s.laneUsed j = true → s.fld .HLK_DELAY_u_cal j ≤ t.grid.a) ∧
      (∃ j : Nat, j < 8 ∧ s.laneUsed j = true ∧ t.grid.a = s.fld .HLK_DELAY_u_cal j) ∧
      (∀ j : Nat, j < 8 → t.fld .HLK_ALIGN_a_ticks j = t.grid.a % 2 ^ Fld.width .HLK_ALIGN_a_ticks ∧ t.fld .HLK_ALIGN_a_valid j = 1)) ∧
  (∀ (s : State) (j : Nat), s.laneState j = hlkFault → s.fld .HLK_STATUS_cause j = 4 ∨ s.fld .HLK_STATUS_cause j = 7 →
    ∃ t : State, exec (.laneFaultRetry j) s = .next t ∧ t.laneState j = hlkLocking ∧
      t.tick = max s.tick ((s.lane j).faultAt + 200000000) ∧ t.fld .HLK_STATUS_cause j = s.fld .HLK_STATUS_cause j) ∧
  (∀ (s : State) (ch m : Nat), (s.lane (headOf ch)).out.any (fun x => x.why == .coupling ch) = true → (s.chan ch).cplMode = some m →
    ∃ t : State, exec (.couplingTimeout ch) s = .next t ∧ t.fld .CHN_STATUS_coupling_pending ch = 0 ∧
      (t.chan ch).cplMode = none ∧ (t.chan ch).cplFail = true ∧ t.grid.changes = s.grid.changes ++ [.state ch chFault 2] ∧
      (t.lane (headOf ch)).out = (s.lane (headOf ch)).out.filter (fun x => !(x.why == .coupling ch)))

/-- The runs of R336 and R353. -/
def Obligations.UpstreamFramesAreCounted : Prop :=
  ∀ (s : State) (j : Nat) (b : BitVec 5600), j ≤ 7 →
    (s.laneState j = hlkOff ∨ s.laneState j = hlkDown → exec (.upstreamFrame j b) s = .next s) ∧
    (s.laneState j = hlkLocking → ∃ t : State, exec (.upstreamFrame j b) s = .next t ∧ t.regs = s.regs ∧
      match laneDecode (bitsMsb 5600 b.toNat) with
      | some (p, _) =>
        if pf p 0 24 = 0xC29E5B then
          (t.lane j).bad = 0 ∧ (t.lane j).lastCount = some (pf p 24 40) ∧
          (t.lane j).good = (if ∀ k : Nat, (s.lane j).lastCount = some k → (k + 1) % 2 ^ 40 = pf p 24 40
            then (s.lane j).good + 1 else 1)
        else (t.lane j).good = 0 ∧ (t.lane j).bad = (s.lane j).bad + 1
      | none => (t.lane j).good = 0 ∧ (t.lane j).bad = (s.lane j).bad + 1) ∧
    (s.laneState j = hlkCalibrating → ∃ t : State, exec (.upstreamFrame j b) s = .next t ∧
      match laneDecode (bitsMsb 5600 b.toNat) with
      | some _ => True
      | none => (t.lane j).good = 0 ∧ (t.lane j).bad = (s.lane j).bad + 1 ∧
        t.fld .HLK_FEC_CNT_fec_fail j = min (s.fld .HLK_FEC_CNT_fec_fail j + 1) (2 ^ Fld.width .HLK_FEC_CNT_fec_fail - 1) ∧
        FldsKept [(.HLK_FEC_CNT_fec_fail, j)] s t)

/-- What the Hem scheduler's commit point, a launch and a cycle's end leave. -/
def Obligations.TransmissionsAreCommittedAndLaunched : Prop :=
  (∀ (s : State) (ch : Nat) (a : AckDue), (s.chan ch).acks = [a] → s.chState ch ≠ chQuiet → s.maySend ch false = true →
    let f : Frame := { ch := ch, slot := a.slot, kind := .ack, fc := a.fc, payload := [], len := 2, panel := (s.owner ch).getD 0
                       hem := s.hemOf a.slot }
    s.maskedFor ch (s.airSet f) a.fc.prio = false → s.duplexHeld ch a.slot 2 = false →
    (∀ i : ChanItem, s.pat.chans = [i] → i.channel = ch → ch < 192 → s.grid.running = true → a.slot = s.commitSlot →
      s.winType ch a.slot = wtQuiet → (s.chan ch).bcnSent = false → s.rst.gaspSent = [] →
      ∃ t : State, exec .transmitCommit s = .next t ∧ (t.chan ch).acks = [] ∧ t.regs = s.regs ∧
        t.grid.committed = s.grid.committed ++ [f]) ∧
    (s.grid.slot < a.slot → (∀ x ∈ s.grid.committed, ¬(x.ch = ch ∧ x.kind = .ack ∧ x.slot = s.grid.slot)) →
      ∃ t : State, exec (.ackSend ch) s = .next t ∧ (t.chan ch).acks = [] ∧ t.regs = s.regs ∧
        t.grid.committed = s.grid.committed ++ [f])) ∧
  (∀ (s : State) (ch : Nat) (f : Frame), s.grid.committed.filter (fun x => x.ch == ch && x.slot == s.grid.slot) = [f] →
    s.maySend ch (f.kind == .beacon || f.kind == .wakeReply) = true → ∃ t : State, exec (.frameLaunch ch) s = .next t ∧
      t.grid.committed = s.grid.committed.erase f ∧
      t.grid.launched = s.grid.launched ++ [{ f with liPos := f.liPos.map (fun _ => (s.chan ch).liTxLeft) }]) ∧
  (∀ (s : State) (ch b : Nat) (c : Cont), (s.chan ch).cont = some c → c.cls < 3 → (s.chan ch).bc.length = 3 →
    (s.chan ch).bc.getD c.cls none = some b → ∃ t : State, exec (.contentionCycleEnd ch) s = .next t ∧
      (t.chan ch).cont = none ∧ (t.chan ch).idleSlot = max (s.chan ch).idleSlot (c.prio + 37) ∧
      (t.chan ch).bc.getD c.cls none = some (if c.withdrawn then b else b - 8) ∧ t.regs = s.regs ∧
      ∀ x : Nat, x ≠ ch → t.chan x = s.chan x) ∧
  (∀ (s : State) (ch : Nat), s.fld .CHN_CODE_STATUS_li_tx_on ch = 1 → 0 < (s.chan ch).liTxLeft →
    s.fld .CHN_CODE_CFG_li_idle ch ≤ (s.chan ch).liIdleHems →
    exec (.liIdleFill ch) s = .next (s.setChan ch { s.chan ch with filling := true }))

/-- R100 to R107 as events of one channel. -/
def Obligations.DetectorFollowsTheFrame : Prop :=
  (∀ (s : State) (ch tick : Nat) (w : List Int), (s.chan ch).rx.last tick 256 = some w → (s.chan ch).det = .armed →
    s.listens ch = true → s.deaf ch (s.slotAt tick) = false →
    triggered ((energy w : Nat) : Rat) (s.floorOf ch).1 (s.fld .CHN_DET_CFG_det_thr ch) = true →
    ∃ t : State, exec (.energyTrigger ch tick) s = .next t ∧ (t.chan ch).det = .triggered ∧ (t.chan ch).trigAt = tick ∧
      t.fld .CHN_STATUS_rx_busy ch = 1 ∧ t.fld .CHN_RSSI_rssi_valid ch = 0 ∧
      t.fld .CHN_RX_DET_CNT_detections ch
        = min (s.fld .CHN_RX_DET_CNT_detections ch + 1) (2 ^ Fld.width .CHN_RX_DET_CNT_detections - 1) ∧
      FldsKept [(.CHN_STATUS_rx_busy, ch), (.CHN_RSSI_rssi_valid, ch), (.CHN_RX_DET_CNT_detections, ch)] s t ∧
      t.tick = max s.tick (tick + s.grid.a)) ∧
  (∀ (s : State) (ch tick : Nat), (s.chan ch).det = .triggered ∧ tick ≤ (s.chan ch).trigAt + 9216 ∨ (s.chan ch).det = .qualified →
    (s.chan ch).cont = none → 1024 ≤ tick → (∀ t ∈ [tick, tick - 1024], (s.chan ch).rx.point (s.fld .CHN_DET_CFG_qual_thr ch) t = true) →
    ∃ t : State, exec (.qualifierPass ch tick) s = .next t ∧ (t.chan ch).det = .qualified ∧ (t.chan ch).detAt = tick ∧
      (agcSettled (s.agcGains ch tick) = true → (t.chan ch).agcFrozen = true) ∧ t.regs = s.regs) ∧
  (∀ (s : State) (ch : Nat), (s.chan ch).det = .triggered ∨ (s.chan ch).det = .qualified →
    ∃ t : State, exec (.qualFail ch) s = .next t ∧ (t.chan ch).det = .armed ∧ t.fld .CHN_STATUS_rx_busy ch = 0 ∧
      t.fld .CHN_RX_DET_CNT_qual_fail ch
        = min (s.fld .CHN_RX_DET_CNT_qual_fail ch + 1) (2 ^ Fld.width .CHN_RX_DET_CNT_qual_fail - 1) ∧
      FldsKept [(.CHN_STATUS_rx_busy, ch), (.CHN_RX_DET_CNT_qual_fail, ch)] s t) ∧
  (∀ (s : State) (ch tick frac : Nat) (span : List Int), (s.chan ch).rx.syncFrac tick = some frac →
    (s.chan ch).rx.span (tick - 1024) 2048 = some span → (s.chan ch).det = .qualified → tick ≤ (s.chan ch).detAt + 2048 →
    s.listens ch = true → (s.chan ch).cont = none →
    let idx := tick - s.slotTick (s.slotAt tick)
    s.selfSync tick idx frac = false →
    ∃ t : State, exec (.syncPoint ch tick) s = .next t ∧ (t.chan ch).det = .inFrame ∧ (t.chan ch).curFc = none ∧
      t.fld .CHN_SYNC_sync_offset ch = idx % 2 ^ Fld.width .CHN_SYNC_sync_offset ∧
      t.fld .CHN_SYNC_sync_frac ch = frac % 2 ^ Fld.width .CHN_SYNC_sync_frac ∧
      t.fld .CHN_SYNC_sync_valid ch = 1 ∧ t.fld .CHN_FREQ_sco_valid ch = 1 ∧ t.fld .CHN_RSSI_rssi_valid ch = 1 ∧
      FldsKept [(.CHN_RSSI_rssi, ch), (.CHN_RSSI_rssi_valid, ch), (.CHN_SYNC_sync_offset, ch), (.CHN_SYNC_sync_frac, ch),
        (.CHN_SYNC_sync_valid, ch), (.CHN_FREQ_sco_ppm, ch), (.CHN_FREQ_sco_valid, ch)] s t) ∧
  (∀ (s : State) (ch w len : Nat), (s.chan ch).fcWord = some w → (s.chan ch).det = .inFrame → (s.chan ch).curFc = none →
    s.listens ch = true →
    (fcsOk w = false → ∃ t : State, exec (.frameControlRx ch len) s = .next t ∧ (t.chan ch).det = .armed ∧
      (t.chan ch).noPrs = true ∧ t.fld .CHN_RX_FC_CNT_fc_crc_err ch
        = min (s.fld .CHN_RX_FC_CNT_fc_crc_err ch + 1) (2 ^ Fld.width .CHN_RX_FC_CNT_fc_crc_err - 1)) ∧
    (fcsOk w = true → s.fcForeign ch (fcParse w) = true → ∃ t : State, exec (.frameControlRx ch len) s = .next t ∧
      (t.chan ch).det = .armed ∧ t.fld .CHN_RX_FC_CNT_fc_foreign ch
        = min (s.fld .CHN_RX_FC_CNT_fc_foreign ch + 1) (2 ^ Fld.width .CHN_RX_FC_CNT_fc_foreign - 1)) ∧
    (fcsOk w = true → s.fcForeign ch (fcParse w) = false → s.peerOk ch (fcParse w).src = true → (fcParse w).typ = 1 →
      ∃ t : State, exec (.frameControlRx ch len) s = .next t ∧ (t.chan ch).curFc = some (fcParse w) ∧
        (t.chan ch).det = .inFrame ∧ (t.chan ch).symIdx = 0 ∧ (∃ p ∈ (t.chan ch).peers, p.addr = (fcParse w).src) ∧
        t.fld .CHN_OLA_LOCK_lock_valid ch = 1)) ∧
  (∀ (s : State) (ch : Nat), (s.chan ch).det = .inFrame →
    ∃ t : State, exec (.detectorRearm ch) s = .next t ∧ (t.chan ch).det = .armed ∧ (t.chan ch).curFc = none ∧
      t.tick = max s.tick (s.frameEnd ((s.chan ch).syncAt / 32) (((s.chan ch).curFc.map fcPayload).getD 0)) ∧
      t.fld .CHN_STATUS_rx_busy ch = 0 ∧ FldsKept [(.CHN_STATUS_rx_busy, ch)] s t)

/-- The pipe's symbol and the decoder pools' work. -/
def Obligations.SymbolsAndDecoderWork : Prop :=
  (∀ (s : State) (ch : Nat) (x : List Int) (k : SymKind), ch < 192 → s.symKind ch s.grid.slot = some k →
    (s.chan ch).rx.span (s.bodyTick ch s.grid.slot k) 8192 = some x →
    ∃ (t : State) (y : RxSym), exec (.symbolRx ch) s = .next t ∧
      t.grid.symbols = s.grid.symbols.filter (fun z => z.ch != ch) ++ [y] ∧ y.ch = ch ∧ y.slot = s.grid.slot ∧ y.kind = k ∧
      (t.chan ch).symIdx = (match k with | .payload _ => (s.chan ch).symIdx + 1 | _ => (s.chan ch).symIdx) ∧
      FldsKept [(.CHN_CHISEL_CNT_sym_erased, ch), (.CHN_CHISEL_CNT_blanked, ch), (.OLA_LOSS_CNT_loss_erase, 0),
        (.OLA_LOSS_CNT_next_unsafe, 0)] s t) ∧
  (∀ (s : State) (pool unit : Nat) (w : Work) (f : RxFrame) (b : RxBlock), pool < 2 → unit < (if pool = 0 then 48 else 32) →
    s.fld (if pool = 0 then .COD_POOL_STATUS_vit_units else .COD_POOL_STATUS_ldpc_units) 0 ≠ 0 →
    s.isFenced (blkVit + pool) unit = false → s.grid.work.find? (fun x => x.pool == pool && x.served) = some w →
    (s.chan w.ch).rxq.find? (fun x => x.at_ == w.frame) = some f → f.blocks[w.block]? = some b →
    ∃ t : State, exec (.decodeComplete pool unit) s = .next t ∧ t.grid.work = s.grid.work.erase w ∧
      (∃ g ∈ (t.chan w.ch).rxq, g.at_ = w.frame ∧ (g.blocks[w.block]?).map (·.out) = some (some (s.decodeOf w.ch f b))) ∧
      t.fld .CHN_CODE_CNT_cw_fail w.ch = (if (s.decodeOf w.ch f b).2 = true then
        min (s.fld .CHN_CODE_CNT_cw_fail w.ch + 1) (2 ^ Fld.width .CHN_CODE_CNT_cw_fail - 1) else s.fld .CHN_CODE_CNT_cw_fail w.ch) ∧
      FldsKept [(.CHN_CODE_CNT_cw_fail, w.ch)] s t) ∧
  (∀ (s : State) (w : Work), s.grid.work.find? (fun x => decide (64 ≤ x.age) && decide (x.prio < 3) && !x.served) = some w →
    ∃ t : State, exec .decodeDrop s = .next t ∧ t.grid.work = s.grid.work.erase w ∧
      t.fld .COD_DEFER_CNT_drop 0 = min (s.fld .COD_DEFER_CNT_drop 0 + 1) (2 ^ Fld.width .COD_DEFER_CNT_drop - 1) ∧
      t.fld .CHN_CODE_CNT_cw_fail w.ch
        = min (s.fld .CHN_CODE_CNT_cw_fail w.ch + 1) (2 ^ Fld.width .CHN_CODE_CNT_cw_fail - 1) ∧
      FldsKept [(.COD_DEFER_CNT_drop, 0), (.CHN_CODE_CNT_cw_fail, w.ch)] s t)

/-- DATA_FRAME_RX, FLOOD_FRAME_RX and BEACON_RX. -/
def Obligations.FramesOfTheLinkAreTaken : Prop :=
  (∀ (s : State) (ch : Nat), (s.chan ch).rxq = [] →
    exec (.dataFrameRx ch) s = .next s ∧ exec (.floodFrameRx ch) s = .next s ∧ exec (.beaconRx ch) s = .next s) ∧
  (∀ (s : State) (ch : Nat) (f : RxFrame) (g : RawSeg),
    s.heard ch (fun fc => (fc.typ == 0 || fc.typ == 3 || fc.typ == 5) && !fcFlood fc) = some f → s.frameMine ch f.fc = true →
    s.chState ch ≠ chQuiet → f.fc.typ = 0 → fcAckReq f.fc = true → f.fc.dst ≠ 0xFFFF → fcEnc f.fc = false →
    frameSegs f.fc f.payload.1 f.payload.2 = [g] → g.ok = true → g.malformed = false →
    (let r := s.rxFlow ch f.fc.src false
     r.ch = ch ∧ r.held = [] ∧ r.pools = [] ∧ (let d := (g.seq + 4096 - r.base) % 4096
       2048 ≤ d ∨ d < 64 ∧ r.map.testBit d = true)) →
    ∃ (t : State) (a : AckDue), exec (.dataFrameRx ch) s = .next t ∧ (t.chan ch).rxq = (s.chan ch).rxq.erase f ∧
      (t.chan ch).acks = (s.chan ch).acks ++ [a] ∧
      a.slot = s.boundaryAfter (s.frameEnd (f.at_ / 32) (fcPayload f.fc)) 8 ∧ a.fc.typ = 1 ∧ a.fc.dst = f.fc.src ∧
      a.fc.prio = f.fc.prio ∧
      t.fld .DLV_RX_CNT_dup 0 = min (s.fld .DLV_RX_CNT_dup 0 + 1) (2 ^ Fld.width .DLV_RX_CNT_dup - 1)) ∧
  (∀ (s : State) (ch m : Nat) (f : RxFrame), s.heard ch (fun fc => (fc.typ == 0 || fc.typ == 3 || fc.typ == 5) && fcFlood fc) = some f →
    s.frameMine ch f.fc = true →
    let p := f.payload.1
    (p.length < 8 → exec (.floodFrameRx ch) s = .next ((s.takeHeard ch f).bump .CHN_RX_FC_CNT_fc_foreign ch)) ∧
    (8 ≤ p.length → crc 16 0x1021 0xFFFF (bytesToBits (slice p 0 6)) = beAt p 6 2 →
      s.floodDomain ch = some m → (∃ e ∈ s.dlv.seen, e.domain = m ∧ e.origin = beAt p 2 2 ∧ e.oseq = beAt p 4 2) →
      ∃ t : State, exec (.floodFrameRx ch) s = .next t ∧ t.dlv = s.dlv ∧ (t.chan ch).rxq = (s.chan ch).rxq.erase f ∧
        t.fld .DLV_FLOOD_CNT_flood_dup 0
          = min (s.fld .DLV_FLOOD_CNT_flood_dup 0 + 1) (2 ^ Fld.width .DLV_FLOOD_CNT_flood_dup - 1))) ∧
  (∀ (s : State) (ch : Nat) (f : RxFrame), s.heard ch (fun fc => fc.typ == 2) = some f →
    f.fc.link = s.fld .CHN_CFG_link_id ch → s.rxUp ch = true → s.chState ch ≠ chLive →
    (s.fld .CHN_STATUS_role ch = 0 → exec (.beaconRx ch) s = .next ((s.takeHeard ch f).roleConflict ch f.fc.src)) ∧
    (s.fld .CHN_STATUS_role ch ≠ 0 → f.payload.2 = [] → bcnOk f.payload.1 = true → s.peerOk ch f.fc.src = true →
      ∃ t : State, exec (.beaconRx ch) s = .next t ∧ (t.chan ch).layoutTotal = beAt f.payload.1 1 1 ∧
        (t.chan ch).bcnTheta = beAt f.payload.1 5 2 ∧ (t.chan ch).bcnMissed = 0 ∧ (t.chan ch).bcnLost = none ∧
        t.fld .CHN_HEM_STATUS_bcn_ok ch = 1 ∧
        FldsKept [(.CHN_HEM_OFS_delta_m, ch), (.CHN_HEM_OFS_delta_valid, ch), (.CHN_HEM_STATUS_bcn_ok, ch)] s t))

/-- ACK_RX, ACK_MISSING and the time-driven ends of delivery. -/
def Obligations.AcknowledgementsAndDeadlines : Prop :=
  (∀ (s : State) (ch : Nat) (a : RxFrame), s.heard ch (fun fc => fc.typ == 1) = some a → s.chState ch = chTraining →
    ((∀ f ∈ (s.chan ch).await, ¬(f.fc.dst = a.fc.src ∧ f.fc.prio = a.fc.prio)) → exec (.ackRx ch) s = .next (s.takeHeard ch a)) ∧
    (∀ f : Frame, (s.chan ch).await.find? (fun x => x.fc.dst == a.fc.src && x.fc.prio == a.fc.prio) = some f →
      s.frameMine ch a.fc = true → s.dlv.segs = [] → s.dlv.txMsgs = [] → f.mids = [] → f.fc.prio < 3 →
      (s.chan ch).cw.length = 3 → ∃ t : State, exec (.ackRx ch) s = .next t ∧
        (t.chan ch).await = (s.chan ch).await.erase f ∧ t.cwOf ch f.fc.prio = s.cwMin ch f.fc.prio ∧
        (t.txFlow ch a.fc.src (f.fc.prio == 3)).rxFull = a.fc.body.testBit 1)) ∧
  (∀ (s : State) (ch : Nat) (f : Frame) (rest : List Frame), (s.chan ch).await = f :: rest → s.dlv.segs = [] → s.dlv.txMsgs = [] →
    ∃ t : State, exec (.ackMissing ch) s = .next t ∧ (t.chan ch).await = rest ∧
      t.fld .CHN_ACCESS_CNT_no_ack ch
        = min (s.fld .CHN_ACCESS_CNT_no_ack ch + 1) (2 ^ Fld.width .CHN_ACCESS_CNT_no_ack - 1)) ∧
  (∀ (s : State) (ch : Nat), ∃ t : State, exec (.segmentDeadline ch) s = .next t ∧
    ∀ g ∈ t.dlv.segs, g ∈ s.dlv.segs ∧ ¬(g.ch = ch ∧ g.deadline ≤ s.tick)) ∧
  (∀ (s : State) (m : RxMsg), s.dlv.done.find? (fun x => decide (2 ≤ x.hems)) = some m →
    ∃ t : State, exec .rxMessageDiscard s = .next t ∧ t.dlv.done = s.dlv.done.erase m ∧
      t.fld .DLV_RX_CNT2_rx_drop 0 = min (s.fld .DLV_RX_CNT2_rx_drop 0 + 1) (2 ^ Fld.width .DLV_RX_CNT2_rx_drop - 1) ∧
      FldsKept [(.DLV_RX_CNT2_rx_drop, 0)] s t) ∧
  (∀ (s : State) (e : Seen), firstSeen s.dlv.seen = some e → (∀ x ∈ s.dlv.seen, e.due ≤ x.due) ∧
    exec .seenEntryExpiry s = .next (({ s with tick := max s.tick e.due, dlv := { s.dlv with seen := s.dlv.seen.erase e } }).setFld
      .DLV_SEEN_seen_used 0 (s.dlv.seen.erase e).length)) ∧
  (∀ (s : State) (ch : Nat), s.host.queues = [] → s.pat.contacts.groups = [] → s.pat.serial = [] →
    exec (.messageHandover ch) s = .next s) ∧
  (∀ (s u : State) (ch : Nat) (m : QMsg), u.pat.contacts.groups = [] → u.pat.serial = [] →
    let urgent := (s.queueHeads ch).find? (fun x => x.prio == 3 && (s.takeMsg x).isSome)
    (urgent = some m → s.takeMsg m = some u → exec (.messageHandover ch) s = .next u) ∧
    (∀ (l : List QMsg) (k : Nat), urgent = none → s.sliceAt ch = some k → (s.queueHeads ch).filter (fun x => x.prio != 3) = m :: l →
      (s.reach k).takeMsg m = some u → exec (.messageHandover ch) s = .next u)) ∧
  (∀ (s : State) (p : Nat), s.host.ohiIn = [] → s.linkUp p = false → ∃ t : State, exec (.ethernetEgress p) s = .next t ∧
    t.host.egMs = s.tick / 200000 ∧ t.host.egress = s.host.egress ∧ t.regs = s.regs) ∧
  (∀ (s : State) (p : Nat) (f : EgFrame), p < 2 → s.host.ohiIn = [] → s.linkUp p = true → s.host.egMs = s.tick / 200000 →
    (∀ o ∈ s.tim.out, o.port ≠ p) → s.nextEgress p = some f → s.dlv.done = [] →
    ∃ t : State, exec (.ethernetEgress p) s = .next t ∧ t.host.egress = s.host.egress.erase f ∧
      t.host.sent = s.host.sent ++ [(p, f.bytes)] ∧ t.regs = s.regs)

/-- The five operations of R163. -/
def Obligations.ToneMapMessagesAreObeyed : Prop :=
  ∀ (s : State) (ch src : Nat) (m : List Byte),
    let r := tmRead (s.dCount ch) (s.inForce 3) m
    let k := s.boundaryAfter (s.chan ch).rxEnd 8
    (r = .bad →
      (msgOp m = 1 → exec (.mapRx ch src m) s = .next (s.bump .CHN_TM_CNT_tm_reject ch)) ∧
      (msgOp m = 2 → exec (.soundReqRx ch src m) s = .next (s.bump .CHN_TM_CNT_tm_reject ch)) ∧
      (msgOp m = 3 → exec (.invalidateAllRx ch src m) s = .next (s.bump .CHN_TM_CNT_tm_reject ch)) ∧
      (msgOp m = 4 → exec (.fallbackRx ch src m) s = .next (s.bump .CHN_TM_CNT_tm_reject ch)) ∧
      (msgOp m = 5 → exec (.mapNakRx ch src m) s = .next (s.bump .CHN_TM_CNT_tm_reject ch))) ∧
    (∀ (i n caps robo : Nat) (x : ToneMap), msgOp m = 1 → r = .ok 1 i n caps robo (some x) →
      exec (.mapRx ch src m) s = .next ((s.setChan ch { s.chan ch with
        partnerCaps := x.caps, partnerRobo := x.robo, tmDue := (s.chan ch).tmDue ++ [{ slot := k, map := some (i, x) }] }).bump
          .CHN_TM_CNT_map_rcvd ch)) ∧
    (∀ (i n caps robo : Nat) (x : Option ToneMap), msgOp m = 2 → r = .ok 2 i n caps robo x →
      exec (.soundReqRx ch src m) s = .next (s.setChan ch { s.chan ch with soundOwe := some n, partnerCaps := caps })) ∧
    (∀ (i n caps robo : Nat) (x : Option ToneMap), msgOp m = 3 → r = .ok 3 i n caps robo x →
      exec (.invalidateAllRx ch src m) s = .next (s.invalidate ch 2 false)) ∧
    (∀ (i n caps robo : Nat) (x : Option ToneMap), msgOp m = 4 → r = .ok 4 i n caps robo x →
      exec (.fallbackRx ch src m) s = .next (s.setChan ch { s.chan ch with
        tmDue := (s.chan ch).tmDue ++ [{ slot := k, robo := robo }], soundOwe := some n, partnerCaps := caps })) ∧
    (∀ (i n caps robo : Nat) (x : Option ToneMap), msgOp m = 5 → r = .ok 5 i n caps robo x →
      ∃ u : State, exec (.mapNakRx ch src m) s = .next (u.renewMap ch (((tfind i (s.chan ch).rxMaps).map (·.use)).getD 0)) ∧
        u.chan ch = { s.chan ch with rxMaps := tdel i (s.chan ch).rxMaps } ∧
        u.fld .CHN_TM_CNT_tm_reject ch = min (s.fld .CHN_TM_CNT_tm_reject ch + 1) (2 ^ Fld.width .CHN_TM_CNT_tm_reject - 1) ∧
        FldsKept [(.CHN_TM_STATUS_rx_valid, ch), (.CHN_TM_STATUS_tx_valid, ch), (.CHN_TM_CNT_tm_reject, ch)] s u)

/-- R166, R168, R179 and R180. -/
def Obligations.SoundsRefreshTheEstimates : Prop :=
  (∀ (s : State) (ch : Nat) (f : RxFrame), s.heard ch (fun fc => fc.typ == 4) = some f →
    s.chState ch = chTraining ∨ s.chState ch = chLive → 4 ≤ f.cells.length → f.cells.length ≤ 15 → s.frameMine ch f.fc = true →
    (f.stepped = true → exec (.soundRx ch) s = .next (((s.takeHeard ch f).notePeer ch f.fc.src).askSound ch)) ∧
    (f.stepped = false → ∃ u : State,
      exec (.soundRx ch) s = .next (if s.chState ch = chLive then (u.renewMap ch 0).renewMap ch 1 else u.renewMap ch 0) ∧
      u.fld .CHN_SOUND_CNT_sound_rx ch
        = min (s.fld .CHN_SOUND_CNT_sound_rx ch + 1) (2 ^ Fld.width .CHN_SOUND_CNT_sound_rx - 1) ∧
      (u.chan ch).rxq = (s.chan ch).rxq.erase f ∧
      (u.chan ch).soundOut = none ∧ (u.chan ch).soundHems = 0 ∧ u.fld .CHN_SNR_snr_valid ch = 1 ∧
      FldsKept [(.CHN_SOUND_CNT_sound_rx, ch), (.CHN_SNR_snr_mean, ch), (.CHN_SNR_snr_valid, ch), (.CHN_SNR_min_margin, ch)] s u)) ∧
  (∀ (s : State) (ch n : Nat), (s.chan ch).soundOut = some n → exec (.soundTimeout ch) s = .next (
    if n < 4 then s else (s.askSound ch).bump .CHN_SOUND_CNT_sound_timeout ch)) ∧
  (∀ (s : State) (ch i : Nat) (l : List (Nat × Nat)), (s.chan ch).retire = (i, 0) :: l →
    ∃ u : State, exec (.toneMapRetire ch) s = .next (u.serveMaps ch) ∧
      u.chan ch = { s.chan ch with retire := l, rxMaps := tdel i (s.chan ch).rxMaps } ∧
      FldsKept [(.CHN_TM_STATUS_rx_valid, ch), (.CHN_TM_STATUS_tx_valid, ch)] s u) ∧
  (∀ (s : State) (ch : Nat), s.chState ch = chLive → exec (.tmRefresh ch) s = .next (
    if s.fld .CHN_ADAPT_CFG2_tm_refresh ch ≠ 0 ∧ s.fld .CHN_ADAPT_CFG2_tm_refresh ch ≤ (s.chan ch).soundHems then s.askSound ch
    else s)) ∧
  (∀ (s : State) (ch : Nat), s.fld .CHN_TM_STATUS_step_active ch = 1 → s.inPayload ch = false → s.rxGeneralMap ch = none →
    ∃ u : State, exec (.stepRebaseEnd ch) s = .next (u.askSound ch) ∧ u.fld .CHN_TM_STATUS_step_active ch = 0 ∧
      (u.chan ch).rebased = [] ∧ (u.chan ch).est.map (fun e => (e.1, e.2.s2)) = (s.chan ch).est.map (fun e => (e.1, e.2.s2)) ∧
      (u.chan ch).est.map (fun e => (e.1, e.2.h))
        = (s.chan ch).est.map (fun e => (e.1, tget e.2.h e.1 (s.chan ch).rebased)) ∧
      FldsKept [(.CHN_TM_STATUS_step_active, ch), (.CHN_SNR_snr_mean, ch), (.CHN_SNR_snr_valid, ch), (.CHN_SNR_min_margin, ch)] s u)

/-- The Overlock rows (chapter 6). -/
def Obligations.OverlockReportsAndPairs : Prop :=
  (∀ (s : State) (ch : Nat) (l : List Byte), beAt l 0 1 ≠ 0xE1 ∨ beAt l 1 1 ≠ 1 ∨ 1 < beAt l 5 1 ∨
    s.ola.dsync.contains (ch, beAt l 2 1) = false ∨ s.reportLate (beAt l 2 1) = true →
    exec (.errorReportRx ch l) s = .next (s.bump .OLA_ERR_CNT_err_stale 0)) ∧
  (∀ (s : State) (ch : Nat) (l : List Byte), beAt l 0 1 = 0xE1 → beAt l 1 1 = 1 → beAt l 5 1 = 0 → bit (beAt l 4 1) 0 = true →
    l.length = 8 → s.ola.dsync.contains (ch, beAt l 2 1) = true → s.reportLate (beAt l 2 1) = false →
    exec (.errorReportRx ch l) s = .next ((s.bump .OLA_ERR_CNT_err_used 0).setFlag .CHN_OLA_STATUS_err_rx ch true)) ∧
  (∀ (s : State) (ch : Nat) (l : List Byte), beAt l 0 1 = 0xE1 → beAt l 1 1 = 1 → beAt l 5 1 ≤ 1 → bit (beAt l 4 1) 0 = false →
    l.length = 1032 → s.ola.dsync.contains (ch, beAt l 2 1) = true → s.reportLate (beAt l 2 1) = false →
    s.ola.parts.find? (fun p => p.ch == ch && p.t == beAt l 2 1) = none →
    exec (.errorReportRx ch l) s = .next { s with ola := { s.ola with
      parts := s.ola.parts ++ [⟨ch, beAt l 2 1, beAt l 5 1, beAt l 3 1, repErrs l⟩] } }) ∧
  (∀ (s : State) (ch t : Nat), (s.reportLate t = false → exec (.errReportDeadline ch t) s = .next s) ∧
    (s.reportLate t = true → ∃ u : State, exec (.errReportDeadline ch t) s = .next u ∧
      u.ola.parts = s.ola.parts.filter (fun p => !(p.ch == ch && p.t == t)) ∧
      u.fld .OLA_ERR_CNT_err_stale 0
        = min (s.fld .OLA_ERR_CNT_err_stale 0 + (s.ola.parts.filter (fun p => p.ch == ch && p.t == t)).length)
            (2 ^ Fld.width .OLA_ERR_CNT_err_stale - 1) ∧
      FldsKept [(.OLA_ERR_CNT_err_stale, 0)] s u)) ∧
  (∀ (s : State) (cls v vi slot : Nat), s.victimIdx cls v = some vi → (s.pair cls vi slot).st = .held →
    (s.holdTime cls = 0 ∨ (s.pair cls vi slot).hold < s.holdTime cls → exec (.pairHoldExpiry cls v slot) s = .next s) ∧
    (s.holdTime cls ≠ 0 → s.holdTime cls ≤ (s.pair cls vi slot).hold →
      exec (.pairHoldExpiry cls v slot) s
        = .next { s with grid := { s.grid with changes := s.grid.changes ++ [.pair cls vi slot .empty] } })) ∧
  (∀ (s : State) (c : Cmd) (cls v slot vi : Nat), s.Takes c → cls ≤ 2 → v ≤ 191 → s.mayName c.pnl v = true →
    s.olaForce cls = true → s.victimIdx cls v = some vi → slot < (s.olaClass cls).nd →
    (let q := s.pair cls vi slot
     let d := ((s.olaSlots cls v)[slot]?).getD 0xFF
     exec (.olaPairQuery c cls v slot) s = .next (s.answer c 0x2401 ⟨.ok, [byte q.st.code, byte d] ++ le 2 (leastCount q)
       ++ le 2 (s.pairPower cls vi slot) ++ [byte (b2n (cls == 0 && s.duplexBit v d))]⟩)) ∧
    (let asked := (List.range (s.olaClass cls).nd).map (fun j => SlotChange.pair cls vi j .empty)
     let t : State := { s with grid := { s.grid with changes := s.grid.changes ++ asked } }
     exec (.olaVictimReset c cls v) s = .next (t.answer c 0x2402 (rsp .ok))) ∧
    (∀ ca n : Nat, 74 ≤ ca → 1 ≤ n → n ≤ 5 → ca + n ≤ 1098 → exec (.olaCoefRead c cls v slot ca n) s
      = .next (s.answer c 0x2403 ⟨.ok, (List.range n).flatMap (fun k => le 4 (s.coefWord cls vi slot (ca + k)))⟩)) ∧
    (∀ (ca : Nat) (ws : List Nat), s.expertOk c.pnl = false →
      exec (.olaCoefWrite c cls v slot ca ws) s = .next (s.answer c 0x2404 (rsp .denied))) ∧
    (∀ (ca : Nat) (ws : List Nat), s.expertOk c.pnl = true → 74 ≤ ca → 1 ≤ ws.length → ws.length ≤ 12 →
      ca + ws.length ≤ 1098 →
      (pairActive (s.pair cls vi slot) = true → exec (.olaCoefWrite c cls v slot ca ws) s = .next (s.answer c 0x2404 (rsp .badState))) ∧
      (pairActive (s.pair cls vi slot) = false → (s.olaSlots cls v).length ≤ slot →
        exec (.olaCoefWrite c cls v slot ca ws) s = .next (s.answer c 0x2404 (rsp .ok))) ∧
      ((s.pair cls vi slot).st = .learn → slot < (s.olaSlots cls v).length → cls ≠ 0 ∨ slot = 0 ∨ s.inForce 0 = true →
        exec (.olaCoefWrite c cls v slot ca ws) s = .next (({ s with ola := { s.ola with writes := s.ola.writes ++ ws.zipIdx.map (fun (w : Nat × Nat) =>
            ⟨s.entryOf cls vi slot (ca + w.2), w.1 % 2 ^ 32, 1⟩) } } : State).answer c 0x2404 (rsp .ok))))) ∧
  (∀ s : State, s.grid.running = true → exec .overlockFence s = .next { s with grid := { s.grid with
    changes := s.grid.changes ++ [.olaFence, .offer 0, .offer 1, .offer 2] } }) ∧
  (∀ s : State, let t := s.applyChange .olaFence
    t.fld .OLA_STATUS_fenced 0 = 1 ∧ t.ola.pairs = [] ∧ t.ola.coef = [] ∧ t.ola.writes = [] ∧
    ∀ c : Nat, c < 3 → t.fld .OLA_PAIRS_active c = 0 ∧ t.fld .OLA_PAIRS_learning c = 0)

/-- SEND, FLOOD, Q_AGE_DROP, HOST_FRAME_RX, ARP_REQUEST, the supervision rows, HOST_LINK_CHANGE and PNL_QUERY. -/
def Obligations.HostMessagesAreCheckedAndQueued : Prop :=
  (∀ (s : State) (p q : Nat) (m : List Byte) (c : Instr), p < 16 → q < 8 → (s.panelItem p).isSome = true →
    (c = .send p q m ∧ (hoParse m).kind ≠ 2 ∨ c = .flood p q m ∧ (hoParse m).kind ≠ 1) →
    (let h := hoParse m
     (hoBad h m = true → exec c s = .next (s.bump .PNL_HO_CNT_ho_err p)) ∧
     (hoBad h m = false → s.hoDenied p h = true → exec c s = .next (s.bump .DLV_EP_CNT_ep_denied 0)) ∧
     (hoBad h m = false → s.hoDenied p h = false → s.hoNoRight p h = true →
       exec c s = .next (s.bump .PNL_HO_CNT_right_deny p)) ∧
     (hoBad h m = false → s.hoDenied p h = false → s.hoNoRight p h = false → h.prio ≠ 3 → s.credit p q = 0 →
       exec c s = .next (s.bump .PNL_THIMBLE_CNT_credit_drop p)) ∧
     (hoBad h m = false → s.hoDenied p h = false → s.hoNoRight p h = false → h.hasLaunch = false →
       (h.prio ≠ 3 → s.credit p q ≠ 0) → (h.prio = 3 → s.protCount p < 64) →
       ∃ (t : State) (x : QMsg), exec c s = .next t ∧ t.host.queues = s.host.queues ++ [x] ∧ x.panel = p ∧ x.cls = q ∧
         x.prio = h.prio ∧ x.flood = (h.kind == 2) ∧ x.target = h.target ∧ x.dst = h.peer ∧ x.ep = h.ep ∧
         x.data = slice m 32 h.len ∧ x.tickIn = s.tick ∧ x.launch = none ∧ t.regs = s.regs ∧
         t.credit p q = (if h.prio = 3 then s.credit p q else s.credit p q - 1)))) ∧
  (∀ (s : State) (p q : Nat) (m : QMsg), s.host.queues.find? (fun x => x.panel == p && (if q = 8 then x.prio == 3
      else x.prio != 3 && x.cls == q)) = some m →
    (∃ t : State, exec (.qAgeDrop p q) s = .next t ∧ t.tick = max s.tick (m.tickIn + s.queueAge m) ∧
      t.host.queues = s.host.queues.erase m ∧ (m.prio ≠ 3 → t.credit p q = s.credit p q + 1) ∧
      t.fld .PNL_HO_CNT_q_age_drop p = min (s.fld .PNL_HO_CNT_q_age_drop p + 1) (2 ^ Fld.width .PNL_HO_CNT_q_age_drop - 1) ∧
      FldsKept [(.PNL_HO_CNT_q_age_drop, p), (.PNL_CREDIT_ret_lo, 4 * p + q / 2), (.PNL_CREDIT_ret_hi, 4 * p + q / 2)] s t)) ∧
  (∀ (s : State) (port tick : Nat) (f : List Byte) (ok : Bool),
    (s.linkUp port = false → exec (.hostFrameRx port f ok tick) s = .next s) ∧
    (port < 2 → s.linkUp port = true → exec (.hostFrameRx port f false tick) s
      = .next (({ s with tick := max s.tick (tick / 16) } : State).bump .HST_PORT_CNT_fcs_err port)) ∧
    (port < 2 → s.linkUp port = true → f.length < 60 ∨ 16444 < f.length → exec (.hostFrameRx port f true tick) s
      = .next (({ s with tick := max s.tick (tick / 16) } : State).bump .HST_PORT_CNT_mac_drop port))) ∧
  (∀ (s : State) (port vid : Nat) (f : List Byte) (i : PanelItem), s.mgmtPanel vid = some i → port < 2 →
    (ethParse f).etype = 0x0806 → beAt (ethParse f).body 6 2 = 1 → beAt (ethParse f).body 24 4 = i.ipv4 → s.prpOn = false →
    ∃ e : EgFrame, exec (.arpRequest port vid f) s = .next { s with host := { s.host with egress := s.host.egress ++ [e] } } ∧
      e.order = 3 ∧ e.panel = i.panel ∧ e.ports = i.ports ∧
      e.bytes = be 6 (ethParse f).src ++ be 6 s.macAddr ++ be 2 0x8100 ++ be 2 ((ethParse f).pcp * 8192 + i.mgmtVid)
        ++ be 2 0x0806 ++ (ethParse f).body.take 6 ++ be 2 2 ++ be 6 s.macAddr ++ be 4 i.ipv4
        ++ slice (ethParse f).body 8 10) ∧
  (∀ (s : State) (port : Nat) (f : List Byte), exec (.prpSupervisionRx port f) s = .next s) ∧
  (∀ s : State, (s.prpOn = false → exec .prpSupervisionSend s = .next s) ∧
    (s.prpOn = true → 0 < s.pat.ports.prpLifeMs → ∃ (t : State) (a b : EgFrame), exec .prpSupervisionSend s = .next t ∧
      t.tick = max s.tick (s.host.supAt + s.pat.ports.prpLifeMs * 200000) ∧
      t.host.egress = s.host.egress ++ [a, b] ∧ a.ports = 1 ∧ b.ports = 2 ∧
      a.bytes = s.supFrame ++ rct s.host.prpSeq 0xA s.supFrame ∧ b.bytes = s.supFrame ++ rct s.host.prpSeq 0xB s.supFrame ∧
      t.host.prpSeq = (s.host.prpSeq + 1) % 65536 ∧ t.host.supSeq = (s.host.supSeq + 1) % 65536 ∧ t.regs = s.regs)) ∧
  (∀ (s : State) (port : Nat) (up : Bool), port < 2 → ∃ t : State, exec (.hostLinkChange port up) s = .next t ∧
    t.linkUp port = (up && s.fld .HST_PORT_STATUS_mode port != 0xF && !s.host.failed.contains port) ∧
    t.fld .HST_PORT_STATUS_fec_lock port = t.fld .HST_PORT_STATUS_link_up port ∧
    FldsKept [(.HST_PORT_STATUS_link_up, port), (.HST_PORT_STATUS_fec_lock, port), (.HST_PORT_STATUS_an_done, port)] s t) ∧
  (∀ (s : State) (c : Cmd) (part : Nat), s.Takes c →
    exec (.pnlQuery c part) s = .next (s.answer c 0x3E01
      (if 1 < part then rsp .badArg else ⟨.ok, (s.pnlWords c.pnl part).flatMap (le 4)⟩)))

/-- The PTP rows (chapter 10). -/
def Obligations.PtpMessagesAreForwardedAndAnswered : Prop :=
  (∀ (s : State) (p tIn : Nat) (m : PtpMsg) (sus : Bool) (c : Instr), m.ver ≠ 2 →
    (c = .sync p m tIn sus ∧ m.typ = 0 ∨ c = .followUp p m tIn sus ∧ m.typ = 8 ∨ c = .announce p m tIn sus ∧ m.typ = 0xB ∨
      c = .signaling p m tIn sus ∧ m.typ = 0xC ∨ c = .management p m tIn sus ∧ m.typ = 0xD) →
    exec c s = .next (s.bump .TIM_PTP_CNT2_unsupported 0)) ∧
  (∀ (s : State) (p tIn : Nat) (m : PtpMsg), m.ver = 2 → m.typ = 0 →
    ((s.pd p).d = none → exec (.sync p m tIn false) s = .next (s.bump .TIM_PTP_CNT2_no_pdelay 0)) ∧
    (∀ d : Int, (s.pd p).d = some d →
      (s.tcPort p = true → s.tim.fwd.any (fun x => x.srcId == m.srcId && x.srcPort == m.srcPort && x.domain == m.domain
          && x.typ == 0 && x.seq == m.seq && decide (s.tick ≤ x.tick + 200000000)) = true →
        exec (.sync p m tIn false) s = .next (s.bump .TIM_PTP_CNT_loop_drop 0)) ∧
      (∀ q : Nat, p < 2 → s.tcPort p = true → s.ptpTbs p = [] → s.tcPorts.filter (· != p) = [q] → s.tim.fwd = [] →
        ∃ t : State, exec (.sync p m tIn false) s = .next t ∧ t.tim.fwd = [⟨m.srcId, m.srcPort, m.domain, 0, m.seq, s.tick⟩] ∧
          (let need : PtpNeed := if m.twoStep then .hold else .residence
           t.tim.out = s.tim.out ++ [⟨q, m, need, s.ingressNs p tIn, d, none⟩]) ∧ t.regs = s.regs) ∧
      (∀ (k : Nat) (g : Gm), s.tcPort p = false → s.ptpTbs p = [k] → (s.tb k).best = some g →
        m.domain = s.fld .TIM_TB_CFG_domain k → g.srcId = m.srcId → g.srcPort = m.srcPort →
        (s.tb k).lastSync ≠ some (m.srcId * 65536 + m.srcPort, m.seq) → m.twoStep = true →
        ∃ t : State, exec (.sync p m tIn false) s = .next t ∧
          (t.tb k).wait = [⟨m.srcId, m.srcPort, m.seq, s.tbAtNs k (s.ingressNs p tIn), m.corr, d, s.tick⟩] ∧ t.regs = s.regs))) ∧
  (∀ (s : State) (p tIn k : Nat) (m : PtpMsg) (w : SyncWait), m.ver = 2 → m.typ = 8 → s.tcPort p = false → s.ptpTbs p = [k] →
    (s.tb k).wait.find? (fun w => w.srcId == m.srcId && w.srcPort == m.srcPort && w.seq == m.seq) = some w →
    exec (.followUp p m tIn false) s = .next ((s.setTb k { s.tb k with wait := (s.tb k).wait.erase w }).tbOffset k
      (w.at16 - (m.origin + w.corr + m.corr + w.delay)))) ∧
  (∀ (s : State) (p tIn : Nat) (m : PtpMsg) (sus : Bool), m.ver = 2 → s.tcPort p = false →
    (m.typ = 0xC → exec (.signaling p m tIn sus) s = .next s) ∧ (m.typ = 0xD → exec (.management p m tIn sus) s = .next s) ∧
    (m.typ = 0xB → s.ptpTbs p = [] → exec (.announce p m tIn sus) s
      = .next { s with tim := { s.tim with utc := signed 16 (beAt m.body 44 2) } })) ∧
  (∀ (s : State) (p tIn : Nat) (m : PtpMsg), m.ver = 2 → s.pdPort p = true →
    (m.typ = 2 → ∃ o : PtpOut, exec (.pdelayReq p m tIn false) s = .next { s with tim := { s.tim with out := s.tim.out ++ [o] } } ∧
      o.port = p ∧ o.need = .turnaround ∧ o.nIn = s.ingressNs p tIn ∧
      o.msg = s.ptpMake p 3 m.domain m.seq m.corr (List.replicate 10 0 ++ be 8 m.srcId ++ be 2 m.srcPort)) ∧
    (m.typ = 3 → s.pdMine p m = false → exec (.pdelayResp p m tIn false) s = .next s) ∧
    (m.typ = 3 → s.pdMine p m = true → m.twoStep = true → ∃ t : State, exec (.pdelayResp p m tIn false) s = .next t ∧
      (t.pd p).t2 = some m.origin ∧ (t.pd p).t4 = s.ingressNs p tIn ∧ (t.pd p).c = m.corr ∧ (t.pd p).d = (s.pd p).d) ∧
    (∀ t1 : Rat, m.typ = 3 → s.pdMine p m = true → m.twoStep = false → (s.pd p).t1 = some t1 → (s.pd p).d = none →
      ∃ t : State, exec (.pdelayResp p m tIn false) s = .next t ∧ (t.pd p).missed = 0 ∧ (t.pd p).t1 = none ∧
        (t.pd p).d = some ((roundRat ((s.ingressNs p tIn - t1) * 65536) - m.corr) / 2)) ∧
    (∀ (t1 : Rat) (t2 : Int), m.typ = 0xA → s.pdMine p m = true → (s.pd p).t1 = some t1 → (s.pd p).t2 = some t2 →
      (s.pd p).d = none → ∃ t : State, exec (.pdelayRespFollowUp p m tIn false) s = .next t ∧ (t.pd p).missed = 0 ∧
        (t.pd p).d = some ((roundRat (((s.pd p).t4 - t1) * 65536) - (m.origin - t2) - ((s.pd p).c + m.corr)) / 2))) ∧
  (∀ (s : State) (p : Nat), (s.pdPort p = false → exec (.pdelayInterval p) s = .next s) ∧
    (s.pdPort p = true → ∃ (t : State) (o : PtpOut), exec (.pdelayInterval p) s = .next t ∧ t.tim.out = s.tim.out ++ [o] ∧ o.port = p ∧
      o.need = .request ∧ o.msg.typ = 2 ∧ (t.pd p).seq = ((s.pd p).seq + 1) % 65536 ∧
      t.tick = ((s.pd p).reqAt.map (fun k => max s.tick (k + s.pat.tbs.pdelayMs * 200000))).getD s.tick ∧
      (t.pd p).missed = (if (s.pd p).t1.isSome then (s.pd p).missed + 1 else (s.pd p).missed) ∧
      (t.pd p).d = (if 3 ≤ (t.pd p).missed then none else (s.pd p).d))) ∧
  (∀ s : State, (s.tim.held = [] → exec .heldCorrectionExpiry s = .next s) ∧
    (∀ (x : HeldR) (l : List HeldR), s.tim.held = x :: l → ∃ t : State, exec .heldCorrectionExpiry s = .next t ∧
      t.tick = max s.tick (x.tick + 200000000) ∧ t.tim.held = l.filter (fun h => decide (t.tick < h.tick + 200000000)) ∧
      t = { s with tick := t.tick, tim := { s.tim with held := t.tim.held } })) ∧
  (∀ (s : State) (p tick l : Nat) (o : PtpOut), s.tim.out.find? (fun o => o.port == p && o.launch.isSome) = some o →
    o.launch = some l → ∃ t : State, exec (.launchTimeFrame p tick) s = .next t ∧ t.tim.out = s.tim.out.erase o ∧
      t.tick = max (max s.tick tick) l ∧
      (l < max s.tick tick → t.host.sent = s.host.sent ∧ t.fld .TIM_PTP_CNT2_late 0
        = min (s.fld .TIM_PTP_CNT2_late 0 + 1) (2 ^ Fld.width .TIM_PTP_CNT2_late - 1)) ∧
      (max s.tick tick ≤ l → ∃ b : List Byte, t.host.sent = s.host.sent ++ [(p, b)]))
/-- The time rows (chapter 10). -/
def Obligations.TimebasesFollowTheirOffsets : Prop :=
  (∀ (s : State) (k : Nat) (th : Int), k < 8 → s.pairs = [] → s.fld .TIM_TB_STEP_step_ns k = 0 →
    let t := s.tbOffset k th
    let integ := clampInt (-(200000 * 2 ^ 32)) (200000 * 2 ^ 32) ((s.tb k).integ + s.fld .TIM_TB_SERVO_ki k * th)
    t.fld .TIM_TB_OFFSET_theta k = unsigned 32 (clampInt (-2147483648) 2147483647 (roundDiv th 65536)) ∧
    (t.tb k).integ = integ ∧ t.fld .TIM_TB_RATE_rate k = unsigned 32 (servoRate (s.fld .TIM_TB_SERVO_kp k) th integ) ∧
    (t.lastAnchor k).tick = s.tick + 1 ∧ (t.lastAnchor k).val = s.tbAt k (s.tick + 1) ∧
    t.fld .TIM_TB_CNT_offsets k = (s.fld .TIM_TB_CNT_offsets k + 1) % 2 ^ Fld.width .TIM_TB_CNT_offsets ∧
    (s.fld .TIM_TB_STATUS_tb_state k = 0 ∨ s.fld .TIM_TB_STATUS_tb_state k = 3 → t.fld .TIM_TB_STATUS_tb_state k = 1) ∧
    FldsKept ([(.TIM_TB_OFFSET_theta, k), (.TIM_TB_RATE_rate, k), (.TIM_TB_CNT_offsets, k), (.TIM_TB_STATUS_tb_state, k),
      (.TIM_TB_STATUS_qualified, k)] ++ logFlds) s t) ∧
  (∀ (s : State) (k : Nat), (8 ≤ k ∨ ¬(s.fld .TIM_TB_STATUS_tb_state k = 1 ∨ s.fld .TIM_TB_STATUS_tb_state k = 2) →
      exec (.timebaseLossTimeout k) s = .next s) ∧
    (k < 8 → s.pairs = [] → s.fld .TIM_TB_STATUS_tb_state k = 1 ∨ s.fld .TIM_TB_STATUS_tb_state k = 2 →
      ∃ t : State, exec (.timebaseLossTimeout k) s = .next t ∧ t.fld .TIM_TB_STATUS_tb_state k = 3 ∧
        t.fld .TIM_TB_STATUS_qualified k = 0 ∧ (t.tb k).hoTick = t.tick ∧
        t.tick = max s.tick ((s.tb k).offs.headD s.tick + lossTimeout (s.tb k)) ∧
        (let rate := clampInt (-51200000) 51200000 (roundDiv (s.tb k).integ (2 ^ 24))
         t.lastAnchor k = { tick := t.tick + 1, val := s.tbAt k (t.tick + 1), rate := rate } ∧
         t.fld .TIM_TB_RATE_rate k = unsigned 32 rate) ∧
        FldsKept ([(.TIM_TB_RATE_rate, k), (.TIM_TB_STATUS_tb_state, k), (.TIM_TB_STATUS_qualified, k)] ++ logFlds) s t)) ∧
  (∀ (s : State) (n : Nat) (p : PairItem × Nat), s.pairs.find? (fun q => q.2 == n) = some p →
    (let a := s.lastAnchor p.1.out
     (a.phi = 0 ∨ a.slew = 0 → exec (.slewEnd n) s = .next s) ∧
     (a.phi ≠ 0 → a.slew ≠ 0 → ∃ t : State, exec (.slewEnd n) s = .next t ∧
       t.tick = max s.tick (a.tick + ceilDiv (a.phi.natAbs * 1000000000) (327680 * a.slew) - 1) ∧
       t.lastAnchor p.1.out = { tick := t.tick + 1, val := a.at (t.tick + 1), rate := a.rate } ∧
       t.fld .TIM_PAIR_PHI_phi p.2 = 0 ∧ t.fld .TIM_PAIR_STATUS_slewing p.2 = 0 ∧
       FldsKept [(.TIM_PAIR_PHI_phi, p.2), (.TIM_PAIR_STATUS_slewing, p.2)] s t))) ∧
  (∀ (s : State) (x : Nat),
    let ok := s.tim.ppsIn.any (fun p => decide (199980000 ≤ x / 16 - p) && decide (x / 16 - p ≤ 200020000))
    let u : State := { s with tick := max s.tick (x / 16), tim := { s.tim with ppsIn := some (x / 16) } }
    let u := u.setFlag .PWR_CLK_STATUS_pps_valid 0 ok
    ((∀ k : Nat, k < 8 → s.tbRole k ≠ 3) → exec (.ppsInEdge x) s = .next u) ∧
    (∀ k : Nat, k < 8 → s.tbRole k = 3 → (∀ j : Nat, j < 8 → j ≠ k → s.tbRole j ≠ 3) →
      exec (.ppsInEdge x) s = .next (u.tbOffset k (wrapSecond (s.tbAt16 k x))))) ∧
  (∀ s : State, ∃ t : State, exec .ppsInTimeout s = .next t ∧
    t.tick = (s.tim.ppsIn.map (fun p => max s.tick (p + 200020001))).getD s.tick ∧ t.fld .PWR_CLK_STATUS_pps_valid 0 = 0 ∧ t.tim.ppsIn = none ∧
    FldsKept [(.PWR_CLK_STATUS_pps_valid, 0)] s t) ∧
  (∀ (s : State) (tick : Nat),
    let turns : Prop := s.tbAt s.pat.tbs.ppsSrc tick / secUnits ≠ s.tbAt s.pat.tbs.ppsSrc (tick - 1) / secUnits
    (s.tbRole s.pat.tbs.ppsSrc = 0 ∨ ¬turns → exec (.ppsOutEdge tick) s = .next s) ∧
    (s.tbRole s.pat.tbs.ppsSrc ≠ 0 → turns → ∃ t : State, exec (.ppsOutEdge tick) s = .next t ∧ t.tim.ppsEdge = some tick ∧
      (let sec := (tbParts (s.tbAt s.pat.tbs.ppsSrc tick)).1
       t.tim.todDue = some (sec, s.tim.utc, s.fld .TIM_TB_STATUS_tb_state s.pat.tbs.ppsSrc) ∧
       t.fld .PWR_TOD_LO_tod_lo 0 = sec % 2 ^ 32 ∧ t.fld .PWR_TOD_HI_tod_hi 0 = sec / 2 ^ 32 ∧
       t.fld .PWR_TOD_HI_tod_valid 0 = 1) ∧
      FldsKept [(.PWR_TOD_LO_tod_lo, 0), (.PWR_TOD_HI_tod_hi, 0), (.PWR_TOD_HI_tod_valid, 0)] s t)) ∧
  (∀ (s : State) (sec q : Nat) (utc : Int), s.tim.todDue = some (sec, utc, q) →
    exec .todTxLine s = .next { s with tick := max s.tick (s.tim.ppsEdge.getD 0 + 2000000), tim := { s.tim with todLine := gwtLine sec utc q, todDue := none } }) ∧
  (∀ (s : State) (c : Cmd) (k : Nat), s.Takes c → c.pnl = 0 → k ≤ 7 → s.tbRole k ≠ 0 →
    exec (.timQuery c k) s = .next (s.answer c 0x3401 ⟨.ok,
      ((s.tbWords k s.tick ++ [s.tbStatusWord k, s.fld .TIM_TB_RATE_rate k]).map (le 4)).flatten⟩) ∧
    (∀ sec ns rate : Nat, s.tbRole k = 2 ∨ s.tbRole k = 4 →
      exec (.timSet c k sec ns rate) s = .next (s.answer c 0x3402 (rsp .badState))) ∧
    (∀ sec ns rate : Nat, s.tbRole k = 1 ∨ s.tbRole k = 5 → ns ≤ 999999999 → (signed 32 rate).natAbs ≤ 51200000 → s.pairs = [] →
      ∃ t : State, exec (.timSet c k sec ns rate) s = .next (t.answer c 0x3402 (rsp .ok)) ∧
        t.lastAnchor k = { tick := s.tick + 1, val := tbVal sec ns 0, rate := signed 32 rate, jump := true } ∧
        FldsKept [(.TIM_TB_RATE_rate, k)] s t) ∧
    (∀ off : Nat, exec (.timFeed c k off) s = .next (if s.tbRole k = 5 then
      (s.tbOffset k (signed 64 off)).answer c 0x3403 (rsp .ok) else s.answer c 0x3403 (rsp .badState))) ∧
    (∀ (w : Nat) (q : PairItem × Nat), w ≤ 1 → s.inForce 8 = true → s.pairs.find? (fun q => q.1.out == k) = some q → s.tbRole k = 4 →
      (let m := if w = 0 then q.1.primary else q.1.secondary
       (s.tbQualified m = false → exec (.timPairSelect c k w) s = .next (s.answer c 0x3404 (rsp .badState))) ∧
       (s.tbQualified m = true → s.pairSrc q ≠ m → ∃ t : State,
         exec (.timPairSelect c k w) s = .next (t.answer c 0x3404 (rsp .ok)) ∧ t.tbAt k (s.tick + 1) = s.tbAt k (s.tick + 1) ∧
         t.fld .TIM_PAIR_STATUS_on_secondary q.2 = w))) ∧
    (∀ (n : Nat) (a : Anchor), (s.tb k).anchors.find? (fun a => a.tick ≤ n) = some a → n ≤ s.tick →
      exec (.timAt c k n) s = .next (s.answer c 0x3405 ⟨.ok, le 6 (tbParts (a.at n)).1 ++ le 4 (tbParts (a.at n)).2.1
        ++ le 2 (tbParts (a.at n)).2.2 ++ [byte (b2n ((s.tb k).anchors.any (fun b => b.jump && decide (n < b.tick)
          && decide (b.tick ≤ s.tick))))]⟩)))

/-- The Gauge rows (chapter 12). -/
def Obligations.GaugeSamplesExcitationAndChecks : Prop :=
  (∀ (s : State) (ch path p : Nat), path ≤ 1 →
    ((s.gauge ch).next.getD path none ≠ some p → exec (.gaugeSampleDeadline ch path p) s = .next s) ∧
    ((s.gauge ch).next.getD path none = some p → (s.gauge ch).wait = [] → (s.gauge ch).prev.length = 2 →
      s.fld .GAU_CH_STATUS_no_gauge ch = 0 → ∃ t : State, exec (.gaugeSampleDeadline ch path p) s = .next t ∧ t.tick = max s.tick (128 * p + 170) ∧ (t.gauge ch).next.getD path none = some (p + 1) ∧
        ((t.gauge ch).prev.getD path {}).x = ((s.gauge ch).prev.getD path {}).x ∧
        bit ((t.gauge ch).prev.getD path {}).flags fGap = true ∧
        t.fld .GAU_CH_CNT_gap_cnt ch = min (s.fld .GAU_CH_CNT_gap_cnt ch + 1) (2 ^ Fld.width .GAU_CH_CNT_gap_cnt - 1) ∧
        FldsKept [(.GAU_CH_CNT_gap_cnt, ch), (.GAU_CH_STATUS_uns, ch)] s t)) ∧
  (∀ (s : State) (ch : Nat) (b : Bool), (s.gauge ch).item.flag 1 = false ∨ (s.gauge ch).excDue = b →
    exec (.excitationInterval ch b) s = .next s) ∧
  (∀ (s : State) (ch : Nat), (s.gauge ch).item.flag 1 = true →
    ((s.gauge ch).excDue = false → s.gState ch = gIdle → s.flag .GAU_CH_CFG_exc_on ch = true → s.laneAligned (headOf ch) = true →
      ∃ t : State, exec (.excitationInterval ch true) s = .next t ∧ t.gState ch = gExciting ∧ (t.gauge ch).excDue = true ∧
        t.tick = max s.tick (s.excStart ch) ∧ (t.gauge ch).excFrom = s.excStart ch ∧
        (t.gauge ch).ncos.head? = some ⟨t.nextPeriod, 1, 0, s.fld .GAU_CH_FTW_ftw ch, s.fld .GAU_CH_CFG_amp ch⟩ ∧
        FldsKept [(.GAU_CH_STATUS_g_state, ch), (.GAU_CH_STATUS_z_valid, ch)] s t) ∧
    ((s.gauge ch).excDue = true → s.gState ch = gExciting → ∃ t : State,
        exec (.excitationInterval ch false) s = .next t ∧ t.gState ch = gIdle ∧
        t.tick = max s.tick ((s.gauge ch).excFrom + (s.gauge ch).item.excLen * 200000) ∧
        (t.gauge ch).ncos.head? = some ⟨t.nextPeriod, 0, 0, 0, 0⟩ ∧
        FldsKept [(.GAU_CH_STATUS_g_state, ch), (.GAU_CH_STATUS_z_valid, ch)] s t)) ∧
  (∀ (s : State) (ch : Nat), (s.gauge ch).item.chkInterval ≠ 0 → s.laneAligned (headOf ch) = true →
    s.flag .GAU_CH_STATUS_no_gauge ch = false → ∃ t : State, exec (.checkDue ch) s = .next t ∧
      t.tick = max s.tick (s.checkTime ch) ∧ (t.gauge ch).chkAt = s.checkTime ch ∧
    (s.gState ch = gExciting → FldsKept [(.GAU_CH_CNT_chk_skip, ch)] s t ∧ t.fld .GAU_CH_CNT_chk_skip ch
      = min (s.fld .GAU_CH_CNT_chk_skip ch + 1) (2 ^ Fld.width .GAU_CH_CNT_chk_skip - 1)) ∧
    (s.gState ch = gIdle → t.gState ch = gChecking ∧ (t.gauge ch).chkRef = false ∧ (t.gauge ch).chkCal = false ∧
      FldsKept [(.GAU_CH_STATUS_g_state, ch), (.GAU_CH_STATUS_z_valid, ch)] s t)) ∧
  (∀ (s : State) (ch w fl p : Nat) (rest : List (Nat × Nat × Nat)),
    (let g := s.gauge ch
     let i := g.item
     (g.chainI.ready = (w, fl, p) :: rest → g.chainI.outN + 1 ≠ g.chainQ.outN → ∃ t : State, exec (.chainOutput ch 0) s = .next t ∧
       (t.gauge ch).chainI.last = roundDiv (signed 84 (comb g.chainI.combs w).1 * 2 ^ 13) (2 ^ chainS i.nIq i.dIq i.mIq) ∧
       (t.gauge ch).chainI.ready = rest ∧ (t.gauge ch).chainQ = g.chainQ ∧ (t.gauge ch).chainV = g.chainV ∧ t.regs = s.regs) ∧
     (g.chainQ.ready = (w, fl, p) :: rest → g.chainQ.outN + 1 ≠ g.chainI.outN → ∃ t : State, exec (.chainOutput ch 1) s = .next t ∧
       (t.gauge ch).chainQ.last = roundDiv (signed 84 (comb g.chainQ.combs w).1 * 2 ^ 13) (2 ^ chainS i.nIq i.dIq i.mIq) ∧
       (t.gauge ch).chainQ.ready = rest ∧ (t.gauge ch).chainI = g.chainI ∧ (t.gauge ch).chainV = g.chainV ∧ t.regs = s.regs) ∧
     (g.chainV.ready = [] → exec (.chainOutput ch 2) s = .next s))) ∧
  (∀ (s : State) (c : Cmd) (ch : Nat), s.Takes c → ch ≤ 191 → s.mayName c.pnl ch = true →
    (s.laneAligned (headOf ch) = false →
      exec (.gauQuery c ch) s = .next (s.answer c 0x3801 (rsp .notPresent)) ∧
      exec (.gauCheck c ch) s = .next (s.answer c 0x3802 (rsp .notPresent))) ∧
    (s.laneAligned (headOf ch) = true → s.flag .GAU_CH_STATUS_no_gauge ch = false →
      exec (.gauQuery c ch) s = .next (s.answer c 0x3801 ⟨.ok, le 4 (s.gauStatusWord ch) ++ le 4 (s.fld .GAU_CH_Z_z (2 * ch))
        ++ le 4 (s.fld .GAU_CH_Z_z (2 * ch + 1))⟩) ∧
      (s.gState ch = gExciting → exec (.gauCheck c ch) s = .next (s.answer c 0x3802 (rsp .badState)) ∧
        exec (.gauCalibrate c ch []) s = .next (s.answer c 0x3803 (rsp .badState))) ∧
      (s.gState ch = gIdle → ∃ t u : State, exec (.gauCheck c ch) s = .next (t.answer c 0x3802 (rsp .ok)) ∧
        exec (.gauCalibrate c ch []) s = .next (u.answer c 0x3803 (rsp .ok)) ∧ t.gState ch = gChecking ∧
        u.gState ch = gChecking ∧ (t.gauge ch).chkCal = false ∧ (u.gauge ch).chkCal = true ∧
        FldsKept [(.GAU_CH_STATUS_g_state, ch), (.GAU_CH_STATUS_z_valid, ch)] s t ∧ u.regs = t.regs) ∧
      (s.gState ch = gChecking → exec (.gauExcite c ch [1]) s = .next (s.answer c 0x3804 (rsp .badState))) ∧
      (∀ v : Nat, v ≤ 1 → s.gState ch ≠ gChecking → ∃ t : State, exec (.gauExcite c ch [v]) s = .next (t.answer c 0x3804 (rsp .ok)) ∧
        t.fld .GAU_CH_CFG_exc_on ch = v ∧
        FldsKept [(.GAU_CH_CFG_exc_on, ch), (.GAU_CH_STATUS_g_state, ch), (.GAU_CH_STATUS_z_valid, ch)] s t)))

/-- The Cast rows (chapter 12). -/
def Obligations.CastRecordsArrivalsAndRegions : Prop :=
  (∀ (s : State) (i tick : Nat) (up : Bool), s.rst.pwr ≠ .keep → i < 4 →
    ((tget {} i s.gau.blanks).high = up → exec (.blankEdge i up tick) s = .next { s with tick := max s.tick tick }) ∧
    ((tget {} i s.gau.blanks).high ≠ up → s.armChans i = [] → s.castOn = false → ∃ t : State, exec (.blankEdge i up tick) s = .next t ∧
      (tget {} i t.gau.blanks).high = up ∧ bit (t.fld .GAU_BLANK_STATUS_pin 0) i = up ∧
      (up = true → bit (t.fld .GAU_BLANK_STATUS_asserted 0) i = true) ∧
      (∀ j : Nat, j < 4 → j ≠ i → bit (t.fld .GAU_BLANK_STATUS_pin 0) j = bit (s.fld .GAU_BLANK_STATUS_pin 0) j) ∧
      FldsKept [(.GAU_BLANK_STATUS_pin, 0), (.GAU_BLANK_STATUS_asserted, 0)] s t)) ∧
  (∀ (s : State) (i : Nat), i < 4 →
    ((tget {} i s.gau.blanks).high = true → exec (.blankExtensionEnd i) s = .next s) ∧
    ((tget {} i s.gau.blanks).high = false → ∃ t : State, exec (.blankExtensionEnd i) s = .next t ∧
      bit (t.fld .GAU_BLANK_STATUS_asserted 0) i = false ∧
      (∀ j : Nat, j < 4 → j ≠ i → bit (t.fld .GAU_BLANK_STATUS_asserted 0) j = bit (s.fld .GAU_BLANK_STATUS_asserted 0) j) ∧
      FldsKept [(.GAU_BLANK_STATUS_asserted, 0)] s t)) ∧
  (∀ (s : State) (ch : Nat), (s.flag .CHN_TM_STATUS_armed ch = false → exec (.armExpiry ch) s = .next s) ∧
    (s.flag .CHN_TM_STATUS_armed ch = true → exec (.armExpiry ch) s
      = .next (({ s with tick := max s.tick (s.chan ch).armedUntil } : State).setFlag .CHN_TM_STATUS_armed ch false))) ∧
  (∀ (s : State) (ch n : Nat), s.inDead ch n = true ∨ s.castRecords ch = false →
    exec (.wavefrontArrival ch n) s = .next { s with tick := max s.tick n }) ∧
  (∀ (s : State) (ch n : Nat) (d0 d1 : Rat), s.castRecords ch = true → s.inDead ch n = false → s.waveD ch (n - 1) = some d0 →
    s.waveD ch n = some d1 → absRat d0 < s.waveLimit ch n → s.waveLimit ch n ≤ absRat d1 →
    (∀ i : Nat, i < 200 → (s.waveD ch (n + 1 + i)).isSome = true) →
      ∃ (t : State) (a : Arrival), exec (.wavefrontArrival ch n) s = .next t ∧
        tfind (s.fld .SRG_CNT2_arr_head 0) t.gau.arrivals = some a ∧ a.ch = ch ∧
        a.tick = (s.arrivalNs ch n (absRat d0) (absRat d1) (s.waveLimit ch n)).toNat / 5 ∧
        t.fld .SRG_CNT2_arr_head 0 = (s.fld .SRG_CNT2_arr_head 0 + 1) % 4096 ∧
        t.fld .SRG_CNT_arrivals 0 = (s.fld .SRG_CNT_arrivals 0 + 1) % 2 ^ Fld.width .SRG_CNT_arrivals ∧
        tfind ch t.gau.dead = some (n + (s.castItem ch).wfDead * 200)) ∧
  (∀ (s : State) (ch : Nat), ∃ t : State, exec (.deadTimeEnd ch) s = .next t ∧ tfind ch t.gau.dead = none ∧ t.regs = s.regs) ∧
  (∀ (s : State) (r : Nat), r < 8 → (s.region r).st = .collecting →
    (∃ t : State, exec (.regionCollected r) s = .next t ∧ t.tick = max s.tick (s.region r).stop ∧ (t.region r).st = .held ∧
      t.fld .SRG_REGION_state r = 2 ∧
      FldsKept ([(.SRG_REGION_state, r), (.SRG_REGION_short, r), (.SRG_REGION_gap, r), (.SRG_REGION_trigger, r),
        (.SRG_STATUS_regions_free, 0)] ++ logFlds) s t)) ∧
  (∀ (s : State) (r ch t0 : Nat) (xs : List Nat) (i : PanelItem),
    (let g := s.region r
     g.st = .exporting → s.toHostRoom g.cmd.pnl g.cls = true →
     (s.exportChan g g.expCh = none → ∃ t : State, exec (.exportMessage r) s = .next t ∧ (t.region r).st = .held) ∧
     (s.exportChan g g.expCh = some ch → exportPiece (s.heldBlocks g ch) (if ch = g.expCh then g.expAt else 0) = some (t0, xs) →
       s.panelItem g.cmd.pnl = some i → s.prpOn = false → ∃ (t : State) (f : EgFrame) (h : List Byte) (fl : Nat),
       exec (.exportMessage r) s = .next t ∧ t.host.egress = s.host.egress ++ [f] ∧ f.order = 4 ∧ f.panel = g.cmd.pnl ∧
         f.cls = g.cls ∧ f.bytes = h ++ [byte r, byte ch] ++ be 2 fl ++ be 4 0 ++ be 8 t0 ++ be 4 xs.length ++ be 8 g.trig
           ++ be 4 0 ++ xs.flatMap (be 2)))) ∧
  (∀ (s : State) (c : Cmd) (r : Nat), s.Takes c →
    (c.pnl ≠ 0 → exec (.srgQuery c r) s = .next (s.answer c 0x3A01 (rsp .denied)) ∧
      exec (.srgFreeze c []) s = .next (s.answer c 0x3A02 (rsp .denied))) ∧
    (c.pnl = 0 → s.inForce 6 = true → r < s.pat.cast.regions →
      exec (.srgQuery c r) s = .next (s.answer c 0x3A01 ⟨.ok, le 4 s.srgStatusWord ++ le 4 (s.srgRegionWord r)
        ++ le 8 (if (s.region r).st ≠ .free then (s.region r).trig else 0)
        ++ le 8 (if (s.region r).st ≠ .free then s.regionFirst (s.region r) else 0)⟩) ∧
      ((∀ e ∈ s.gau.regions, e.2.st ≠ .collecting) → (s.region r).st = .free → (∀ q : Nat, q < r → (s.region q).st ≠ .free) →
        ∃ t : State, exec (.srgFreeze c []) s = .next (t.answer c 0x3A02 (rsp .ok)) ∧ (t.region r).st = .collecting ∧
          (t.region r).trig = s.tick ∧ (t.region r).start = s.tick - msTicks s.pat.cast.preMs ∧
          (t.region r).stop = s.tick + msTicks s.pat.cast.postMs ∧ ∀ q : Nat, q ≠ r → t.region q = s.region q) ∧
      (∀ (cls : Nat) (mask : List Nat), cls ≤ 7 → mask.length = 24 → (s.region r).st = .held →
        ∃ t : State, exec (.srgExport c (r :: cls :: mask)) s = .next (t.answer c 0x3A03 (rsp .ok)) ∧
          t.region r = { s.region r with st := .exporting, cmd := c, cls := cls, mask := natOfArgs mask, expCh := 0, expAt := 0 } ∧
          ∀ q : Nat, q ≠ r → t.region q = s.region q) ∧
      ((s.region r).st = .held → ∃ t : State, exec (.srgRelease c r) s = .next (t.answer c 0x3A04 (rsp .ok)) ∧
        t.region r = {} ∧ ∀ q : Nat, q ≠ r → t.region q = s.region q) ∧
      ((s.region r).st = .exporting → exec (.srgRelease c r) s = .next (s.answer c 0x3A04 (rsp .busy)))) ∧
    (c.pnl = 0 → s.inForce 6 = true → ∀ (n : Nat) (a : Arrival), n ≤ 4095 → tfind n s.gau.arrivals = some a →
      exec (.srgArrivalRead c n) s = .next (s.answer c 0x3A05 ⟨.ok, a.bytes⟩)))
/-- The serial rows (chapter 14), for a port whose oscillator class and framing need nothing else. -/
def Obligations.SerialPortsReceiveAndSend : Prop :=
  (∀ (s : State) (n d tick : Nat) (fs pOk sOk : Bool), (s.port n).item = none ∨ (s.port n).armed = false →
    exec (.serialCharacterRx n d fs pOk sOk tick) s = .next { s with tick := max s.tick tick }) ∧
  (∀ (s : State) (n d tick : Nat) (i : SerItem), (s.port n).item = some i → (s.port n).armed = true → (s.port n).rxPend = false →
    (s.port n).ovrNext = false → i.function = 1 → i.cls ≠ 1 → bit i.fmt 4 = false → bit i.fmt 5 = false → bit i.fmt 0 = true →
    ((s.port n).rx.length < 64 → ∃ t : State, exec (.serialCharacterRx n d false true true tick) s = .next t ∧
      t.port n = { s.port n with rx := (s.port n).rx ++ [d % 256], rxEnd := max (s.port n).rxEnd tick } ∧
      t.fld .SER_STATUS_rx_level n = (s.port n).rx.length + 1 ∧ t.tick = max s.tick tick ∧
      FldsKept [(.SER_STATUS_rx_level, n), (.SER_STATUS_tx_level, n), (.SER_STATUS_div_pending, n)] s t) ∧
    (64 ≤ (s.port n).rx.length → ∃ t : State, exec (.serialCharacterRx n d false true true tick) s = .next t ∧
      (t.port n).rx = (s.port n).rx ∧ (t.port n).ovrNext = true ∧
      t.fld .SER_CNT_overrun n = min (s.fld .SER_CNT_overrun n + 1) (2 ^ Fld.width .SER_CNT_overrun - 1)) ∧
    (∃ t : State, exec (.serialCharacterRx n d true true true tick) s = .next t ∧
      t.port n = { s.port n with rxEnd := max (s.port n).rxEnd tick } ∧
      t.fld .SER_CNT_false_start n = min (s.fld .SER_CNT_false_start n + 1) (2 ^ Fld.width .SER_CNT_false_start - 1)) ∧
    ((s.port n).rx.length < 64 → ∃ t : State, exec (.serialCharacterRx n d false true false tick) s = .next t ∧
      (t.port n).armed = false ∧
      (t.port n).rx = (s.port n).rx ++ [d % 256 + 1024 + 2048 * b2n (d % 256 == 0)] ∧
      t.fld .SER_CNT_frm_err n = min (s.fld .SER_CNT_frm_err n + 1) (2 ^ Fld.width .SER_CNT_frm_err - 1))) ∧
  (∀ (s : State) (n : Nat), ((s.port n).armed = true → exec (.framingRearm n) s = .next s) ∧
    ((s.port n).armed = false → ∃ t : State, exec (.framingRearm n) s = .next t ∧ t.port n = { s.port n with armed := true } ∧
      t.tick = max s.tick ((s.port n).rxEnd + (s.port n).chars (s.port n).rxDiv 1) ∧
      FldsKept [(.SER_STATUS_rx_level, n), (.SER_STATUS_tx_level, n), (.SER_STATUS_div_pending, n)] s t)) ∧
  (∀ (s : State) (n : Nat), ((s.port n).messages = false → exec (.serialGapClose n) s = .next s) ∧
    ((s.port n).messages = true → (s.port n).rx = [] → (s.port n).ready = [] → (s.port n).run ≠ [] →
      ((s.port n).run.any badChar = true → ∃ t : State, exec (.serialGapClose n) s = .next t ∧ (t.port n).run = [] ∧
        (t.port n).ready = [] ∧
        t.fld .SER_CNT2_msg_bad n = min (s.fld .SER_CNT2_msg_bad n + 1) (2 ^ Fld.width .SER_CNT2_msg_bad - 1)) ∧
      ((s.port n).run.any badChar = false → exec (.serialGapClose n) s = .next
        ((({ s with tick := max s.tick ((s.port n).rxEnd + (s.port n).halfBits (s.port n).rxDiv 1
            + (s.port n).chars (s.port n).rxDiv (((s.port n).item.map (·.gap)).getD 0)) } : State).setPort n { s.port n with run := [], ready := [(s.port n).run.map (fun c => byte c)] }).giveSerial 64 n)))) ∧
  (∀ (s : State) (n c : Nat) (l : List Nat), (s.port n).tx = c :: l → (s.port n).swap = none → (s.port n).txPend = false →
    s.dlv.done = [] → ∃ t : State, exec (.serialCharacterTx n) s = .next t ∧ (t.port n).shift = some c ∧
      (t.port n).tx = l ++ (s.port n).out.take (64 - l.length) ∧ (t.port n).out = (s.port n).out.drop (64 - l.length) ∧
      (t.port n).rx = (s.port n).rx ∧ t.fld .SER_STATUS_de n = 1) ∧
  (∀ (s : State) (n : Nat), ((s.port n).tx ≠ [] → exec (.deRelease n) s = .next s ∧ exec (.oscStop n) s = .next s) ∧
    (s.fld .SER_STATUS_de n = 0 → exec (.deRelease n) s = .next s) ∧
    ((s.port n).tx = [] → (s.port n).swap = none → s.fld .SER_STATUS_de n = 1 → ∃ t : State, exec (.deRelease n) s = .next t ∧
      t.tick = max s.tick ((s.port n).txEnd
        + (s.port n).halfBits (s.port n).txDiv (2 * (((s.port n).item.map (fun i => i.de / 16)).getD 0))) ∧
      t.port n = { s.port n with shift := none } ∧ t.fld .SER_STATUS_de n = 0 ∧
      FldsKept [(.SER_STATUS_rx_level, n), (.SER_STATUS_tx_level, n), (.SER_STATUS_div_pending, n), (.SER_STATUS_de, n)] s t) ∧
    ((s.port n).classF = true → (s.port n).shift = none → (s.port n).tx = [] → s.fld .SER_STATUS_osc_on n = 1 →
      exec (.oscStop n) s = .next (({ s with tick := max s.tick (max (s.port n).rxEnd ((s.port n).emptyAt
        + (s.port n).chars (s.port n).txDiv (((s.port n).item.map (·.oscHold)).getD 0))) } : State).setFlag
          .SER_STATUS_osc_on n false))) ∧
  (∀ (s : State) (c : Cmd) (n : Nat), s.Takes c → n ≤ 7 → c.pnl = 0 ∨ s.portOwner n = c.pnl →
    exec (.serQuery c n) s = .next (s.answer c 0x4001 ⟨.ok, (s.serWords n).flatMap (le 4)⟩) ∧
    ((s.port n).func = 0 → exec (.serFlush c n 3) s = .next (s.deliverDone.answer c 0x4002 (rsp .badState))) ∧
    ((s.port n).func ≠ 0 → s.dlv.done = [] → ∃ t : State, exec (.serFlush c n 3) s = .next (t.answer c 0x4002 (rsp .ok)) ∧
      t.port n = { s.port n with
        rx := [], run := [], ready := [], ovrNext := false, tx := [], out := []
        emptyAt := if (s.port n).tx = [] then (s.port n).emptyAt else s.tick } ∧
      t.fld .SER_STATUS_rx_level n = 0 ∧ t.fld .SER_STATUS_tx_level n = 0))

/-- The contact rows (chapter 14). -/
def Obligations.ContactsDebounceAndFollowCommands : Prop :=
  (∀ (s : State) (i tick : Nat) (h : Bool), i ≤ 15 → ∃ t : State, exec (.contactInputEdge i h tick) s = .next t ∧
    bit (t.fld .CMD_IN_STATE_pin 0) i = h ∧ t.tick = max s.tick tick ∧
    (s.isInput i = true → xor h ((s.contact i).any (·.invert)) = s.inputOn i → tfind i t.cmd.edges = none) ∧
    (s.isInput i = true → xor h ((s.contact i).any (·.invert)) ≠ s.inputOn i → s.fld .CMD_CT_CFG_debounce i ≠ 0 →
      tfind i t.cmd.edges = some (h, tick) ∧ FldsKept [(.CMD_IN_STATE_pin, 0)] s t)) ∧
  (∀ (s : State) (i tk : Nat) (h : Bool) (c : ContactItem), i ≤ 15 → s.contact i = some c → c.function = 1 →
    tfind i s.cmd.edges = some (h, tk) → xor h c.invert ≠ s.inputOn i →
    ∃ t : State, exec (.contactChangeAccepted i) s = .next t ∧ t.inputOn i = xor h c.invert ∧ tfind i t.cmd.edges = none ∧
      (t.group c.group).seq = ((s.group c.group).seq + 1) % 65536 ∧ ∀ g : Nat, g ≠ c.group → t.group g = s.group g) ∧
  (∀ (s : State) (i : Nat), tfind i s.cmd.edges = none → exec (.contactChangeAccepted i) s = .next s) ∧
  (∀ (s : State) (g : Nat) (i : GroupItem), s.groupItem g = some i → (s.group g).built = true → i.refreshMs ≠ 0 →
    ∃ t : State, exec (.commandRefresh g) s = .next t ∧ (t.group g).seq = (s.group g).seq ∧
      (t.group g).sentAt = max s.tick ((s.group g).sentAt + i.refreshMs * 200000) ∧
      t.cmd.outs = s.cmd.outs) ∧
  (∀ (s : State) (g : Nat) (m : List Byte), g < 16 →
    (m.length ≠ 8 ∨ beAt m 0 1 ≠ 0xC1 ∨ beAt m 1 1 ≠ 1 → exec (.commandMessage g m) s = .next (s.bump .CMD_CNT_cmd_bad 0)) ∧
    (m.length = 8 → beAt m 0 1 = 0xC1 → beAt m 1 1 = 1 →
      (∀ q : Nat, (s.group g).rxSeq = some q → 32768 ≤ (beAt m 2 2 + 65536 - q) % 65536 →
        exec (.commandMessage g m) s = .next (s.bump .CMD_CNT_cmd_stale 0)) ∧
      (∀ o : ContactItem, (s.group g).rxSeq = none → s.groupOutputs g = [o] → bit (beAt m 4 2) o.bitpos = true → o.mode ≠ 1 →
        o.contact < 16 → ∃ t : State, exec (.commandMessage g m) s = .next t ∧ (t.group g).rxSeq = some (beAt m 2 2) ∧
          (t.outPin o.contact).active = bit (beAt m 6 2) o.bitpos ∧ (t.outPin o.contact).watched = false ∧
          (t.outPin o.contact).forced = (s.outPin o.contact).forced ∧
          bit (t.fld .CMD_OUT_STATE_active 0) o.contact
            = ((s.outPin o.contact).forced.getD (bit (beAt m 6 2) o.bitpos)) ∧
          FldsKept [(.CMD_OUT_STATE_active, 0), (.CMD_OUT_STATE_forced, 0)] s t))) ∧
  (∀ (s : State) (i : Nat) (c : ContactItem), s.contact i = some c → i < 16 → c.function = 2 →
    (c.mode = 0 → c.watchMs ≠ 0 → (s.outPin i).watched = false → (s.group c.group).seen = true →
      ∃ t : State, exec (.cmdWatch i) s = .next t ∧
        t.tick = max s.tick ((s.group c.group).rxAt + c.watchMs * 200000) ∧ t.outPin i = { s.outPin i with active := false, watched := true } ∧
        t.fld .CMD_CNT_watch_exp 0 = min (s.fld .CMD_CNT_watch_exp 0 + 1) (2 ^ Fld.width .CMD_CNT_watch_exp - 1) ∧
        FldsKept ([(.CMD_OUT_STATE_active, 0), (.CMD_OUT_STATE_forced, 0), (.CMD_CNT_watch_exp, 0)] ++ logFlds) s t) ∧
    ((s.outPin i).pulse = false → exec (.pulseEnd i) s = .next s) ∧
    ((s.outPin i).pulse = true → ∃ t : State, exec (.pulseEnd i) s = .next t ∧
      t.tick = max s.tick ((s.outPin i).pulseAt + c.pulseMs * 200000) ∧ t.outPin i = { s.outPin i with active := false, pulse := false } ∧
      FldsKept [(.CMD_OUT_STATE_active, 0), (.CMD_OUT_STATE_forced, 0)] s t) ∧
    ((s.outPin i).forced = none → exec (.cmdForceEnd i) s = .next s) ∧
    ((s.outPin i).forced ≠ none → ∃ t : State, exec (.cmdForceEnd i) s = .next t ∧ t.tick = max s.tick (s.outPin i).forceEnd ∧
      t.outPin i = { s.outPin i with forced := none, forceEnd := 0 } ∧ bit (t.fld .CMD_OUT_STATE_forced 0) i = false ∧
      bit (t.fld .CMD_OUT_STATE_active 0) i = (s.outPin i).active ∧
      FldsKept ([(.CMD_OUT_STATE_active, 0), (.CMD_OUT_STATE_forced, 0)] ++ logFlds) s t)) ∧
  (∀ (s : State) (c : Cmd) (i : Nat), s.Takes c → i ≤ 15 → c.pnl = 0 ∨ s.contactOwner i = c.pnl →
    exec (.cmdQuery c i) s = .next (s.answer c 0x4101 ⟨.ok,
      le 4 (s.fld .CMD_IN_STATE_asserted 0 + 65536 * s.fld .CMD_IN_STATE_pin 0)
        ++ le 4 (s.fld .CMD_OUT_STATE_active 0 + 65536 * s.fld .CMD_OUT_STATE_forced 0) ++ le 4 (s.contactWord i)⟩) ∧
    (∀ lv ms : Nat, lv ≤ 1 → 1 ≤ ms → ms ≤ 60000 →
      (s.expertOk c.pnl = false → exec (.cmdForce c i lv ms) s = .next (s.answer c 0x4102 (rsp .denied))) ∧
      (s.expertOk c.pnl = true → s.isOutput i = true → ∃ t : State,
        exec (.cmdForce c i lv ms) s = .next (t.answer c 0x4102 (rsp .ok)) ∧
        t.outPin i = { s.outPin i with forced := some (lv == 1), forceEnd := s.tick + ms * 200000 } ∧ bit (t.fld .CMD_OUT_STATE_active 0) i = (lv == 1) ∧
        bit (t.fld .CMD_OUT_STATE_forced 0) i = true ∧
        FldsKept [(.CMD_OUT_STATE_active, 0), (.CMD_OUT_STATE_forced, 0)] s t)) ∧
    (s.isOutput i = true → (s.outPin i).forced = none → exec (.cmdRelease c i) s = .next (s.answer c 0x4103 (rsp .badState))) ∧
    (s.isOutput i = true → (s.outPin i).forced ≠ none → ∃ t : State, exec (.cmdRelease c i) s = .next (t.answer c 0x4103 (rsp .ok)) ∧
      t.outPin i = { s.outPin i with forced := none, forceEnd := 0 }))

/-- The dormant rows (chapter 9). -/
def Obligations.DormantRecordsFollowTheirPartners : Prop :=
  (∀ (s : State) (ch a : Nat) (m : List Byte), m.length ≠ 8 ∨ beAt m 0 1 ≠ 1 ∨ beAt m 1 1 ≠ 1 →
    exec (.sleepReq ch a m) s = .next (s.bump .DLV_EP_CNT_ep_unknown 0)) ∧
  (∀ (s : State) (ch a : Nat) (m : List Byte) (it : DormItem), m.length = 8 → beAt m 0 1 = 1 → beAt m 1 1 = 1 →
    s.dormItem ch = some it → s.recOf ch a = none →
    (s.firstFree = none → ∃ t : State, exec (.sleepReq ch a m) s = .next t ∧ t.drm = s.drm ∧
      t.fld .DRM_MISC_CNT_rec_full 0 = min (s.fld .DRM_MISC_CNT_rec_full 0 + 1) (2 ^ Fld.width .DRM_MISC_CNT_rec_full - 1)) ∧
    (∀ r : Nat, s.firstFree = some r → ∃ t : State, exec (.sleepReq ch a m) s = .next t ∧ (t.drec r).st = .syncing ∧
      (t.drec r).ch = ch ∧ (t.drec r).addr = a ∧ (t.drec r).carrier = it.carrier ∧ (t.drec r).group = s.pickGroup it.groups ∧
      (t.drec r).period = min it.periodMax (max it.periodMin (beAt m 2 2)) ∧ ∀ q : Nat, q ≠ r → t.drec q = s.drec q)) ∧
  (∀ (s : State) (r : Nat), ((s.drec r).st ≠ .syncing ∨ (s.drec r).grantAck = none ∨ (s.drec r).wsSeen = true →
      exec (.syncingTimeout r) s = .next s) ∧
    (∀ k : Nat, (s.drec r).st = .syncing → (s.drec r).grantAck = some k → (s.drec r).wsSeen = false →
      ∃ t : State, exec (.syncingTimeout r) s = .next t ∧ t.drec r = {} ∧ t.tick = max s.tick (s.slotTick (k + 256)) ∧
      (∀ q : Nat, q ≠ r → t.drec q = s.drec q) ∧ FldsKept [(.DRM_STATUS_rec_used, 0)] s t)) ∧
  (∀ (s : State) (r : Nat) (w : Nat × Nat), (s.drec r).st = .dormant →
    (s.listenWindow (s.drec r) = some w → (s.drec r).winOpen = none ∨ (s.drec r).closed = true →
      ∃ t : State, exec (.listenWindowOpen r) s = .next t ∧ t.tick = max s.tick w.1 ∧
      t.drec r = { s.drec r with winOpen := some w, kept := false, closed := false } ∧
      FldsKept [(.DRM_STATUS_rec_used, 0)] s t) ∧
    ((s.drec r).winOpen = none ∨ (s.drec r).closed = true → exec (.listenWindowClose r) s = .next s) ∧
    ((s.drec r).winOpen = some w → (s.drec r).closed = false → ∃ t : State, exec (.listenWindowClose r) s = .next t ∧
      t.tick = max s.tick w.2 ∧ (t.drec r).closed = true ∧
      ((s.drec r).kept = true → (t.drec r).misses = (s.drec r).misses ∧ FldsKept [(.DRM_STATUS_rec_used, 0)] s t) ∧
      ((s.drec r).kept = false → (t.drec r).misses = (s.drec r).misses + 1 ∧
        (t.drec r).st = (if ((s.dormItem (s.drec r).ch).map (·.missLimit)).getD 1 ≤ (s.drec r).misses + 1 then .waking else .dormant) ∧
        t.fld .DRM_RDV_CNT_rdv_miss 0 = min (s.fld .DRM_RDV_CNT_rdv_miss 0 + 1) (2 ^ Fld.width .DRM_RDV_CNT_rdv_miss - 1) ∧
        FldsKept [(.DRM_STATUS_rec_used, 0), (.DRM_RDV_CNT_rdv_miss, 0), (.DRM_TONE_CNT_tones, 0)] s t))) ∧
  (∀ (s : State) (ch : Nat) (f : RxFrame), s.heard ch (fun fc => fc.typ == 6) = some f → s.chState ch ≠ chLive →
    (f.fc.link ≠ s.fld .CHN_CFG_link_id ch ∨ f.fc.dst ≠ s.ownAddr ch ∨ s.chState ch = chOff →
      exec (.wakeSyncRx ch) s = .next (s.takeHeard ch f)) ∧
    (f.fc.typ = 6 → f.fc.ver = 0 → f.fc.link = s.fld .CHN_CFG_link_id ch → f.fc.dst = s.ownAddr ch → wsDir f.fc.body = 0 →
      s.fld .CHN_STATUS_role ch = 0 → s.chState ch ≠ chOff → s.chState ch ≠ chFault → s.isBanned ch f.fc.src = false →
      wsKind f.fc.body ≠ 3 →
      (s.recOf ch f.fc.src = none → ∃ t : State, exec (.wakeSyncRx ch) s = .next t ∧ t.drm.recs = s.drm.recs ∧
        t.fld .DRM_MISC_CNT_ws_unknown 0
          = min (s.fld .DRM_MISC_CNT_ws_unknown 0 + 1) (2 ^ Fld.width .DRM_MISC_CNT_ws_unknown - 1) ∧
        FldsKept [(.DRM_MISC_CNT_ws_unknown, 0)] s t) ∧
      (∀ r : Nat, s.recOf ch f.fc.src = some r → (s.drec r).st ≠ .syncing → wsKind f.fc.body = 1 → ∃ t : State,
        exec (.wakeSyncRx ch) s = .next t ∧
        t.drec r = { s.drec r with bound := (s.drec r).tol * 65536, misses := 0, seqs := 0, toneWait := false } ∧
        FldsKept [(.DRM_STATUS_rec_used, 0), (.DRM_TONE_CNT_tone_wake, 0)] s t))) ∧
  (∀ (s : State) (ch k : Nat) (w : WakeOwe), s.drm.owe.find? (fun w => w.ch == ch) = some w →
    s.effState ch = chArmed ∨ s.effState ch = chTraining ∨ s.effState ch = chLive →
    s.replySlot w = some k → ∃ (t : State) (f : Frame),
      exec (.wakeSyncReply ch) s = .next t ∧ t.drm.owe = s.drm.owe.erase w ∧ t.drm.recs = s.drm.recs ∧
      t.grid.committed = s.grid.committed ++ [f] ∧
      f.ch = ch ∧ f.slot = k ∧ f.kind = .wakeReply ∧ f.fc.typ = 6 ∧ f.fc.dst = w.addr) ∧
  (∀ (s : State) (r : Nat), (s.drec r).st = .waking →
    (let d := s.drec r
     let k := s.grid.slot + s.commitAhead
     let reps := ((s.dormItem d.ch).map (·.toneReps)).getD 1
     (d.toneWait = true → s.drm.tones.any (fun t => t.ch == d.ch) = false → s.dlv.segs = [] → s.dlv.copies = [] →
       s.grid.committed = [] → s.effState d.ch = chLive → s.duplexHeld d.ch k (ceilDiv (toneLen reps) s.ls) = false →
       s.maskedFor d.ch [toneCarrier d.carrier] 0 = false →
       ∃ t : State, exec (.wakeSequenceStart r) s = .next t ∧ (t.drec r).seqs = d.seqs + 1 ∧ (t.drec r).toneWait = false ∧
         t.drm.tones = s.drm.tones ++ [⟨d.ch, r, k, reps, d.carrier, d.group⟩]) ∧
     (d.toneWait = false → d.seqs ≠ 0 → s.drm.tones.any (fun t => t.rix == r) = false → d.seqs < s.fld .DRM_CFG_tone_tries 0 →
       ∃ t : State, exec (.wakeListenExpiry r) s = .next t ∧ t.drec r = { d with toneWait := true }) ∧
     (d.toneWait = false → d.seqs ≠ 0 → s.drm.tones.any (fun t => t.rix == r) = false → s.fld .DRM_CFG_tone_tries 0 ≤ d.seqs →
       ∃ t : State, exec (.wakeListenExpiry r) s = .next t ∧ t.drec r = {} ∧
       t.fld .DRM_MISC_CNT_lost 0 = min (s.fld .DRM_MISC_CNT_lost 0 + 1) (2 ^ Fld.width .DRM_MISC_CNT_lost - 1) ∧
       FldsKept ([(.DRM_STATUS_rec_used, 0), (.DRM_MISC_CNT_lost, 0)] ++ logFlds) s t))) ∧
  (∀ (s : State) (r : Nat), (s.drec r).st = .awake →
    (s.grid.hem < (s.drec r).since + (s.drec r).hold → exec (.awakeHoldExpiry r) s = .next s) ∧
    ((s.drec r).since + (s.drec r).hold ≤ s.grid.hem → ∃ t : State, exec (.awakeHoldExpiry r) s = .next t ∧
      t.drec r = { s.drec r with st := .dormant, misses := 0, winOpen := none, kept := false } ∧
      FldsKept [(.DRM_STATUS_rec_used, 0)] s t)) ∧
  (∀ (s : State) (c : Cmd) (r : Nat), s.Takes c → r < s.recLimit → c.pnl = 0 → s.inForce 9 = true →
    exec (.drmQuery c r) s = .next (s.answer c 0x3001 ⟨.ok, ((recWords (s.drec r)).map (le 4)).flatten⟩) ∧
    ((s.drec r).st = .free → exec (.drmWake c r) s = .next (s.answer c 0x3002 (rsp .badState)) ∧
      exec (.drmRelease c r) s = .next (s.answer c 0x3003 (rsp .badState))) ∧
    ((s.drec r).st ≠ .free → ∃ t : State, exec (.drmRelease c r) s = .next (t.answer c 0x3003 (rsp .ok)) ∧ t.drec r = {} ∧
      FldsKept [(.DRM_STATUS_rec_used, 0)] s t) ∧
    ((s.drec r).st = .dormant ∨ (s.drec r).st = .awake → ∃ t : State, exec (.drmWake c r) s = .next (t.answer c 0x3002 (rsp .ok)) ∧
      (t.drec r).st = .waking ∧ (t.drec r).seqs = 0 ∧ (t.drec r).toneWait = true ∧
      FldsKept [(.DRM_STATUS_rec_used, 0), (.DRM_TONE_CNT_tones, 0)] s t))
/-- The rows of chapters 15 and 20. -/
def Obligations.FailedUnitsAreTakenAway : Prop :=
  (∀ (s : State) (b cause : Nat), ((s.bobbin b).fault = true → exec (.bobbinFault b cause) s = .next s) ∧
    (b ≤ 255 → (s.bobbin b).fault = false → ∃ t : State, exec (.bobbinFault b cause) s = .next t ∧
      t.bobbin b = { s.bobbin b with fencing := some cause } ∧ (∀ x : Nat, x ≠ b → t.bobbin x = s.bobbin x) ∧
      FldsKept [(.BOB_STATUS_working, 0), (.BOB_STATUS_spares, 0)] s t)) ∧
  (∀ (s : State) (b : Nat), (s.bob.moves.contains b = false → exec (.bobMove b) s = .next s) ∧
    (∀ n : Nat, s.bob.moves.contains b = true → s.spare = some n → n ≠ b → ∃ t : State, exec (.bobMove b) s = .next t ∧
      t.bobbin n = { s.bobbin n with role := (s.bobbin b).role, share := (s.bobbin b).share, owner := (s.bobbin b).owner } ∧
      t.bobbin b = { s.bobbin b with role := 0, share := false, owner := [] } ∧ t.bob.moves = s.bob.moves.erase b ∧
      FldsKept ([(.BOB_STATUS_working, 0), (.BOB_STATUS_spares, 0)] ++ logFlds) s t)) ∧
  (∀ (s : State) (c : Cmd), s.Takes c →
    (c.pnl ≠ 0 → exec (.hbmQuery c) s = .next (s.answer c 0x5001 (rsp .denied))) ∧
    (c.pnl = 0 → s.narrow = true → exec (.hbmQuery c) s = .next (s.answer c 0x5001 (rsp .notPresent))) ∧
    (c.pnl = 0 → s.narrow = false → exec (.hbmQuery c) s = .next (s.answer c 0x5001 ⟨.ok,
      le 4 (s.fld .HBM_STATUS_trained 0 + 16 * s.fld .HBM_STATUS_fenced 0 + 32 * s.fld .HBM_STATUS_self_refresh 0
        + 256 * s.fld .HBM_STATUS_temp_max 0) ++ le 4 (s.fld .HBM_ECC_CNT_ce 0 + 2 ^ 24 * s.fld .HBM_ECC_CNT_ue 0)
        ++ le 4 (s.fld .HBM_SCRUB_STATUS_position 0 + 2 ^ 24 * s.fld .HBM_SCRUB_STATUS_passes 0)⟩)) ∧
    (∀ b : Nat, b ≤ 255 → exec (.bobQuery c b) s = .next (s.answer c 0x4201
      (if c.pnl = 0 then ⟨.ok, le 4 (s.bobWord b)⟩ else rsp .denied)))) ∧
  (∀ s : State, (s.flag .HBM_STATUS_fenced 0 = true → exec .memFence s = .next s) ∧
    (s.flag .HBM_STATUS_fenced 0 = false → s.grid.running = true → ∃ (t : State) (l : List SlotChange), exec .memFence s = .next t ∧
      t.fld .HBM_STATUS_fenced 0 = 1 ∧ bit (t.fld .FEAT_OFFER_offer 0) 14 = true ∧
      t.grid.changes = s.grid.changes ++ [.offer 0, .offer 1, .offer 2, .offer 4, .offer 6] ++ l ∧
      (∀ ch : Nat, ch < 192 → s.effState ch ≠ chOff → .state ch chOff 0 ∈ l) ∧
      FldsKept [(.HBM_STATUS_fenced, 0), (.FEAT_OFFER_offer, 0)] s t)) ∧
  (∀ (s : State) (a : Nat), (s.memUp = false → ∀ k : Nat, exec (.hbmUe a k) s = .next s) ∧
    (s.memUp = true → s.hbm.ueHem < 15 → ∃ t : State, exec (.hbmUe a 2) s = .next t ∧ t.hbm.ueHem = s.hbm.ueHem + 1 ∧
      t.fld .HBM_ECC_CNT_ue 0 = min (s.fld .HBM_ECC_CNT_ue 0 + 1) 255 ∧
      t.fld .DLV_EP_CNT_ep_unknown 0 = min (s.fld .DLV_EP_CNT_ep_unknown 0 + 1) (2 ^ Fld.width .DLV_EP_CNT_ep_unknown - 1) ∧
      FldsKept ([(.HBM_ECC_CNT_ue, 0), (.DLV_EP_CNT_ep_unknown, 0)] ++ logFlds) s t)) ∧
  (∀ (s : State) (pc : Nat), pc ≤ 127 → s.memUp = true → ∃ t : State, exec (.hbmRecalibration pc) s = .next t ∧
    tget 0 pc t.hbm.calAt = s.tick ∧ t.fld .HBM_MISC_CNT_cal_late 0
      = (if tget 0 pc s.hbm.calAt + 2 * s.fld .HBM_SCRUB_CFG_cal_s 0 * 200000000 < s.tick then
          min (s.fld .HBM_MISC_CNT_cal_late 0 + 1) 255 else s.fld .HBM_MISC_CNT_cal_late 0) ∧
    FldsKept [(.HBM_MISC_CNT_cal_late, 0)] s t) ∧
  (∀ s : State, (s.hbm.staged.length < logChunk → ∀ ok : Bool, exec (.logFlashWrite ok) s = .next s) ∧
    (s.ldr.storing = none → logChunk ≤ s.hbm.staged.length →
      (∃ (t : State) (k : Nat), exec (.logFlashWrite true) s = .next t ∧ t.hbm.staged = s.hbm.staged.drop logChunk ∧
        t.hbm.flash = (s.hbm.flash ++ s.hbm.staged.take logChunk).drop k ∧ t.hbm.erases = s.hbm.erases + 1 ∧ t.regs = s.regs) ∧
      ∃ t : State, exec (.logFlashWrite false) s = .next t ∧ t.hbm.spares = s.hbm.spares + 1 ∧ t.hbm.flash = s.hbm.flash ∧
        t.fld .HBM_MISC_CNT_retired 0 = min 4095 (s.fld .HBM_MISC_CNT_retired 0 + 1) ∧
        FldsKept ((.HBM_MISC_CNT_retired, 0) :: logFlds) s t)) ∧
  (∀ (s : State) (p : Nat), (23 < p → exec (.pipeFence p) s = .next s) ∧
    (p ≤ 23 → ∃ (t : State) (l : List SlotChange), exec (.pipeFence p) s = .next t ∧ t.fld .PIPE_STATUS_fenced p = 1 ∧
      t.grid.changes = s.grid.changes ++ l ∧
      (∀ ch : Nat, 8 * p ≤ ch → ch < 8 * p + 8 → s.effState ch ≠ chOff → (s.chanItem ch).isSome = true → .state ch chFault 5 ∈ l) ∧
      FldsKept [(.PIPE_STATUS_fenced, p)] s t)) ∧
  (∀ (s : State) (pool unit : Nat), pool ≤ 1 → unit ≤ (if pool = 0 then 47 else 31) →
    exec (.codUnitFenced pool unit) s
      = .next (if s.isFenced (blkVit + pool) unit then s else
          if s.grid.running then s.request (.decUnits pool unit) else s.fenceUnit pool unit)) ∧
  (∀ (s : State) (p : Nat), p ≤ 1 → (s.host.failed.contains p = true → exec (.hostPortFail p) s = .next s) ∧
    (s.host.failed.contains p = false → s.grid.running = true → ∃ t : State, exec (.hostPortFail p) s = .next t ∧ t.linkUp p = false ∧
      t.host.failed = s.host.failed ++ [p] ∧ t.grid.changes = s.grid.changes ++ [.offer 11] ∧
      FldsKept [(.HST_PORT_STATUS_link_up, p), (.HST_PORT_STATUS_fec_lock, p), (.HST_PORT_STATUS_an_done, p)] s t))

/-- The event and telemetry rows (chapter 20). -/
def Obligations.EventsAndSnapshotsAreRead : Prop :=
  (∀ (s : State) (c : Cmd), s.Takes c →
    (∀ (i : Nat) (e : Ev), (s.evFrom (s.fld .EVT_PNL_RD_rd c.pnl)).find? (fun e => evFor c.pnl e.2) = some (i, e) →
      ∃ t : State, exec (.evtRead c) s = .next (t.answer c 0x6001 ⟨.ok, evBytes e⟩) ∧
        t.fld .EVT_PNL_RD_rd c.pnl = (i + 1) % 8192 ∧ FldsKept [(.EVT_PNL_RD_rd, c.pnl)] s t) ∧
    ((s.evFrom (s.fld .EVT_PNL_RD_rd c.pnl)).find? (fun e => evFor c.pnl e.2) = none →
      ∃ t : State, exec (.evtRead c) s = .next (t.answer c 0x6001 ⟨.ok, []⟩) ∧ FldsKept [(.EVT_PNL_RD_rd, c.pnl)] s t) ∧
    (∀ sev irq : Nat, 3 < sev → exec (.evtCfg c sev irq) s = .next (s.answer c 0x6002 (rsp .badArg))) ∧
    (∀ sev irq : Nat, sev ≤ 3 → irq ≤ 3 → ∃ t : State, exec (.evtCfg c sev irq) s = .next (t.answer c 0x6002 (rsp .ok)) ∧
      t.fld .EVT_PNL_CFG_sev_min c.pnl = sev ∧ t.flag .EVT_PNL_CFG_irq_ev c.pnl = bit irq 0 ∧
      t.flag .EVT_PNL_CFG_irq_rsp c.pnl = bit irq 1 ∧
      FldsKept [(.EVT_PNL_CFG_sev_min, c.pnl), (.EVT_PNL_CFG_irq_ev, c.pnl), (.EVT_PNL_CFG_irq_rsp, c.pnl)] s t) ∧
    (c.pnl ≠ 0 → exec (.telSnap c) s = .next (s.answer c 0x7001 (rsp .denied))) ∧
    (c.pnl = 0 → s.mgmt.snapPend = true → exec (.telSnap c) s = .next (s.answer c 0x7001 (rsp .busy))) ∧
    (c.pnl = 0 → s.mgmt.snapPend = false → exec (.telSnap c) s
      = .next (({ s with mgmt := { s.mgmt with snapPend := true } } : State).answer c 0x7001 (rsp .ok))) ∧
    (∀ (back w n : Nat) (x : Snap), c.pnl = 0 → 1 ≤ n → n ≤ 6 → s.narrow = false → s.mgmt.snaps[back]? = some x →
      w + n ≤ telWords → exec (.telRead c back w n) s = .next (s.answer c 0x7002
        ⟨.ok, (List.range n).flatMap (fun k => le 4 (snapWord x (w + k)))⟩))) ∧
  (∀ s : State, (s.snapDue = false → exec .telemetrySnapshot s = .next s) ∧
    (s.snapDue = true → s.isSealed = true → s.grid.running = true → s.narrow = false →
      ∃ (t : State) (x : Snap) (n : Nat), exec .telemetrySnapshot s = .next t ∧ t.mgmt.snapWr = some (x, n) ∧
        x.seq = s.mgmt.snapSeq ∧ x.hem = s.grid.hem ∧ x.tick = s.tick ∧ x.accs = s.tel ∧ t.mgmt.snapPend = false ∧
        t.mgmt.snapSeq = (s.mgmt.snapSeq + 1) % 2 ^ 32 ∧
        t.fld .TEL_CNT_tel_drop 0 = (if s.mgmt.snapWr.isSome then
          min (s.fld .TEL_CNT_tel_drop 0 + 1) (2 ^ Fld.width .TEL_CNT_tel_drop - 1) else s.fld .TEL_CNT_tel_drop 0) ∧
        FldsKept [(.TEL_CNT_tel_drop, 0)] s t))

/-- The security rows that hold keys and images (chapter 16). -/
def Obligations.SecurityCommandsKeepImagesAndKeys : Prop :=
  (∀ (s : State) (c : Cmd), s.Takes c →
    exec (.secQuery c) s = .next (s.answer c 0x0401 ⟨.ok, le 4 s.secStatusWord
      ++ le 4 (s.fld .SEC_ROLLBACK_fw_level 0 + 256 * s.fld .SEC_ROLLBACK_pat_level 0) ++ le 8 s.fuseId⟩) ∧
    (c.pnl ≠ 0 → exec (.secEnrol c []) s = .next (s.answer c 0x0403 (rsp .denied)) ∧
      exec (.secFwCommit c []) s = .next (s.answer c 0x0405 (rsp .denied))) ∧
    (∀ (off : Nat) (l : List Byte), c.pnl = 0 → 1 ≤ l.length → l.length ≤ 52 → off + l.length ≤ 65536 → s.sec.report = false →
      (let n := max s.sec.stageLen (off + l.length)
       let x : SecSt := { s.sec with stage := memStores s.sec.stage off l, stageLen := n, report := false }
       exec (.secStage c off l) s = .next (({ s with sec := x } : State).answer c 0x0402 (rsp .ok)))) ∧
    (c.pnl = 0 → s.inBand 0 = false → s.sec.owners.length = 4 → memBe s.sec.stage 0 4 = 0x47575945 → memBe s.sec.stage 4 1 = 1 →
      memBe s.sec.stage 5 3 = 0 → memBe s.sec.stage 1809 3 = 0 → memBe s.sec.stage 8 8 = s.fuseId →
      (s.owned = true → exec (.secEnrol c []) s = .next (s.answer c 0x0403 (rsp .badState))) ∧
      (∀ i : Nat, s.owned = false → s.freeOwner 0 = some i → ∃ t : State, exec (.secEnrol c []) s = .next (t.answer c 0x0403 (rsp .ok)) ∧
        t.ownerSlot = some i ∧ t.sec.ownerPk = memSlice s.sec.stage 16 1793 ∧ t.fld .SEC_STATUS_owned 0 = 1 ∧
        t.fld .SEC_STATUS_slot 0 = i ∧ FldsKept [(.SEC_STATUS_owned, 0), (.SEC_STATUS_slot, 0)] s t)) ∧
    (∀ l : List Byte, c.pnl = 0 → 5 ≤ l.length → l.length ≤ 56 → leAt l 0 4 + (l.length - 4) ≤ 2 ^ 26 →
      ∃ t : State, exec (.secFwWrite c l) s = .next (t.answer c 0x0404 (rsp .ok)) ∧
        tget {} s.fwOther t.sec.parts
          = ⟨memStores (if s.sec.fwErased then (tget {} s.fwOther s.sec.parts).bytes else []) (leAt l 0 4) (l.drop 4), false⟩ ∧
        tget {} s.sec.fwRun t.sec.parts = tget {} s.sec.fwRun s.sec.parts ∧ t.regs = s.regs) ∧
    (c.pnl = 0 → ∃ t : State, exec (.secFwCommit c []) s = .next (t.answer c 0x0405
        (rsp (if s.imageOk (tget {} s.fwOther s.sec.parts).bytes then .ok else .denied))) ∧
      (tget {} s.fwOther t.sec.parts).valid = s.imageOk (tget {} s.fwOther s.sec.parts).bytes ∧
      (tget {} s.fwOther t.sec.parts).bytes = (tget {} s.fwOther s.sec.parts).bytes ∧
      tget {} s.sec.fwRun t.sec.parts = tget {} s.sec.fwRun s.sec.parts ∧ t.regs = s.regs) ∧
    (c.pnl = 0 → memBe s.fwImage 16 4 ≤ 64 →
      exec (.secRollbackAdvance c [0]) s = .next (if s.fld .SEC_ROLLBACK_fw_level 0 < memBe s.fwImage 16 4 then
        (s.setFld .SEC_ROLLBACK_fw_level 0 (memBe s.fwImage 16 4)).answer c 0x0406 (rsp .ok)
        else s.answer c 0x0406 (rsp .badState))) ∧
    (∀ l : List Byte, l.length = 32 → ∃ t : State, exec (.secAttest c l) s = .next (t.answer c 0x0407 (rsp .ok)) ∧
      t.sec.report = true ∧ t.sec.stageLen = 4708 ∧ t.regs = s.regs ∧
      t.sec.stage = memStores [] 0 (s.attestBody l ++ slice (Config.falconSign s.sec.secret (Config.shake256 (s.attestBody l))) 0 1280
        ++ slice s.sec.cert 0 3100)) ∧
    (∀ l : List Byte, l.length = 3 → 1 ≤ leAt l 2 1 → leAt l 2 1 ≤ 24 → leAt l 0 2 + leAt l 2 1 ≤ s.sec.stageLen →
      exec (.secRead c l) s = .next (s.answer c 0x0408 ⟨.ok, memSlice s.sec.stage (leAt l 0 2) (leAt l 2 1)⟩)) ∧
    (∀ l : List Byte, l.length = 33 → leAt l 0 1 ≤ 3 →
      (s.right c.pnl 4 = false → exec (.secKeySet c l) s = .next (s.answer c 0x040B (rsp .denied))) ∧
      (s.right c.pnl 4 = true → s.slotInUse c.pnl (leAt l 0 1) = false → ∃ t : State,
        exec (.secKeySet c l) s = .next (t.answer c 0x040B (rsp .ok)) ∧ t.regs = s.regs ∧
        t.linkKey c.pnl (leAt l 0 1) = some ⟨l.drop 1, 0⟩ ∧
        ∀ p k : Nat, k ≤ 3 → (p, k) ≠ (c.pnl, leAt l 0 1) → t.linkKey p k = s.linkKey p k)) ∧
    (∀ l : List Byte, l.length = 1 → leAt l 0 1 ≤ 3 → s.right c.pnl 4 = true →
      (s.slotInUse c.pnl (leAt l 0 1) = true → exec (.secKeyClear c l) s = .next (s.answer c 0x040D (rsp .badState))) ∧
      (s.slotInUse c.pnl (leAt l 0 1) = false → ∃ t : State, exec (.secKeyClear c l) s = .next (t.answer c 0x040D (rsp .ok)) ∧
        t.linkKey c.pnl (leAt l 0 1) = none ∧ t.regs = s.regs)) ∧
    (∀ l : List Byte, l.length = 2 → leAt l 0 1 ≤ 191 → s.mayName c.pnl (leAt l 0 1) = true →
      (leAt l 1 1 = 0xFF → ∃ t : State, exec (.secKeyTx c l) s = .next (t.answer c 0x040C (rsp .ok)) ∧
        t.txSlot (leAt l 0 1) = none ∧ t.regs = s.regs) ∧
      (∀ o : Nat, leAt l 1 1 ≤ 3 → s.owner (leAt l 0 1) = some o → (s.linkKey o (leAt l 1 1)).isSome = true →
        ∃ t : State, exec (.secKeyTx c l) s = .next (t.answer c 0x040C (rsp .ok)) ∧
          t.txSlot (leAt l 0 1) = some (leAt l 1 1) ∧ t.regs = s.regs)) ∧
    (∀ l : List Byte, l.length = 33 → leAt l 0 1 ≤ 15 →
      (leAt l 0 1 ≠ c.pnl → c.pnl ≠ 0 → exec (.secOhiKey c l) s = .next (s.answer c 0x040E (rsp .denied))) ∧
      (leAt l 0 1 = c.pnl → ∃ t : State, exec (.secOhiKey c l) s = .next (t.answer c 0x040E (rsp .ok)) ∧
        tfind c.pnl t.sec.ohiKeys = some (l.drop 1) ∧ tget 0 c.pnl t.sec.ohiSeq = 0 ∧ t.regs = s.regs)))

/-- TAMPER_OPEN, TAMPER_LOOP_CLOSED, SEC_TAMPER_CLEAR and the debug rows. -/
def Obligations.TamperAndDebugFollowTheirRules : Prop :=
  (∀ s : State, (s.flag .SEC_STATUS_loop_open 0 = true → exec .tamperOpen s = .next s) ∧
    (s.flag .SEC_STATUS_loop_open 0 = false → s.fld .SEC_CFG_tamper_mode 0 = 1 → ∃ t : State, exec .tamperOpen s = .next t ∧
      t.fld .SEC_STATUS_loop_open 0 = 1 ∧ t.fld .SEC_STATUS_tamper 0 = 1 ∧ t.fld .GLB_STATUS_tamper 0 = 1 ∧
      t.sec.keys = [] ∧ t.sec.ohiKeys = [] ∧ t.fld .SEC_STATUS_debug_open 0 = 0 ∧ t.fld .SEC_STATUS_scope 0 = 0 ∧
      FldsKept ([(.SEC_STATUS_loop_open, 0), (.SEC_STATUS_tamper, 0), (.GLB_STATUS_tamper, 0), (.SEC_STATUS_debug_open, 0),
        (.SEC_STATUS_scope, 0)] ++ logFlds) s t)) ∧
  (∀ s : State, exec .tamperLoopClosed s = .next (s.setFlag .SEC_STATUS_loop_open 0 false)) ∧
  (∀ s : State, (s.flag .SEC_STATUS_debug_open 0 = false → exec .debugClose s = .next s) ∧
    (s.flag .SEC_STATUS_debug_open 0 = true → ∃ t : State, exec .debugClose s = .next t ∧ t.fld .SEC_STATUS_debug_open 0 = 0 ∧
      t.fld .SEC_STATUS_scope 0 = 0 ∧ t.tick = max s.tick s.sec.debugEnd ∧
      FldsKept [(.SEC_STATUS_debug_open, 0), (.SEC_STATUS_scope, 0)] s t)) ∧
  (∀ (s : State) (c : Cmd), s.Takes c →
    (c.pnl = 0 → s.flag .SEC_STATUS_loop_open 0 = true → exec (.secTamperClear c []) s = .next (s.answer c 0x040F (rsp .badState))) ∧
    (c.pnl = 0 → s.flag .SEC_STATUS_loop_open 0 = false → ∃ t : State,
      exec (.secTamperClear c []) s = .next (t.answer c 0x040F (rsp .ok)) ∧ t.fld .SEC_STATUS_tamper 0 = 0 ∧
      t.fld .GLB_STATUS_tamper 0 = 0 ∧ t.sec.tamperOff = false ∧
      FldsKept [(.SEC_STATUS_tamper, 0), (.GLB_STATUS_tamper, 0)] s t) ∧
    (c.pnl ≠ 0 ∨ s.flag .SEC_STATUS_debug_lock 0 = true ∨ s.owned = false →
      exec (.secDebugChallenge c []) s = .next (s.answer c 0x0409 (rsp .denied))) ∧
    (c.pnl = 0 → s.flag .SEC_STATUS_debug_lock 0 = false → s.owned = true → ∃ (t : State) (x : List Byte),
      exec (.secDebugChallenge c []) s = .next (t.answer c 0x0409 ⟨.ok, x⟩) ∧ x.length = 24 ∧
      t.sec.chal = some (x, s.tick) ∧ t.regs = s.regs) ∧
    (c.pnl = 0 →
      (let m := s.sec.stage
       let good : Bool := memBe m 0 4 == 0x47575944 && decide (memBe m 4 1 < 8) && memBe m 5 3 == 0 && decide (1 ≤ memBe m 8 4) &&
         decide (memBe m 8 4 ≤ 86400) && memBe m 12 8 == s.fuseId && !s.flag .SEC_STATUS_debug_lock 0 &&
         s.sec.chal.any (fun x => x.1 == memSlice m 20 24 && decide (s.tick ≤ x.2 + secTicks 60)) &&
         s.ownerKey.any (fun k => Config.falconVerify k (Config.shake256 (memSlice m 0 44)) (memSlice m 44 1280))
       ∃ t : State, exec (.secDebugOpen c []) s = .next (t.answer c 0x040A (rsp (if good then .ok else .denied))) ∧ t.sec.chal = none ∧
         t.fld .SEC_CNT2_debug_deny 0
           = (if good then s.fld .SEC_CNT2_debug_deny 0 else min (s.fld .SEC_CNT2_debug_deny 0 + 1) 255) ∧
         t.fld .SEC_STATUS_debug_open 0 = (if good then 1 else s.fld .SEC_STATUS_debug_open 0) ∧
         t.fld .SEC_STATUS_scope 0 = (if good then memBe m 4 1 else s.fld .SEC_STATUS_scope 0) ∧
         t.sec.debugEnd = (if good then s.tick + secTicks (memBe m 8 4) else s.sec.debugEnd) ∧
         t.sec.keys = (if good && bit (memBe m 4 1) 2 then [] else s.sec.keys) ∧
         FldsKept ([(.SEC_STATUS_debug_open, 0), (.SEC_STATUS_scope, 0), (.SEC_CNT2_debug_deny, 0)] ++ logFlds) s t)))

/-- The source rows, POWER_ON and the RST commands (chapter 17). -/
def Obligations.ResetSourcesActAtTheirLevel : Prop :=
  (∀ (c : Instr) (i : Nat) (s : State), (c = .brownOut ∧ i = 1 ∨ c = .resetNLow ∧ i = 2 ∨
      (∃ d : Nat, d ≤ 4 ∧ c = .watchdogExpiry d ∧ i = 3 + d) ∨ c = .clockFailure ∧ i = 0xA ∨ c = .lockUp ∧ i = 0xB ∨
      c = .dbgReqNLow ∧ i = 9 ∧ s.flag .SEC_STATUS_debug_open 0 = true ∧ bit (s.fld .SEC_STATUS_scope 0) 0 = true) →
    (s.rst.pwr = .keep → exec c s = .next s) ∧
    (s.rst.pwr ≠ .keep → s.rst.off = false →
      (s.mapOf i = 0 → exec c s = .next (((s.markSource i).bump .RST_CNT_event_cnt 0).note 0x0101 i)) ∧
      (0 < s.mapOf i → s.mapOf i ≤ s.resetLevel → exec c s = .next (s.markSource i)) ∧
      (s.mapOf i = 1 → s.resetLevel = 0 → s.loader = 4 → exec c s
        = .next ((s.markSource i).updRst (fun r => { r with waiting := r.waiting ++ [i] }))) ∧
      (s.mapOf i = 1 → s.resetLevel = 0 → s.loader ≠ 4 → ∃ t : State, exec c s = .next t ∧ t.rst.level = some 1 ∧
        t.dlv.segs = [] ∧ t.grid.committed = [] ∧ t.ola.pairs = []) ∧
      (s.mapOf i = 2 → s.resetLevel < 2 → ∃ t : State, exec c s = .next t ∧ t.rst.level = some 2 ∧ t.rst.boot = 1 ∧
        t.fld .RST_CAUSE_level 0 = 2 ∧ t.fld .RST_CAUSE_from_keep 0 = 0 ∧ t.full = none ∧ t.chans = [] ∧ t.sec.keys = [] ∧
        t.sec.owners = s.sec.owners ∧ t.pending = s.pending) ∧
      (s.mapOf i = 3 → s.resetLevel < 3 → ∃ t : State, exec c s = .next t ∧ t.rst.level = some 3 ∧ t.rst.boot = 1 ∧
        t.fld .RST_CAUSE_sources 0 = 2 ^ i ∧ t.fld .RST_CAUSE_level 0 = 3 ∧ t.full = none ∧ t.chans = [] ∧ t.sec.keys = [] ∧
        t.tick = 0 ∧ t.mgmt.ring = [] ∧ t.sec.owners = s.sec.owners ∧ t.pending = s.pending ∧
        (RegsSorted s.regs → ∀ (F : Fld) (j : Nat), (F, j) ≠ (.RST_CAUSE_sources, 0) → (F, j) ≠ (.RST_CAUSE_level, 0) →
          t.fld F j = if fixedFld F then s.fld F j else F.resetAt j)))) ∧
  (∀ s : State, s.flag .SEC_STATUS_debug_open 0 = false → exec .dbgReqNLow s = .next s) ∧
  (∀ (s : State) (b m : Nat), b < 4 → m < 16 → ∃ t : State, exec (.powerOn b m) s = .next t ∧ t.rst.level = some 3 ∧
    t.fld .RST_CAUSE_sources 0 = 1 ∧ t.fld .RST_CAUSE_level 0 = 3 ∧ t.fld .PWR_STRAPS_boot_sel 0 = b ∧
    t.fld .PWR_STRAPS_mod_addr 0 = m ∧ t.fld .PWR_STRAPS_straps_valid 0 = 1 ∧ t.rst.off = false ∧ t.full = none ∧
    t.pending = s.pending) ∧
  (∀ s : State, (s.rst.soft = none → exec .softwareResetAssert s = .next s) ∧
    (∀ t0 : Nat, s.rst.soft = some (3, t0) → s.rst.pwr ≠ .keep → s.rst.off = false → s.resetLevel < 3 →
      ∃ t : State, exec .softwareResetAssert s = .next t ∧ t.rst.level = some 3 ∧ t.rst.soft = none ∧
        t.fld .RST_CAUSE_sources 0 = 2 ^ 8)) ∧
  (∀ (s : State) (c : Cmd), s.Takes c →
    exec (.rstQuery c) s = .next (s.answer c 0x0101 (if c.pnl = 0 then
      ⟨.ok, le 4 (s.regWord 0x10004) ++ le 4 (s.regWord 0x10040)⟩ else rsp .denied)) ∧
    (∀ l : Nat, l = 0 ∨ 3 < l → exec (.rstRequest c l) s = .next (s.answer c 0x0102 (rsp .badArg))) ∧
    (∀ l : Nat, 1 ≤ l → l ≤ 3 → c.pnl ≠ 0 ∨ s.mapOf 8 < l → exec (.rstRequest c l) s = .next (s.answer c 0x0102 (rsp .denied))) ∧
    (∀ l : Nat, 1 ≤ l → l ≤ 3 → c.pnl = 0 → l ≤ s.mapOf 8 → s.rst.soft = none → exec (.rstRequest c l) s
      = .next ((s.updRst (fun r => { r with soft := some (l, s.tick + msTicks 1) })).answer c 0x0102 (rsp .ok))) ∧
    (∀ typ idx : Nat, idx < blkCount typ → c.pnl = 0 → s.loader < 2 →
      s.rst.blocks.any (fun e => e.1 == typ && e.2.1 == idx) = false →
      (s.blkIdle typ idx = false → exec (.rstBlock c typ idx) s = .next (s.answer c 0x0103 (rsp .badState))) ∧
      (s.blkIdle typ idx = true → ∃ t : State, exec (.rstBlock c typ idx) s = .next t ∧
        t.rst.blocks = s.rst.blocks ++ [(typ, idx, c)] ∧ t.mgmt.deferred = s.mgmt.deferred ++ [⟨0x0103, c, 0, s.inBand c.pnl⟩] ∧
        t.fld .SEC_STATUS_debug_open 0 = 0 ∧ FldsKept [(.SEC_STATUS_debug_open, 0), (.SEC_STATUS_scope, 0)] s t)))

/-- RESET_RELEASE, FIRMWARE_VERIFIED, MEMORY_TRAINING_DONE and BLOCK_RESET_COMPLETE. -/
def Obligations.ReleaseAndStartUp : Prop :=
  (∀ s : State, (s.heldReset = true ∨ s.rst.level = none → exec .resetRelease s = .next s) ∧
    (s.heldReset = false → s.rst.level = some 1 → ∃ t : State, exec .resetRelease s = .next t ∧ t.rst.level = none ∧
      ∀ j : Nat, j < 8 → s.laneUsed j = true → s.laneState j = hlkOff → s.isFenced blkLane j = false → t.laneState j = hlkDown) ∧
    (∀ l : Nat, s.heldReset = false → s.rst.level = some l → l = 2 ∨ l = 3 → ∃ t : State, exec .resetRelease s = .next t ∧
      t.rst.level = none ∧ t.rst.boot = 1 ∧ t.rst.bootLevel = l ∧ t.tick = 0 ∧ FldsKept [(.PWR_STRAPS_straps_valid, 0)] s t ∧
      (l = 3 → t.fld .PWR_STRAPS_straps_valid 0 = 1))) ∧
  (∀ (s : State) (ok : Bool), (s.rst.boot ≠ 1 → exec (.firmwareVerified ok) s = .next s) ∧
    (s.rst.level = none → s.rst.boot = 1 → s.rst.off = false → ∃ t : State, exec (.firmwareVerified ok) s = .next t ∧
      (ok = true → t.rst.boot = 2 ∧ t.sec.fwRun = s.bootPart ∧ t.regs = s.regs) ∧
      (ok = false → t.rst.boot = 0 ∧ t.fld .GLB_STATUS_boot 0 = 1 ∧ FldsKept [(.GLB_STATUS_boot, 0)] s t))) ∧
  (∀ (s : State) (ok : Bool), (s.rst.boot ≠ 2 → exec (.memoryTrainingDone ok) s = .next s) ∧
    (s.rst.level = none → s.rst.boot = 2 → ∃ t : State, exec (.memoryTrainingDone ok) s = .next t ∧ t.rst.boot = 0 ∧
      t.fld .HBM_STATUS_trained 0 = (if ok then 15 else 0) ∧ t.fld .HBM_STATUS_fenced 0 = (if ok then 0 else 1) ∧
      bit (t.fld .FEAT_OFFER_offer 0) 4 = ok ∧ bit (t.fld .FEAT_OFFER_offer 0) 14 = !ok ∧ bit (t.fld .FEAT_OFFER_offer 0) 5 = true ∧
      t.ldr.sources = s.bootSources ∧
      FldsKept ([(.HBM_STATUS_trained, 0), (.HBM_STATUS_fenced, 0), (.HBM_STATUS_temp_max, 0), (.FEAT_OFFER_offer, 0),
        (.BOB_STATUS_working, 0), (.BOB_STATUS_spares, 0)] ++ logFlds) s t)) ∧
  (∀ (s : State) (typ idx : Nat) (e : Nat × Nat × Cmd), s.rst.blocks.find? (fun e => e.1 == typ && e.2.1 == idx) = some e →
    (let u := (s.updRst (fun r => { r with blocks := r.blocks.erase e })).bump .RST_CNT_block_cnt 0
     (typ = 5 ∨ typ = 6 → s.isFenced typ idx = true → s.grid.running = true → exec (.blockResetComplete typ idx true) s
       = .next ((u.request (.decBack (typ - 5) idx)).completeCmd e.2.2 0x0103 (rsp .ok))) ∧
     (typ = 0 → exec (.blockResetComplete typ idx false) s
       = .next (((u.fence 0 idx).setFlag .PIPE_STATUS_fenced idx true).completeCmd e.2.2 0x0103 (rsp .fault))))) ∧
  (∀ (s : State) (typ idx : Nat) (pass : Bool), s.rst.blocks.find? (fun e => e.1 == typ && e.2.1 == idx) = none →
    exec (.blockResetComplete typ idx pass) s = .next s)

/-- The power and clock rows (chapter 17). -/
def Obligations.PowerStatesFollowTheSupply : Prop :=
  (∀ (s : State) (c : Cmd), s.Takes c →
    exec (.pwrQuery c) s = .next (s.answer c 0x0201 (if c.pnl = 0 then
      ⟨.ok, le 4 (s.regWord 0x20004) ++ le 4 (s.regWord 0x20008)⟩ else rsp .denied)) ∧
    (∀ ch : Nat, c.pnl = 0 → ch < 192 → s.effState ch = chLive → exec (.pwrKeep c []) s = .next (s.answer c 0x0202 (rsp .badState))) ∧
    (c.pnl = 0 → s.rst.pwr = .run → s.flag .PWR_STATUS_input_ok 0 = true → (∀ ch : Nat, ch < 192 → s.effState ch ≠ chLive) →
      ∃ t : State, exec (.pwrKeep c []) s = .next (t.answer c 0x0202 (rsp .ok)) ∧ t.rst.pwr = .gasp ∧ t.rst.byKeep = true ∧
        t.rst.gaspAt = s.tick ∧ t.fld .PWR_STATUS_gasp 0 = 1 ∧ t.fld .HBM_STATUS_self_refresh 0 = 1)) ∧
  (∀ (s : State) (dc : Bool) (bulk : Nat), (s.flag .PWR_STATUS_input_ok 0 = false → exec (.inputLost dc bulk) s = .next s) ∧
    (s.flag .PWR_STATUS_input_ok 0 = true → ∃ t : State, exec (.inputLost dc bulk) s = .next t ∧ t.fld .PWR_STATUS_input_ok 0 = 0 ∧
      t.fld .PWR_STATUS_input_dc 0 = b2n dc ∧ t.fld .PWR_STATUS_bulk 0 = bulk % 256 ∧ t.rst.lostAt = some s.tick ∧
      t.fld .PWR_CNT_loss 0 = (if s.mgmtUp then min (s.fld .PWR_CNT_loss 0 + 1) 255 else s.fld .PWR_CNT_loss 0) ∧
      FldsKept ([(.PWR_STATUS_input_ok, 0), (.PWR_STATUS_input_dc, 0), (.PWR_STATUS_bulk, 0), (.PWR_CNT_loss, 0)] ++ logFlds) s t)) ∧
  (∀ (s : State) (bulk : Nat), s.flag .PWR_STATUS_input_ok 0 = false →
    (s.rst.pwr = .run → ∃ t : State, exec (.inputReturn bulk) s = .next t ∧ t.fld .PWR_STATUS_input_ok 0 = 1 ∧ t.rst.lostAt = none ∧
      t.rst.pwr = .run ∧ FldsKept ([(.PWR_STATUS_input_ok, 0), (.PWR_STATUS_bulk, 0)] ++ logFlds) s t) ∧
    (s.rst.pwr = .gasp → s.rst.byKeep = false → ∃ t : State, exec (.inputReturn bulk) s = .next t ∧ t.rst.level = some 2 ∧
      t.rst.pwr = .run ∧ t.fld .RST_CAUSE_from_keep 0 = 0)) ∧
  (∀ s : State, (s.rst.lostAt = none → exec .gaspEntry s = .next s) ∧
    (∀ t0 : Nat, s.rst.lostAt = some t0 → s.rst.pwr = .run → s.mgmtUp = true → ∃ t : State, exec .gaspEntry s = .next t ∧
      t.rst.pwr = .gasp ∧ t.rst.byKeep = false ∧ t.rst.gaspAt = max s.tick (t0 + msTicks 25) ∧ t.fld .PWR_STATUS_gasp 0 = 1 ∧
      t.fld .HBM_STATUS_self_refresh 0 = 1)) ∧
  (∀ s : State, (s.rst.pwr ≠ .gasp → exec .keepEntry s = .next s) ∧
    (s.rst.pwr = .gasp → ∃ t : State, exec .keepEntry s = .next t ∧ t.rst.pwr = .keep ∧ t.full = none ∧ t.chans = [] ∧
      t.tick = max s.tick (s.rst.gaspAt + msTicks 300) ∧ t.fld .PWR_STATUS_gasp 0 = 0 ∧ t.pending = s.pending)) ∧
  (∀ (s : State) (tick : Nat), (s.rst.pwr ≠ .keep → exec (.blank0KeepWake tick) s = .next s) ∧
    (s.rst.pwr = .keep → s.rst.off = false → s.flag .PWR_STATUS_input_ok 0 = true → ∃ t : State,
      exec (.blank0KeepWake tick) s = .next t ∧ t.rst.pwr = .run ∧ t.rst.level = some 2 ∧ t.fld .RST_CAUSE_from_keep 0 = 1 ∧
      t.fld .RST_CNT_warm_cnt 0 = min (s.fld .RST_CNT_warm_cnt 0 + 1) 255) ∧
    (s.rst.pwr = .keep → s.rst.off = false → s.flag .PWR_STATUS_input_ok 0 = false → ∃ (t : State) (ms : Nat),
      exec (.blank0KeepWake tick) s = .next t ∧ t.rst.blankRing = (ms :: s.rst.blankRing).take 16 ∧ t.regs = s.regs)) ∧
  (∀ s : State, s.rst.pwr = .keep → s.flag .PWR_STATUS_input_ok 0 = false → ∃ t : State, exec .aonStoresExhausted s = .next t ∧
    t.rst.off = true ∧ t.fld .RST_CAUSE_sources 0 = 1 ∧ t.full = none) ∧
  (∀ (s : State) (ok : Bool), exec (.vbatLevelChange ok) s = .next (s.setFlag .PWR_STATUS_vbat_ok 0 ok)) ∧
  (∀ (s : State) (m25 : Bool) (ofs : Nat), (s.mgmtUp = false → exec (.refclkValid m25 ofs) s = .next s) ∧
    (s.mgmtUp = true → ∃ t : State, exec (.refclkValid m25 ofs) s = .next t ∧ t.fld .PWR_CLK_STATUS_refclk_valid 0 = 1 ∧
      t.fld .PWR_CLK_STATUS_ref_sel 0 = (if m25 then 2 else 1) ∧ t.fld .PWR_CLK_STATUS_ref_ofs 0 = ofs % 65536 ∧
      (s.fld .PWR_CLK_STATUS_ref_sel 0 ≠ (if m25 then 2 else 1) → t.fld .PWR_CLK_STATUS_slewing 0 = 1 ∧
        t.fld .PWR_CNT_ref_switch 0 = min (s.fld .PWR_CNT_ref_switch 0 + 1) 255) ∧
      FldsKept ([(.PWR_CLK_STATUS_refclk_valid, 0), (.PWR_CLK_STATUS_ref_sel, 0), (.PWR_CLK_STATUS_ref_ofs, 0),
        (.PWR_CLK_STATUS_slewing, 0), (.PWR_CNT_ref_switch, 0)] ++ logFlds) s t)) ∧
  (∀ s : State, s.mgmtUp = true → s.flag .PWR_CLK_STATUS_refclk_valid 0 = true → ∃ t : State, exec .clkRefLost s = .next t ∧
    t.fld .PWR_CLK_STATUS_refclk_valid 0 = 0 ∧ t.fld .PWR_CLK_STATUS_ref_sel 0 = 0 ∧
    t.fld .PWR_CNT_ref_lost 0 = min (s.fld .PWR_CNT_ref_lost 0 + 1) 255 ∧
    FldsKept ([(.PWR_CLK_STATUS_refclk_valid, 0), (.PWR_CLK_STATUS_ref_sel, 0), (.PWR_CLK_STATUS_slewing, 0),
      (.PWR_CNT_ref_switch, 0), (.PWR_CNT_ref_lost, 0)] ++ logFlds) s t) ∧
  (∀ s : State, (s.fld .PWR_CLK_STATUS_slewing 0 = 0 → exec .clockSlewEnd s = .next s) ∧
    (s.fld .PWR_CLK_STATUS_slewing 0 = 1 → exec .clockSlewEnd s = .next (({ s with
      tick := max s.tick (s.rst.slewAt + 20000 * (signed 16 (s.fld .PWR_CLK_STATUS_ref_ofs 0)).natAbs) } : State).setFlag
        .PWR_CLK_STATUS_slewing 0 false))) ∧
  (∀ s : State, ∃ t : State, exec .pwrXtal s = .next t ∧ t.fld .PWR_TOD_HI_tod_valid 0 = 0 ∧
    FldsKept ((.PWR_TOD_HI_tod_valid, 0) :: logFlds) s t) ∧
  (∀ (s : State) (temp : Nat), temp < 256 → s.mgmtUp = true → s.rst.heat = false →
    (85 ≤ signed 8 temp → signed 8 temp < 100 → s.flag .PWR_THERMAL_hot 0 = false → ∃ t : State, exec (.pwrHot temp) s = .next t ∧
      t.fld .PWR_THERMAL_hot 0 = 1 ∧ t.fld .PWR_THERMAL_baseplate 0 = temp ∧ t.rst.heat = false ∧
      t.fld .PWR_THERMAL_hot_cnt 0 = min (s.fld .PWR_THERMAL_hot_cnt 0 + 1) 255 ∧
      FldsKept ([(.PWR_THERMAL_hot, 0), (.PWR_THERMAL_baseplate, 0), (.PWR_THERMAL_t_valid, 0), (.PWR_THERMAL_hot_cnt, 0)]
        ++ logFlds) s t) ∧
    (signed 8 temp < 80 → s.flag .PWR_THERMAL_hot 0 = true → ∃ t : State, exec (.pwrHot temp) s = .next t ∧
      t.fld .PWR_THERMAL_hot 0 = 0 ∧ t.fld .PWR_THERMAL_baseplate 0 = temp ∧
      FldsKept ([(.PWR_THERMAL_hot, 0), (.PWR_THERMAL_baseplate, 0), (.PWR_THERMAL_t_valid, 0)] ++ logFlds) s t))
/-- FEATURE_ACCEPT, the write of FEAT_ACCEPT, and the rows ACK_MISSING to MESSAGE_HANDOVER of the opcode table and the deadlines. -/
def Obligations.ReceptionAndDeliveryRowsComplete : Prop :=
  (∀ (s : State) (c : Cmd) (w0 w1 w2 w3 : Nat), s.acceptOpen = true → w0 < 2 ^ 32 → w1 < 2 ^ 32 → w2 < 2 ^ 32 → w3 < 2 ^ 32 →
    (∀ k : Nat, k < 4 → [w0, w1, w2, w3].getD k 0 &&& s.fld .FEAT_OFFER_offer k = [w0, w1, w2, w3].getD k 0) →
    (∃ t : State, exec (.featAcceptWrite 0 w0 w1 w2 w3) s = .next t ∧
      ∀ k : Nat, k < 4 → t.fld .FEAT_ACCEPT_accept k = [w0, w1, w2, w3].getD k 0) ∧
    (s.Takes c → c.pnl = 0 → s.loader < 2 → ∃ t : State, exec (.featureAccept c w0 w1 w2 w3) s = .next (t.answer c 0x0306 (rsp .ok)) ∧
      ∀ k : Nat, k < 4 → t.fld .FEAT_ACCEPT_accept k = [w0, w1, w2, w3].getD k 0)) ∧
  (∀ (s : State) (ch : Nat) (f : Frame) (rest : List Frame), (s.chan ch).await = f :: rest → s.dlv.segs = [] → s.dlv.txMsgs = [] →
    ∃ t : State, exec (.ackMissing ch) s = .next t ∧ (t.chan ch).await = rest ∧
      t.fld .CHN_ACCESS_CNT_no_ack ch
        = min (s.fld .CHN_ACCESS_CNT_no_ack ch + 1) (2 ^ Fld.width .CHN_ACCESS_CNT_no_ack - 1)) ∧
  (∀ (s : State) (ch tick : Nat) (w : List Int), (s.chan ch).rx.last tick 256 = some w → (s.chan ch).det = .armed →
    s.listens ch = true → s.deaf ch (s.slotAt tick) = false →
    triggered ((energy w : Nat) : Rat) (s.floorOf ch).1 (s.fld .CHN_DET_CFG_det_thr ch) = true →
    ∃ t : State, exec (.energyTrigger ch tick) s = .next t ∧ (t.chan ch).det = .triggered ∧ t.fld .CHN_STATUS_rx_busy ch = 1) ∧
  (∀ (s : State) (ch tick : Nat), (s.chan ch).det = .triggered → tick ≤ (s.chan ch).trigAt + 9216 → (s.chan ch).cont = none →
    1024 ≤ tick → (∀ t ∈ [tick, tick - 1024], (s.chan ch).rx.point (s.fld .CHN_DET_CFG_qual_thr ch) t = true) →
    ∃ t : State, exec (.qualifierPass ch tick) s = .next t ∧ (t.chan ch).det = .qualified ∧ t.regs = s.regs) ∧
  (∀ (s : State) (ch : Nat), (s.chan ch).det = .triggered →
    ∃ t : State, exec (.qualFail ch) s = .next t ∧ (t.chan ch).det = .armed ∧ t.fld .CHN_STATUS_rx_busy ch = 0) ∧
  (∀ (s : State) (ch tick frac : Nat) (span : List Int), (s.chan ch).rx.syncFrac tick = some frac →
    (s.chan ch).rx.span (tick - 1024) 2048 = some span → (s.chan ch).det = .qualified → tick ≤ (s.chan ch).detAt + 2048 →
    s.listens ch = true → (s.chan ch).cont = none → s.selfSync tick (tick - s.slotTick (s.slotAt tick)) frac = false →
    ∃ t : State, exec (.syncPoint ch tick) s = .next t ∧ (t.chan ch).det = .inFrame ∧ t.fld .CHN_SYNC_sync_valid ch = 1) ∧
  (∀ (s : State) (ch : Nat), (s.chan ch).det = .inFrame →
    (∃ t : State, exec (.detectorRearm ch) s = .next t ∧ (t.chan ch).det = .armed ∧ t.fld .CHN_STATUS_rx_busy ch = 0) ∧
    (∀ w len : Nat, (s.chan ch).fcWord = some w → (s.chan ch).curFc = none → s.listens ch = true → fcsOk w = true →
      s.fcForeign ch (fcParse w) = false → s.peerOk ch (fcParse w).src = true → (fcParse w).typ = 1 →
      ∃ t : State, exec (.frameControlRx ch len) s = .next t ∧ (t.chan ch).curFc = some (fcParse w))) ∧
  (∀ (s : State) (ch : Nat) (x : List Int) (k : SymKind), ch < 192 → s.symKind ch s.grid.slot = some k →
    (s.chan ch).rx.span (s.bodyTick ch s.grid.slot k) 8192 = some x →
    ∃ (t : State) (y : RxSym), exec (.symbolRx ch) s = .next t ∧ t.grid.symbols = s.grid.symbols.filter (fun z => z.ch != ch) ++ [y] ∧
      y.ch = ch ∧ y.slot = s.grid.slot ∧ y.kind = k) ∧
  (∀ (s : State) (ch : Nat), s.fld .CHN_TM_STATUS_step_active ch = 1 → s.inPayload ch = false → s.rxGeneralMap ch = none →
    ∃ u : State, exec (.stepRebaseEnd ch) s = .next (u.askSound ch) ∧ u.fld .CHN_TM_STATUS_step_active ch = 0) ∧
  (∀ (s : State) (pool unit : Nat) (w : Work) (f : RxFrame) (b : RxBlock), pool < 2 → unit < (if pool = 0 then 48 else 32) →
    s.fld (if pool = 0 then .COD_POOL_STATUS_vit_units else .COD_POOL_STATUS_ldpc_units) 0 ≠ 0 →
    s.isFenced (blkVit + pool) unit = false → s.grid.work.find? (fun x => x.pool == pool && x.served) = some w →
    (s.chan w.ch).rxq.find? (fun x => x.at_ == w.frame) = some f → f.blocks[w.block]? = some b →
    ∃ t : State, exec (.decodeComplete pool unit) s = .next t ∧ t.grid.work = s.grid.work.erase w) ∧
  (∀ (s : State) (w : Work), s.grid.work.find? (fun x => decide (64 ≤ x.age) && decide (x.prio < 3) && !x.served) = some w →
    ∃ t : State, exec .decodeDrop s = .next t ∧ t.grid.work = s.grid.work.erase w ∧
      t.fld .COD_DEFER_CNT_drop 0 = min (s.fld .COD_DEFER_CNT_drop 0 + 1) (2 ^ Fld.width .COD_DEFER_CNT_drop - 1)) ∧
  (∀ (s : State) (ch : Nat) (f : RxFrame) (g : RawSeg),
    s.heard ch (fun fc => (fc.typ == 0 || fc.typ == 3 || fc.typ == 5) && !fcFlood fc) = some f → s.frameMine ch f.fc = true →
    s.chState ch ≠ chQuiet → f.fc.typ = 0 → fcAckReq f.fc = true → f.fc.dst ≠ 0xFFFF → fcEnc f.fc = false →
    frameSegs f.fc f.payload.1 f.payload.2 = [g] → g.ok = true → g.malformed = false →
    (let r := s.rxFlow ch f.fc.src false
     r.ch = ch ∧ r.held = [] ∧ r.pools = [] ∧ (let d := (g.seq + 4096 - r.base) % 4096
       2048 ≤ d ∨ d < 64 ∧ r.map.testBit d = true)) →
    ∃ (t : State) (a : AckDue), exec (.dataFrameRx ch) s = .next t ∧ (t.chan ch).rxq = (s.chan ch).rxq.erase f ∧
      (t.chan ch).acks = (s.chan ch).acks ++ [a] ∧ a.fc.typ = 1 ∧ a.fc.dst = f.fc.src) ∧
  (∀ (s : State) (ch m : Nat) (f : RxFrame), s.heard ch (fun fc => (fc.typ == 0 || fc.typ == 3 || fc.typ == 5) && fcFlood fc) = some f →
    s.frameMine ch f.fc = true → 8 ≤ f.payload.1.length →
    crc 16 0x1021 0xFFFF (bytesToBits (slice f.payload.1 0 6)) = beAt f.payload.1 6 2 → s.floodDomain ch = some m →
    (∀ e ∈ s.dlv.seen, ¬(e.domain = m ∧ e.origin = beAt f.payload.1 2 2 ∧ e.oseq = beAt f.payload.1 4 2)) →
    s.dlv.seen.length < s.seenLimit → ∀ (g : RawSeg) (x : Nat), frameSegs f.fc f.payload.1 f.payload.2 = [g] → g.ok = true →
    g.malformed = false → fcEnc f.fc = false → s.epDrop ch f.fc.typ g.ep ≠ none → 16 ≤ beAt f.payload.1 0 1 →
    s.refloodTo m ch false = [x] → (s.takeDesc f.fc.prio (s.rxPanel ch)).isSome = true →
    ∃ (t : State) (c : FloodCopy), exec (.floodFrameRx ch) s = .next t ∧ (t.chan ch).rxq = (s.chan ch).rxq.erase f ∧
      t.dlv.seen = s.dlv.seen ++ [⟨m, beAt f.payload.1 2 2, beAt f.payload.1 4 2, s.tick, s.fld .DLV_CFG2_seen_life 0⟩] ∧
      t.dlv.copies = s.dlv.copies ++ [c] ∧ c.ch = x ∧ c.ttl = beAt f.payload.1 0 1 / 16 - 1 ∧ c.origin = beAt f.payload.1 2 2 ∧
      c.oseq = beAt f.payload.1 4 2) ∧
  (∀ (s : State) (ch : Nat) (a : AckDue), (s.chan ch).acks = [a] → s.chState ch ≠ chQuiet → s.maySend ch false = true →
    let f : Frame := { ch := ch, slot := a.slot, kind := .ack, fc := a.fc, payload := [], len := 2, panel := (s.owner ch).getD 0
                       hem := s.hemOf a.slot }
    s.maskedFor ch (s.airSet f) a.fc.prio = false → s.duplexHeld ch a.slot 2 = false →
    s.grid.slot < a.slot → (∀ x ∈ s.grid.committed, ¬(x.ch = ch ∧ x.kind = .ack ∧ x.slot = s.grid.slot)) →
    ∃ t : State, exec (.ackSend ch) s = .next t ∧ (t.chan ch).acks = [] ∧ t.grid.committed = s.grid.committed ++ [f]) ∧
  (∀ (s : State) (ch : Nat) (a : RxFrame) (f : Frame), s.heard ch (fun fc => fc.typ == 1) = some a → s.chState ch = chTraining →
    (s.chan ch).await.find? (fun x => x.fc.dst == a.fc.src && x.fc.prio == a.fc.prio) = some f →
    s.frameMine ch a.fc = true → s.dlv.segs = [] → s.dlv.txMsgs = [] → f.mids = [] → f.fc.prio < 3 → (s.chan ch).cw.length = 3 →
    ∃ t : State, exec (.ackRx ch) s = .next t ∧ (t.chan ch).await = (s.chan ch).await.erase f ∧ t.cwOf ch f.fc.prio = s.cwMin ch f.fc.prio) ∧
  (∀ (s : State) (ch : Nat) (f : RxFrame), s.heard ch (fun fc => fc.typ == 2) = some f → f.fc.link = s.fld .CHN_CFG_link_id ch →
    s.rxUp ch = true → s.chState ch ≠ chLive → s.fld .CHN_STATUS_role ch ≠ 0 → f.payload.2 = [] → bcnOk f.payload.1 = true →
    s.peerOk ch f.fc.src = true → ∃ t : State, exec (.beaconRx ch) s = .next t ∧ (t.chan ch).layoutTotal = beAt f.payload.1 1 1 ∧
      (t.chan ch).bcnMissed = 0 ∧ t.fld .CHN_HEM_STATUS_bcn_ok ch = 1) ∧
  (∀ (s : State) (ch : Nat) (f : RxFrame), s.heard ch (fun fc => fc.typ == 4) = some f → s.chState ch = chTraining →
    4 ≤ f.cells.length → f.cells.length ≤ 15 → s.frameMine ch f.fc = true → f.stepped = false → ∃ u : State,
    exec (.soundRx ch) s = .next (u.renewMap ch 0) ∧ (u.chan ch).soundOut = none ∧ u.fld .CHN_SNR_snr_valid ch = 1) ∧
  (∀ (s : State) (ch src : Nat) (m : List Byte) (i n caps robo : Nat) (x : Option ToneMap),
    let r := tmRead (s.dCount ch) (s.inForce 3) m
    (∀ y : ToneMap, msgOp m = 1 → r = .ok 1 i n caps robo (some y) → ∃ t : State, exec (.mapRx ch src m) s = .next t ∧
      t.fld .CHN_TM_CNT_map_rcvd ch = min (s.fld .CHN_TM_CNT_map_rcvd ch + 1) (2 ^ Fld.width .CHN_TM_CNT_map_rcvd - 1) ∧
      (t.chan ch).partnerCaps = y.caps) ∧
    (msgOp m = 2 → r = .ok 2 i n caps robo x → ∃ t : State, exec (.soundReqRx ch src m) s = .next t ∧ (t.chan ch).soundOwe = some n) ∧
    (msgOp m = 3 → r = .ok 3 i n caps robo x → exec (.invalidateAllRx ch src m) s = .next (s.invalidate ch 2 false)) ∧
    (msgOp m = 4 → r = .ok 4 i n caps robo x → ∃ t : State, exec (.fallbackRx ch src m) s = .next t ∧ (t.chan ch).soundOwe = some n ∧
      (t.chan ch).tmDue = (s.chan ch).tmDue ++ [{ slot := s.boundaryAfter (s.chan ch).rxEnd 8, robo := robo }]) ∧
    (msgOp m = 5 → r = .ok 5 i n caps robo x → ∃ u : State,
      exec (.mapNakRx ch src m) s = .next (u.renewMap ch (((tfind i (s.chan ch).rxMaps).map (·.use)).getD 0)) ∧
      u.chan ch = { s.chan ch with rxMaps := tdel i (s.chan ch).rxMaps })) ∧
  (∀ (s : State) (ch n : Nat), (s.chan ch).soundOut = some n → 4 ≤ n →
    exec (.soundTimeout ch) s = .next ((s.askSound ch).bump .CHN_SOUND_CNT_sound_timeout ch)) ∧
  (∀ (s : State) (ch i : Nat) (l : List (Nat × Nat)), (s.chan ch).retire = (i, 0) :: l → ∃ u : State,
    exec (.toneMapRetire ch) s = .next (u.serveMaps ch) ∧ (u.chan ch).rxMaps = tdel i (s.chan ch).rxMaps) ∧
  (∀ (s : State) (ch : Nat), s.chState ch = chLive → s.fld .CHN_ADAPT_CFG2_tm_refresh ch ≠ 0 →
    s.fld .CHN_ADAPT_CFG2_tm_refresh ch ≤ (s.chan ch).soundHems → exec (.tmRefresh ch) s = .next (s.askSound ch)) ∧
  (∀ (s : State) (ch : Nat) (l : List Byte), beAt l 0 1 = 0xE1 → beAt l 1 1 = 1 → beAt l 5 1 ≤ 1 → bit (beAt l 4 1) 0 = false →
    l.length = 1032 → s.ola.dsync.contains (ch, beAt l 2 1) = true → s.reportLate (beAt l 2 1) = false →
    s.ola.parts.find? (fun p => p.ch == ch && p.t == beAt l 2 1) = none →
    exec (.errorReportRx ch l) s = .next { s with ola := { s.ola with
      parts := s.ola.parts ++ [⟨ch, beAt l 2 1, beAt l 5 1, beAt l 3 1, repErrs l⟩] } }) ∧
  (∀ (s : State) (ch t : Nat), s.reportLate t = true → ∃ u : State, exec (.errReportDeadline ch t) s = .next u ∧
    u.ola.parts = s.ola.parts.filter (fun p => !(p.ch == ch && p.t == t))) ∧
  (∀ (s : State) (cls v vi slot : Nat), s.victimIdx cls v = some vi → (s.pair cls vi slot).st = .held → s.holdTime cls ≠ 0 →
    s.holdTime cls ≤ (s.pair cls vi slot).hold → ∃ t : State, exec (.pairHoldExpiry cls v slot) s = .next t ∧
      t.grid.changes = s.grid.changes ++ [.pair cls vi slot .empty]) ∧
  (∀ (s : State) (c : Cmd) (cls v slot vi : Nat), s.Takes c → cls ≤ 2 → v ≤ 191 → s.mayName c.pnl v = true →
    s.olaForce cls = true → s.victimIdx cls v = some vi → slot < (s.olaClass cls).nd →
    (let q := s.pair cls vi slot
     let d := ((s.olaSlots cls v)[slot]?).getD 0xFF
     exec (.olaPairQuery c cls v slot) s = .next (s.answer c 0x2401 ⟨.ok, [byte q.st.code, byte d] ++ le 2 (leastCount q)
       ++ le 2 (s.pairPower cls vi slot) ++ [byte (b2n (cls == 0 && s.duplexBit v d))]⟩)) ∧
    (∃ t : State, exec (.olaVictimReset c cls v) s = .next (t.answer c 0x2402 (rsp .ok)) ∧
      .pair cls vi slot .empty ∈ t.grid.changes) ∧
    (∀ ca n : Nat, 74 ≤ ca → 1 ≤ n → n ≤ 5 → ca + n ≤ 1098 → exec (.olaCoefRead c cls v slot ca n) s
      = .next (s.answer c 0x2403 ⟨.ok, (List.range n).flatMap (fun k => le 4 (s.coefWord cls vi slot (ca + k)))⟩)) ∧
    (∀ (ca w : Nat), s.expertOk c.pnl = true → 74 ≤ ca → ca ≤ 1097 → (s.pair cls vi slot).st = .learn →
      slot < (s.olaSlots cls v).length → cls ≠ 0 ∨ slot = 0 ∨ s.inForce 0 = true → ∃ t : State,
      exec (.olaCoefWrite c cls v slot ca [w]) s = .next (t.answer c 0x2404 (rsp .ok)) ∧
        t.ola.writes = s.ola.writes ++ [⟨s.entryOf cls vi slot ca, w % 2 ^ 32, 1⟩])) ∧
  (∀ (s u : State) (ch : Nat) (m : QMsg), u.pat.contacts.groups = [] → u.pat.serial = [] →
    (s.queueHeads ch).find? (fun x => x.prio == 3 && (s.takeMsg x).isSome) = some m → s.takeMsg m = some u →
    exec (.messageHandover ch) s = .next u) ∧
  (∀ (s : State) (ch : Nat), ∃ t : State, exec (.segmentDeadline ch) s = .next t ∧
    ∀ g ∈ t.dlv.segs, g ∈ s.dlv.segs ∧ ¬(g.ch = ch ∧ g.deadline ≤ s.tick)) ∧
  (∀ (s : State) (m : RxMsg), s.dlv.done.find? (fun x => decide (2 ≤ x.hems)) = some m →
    ∃ t : State, exec .rxMessageDiscard s = .next t ∧ t.dlv.done = s.dlv.done.erase m) ∧
  (∀ (s : State) (e : Seen), firstSeen s.dlv.seen = some e →
    ∃ t : State, exec .seenEntryExpiry s = .next t ∧ t.dlv.seen = s.dlv.seen.erase e)

/-- The rows Q_AGE_DROP to SRG_ARRIVAL_READ of the opcode table (chapters 10 to 13). -/
def Obligations.HostTimeLaneAndGaugeRowsComplete : Prop :=
  (∀ (s : State) (p q : Nat) (m : QMsg), q < 8 → s.host.queues.find? (fun x => x.panel == p && (x.prio != 3 && x.cls == q)) = some m →
    ∃ t : State, exec (.qAgeDrop p q) s = .next t ∧ t.host.queues = s.host.queues.erase m) ∧
  (∀ (s : State) (p q k : Nat) (m : List Byte) (c : Instr), p < 16 → q < 8 → (s.panelItem p).isSome = true →
    (c = .send p q m ∧ k = 1 ∨ c = .flood p q m ∧ k = 2) → (hoParse m).kind = k → hoBad (hoParse m) m = false →
    s.hoDenied p (hoParse m) = false → s.hoNoRight p (hoParse m) = false → (hoParse m).hasLaunch = false →
    ((hoParse m).prio ≠ 3 → s.credit p q ≠ 0) → ((hoParse m).prio = 3 → s.protCount p < 64) →
    ∃ (t : State) (x : QMsg), exec c s = .next t ∧ t.host.queues = s.host.queues ++ [x] ∧ x.panel = p ∧ x.cls = q ∧
      x.flood = (k == 2) ∧ x.data = slice m 32 (hoParse m).len) ∧
  (∀ (s : State) (port tick : Nat) (f : List Byte) (i : PanelItem), port < 2 → s.linkUp port = true → 60 ≤ f.length →
    f.length ≤ 16444 → (ethParse f).etype = 0x88B5 → s.macTaken (ethParse f).dst = true → s.prpOn = false → (ethParse f).vid ≠ 0 →
    s.mgmtPanel (ethParse f).vid = none → s.dataPanel (ethParse f).vid = some i →
    exec (.hostFrameRx port f true tick) s
      = .next (({ s with tick := max s.tick (tick / 16) } : State).handoverIn i.panel (ethParse f).pcp (ethParse f).body)) ∧
  (∀ (s : State) (port vid : Nat) (f : List Byte) (i : PanelItem), s.mgmtPanel vid = some i → port < 2 →
    (ethParse f).etype = 0x0806 → beAt (ethParse f).body 6 2 = 1 → beAt (ethParse f).body 24 4 = i.ipv4 → s.prpOn = false →
    ∃ (t : State) (e : EgFrame), exec (.arpRequest port vid f) s = .next t ∧ t.host.egress = s.host.egress ++ [e] ∧ e.order = 3 ∧
      e.panel = i.panel ∧ e.ports = i.ports) ∧
  (∀ (s : State) (port : Nat) (f : List Byte), exec (.prpSupervisionRx port f) s = .next s) ∧
  (∀ s : State, s.prpOn = true → 0 < s.pat.ports.prpLifeMs → ∃ (t : State) (a b : EgFrame), exec .prpSupervisionSend s = .next t ∧
    t.host.egress = s.host.egress ++ [a, b] ∧ a.ports = 1 ∧ b.ports = 2) ∧
  (∀ (s : State) (port : Nat), port < 2 → s.fld .HST_PORT_STATUS_mode port ≠ 0xF → s.host.failed.contains port = false → ∀ up : Bool,
    ∃ t : State, exec (.hostLinkChange port up) s = .next t ∧ t.linkUp port = up) ∧
  (∀ (s : State) (p : Nat) (f : EgFrame), p < 2 → s.host.ohiIn = [] → s.linkUp p = true → s.host.egMs = s.tick / 200000 →
    (∀ o ∈ s.tim.out, o.port ≠ p) → s.nextEgress p = some f → s.dlv.done = [] →
    ∃ t : State, exec (.ethernetEgress p) s = .next t ∧ t.host.egress = s.host.egress.erase f ∧ t.host.sent = s.host.sent ++ [(p, f.bytes)]) ∧
  (∀ (s : State) (p tick l : Nat) (o : PtpOut), s.tim.out.find? (fun o => o.port == p && o.launch.isSome) = some o →
    o.launch = some l → max s.tick tick ≤ l → ∃ (t : State) (b : List Byte), exec (.launchTimeFrame p tick) s = .next t ∧ t.tick = l ∧
      t.tim.out = s.tim.out.erase o ∧ t.host.sent = s.host.sent ++ [(p, b)]) ∧
  (∀ (s : State) (p q tIn : Nat) (m : PtpMsg), m.ver = 2 → p < 2 → s.tcPort p = true → s.ptpTbs p = [] →
    s.tcPorts.filter (· != p) = [q] → s.tim.fwd = [] →
    let sent (need : PtpNeed) (d : Int) (t : State) : Prop := t.tim.out = s.tim.out ++ [⟨q, m, need, s.ingressNs p tIn, d, none⟩] ∧
      t.tim.fwd = [⟨m.srcId, m.srcPort, m.domain, m.typ, m.seq, s.tick⟩]
    (∀ d : Int, m.typ = 0 → (s.pd p).d = some d → ∃ t : State, exec (.sync p m tIn false) s = .next t ∧
      sent (if m.twoStep then .hold else .residence) d t) ∧
    (m.typ = 8 → ∃ t : State, exec (.followUp p m tIn false) s = .next t ∧ sent .addHeld 0 t) ∧
    (m.typ = 0xB → ∃ t : State, exec (.announce p m tIn false) s = .next t ∧ sent .plain 0 t) ∧
    (m.typ = 0xC → ∃ t : State, exec (.signaling p m tIn false) s = .next t ∧ sent .plain 0 t) ∧
    (m.typ = 0xD → ∃ t : State, exec (.management p m tIn false) s = .next t ∧ sent .plain 0 t)) ∧
  (∀ (s : State) (p tIn : Nat) (m : PtpMsg), m.ver = 2 → s.pdPort p = true →
    (m.typ = 2 → ∃ (t : State) (o : PtpOut), exec (.pdelayReq p m tIn false) s = .next t ∧ t.tim.out = s.tim.out ++ [o] ∧
      o.port = p ∧ o.msg.typ = 3 ∧ o.need = .turnaround) ∧
    (m.typ = 3 → s.pdMine p m = true → m.twoStep = true → ∃ t : State, exec (.pdelayResp p m tIn false) s = .next t ∧
      (t.pd p).t2 = some m.origin ∧ (t.pd p).t4 = s.ingressNs p tIn) ∧
    (∀ (t1 : Rat) (t2 : Int), m.typ = 0xA → s.pdMine p m = true → (s.pd p).t1 = some t1 → (s.pd p).t2 = some t2 →
      (s.pd p).d = none → ∃ t : State, exec (.pdelayRespFollowUp p m tIn false) s = .next t ∧
        (t.pd p).d = some ((roundRat (((s.pd p).t4 - t1) * 65536) - (m.origin - t2) - ((s.pd p).c + m.corr)) / 2)) ∧
    (∃ (t : State) (o : PtpOut), exec (.pdelayInterval p) s = .next t ∧ t.tim.out = s.tim.out ++ [o] ∧ o.port = p ∧ o.msg.typ = 2)) ∧
  (∀ (s : State) (x : HeldR) (l : List HeldR), s.tim.held = x :: l → ∃ t : State, exec .heldCorrectionExpiry s = .next t ∧
    t.tim.held = l.filter (fun h => decide (t.tick < h.tick + 200000000))) ∧
  (∀ (s : State) (x : Nat), (∀ k : Nat, k < 8 → s.tbRole k ≠ 3) →
    ∃ t : State, exec (.ppsInEdge x) s = .next t ∧ t.tim.ppsIn = some (x / 16) ∧ t.tick = max s.tick (x / 16)) ∧
  (∀ (s : State) (k : Nat), k < 8 → s.pairs = [] → s.fld .TIM_TB_STATUS_tb_state k = 1 ∨ s.fld .TIM_TB_STATUS_tb_state k = 2 →
    ∃ t : State, exec (.timebaseLossTimeout k) s = .next t ∧ t.fld .TIM_TB_STATUS_tb_state k = 3 ∧ t.fld .TIM_TB_STATUS_qualified k = 0) ∧
  (∀ (s : State) (n : Nat) (p : PairItem × Nat), s.pairs.find? (fun q => q.2 == n) = some p → (s.lastAnchor p.1.out).phi ≠ 0 →
    (s.lastAnchor p.1.out).slew ≠ 0 → ∃ t : State, exec (.slewEnd n) s = .next t ∧ (t.lastAnchor p.1.out).phi = 0 ∧
      t.fld .TIM_PAIR_PHI_phi p.2 = 0 ∧ t.fld .TIM_PAIR_STATUS_slewing p.2 = 0) ∧
  (∀ (s : State) (tick : Nat), s.tbRole s.pat.tbs.ppsSrc ≠ 0 →
    s.tbAt s.pat.tbs.ppsSrc tick / secUnits ≠ s.tbAt s.pat.tbs.ppsSrc (tick - 1) / secUnits →
    ∃ t : State, exec (.ppsOutEdge tick) s = .next t ∧ t.tim.ppsEdge = some tick ∧ t.fld .PWR_TOD_HI_tod_valid 0 = 1) ∧
  (∀ (s : State) (sec q : Nat) (utc : Int), s.tim.todDue = some (sec, utc, q) →
    ∃ t : State, exec .todTxLine s = .next t ∧ t.tim.todLine = gwtLine sec utc q ∧ t.tim.todDue = none) ∧
  (∀ (s : State) (c : Cmd) (k : Nat), s.Takes c → c.pnl = 0 → k ≤ 7 → s.tbRole k ≠ 0 →
    exec (.timQuery c k) s = .next (s.answer c 0x3401 ⟨.ok,
      ((s.tbWords k s.tick ++ [s.tbStatusWord k, s.fld .TIM_TB_RATE_rate k]).map (le 4)).flatten⟩) ∧
    (∀ sec ns rate : Nat, s.tbRole k = 1 ∨ s.tbRole k = 5 → ns ≤ 999999999 → (signed 32 rate).natAbs ≤ 51200000 → s.pairs = [] →
      ∃ t : State, exec (.timSet c k sec ns rate) s = .next (t.answer c 0x3402 (rsp .ok)) ∧
        t.lastAnchor k = { tick := s.tick + 1, val := tbVal sec ns 0, rate := signed 32 rate, jump := true }) ∧
    (∀ off : Nat, s.tbRole k = 5 → exec (.timFeed c k off) s = .next ((s.tbOffset k (signed 64 off)).answer c 0x3403 (rsp .ok))) ∧
    (∀ (w : Nat) (q : PairItem × Nat), w ≤ 1 → s.inForce 8 = true → s.pairs.find? (fun q => q.1.out == k) = some q → s.tbRole k = 4 →
      s.tbQualified (if w = 0 then q.1.primary else q.1.secondary) = true → s.pairSrc q ≠ (if w = 0 then q.1.primary else q.1.secondary) →
      ∃ t : State, exec (.timPairSelect c k w) s = .next (t.answer c 0x3404 (rsp .ok)) ∧ t.fld .TIM_PAIR_STATUS_on_secondary q.2 = w) ∧
    (∀ (n : Nat) (a : Anchor), (s.tb k).anchors.find? (fun a => a.tick ≤ n) = some a → n ≤ s.tick → ∃ x : Byte,
      exec (.timAt c k n) s = .next (s.answer c 0x3405 ⟨.ok, le 6 (tbParts (a.at n)).1 ++ le 4 (tbParts (a.at n)).2.1
        ++ le 2 (tbParts (a.at n)).2.2 ++ [x]⟩))) ∧
  (∀ (s : State) (j : Nat) (b : BitVec 5600), j ≤ 7 → s.laneState j = hlkLocking → ∃ t : State,
    exec (.upstreamFrame j b) s = .next t ∧ t.regs = s.regs ∧ (t.lane j).bad = (match laneDecode (bitsMsb 5600 b.toNat) with
      | some (p, _) => if pf p 0 24 = 0xC29E5B then 0 else (s.lane j).bad + 1
      | none => (s.lane j).bad + 1)) ∧
  (∀ (s : State) (j : Nat),
    (s.laneState j = hlkDown → ∃ t : State, exec (.signalAndSymbolLock j) s = .next t ∧ t.laneState j = hlkLocking) ∧
    (s.laneState j = hlkLocking → 8 ≤ (s.lane j).good → (s.lane j).out = [] →
      ∃ t : State, exec (.frameLock j) s = .next t ∧ t.laneState j = hlkCalibrating ∧
        (t.lane j).out.map (fun m => (m.write, m.addr)) = [(false, 0x0), (false, 0x4), (false, 0x8), (false, 0xC)]) ∧
    (s.laneState j = hlkCalibrating → 4 ≤ (s.lane j).bad →
      ∃ t : State, exec (.frameLockLost j) s = .next t ∧ t.laneState j = hlkLocking ∧ t.fld .HLK_STATUS_cause j = 2) ∧
    (s.laneState j = hlkCalibrating →
      ∃ t : State, exec (.lossOfSignal j) s = .next t ∧ t.laneState j = hlkDown ∧ t.fld .HLK_STATUS_cause j = 1) ∧
    (∀ rtts : List Nat, rtts.length = 1024 → s.laneState j = hlkCalibrating → (s.lane j).readsDone = false →
      ∃ t : State, exec (.laneRecalculate j rtts) s = .next t ∧ t.fld .HLK_RTT_rtt_valid j = 1) ∧
    (s.laneState j = hlkFault → s.fld .HLK_STATUS_cause j = 4 ∨ s.fld .HLK_STATUS_cause j = 7 →
      ∃ t : State, exec (.laneFaultRetry j) s = .next t ∧ t.laneState j = hlkLocking)) ∧
  (∀ (s : State) (j tag a d : Nat) (m : CtlMsg) (c : Cmd) (op : Nat), s.ctlMsg j tag = some m → m.why = .host c op →
    let u := s.setLane j ((s.lane j).answered tag s.tick)
    (m.write = false → exec (.readRsp j tag a d) s = .next (u.completeCmd c op ⟨.ok, le 4 d⟩)) ∧
    (m.write = true → exec (.writeAck j tag a) s = .next (u.completeCmd c op (rsp .ok))) ∧
    exec (.nak j tag d) s = .next (u.completeCmd c op ⟨.fault, [byte d]⟩) ∧
    (m.repeats < 3 → ∃ t : State, exec (.controlRepeat j tag) s = .next t ∧ (t.lane j).toSend = (s.lane j).toSend ++ [tag] ∧
      (t.lane j).out.length = (s.lane j).out.length)) ∧
  (∀ (s : State) (j code : Nat), exec (.event j code) s
    = .next (s.setLane j { s.lane j with events := (code :: (s.lane j).events).take 16 })) ∧
  (∀ (s : State) (ch m : Nat), (s.lane (headOf ch)).out.any (fun x => x.why == .coupling ch) = true → (s.chan ch).cplMode = some m →
    ∃ t : State, exec (.couplingTimeout ch) s = .next t ∧ t.fld .CHN_STATUS_coupling_pending ch = 0 ∧
      t.grid.changes = s.grid.changes ++ [.state ch chFault 2]) ∧
  (∀ s : State, s.isSealed = true → s.fld .HLK_ALIGN_a_valid 0 = 0 → (List.range 8).filter s.laneUsed ≠ [] →
    (∀ j : Nat, j < 8 → s.laneUsed j = true → s.laneState j = hlkAligned) → ∃ t : State, exec .alignmentDelayFix s = .next t ∧
      (∀ j : Nat, j < 8 → s.laneUsed j = true → s.fld .HLK_DELAY_u_cal j ≤ t.grid.a) ∧ t.fld .HLK_ALIGN_a_valid 0 = 1) ∧
  (∀ (s : State) (c : Cmd) (j a d : Nat), s.Takes c → j ≤ 7 → c.pnl = 0 →
    exec (.hlkQuery c j) s = .next (s.answer c 0x0801 ⟨.ok, (s.hlkWords j).flatMap (le 4)⟩) ∧
    (s.laneState j = hlkAligned → (s.lane j).out = [] →
      (∃ t : State, exec (.hlkHeadRead c j a) s = .next t ∧ (t.lane j).toSend = (s.lane j).toSend ++ [(s.lane j).nextTag] ∧
        t.mgmt.deferred = s.mgmt.deferred ++ [⟨0x0802, c, 0, s.inBand 0⟩]) ∧
      (s.expertOk 0 = true → 0x8000 ≤ a → ∃ t : State, exec (.hlkHeadWrite c j a d) s = .next t ∧
        (t.lane j).toSend = (s.lane j).toSend ++ [(s.lane j).nextTag] ∧
        t.mgmt.deferred = s.mgmt.deferred ++ [⟨0x0803, c, 0, s.inBand 0⟩])) ∧
    (s.laneState j = hlkFault → ∃ t : State, exec (.hlkRealign c j) s = .next (t.answer c 0x0804 (rsp .ok)) ∧ t.laneState j = hlkLocking)) ∧
  (∀ (s : State) (ch path p : Nat), path ≤ 1 → (s.gauge ch).next.getD path none = some p → (s.gauge ch).wait = [] →
    (s.gauge ch).prev.length = 2 → s.fld .GAU_CH_STATUS_no_gauge ch = 0 → ∃ t : State,
    exec (.gaugeSampleDeadline ch path p) s = .next t ∧ (t.gauge ch).next.getD path none = some (p + 1) ∧
      bit ((t.gauge ch).prev.getD path {}).flags fGap = true) ∧
  (∀ (s : State) (ch w fl p : Nat) (rest : List (Nat × Nat × Nat)), (s.gauge ch).chainI.ready = (w, fl, p) :: rest →
    (s.gauge ch).chainI.outN + 1 ≠ (s.gauge ch).chainQ.outN → ∃ t : State, exec (.chainOutput ch 0) s = .next t ∧
      (t.gauge ch).chainI.ready = rest) ∧
  (∀ (s : State) (ch : Nat), (s.gauge ch).item.flag 1 = true → (s.gauge ch).excDue = false → s.gState ch = gIdle →
    s.flag .GAU_CH_CFG_exc_on ch = true → s.laneAligned (headOf ch) = true →
    ∃ t : State, exec (.excitationInterval ch true) s = .next t ∧ t.gState ch = gExciting ∧ (t.gauge ch).excDue = true) ∧
  (∀ (s : State) (ch : Nat), (s.gauge ch).item.chkInterval ≠ 0 → s.laneAligned (headOf ch) = true →
    s.flag .GAU_CH_STATUS_no_gauge ch = false → s.gState ch = gIdle →
    ∃ t : State, exec (.checkDue ch) s = .next t ∧ t.gState ch = gChecking) ∧
  (∀ (s : State) (c : Cmd) (ch : Nat), s.Takes c → ch ≤ 191 → s.mayName c.pnl ch = true → s.laneAligned (headOf ch) = true →
    s.flag .GAU_CH_STATUS_no_gauge ch = false →
    exec (.gauQuery c ch) s = .next (s.answer c 0x3801 ⟨.ok, le 4 (s.gauStatusWord ch) ++ le 4 (s.fld .GAU_CH_Z_z (2 * ch))
      ++ le 4 (s.fld .GAU_CH_Z_z (2 * ch + 1))⟩) ∧
    (s.gState ch = gIdle →
      (∃ t : State, exec (.gauCheck c ch) s = .next (t.answer c 0x3802 (rsp .ok)) ∧ t.gState ch = gChecking) ∧
      (∃ t : State, exec (.gauCalibrate c ch []) s = .next (t.answer c 0x3803 (rsp .ok)) ∧ t.gState ch = gChecking) ∧
      (∀ v : Nat, v ≤ 1 → ∃ t : State, exec (.gauExcite c ch [v]) s = .next (t.answer c 0x3804 (rsp .ok)) ∧
        t.fld .GAU_CH_CFG_exc_on ch = v))) ∧
  (∀ (s : State) (i tick : Nat) (up : Bool), s.rst.pwr ≠ .keep → i < 4 → (tget {} i s.gau.blanks).high ≠ up → s.armChans i = [] →
    s.castOn = false → ∃ t : State, exec (.blankEdge i up tick) s = .next t ∧ bit (t.fld .GAU_BLANK_STATUS_pin 0) i = up) ∧
  (∀ (s : State) (i : Nat), i < 4 → (tget {} i s.gau.blanks).high = false →
    ∃ t : State, exec (.blankExtensionEnd i) s = .next t ∧ bit (t.fld .GAU_BLANK_STATUS_asserted 0) i = false) ∧
  (∀ (s : State) (ch : Nat), s.flag .CHN_TM_STATUS_armed ch = true →
    ∃ t : State, exec (.armExpiry ch) s = .next t ∧ t.flag .CHN_TM_STATUS_armed ch = false) ∧
  (∀ (s : State) (ch n : Nat) (d0 d1 : Rat), s.castRecords ch = true → s.inDead ch n = false → s.waveD ch (n - 1) = some d0 →
    s.waveD ch n = some d1 → absRat d0 < s.waveLimit ch n → s.waveLimit ch n ≤ absRat d1 →
    (∀ i : Nat, i < 200 → (s.waveD ch (n + 1 + i)).isSome = true) →
    ∃ t : State, exec (.wavefrontArrival ch n) s = .next t ∧ t.fld .SRG_CNT2_arr_head 0 = (s.fld .SRG_CNT2_arr_head 0 + 1) % 4096) ∧
  (∀ (s : State) (ch : Nat), ∃ t : State, exec (.deadTimeEnd ch) s = .next t ∧ tfind ch t.gau.dead = none) ∧
  (∀ (s : State) (r : Nat), r < 8 → (s.region r).st = .collecting →
    ∃ t : State, exec (.regionCollected r) s = .next t ∧ (t.region r).st = .held ∧ t.fld .SRG_REGION_state r = 2) ∧
  (∀ (s : State) (r ch t0 : Nat) (xs : List Nat) (i : PanelItem), (s.region r).st = .exporting →
    s.toHostRoom (s.region r).cmd.pnl (s.region r).cls = true → s.exportChan (s.region r) (s.region r).expCh = some ch →
    exportPiece (s.heldBlocks (s.region r) ch) (if ch = (s.region r).expCh then (s.region r).expAt else 0) = some (t0, xs) →
    s.panelItem (s.region r).cmd.pnl = some i → s.prpOn = false → ∃ (t : State) (f : EgFrame), exec (.exportMessage r) s = .next t ∧
      t.host.egress = s.host.egress ++ [f] ∧ f.order = 4 ∧ f.panel = (s.region r).cmd.pnl ∧ f.cls = (s.region r).cls) ∧
  (∀ (s : State) (c : Cmd) (r : Nat), s.Takes c → c.pnl = 0 → s.inForce 6 = true →
    (r < s.pat.cast.regions →
      exec (.srgQuery c r) s = .next (s.answer c 0x3A01 ⟨.ok, le 4 s.srgStatusWord ++ le 4 (s.srgRegionWord r)
        ++ le 8 (if (s.region r).st ≠ .free then (s.region r).trig else 0)
        ++ le 8 (if (s.region r).st ≠ .free then s.regionFirst (s.region r) else 0)⟩) ∧
      ((∀ e ∈ s.gau.regions, e.2.st ≠ .collecting) → (s.region r).st = .free → (∀ q : Nat, q < r → (s.region q).st ≠ .free) →
        ∃ t : State, exec (.srgFreeze c []) s = .next (t.answer c 0x3A02 (rsp .ok)) ∧ (t.region r).st = .collecting) ∧
      (∀ (cls : Nat) (mask : List Nat), cls ≤ 7 → mask.length = 24 → (s.region r).st = .held →
        ∃ t : State, exec (.srgExport c (r :: cls :: mask)) s = .next (t.answer c 0x3A03 (rsp .ok)) ∧ (t.region r).st = .exporting) ∧
      ((s.region r).st = .held → ∃ t : State, exec (.srgRelease c r) s = .next (t.answer c 0x3A04 (rsp .ok)) ∧ t.region r = {})) ∧
    (∀ (n : Nat) (a : Arrival), n ≤ 4095 → tfind n s.gau.arrivals = some a →
      exec (.srgArrivalRead c n) s = .next (s.answer c 0x3A05 ⟨.ok, a.bytes⟩)))

/-- The rows SERIAL_CHARACTER_RX to CONTACT_INPUT_EDGE of the opcode table (chapters 9 and 14 to 20). -/
def Obligations.FieldAndServiceRowsComplete : Prop :=
  (∀ (s : State) (n : Nat),
    (∀ (d tick : Nat) (i : SerItem), (s.port n).item = some i → (s.port n).armed = true → (s.port n).rxPend = false →
      (s.port n).ovrNext = false → i.function = 1 → i.cls ≠ 1 → bit i.fmt 4 = false → bit i.fmt 5 = false → bit i.fmt 0 = true →
      (s.port n).rx.length < 64 → ∃ t : State, exec (.serialCharacterRx n d false true true tick) s = .next t ∧
        (t.port n).rx = (s.port n).rx ++ [d % 256]) ∧
    ((s.port n).armed = false → ∃ t : State, exec (.framingRearm n) s = .next t ∧ (t.port n).armed = true) ∧
    ((s.port n).messages = true → (s.port n).rx = [] → (s.port n).ready = [] → (s.port n).run ≠ [] → (s.port n).run.any badChar = true →
      ∃ t : State, exec (.serialGapClose n) s = .next t ∧ (t.port n).run = []) ∧
    ((s.port n).messages = true → (s.port n).rx = [] → (s.port n).ready = [] → (s.port n).run ≠ [] → (s.port n).run.any badChar = false →
      ∃ u : State, exec (.serialGapClose n) s = .next (u.giveSerial 64 n) ∧ (u.port n).run = [] ∧
        (u.port n).ready = [(s.port n).run.map (fun c => byte c)]) ∧
    (∀ (c : Nat) (l : List Nat), (s.port n).tx = c :: l → (s.port n).swap = none → (s.port n).txPend = false → s.dlv.done = [] →
      ∃ t : State, exec (.serialCharacterTx n) s = .next t ∧ (t.port n).shift = some c ∧ t.fld .SER_STATUS_de n = 1) ∧
    ((s.port n).tx = [] → (s.port n).swap = none → s.fld .SER_STATUS_de n = 1 →
      ∃ t : State, exec (.deRelease n) s = .next t ∧ t.fld .SER_STATUS_de n = 0) ∧
    ((s.port n).classF = true → (s.port n).shift = none → (s.port n).tx = [] → s.fld .SER_STATUS_osc_on n = 1 →
      ∃ t : State, exec (.oscStop n) s = .next t ∧ t.fld .SER_STATUS_osc_on n = 0) ∧
    (∀ c : Cmd, s.Takes c → n ≤ 7 → c.pnl = 0 ∨ s.portOwner n = c.pnl →
      exec (.serQuery c n) s = .next (s.answer c 0x4001 ⟨.ok, (s.serWords n).flatMap (le 4)⟩) ∧
      ((s.port n).func ≠ 0 → s.dlv.done = [] → ∃ t : State, exec (.serFlush c n 3) s = .next (t.answer c 0x4002 (rsp .ok)) ∧
        (t.port n).rx = [] ∧ (t.port n).tx = []))) ∧
  (∀ (s : State) (i : Nat), i ≤ 15 →
    (∀ (tick : Nat) (h : Bool), ∃ t : State, exec (.contactInputEdge i h tick) s = .next t ∧ bit (t.fld .CMD_IN_STATE_pin 0) i = h) ∧
    (∀ (tk : Nat) (h : Bool) (c : ContactItem), s.contact i = some c → c.function = 1 → tfind i s.cmd.edges = some (h, tk) →
      xor h c.invert ≠ s.inputOn i → ∃ t : State, exec (.contactChangeAccepted i) s = .next t ∧ t.inputOn i = xor h c.invert) ∧
    (∀ g : GroupItem, s.groupItem i = some g → (s.group i).built = true → g.refreshMs ≠ 0 → ∃ t : State,
      exec (.commandRefresh i) s = .next t ∧ (t.group i).sentAt = max s.tick ((s.group i).sentAt + g.refreshMs * 200000)) ∧
    (∀ (m : List Byte) (o : ContactItem), m.length = 8 → beAt m 0 1 = 0xC1 → beAt m 1 1 = 1 → (s.group i).rxSeq = none →
      s.groupOutputs i = [o] → bit (beAt m 4 2) o.bitpos = true → o.mode ≠ 1 → o.contact < 16 → ∃ t : State,
      exec (.commandMessage i m) s = .next t ∧ (t.outPin o.contact).active = bit (beAt m 6 2) o.bitpos) ∧
    (∀ c : ContactItem, s.contact i = some c → c.function = 2 →
      (c.mode = 0 → c.watchMs ≠ 0 → (s.outPin i).watched = false → (s.group c.group).seen = true →
        ∃ t : State, exec (.cmdWatch i) s = .next t ∧ t.outPin i = { s.outPin i with active := false, watched := true }) ∧
      ((s.outPin i).pulse = true →
        ∃ t : State, exec (.pulseEnd i) s = .next t ∧ t.outPin i = { s.outPin i with active := false, pulse := false }) ∧
      ((s.outPin i).forced ≠ none → ∃ t : State, exec (.cmdForceEnd i) s = .next t ∧ (t.outPin i).forced = none)) ∧
    (∀ c : Cmd, s.Takes c → c.pnl = 0 ∨ s.contactOwner i = c.pnl →
      exec (.cmdQuery c i) s = .next (s.answer c 0x4101 ⟨.ok,
        le 4 (s.fld .CMD_IN_STATE_asserted 0 + 65536 * s.fld .CMD_IN_STATE_pin 0)
          ++ le 4 (s.fld .CMD_OUT_STATE_active 0 + 65536 * s.fld .CMD_OUT_STATE_forced 0) ++ le 4 (s.contactWord i)⟩) ∧
      (∀ lv ms : Nat, lv ≤ 1 → 1 ≤ ms → ms ≤ 60000 → s.expertOk c.pnl = true → s.isOutput i = true → ∃ t : State,
        exec (.cmdForce c i lv ms) s = .next (t.answer c 0x4102 (rsp .ok)) ∧ (t.outPin i).forced = some (lv == 1)) ∧
      (s.isOutput i = true → (s.outPin i).forced ≠ none → ∃ t : State,
        exec (.cmdRelease c i) s = .next (t.answer c 0x4103 (rsp .ok)) ∧ (t.outPin i).forced = none))) ∧
  (∀ (s : State) (ch a r : Nat) (m : List Byte) (it : DormItem), m.length = 8 → beAt m 0 1 = 1 → beAt m 1 1 = 1 →
    s.dormItem ch = some it → s.recOf ch a = none → s.firstFree = some r → ∃ t : State, exec (.sleepReq ch a m) s = .next t ∧
      (t.drec r).st = .syncing ∧ (t.drec r).ch = ch ∧ (t.drec r).addr = a) ∧
  (∀ (s : State) (r : Nat),
    (∀ k : Nat, (s.drec r).st = .syncing → (s.drec r).grantAck = some k → (s.drec r).wsSeen = false →
      ∃ t : State, exec (.syncingTimeout r) s = .next t ∧ t.drec r = {}) ∧
    (∀ w : Nat × Nat, (s.drec r).st = .dormant →
      (s.listenWindow (s.drec r) = some w → (s.drec r).winOpen = none → ∃ t : State, exec (.listenWindowOpen r) s = .next t ∧
        (t.drec r).winOpen = some w) ∧
      ((s.drec r).winOpen = some w → (s.drec r).closed = false → (s.drec r).kept = false → ∃ t : State,
        exec (.listenWindowClose r) s = .next t ∧ (t.drec r).closed = true ∧ (t.drec r).misses = (s.drec r).misses + 1)) ∧
    (∀ k : Nat, k = s.grid.slot + s.commitAhead → (s.drec r).st = .waking → (s.drec r).toneWait = true →
      s.drm.tones.any (fun t => t.ch == (s.drec r).ch) = false → s.dlv.segs = [] → s.dlv.copies = [] → s.grid.committed = [] →
      s.effState (s.drec r).ch = chLive →
      s.duplexHeld (s.drec r).ch k (ceilDiv (toneLen (((s.dormItem (s.drec r).ch).map (·.toneReps)).getD 1)) s.ls) = false →
      s.maskedFor (s.drec r).ch [toneCarrier (s.drec r).carrier] 0 = false → ∃ t : State, exec (.wakeSequenceStart r) s = .next t ∧
        (t.drec r).seqs = (s.drec r).seqs + 1 ∧ (t.drec r).toneWait = false) ∧
    ((s.drec r).st = .waking → (s.drec r).toneWait = false → (s.drec r).seqs ≠ 0 → s.drm.tones.any (fun t => t.rix == r) = false →
      (s.drec r).seqs < s.fld .DRM_CFG_tone_tries 0 → ∃ t : State, exec (.wakeListenExpiry r) s = .next t ∧ (t.drec r).toneWait = true) ∧
    ((s.drec r).st = .awake → (s.drec r).since + (s.drec r).hold ≤ s.grid.hem → ∃ t : State, exec (.awakeHoldExpiry r) s = .next t ∧
      (t.drec r).st = .dormant)) ∧
  (∀ (s : State) (ch r : Nat) (f : RxFrame), s.heard ch (fun fc => fc.typ == 6) = some f → s.chState ch = chTraining → f.fc.typ = 6 →
    f.fc.ver = 0 → f.fc.link = s.fld .CHN_CFG_link_id ch → f.fc.dst = s.ownAddr ch → wsDir f.fc.body = 0 →
    s.fld .CHN_STATUS_role ch = 0 → s.isBanned ch f.fc.src = false → s.recOf ch f.fc.src = some r → (s.drec r).st ≠ .syncing →
    wsKind f.fc.body = 1 → ∃ t : State, exec (.wakeSyncRx ch) s = .next t ∧ (t.drec r).misses = 0 ∧ (t.drec r).seqs = 0) ∧
  (∀ (s : State) (ch k : Nat) (w : WakeOwe), s.drm.owe.find? (fun w => w.ch == ch) = some w → s.effState ch = chLive →
    s.replySlot w = some k → ∃ (t : State) (f : Frame), exec (.wakeSyncReply ch) s = .next t ∧ t.drm.owe = s.drm.owe.erase w ∧
      t.grid.committed = s.grid.committed ++ [f] ∧ f.slot = k ∧ f.kind = .wakeReply) ∧
  (∀ (s : State) (c : Cmd), s.Takes c →
    (∀ r : Nat, r < s.recLimit → c.pnl = 0 → s.inForce 9 = true →
      exec (.drmQuery c r) s = .next (s.answer c 0x3001 ⟨.ok, ((recWords (s.drec r)).map (le 4)).flatten⟩) ∧
      ((s.drec r).st ≠ .free → ∃ t : State, exec (.drmRelease c r) s = .next (t.answer c 0x3003 (rsp .ok)) ∧ t.drec r = {}) ∧
      ((s.drec r).st = .dormant → ∃ t : State, exec (.drmWake c r) s = .next (t.answer c 0x3002 (rsp .ok)) ∧ (t.drec r).st = .waking)) ∧
    (∀ part : Nat, part ≤ 1 → exec (.pnlQuery c part) s
      = .next (s.answer c 0x3E01 ⟨.ok, (s.pnlWords c.pnl part).flatMap (le 4)⟩)) ∧
    (∀ a n : Nat, 1 ≤ n → n ≤ 6 → (∀ i : Nat, i < n → s.inAlias c.pnl (a + 4 * i) = true) →
      let r := (List.range n).foldl (fun (x : List Nat × State) i =>
        let (w, u) := x.2.regRead c.pnl (a + 4 * i) []
        (x.1 ++ [w], u)) ([], s)
      exec (.regRead c a n) s = .next (r.2.answer c 0x3E02 ⟨.ok, r.1.flatMap (le 4)⟩)) ∧
    (∀ (a : Nat) (ws : List Nat), 1 ≤ ws.length → ws.length ≤ 12 → (∀ i : Nat, i < ws.length → s.inAlias c.pnl (a + 4 * i) = true) →
      exec (.regWrite c a ws) s
        = .next ((ws.zipIdx.foldl (fun (u : State) e => u.regWrite c.pnl (a + 4 * e.2) e.1) s).answer c 0x3E03 (rsp .ok)).pump) ∧
    (c.pnl = 0 → (∀ b : Nat, b ≤ 255 → exec (.bobQuery c b) s = .next (s.answer c 0x4201 ⟨.ok, le 4 (s.bobWord b)⟩)) ∧
      (s.narrow = false → ∃ x : List Byte, exec (.hbmQuery c) s = .next (s.answer c 0x5001 ⟨.ok, x⟩) ∧ x.length = 12)) ∧
    (∀ (i : Nat) (e : Ev), (s.evFrom (s.fld .EVT_PNL_RD_rd c.pnl)).find? (fun e => evFor c.pnl e.2) = some (i, e) →
      ∃ t : State, exec (.evtRead c) s = .next (t.answer c 0x6001 ⟨.ok, evBytes e⟩) ∧ t.fld .EVT_PNL_RD_rd c.pnl = (i + 1) % 8192) ∧
    (∀ sev irq : Nat, sev ≤ 3 → irq ≤ 3 → ∃ t : State, exec (.evtCfg c sev irq) s = .next (t.answer c 0x6002 (rsp .ok)) ∧
      t.fld .EVT_PNL_CFG_sev_min c.pnl = sev) ∧
    (c.pnl = 0 → s.mgmt.snapPend = false → ∃ t : State, exec (.telSnap c) s = .next (t.answer c 0x7001 (rsp .ok)) ∧
      t.mgmt.snapPend = true) ∧
    (∀ (back w n : Nat) (x : Snap), c.pnl = 0 → 1 ≤ n → n ≤ 6 → s.narrow = false → s.mgmt.snaps[back]? = some x → w + n ≤ telWords →
      exec (.telRead c back w n) s = .next (s.answer c 0x7002 ⟨.ok, (List.range n).flatMap (fun k => le 4 (snapWord x (w + k)))⟩))) ∧
  (∀ s : State, s.snapDue = true → s.isSealed = true → s.grid.running = true → s.narrow = false → ∃ (t : State) (x : Snap) (n : Nat),
    exec .telemetrySnapshot s = .next t ∧ t.mgmt.snapWr = some (x, n) ∧ x.seq = s.mgmt.snapSeq ∧ x.hem = s.grid.hem ∧ x.tick = s.tick) ∧
  (∀ (s : State) (b cause : Nat), b ≤ 255 → (s.bobbin b).fault = false →
    ∃ t : State, exec (.bobbinFault b cause) s = .next t ∧ (t.bobbin b).fencing = some cause) ∧
  (∀ (s : State) (b n : Nat), s.bob.moves.contains b = true → s.spare = some n → n ≠ b → ∃ t : State, exec (.bobMove b) s = .next t ∧
    (t.bobbin n).role = (s.bobbin b).role ∧ (t.bobbin b).role = 0) ∧
  (∀ (s : State) (a pc : Nat), s.memUp = true →
    (s.hbm.ueHem < 15 → ∃ t : State, exec (.hbmUe a 2) s = .next t ∧
      t.fld .HBM_ECC_CNT_ue 0 = min (s.fld .HBM_ECC_CNT_ue 0 + 1) 255) ∧
    (pc ≤ 127 → ∃ t : State, exec (.hbmRecalibration pc) s = .next t ∧ tget 0 pc t.hbm.calAt = s.tick)) ∧
  (∀ s : State, s.ldr.storing = none → logChunk ≤ s.hbm.staged.length →
    ∃ t : State, exec (.logFlashWrite true) s = .next t ∧ t.hbm.staged = s.hbm.staged.drop logChunk) ∧
  (∀ (s : State) (p : Nat), p ≤ 23 → ∃ t : State, exec (.pipeFence p) s = .next t ∧ t.fld .PIPE_STATUS_fenced p = 1) ∧
  (∀ (s : State) (pool unit : Nat), pool ≤ 1 → unit ≤ (if pool = 0 then 47 else 31) → s.isFenced (blkVit + pool) unit = false →
    s.grid.running = true → exec (.codUnitFenced pool unit) s = .next (s.request (.decUnits pool unit))) ∧
  (∀ s : State, s.grid.running = true → ∃ t : State, exec .overlockFence s = .next t ∧ .olaFence ∈ t.grid.changes) ∧
  (∀ s : State, s.flag .HBM_STATUS_fenced 0 = false → s.grid.running = true →
    ∃ t : State, exec .memFence s = .next t ∧ t.fld .HBM_STATUS_fenced 0 = 1) ∧
  (∀ (s : State) (p : Nat), p ≤ 1 → s.host.failed.contains p = false → s.grid.running = true →
    ∃ t : State, exec (.hostPortFail p) s = .next t ∧ t.linkUp p = false ∧ t.host.failed = s.host.failed ++ [p]) ∧
  (∀ (s : State) (c : Cmd), s.Takes c →
    exec (.secQuery c) s = .next (s.answer c 0x0401 ⟨.ok, le 4 s.secStatusWord
      ++ le 4 (s.fld .SEC_ROLLBACK_fw_level 0 + 256 * s.fld .SEC_ROLLBACK_pat_level 0) ++ le 8 s.fuseId⟩) ∧
    (c.pnl = 0 →
      (∀ (off : Nat) (l : List Byte), 1 ≤ l.length → l.length ≤ 52 → off + l.length ≤ 65536 → s.sec.report = false → ∃ t : State,
        exec (.secStage c off l) s = .next (t.answer c 0x0402 (rsp .ok)) ∧ t.sec.stage = memStores s.sec.stage off l) ∧
      (∀ i : Nat, s.inBand 0 = false → s.sec.owners.length = 4 → memBe s.sec.stage 0 4 = 0x47575945 → memBe s.sec.stage 4 1 = 1 →
        memBe s.sec.stage 5 3 = 0 → memBe s.sec.stage 1809 3 = 0 → memBe s.sec.stage 8 8 = s.fuseId → s.owned = false →
        s.freeOwner 0 = some i → ∃ t : State, exec (.secEnrol c []) s = .next (t.answer c 0x0403 (rsp .ok)) ∧ t.ownerSlot = some i) ∧
      (∀ l : List Byte, 5 ≤ l.length → l.length ≤ 56 → leAt l 0 4 + (l.length - 4) ≤ 2 ^ 26 → ∃ t : State,
        exec (.secFwWrite c l) s = .next (t.answer c 0x0404 (rsp .ok)) ∧ (tget {} s.fwOther t.sec.parts).valid = false) ∧
      (∃ t : State, exec (.secFwCommit c []) s = .next (t.answer c 0x0405
          (rsp (if s.imageOk (tget {} s.fwOther s.sec.parts).bytes then .ok else .denied))) ∧
        (tget {} s.fwOther t.sec.parts).valid = s.imageOk (tget {} s.fwOther s.sec.parts).bytes) ∧
      (memBe s.fwImage 16 4 ≤ 64 → s.fld .SEC_ROLLBACK_fw_level 0 < memBe s.fwImage 16 4 → ∃ t : State,
        exec (.secRollbackAdvance c [0]) s = .next (t.answer c 0x0406 (rsp .ok)) ∧
          t.fld .SEC_ROLLBACK_fw_level 0 = memBe s.fwImage 16 4) ∧
      (s.flag .SEC_STATUS_debug_lock 0 = false → s.owned = true → ∃ (t : State) (x : List Byte),
        exec (.secDebugChallenge c []) s = .next (t.answer c 0x0409 ⟨.ok, x⟩) ∧ x.length = 24 ∧ t.sec.chal = some (x, s.tick)) ∧
      (let m := s.sec.stage
       let good : Bool := memBe m 0 4 == 0x47575944 && decide (memBe m 4 1 < 8) && memBe m 5 3 == 0 && decide (1 ≤ memBe m 8 4) &&
         decide (memBe m 8 4 ≤ 86400) && memBe m 12 8 == s.fuseId && !s.flag .SEC_STATUS_debug_lock 0 &&
         s.sec.chal.any (fun x => x.1 == memSlice m 20 24 && decide (s.tick ≤ x.2 + secTicks 60)) &&
         s.ownerKey.any (fun k => Config.falconVerify k (Config.shake256 (memSlice m 0 44)) (memSlice m 44 1280))
       ∃ t : State, exec (.secDebugOpen c []) s = .next (t.answer c 0x040A (rsp (if good then .ok else .denied))) ∧ t.sec.chal = none ∧
         t.fld .SEC_STATUS_debug_open 0 = (if good then 1 else s.fld .SEC_STATUS_debug_open 0)) ∧
      (s.flag .SEC_STATUS_loop_open 0 = false → ∃ t : State, exec (.secTamperClear c []) s = .next (t.answer c 0x040F (rsp .ok)) ∧
        t.fld .SEC_STATUS_tamper 0 = 0)) ∧
    (∀ l : List Byte, l.length = 32 → ∃ t : State, exec (.secAttest c l) s = .next (t.answer c 0x0407 (rsp .ok)) ∧ t.sec.report = true) ∧
    (∀ l : List Byte, l.length = 3 → 1 ≤ leAt l 2 1 → leAt l 2 1 ≤ 24 → leAt l 0 2 + leAt l 2 1 ≤ s.sec.stageLen →
      exec (.secRead c l) s = .next (s.answer c 0x0408 ⟨.ok, memSlice s.sec.stage (leAt l 0 2) (leAt l 2 1)⟩)) ∧
    (∀ l : List Byte, l.length = 33 → leAt l 0 1 ≤ 3 → s.right c.pnl 4 = true → s.slotInUse c.pnl (leAt l 0 1) = false → ∃ t : State,
      exec (.secKeySet c l) s = .next (t.answer c 0x040B (rsp .ok)) ∧ t.linkKey c.pnl (leAt l 0 1) = some ⟨l.drop 1, 0⟩) ∧
    (∀ l : List Byte, l.length = 1 → leAt l 0 1 ≤ 3 → s.right c.pnl 4 = true → s.slotInUse c.pnl (leAt l 0 1) = false → ∃ t : State,
      exec (.secKeyClear c l) s = .next (t.answer c 0x040D (rsp .ok)) ∧ t.linkKey c.pnl (leAt l 0 1) = none) ∧
    (∀ (l : List Byte) (o : Nat), l.length = 2 → leAt l 0 1 ≤ 191 → s.mayName c.pnl (leAt l 0 1) = true → leAt l 1 1 ≤ 3 →
      s.owner (leAt l 0 1) = some o → (s.linkKey o (leAt l 1 1)).isSome = true → ∃ t : State,
      exec (.secKeyTx c l) s = .next (t.answer c 0x040C (rsp .ok)) ∧ t.txSlot (leAt l 0 1) = some (leAt l 1 1)) ∧
    (∀ l : List Byte, l.length = 33 → leAt l 0 1 = c.pnl → c.pnl ≤ 15 → ∃ t : State,
      exec (.secOhiKey c l) s = .next (t.answer c 0x040E (rsp .ok)) ∧ tfind c.pnl t.sec.ohiKeys = some (l.drop 1))) ∧
  (∀ s : State, (s.flag .SEC_STATUS_loop_open 0 = false → s.fld .SEC_CFG_tamper_mode 0 = 1 →
      ∃ t : State, exec .tamperOpen s = .next t ∧ t.fld .SEC_STATUS_tamper 0 = 1 ∧ t.sec.keys = []) ∧
    (∃ t : State, exec .tamperLoopClosed s = .next t ∧ t.fld .SEC_STATUS_loop_open 0 = 0) ∧
    (s.flag .SEC_STATUS_debug_open 0 = true → ∃ t : State, exec .debugClose s = .next t ∧ t.fld .SEC_STATUS_debug_open 0 = 0)) ∧
  (∀ (s : State) (i : Nat) (c : Instr), (c = .brownOut ∧ i = 1 ∨ c = .resetNLow ∧ i = 2 ∨
      (∃ d : Nat, d ≤ 4 ∧ c = .watchdogExpiry d ∧ i = 3 + d) ∨ c = .clockFailure ∧ i = 0xA ∨ c = .lockUp ∧ i = 0xB ∨
      c = .dbgReqNLow ∧ i = 9 ∧ s.flag .SEC_STATUS_debug_open 0 = true ∧ bit (s.fld .SEC_STATUS_scope 0) 0 = true) →
    s.rst.pwr ≠ .keep → s.rst.off = false → 2 ≤ s.mapOf i → s.resetLevel < s.mapOf i →
    ∃ t : State, exec c s = .next t ∧ t.rst.level = some (s.mapOf i) ∧ t.rst.boot = 1 ∧ t.full = none) ∧
  (∀ (s : State) (t0 : Nat), s.rst.soft = some (3, t0) → s.rst.pwr ≠ .keep → s.rst.off = false → s.resetLevel < 3 →
    ∃ t : State, exec .softwareResetAssert s = .next t ∧ t.rst.level = some 3 ∧ t.rst.soft = none) ∧
  (∀ (s : State) (b m : Nat), b < 4 → m < 16 → ∃ t : State, exec (.powerOn b m) s = .next t ∧ t.rst.level = some 3 ∧
    t.fld .PWR_STRAPS_boot_sel 0 = b ∧ t.fld .PWR_STRAPS_mod_addr 0 = m) ∧
  (∀ s : State, (s.heldReset = false → s.rst.level = some 3 → ∃ t : State, exec .resetRelease s = .next t ∧ t.rst.level = none) ∧
    (s.rst.level = none → s.rst.boot = 1 → s.rst.off = false → ∃ t : State, exec (.firmwareVerified true) s = .next t ∧ t.rst.boot = 2) ∧
    (s.rst.level = none → s.rst.boot = 2 → ∃ t : State, exec (.memoryTrainingDone true) s = .next t ∧ t.rst.boot = 0 ∧
      t.fld .HBM_STATUS_trained 0 = 15)) ∧
  (∀ (s : State) (typ idx : Nat) (e : Nat × Nat × Cmd), s.rst.blocks.find? (fun e => e.1 == typ && e.2.1 == idx) = some e →
    let u := (s.updRst (fun r => { r with blocks := r.blocks.erase e })).bump .RST_CNT_block_cnt 0
    (typ = 5 ∨ typ = 6 → s.isFenced typ idx = true → s.grid.running = true → exec (.blockResetComplete typ idx true) s
      = .next ((u.request (.decBack (typ - 5) idx)).completeCmd e.2.2 0x0103 (rsp .ok))) ∧
    (typ = 0 → exec (.blockResetComplete typ idx false) s
      = .next (((u.fence 0 idx).setFlag .PIPE_STATUS_fenced idx true).completeCmd e.2.2 0x0103 (rsp .fault)))) ∧
  (∀ (s : State) (c : Cmd), s.Takes c → c.pnl = 0 →
    exec (.rstQuery c) s = .next (s.answer c 0x0101 ⟨.ok, le 4 (s.regWord 0x10004) ++ le 4 (s.regWord 0x10040)⟩) ∧
    (∀ l : Nat, 1 ≤ l → l ≤ 3 → l ≤ s.mapOf 8 → s.rst.soft = none → ∃ t : State,
      exec (.rstRequest c l) s = .next (t.answer c 0x0102 (rsp .ok)) ∧ t.rst.soft = some (l, s.tick + msTicks 1)) ∧
    (∀ typ idx : Nat, idx < blkCount typ → s.loader < 2 → s.rst.blocks.any (fun e => e.1 == typ && e.2.1 == idx) = false →
      s.blkIdle typ idx = true → ∃ t : State, exec (.rstBlock c typ idx) s = .next t ∧ t.rst.blocks = s.rst.blocks ++ [(typ, idx, c)]) ∧
    exec (.pwrQuery c) s = .next (s.answer c 0x0201 ⟨.ok, le 4 (s.regWord 0x20004) ++ le 4 (s.regWord 0x20008)⟩) ∧
    (s.rst.pwr = .run → s.flag .PWR_STATUS_input_ok 0 = true → (∀ ch : Nat, ch < 192 → s.effState ch ≠ chLive) →
      ∃ t : State, exec (.pwrKeep c []) s = .next (t.answer c 0x0202 (rsp .ok)) ∧ t.rst.pwr = .gasp)) ∧
  (∀ s : State,
    (∀ (dc : Bool) (bulk : Nat), s.flag .PWR_STATUS_input_ok 0 = true → ∃ t : State, exec (.inputLost dc bulk) s = .next t ∧
      t.fld .PWR_STATUS_input_ok 0 = 0 ∧ t.rst.lostAt = some s.tick) ∧
    (∀ bulk : Nat, s.flag .PWR_STATUS_input_ok 0 = false → s.rst.pwr = .run → ∃ t : State, exec (.inputReturn bulk) s = .next t ∧
      t.fld .PWR_STATUS_input_ok 0 = 1 ∧ t.rst.lostAt = none) ∧
    (∀ t0 : Nat, s.rst.lostAt = some t0 → s.rst.pwr = .run → s.mgmtUp = true → ∃ t : State, exec .gaspEntry s = .next t ∧
      t.rst.pwr = .gasp ∧ t.fld .PWR_STATUS_gasp 0 = 1) ∧
    (s.rst.pwr = .gasp → ∃ t : State, exec .keepEntry s = .next t ∧ t.rst.pwr = .keep) ∧
    (∀ tick : Nat, s.rst.pwr = .keep → s.rst.off = false → s.flag .PWR_STATUS_input_ok 0 = true → ∃ t : State,
      exec (.blank0KeepWake tick) s = .next t ∧ t.rst.pwr = .run ∧ t.rst.level = some 2) ∧
    (s.rst.pwr = .keep → s.flag .PWR_STATUS_input_ok 0 = false → ∃ t : State, exec .aonStoresExhausted s = .next t ∧ t.rst.off = true) ∧
    (∀ ok : Bool, exec (.vbatLevelChange ok) s = .next (s.setFlag .PWR_STATUS_vbat_ok 0 ok)) ∧
    (∀ (m25 : Bool) (ofs : Nat), s.mgmtUp = true → ∃ t : State, exec (.refclkValid m25 ofs) s = .next t ∧
      t.fld .PWR_CLK_STATUS_refclk_valid 0 = 1 ∧ t.fld .PWR_CLK_STATUS_ref_sel 0 = (if m25 then 2 else 1)) ∧
    (s.mgmtUp = true → s.flag .PWR_CLK_STATUS_refclk_valid 0 = true → ∃ t : State, exec .clkRefLost s = .next t ∧
      t.fld .PWR_CLK_STATUS_refclk_valid 0 = 0) ∧
    (s.fld .PWR_CLK_STATUS_slewing 0 = 1 → ∃ t : State, exec .clockSlewEnd s = .next t ∧ t.fld .PWR_CLK_STATUS_slewing 0 = 0) ∧
    (∃ t : State, exec .pwrXtal s = .next t ∧ t.fld .PWR_TOD_HI_tod_valid 0 = 0) ∧
    (∃ t : State, exec .ppsInTimeout s = .next t ∧ t.fld .PWR_CLK_STATUS_pps_valid 0 = 0) ∧
    (∀ temp : Nat, temp < 256 → s.mgmtUp = true → s.rst.heat = false → 85 ≤ signed 8 temp → signed 8 temp < 100 →
      s.flag .PWR_THERMAL_hot 0 = false → ∃ t : State, exec (.pwrHot temp) s = .next t ∧ t.fld .PWR_THERMAL_hot 0 = 1))
end

