-- ==== Sys2Proof/Laws/State.lean ====
section
/-! SUPPORT. What the plain updates of the state leave alone: one lemma per field per update. -/

namespace Sys2Proof.Machine

/-! `setFld` changes regs. -/

@[simp] theorem State.setFld_pending (s : State) (F : Fld) (i v : Nat) : (s.setFld F i v).pending = s.pending := rfl
@[simp] theorem State.setFld_tel (s : State) (F : Fld) (i v : Nat) : (s.setFld F i v).tel = s.tel := rfl
@[simp] theorem State.setFld_tick (s : State) (F : Fld) (i v : Nat) : (s.setFld F i v).tick = s.tick := rfl
@[simp] theorem State.setFld_free (s : State) (F : Fld) (i v : Nat) : (s.setFld F i v).free = s.free := rfl
@[simp] theorem State.setFld_mgmt (s : State) (F : Fld) (i v : Nat) : (s.setFld F i v).mgmt = s.mgmt := rfl
@[simp] theorem State.setFld_pat (s : State) (F : Fld) (i v : Nat) : (s.setFld F i v).pat = s.pat := rfl
@[simp] theorem State.setFld_full (s : State) (F : Fld) (i v : Nat) : (s.setFld F i v).full = s.full := rfl
@[simp] theorem State.setFld_grid (s : State) (F : Fld) (i v : Nat) : (s.setFld F i v).grid = s.grid := rfl
@[simp] theorem State.setFld_chans (s : State) (F : Fld) (i v : Nat) : (s.setFld F i v).chans = s.chans := rfl
@[simp] theorem State.setFld_ola (s : State) (F : Fld) (i v : Nat) : (s.setFld F i v).ola = s.ola := rfl
@[simp] theorem State.setFld_dlv (s : State) (F : Fld) (i v : Nat) : (s.setFld F i v).dlv = s.dlv := rfl
@[simp] theorem State.setFld_host (s : State) (F : Fld) (i v : Nat) : (s.setFld F i v).host = s.host := rfl
@[simp] theorem State.setFld_drm (s : State) (F : Fld) (i v : Nat) : (s.setFld F i v).drm = s.drm := rfl
@[simp] theorem State.setFld_tim (s : State) (F : Fld) (i v : Nat) : (s.setFld F i v).tim = s.tim := rfl
@[simp] theorem State.setFld_hlk (s : State) (F : Fld) (i v : Nat) : (s.setFld F i v).hlk = s.hlk := rfl
@[simp] theorem State.setFld_gau (s : State) (F : Fld) (i v : Nat) : (s.setFld F i v).gau = s.gau := rfl
@[simp] theorem State.setFld_ser (s : State) (F : Fld) (i v : Nat) : (s.setFld F i v).ser = s.ser := rfl
@[simp] theorem State.setFld_cmd (s : State) (F : Fld) (i v : Nat) : (s.setFld F i v).cmd = s.cmd := rfl
@[simp] theorem State.setFld_bob (s : State) (F : Fld) (i v : Nat) : (s.setFld F i v).bob = s.bob := rfl
@[simp] theorem State.setFld_hbm (s : State) (F : Fld) (i v : Nat) : (s.setFld F i v).hbm = s.hbm := rfl
@[simp] theorem State.setFld_sec (s : State) (F : Fld) (i v : Nat) : (s.setFld F i v).sec = s.sec := rfl
@[simp] theorem State.setFld_rst (s : State) (F : Fld) (i v : Nat) : (s.setFld F i v).rst = s.rst := rfl
@[simp] theorem State.setFld_ldr (s : State) (F : Fld) (i v : Nat) : (s.setFld F i v).ldr = s.ldr := rfl

/-! `setFlag` changes regs. -/

@[simp] theorem State.setFlag_pending (s : State) (F : Fld) (i : Nat) (b : Bool) : (s.setFlag F i b).pending = s.pending := rfl
@[simp] theorem State.setFlag_tel (s : State) (F : Fld) (i : Nat) (b : Bool) : (s.setFlag F i b).tel = s.tel := rfl
@[simp] theorem State.setFlag_tick (s : State) (F : Fld) (i : Nat) (b : Bool) : (s.setFlag F i b).tick = s.tick := rfl
@[simp] theorem State.setFlag_free (s : State) (F : Fld) (i : Nat) (b : Bool) : (s.setFlag F i b).free = s.free := rfl
@[simp] theorem State.setFlag_mgmt (s : State) (F : Fld) (i : Nat) (b : Bool) : (s.setFlag F i b).mgmt = s.mgmt := rfl
@[simp] theorem State.setFlag_pat (s : State) (F : Fld) (i : Nat) (b : Bool) : (s.setFlag F i b).pat = s.pat := rfl
@[simp] theorem State.setFlag_full (s : State) (F : Fld) (i : Nat) (b : Bool) : (s.setFlag F i b).full = s.full := rfl
@[simp] theorem State.setFlag_grid (s : State) (F : Fld) (i : Nat) (b : Bool) : (s.setFlag F i b).grid = s.grid := rfl
@[simp] theorem State.setFlag_chans (s : State) (F : Fld) (i : Nat) (b : Bool) : (s.setFlag F i b).chans = s.chans := rfl
@[simp] theorem State.setFlag_ola (s : State) (F : Fld) (i : Nat) (b : Bool) : (s.setFlag F i b).ola = s.ola := rfl
@[simp] theorem State.setFlag_dlv (s : State) (F : Fld) (i : Nat) (b : Bool) : (s.setFlag F i b).dlv = s.dlv := rfl
@[simp] theorem State.setFlag_host (s : State) (F : Fld) (i : Nat) (b : Bool) : (s.setFlag F i b).host = s.host := rfl
@[simp] theorem State.setFlag_drm (s : State) (F : Fld) (i : Nat) (b : Bool) : (s.setFlag F i b).drm = s.drm := rfl
@[simp] theorem State.setFlag_tim (s : State) (F : Fld) (i : Nat) (b : Bool) : (s.setFlag F i b).tim = s.tim := rfl
@[simp] theorem State.setFlag_hlk (s : State) (F : Fld) (i : Nat) (b : Bool) : (s.setFlag F i b).hlk = s.hlk := rfl
@[simp] theorem State.setFlag_gau (s : State) (F : Fld) (i : Nat) (b : Bool) : (s.setFlag F i b).gau = s.gau := rfl
@[simp] theorem State.setFlag_ser (s : State) (F : Fld) (i : Nat) (b : Bool) : (s.setFlag F i b).ser = s.ser := rfl
@[simp] theorem State.setFlag_cmd (s : State) (F : Fld) (i : Nat) (b : Bool) : (s.setFlag F i b).cmd = s.cmd := rfl
@[simp] theorem State.setFlag_bob (s : State) (F : Fld) (i : Nat) (b : Bool) : (s.setFlag F i b).bob = s.bob := rfl
@[simp] theorem State.setFlag_hbm (s : State) (F : Fld) (i : Nat) (b : Bool) : (s.setFlag F i b).hbm = s.hbm := rfl
@[simp] theorem State.setFlag_sec (s : State) (F : Fld) (i : Nat) (b : Bool) : (s.setFlag F i b).sec = s.sec := rfl
@[simp] theorem State.setFlag_rst (s : State) (F : Fld) (i : Nat) (b : Bool) : (s.setFlag F i b).rst = s.rst := rfl
@[simp] theorem State.setFlag_ldr (s : State) (F : Fld) (i : Nat) (b : Bool) : (s.setFlag F i b).ldr = s.ldr := rfl

/-! `bumpN` changes regs and tel. -/

@[simp] theorem State.bumpN_pending (s : State) (F : Fld) (i n : Nat) : (s.bumpN F i n).pending = s.pending := rfl
@[simp] theorem State.bumpN_tick (s : State) (F : Fld) (i n : Nat) : (s.bumpN F i n).tick = s.tick := rfl
@[simp] theorem State.bumpN_free (s : State) (F : Fld) (i n : Nat) : (s.bumpN F i n).free = s.free := rfl
@[simp] theorem State.bumpN_mgmt (s : State) (F : Fld) (i n : Nat) : (s.bumpN F i n).mgmt = s.mgmt := rfl
@[simp] theorem State.bumpN_pat (s : State) (F : Fld) (i n : Nat) : (s.bumpN F i n).pat = s.pat := rfl
@[simp] theorem State.bumpN_full (s : State) (F : Fld) (i n : Nat) : (s.bumpN F i n).full = s.full := rfl
@[simp] theorem State.bumpN_grid (s : State) (F : Fld) (i n : Nat) : (s.bumpN F i n).grid = s.grid := rfl
@[simp] theorem State.bumpN_chans (s : State) (F : Fld) (i n : Nat) : (s.bumpN F i n).chans = s.chans := rfl
@[simp] theorem State.bumpN_ola (s : State) (F : Fld) (i n : Nat) : (s.bumpN F i n).ola = s.ola := rfl
@[simp] theorem State.bumpN_dlv (s : State) (F : Fld) (i n : Nat) : (s.bumpN F i n).dlv = s.dlv := rfl
@[simp] theorem State.bumpN_host (s : State) (F : Fld) (i n : Nat) : (s.bumpN F i n).host = s.host := rfl
@[simp] theorem State.bumpN_drm (s : State) (F : Fld) (i n : Nat) : (s.bumpN F i n).drm = s.drm := rfl
@[simp] theorem State.bumpN_tim (s : State) (F : Fld) (i n : Nat) : (s.bumpN F i n).tim = s.tim := rfl
@[simp] theorem State.bumpN_hlk (s : State) (F : Fld) (i n : Nat) : (s.bumpN F i n).hlk = s.hlk := rfl
@[simp] theorem State.bumpN_gau (s : State) (F : Fld) (i n : Nat) : (s.bumpN F i n).gau = s.gau := rfl
@[simp] theorem State.bumpN_ser (s : State) (F : Fld) (i n : Nat) : (s.bumpN F i n).ser = s.ser := rfl
@[simp] theorem State.bumpN_cmd (s : State) (F : Fld) (i n : Nat) : (s.bumpN F i n).cmd = s.cmd := rfl
@[simp] theorem State.bumpN_bob (s : State) (F : Fld) (i n : Nat) : (s.bumpN F i n).bob = s.bob := rfl
@[simp] theorem State.bumpN_hbm (s : State) (F : Fld) (i n : Nat) : (s.bumpN F i n).hbm = s.hbm := rfl
@[simp] theorem State.bumpN_sec (s : State) (F : Fld) (i n : Nat) : (s.bumpN F i n).sec = s.sec := rfl
@[simp] theorem State.bumpN_rst (s : State) (F : Fld) (i n : Nat) : (s.bumpN F i n).rst = s.rst := rfl
@[simp] theorem State.bumpN_ldr (s : State) (F : Fld) (i n : Nat) : (s.bumpN F i n).ldr = s.ldr := rfl

/-! `bump` changes regs and tel. -/

@[simp] theorem State.bump_pending (s : State) (F : Fld) (i : Nat) : (s.bump F i).pending = s.pending := rfl
@[simp] theorem State.bump_tick (s : State) (F : Fld) (i : Nat) : (s.bump F i).tick = s.tick := rfl
@[simp] theorem State.bump_free (s : State) (F : Fld) (i : Nat) : (s.bump F i).free = s.free := rfl
@[simp] theorem State.bump_mgmt (s : State) (F : Fld) (i : Nat) : (s.bump F i).mgmt = s.mgmt := rfl
@[simp] theorem State.bump_pat (s : State) (F : Fld) (i : Nat) : (s.bump F i).pat = s.pat := rfl
@[simp] theorem State.bump_full (s : State) (F : Fld) (i : Nat) : (s.bump F i).full = s.full := rfl
@[simp] theorem State.bump_grid (s : State) (F : Fld) (i : Nat) : (s.bump F i).grid = s.grid := rfl
@[simp] theorem State.bump_chans (s : State) (F : Fld) (i : Nat) : (s.bump F i).chans = s.chans := rfl
@[simp] theorem State.bump_ola (s : State) (F : Fld) (i : Nat) : (s.bump F i).ola = s.ola := rfl
@[simp] theorem State.bump_dlv (s : State) (F : Fld) (i : Nat) : (s.bump F i).dlv = s.dlv := rfl
@[simp] theorem State.bump_host (s : State) (F : Fld) (i : Nat) : (s.bump F i).host = s.host := rfl
@[simp] theorem State.bump_drm (s : State) (F : Fld) (i : Nat) : (s.bump F i).drm = s.drm := rfl
@[simp] theorem State.bump_tim (s : State) (F : Fld) (i : Nat) : (s.bump F i).tim = s.tim := rfl
@[simp] theorem State.bump_hlk (s : State) (F : Fld) (i : Nat) : (s.bump F i).hlk = s.hlk := rfl
@[simp] theorem State.bump_gau (s : State) (F : Fld) (i : Nat) : (s.bump F i).gau = s.gau := rfl
@[simp] theorem State.bump_ser (s : State) (F : Fld) (i : Nat) : (s.bump F i).ser = s.ser := rfl
@[simp] theorem State.bump_cmd (s : State) (F : Fld) (i : Nat) : (s.bump F i).cmd = s.cmd := rfl
@[simp] theorem State.bump_bob (s : State) (F : Fld) (i : Nat) : (s.bump F i).bob = s.bob := rfl
@[simp] theorem State.bump_hbm (s : State) (F : Fld) (i : Nat) : (s.bump F i).hbm = s.hbm := rfl
@[simp] theorem State.bump_sec (s : State) (F : Fld) (i : Nat) : (s.bump F i).sec = s.sec := rfl
@[simp] theorem State.bump_rst (s : State) (F : Fld) (i : Nat) : (s.bump F i).rst = s.rst := rfl
@[simp] theorem State.bump_ldr (s : State) (F : Fld) (i : Nat) : (s.bump F i).ldr = s.ldr := rfl

/-! `bumpWrapN` changes regs and tel. -/

@[simp] theorem State.bumpWrapN_pending (s : State) (F : Fld) (i n : Nat) : (s.bumpWrapN F i n).pending = s.pending := rfl
@[simp] theorem State.bumpWrapN_tick (s : State) (F : Fld) (i n : Nat) : (s.bumpWrapN F i n).tick = s.tick := rfl
@[simp] theorem State.bumpWrapN_free (s : State) (F : Fld) (i n : Nat) : (s.bumpWrapN F i n).free = s.free := rfl
@[simp] theorem State.bumpWrapN_mgmt (s : State) (F : Fld) (i n : Nat) : (s.bumpWrapN F i n).mgmt = s.mgmt := rfl
@[simp] theorem State.bumpWrapN_pat (s : State) (F : Fld) (i n : Nat) : (s.bumpWrapN F i n).pat = s.pat := rfl
@[simp] theorem State.bumpWrapN_full (s : State) (F : Fld) (i n : Nat) : (s.bumpWrapN F i n).full = s.full := rfl
@[simp] theorem State.bumpWrapN_grid (s : State) (F : Fld) (i n : Nat) : (s.bumpWrapN F i n).grid = s.grid := rfl
@[simp] theorem State.bumpWrapN_chans (s : State) (F : Fld) (i n : Nat) : (s.bumpWrapN F i n).chans = s.chans := rfl
@[simp] theorem State.bumpWrapN_ola (s : State) (F : Fld) (i n : Nat) : (s.bumpWrapN F i n).ola = s.ola := rfl
@[simp] theorem State.bumpWrapN_dlv (s : State) (F : Fld) (i n : Nat) : (s.bumpWrapN F i n).dlv = s.dlv := rfl
@[simp] theorem State.bumpWrapN_host (s : State) (F : Fld) (i n : Nat) : (s.bumpWrapN F i n).host = s.host := rfl
@[simp] theorem State.bumpWrapN_drm (s : State) (F : Fld) (i n : Nat) : (s.bumpWrapN F i n).drm = s.drm := rfl
@[simp] theorem State.bumpWrapN_tim (s : State) (F : Fld) (i n : Nat) : (s.bumpWrapN F i n).tim = s.tim := rfl
@[simp] theorem State.bumpWrapN_hlk (s : State) (F : Fld) (i n : Nat) : (s.bumpWrapN F i n).hlk = s.hlk := rfl
@[simp] theorem State.bumpWrapN_gau (s : State) (F : Fld) (i n : Nat) : (s.bumpWrapN F i n).gau = s.gau := rfl
@[simp] theorem State.bumpWrapN_ser (s : State) (F : Fld) (i n : Nat) : (s.bumpWrapN F i n).ser = s.ser := rfl
@[simp] theorem State.bumpWrapN_cmd (s : State) (F : Fld) (i n : Nat) : (s.bumpWrapN F i n).cmd = s.cmd := rfl
@[simp] theorem State.bumpWrapN_bob (s : State) (F : Fld) (i n : Nat) : (s.bumpWrapN F i n).bob = s.bob := rfl
@[simp] theorem State.bumpWrapN_hbm (s : State) (F : Fld) (i n : Nat) : (s.bumpWrapN F i n).hbm = s.hbm := rfl
@[simp] theorem State.bumpWrapN_sec (s : State) (F : Fld) (i n : Nat) : (s.bumpWrapN F i n).sec = s.sec := rfl
@[simp] theorem State.bumpWrapN_rst (s : State) (F : Fld) (i n : Nat) : (s.bumpWrapN F i n).rst = s.rst := rfl
@[simp] theorem State.bumpWrapN_ldr (s : State) (F : Fld) (i n : Nat) : (s.bumpWrapN F i n).ldr = s.ldr := rfl

/-! `bumpWrap` changes regs and tel. -/

@[simp] theorem State.bumpWrap_pending (s : State) (F : Fld) (i : Nat) : (s.bumpWrap F i).pending = s.pending := rfl
@[simp] theorem State.bumpWrap_tick (s : State) (F : Fld) (i : Nat) : (s.bumpWrap F i).tick = s.tick := rfl
@[simp] theorem State.bumpWrap_free (s : State) (F : Fld) (i : Nat) : (s.bumpWrap F i).free = s.free := rfl
@[simp] theorem State.bumpWrap_mgmt (s : State) (F : Fld) (i : Nat) : (s.bumpWrap F i).mgmt = s.mgmt := rfl
@[simp] theorem State.bumpWrap_pat (s : State) (F : Fld) (i : Nat) : (s.bumpWrap F i).pat = s.pat := rfl
@[simp] theorem State.bumpWrap_full (s : State) (F : Fld) (i : Nat) : (s.bumpWrap F i).full = s.full := rfl
@[simp] theorem State.bumpWrap_grid (s : State) (F : Fld) (i : Nat) : (s.bumpWrap F i).grid = s.grid := rfl
@[simp] theorem State.bumpWrap_chans (s : State) (F : Fld) (i : Nat) : (s.bumpWrap F i).chans = s.chans := rfl
@[simp] theorem State.bumpWrap_ola (s : State) (F : Fld) (i : Nat) : (s.bumpWrap F i).ola = s.ola := rfl
@[simp] theorem State.bumpWrap_dlv (s : State) (F : Fld) (i : Nat) : (s.bumpWrap F i).dlv = s.dlv := rfl
@[simp] theorem State.bumpWrap_host (s : State) (F : Fld) (i : Nat) : (s.bumpWrap F i).host = s.host := rfl
@[simp] theorem State.bumpWrap_drm (s : State) (F : Fld) (i : Nat) : (s.bumpWrap F i).drm = s.drm := rfl
@[simp] theorem State.bumpWrap_tim (s : State) (F : Fld) (i : Nat) : (s.bumpWrap F i).tim = s.tim := rfl
@[simp] theorem State.bumpWrap_hlk (s : State) (F : Fld) (i : Nat) : (s.bumpWrap F i).hlk = s.hlk := rfl
@[simp] theorem State.bumpWrap_gau (s : State) (F : Fld) (i : Nat) : (s.bumpWrap F i).gau = s.gau := rfl
@[simp] theorem State.bumpWrap_ser (s : State) (F : Fld) (i : Nat) : (s.bumpWrap F i).ser = s.ser := rfl
@[simp] theorem State.bumpWrap_cmd (s : State) (F : Fld) (i : Nat) : (s.bumpWrap F i).cmd = s.cmd := rfl
@[simp] theorem State.bumpWrap_bob (s : State) (F : Fld) (i : Nat) : (s.bumpWrap F i).bob = s.bob := rfl
@[simp] theorem State.bumpWrap_hbm (s : State) (F : Fld) (i : Nat) : (s.bumpWrap F i).hbm = s.hbm := rfl
@[simp] theorem State.bumpWrap_sec (s : State) (F : Fld) (i : Nat) : (s.bumpWrap F i).sec = s.sec := rfl
@[simp] theorem State.bumpWrap_rst (s : State) (F : Fld) (i : Nat) : (s.bumpWrap F i).rst = s.rst := rfl
@[simp] theorem State.bumpWrap_ldr (s : State) (F : Fld) (i : Nat) : (s.bumpWrap F i).ldr = s.ldr := rfl

/-! `setChan` changes chans. -/

@[simp] theorem State.setChan_pending (s : State) (ch : Nat) (c : Chan) : (s.setChan ch c).pending = s.pending := rfl
@[simp] theorem State.setChan_regs (s : State) (ch : Nat) (c : Chan) : (s.setChan ch c).regs = s.regs := rfl
@[simp] theorem State.setChan_tel (s : State) (ch : Nat) (c : Chan) : (s.setChan ch c).tel = s.tel := rfl
@[simp] theorem State.setChan_tick (s : State) (ch : Nat) (c : Chan) : (s.setChan ch c).tick = s.tick := rfl
@[simp] theorem State.setChan_free (s : State) (ch : Nat) (c : Chan) : (s.setChan ch c).free = s.free := rfl
@[simp] theorem State.setChan_mgmt (s : State) (ch : Nat) (c : Chan) : (s.setChan ch c).mgmt = s.mgmt := rfl
@[simp] theorem State.setChan_pat (s : State) (ch : Nat) (c : Chan) : (s.setChan ch c).pat = s.pat := rfl
@[simp] theorem State.setChan_full (s : State) (ch : Nat) (c : Chan) : (s.setChan ch c).full = s.full := rfl
@[simp] theorem State.setChan_grid (s : State) (ch : Nat) (c : Chan) : (s.setChan ch c).grid = s.grid := rfl
@[simp] theorem State.setChan_ola (s : State) (ch : Nat) (c : Chan) : (s.setChan ch c).ola = s.ola := rfl
@[simp] theorem State.setChan_dlv (s : State) (ch : Nat) (c : Chan) : (s.setChan ch c).dlv = s.dlv := rfl
@[simp] theorem State.setChan_host (s : State) (ch : Nat) (c : Chan) : (s.setChan ch c).host = s.host := rfl
@[simp] theorem State.setChan_drm (s : State) (ch : Nat) (c : Chan) : (s.setChan ch c).drm = s.drm := rfl
@[simp] theorem State.setChan_tim (s : State) (ch : Nat) (c : Chan) : (s.setChan ch c).tim = s.tim := rfl
@[simp] theorem State.setChan_hlk (s : State) (ch : Nat) (c : Chan) : (s.setChan ch c).hlk = s.hlk := rfl
@[simp] theorem State.setChan_gau (s : State) (ch : Nat) (c : Chan) : (s.setChan ch c).gau = s.gau := rfl
@[simp] theorem State.setChan_ser (s : State) (ch : Nat) (c : Chan) : (s.setChan ch c).ser = s.ser := rfl
@[simp] theorem State.setChan_cmd (s : State) (ch : Nat) (c : Chan) : (s.setChan ch c).cmd = s.cmd := rfl
@[simp] theorem State.setChan_bob (s : State) (ch : Nat) (c : Chan) : (s.setChan ch c).bob = s.bob := rfl
@[simp] theorem State.setChan_hbm (s : State) (ch : Nat) (c : Chan) : (s.setChan ch c).hbm = s.hbm := rfl
@[simp] theorem State.setChan_sec (s : State) (ch : Nat) (c : Chan) : (s.setChan ch c).sec = s.sec := rfl
@[simp] theorem State.setChan_rst (s : State) (ch : Nat) (c : Chan) : (s.setChan ch c).rst = s.rst := rfl
@[simp] theorem State.setChan_ldr (s : State) (ch : Nat) (c : Chan) : (s.setChan ch c).ldr = s.ldr := rfl

/-! `updChan` changes chans. -/

@[simp] theorem State.updChan_pending (s : State) (ch : Nat) (f : Chan → Chan) : (s.updChan ch f).pending = s.pending := rfl
@[simp] theorem State.updChan_regs (s : State) (ch : Nat) (f : Chan → Chan) : (s.updChan ch f).regs = s.regs := rfl
@[simp] theorem State.updChan_tel (s : State) (ch : Nat) (f : Chan → Chan) : (s.updChan ch f).tel = s.tel := rfl
@[simp] theorem State.updChan_tick (s : State) (ch : Nat) (f : Chan → Chan) : (s.updChan ch f).tick = s.tick := rfl
@[simp] theorem State.updChan_free (s : State) (ch : Nat) (f : Chan → Chan) : (s.updChan ch f).free = s.free := rfl
@[simp] theorem State.updChan_mgmt (s : State) (ch : Nat) (f : Chan → Chan) : (s.updChan ch f).mgmt = s.mgmt := rfl
@[simp] theorem State.updChan_pat (s : State) (ch : Nat) (f : Chan → Chan) : (s.updChan ch f).pat = s.pat := rfl
@[simp] theorem State.updChan_full (s : State) (ch : Nat) (f : Chan → Chan) : (s.updChan ch f).full = s.full := rfl
@[simp] theorem State.updChan_grid (s : State) (ch : Nat) (f : Chan → Chan) : (s.updChan ch f).grid = s.grid := rfl
@[simp] theorem State.updChan_ola (s : State) (ch : Nat) (f : Chan → Chan) : (s.updChan ch f).ola = s.ola := rfl
@[simp] theorem State.updChan_dlv (s : State) (ch : Nat) (f : Chan → Chan) : (s.updChan ch f).dlv = s.dlv := rfl
@[simp] theorem State.updChan_host (s : State) (ch : Nat) (f : Chan → Chan) : (s.updChan ch f).host = s.host := rfl
@[simp] theorem State.updChan_drm (s : State) (ch : Nat) (f : Chan → Chan) : (s.updChan ch f).drm = s.drm := rfl
@[simp] theorem State.updChan_tim (s : State) (ch : Nat) (f : Chan → Chan) : (s.updChan ch f).tim = s.tim := rfl
@[simp] theorem State.updChan_hlk (s : State) (ch : Nat) (f : Chan → Chan) : (s.updChan ch f).hlk = s.hlk := rfl
@[simp] theorem State.updChan_gau (s : State) (ch : Nat) (f : Chan → Chan) : (s.updChan ch f).gau = s.gau := rfl
@[simp] theorem State.updChan_ser (s : State) (ch : Nat) (f : Chan → Chan) : (s.updChan ch f).ser = s.ser := rfl
@[simp] theorem State.updChan_cmd (s : State) (ch : Nat) (f : Chan → Chan) : (s.updChan ch f).cmd = s.cmd := rfl
@[simp] theorem State.updChan_bob (s : State) (ch : Nat) (f : Chan → Chan) : (s.updChan ch f).bob = s.bob := rfl
@[simp] theorem State.updChan_hbm (s : State) (ch : Nat) (f : Chan → Chan) : (s.updChan ch f).hbm = s.hbm := rfl
@[simp] theorem State.updChan_sec (s : State) (ch : Nat) (f : Chan → Chan) : (s.updChan ch f).sec = s.sec := rfl
@[simp] theorem State.updChan_rst (s : State) (ch : Nat) (f : Chan → Chan) : (s.updChan ch f).rst = s.rst := rfl
@[simp] theorem State.updChan_ldr (s : State) (ch : Nat) (f : Chan → Chan) : (s.updChan ch f).ldr = s.ldr := rfl

/-! `request` changes grid. -/

@[simp] theorem State.request_pending (s : State) (c : SlotChange) : (s.request c).pending = s.pending := rfl
@[simp] theorem State.request_regs (s : State) (c : SlotChange) : (s.request c).regs = s.regs := rfl
@[simp] theorem State.request_tel (s : State) (c : SlotChange) : (s.request c).tel = s.tel := rfl
@[simp] theorem State.request_tick (s : State) (c : SlotChange) : (s.request c).tick = s.tick := rfl
@[simp] theorem State.request_free (s : State) (c : SlotChange) : (s.request c).free = s.free := rfl
@[simp] theorem State.request_mgmt (s : State) (c : SlotChange) : (s.request c).mgmt = s.mgmt := rfl
@[simp] theorem State.request_pat (s : State) (c : SlotChange) : (s.request c).pat = s.pat := rfl
@[simp] theorem State.request_full (s : State) (c : SlotChange) : (s.request c).full = s.full := rfl
@[simp] theorem State.request_chans (s : State) (c : SlotChange) : (s.request c).chans = s.chans := rfl
@[simp] theorem State.request_ola (s : State) (c : SlotChange) : (s.request c).ola = s.ola := rfl
@[simp] theorem State.request_dlv (s : State) (c : SlotChange) : (s.request c).dlv = s.dlv := rfl
@[simp] theorem State.request_host (s : State) (c : SlotChange) : (s.request c).host = s.host := rfl
@[simp] theorem State.request_drm (s : State) (c : SlotChange) : (s.request c).drm = s.drm := rfl
@[simp] theorem State.request_tim (s : State) (c : SlotChange) : (s.request c).tim = s.tim := rfl
@[simp] theorem State.request_hlk (s : State) (c : SlotChange) : (s.request c).hlk = s.hlk := rfl
@[simp] theorem State.request_gau (s : State) (c : SlotChange) : (s.request c).gau = s.gau := rfl
@[simp] theorem State.request_ser (s : State) (c : SlotChange) : (s.request c).ser = s.ser := rfl
@[simp] theorem State.request_cmd (s : State) (c : SlotChange) : (s.request c).cmd = s.cmd := rfl
@[simp] theorem State.request_bob (s : State) (c : SlotChange) : (s.request c).bob = s.bob := rfl
@[simp] theorem State.request_hbm (s : State) (c : SlotChange) : (s.request c).hbm = s.hbm := rfl
@[simp] theorem State.request_sec (s : State) (c : SlotChange) : (s.request c).sec = s.sec := rfl
@[simp] theorem State.request_rst (s : State) (c : SlotChange) : (s.request c).rst = s.rst := rfl
@[simp] theorem State.request_ldr (s : State) (c : SlotChange) : (s.request c).ldr = s.ldr := rfl

/-! `requestState` changes grid. -/

@[simp] theorem State.requestState_pending (s : State) (ch st cause : Nat) : (s.requestState ch st cause).pending = s.pending := rfl
@[simp] theorem State.requestState_regs (s : State) (ch st cause : Nat) : (s.requestState ch st cause).regs = s.regs := rfl
@[simp] theorem State.requestState_tel (s : State) (ch st cause : Nat) : (s.requestState ch st cause).tel = s.tel := rfl
@[simp] theorem State.requestState_tick (s : State) (ch st cause : Nat) : (s.requestState ch st cause).tick = s.tick := rfl
@[simp] theorem State.requestState_free (s : State) (ch st cause : Nat) : (s.requestState ch st cause).free = s.free := rfl
@[simp] theorem State.requestState_mgmt (s : State) (ch st cause : Nat) : (s.requestState ch st cause).mgmt = s.mgmt := rfl
@[simp] theorem State.requestState_pat (s : State) (ch st cause : Nat) : (s.requestState ch st cause).pat = s.pat := rfl
@[simp] theorem State.requestState_full (s : State) (ch st cause : Nat) : (s.requestState ch st cause).full = s.full := rfl
@[simp] theorem State.requestState_chans (s : State) (ch st cause : Nat) : (s.requestState ch st cause).chans = s.chans := rfl
@[simp] theorem State.requestState_ola (s : State) (ch st cause : Nat) : (s.requestState ch st cause).ola = s.ola := rfl
@[simp] theorem State.requestState_dlv (s : State) (ch st cause : Nat) : (s.requestState ch st cause).dlv = s.dlv := rfl
@[simp] theorem State.requestState_host (s : State) (ch st cause : Nat) : (s.requestState ch st cause).host = s.host := rfl
@[simp] theorem State.requestState_drm (s : State) (ch st cause : Nat) : (s.requestState ch st cause).drm = s.drm := rfl
@[simp] theorem State.requestState_tim (s : State) (ch st cause : Nat) : (s.requestState ch st cause).tim = s.tim := rfl
@[simp] theorem State.requestState_hlk (s : State) (ch st cause : Nat) : (s.requestState ch st cause).hlk = s.hlk := rfl
@[simp] theorem State.requestState_gau (s : State) (ch st cause : Nat) : (s.requestState ch st cause).gau = s.gau := rfl
@[simp] theorem State.requestState_ser (s : State) (ch st cause : Nat) : (s.requestState ch st cause).ser = s.ser := rfl
@[simp] theorem State.requestState_cmd (s : State) (ch st cause : Nat) : (s.requestState ch st cause).cmd = s.cmd := rfl
@[simp] theorem State.requestState_bob (s : State) (ch st cause : Nat) : (s.requestState ch st cause).bob = s.bob := rfl
@[simp] theorem State.requestState_hbm (s : State) (ch st cause : Nat) : (s.requestState ch st cause).hbm = s.hbm := rfl
@[simp] theorem State.requestState_sec (s : State) (ch st cause : Nat) : (s.requestState ch st cause).sec = s.sec := rfl
@[simp] theorem State.requestState_rst (s : State) (ch st cause : Nat) : (s.requestState ch st cause).rst = s.rst := rfl
@[simp] theorem State.requestState_ldr (s : State) (ch st cause : Nat) : (s.requestState ch st cause).ldr = s.ldr := rfl

@[simp] theorem State.drawFree_regs (s : State) : s.drawFree.2.regs = s.regs := rfl
@[simp] theorem State.drawFree_pending (s : State) : s.drawFree.2.pending = s.pending := rfl
@[simp] theorem State.drawFree_mgmt (s : State) : s.drawFree.2.mgmt = s.mgmt := rfl
@[simp] theorem State.drawFree_grid (s : State) : s.drawFree.2.grid = s.grid := rfl

end Sys2Proof.Machine
end

