-- ==== Sys2Proof/Laws/Blocks.lean ====
section
/-! SUPPORT. What the updates of the blocks' own state leave alone: one lemma per field per update. -/

namespace Sys2Proof.Machine

/-! `setTb` changes tim. -/

@[simp] theorem State.setTb_pending (s : State) (k : Nat) (t : Tb) : (s.setTb k t).pending = s.pending := rfl
@[simp] theorem State.setTb_regs (s : State) (k : Nat) (t : Tb) : (s.setTb k t).regs = s.regs := rfl
@[simp] theorem State.setTb_tel (s : State) (k : Nat) (t : Tb) : (s.setTb k t).tel = s.tel := rfl
@[simp] theorem State.setTb_tick (s : State) (k : Nat) (t : Tb) : (s.setTb k t).tick = s.tick := rfl
@[simp] theorem State.setTb_free (s : State) (k : Nat) (t : Tb) : (s.setTb k t).free = s.free := rfl
@[simp] theorem State.setTb_mgmt (s : State) (k : Nat) (t : Tb) : (s.setTb k t).mgmt = s.mgmt := rfl
@[simp] theorem State.setTb_pat (s : State) (k : Nat) (t : Tb) : (s.setTb k t).pat = s.pat := rfl
@[simp] theorem State.setTb_full (s : State) (k : Nat) (t : Tb) : (s.setTb k t).full = s.full := rfl
@[simp] theorem State.setTb_grid (s : State) (k : Nat) (t : Tb) : (s.setTb k t).grid = s.grid := rfl
@[simp] theorem State.setTb_chans (s : State) (k : Nat) (t : Tb) : (s.setTb k t).chans = s.chans := rfl
@[simp] theorem State.setTb_ola (s : State) (k : Nat) (t : Tb) : (s.setTb k t).ola = s.ola := rfl
@[simp] theorem State.setTb_dlv (s : State) (k : Nat) (t : Tb) : (s.setTb k t).dlv = s.dlv := rfl
@[simp] theorem State.setTb_host (s : State) (k : Nat) (t : Tb) : (s.setTb k t).host = s.host := rfl
@[simp] theorem State.setTb_drm (s : State) (k : Nat) (t : Tb) : (s.setTb k t).drm = s.drm := rfl
@[simp] theorem State.setTb_hlk (s : State) (k : Nat) (t : Tb) : (s.setTb k t).hlk = s.hlk := rfl
@[simp] theorem State.setTb_gau (s : State) (k : Nat) (t : Tb) : (s.setTb k t).gau = s.gau := rfl
@[simp] theorem State.setTb_ser (s : State) (k : Nat) (t : Tb) : (s.setTb k t).ser = s.ser := rfl
@[simp] theorem State.setTb_cmd (s : State) (k : Nat) (t : Tb) : (s.setTb k t).cmd = s.cmd := rfl
@[simp] theorem State.setTb_bob (s : State) (k : Nat) (t : Tb) : (s.setTb k t).bob = s.bob := rfl
@[simp] theorem State.setTb_hbm (s : State) (k : Nat) (t : Tb) : (s.setTb k t).hbm = s.hbm := rfl
@[simp] theorem State.setTb_sec (s : State) (k : Nat) (t : Tb) : (s.setTb k t).sec = s.sec := rfl
@[simp] theorem State.setTb_rst (s : State) (k : Nat) (t : Tb) : (s.setTb k t).rst = s.rst := rfl
@[simp] theorem State.setTb_ldr (s : State) (k : Nat) (t : Tb) : (s.setTb k t).ldr = s.ldr := rfl

/-! `setGauge` changes gau. -/

@[simp] theorem State.setGauge_pending (s : State) (ch : Nat) (g : GauCh) : (s.setGauge ch g).pending = s.pending := rfl
@[simp] theorem State.setGauge_regs (s : State) (ch : Nat) (g : GauCh) : (s.setGauge ch g).regs = s.regs := rfl
@[simp] theorem State.setGauge_tel (s : State) (ch : Nat) (g : GauCh) : (s.setGauge ch g).tel = s.tel := rfl
@[simp] theorem State.setGauge_tick (s : State) (ch : Nat) (g : GauCh) : (s.setGauge ch g).tick = s.tick := rfl
@[simp] theorem State.setGauge_free (s : State) (ch : Nat) (g : GauCh) : (s.setGauge ch g).free = s.free := rfl
@[simp] theorem State.setGauge_mgmt (s : State) (ch : Nat) (g : GauCh) : (s.setGauge ch g).mgmt = s.mgmt := rfl
@[simp] theorem State.setGauge_pat (s : State) (ch : Nat) (g : GauCh) : (s.setGauge ch g).pat = s.pat := rfl
@[simp] theorem State.setGauge_full (s : State) (ch : Nat) (g : GauCh) : (s.setGauge ch g).full = s.full := rfl
@[simp] theorem State.setGauge_grid (s : State) (ch : Nat) (g : GauCh) : (s.setGauge ch g).grid = s.grid := rfl
@[simp] theorem State.setGauge_chans (s : State) (ch : Nat) (g : GauCh) : (s.setGauge ch g).chans = s.chans := rfl
@[simp] theorem State.setGauge_ola (s : State) (ch : Nat) (g : GauCh) : (s.setGauge ch g).ola = s.ola := rfl
@[simp] theorem State.setGauge_dlv (s : State) (ch : Nat) (g : GauCh) : (s.setGauge ch g).dlv = s.dlv := rfl
@[simp] theorem State.setGauge_host (s : State) (ch : Nat) (g : GauCh) : (s.setGauge ch g).host = s.host := rfl
@[simp] theorem State.setGauge_drm (s : State) (ch : Nat) (g : GauCh) : (s.setGauge ch g).drm = s.drm := rfl
@[simp] theorem State.setGauge_tim (s : State) (ch : Nat) (g : GauCh) : (s.setGauge ch g).tim = s.tim := rfl
@[simp] theorem State.setGauge_hlk (s : State) (ch : Nat) (g : GauCh) : (s.setGauge ch g).hlk = s.hlk := rfl
@[simp] theorem State.setGauge_ser (s : State) (ch : Nat) (g : GauCh) : (s.setGauge ch g).ser = s.ser := rfl
@[simp] theorem State.setGauge_cmd (s : State) (ch : Nat) (g : GauCh) : (s.setGauge ch g).cmd = s.cmd := rfl
@[simp] theorem State.setGauge_bob (s : State) (ch : Nat) (g : GauCh) : (s.setGauge ch g).bob = s.bob := rfl
@[simp] theorem State.setGauge_hbm (s : State) (ch : Nat) (g : GauCh) : (s.setGauge ch g).hbm = s.hbm := rfl
@[simp] theorem State.setGauge_sec (s : State) (ch : Nat) (g : GauCh) : (s.setGauge ch g).sec = s.sec := rfl
@[simp] theorem State.setGauge_rst (s : State) (ch : Nat) (g : GauCh) : (s.setGauge ch g).rst = s.rst := rfl
@[simp] theorem State.setGauge_ldr (s : State) (ch : Nat) (g : GauCh) : (s.setGauge ch g).ldr = s.ldr := rfl

/-! `updGauge` changes gau. -/

@[simp] theorem State.updGauge_pending (s : State) (ch : Nat) (f : GauCh → GauCh) : (s.updGauge ch f).pending = s.pending := rfl
@[simp] theorem State.updGauge_regs (s : State) (ch : Nat) (f : GauCh → GauCh) : (s.updGauge ch f).regs = s.regs := rfl
@[simp] theorem State.updGauge_tel (s : State) (ch : Nat) (f : GauCh → GauCh) : (s.updGauge ch f).tel = s.tel := rfl
@[simp] theorem State.updGauge_tick (s : State) (ch : Nat) (f : GauCh → GauCh) : (s.updGauge ch f).tick = s.tick := rfl
@[simp] theorem State.updGauge_free (s : State) (ch : Nat) (f : GauCh → GauCh) : (s.updGauge ch f).free = s.free := rfl
@[simp] theorem State.updGauge_mgmt (s : State) (ch : Nat) (f : GauCh → GauCh) : (s.updGauge ch f).mgmt = s.mgmt := rfl
@[simp] theorem State.updGauge_pat (s : State) (ch : Nat) (f : GauCh → GauCh) : (s.updGauge ch f).pat = s.pat := rfl
@[simp] theorem State.updGauge_full (s : State) (ch : Nat) (f : GauCh → GauCh) : (s.updGauge ch f).full = s.full := rfl
@[simp] theorem State.updGauge_grid (s : State) (ch : Nat) (f : GauCh → GauCh) : (s.updGauge ch f).grid = s.grid := rfl
@[simp] theorem State.updGauge_chans (s : State) (ch : Nat) (f : GauCh → GauCh) : (s.updGauge ch f).chans = s.chans := rfl
@[simp] theorem State.updGauge_ola (s : State) (ch : Nat) (f : GauCh → GauCh) : (s.updGauge ch f).ola = s.ola := rfl
@[simp] theorem State.updGauge_dlv (s : State) (ch : Nat) (f : GauCh → GauCh) : (s.updGauge ch f).dlv = s.dlv := rfl
@[simp] theorem State.updGauge_host (s : State) (ch : Nat) (f : GauCh → GauCh) : (s.updGauge ch f).host = s.host := rfl
@[simp] theorem State.updGauge_drm (s : State) (ch : Nat) (f : GauCh → GauCh) : (s.updGauge ch f).drm = s.drm := rfl
@[simp] theorem State.updGauge_tim (s : State) (ch : Nat) (f : GauCh → GauCh) : (s.updGauge ch f).tim = s.tim := rfl
@[simp] theorem State.updGauge_hlk (s : State) (ch : Nat) (f : GauCh → GauCh) : (s.updGauge ch f).hlk = s.hlk := rfl
@[simp] theorem State.updGauge_ser (s : State) (ch : Nat) (f : GauCh → GauCh) : (s.updGauge ch f).ser = s.ser := rfl
@[simp] theorem State.updGauge_cmd (s : State) (ch : Nat) (f : GauCh → GauCh) : (s.updGauge ch f).cmd = s.cmd := rfl
@[simp] theorem State.updGauge_bob (s : State) (ch : Nat) (f : GauCh → GauCh) : (s.updGauge ch f).bob = s.bob := rfl
@[simp] theorem State.updGauge_hbm (s : State) (ch : Nat) (f : GauCh → GauCh) : (s.updGauge ch f).hbm = s.hbm := rfl
@[simp] theorem State.updGauge_sec (s : State) (ch : Nat) (f : GauCh → GauCh) : (s.updGauge ch f).sec = s.sec := rfl
@[simp] theorem State.updGauge_rst (s : State) (ch : Nat) (f : GauCh → GauCh) : (s.updGauge ch f).rst = s.rst := rfl
@[simp] theorem State.updGauge_ldr (s : State) (ch : Nat) (f : GauCh → GauCh) : (s.updGauge ch f).ldr = s.ldr := rfl

/-! `setRec` changes regs and drm. -/

@[simp] theorem State.setRec_pending (s : State) (r : Nat) (d : DrmRec) : (s.setRec r d).pending = s.pending := rfl
@[simp] theorem State.setRec_tel (s : State) (r : Nat) (d : DrmRec) : (s.setRec r d).tel = s.tel := rfl
@[simp] theorem State.setRec_tick (s : State) (r : Nat) (d : DrmRec) : (s.setRec r d).tick = s.tick := rfl
@[simp] theorem State.setRec_free (s : State) (r : Nat) (d : DrmRec) : (s.setRec r d).free = s.free := rfl
@[simp] theorem State.setRec_mgmt (s : State) (r : Nat) (d : DrmRec) : (s.setRec r d).mgmt = s.mgmt := rfl
@[simp] theorem State.setRec_pat (s : State) (r : Nat) (d : DrmRec) : (s.setRec r d).pat = s.pat := rfl
@[simp] theorem State.setRec_full (s : State) (r : Nat) (d : DrmRec) : (s.setRec r d).full = s.full := rfl
@[simp] theorem State.setRec_grid (s : State) (r : Nat) (d : DrmRec) : (s.setRec r d).grid = s.grid := rfl
@[simp] theorem State.setRec_chans (s : State) (r : Nat) (d : DrmRec) : (s.setRec r d).chans = s.chans := rfl
@[simp] theorem State.setRec_ola (s : State) (r : Nat) (d : DrmRec) : (s.setRec r d).ola = s.ola := rfl
@[simp] theorem State.setRec_dlv (s : State) (r : Nat) (d : DrmRec) : (s.setRec r d).dlv = s.dlv := rfl
@[simp] theorem State.setRec_host (s : State) (r : Nat) (d : DrmRec) : (s.setRec r d).host = s.host := rfl
@[simp] theorem State.setRec_tim (s : State) (r : Nat) (d : DrmRec) : (s.setRec r d).tim = s.tim := rfl
@[simp] theorem State.setRec_hlk (s : State) (r : Nat) (d : DrmRec) : (s.setRec r d).hlk = s.hlk := rfl
@[simp] theorem State.setRec_gau (s : State) (r : Nat) (d : DrmRec) : (s.setRec r d).gau = s.gau := rfl
@[simp] theorem State.setRec_ser (s : State) (r : Nat) (d : DrmRec) : (s.setRec r d).ser = s.ser := rfl
@[simp] theorem State.setRec_cmd (s : State) (r : Nat) (d : DrmRec) : (s.setRec r d).cmd = s.cmd := rfl
@[simp] theorem State.setRec_bob (s : State) (r : Nat) (d : DrmRec) : (s.setRec r d).bob = s.bob := rfl
@[simp] theorem State.setRec_hbm (s : State) (r : Nat) (d : DrmRec) : (s.setRec r d).hbm = s.hbm := rfl
@[simp] theorem State.setRec_sec (s : State) (r : Nat) (d : DrmRec) : (s.setRec r d).sec = s.sec := rfl
@[simp] theorem State.setRec_rst (s : State) (r : Nat) (d : DrmRec) : (s.setRec r d).rst = s.rst := rfl
@[simp] theorem State.setRec_ldr (s : State) (r : Nat) (d : DrmRec) : (s.setRec r d).ldr = s.ldr := rfl

/-! `setGroup` changes cmd. -/

@[simp] theorem State.setGroup_pending (s : State) (g : Nat) (c : CmdGroup) : (s.setGroup g c).pending = s.pending := rfl
@[simp] theorem State.setGroup_regs (s : State) (g : Nat) (c : CmdGroup) : (s.setGroup g c).regs = s.regs := rfl
@[simp] theorem State.setGroup_tel (s : State) (g : Nat) (c : CmdGroup) : (s.setGroup g c).tel = s.tel := rfl
@[simp] theorem State.setGroup_tick (s : State) (g : Nat) (c : CmdGroup) : (s.setGroup g c).tick = s.tick := rfl
@[simp] theorem State.setGroup_free (s : State) (g : Nat) (c : CmdGroup) : (s.setGroup g c).free = s.free := rfl
@[simp] theorem State.setGroup_mgmt (s : State) (g : Nat) (c : CmdGroup) : (s.setGroup g c).mgmt = s.mgmt := rfl
@[simp] theorem State.setGroup_pat (s : State) (g : Nat) (c : CmdGroup) : (s.setGroup g c).pat = s.pat := rfl
@[simp] theorem State.setGroup_full (s : State) (g : Nat) (c : CmdGroup) : (s.setGroup g c).full = s.full := rfl
@[simp] theorem State.setGroup_grid (s : State) (g : Nat) (c : CmdGroup) : (s.setGroup g c).grid = s.grid := rfl
@[simp] theorem State.setGroup_chans (s : State) (g : Nat) (c : CmdGroup) : (s.setGroup g c).chans = s.chans := rfl
@[simp] theorem State.setGroup_ola (s : State) (g : Nat) (c : CmdGroup) : (s.setGroup g c).ola = s.ola := rfl
@[simp] theorem State.setGroup_dlv (s : State) (g : Nat) (c : CmdGroup) : (s.setGroup g c).dlv = s.dlv := rfl
@[simp] theorem State.setGroup_host (s : State) (g : Nat) (c : CmdGroup) : (s.setGroup g c).host = s.host := rfl
@[simp] theorem State.setGroup_drm (s : State) (g : Nat) (c : CmdGroup) : (s.setGroup g c).drm = s.drm := rfl
@[simp] theorem State.setGroup_tim (s : State) (g : Nat) (c : CmdGroup) : (s.setGroup g c).tim = s.tim := rfl
@[simp] theorem State.setGroup_hlk (s : State) (g : Nat) (c : CmdGroup) : (s.setGroup g c).hlk = s.hlk := rfl
@[simp] theorem State.setGroup_gau (s : State) (g : Nat) (c : CmdGroup) : (s.setGroup g c).gau = s.gau := rfl
@[simp] theorem State.setGroup_ser (s : State) (g : Nat) (c : CmdGroup) : (s.setGroup g c).ser = s.ser := rfl
@[simp] theorem State.setGroup_bob (s : State) (g : Nat) (c : CmdGroup) : (s.setGroup g c).bob = s.bob := rfl
@[simp] theorem State.setGroup_hbm (s : State) (g : Nat) (c : CmdGroup) : (s.setGroup g c).hbm = s.hbm := rfl
@[simp] theorem State.setGroup_sec (s : State) (g : Nat) (c : CmdGroup) : (s.setGroup g c).sec = s.sec := rfl
@[simp] theorem State.setGroup_rst (s : State) (g : Nat) (c : CmdGroup) : (s.setGroup g c).rst = s.rst := rfl
@[simp] theorem State.setGroup_ldr (s : State) (g : Nat) (c : CmdGroup) : (s.setGroup g c).ldr = s.ldr := rfl

/-! `setOut` changes regs and cmd. -/

@[simp] theorem State.setOut_pending (s : State) (i : Nat) (o : OutPin) : (s.setOut i o).pending = s.pending := rfl
@[simp] theorem State.setOut_tel (s : State) (i : Nat) (o : OutPin) : (s.setOut i o).tel = s.tel := rfl
@[simp] theorem State.setOut_tick (s : State) (i : Nat) (o : OutPin) : (s.setOut i o).tick = s.tick := rfl
@[simp] theorem State.setOut_free (s : State) (i : Nat) (o : OutPin) : (s.setOut i o).free = s.free := rfl
@[simp] theorem State.setOut_mgmt (s : State) (i : Nat) (o : OutPin) : (s.setOut i o).mgmt = s.mgmt := rfl
@[simp] theorem State.setOut_pat (s : State) (i : Nat) (o : OutPin) : (s.setOut i o).pat = s.pat := rfl
@[simp] theorem State.setOut_full (s : State) (i : Nat) (o : OutPin) : (s.setOut i o).full = s.full := rfl
@[simp] theorem State.setOut_grid (s : State) (i : Nat) (o : OutPin) : (s.setOut i o).grid = s.grid := rfl
@[simp] theorem State.setOut_chans (s : State) (i : Nat) (o : OutPin) : (s.setOut i o).chans = s.chans := rfl
@[simp] theorem State.setOut_ola (s : State) (i : Nat) (o : OutPin) : (s.setOut i o).ola = s.ola := rfl
@[simp] theorem State.setOut_dlv (s : State) (i : Nat) (o : OutPin) : (s.setOut i o).dlv = s.dlv := rfl
@[simp] theorem State.setOut_host (s : State) (i : Nat) (o : OutPin) : (s.setOut i o).host = s.host := rfl
@[simp] theorem State.setOut_drm (s : State) (i : Nat) (o : OutPin) : (s.setOut i o).drm = s.drm := rfl
@[simp] theorem State.setOut_tim (s : State) (i : Nat) (o : OutPin) : (s.setOut i o).tim = s.tim := rfl
@[simp] theorem State.setOut_hlk (s : State) (i : Nat) (o : OutPin) : (s.setOut i o).hlk = s.hlk := rfl
@[simp] theorem State.setOut_gau (s : State) (i : Nat) (o : OutPin) : (s.setOut i o).gau = s.gau := rfl
@[simp] theorem State.setOut_ser (s : State) (i : Nat) (o : OutPin) : (s.setOut i o).ser = s.ser := rfl
@[simp] theorem State.setOut_bob (s : State) (i : Nat) (o : OutPin) : (s.setOut i o).bob = s.bob := rfl
@[simp] theorem State.setOut_hbm (s : State) (i : Nat) (o : OutPin) : (s.setOut i o).hbm = s.hbm := rfl
@[simp] theorem State.setOut_sec (s : State) (i : Nat) (o : OutPin) : (s.setOut i o).sec = s.sec := rfl
@[simp] theorem State.setOut_rst (s : State) (i : Nat) (o : OutPin) : (s.setOut i o).rst = s.rst := rfl
@[simp] theorem State.setOut_ldr (s : State) (i : Nat) (o : OutPin) : (s.setOut i o).ldr = s.ldr := rfl

/-! `setPort` changes regs and ser. -/

@[simp] theorem State.setPort_pending (s : State) (n : Nat) (p : SerPort) : (s.setPort n p).pending = s.pending := rfl
@[simp] theorem State.setPort_tel (s : State) (n : Nat) (p : SerPort) : (s.setPort n p).tel = s.tel := rfl
@[simp] theorem State.setPort_tick (s : State) (n : Nat) (p : SerPort) : (s.setPort n p).tick = s.tick := rfl
@[simp] theorem State.setPort_free (s : State) (n : Nat) (p : SerPort) : (s.setPort n p).free = s.free := rfl
@[simp] theorem State.setPort_mgmt (s : State) (n : Nat) (p : SerPort) : (s.setPort n p).mgmt = s.mgmt := rfl
@[simp] theorem State.setPort_pat (s : State) (n : Nat) (p : SerPort) : (s.setPort n p).pat = s.pat := rfl
@[simp] theorem State.setPort_full (s : State) (n : Nat) (p : SerPort) : (s.setPort n p).full = s.full := rfl
@[simp] theorem State.setPort_grid (s : State) (n : Nat) (p : SerPort) : (s.setPort n p).grid = s.grid := rfl
@[simp] theorem State.setPort_chans (s : State) (n : Nat) (p : SerPort) : (s.setPort n p).chans = s.chans := rfl
@[simp] theorem State.setPort_ola (s : State) (n : Nat) (p : SerPort) : (s.setPort n p).ola = s.ola := rfl
@[simp] theorem State.setPort_dlv (s : State) (n : Nat) (p : SerPort) : (s.setPort n p).dlv = s.dlv := rfl
@[simp] theorem State.setPort_host (s : State) (n : Nat) (p : SerPort) : (s.setPort n p).host = s.host := rfl
@[simp] theorem State.setPort_drm (s : State) (n : Nat) (p : SerPort) : (s.setPort n p).drm = s.drm := rfl
@[simp] theorem State.setPort_tim (s : State) (n : Nat) (p : SerPort) : (s.setPort n p).tim = s.tim := rfl
@[simp] theorem State.setPort_hlk (s : State) (n : Nat) (p : SerPort) : (s.setPort n p).hlk = s.hlk := rfl
@[simp] theorem State.setPort_gau (s : State) (n : Nat) (p : SerPort) : (s.setPort n p).gau = s.gau := rfl
@[simp] theorem State.setPort_cmd (s : State) (n : Nat) (p : SerPort) : (s.setPort n p).cmd = s.cmd := rfl
@[simp] theorem State.setPort_bob (s : State) (n : Nat) (p : SerPort) : (s.setPort n p).bob = s.bob := rfl
@[simp] theorem State.setPort_hbm (s : State) (n : Nat) (p : SerPort) : (s.setPort n p).hbm = s.hbm := rfl
@[simp] theorem State.setPort_sec (s : State) (n : Nat) (p : SerPort) : (s.setPort n p).sec = s.sec := rfl
@[simp] theorem State.setPort_rst (s : State) (n : Nat) (p : SerPort) : (s.setPort n p).rst = s.rst := rfl
@[simp] theorem State.setPort_ldr (s : State) (n : Nat) (p : SerPort) : (s.setPort n p).ldr = s.ldr := rfl

/-! `showPort` changes regs. -/

@[simp] theorem State.showPort_pending (s : State) (n : Nat) : (s.showPort n).pending = s.pending := rfl
@[simp] theorem State.showPort_tel (s : State) (n : Nat) : (s.showPort n).tel = s.tel := rfl
@[simp] theorem State.showPort_tick (s : State) (n : Nat) : (s.showPort n).tick = s.tick := rfl
@[simp] theorem State.showPort_free (s : State) (n : Nat) : (s.showPort n).free = s.free := rfl
@[simp] theorem State.showPort_mgmt (s : State) (n : Nat) : (s.showPort n).mgmt = s.mgmt := rfl
@[simp] theorem State.showPort_pat (s : State) (n : Nat) : (s.showPort n).pat = s.pat := rfl
@[simp] theorem State.showPort_full (s : State) (n : Nat) : (s.showPort n).full = s.full := rfl
@[simp] theorem State.showPort_grid (s : State) (n : Nat) : (s.showPort n).grid = s.grid := rfl
@[simp] theorem State.showPort_chans (s : State) (n : Nat) : (s.showPort n).chans = s.chans := rfl
@[simp] theorem State.showPort_ola (s : State) (n : Nat) : (s.showPort n).ola = s.ola := rfl
@[simp] theorem State.showPort_dlv (s : State) (n : Nat) : (s.showPort n).dlv = s.dlv := rfl
@[simp] theorem State.showPort_host (s : State) (n : Nat) : (s.showPort n).host = s.host := rfl
@[simp] theorem State.showPort_drm (s : State) (n : Nat) : (s.showPort n).drm = s.drm := rfl
@[simp] theorem State.showPort_tim (s : State) (n : Nat) : (s.showPort n).tim = s.tim := rfl
@[simp] theorem State.showPort_hlk (s : State) (n : Nat) : (s.showPort n).hlk = s.hlk := rfl
@[simp] theorem State.showPort_gau (s : State) (n : Nat) : (s.showPort n).gau = s.gau := rfl
@[simp] theorem State.showPort_ser (s : State) (n : Nat) : (s.showPort n).ser = s.ser := rfl
@[simp] theorem State.showPort_cmd (s : State) (n : Nat) : (s.showPort n).cmd = s.cmd := rfl
@[simp] theorem State.showPort_bob (s : State) (n : Nat) : (s.showPort n).bob = s.bob := rfl
@[simp] theorem State.showPort_hbm (s : State) (n : Nat) : (s.showPort n).hbm = s.hbm := rfl
@[simp] theorem State.showPort_sec (s : State) (n : Nat) : (s.showPort n).sec = s.sec := rfl
@[simp] theorem State.showPort_rst (s : State) (n : Nat) : (s.showPort n).rst = s.rst := rfl
@[simp] theorem State.showPort_ldr (s : State) (n : Nat) : (s.showPort n).ldr = s.ldr := rfl

/-! `updPort` changes regs and ser. -/

@[simp] theorem State.updPort_pending (s : State) (n : Nat) (f : SerPort → SerPort) : (s.updPort n f).pending = s.pending := rfl
@[simp] theorem State.updPort_tel (s : State) (n : Nat) (f : SerPort → SerPort) : (s.updPort n f).tel = s.tel := rfl
@[simp] theorem State.updPort_tick (s : State) (n : Nat) (f : SerPort → SerPort) : (s.updPort n f).tick = s.tick := rfl
@[simp] theorem State.updPort_free (s : State) (n : Nat) (f : SerPort → SerPort) : (s.updPort n f).free = s.free := rfl
@[simp] theorem State.updPort_mgmt (s : State) (n : Nat) (f : SerPort → SerPort) : (s.updPort n f).mgmt = s.mgmt := rfl
@[simp] theorem State.updPort_pat (s : State) (n : Nat) (f : SerPort → SerPort) : (s.updPort n f).pat = s.pat := rfl
@[simp] theorem State.updPort_full (s : State) (n : Nat) (f : SerPort → SerPort) : (s.updPort n f).full = s.full := rfl
@[simp] theorem State.updPort_grid (s : State) (n : Nat) (f : SerPort → SerPort) : (s.updPort n f).grid = s.grid := rfl
@[simp] theorem State.updPort_chans (s : State) (n : Nat) (f : SerPort → SerPort) : (s.updPort n f).chans = s.chans := rfl
@[simp] theorem State.updPort_ola (s : State) (n : Nat) (f : SerPort → SerPort) : (s.updPort n f).ola = s.ola := rfl
@[simp] theorem State.updPort_dlv (s : State) (n : Nat) (f : SerPort → SerPort) : (s.updPort n f).dlv = s.dlv := rfl
@[simp] theorem State.updPort_host (s : State) (n : Nat) (f : SerPort → SerPort) : (s.updPort n f).host = s.host := rfl
@[simp] theorem State.updPort_drm (s : State) (n : Nat) (f : SerPort → SerPort) : (s.updPort n f).drm = s.drm := rfl
@[simp] theorem State.updPort_tim (s : State) (n : Nat) (f : SerPort → SerPort) : (s.updPort n f).tim = s.tim := rfl
@[simp] theorem State.updPort_hlk (s : State) (n : Nat) (f : SerPort → SerPort) : (s.updPort n f).hlk = s.hlk := rfl
@[simp] theorem State.updPort_gau (s : State) (n : Nat) (f : SerPort → SerPort) : (s.updPort n f).gau = s.gau := rfl
@[simp] theorem State.updPort_cmd (s : State) (n : Nat) (f : SerPort → SerPort) : (s.updPort n f).cmd = s.cmd := rfl
@[simp] theorem State.updPort_bob (s : State) (n : Nat) (f : SerPort → SerPort) : (s.updPort n f).bob = s.bob := rfl
@[simp] theorem State.updPort_hbm (s : State) (n : Nat) (f : SerPort → SerPort) : (s.updPort n f).hbm = s.hbm := rfl
@[simp] theorem State.updPort_sec (s : State) (n : Nat) (f : SerPort → SerPort) : (s.updPort n f).sec = s.sec := rfl
@[simp] theorem State.updPort_rst (s : State) (n : Nat) (f : SerPort → SerPort) : (s.updPort n f).rst = s.rst := rfl
@[simp] theorem State.updPort_ldr (s : State) (n : Nat) (f : SerPort → SerPort) : (s.updPort n f).ldr = s.ldr := rfl

/-! `updSec` changes sec. -/

@[simp] theorem State.updSec_pending (s : State) (f : SecSt → SecSt) : (s.updSec f).pending = s.pending := rfl
@[simp] theorem State.updSec_regs (s : State) (f : SecSt → SecSt) : (s.updSec f).regs = s.regs := rfl
@[simp] theorem State.updSec_tel (s : State) (f : SecSt → SecSt) : (s.updSec f).tel = s.tel := rfl
@[simp] theorem State.updSec_tick (s : State) (f : SecSt → SecSt) : (s.updSec f).tick = s.tick := rfl
@[simp] theorem State.updSec_free (s : State) (f : SecSt → SecSt) : (s.updSec f).free = s.free := rfl
@[simp] theorem State.updSec_mgmt (s : State) (f : SecSt → SecSt) : (s.updSec f).mgmt = s.mgmt := rfl
@[simp] theorem State.updSec_pat (s : State) (f : SecSt → SecSt) : (s.updSec f).pat = s.pat := rfl
@[simp] theorem State.updSec_full (s : State) (f : SecSt → SecSt) : (s.updSec f).full = s.full := rfl
@[simp] theorem State.updSec_grid (s : State) (f : SecSt → SecSt) : (s.updSec f).grid = s.grid := rfl
@[simp] theorem State.updSec_chans (s : State) (f : SecSt → SecSt) : (s.updSec f).chans = s.chans := rfl
@[simp] theorem State.updSec_ola (s : State) (f : SecSt → SecSt) : (s.updSec f).ola = s.ola := rfl
@[simp] theorem State.updSec_dlv (s : State) (f : SecSt → SecSt) : (s.updSec f).dlv = s.dlv := rfl
@[simp] theorem State.updSec_host (s : State) (f : SecSt → SecSt) : (s.updSec f).host = s.host := rfl
@[simp] theorem State.updSec_drm (s : State) (f : SecSt → SecSt) : (s.updSec f).drm = s.drm := rfl
@[simp] theorem State.updSec_tim (s : State) (f : SecSt → SecSt) : (s.updSec f).tim = s.tim := rfl
@[simp] theorem State.updSec_hlk (s : State) (f : SecSt → SecSt) : (s.updSec f).hlk = s.hlk := rfl
@[simp] theorem State.updSec_gau (s : State) (f : SecSt → SecSt) : (s.updSec f).gau = s.gau := rfl
@[simp] theorem State.updSec_ser (s : State) (f : SecSt → SecSt) : (s.updSec f).ser = s.ser := rfl
@[simp] theorem State.updSec_cmd (s : State) (f : SecSt → SecSt) : (s.updSec f).cmd = s.cmd := rfl
@[simp] theorem State.updSec_bob (s : State) (f : SecSt → SecSt) : (s.updSec f).bob = s.bob := rfl
@[simp] theorem State.updSec_hbm (s : State) (f : SecSt → SecSt) : (s.updSec f).hbm = s.hbm := rfl
@[simp] theorem State.updSec_rst (s : State) (f : SecSt → SecSt) : (s.updSec f).rst = s.rst := rfl
@[simp] theorem State.updSec_ldr (s : State) (f : SecSt → SecSt) : (s.updSec f).ldr = s.ldr := rfl

/-! `updRst` changes rst. -/

@[simp] theorem State.updRst_pending (s : State) (f : RstSt → RstSt) : (s.updRst f).pending = s.pending := rfl
@[simp] theorem State.updRst_regs (s : State) (f : RstSt → RstSt) : (s.updRst f).regs = s.regs := rfl
@[simp] theorem State.updRst_tel (s : State) (f : RstSt → RstSt) : (s.updRst f).tel = s.tel := rfl
@[simp] theorem State.updRst_tick (s : State) (f : RstSt → RstSt) : (s.updRst f).tick = s.tick := rfl
@[simp] theorem State.updRst_free (s : State) (f : RstSt → RstSt) : (s.updRst f).free = s.free := rfl
@[simp] theorem State.updRst_mgmt (s : State) (f : RstSt → RstSt) : (s.updRst f).mgmt = s.mgmt := rfl
@[simp] theorem State.updRst_pat (s : State) (f : RstSt → RstSt) : (s.updRst f).pat = s.pat := rfl
@[simp] theorem State.updRst_full (s : State) (f : RstSt → RstSt) : (s.updRst f).full = s.full := rfl
@[simp] theorem State.updRst_grid (s : State) (f : RstSt → RstSt) : (s.updRst f).grid = s.grid := rfl
@[simp] theorem State.updRst_chans (s : State) (f : RstSt → RstSt) : (s.updRst f).chans = s.chans := rfl
@[simp] theorem State.updRst_ola (s : State) (f : RstSt → RstSt) : (s.updRst f).ola = s.ola := rfl
@[simp] theorem State.updRst_dlv (s : State) (f : RstSt → RstSt) : (s.updRst f).dlv = s.dlv := rfl
@[simp] theorem State.updRst_host (s : State) (f : RstSt → RstSt) : (s.updRst f).host = s.host := rfl
@[simp] theorem State.updRst_drm (s : State) (f : RstSt → RstSt) : (s.updRst f).drm = s.drm := rfl
@[simp] theorem State.updRst_tim (s : State) (f : RstSt → RstSt) : (s.updRst f).tim = s.tim := rfl
@[simp] theorem State.updRst_hlk (s : State) (f : RstSt → RstSt) : (s.updRst f).hlk = s.hlk := rfl
@[simp] theorem State.updRst_gau (s : State) (f : RstSt → RstSt) : (s.updRst f).gau = s.gau := rfl
@[simp] theorem State.updRst_ser (s : State) (f : RstSt → RstSt) : (s.updRst f).ser = s.ser := rfl
@[simp] theorem State.updRst_cmd (s : State) (f : RstSt → RstSt) : (s.updRst f).cmd = s.cmd := rfl
@[simp] theorem State.updRst_bob (s : State) (f : RstSt → RstSt) : (s.updRst f).bob = s.bob := rfl
@[simp] theorem State.updRst_hbm (s : State) (f : RstSt → RstSt) : (s.updRst f).hbm = s.hbm := rfl
@[simp] theorem State.updRst_sec (s : State) (f : RstSt → RstSt) : (s.updRst f).sec = s.sec := rfl
@[simp] theorem State.updRst_ldr (s : State) (f : RstSt → RstSt) : (s.updRst f).ldr = s.ldr := rfl

/-! `sendEth` changes host. -/

@[simp] theorem State.sendEth_pending (s : State) (port : Nat) (b : List Byte) : (s.sendEth port b).pending = s.pending := rfl
@[simp] theorem State.sendEth_regs (s : State) (port : Nat) (b : List Byte) : (s.sendEth port b).regs = s.regs := rfl
@[simp] theorem State.sendEth_tel (s : State) (port : Nat) (b : List Byte) : (s.sendEth port b).tel = s.tel := rfl
@[simp] theorem State.sendEth_tick (s : State) (port : Nat) (b : List Byte) : (s.sendEth port b).tick = s.tick := rfl
@[simp] theorem State.sendEth_free (s : State) (port : Nat) (b : List Byte) : (s.sendEth port b).free = s.free := rfl
@[simp] theorem State.sendEth_mgmt (s : State) (port : Nat) (b : List Byte) : (s.sendEth port b).mgmt = s.mgmt := rfl
@[simp] theorem State.sendEth_pat (s : State) (port : Nat) (b : List Byte) : (s.sendEth port b).pat = s.pat := rfl
@[simp] theorem State.sendEth_full (s : State) (port : Nat) (b : List Byte) : (s.sendEth port b).full = s.full := rfl
@[simp] theorem State.sendEth_grid (s : State) (port : Nat) (b : List Byte) : (s.sendEth port b).grid = s.grid := rfl
@[simp] theorem State.sendEth_chans (s : State) (port : Nat) (b : List Byte) : (s.sendEth port b).chans = s.chans := rfl
@[simp] theorem State.sendEth_ola (s : State) (port : Nat) (b : List Byte) : (s.sendEth port b).ola = s.ola := rfl
@[simp] theorem State.sendEth_dlv (s : State) (port : Nat) (b : List Byte) : (s.sendEth port b).dlv = s.dlv := rfl
@[simp] theorem State.sendEth_drm (s : State) (port : Nat) (b : List Byte) : (s.sendEth port b).drm = s.drm := rfl
@[simp] theorem State.sendEth_tim (s : State) (port : Nat) (b : List Byte) : (s.sendEth port b).tim = s.tim := rfl
@[simp] theorem State.sendEth_hlk (s : State) (port : Nat) (b : List Byte) : (s.sendEth port b).hlk = s.hlk := rfl
@[simp] theorem State.sendEth_gau (s : State) (port : Nat) (b : List Byte) : (s.sendEth port b).gau = s.gau := rfl
@[simp] theorem State.sendEth_ser (s : State) (port : Nat) (b : List Byte) : (s.sendEth port b).ser = s.ser := rfl
@[simp] theorem State.sendEth_cmd (s : State) (port : Nat) (b : List Byte) : (s.sendEth port b).cmd = s.cmd := rfl
@[simp] theorem State.sendEth_bob (s : State) (port : Nat) (b : List Byte) : (s.sendEth port b).bob = s.bob := rfl
@[simp] theorem State.sendEth_hbm (s : State) (port : Nat) (b : List Byte) : (s.sendEth port b).hbm = s.hbm := rfl
@[simp] theorem State.sendEth_sec (s : State) (port : Nat) (b : List Byte) : (s.sendEth port b).sec = s.sec := rfl
@[simp] theorem State.sendEth_rst (s : State) (port : Nat) (b : List Byte) : (s.sendEth port b).rst = s.rst := rfl
@[simp] theorem State.sendEth_ldr (s : State) (port : Nat) (b : List Byte) : (s.sendEth port b).ldr = s.ldr := rfl

/-! `setBob` changes regs and bob. -/

@[simp] theorem State.setBob_pending (s : State) (b : Nat) (x : Bob) : (s.setBob b x).pending = s.pending := rfl
@[simp] theorem State.setBob_tel (s : State) (b : Nat) (x : Bob) : (s.setBob b x).tel = s.tel := rfl
@[simp] theorem State.setBob_tick (s : State) (b : Nat) (x : Bob) : (s.setBob b x).tick = s.tick := rfl
@[simp] theorem State.setBob_free (s : State) (b : Nat) (x : Bob) : (s.setBob b x).free = s.free := rfl
@[simp] theorem State.setBob_mgmt (s : State) (b : Nat) (x : Bob) : (s.setBob b x).mgmt = s.mgmt := rfl
@[simp] theorem State.setBob_pat (s : State) (b : Nat) (x : Bob) : (s.setBob b x).pat = s.pat := rfl
@[simp] theorem State.setBob_full (s : State) (b : Nat) (x : Bob) : (s.setBob b x).full = s.full := rfl
@[simp] theorem State.setBob_grid (s : State) (b : Nat) (x : Bob) : (s.setBob b x).grid = s.grid := rfl
@[simp] theorem State.setBob_chans (s : State) (b : Nat) (x : Bob) : (s.setBob b x).chans = s.chans := rfl
@[simp] theorem State.setBob_ola (s : State) (b : Nat) (x : Bob) : (s.setBob b x).ola = s.ola := rfl
@[simp] theorem State.setBob_dlv (s : State) (b : Nat) (x : Bob) : (s.setBob b x).dlv = s.dlv := rfl
@[simp] theorem State.setBob_host (s : State) (b : Nat) (x : Bob) : (s.setBob b x).host = s.host := rfl
@[simp] theorem State.setBob_drm (s : State) (b : Nat) (x : Bob) : (s.setBob b x).drm = s.drm := rfl
@[simp] theorem State.setBob_tim (s : State) (b : Nat) (x : Bob) : (s.setBob b x).tim = s.tim := rfl
@[simp] theorem State.setBob_hlk (s : State) (b : Nat) (x : Bob) : (s.setBob b x).hlk = s.hlk := rfl
@[simp] theorem State.setBob_gau (s : State) (b : Nat) (x : Bob) : (s.setBob b x).gau = s.gau := rfl
@[simp] theorem State.setBob_ser (s : State) (b : Nat) (x : Bob) : (s.setBob b x).ser = s.ser := rfl
@[simp] theorem State.setBob_cmd (s : State) (b : Nat) (x : Bob) : (s.setBob b x).cmd = s.cmd := rfl
@[simp] theorem State.setBob_hbm (s : State) (b : Nat) (x : Bob) : (s.setBob b x).hbm = s.hbm := rfl
@[simp] theorem State.setBob_sec (s : State) (b : Nat) (x : Bob) : (s.setBob b x).sec = s.sec := rfl
@[simp] theorem State.setBob_rst (s : State) (b : Nat) (x : Bob) : (s.setBob b x).rst = s.rst := rfl
@[simp] theorem State.setBob_ldr (s : State) (b : Nat) (x : Bob) : (s.setBob b x).ldr = s.ldr := rfl

end Sys2Proof.Machine
end

