-- ==== Sys2Proof/Laws/Table.lean ====
section
/-! SUPPORT. Laws of tables and memories: read after write, and the canonical form every operation keeps. -/

namespace Sys2Proof.Machine

variable {α : Type}

@[simp] theorem tget_nil (d : α) (k : Nat) : tget d k [] = d := rfl

@[simp] theorem tfind_nil (k : Nat) : tfind k ([] : Tbl α) = none := rfl

/-- What a key reads as is its entry, or the default. -/
theorem tget_eq_tfind (d : α) (k : Nat) (t : Tbl α) : tget d k t = (tfind k t).getD d := by
  induction t with
  | nil => rfl
  | cons e t ih => obtain ⟨a, b⟩ := e; by_cases h : k = a <;> simp [tget, tfind, h, ih]

/-- An entry set is found. -/
@[simp] theorem tfind_tset_same (k : Nat) (v : α) (t : Tbl α) : tfind k (tset k v t) = some v := by
  induction t with
  | nil => simp [tset, tfind]
  | cons e t ih =>
    obtain ⟨a, b⟩ := e
    by_cases h1 : k < a
    · simp [tset, tfind, h1]
    · by_cases h2 : k = a
      · simp [tset, tfind, h2]
      · simp [tset, tfind, h1, h2, ih]

/-- Setting an entry leaves the others. -/
theorem tfind_tset_ne {k j : Nat} (h : j ≠ k) (v : α) (t : Tbl α) : tfind j (tset k v t) = tfind j t := by
  induction t with
  | nil => simp [tset, tfind, h]
  | cons e t ih =>
    obtain ⟨a, b⟩ := e
    by_cases h1 : k < a
    · simp [tset, tfind, h1, h]
    · by_cases h2 : k = a
      · subst h2; simp [tset, tfind, h]
      · by_cases h3 : j = a <;> simp [tset, tfind, h1, h2, h3, ih]

/-- An entry removed is not found. -/
@[simp] theorem tfind_tdel_same (k : Nat) (t : Tbl α) : tfind k (tdel k t) = none := by
  induction t with
  | nil => rfl
  | cons e t ih =>
    obtain ⟨a, b⟩ := e
    by_cases h : a = k
    · simpa [tdel, h] using ih
    · have h' : k ≠ a := fun x => h x.symm
      simpa [tdel, tfind, h, h'] using ih

/-- Removing an entry leaves the others. -/
theorem tfind_tdel_ne {k j : Nat} (h : j ≠ k) (t : Tbl α) : tfind j (tdel k t) = tfind j t := by
  induction t with
  | nil => rfl
  | cons e t ih =>
    obtain ⟨a, b⟩ := e
    by_cases h1 : a = k
    · have h2 : j ≠ a := fun x => h (x.trans h1)
      have e1 : tdel k ((a, b) :: t) = tdel k t := by simp [tdel, h1]
      rw [e1, ih]; simp [tfind, h2]
    · have e1 : tdel k ((a, b) :: t) = (a, b) :: tdel k t := by simp [tdel, h1]
      rw [e1]
      by_cases h2 : j = a <;> simp [tfind, h2, ih]

@[simp] theorem tget_tset_same (d : α) (k : Nat) (v : α) (t : Tbl α) : tget d k (tset k v t) = v := by
  simp [tget_eq_tfind]

theorem tget_tset_ne {k j : Nat} (h : j ≠ k) (d v : α) (t : Tbl α) : tget d j (tset k v t) = tget d j t := by
  simp [tget_eq_tfind, tfind_tset_ne h]

@[simp] theorem tget_tdel_same (d : α) (k : Nat) (t : Tbl α) : tget d k (tdel k t) = d := by simp [tget_eq_tfind]

theorem tget_tdel_ne {k j : Nat} (h : j ≠ k) (d : α) (t : Tbl α) : tget d j (tdel k t) = tget d j t := by
  simp [tget_eq_tfind, tfind_tdel_ne h]

/-- A key written reads back. -/
@[simp] theorem tget_tput_same [DecidableEq α] (d : α) (k : Nat) (v : α) (t : Tbl α) : tget d k (tput d k v t) = v := by
  unfold tput; split
  · simp [*]
  · simp

/-- Writing a key leaves every other key, whatever it reads as. -/
theorem tget_tput_ne [DecidableEq α] {k j : Nat} (h : j ≠ k) (d d' v : α) (t : Tbl α) :
    tget d j (tput d' k v t) = tget d j t := by
  unfold tput; split
  · exact tget_tdel_ne h d t
  · exact tget_tset_ne h d v t

theorem tfind_tput_ne [DecidableEq α] {k j : Nat} (h : j ≠ k) (d v : α) (t : Tbl α) :
    tfind j (tput d k v t) = tfind j t := by
  unfold tput; split
  · exact tfind_tdel_ne h t
  · exact tfind_tset_ne h v t

/-- The keys of a table with an entry set: those it had, and the new one. -/
theorem mem_tset {k : Nat} {v : α} {t : Tbl α} {e : Nat × α} (h : e ∈ tset k v t) : e = (k, v) ∨ e ∈ t := by
  induction t with
  | nil => simpa [tset] using h
  | cons x t ih =>
    obtain ⟨a, b⟩ := x
    simp only [tset] at h
    split at h
    · simpa using h
    · split at h
      · rcases List.mem_cons.1 h with h | h
        · exact .inl h
        · exact .inr (List.mem_cons_of_mem _ h)
      · rcases List.mem_cons.1 h with h | h
        · exact .inr (h ▸ List.mem_cons_self)
        · rcases ih h with h | h
          · exact .inl h
          · exact .inr (List.mem_cons_of_mem _ h)

/-- The entries of a table in which another was set are kept. -/
theorem mem_tset_of_ne {k : Nat} {v : α} {t : Tbl α} {e : Nat × α} (h : e ∈ t) (hk : e.1 ≠ k) : e ∈ tset k v t := by
  induction t with
  | nil => cases h
  | cons x t ih =>
    obtain ⟨a, b⟩ := x
    simp only [tset]
    rcases List.mem_cons.1 h with h1 | h1
    · subst h1
      have : k ≠ a := fun x => hk x.symm
      split
      · exact List.mem_cons_of_mem _ List.mem_cons_self
      · exact List.mem_cons_self
    · split
      · simp [h1]
      · split
        · simp [h1]
        · simp [ih h1]

/-- Keys that rise strictly. -/
def TblSorted (t : Tbl α) : Prop := t.Pairwise (fun a b => a.1 < b.1)

theorem TblSorted.nil : TblSorted ([] : Tbl α) := List.Pairwise.nil

theorem TblSorted.tset {t : Tbl α} (h : TblSorted t) (k : Nat) (v : α) : TblSorted (tset k v t) := by
  induction t with
  | nil => simp [TblSorted, Machine.tset]
  | cons x t ih =>
    obtain ⟨a, b⟩ := x
    obtain ⟨h1, h2⟩ := List.pairwise_cons.1 h
    simp only [Machine.tset]
    split
    · rename_i hlt
      refine List.pairwise_cons.2 ⟨?_, h⟩
      intro e he
      rcases List.mem_cons.1 he with he | he
      · subst he; exact hlt
      · exact Nat.lt_trans hlt (h1 e he)
    · split
      · rename_i h3; subst h3
        exact List.pairwise_cons.2 ⟨h1, h2⟩
      · rename_i h3 h4
        refine List.pairwise_cons.2 ⟨?_, ih h2⟩
        intro e he
        rcases mem_tset he with he | he
        · subst he; show a < k; omega
        · exact h1 e he

theorem TblSorted.filter {t : Tbl α} (h : TblSorted t) (p : Nat × α → Bool) : TblSorted (t.filter p) :=
  List.Pairwise.filter p h

theorem TblSorted.tdel {t : Tbl α} (h : TblSorted t) (k : Nat) : TblSorted (tdel k t) := h.filter _

theorem TblSorted.tput [DecidableEq α] {t : Tbl α} (h : TblSorted t) (d : α) (k : Nat) (v : α) : TblSorted (tput d k v t) := by
  unfold Machine.tput; split
  · exact h.tdel k
  · exact h.tset k v

/-- In a table in order an entry listed is the one found. -/
theorem TblSorted.tfind_of_mem {t : Tbl α} (h : TblSorted t) {e : Nat × α} (he : e ∈ t) : tfind e.1 t = some e.2 := by
  induction t with
  | nil => cases he
  | cons x t ih =>
    obtain ⟨a, b⟩ := x
    obtain ⟨h1, h2⟩ := List.pairwise_cons.1 h
    rcases List.mem_cons.1 he with he | he
    · subst he; simp [tfind]
    · have : e.1 ≠ a := fun hx => Nat.lt_irrefl a (by simpa [hx] using h1 e he)
      simp [tfind, this, ih h2 he]

/-- Writing a key keeps the canonical form. -/
theorem tblWf_tput [DecidableEq α] {d : α} {t : Tbl α} (h : tblWf (fun _ => d) t) (k : Nat) (v : α) :
    tblWf (fun _ => d) (tput d k v t) := by
  obtain ⟨h1, h2⟩ := h
  refine ⟨TblSorted.tput h1 d k v, ?_⟩
  intro e he
  unfold tput at he; split at he
  · exact h2 e (List.mem_of_mem_filter he)
  · rename_i hv
    rcases mem_tset he with he | he
    · subst he; exact hv
    · exact h2 e he

/-- The empty memory is in canonical form. -/
@[simp] theorem memory_wf_nil : Memory.wf [] := ⟨List.Pairwise.nil, by simp⟩

/-- A store keeps the canonical form. -/
theorem memory_wf_store {m : Memory} (h : m.wf) (a : Nat) (b : Byte) : (memStore m a b).wf := tblWf_tput h a b

/-- A store of a byte string keeps the canonical form. -/
theorem memory_wf_stores {m : Memory} (h : m.wf) (a : Nat) (l : List Byte) : (memStores m a l).wf := by
  induction l generalizing m a with
  | nil => exact h
  | cons b l ih => exact ih (memory_wf_store h a b) (a + 1)

/-- A byte stored reads back; every other byte is as it was. -/
theorem memByte_memStore (m : Memory) (a b : Nat) (v : Byte) :
    memByte (memStore m a v) b = if b = a then v else memByte m b := by
  unfold memByte memStore
  split
  · subst_vars; exact tget_tput_same _ _ _ _
  · rename_i h; exact tget_tput_ne h _ _ _ _

/-- Reading after a store of a byte string. -/
theorem memByte_memStores (m : Memory) (a b : Nat) (l : List Byte) :
    memByte (memStores m a l) b = if a ≤ b ∧ b < a + l.length then l.getD (b - a) 0 else memByte m b := by
  induction l generalizing m a with
  | nil => simp [memStores]
  | cons x l ih =>
    simp only [memStores, ih, memByte_memStore, List.length_cons]
    by_cases h1 : b = a
    · subst h1; simp
    · by_cases h2 : a + 1 ≤ b ∧ b < a + 1 + l.length
      · have h3 : a ≤ b ∧ b < a + (l.length + 1) := by omega
        have h4 : b - a = (b - (a + 1)) + 1 := by omega
        simp only [h2, h3, h4, and_self, if_true]
        simp
      · have h3 : ¬ (a ≤ b ∧ b < a + (l.length + 1)) := by omega
        rw [if_neg h2, if_neg h3, if_neg h1]

end Sys2Proof.Machine
end

