-- ==== Sys2Proof/Laws/Bytes.lean ====
section
/-! SUPPORT. Laws of byte strings: their lengths, what a number's bytes read back as, and memory read as a string. -/

namespace Sys2Proof.Machine

@[simp] theorem length_le_bytes (n v : Nat) : (le n v).length = n := by
  induction n generalizing v with
  | zero => rfl
  | succ n ih => simp [le, ih]

@[simp] theorem length_be_bytes (n v : Nat) : (be n v).length = n := by simp [be]

theorem length_words (l : List Nat) : (l.flatMap (le 4)).length = 4 * l.length := by
  induction l with
  | nil => rfl
  | cons x l ih => simp [ih]; omega

@[simp] theorem length_slice (l : List Byte) (a n : Nat) : (slice l a n).length = n := by
  simp [slice]

/-- A string that begins at offset 0 and is as long as asked is itself. -/
theorem slice_self (l : List Byte) : slice l 0 l.length = l := by simp [slice]

/-- The part of a string after a first part. -/
theorem slice_append (a b : List Byte) (n : Nat) : slice (a ++ b) a.length n = slice b 0 n := by simp [slice]

@[simp] theorem length_memBytes (m : Memory) (a n : Nat) : (memBytes m a n).length = n := by
  induction n generalizing a with
  | zero => rfl
  | succ n ih => simp [memBytes, ih]

theorem getElem_memBytes (m : Memory) (a n i : Nat) (h : i < (memBytes m a n).length) : (memBytes m a n)[i] = memByte m (a + i) := by
  induction n generalizing a i with
  | zero => simp [memBytes] at h
  | succ n ih =>
    cases i with
    | zero => simp [memBytes]
    | succ i =>
      have : a + 1 + i = a + (i + 1) := by omega
      simp only [memBytes, List.getElem_cons_succ, ih, this]

/-- A string stored reads back. -/
theorem memBytes_memStores (m : Memory) (a : Nat) (l : List Byte) : memBytes (memStores m a l) a l.length = l := by
  apply List.ext_getElem
  · simp
  · intro i h1 h2
    rw [getElem_memBytes, memByte_memStores, if_pos (by omega)]
    have : a + i - a = i := by omega
    simp [this, List.getElem?_eq_getElem h2]

/-- The number of a number's bytes. -/
theorem ofLe_le (n v : Nat) : ofLe (le n v) = v % 256 ^ n := by
  induction n generalizing v with
  | zero => simp [le, ofLe, Nat.mod_one]
  | succ n ih =>
    simp only [le, ofLe, ih, byte, BitVec.toNat_ofNat, Nat.reducePow]
    rw [Nat.pow_succ 256 n, Nat.mul_comm (256 ^ n) 256, Nat.mod_mul]

theorem leAt_zero (l : List Byte) (n : Nat) (h : n ≤ l.length) : leAt l 0 n = ofLe (l.take n) := by
  simp [leAt, slice, h]

theorem leAt_le (n v : Nat) (l : List Byte) (h : v < 256 ^ n) : leAt (le n v ++ l) 0 n = v := by
  rw [leAt_zero _ _ (by simp), List.take_left' (by simp), ofLe_le, Nat.mod_eq_of_lt h]

theorem leAt_cons (b : Byte) (l : List Byte) (k n : Nat) : leAt (b :: l) (k + 1) n = leAt l k n := by simp [leAt, slice]

theorem leAt_append (a l : List Byte) (k n : Nat) : leAt (a ++ l) (a.length + k) n = leAt l k n := by
  simp [leAt, slice]

theorem leAt_byte (a : Nat) (l : List Byte) : leAt (byte a :: l) 0 1 = a % 256 := by
  simp [leAt, slice, byte, ofLe]

theorem leAt_le2 (a : Nat) (l : List Byte) (h : a < 65536) : leAt (le 2 a ++ l) 0 2 = a := leAt_le 2 a l (by simpa using h)

theorem leAt_le4 (a : Nat) (l : List Byte) (h : a < 4294967296) : leAt (le 4 a ++ l) 0 4 = a := leAt_le 4 a l (by simpa using h)

theorem leAt_le6 (a : Nat) (l : List Byte) (h : a < 281474976710656) : leAt (le 6 a ++ l) 0 6 = a := leAt_le 6 a l (by simpa using h)

theorem leAt_le8 (a : Nat) (l : List Byte) (h : a < 18446744073709551616) : leAt (le 8 a ++ l) 0 8 = a := leAt_le 8 a l (by simpa using h)

theorem leAt_le2_only (a : Nat) (h : a < 65536) : leAt (le 2 a) 0 2 = a := by simpa using leAt_le 2 a [] (by simpa using h)

theorem leAt_le4_only (a : Nat) (h : a < 4294967296) : leAt (le 4 a) 0 4 = a := by simpa using leAt_le 4 a [] (by simpa using h)

theorem leAt_le8_only (a : Nat) (h : a < 18446744073709551616) : leAt (le 8 a) 0 8 = a := by simpa using leAt_le 8 a [] (by simpa using h)

theorem leAt_skip_le2 (a k n : Nat) (l : List Byte) : leAt (le 2 a ++ l) (k + 2) n = leAt l k n := by
  have := leAt_append (le 2 a) l k n; rw [length_le_bytes, Nat.add_comm] at this; exact this

theorem leAt_skip_le4 (a k n : Nat) (l : List Byte) : leAt (le 4 a ++ l) (k + 4) n = leAt l k n := by
  have := leAt_append (le 4 a) l k n; rw [length_le_bytes, Nat.add_comm] at this; exact this

theorem leAt_skip_le6 (a k n : Nat) (l : List Byte) : leAt (le 6 a ++ l) (k + 6) n = leAt l k n := by
  have := leAt_append (le 6 a) l k n; rw [length_le_bytes, Nat.add_comm] at this; exact this

end Sys2Proof.Machine
end

