-- ==== Sys2Proof/Laws/Ops.lean ====
section
/-! SUPPORT. Laws of the shared operations: register fields, counters, events, answers. -/

namespace Sys2Proof.Machine

/-- Fields have their own numbers. -/
theorem Fld.num_inj {F G : Fld} (h : F.num = G.num) : F = G := by
  have e : ∀ X : Fld, Fld.ofNat X.ctorIdx = X := by intro X; cases X <;> rfl
  have := congrArg Fld.ofNat h
  simpa [Fld.num, e] using this

/-- Every field's number is below 1024. -/
theorem Fld.num_lt (F : Fld) : F.num < 1024 := by cases F <;> decide

/-- Field instances have their own keys. -/
theorem Fld.key_inj {F G : Fld} {i j : Nat} (h : F.key i = G.key j) : F = G ∧ i = j := by
  unfold Fld.key at h
  have hF := F.num_lt
  have hG := G.num_lt
  have h1 : F.num = G.num := by omega
  exact ⟨Fld.num_inj h1, by omega⟩

/-- A field written reads back, held to its width. -/
@[simp] theorem State.fld_setFld_same (s : State) (F : Fld) (i v : Nat) : (s.setFld F i v).fld F i = v % 2 ^ F.width := by
  unfold State.fld State.setFld; exact tget_tput_same _ _ _ _

/-- Writing a field leaves every other. -/
theorem State.fld_setFld_ne (s : State) {F G : Fld} {i j : Nat} (v : Nat) (h : ¬(G = F ∧ j = i)) :
    (s.setFld F i v).fld G j = s.fld G j := by
  unfold State.fld State.setFld
  exact tget_tput_ne (fun hk => h (Fld.key_inj hk)) _ _ _ _

/-- Reading a field after a write of one. -/
theorem State.fld_setFld (s : State) (F G : Fld) (i j v : Nat) :
    (s.setFld F i v).fld G j = if G = F ∧ j = i then v % 2 ^ F.width else s.fld G j := by
  split
  · rename_i h; obtain ⟨rfl, rfl⟩ := h; simp
  · rename_i h; exact s.fld_setFld_ne v h

theorem State.fld_setFlag (s : State) (F G : Fld) (i j : Nat) (b : Bool) :
    (s.setFlag F i b).fld G j = if G = F ∧ j = i then b2n b % 2 ^ F.width else s.fld G j := s.fld_setFld F G i j _

theorem State.fld_bumpN (s : State) (F G : Fld) (i j n : Nat) :
    (s.bumpN F i n).fld G j = if G = F ∧ j = i then min (s.fld F i + n) (2 ^ F.width - 1) else s.fld G j := by
  have e : (s.bumpN F i n).fld G j = (s.setFld F i (min (s.fld F i + n) (2 ^ F.width - 1))).fld G j := rfl
  rw [e, State.fld_setFld]
  have : min (s.fld F i + n) (2 ^ F.width - 1) < 2 ^ F.width := by
    have := Nat.two_pow_pos F.width; omega
  rw [Nat.mod_eq_of_lt this]

theorem State.fld_bump (s : State) (F G : Fld) (i j : Nat) :
    (s.bump F i).fld G j = if G = F ∧ j = i then min (s.fld F i + 1) (2 ^ F.width - 1) else s.fld G j := s.fld_bumpN F G i j 1

theorem State.fld_bumpWrap (s : State) (F G : Fld) (i j : Nat) :
    (s.bumpWrap F i).fld G j = if G = F ∧ j = i then (s.fld F i + 1) % 2 ^ F.width else s.fld G j := by
  have e : (s.bumpWrap F i).fld G j = (s.setFld F i (s.fld F i + 1)).fld G j := rfl
  rw [e, State.fld_setFld]

/-- Registers fields depend on the table of registers alone. -/
theorem State.fld_congr {s t : State} (h : t.regs = s.regs) (F : Fld) (i : Nat) : t.fld F i = s.fld F i := by
  unfold State.fld; rw [h]

@[simp] theorem State.fld_drawFree (s : State) (F : Fld) (i : Nat) : s.drawFree.2.fld F i = s.fld F i := rfl
@[simp] theorem State.fld_setChan (s : State) (ch : Nat) (c : Chan) (F : Fld) (i : Nat) :
    (s.setChan ch c).fld F i = s.fld F i := rfl
@[simp] theorem State.fld_updChan (s : State) (ch : Nat) (f : Chan → Chan) (F : Fld) (i : Nat) :
    (s.updChan ch f).fld F i = s.fld F i := rfl
@[simp] theorem State.fld_request (s : State) (c : SlotChange) (F : Fld) (i : Nat) : (s.request c).fld F i = s.fld F i := rfl
@[simp] theorem State.fld_requestState (s : State) (ch st cause : Nat) (F : Fld) (i : Nat) :
    (s.requestState ch st cause).fld F i = s.fld F i := rfl

/-- What a channel holds, written, reads back. -/
@[simp] theorem State.chan_setChan_same (s : State) (ch : Nat) (c : Chan) : (s.setChan ch c).chan ch = c :=
  tget_tput_same _ _ _ _
/-- Writing what a channel holds leaves the others. -/
theorem State.chan_setChan_ne (s : State) {ch x : Nat} (c : Chan) (h : x ≠ ch) : (s.setChan ch c).chan x = s.chan x :=
  tget_tput_ne h _ _ _ _
@[simp] theorem State.chan_setFld (s : State) (F : Fld) (i v x : Nat) : (s.setFld F i v).chan x = s.chan x := rfl
@[simp] theorem State.chan_setFlag (s : State) (F : Fld) (i x : Nat) (b : Bool) : (s.setFlag F i b).chan x = s.chan x := rfl
@[simp] theorem State.chan_bump (s : State) (F : Fld) (i x : Nat) : (s.bump F i).chan x = s.chan x := rfl

/-- Fields that differ from the one written are kept. -/
theorem FldsKept.refl (fs : List (Fld × Nat)) (s : State) : FldsKept fs s s := fun _ _ _ => rfl

theorem FldsKept.trans {fs : List (Fld × Nat)} {s t u : State} (h : FldsKept fs s t) (k : FldsKept fs t u) : FldsKept fs s u :=
  fun F i hn => (k F i hn).trans (h F i hn)

theorem FldsKept.mono {fs gs : List (Fld × Nat)} {s t : State} (h : FldsKept fs s t) (hs : ∀ x ∈ fs, x ∈ gs) : FldsKept gs s t :=
  fun F i hn => h F i (fun hm => hn (hs _ hm))

theorem FldsKept.setFld {fs : List (Fld × Nat)} {s t : State} (h : FldsKept fs s t) {F : Fld} {i : Nat} (v : Nat)
    (hm : (F, i) ∈ fs) : FldsKept fs s (t.setFld F i v) := by
  intro G j hn
  rw [State.fld_setFld_ne]
  · exact h G j hn
  · rintro ⟨rfl, rfl⟩; exact hn hm

theorem FldsKept.setFlag {fs : List (Fld × Nat)} {s t : State} (h : FldsKept fs s t) {F : Fld} {i : Nat} (b : Bool)
    (hm : (F, i) ∈ fs) : FldsKept fs s (t.setFlag F i b) := h.setFld _ hm

theorem FldsKept.bumpN {fs : List (Fld × Nat)} {s t : State} (h : FldsKept fs s t) {F : Fld} {i : Nat} (n : Nat)
    (hm : (F, i) ∈ fs) : FldsKept fs s (t.bumpN F i n) := fun G j hn => (h.setFld _ hm) G j hn

theorem FldsKept.bump {fs : List (Fld × Nat)} {s t : State} (h : FldsKept fs s t) {F : Fld} {i : Nat}
    (hm : (F, i) ∈ fs) : FldsKept fs s (t.bump F i) := h.bumpN 1 hm

theorem FldsKept.congr {fs : List (Fld × Nat)} {s t u : State} (h : FldsKept fs s t) (e : u.regs = t.regs) : FldsKept fs s u :=
  fun F i hn => (State.fld_congr e F i).trans (h F i hn)

/-- The read positions and lost counts are among the fields an event may change. -/
theorem mem_logFlds_rd {p : Nat} (h : p < 16) : (Fld.EVT_PNL_RD_rd, p) ∈ logFlds := by
  simp only [logFlds, List.mem_append, List.mem_map, List.mem_range]
  exact .inl (.inr ⟨p, h, rfl⟩)

theorem mem_logFlds_lost {p : Nat} (h : p < 16) : (Fld.EVT_PNL_CNT_lost, p) ∈ logFlds := by
  simp only [logFlds, List.mem_append, List.mem_map, List.mem_range]
  exact .inr ⟨p, h, rfl⟩

/-- What an event touches: the log fields, the event ring and its count, the staging buffer, the accumulators. -/
structure LogKept (s t : State) : Prop where
  flds : FldsKept logFlds s t
  rest : { t with regs := s.regs, tel := s.tel, mgmt := s.mgmt, hbm := s.hbm } = s
  mgmt : { t.mgmt with ring := s.mgmt.ring, live := s.mgmt.live } = s.mgmt
  hbm : { t.hbm with staged := s.hbm.staged } = s.hbm

theorem LogKept.refl (s : State) : LogKept s s := ⟨FldsKept.refl _ s, rfl, rfl, rfl⟩

theorem LogKept.trans {s t u : State} (h : LogKept s t) (k : LogKept t u) : LogKept s u := by
  refine ⟨h.flds.trans k.flds, ?_, ?_, ?_⟩
  · have h1 := h.rest; have k1 := k.rest
    rw [← k1] at h1; simpa using h1
  · have h1 := h.mgmt; have k1 := k.mgmt
    rw [← k1] at h1; simpa using h1
  · have h1 := h.hbm; have k1 := k.hbm
    rw [← k1] at h1; simpa using h1

theorem LogKept.setFld {s t : State} (h : LogKept s t) {F : Fld} {i : Nat} (v : Nat) (hm : (F, i) ∈ logFlds) :
    LogKept s (t.setFld F i v) := ⟨h.flds.setFld v hm, h.rest, h.mgmt, h.hbm⟩

theorem LogKept.setFlag {s t : State} (h : LogKept s t) {F : Fld} {i : Nat} (b : Bool) (hm : (F, i) ∈ logFlds) :
    LogKept s (t.setFlag F i b) := h.setFld _ hm

theorem LogKept.bump {s t : State} (h : LogKept s t) {F : Fld} {i : Nat} (hm : (F, i) ∈ logFlds) :
    LogKept s (t.bump F i) := ⟨h.flds.bump hm, h.rest, h.mgmt, h.hbm⟩

theorem LogKept.ring {s t : State} (h : LogKept s t) (r : Tbl Ev) (n : Nat) :
    LogKept s { t with mgmt := { t.mgmt with ring := r, live := n } } :=
  ⟨h.flds.congr rfl, by simpa using h.rest, by simpa using h.mgmt, h.hbm⟩

theorem evPush_kept (old nxt : Nat) (e : Option Ev) (l : List Nat) (s t : State) (h : LogKept s t) (hl : ∀ p ∈ l, p < 16) :
    LogKept s (evPush old nxt e l t) := by
  induction l generalizing t with
  | nil => exact h
  | cons p l ih =>
    unfold evPush
    apply ih
    · dsimp only
      split
      · split
        · exact (h.setFld _ (mem_logFlds_rd (hl p (by simp)))).bump (mem_logFlds_lost (hl p (by simp)))
        · exact h.setFld _ (mem_logFlds_rd (hl p (by simp)))
      · exact h
    · intro q hq; exact hl q (by simp [hq])

theorem stageLog_kept (s : State) (e : Ev) : LogKept s (s.stageLog e) := by
  unfold State.stageLog
  split
  · exact ⟨fun _ _ _ => rfl, rfl, rfl, rfl⟩
  · exact LogKept.bump (s := s) (F := .HBM_MISC_CNT_log_drop) (i := 0)
      (t := { s with hbm := { s.hbm with staged := s.hbm.staged.drop 1 ++ [e] } }) ⟨fun _ _ _ => rfl, rfl, rfl, rfl⟩
      (by simp [logFlds])

theorem evWrite_kept (s : State) (e : Ev) : LogKept s (s.evWrite e) := by
  unfold State.evWrite
  extract_lets s1 h h' m s2 s3 s4 m2
  have k1 : LogKept s s1 := stageLog_kept s e
  have k2 : LogKept s s2 := k1.ring _ s1.mgmt.live
  have k3 : LogKept s s3 := by
    show LogKept s (if h' = 0 then s2.setFlag .EVT_STATUS_wrapped 0 true else s2)
    split
    · exact k2.setFlag _ (by simp [logFlds])
    · exact k2
  have k4 : LogKept s s4 := k3.setFld (F := .EVT_STATUS_head) (i := 0) _ (by simp [logFlds])
  split
  · exact k4.ring s4.mgmt.ring _
  · exact evPush_kept _ _ _ _ _ _ k4 (by simp)

/-- Raising an event changes nothing but the log (R529 to R532). -/
theorem State.log_kept (s : State) (code panel inst data : Nat) : LogKept s (s.log code panel inst data) := by
  unfold State.log
  split
  · split
    · exact (LogKept.refl s).ring _ s.mgmt.live
    · exact evWrite_kept _ _
  · exact evWrite_kept _ _

/-- Raising an event leaves every register field but the log's. -/
theorem State.fld_log (s : State) (code panel inst data : Nat) {F : Fld} {i : Nat} (h : (F, i) ∉ logFlds) :
    (s.log code panel inst data).fld F i = s.fld F i := (s.log_kept code panel inst data).flds F i h

theorem State.log_pending (s : State) (code panel inst data : Nat) : (s.log code panel inst data).pending = s.pending := by
  have h := congrArg State.pending (s.log_kept code panel inst data).rest; simpa using h
theorem State.log_tick (s : State) (code panel inst data : Nat) : (s.log code panel inst data).tick = s.tick := by
  have h := congrArg State.tick (s.log_kept code panel inst data).rest; simpa using h
theorem State.log_grid (s : State) (code panel inst data : Nat) : (s.log code panel inst data).grid = s.grid := by
  have h := congrArg State.grid (s.log_kept code panel inst data).rest; simpa using h
theorem State.log_chans (s : State) (code panel inst data : Nat) : (s.log code panel inst data).chans = s.chans := by
  have h := congrArg State.chans (s.log_kept code panel inst data).rest; simpa using h
theorem State.log_pat (s : State) (code panel inst data : Nat) : (s.log code panel inst data).pat = s.pat := by
  have h := congrArg State.pat (s.log_kept code panel inst data).rest; simpa using h
theorem State.log_host (s : State) (code panel inst data : Nat) : (s.log code panel inst data).host = s.host := by
  have h := congrArg State.host (s.log_kept code panel inst data).rest; simpa using h
theorem State.log_rst (s : State) (code panel inst data : Nat) : (s.log code panel inst data).rst = s.rst := by
  have h := congrArg State.rst (s.log_kept code panel inst data).rest; simpa using h
theorem State.log_sec (s : State) (code panel inst data : Nat) : (s.log code panel inst data).sec = s.sec := by
  have h := congrArg State.sec (s.log_kept code panel inst data).rest; simpa using h
theorem State.log_ringRam (s : State) (code panel inst data : Nat) :
    (s.log code panel inst data).mgmt.ringRam = s.mgmt.ringRam := by
  have h := congrArg MgmtSt.ringRam (s.log_kept code panel inst data).mgmt; simpa using h

/-- A command its device takes is answered as its operation says. -/
theorem ohi_takes {s s' : State} {c : Cmd} {op : Nat} {a : Resp} (h : s.Takes c) :
    ohi s c op (s', some a) = s'.answer c op a := by
  obtain ⟨h1, h2, h3, h4⟩ := h
  have : (!s.inBand c.pnl && s.rspFull c.pnl) = false := by rcases h1 with h1 | h1 <;> simp [h1]
  simp [ohi, this, h2, h3, h4]

/-- A command its device takes and answers later is remembered, with the transport it came by. -/
theorem ohi_deferred {s s' : State} {c : Cmd} {op : Nat} (h : s.Takes c) :
    ohi s c op (s', none)
      = { s' with mgmt := { s'.mgmt with deferred := s'.mgmt.deferred ++ [⟨op, c, 0, s.inBand c.pnl⟩] } } := by
  obtain ⟨h1, h2, h3, h4⟩ := h
  have : (!s.inBand c.pnl && s.rspFull c.pnl) = false := by rcases h1 with h1 | h1 <;> simp [h1]
  simp [ohi, this, h2, h3, h4]

/-- While the response ring is full, OHI does not serve or an earlier command is open, a command changes nothing (R80, R81,
R504). -/
theorem ohi_waits {s : State} {c : Cmd} {op : Nat} {r : State × Option Resp}
    (h : s.inBand c.pnl = false ∧ s.rspFull c.pnl = true ∨ s.serving = false ∨ s.ohiOpen c.pnl = true) :
    ohi s c op r = s := by
  rcases h with ⟨h1, h2⟩ | h | h <;> simp [ohi, *]

/-- A register table whose entries fit keeps fitting through a write. -/
theorem RegsFit.setFld {s : State} (h : RegsFit s.regs) (F : Fld) (i v : Nat) : RegsFit (s.setFld F i v).regs := by
  intro G j
  have e := s.fld_setFld F G i j v
  unfold State.fld at e
  rw [e]
  split
  · rename_i hh; rw [hh.1]; exact Nat.mod_lt _ (Nat.two_pow_pos _)
  · exact h G j

theorem RegsSorted.setFld {s : State} (h : RegsSorted s.regs) (F : Fld) (i v : Nat) : RegsSorted (s.setFld F i v).regs :=
  TblSorted.tput (t := s.regs) h _ _ _

/-- The invariant depends on the registers and the ring RAM alone. -/
theorem State.Inv.congr {s t : State} (h : s.Inv) (e : t.regs = s.regs) (f : t.mgmt.ringRam = s.mgmt.ringRam) : t.Inv := by
  unfold State.Inv; rw [e, f]; exact h

theorem State.Inv.setFld {s : State} (h : s.Inv) (F : Fld) (i v : Nat) : (s.setFld F i v).Inv :=
  ⟨RegsSorted.setFld h.1 F i v, RegsFit.setFld h.2.1 F i v, h.2.2⟩

theorem State.Inv.bumpN {s : State} (h : s.Inv) (F : Fld) (i n : Nat) : (s.bumpN F i n).Inv := (h.setFld F i _).congr rfl rfl

/-- A stated reset value fits its field. -/
theorem Fld.reset_fits (F : Fld) : ∀ n : Nat, F.info.rst = .val n → n < 2 ^ F.width := by
  intro n h
  have : (match F.info.rst with | .val n => decide (n < 2 ^ F.width) | _ => true) = true := by cases F <;> decide
  rw [h] at this
  simpa using this

/-- Every register field's reset value fits it. -/
theorem Fld.resetAt_lt (F : Fld) (i : Nat) : F.resetAt i < 2 ^ F.width := by
  unfold Fld.resetAt
  split
  · next n h =>
    split
    · next e => subst e; split <;> decide
    · exact F.reset_fits n h
  · exact Nat.two_pow_pos _
  · exact Nat.two_pow_pos _
  · exact Nat.mod_lt _ (Nat.two_pow_pos _)

end Sys2Proof.Machine
end

