-- ==== Sys2Proof/Laws/Events.lean ====
section
/-! SUPPORT. What raising an event and answering a command do to the event ring. -/

namespace Sys2Proof.Machine

/-- Moving the read positions on changes them and the lost counts alone. -/
theorem evPush_ring (old nxt : Nat) (e : Option Ev) (l : List Nat) (s : State) :
    (evPush old nxt e l s).mgmt = s.mgmt ∧
      ∀ F i, F ≠ .EVT_PNL_RD_rd → F ≠ .EVT_PNL_CNT_lost → (evPush old nxt e l s).fld F i = s.fld F i := by
  induction l generalizing s with
  | nil => exact ⟨rfl, fun _ _ _ _ => rfl⟩
  | cons p l ih =>
    unfold evPush
    obtain ⟨h1, h2⟩ := ih (if s.fld .EVT_PNL_RD_rd p = old then
        let s := s.setFld .EVT_PNL_RD_rd p nxt
        if e.any (evFor p) then s.bump .EVT_PNL_CNT_lost p else s
      else s)
    refine ⟨h1.trans ?_, fun F i a b => (h2 F i a b).trans ?_⟩
    · dsimp only; split
      · split <;> rfl
      · rfl
    · dsimp only; split
      · split
        · rw [State.fld_bump, if_neg (by simp [b]), State.fld_setFld, if_neg (by simp [a])]
        · rw [State.fld_setFld, if_neg (by simp [a])]
      · rfl

theorem stageLog_same (s : State) (e : Ev) : (s.stageLog e).mgmt = s.mgmt ∧ (s.stageLog e).evHead = s.evHead := by
  unfold State.stageLog; split
  · exact ⟨rfl, rfl⟩
  · refine ⟨rfl, ?_⟩
    unfold State.evHead; rw [State.fld_bump, if_neg (by simp)]; rfl

/-- A new entry is written at the head, which moves on (R529, R532). -/
theorem evWrite_spec (s : State) (e : Ev) : (s.evWrite e).mgmt.ring = tset s.evHead e s.mgmt.ring ∧
    (s.evWrite e).evHead = (s.evHead + 1) % 8192 ∧ (s.evWrite e).mgmt.live = min (s.mgmt.live + 1) (max 8191 s.mgmt.live) := by
  unfold State.evWrite
  obtain ⟨h1, h2⟩ := stageLog_same s e
  extract_lets s1 h h' m s2 s3 s4 m2
  have hh : h = s.evHead := h2
  have r2 : s2.mgmt.ring = tset s.evHead e s.mgmt.ring := by show tset h e s1.mgmt.ring = _; rw [hh, h1]
  have l2 : s2.mgmt.live = s.mgmt.live := by show s1.mgmt.live = _; rw [h1]
  have k4 : s4.mgmt = s2.mgmt := by
    show (if h' = 0 then s2.setFlag .EVT_STATUS_wrapped 0 true else s2).mgmt = _
    split <;> rfl
  have e4 : s4.evHead = (s.evHead + 1) % 8192 := by
    show (s3.setFld .EVT_STATUS_head 0 h').fld .EVT_STATUS_head 0 = _
    rw [State.fld_setFld, if_pos ⟨rfl, rfl⟩]
    show ((h + 1) % 8192) % 2 ^ 13 = _
    rw [hh]; omega
  split
  · refine ⟨?_, ?_, ?_⟩
    · show s4.mgmt.ring = _; rw [k4, r2]
    · show s4.evHead = _; exact e4
    · show s4.mgmt.live + 1 = _; rename_i hl; rw [k4, l2] at hl ⊢; omega
  · obtain ⟨p1, p2⟩ := evPush_ring h' ((h' + 1) % 8192) (tfind h' s4.mgmt.ring) (List.range 16) s4
    refine ⟨?_, ?_, ?_⟩
    · rw [p1, k4, r2]
    · unfold State.evHead; rw [p2 _ _ (by simp) (by simp)]; exact e4
    · rw [p1, k4, l2]; rename_i hl; rw [k4, l2] at hl; omega

/-- Where the newest entry repeats in the same Hem, it counts the repeat (R530). -/
theorem State.log_repeats {s : State} {code panel inst data : Nat} {e : Ev} (h1 : s.evNewest = some e)
    (h : e.code = code ∧ e.panel = panel ∧ e.inst = inst ∧ e.data = data % 2 ^ 64 ∧ e.hem = s.grid.hem) :
    s.log code panel inst data = { s with mgmt := { s.mgmt with
      ring := tset ((s.evHead + 8191) % 8192) { e with rep := min (e.rep + 1) 65535 } s.mgmt.ring } } := by
  unfold State.log; rw [h1]; simp only [if_pos h]

/-- Any other event is written (R529). -/
theorem State.log_writes {s : State} {code panel inst data : Nat}
    (h : ∀ e : Ev, s.evNewest = some e → ¬(e.code = code ∧ e.panel = panel ∧ e.inst = inst ∧ e.data = data % 2 ^ 64 ∧
      e.hem = s.grid.hem)) :
    s.log code panel inst data = s.evWrite ⟨code, evSev code, panel, inst, 0, s.tick, data % 2 ^ 64, s.grid.hem⟩ := by
  unfold State.log
  split
  · rename_i e he; rw [if_neg (h e he)]
  · rfl

theorem evNewest_evWrite (s : State) (e : Ev) (h : s.evHead < 8192) : (s.evWrite e).evNewest = some e := by
  obtain ⟨a, b, c⟩ := evWrite_spec s e
  unfold State.evNewest
  rw [if_neg (by rw [c]; omega), a, b]
  have : ((s.evHead + 1) % 8192 + 8191) % 8192 = s.evHead := by omega
  rw [this, tfind_tset_same]

/-- After an event the newest entry is that event, new or repeated. -/
theorem State.log_newest (s : State) (code panel inst data : Nat) (h : s.evHead < 8192) :
    ∃ e : Ev, (s.log code panel inst data).evNewest = some e ∧ e.code = code ∧ e.panel = panel ∧ e.inst = inst ∧
      e.data = data % 2 ^ 64 ∧
      ((∃ o : Ev, s.evNewest = some o ∧ e = { o with rep := min (o.rep + 1) 65535 }) ∨
        (s.log code panel inst data).evHead = (s.evHead + 1) % 8192) := by
  by_cases hm : ∃ e : Ev, s.evNewest = some e ∧ e.code = code ∧ e.panel = panel ∧ e.inst = inst ∧ e.data = data % 2 ^ 64 ∧
        e.hem = s.grid.hem
  · obtain ⟨e, h1, h⟩ := hm
    have hl : s.mgmt.live ≠ 0 := by intro h; simp [State.evNewest, h] at h1
    rw [State.log_repeats h1 h]
    refine ⟨{ e with rep := min (e.rep + 1) 65535 }, ?_, h.1, h.2.1, h.2.2.1, h.2.2.2.1, .inl ⟨e, h1, rfl⟩⟩
    unfold State.evNewest; rw [if_neg hl]
    show tfind ((s.evHead + 8191) % 8192) (tset ((s.evHead + 8191) % 8192) _ _) = _
    rw [tfind_tset_same]
  · rw [State.log_writes (fun e he hh => hm ⟨e, he, hh⟩)]
    exact ⟨_, evNewest_evWrite s _ h, rfl, rfl, rfl, rfl, .inr (evWrite_spec s _).2.1⟩

theorem logRefuse_ok {s : State} {p op : Nat} {r : Resp} (h : r.res = .ok) : s.logRefuse p op r = s := by
  simp [State.logRefuse, h]

theorem Res.code_lt (r : Res) : r.code < 10 := by cases r <;> decide

theorem logRefuse_pending (s : State) (p op : Nat) (r : Resp) : (s.logRefuse p op r).pending = s.pending := by
  unfold State.logRefuse; split
  · rfl
  · exact State.log_pending _ _ _ _ _

theorem logRefuse_kept (s : State) (p op : Nat) (r : Resp) : LogKept s (s.logRefuse p op r) := by
  unfold State.logRefuse; split
  · exact LogKept.refl s
  · exact s.log_kept _ _ _ _

/-- The fields an answer may change beside the log's: the ring indices of its panel. -/
def ansFlds (p : Nat) : List (Fld × Nat) :=
  [(.PNL_RING_IDX_rsp_tail, p), (.PNL_RING_IDX_rsp_head, p), (.PNL_RING_IDX_cmd_head, p), (.PNL_RING_IDX_cmd_tail, p)]

@[simp] theorem State.setFld_rest (s : State) (F : Fld) (i v : Nat) : { s.setFld F i v with regs := s.regs } = s := rfl

/-- Taking the next ring index changes registers alone. -/
theorem rspIndex_rest (s : State) (p : Nat) : { s.rspIndex p with regs := s.regs } = s := by
  unfold State.rspIndex; dsimp only; split <;> split <;> rfl

/-- Taking the next ring index changes the panel's indices alone. -/
theorem rspIndex_flds (s : State) (p : Nat) : FldsKept (ansFlds p) s (s.rspIndex p) := by
  unfold State.rspIndex
  extract_lets t n h s1 s2
  have k1 : FldsKept (ansFlds p) s s1 := by
    show FldsKept (ansFlds p) s (if _ then _ else s)
    split
    · exact (FldsKept.refl _ s).setFld _ (by simp [ansFlds])
    · exact FldsKept.refl _ s
  have k2 : FldsKept (ansFlds p) s s2 := by
    show FldsKept (ansFlds p) s (if _ then _ else s1)
    split
    · exact k1.setFld _ (by simp [ansFlds])
    · exact k1
  exact k2.setFld _ (by simp [ansFlds])

/-- The response index goes on by one, round the 64 entries (R81). -/
theorem rspIndex_rspTail (s : State) (p : Nat) :
    (s.rspIndex p).fld .PNL_RING_IDX_rsp_tail p = (s.fld .PNL_RING_IDX_rsp_tail p + 1) % 64 := by
  unfold State.rspIndex
  rw [State.fld_setFld_same]
  show _ % 64 % 2 ^ 6 = _; omega

@[simp] theorem rspIndex_mgmt (s : State) (p : Nat) : (s.rspIndex p).mgmt = s.mgmt := by
  have h := congrArg State.mgmt (rspIndex_rest s p); exact h

theorem pushRsp_ringRam (s : State) (p t op : Nat) (r : Resp) : (s.pushRsp p t op r).mgmt.ringRam
    = memStores s.mgmt.ringRam (rspAddr p (s.fld .PNL_RING_IDX_rsp_tail p)) (rspEntry t op r) := by
  unfold State.pushRsp; dsimp only; rw [rspIndex_mgmt]

/-- A response changes the ring's RAM and the panel's indices alone. -/
theorem pushRsp_rest (s : State) (p t op : Nat) (r : Resp) :
    { s.pushRsp p t op r with regs := s.regs, mgmt := { (s.pushRsp p t op r).mgmt with ringRam := s.mgmt.ringRam } } = s := by
  unfold State.pushRsp
  generalize memStores s.mgmt.ringRam _ _ = m
  unfold State.rspIndex
  dsimp only
  split <;> split <;> rfl

theorem pushRsp_ring (s : State) (p t op : Nat) (r : Resp) : (s.pushRsp p t op r).mgmt.ring = s.mgmt.ring := by
  unfold State.pushRsp; dsimp only; rw [rspIndex_mgmt]

theorem pushRsp_live (s : State) (p t op : Nat) (r : Resp) : (s.pushRsp p t op r).mgmt.live = s.mgmt.live := by
  unfold State.pushRsp; dsimp only; rw [rspIndex_mgmt]

theorem pushRsp_flds (s : State) (p t op : Nat) (r : Resp) : FldsKept (ansFlds p) s (s.pushRsp p t op r) := by
  intro F i h
  unfold State.pushRsp
  exact (rspIndex_flds _ p F i h).trans (State.fld_congr rfl F i)

@[simp] theorem length_rspEntry (t op : Nat) (r : Resp) : (rspEntry t op r).length = 32 := by simp [rspEntry]

theorem answerInBand_rest (s : State) (c : Cmd) (op : Nat) (r : Resp) :
    { s.answerInBand c op r with regs := s.regs, host := s.host }
      = { s.logRefuse c.pnl op r with regs := s.regs, host := s.host } := by
  unfold State.answerInBand
  exact congrArg (fun x : State => { x with regs := s.regs, host := s.host }) (rspIndex_rest (s.logRefuse c.pnl op r) c.pnl)

theorem answerInBand_flds (s : State) (c : Cmd) (op : Nat) (r : Resp) :
    FldsKept (ansFlds c.pnl) (s.logRefuse c.pnl op r) (s.answerInBand c op r) := by
  unfold State.answerInBand
  exact ((rspIndex_flds _ _).setFld (F := .PNL_RING_IDX_rsp_head) (i := c.pnl) _ (by simp [ansFlds])).congr rfl

/-- Answering writes the event ring as logging the refusal does. -/
theorem answer_ev (s : State) (c : Cmd) (op : Nat) (r : Resp) :
    (s.answer c op r).mgmt.ring = (s.logRefuse c.pnl op r).mgmt.ring ∧
      (s.answer c op r).evHead = (s.logRefuse c.pnl op r).evHead ∧
      (s.answer c op r).mgmt.live = (s.logRefuse c.pnl op r).mgmt.live := by
  unfold State.answer State.answerOn; split
  · have h := congrArg (fun x : State => x.mgmt) (answerInBand_rest s c op r)
    have f := answerInBand_flds s c op r .EVT_STATUS_head 0 (by simp [ansFlds])
    refine ⟨congrArg MgmtSt.ring h, ?_, congrArg MgmtSt.live h⟩
    unfold State.evHead; exact f
  · have f := pushRsp_flds (s.logRefuse c.pnl op r) c.pnl c.tag op r .EVT_STATUS_head 0 (by simp [ansFlds])
    refine ⟨pushRsp_ring _ _ _ _ _, ?_, pushRsp_live _ _ _ _ _⟩
    unfold State.evHead; exact f

theorem answer_newest (s : State) (c : Cmd) (op : Nat) (r : Resp) :
    (s.answer c op r).evNewest = (s.logRefuse c.pnl op r).evNewest := by
  obtain ⟨a, b, d⟩ := answer_ev s c op r
  unfold State.evNewest; rw [a, b, d]

/-- The register fields an answer may change: the ring indices of its panel, and the log's where it refuses. -/
theorem answer_flds (s : State) (c : Cmd) (op : Nat) (r : Resp) :
    FldsKept (ansFlds c.pnl ++ logFlds) s (s.answer c op r) := by
  have k := (logRefuse_kept s c.pnl op r).flds.mono (gs := ansFlds c.pnl ++ logFlds) (by simp +contextual)
  refine k.trans ?_
  unfold State.answer State.answerOn; split
  · exact (answerInBand_flds s c op r).mono (by simp +contextual)
  · exact (pushRsp_flds _ _ _ _ _).mono (by simp +contextual)

/-- An answer of OK leaves the log alone. -/
theorem answer_ok_flds {s : State} {c : Cmd} {op : Nat} {r : Resp} (hr : r.res = .ok) :
    FldsKept (ansFlds c.pnl) s (s.answer c op r) := by
  unfold State.answer State.answerOn; split
  · have := answerInBand_flds s c op r; rwa [logRefuse_ok hr] at this
  · unfold State.answerSpi; rw [logRefuse_ok hr]; exact pushRsp_flds _ _ _ _ _

/-- Answering leaves all but registers, accumulators, the management port, the staging buffer and datagrams. -/
theorem answer_rest (s : State) (c : Cmd) (op : Nat) (r : Resp) :
    { s.answer c op r with regs := s.regs, tel := s.tel, mgmt := s.mgmt, hbm := s.hbm, host := s.host } = s := by
  have k := (logRefuse_kept s c.pnl op r).rest
  have k' := congrArg (fun x : State => { x with host := s.host }) k
  unfold State.answer State.answerOn; split
  · have h := congrArg (fun x : State => { x with tel := s.tel, mgmt := s.mgmt, hbm := s.hbm }) (answerInBand_rest s c op r)
    exact h.trans k'
  · have h := congrArg (fun x : State => { x with regs := s.regs, tel := s.tel, mgmt := s.mgmt, hbm := s.hbm, host := s.host })
      (pushRsp_rest (s.logRefuse c.pnl op r) c.pnl c.tag op r)
    exact h.trans k'

end Sys2Proof.Machine
end

