-- ==== Sys2Proof/Laws/Keeps.lean ====
section
/-! SUPPORT. What every operation keeps: the commands waiting and the invariant. The relation, its forms for operations that
answer more than a state, and the laws of the operations that write registers or the ring RAM themselves. -/

namespace Sys2Proof.Machine

/-- From `s` to `t` the commands waiting are the same, and the invariant is kept. -/
structure Keeps (s t : State) : Prop where
  pend : t.pending = s.pending
  inv : s.Inv → t.Inv

/-- `Keeps` of the state that an answer of each shape holds. -/
def Keeps1 {α : Type} (r : State) (x : State × α) : Prop := Keeps r x.1
@[inherit_doc Keeps1] def Keeps2 {α : Type} (r : State) (x : α × State) : Prop := Keeps r x.2
@[inherit_doc Keeps1] def Keeps3 {α β : Type} (r : State) (x : α × β × State) : Prop := Keeps r x.2.2
@[inherit_doc Keeps1] structure KeepsO (r : State) (o : Option State) : Prop where
  intro ::
  all : ∀ t, o = some t → Keeps r t
@[inherit_doc Keeps1] structure KeepsO2 {α : Type} (r : State) (o : Option (α × State)) : Prop where
  intro ::
  all : ∀ x, o = some x → Keeps r x.2
@[inherit_doc Keeps1] structure KeepsO3 {α β : Type} (r : State) (o : Option (α × β × State)) : Prop where
  intro ::
  all : ∀ x, o = some x → Keeps r x.2.2
@[inherit_doc Keeps1] def KeepsP {α : Type} (r : State) (x : Option (α × State) × State) : Prop := KeepsO2 r x.1 ∧ Keeps r x.2
@[inherit_doc Keeps1] def KeepsR (r : State) (x : RxRun) : Prop := Keeps r x.s
@[inherit_doc Keeps1] structure KeepsX (r : State) (o : Host.Outcome State Fault Refusal) : Prop where
  intro ::
  all : ∀ t, o = .next t → Keeps r t

theorem Keeps.refl (s : State) : Keeps s s := ⟨rfl, id⟩
theorem Keeps.trans {r s t : State} (h : Keeps r s) (k : Keeps s t) : Keeps r t := ⟨k.pend.trans h.pend, fun i => k.inv (h.inv i)⟩

/-- A change of the other fields. -/
theorem Keeps.of {r s : State} (h : Keeps r s) {tel} {tick} {free} {pat} {full} {grid} {chans} {ola} {dlv} {host} {drm} {tim} {hlk} {gau} {ser} {cmd} {bob} {hbm} {sec} {rst} {ldr}
    {mgmt : MgmtSt} (hm : mgmt.ringRam = s.mgmt.ringRam) :
    Keeps r (State.mk s.pending s.regs tel tick free mgmt pat full grid chans ola dlv host drm tim hlk gau ser cmd bob hbm sec rst ldr) :=
  ⟨h.pend, fun i => (h.inv i).congr rfl hm⟩

/-- A write of the ring RAM. -/
theorem Keeps.ring {r s : State} (h : Keeps r s) (a : Nat) (l : List Byte) :
    Keeps r { s with mgmt := { s.mgmt with ringRam := memStores s.mgmt.ringRam a l } } :=
  ⟨h.pend, fun i => ⟨(h.inv i).1, (h.inv i).2.1, memory_wf_stores (h.inv i).2.2 a l⟩⟩

theorem Keeps1.mk {α : Type} {r s : State} {a : α} (h : Keeps r s) : Keeps1 r (s, a) := h
theorem Keeps2.mk {α : Type} {r s : State} {a : α} (h : Keeps r s) : Keeps2 r (a, s) := h
theorem Keeps3.mk {α β : Type} {r : State} {a : α} {x : β × State} (h : Keeps2 r x) : Keeps3 r (a, x) := h
theorem KeepsP.mk {α : Type} {r : State} {o : Option (α × State)} {s : State} (h : KeepsO2 r o) (k : Keeps r s) : KeepsP r (o, s) := ⟨h, k⟩
theorem KeepsO.mk {r s : State} (h : Keeps r s) : KeepsO r (some s) := ⟨by rintro t ⟨⟩; exact h⟩
theorem KeepsO2.mk {α : Type} {r : State} {x : α × State} (h : Keeps2 r x) : KeepsO2 r (some x) := ⟨by rintro t ⟨⟩; exact h⟩
theorem KeepsO3.mk {α β : Type} {r : State} {x : α × β × State} (h : Keeps3 r x) : KeepsO3 r (some x) := ⟨by rintro t ⟨⟩; exact h⟩
theorem KeepsX.mk {r s : State} (h : Keeps r s) : KeepsX r (.next s) := ⟨by rintro t ⟨⟩; exact h⟩
theorem KeepsO.none {r : State} : KeepsO r none := ⟨by rintro t ⟨⟩⟩
theorem KeepsO2.none {α : Type} {r : State} : KeepsO2 r (none : Option (α × State)) := ⟨by rintro t ⟨⟩⟩
theorem KeepsO3.none {α β : Type} {r : State} : KeepsO3 r (none : Option (α × β × State)) := ⟨by rintro t ⟨⟩⟩

theorem Keeps1.proj {α : Type} {r : State} {x : State × α} (h : Keeps1 r x) : Keeps r x.1 := h
theorem Keeps2.proj {α : Type} {r : State} {x : α × State} (h : Keeps2 r x) : Keeps r x.2 := h
theorem Keeps3.proj {α β : Type} {r : State} {x : α × β × State} (h : Keeps3 r x) : Keeps2 r x.2 := h
theorem KeepsP.proj0 {α : Type} {r : State} {x : Option (α × State) × State} (h : KeepsP r x) : KeepsO2 r x.1 := h.1
theorem KeepsP.proj1 {α : Type} {r : State} {x : Option (α × State) × State} (h : KeepsP r x) : Keeps r x.2 := h.2
theorem KeepsR.proj {r : State} {x : RxRun} (h : KeepsR r x) : Keeps r x.s := h

theorem Keeps1.out {α : Type} {r s : State} {x : State × α} {a : α} (e : x = (s, a)) (h : Keeps1 r x) : Keeps r s := by subst e; exact h
theorem Keeps2.out {α : Type} {r s : State} {x : α × State} {a : α} (e : x = (a, s)) (h : Keeps2 r x) : Keeps r s := by subst e; exact h
theorem Keeps3.out {α β : Type} {r s : State} {x : α × β × State} {a : α} {b : β} (e : x = (a, b, s)) (h : Keeps3 r x) : Keeps r s := by
  subst e; exact h
theorem KeepsP.out {α : Type} {r s : State} {o : Option (α × State)} {x : Option (α × State) × State} (e : x = (o, s)) (h : KeepsP r x) :
    Keeps r s := by subst e; exact h.2
theorem KeepsP.both {α : Type} {r s t : State} {a : α} {x : Option (α × State) × State} (e : x = (some (a, t), s)) (h : KeepsP r x) :
    Keeps r t ∧ Keeps r s := by subst e; exact ⟨h.1.all _ rfl, h.2⟩
theorem KeepsO.out {r s : State} {o : Option State} (e : o = some s) (h : KeepsO r o) : Keeps r s := h.all s e
theorem KeepsO2.out {α : Type} {r s : State} {o : Option (α × State)} {a : α} (e : o = some (a, s)) (h : KeepsO2 r o) : Keeps r s :=
  h.all _ e
theorem KeepsO3.out {α β : Type} {r s : State} {o : Option (α × β × State)} {a : α} {b : β} (e : o = some (a, b, s))
    (h : KeepsO3 r o) : Keeps r s := h.all _ e

theorem KeepsO.getD {r s : State} {o : Option State} (h : KeepsO r o) (k : Keeps r s) : Keeps r (o.getD s) := by
  cases o with
  | none => exact k
  | some t => exact h.all t rfl

theorem KeepsO.map_KeepsO {r : State} {o : Option State} {f : State → State} (hf : ∀ s, Keeps r s → Keeps r (f s)) (h : KeepsO r o) :
    KeepsO r (o.map f) := by
  cases o with
  | none => exact KeepsO.none
  | some t => exact KeepsO.mk (hf t (h.all t rfl))

theorem KeepsO2.map_KeepsO2 {α β : Type} {r : State} {o : Option (α × State)} {f : α × State → β × State}
    (hf : ∀ x, Keeps2 r x → Keeps2 r (f x)) (h : KeepsO2 r o) : KeepsO2 r (o.map f) := by
  cases o with
  | none => exact KeepsO2.none
  | some t => exact KeepsO2.mk (hf t (h.all t rfl))

theorem RxRun.mk_keeps {r s : State} (h : Keeps r s) (f : RxFlow) (b : Bool) (n : Nat) : KeepsR r ⟨s, f, b, n⟩ := h

theorem pred_ite {α : Type} {P : α → Prop} {c : Prop} [Decidable c] {a b : α} (ha : P a) (hb : P b) : P (if c then a else b) := by
  split <;> assumption

theorem pred_foldl {α β : Type} {P : β → Prop} (f : β → α → β) (hf : ∀ b, P b → ∀ a, P (f b a)) (l : List α) {b : β} (hb : P b) :
    P (l.foldl f b) := by
  induction l generalizing b with
  | nil => exact hb
  | cons a l ih => exact ih (hf b hb a)

theorem State.setFld_keeps {r s : State} (h : Keeps r s) (F : Fld) (i v : Nat) : Keeps r (s.setFld F i v) :=
  ⟨h.pend, fun k => (h.inv k).setFld F i v⟩

/-- Reading a filtered table answers the entry or nothing. -/
theorem tget_filter {α : Type} {t : Tbl α} (h : TblSorted t) (d : α) (k : Nat) (p : Nat × α → Bool) :
    tget d k (t.filter p) = tget d k t ∨ tget d k (t.filter p) = d := by
  induction t with
  | nil => exact .inl rfl
  | cons e t ih =>
    obtain ⟨k', v⟩ := e
    have h' : TblSorted t := (List.pairwise_cons.mp h).2
    simp only [List.filter_cons]
    split
    · simp only [tget]
      split
      · exact .inl rfl
      · exact ih h'
    · simp only [tget]
      split
      · rename_i hk
        refine .inr ?_
        subst hk
        have hn : ∀ l : Tbl α, (∀ e ∈ l, k < e.1) → tget d k l = d := by
          intro l hl
          induction l with
          | nil => rfl
          | cons e l il =>
            have := hl e (List.mem_cons_self ..)
            show (if k = e.1 then e.2 else tget d k l) = d
            rw [if_neg (by omega)]
            exact il fun x hx => hl x (List.mem_cons_of_mem _ hx)
        exact hn _ fun e he => (List.pairwise_cons.mp h).1 e (List.mem_of_mem_filter he)
      · exact ih h'

theorem RegsFit.filter {regs : Tbl Nat} (hs : RegsSorted regs) (h : RegsFit regs) (p : Nat × Nat → Bool) : RegsFit (regs.filter p) := by
  intro F i
  rcases tget_filter hs (F.resetAt i) (F.key i) p with e | e <;> rw [e]
  · exact h F i
  · exact F.resetAt_lt i

theorem State.clearFlds_keeps {r s : State} (h : Keeps r s) (pick : Fld → Nat → Bool) : Keeps r (s.clearFlds pick) :=
  ⟨h.pend, fun k => ⟨TblSorted.filter (h.inv k).1 _, RegsFit.filter (h.inv k).1 (h.inv k).2.1 _, (h.inv k).2.2⟩⟩

/-- A state with another's fields picked: sorted, fitting where both are. -/
theorem takeFlds_fits (regs : Tbl Nat) (hs : RegsSorted regs) (hf : RegsFit regs) (l : List (Nat × Nat)) (hl : ∀ e ∈ l, e ∈ regs) (s : State)
    (h : s.Inv) : (l.foldl (fun (s : State) (e : Nat × Nat) => { s with regs := tset e.1 e.2 s.regs }) s).Inv := by
  induction l generalizing s with
  | nil => exact h
  | cons e l ih =>
    refine ih (fun x hx => hl x (List.mem_cons_of_mem _ hx)) _ ⟨TblSorted.tset (t := s.regs) h.1 _ _, ?_, h.2.2⟩
    intro F i
    show tget _ _ (tset e.1 e.2 s.regs) < _
    by_cases hk : F.key i = e.1
    · rw [hk, tget_tset_same]
      have := hf F i
      rw [hk, tget_eq_tfind, TblSorted.tfind_of_mem hs (hl e (List.mem_cons_self ..))] at this
      exact this
    · rw [tget_tset_ne hk]; exact h.2.1 F i

theorem takeFlds_pending (l : List (Nat × Nat)) (s : State) :
    (l.foldl (fun (s : State) (e : Nat × Nat) => { s with regs := tset e.1 e.2 s.regs }) s).pending = s.pending := by
  induction l generalizing s with
  | nil => rfl
  | cons e l ih => exact ih _

theorem State.takeFlds_keeps {r s old : State} (h : Keeps r s) (k : Keeps r old) (pick : Fld → Bool) : Keeps r (s.takeFlds old pick) := by
  unfold State.takeFlds
  refine ⟨(takeFlds_pending _ s).trans h.pend, fun i => ?_⟩
  exact takeFlds_fits old.regs (k.inv i).1 (k.inv i).2.1 _ (fun e he => List.mem_of_mem_filter he) s (h.inv i)

/-- A state with nothing in its registers or ring RAM. -/
theorem Keeps.fresh {r s t : State} (h : Keeps r s) (hp : t.pending = s.pending) (hr : t.regs = []) (hm : t.mgmt.ringRam = []) :
    Keeps r t := by
  refine ⟨hp.trans h.pend, fun _ => ?_⟩
  unfold State.Inv
  rw [hr, hm]
  exact ⟨List.Pairwise.nil, fun F i => F.resetAt_lt i, memory_wf_nil⟩

theorem State.reborn_keeps {r s : State} (h : Keeps r s) (keep : Fld → Bool) : Keeps r (s.reborn keep) := by
  unfold State.reborn
  extract_lets x n
  exact State.takeFlds_keeps (s := n) (Keeps.fresh h rfl rfl rfl) h _

theorem evPush_keeps {r : State} (old nxt : Nat) (e : Option Ev) (l : List Nat) {s : State} (h : Keeps r s) :
    Keeps r (evPush old nxt e l s) := by
  induction l generalizing s with
  | nil => exact h
  | cons p l ih =>
    unfold evPush
    refine ih (pred_ite (P := Keeps r) (pred_ite (P := Keeps r) ?_ ?_) h)
    · exact Keeps.of (State.setFld_keeps (State.setFld_keeps h ..) ..) rfl
    · exact State.setFld_keeps h ..

end Sys2Proof.Machine
end

