-- ==== Sys2Proof/Laws/KeepsLinks.lean ====
section
/-! SUPPORT. The commands waiting and the invariant are kept by: the shared operations, the adaptation and Overlock engines, dormancy, keys. -/

namespace Sys2Proof.Machine

theorem State.setFlag_keeps {r} {a1} (ha1 : Keeps r a1) (a2 a3 a4) : Keeps r (State.setFlag a1 a2 a3 a4) := by
  unfold State.setFlag
  exact State.setFld_keeps ha1 ..

theorem State.bumpN_keeps {r} {a1} (ha1 : Keeps r a1) (a2 a3 a4) : Keeps r (State.bumpN a1 a2 a3 a4) := by
  unfold State.bumpN
  extract_lets +onlyGivenNames s1
  have h1 : Keeps r s1 := State.setFld_keeps ha1 ..
  exact Keeps.of h1 rfl

theorem State.bump_keeps {r} {a1} (ha1 : Keeps r a1) (a2 a3) : Keeps r (State.bump a1 a2 a3) := by
  unfold State.bump
  exact State.bumpN_keeps ha1 ..

theorem State.bumpWrapN_keeps {r} {a1} (ha1 : Keeps r a1) (a2 a3 a4) : Keeps r (State.bumpWrapN a1 a2 a3 a4) := by
  unfold State.bumpWrapN
  extract_lets +onlyGivenNames s1
  have h1 : Keeps r s1 := State.setFld_keeps ha1 ..
  exact Keeps.of h1 rfl

theorem State.bumpWrap_keeps {r} {a1} (ha1 : Keeps r a1) (a2 a3) : Keeps r (State.bumpWrap a1 a2 a3) := by
  unfold State.bumpWrap
  exact State.bumpWrapN_keeps ha1 ..

theorem State.drawFree_keeps {r} {a1} (ha1 : Keeps r a1) : Keeps2 r (State.drawFree a1) := by
  unfold State.drawFree
  exact Keeps2.mk (Keeps.of ha1 rfl)

theorem State.drawBelow_keeps {r} {a1} (ha1 : Keeps r a1) (a2) : Keeps2 r (State.drawBelow a1 a2) := by
  unfold State.drawBelow
  exact Keeps2.mk (Keeps.of ha1 rfl)

theorem State.stageLog_keeps {r} {a1} (ha1 : Keeps r a1) (a2) : Keeps r (State.stageLog a1 a2) := by
  unfold State.stageLog
  exact pred_ite (P := Keeps r) (Keeps.of ha1 rfl) (State.bump_keeps (Keeps.of ha1 rfl) ..)

theorem State.evWrite_keeps {r a1} (ha1 : Keeps r a1) (a2) : Keeps r (State.evWrite a1 a2) := by
  unfold State.evWrite
  extract_lets _ h k m s2 s3 s4
  have h2 : Keeps r s2 := Keeps.of (State.stageLog_keeps ha1 a2) rfl
  have h3 : Keeps r s3 := pred_ite (P := Keeps r) (State.setFlag_keeps h2 ..) h2
  have h4 : Keeps r s4 := State.setFld_keeps h3 ..
  exact pred_ite (P := Keeps r) (Keeps.of h4 rfl) (evPush_keeps _ _ _ _ h4)

theorem State.log_keeps {r} {a1} (ha1 : Keeps r a1) (a2 a3 a4 a5) : Keeps r (State.log a1 a2 a3 a4 a5) := by
  unfold State.log
  split
  · exact pred_ite (P := Keeps r) (Keeps.of ha1 rfl) (State.evWrite_keeps ha1 ..)
  · exact State.evWrite_keeps ha1 ..

theorem State.setChan_keeps {r} {a1} (ha1 : Keeps r a1) (a2 a3) : Keeps r (State.setChan a1 a2 a3) := by
  unfold State.setChan
  exact Keeps.of ha1 rfl

theorem State.updChan_keeps {r} {a1} (ha1 : Keeps r a1) (a2 a3) : Keeps r (State.updChan a1 a2 a3) := by
  unfold State.updChan
  exact State.setChan_keeps ha1 ..

theorem State.request_keeps {r} {a1} (ha1 : Keeps r a1) (a2) : Keeps r (State.request a1 a2) := by
  unfold State.request
  exact Keeps.of ha1 rfl

theorem State.requestState_keeps {r} {a1} (ha1 : Keeps r a1) (a2 a3 a4) : Keeps r (State.requestState a1 a2 a3 a4) := by
  unfold State.requestState
  exact State.request_keeps ha1 ..

theorem State.reach_keeps {r} {a1} (ha1 : Keeps r a1) (a2) : Keeps r (State.reach a1 a2) := by
  unfold State.reach
  exact Keeps.of ha1 rfl

theorem refuse_keeps {r} {a1} (ha1 : Keeps r a1) (a2) : Keeps1 r (refuse a1 a2) := by unfold refuse; exact Keeps1.mk ha1

theorem featGate_keeps {r} {a1 a3} (ha1 : Keeps r a1) (ha3 : Keeps1 r a3) (a2) : Keeps1 r (featGate a1 a2 a3) := by
  unfold featGate
  split
  · exact ha3
  · exact Keeps1.mk (State.bump_keeps ha1 ..)
  · exact Keeps1.mk ha1

theorem State.rspIndex_keeps {r} {a1} (ha1 : Keeps r a1) (a2) : Keeps r (State.rspIndex a1 a2) := by
  unfold State.rspIndex
  extract_lets +onlyGivenNames _ _ _ s4
  have h4 : Keeps r s4 := pred_ite (P := Keeps r) (State.setFld_keeps ha1 ..) ha1
  extract_lets +onlyGivenNames s5
  have h5 : Keeps r s5 := pred_ite (P := Keeps r) (State.setFld_keeps h4 ..) h4
  exact State.setFld_keeps h5 ..

theorem State.pushRsp_keeps {r} {a1} (ha1 : Keeps r a1) (a2 a3 a4 a5) : Keeps r (State.pushRsp a1 a2 a3 a4 a5) := by
  unfold State.pushRsp
  extract_lets +onlyGivenNames _ _ s3
  have h3 : Keeps r s3 := Keeps.ring ha1 _ _
  exact State.rspIndex_keeps h3 ..

theorem State.logRefuse_keeps {r} {a1} (ha1 : Keeps r a1) (a2 a3 a4) : Keeps r (State.logRefuse a1 a2 a3 a4) := by
  unfold State.logRefuse
  exact pred_ite (P := Keeps r) ha1 (State.log_keeps ha1 ..)

theorem State.answerSpi_keeps {r} {a1} (ha1 : Keeps r a1) (a2 a3 a4) : Keeps r (State.answerSpi a1 a2 a3 a4) := by
  unfold State.answerSpi
  exact State.pushRsp_keeps (State.logRefuse_keeps ha1 ..) ..

theorem State.answerInBand_keeps {r} {a1} (ha1 : Keeps r a1) (a2 a3 a4) : Keeps r (State.answerInBand a1 a2 a3 a4) := by
  unfold State.answerInBand
  extract_lets +onlyGivenNames s1
  have h1 : Keeps r s1 := State.rspIndex_keeps (State.logRefuse_keeps ha1 ..) ..
  extract_lets +onlyGivenNames s2
  have h2 : Keeps r s2 := State.setFld_keeps h1 ..
  extract_lets +onlyGivenNames _
  exact Keeps.of h2 rfl

theorem State.answerOn_keeps {r} {a1} (ha1 : Keeps r a1) (a2 a3 a4 a5) : Keeps r (State.answerOn a1 a2 a3 a4 a5) := by
  unfold State.answerOn
  exact pred_ite (P := Keeps r) (State.answerInBand_keeps ha1 ..) (State.answerSpi_keeps ha1 ..)

theorem State.answer_keeps {r} {a1} (ha1 : Keeps r a1) (a2 a3 a4) : Keeps r (State.answer a1 a2 a3 a4) := by
  unfold State.answer
  exact State.answerOn_keeps ha1 ..

theorem ohi_keeps {r} {a1 a4} (ha1 : Keeps r a1) (ha4 : Keeps1 r a4) (a2 a3) : Keeps r (ohi a1 a2 a3 a4) := by
  unfold ohi
  refine pred_ite (P := Keeps r) ha1 ?_
  refine pred_ite (P := Keeps r) (State.answer_keeps ha1 ..) ?_
  split
  · have h1 := Keeps1.out (r := r) rfl ha4
    exact State.answer_keeps h1 ..
  · have h2 := Keeps1.out (r := r) rfl ha4
    exact Keeps.of h2 rfl

theorem State.complete_keeps {r} {a1} (ha1 : Keeps r a1) (a2 a3 a4) : Keeps r (State.complete a1 a2 a3 a4) := by
  unfold State.complete
  split
  · exact ha1
  · extract_lets +onlyGivenNames _ s2
    have h2 : Keeps r s2 := Keeps.of ha1 rfl
    exact State.answerOn_keeps h2 ..

theorem forAll_keeps {r} {a2 a3} (ha2 : ∀ t1, ∀ t2, Keeps r t2 → Keeps r (a2 t1 t2)) (ha3 : Keeps r a3) (a1) :
    Keeps r (forAll a1 a2 a3) := by
  unfold forAll
  exact pred_foldl (P := Keeps r) _ (fun _ h1 x2 => ha2 _ _ h1) _ ha3

theorem State.takeDesc_keeps {r} {a1} (ha1 : Keeps r a1) (a2 a3) : KeepsO2 r (State.takeDesc a1 a2 a3) := by
  unfold State.takeDesc
  extract_lets +onlyGivenNames _
  refine pred_ite (P := KeepsO2 r) (pred_ite (P := KeepsO2 r) (KeepsO2.mk (Keeps2.mk (Keeps.of ha1 rfl))) (pred_ite (P :=
      KeepsO2 r) (KeepsO2.mk (Keeps2.mk (Keeps.of ha1 rfl))) KeepsO2.none)) ?_
  refine pred_ite (P := KeepsO2 r) ?_ (pred_ite (P := KeepsO2 r) (KeepsO2.mk (Keeps2.mk (Keeps.of ha1 rfl))) KeepsO2.none)
  extract_lets +onlyGivenNames _
  exact pred_ite (P := KeepsO2 r) (KeepsO2.mk (Keeps2.mk (Keeps.of ha1 rfl))) KeepsO2.none

theorem State.giveDesc_keeps {r} {a1} (ha1 : Keeps r a1) (a2) : Keeps r (State.giveDesc a1 a2) := by
  unfold State.giveDesc
  extract_lets +onlyGivenNames _
  split
  · exact Keeps.of ha1 rfl
  · exact Keeps.of ha1 rfl
  · exact Keeps.of ha1 rfl

theorem State.takeIf_keeps {r} {a1} (ha1 : Keeps r a1) (a2) : KeepsO2 r (State.takeIf a1 a2) := by
  unfold State.takeIf
  extract_lets +onlyGivenNames _
  exact pred_ite (P := KeepsO2 r) (KeepsO2.mk (Keeps2.mk (Keeps.of ha1 rfl))) (pred_ite (P := KeepsO2 r) (KeepsO2.mk (Keeps2.mk
      (Keeps.of ha1 rfl))) KeepsO2.none)

theorem State.giveIf_keeps {r} {a1} (ha1 : Keeps r a1) (a2) : Keeps r (State.giveIf a1 a2) := by
  unfold State.giveIf
  extract_lets +onlyGivenNames _
  split
  · exact Keeps.of ha1 rfl
  · exact Keeps.of ha1 rfl
  · exact ha1

theorem State.enqueue_keeps {r} {a1} (ha1 : Keeps r a1) (a2 a3 a4 a5 a6 a7 a8 a9 a10 a11 a12) :
    Keeps r (State.enqueue a1 a2 a3 a4 a5 a6 a7 a8 a9 a10 a11 a12) := by
  unfold State.enqueue
  extract_lets +onlyGivenNames _ _ _
  exact Keeps.of ha1 rfl

theorem State.handover_keeps {r} {a1} (ha1 : Keeps r a1) (a2 a3 a4 a5 a6 a7 a8 a9 a10 a11) :
    KeepsO r (State.handover a1 a2 a3 a4 a5 a6 a7 a8 a9 a10 a11) := by
  unfold State.handover
  refine pred_ite (P := KeepsO r) KeepsO.none ?_
  split
  · exact KeepsO.none
  · rename_i e1
    have h1 := KeepsO2.out (r := r) e1 (State.takeDesc_keeps ha1 ..)
    exact KeepsO.mk (State.enqueue_keeps h1 ..)

theorem State.sendDevice_keeps {r} {a1} (ha1 : Keeps r a1) (a2 a3 a4 a5 a6 a7) :
    Keeps r (State.sendDevice a1 a2 a3 a4 a5 a6 a7) := by
  unfold State.sendDevice
  extract_lets +onlyGivenNames _ s2
  have h2 : Keeps r s2 := Keeps.of ha1 rfl
  exact pred_ite (P := Keeps r) h2 (KeepsO.getD (State.handover_keeps ha1 ..) h2)

theorem State.serveDev_keeps {r} {a1} (ha1 : Keeps r a1) : Keeps r (State.serveDev a1) := by
  unfold State.serveDev
  extract_lets +onlyGivenNames _
  exact pred_foldl (P := Keeps r) _ (fun _ h2 x3 => State.sendDevice_keeps h2 ..) _ (Keeps.of ha1 rfl)

theorem State.sweepTx_keeps {r} {a1} (ha1 : Keeps r a1) : Keeps r (State.sweepTx a1) := by
  unfold State.sweepTx
  extract_lets +onlyGivenNames _ s2
  have h2 : Keeps r s2 := pred_foldl (P := Keeps r) _ (fun _ h3 x4 => State.giveDesc_keeps h3 ..) _ ha1
  exact Keeps.of h2 rfl

theorem State.abandonSegs_keeps {r} {a1} (ha1 : Keeps r a1) (a2) : Keeps r (State.abandonSegs a1 a2) := by
  unfold State.abandonSegs
  extract_lets +onlyGivenNames _ _ _ _ s5
  have h5 : Keeps r s5 := Keeps.of ha1 rfl
  extract_lets +onlyGivenNames s6
  have h6 : Keeps r s6 := pred_foldl (P := Keeps r) _ (fun _ h7 x8 => State.bumpN_keeps (State.giveIf_keeps h7 ..) ..) _ h5
  extract_lets +onlyGivenNames s9
  have h9 : Keeps r s9 := by
    unfold s9
    refine pred_foldl (P := Keeps r) _ (fun _ h10 x11 => ?_) _ h6
    split
    · exact State.log_keeps h10 ..
    · exact h10
  exact State.sweepTx_keeps h9 ..

theorem State.setTxFlow_keeps {r} {a1} (ha1 : Keeps r a1) (a2) : Keeps r (State.setTxFlow a1 a2) := by
  unfold State.setTxFlow
  extract_lets +onlyGivenNames _
  exact Keeps.of ha1 rfl

theorem State.mapSegs_keeps {r} {a1} (ha1 : Keeps r a1) (a2 a3) : Keeps r (State.mapSegs a1 a2 a3) := by
  unfold State.mapSegs
  extract_lets +onlyGivenNames _
  exact Keeps.of ha1 rfl

theorem State.loseSegs_keeps {r} {a1} (ha1 : Keeps r a1) (a2) : Keeps r (State.loseSegs a1 a2) := by
  unfold State.loseSegs
  extract_lets +onlyGivenNames s1
  have h1 : Keeps r s1 := State.mapSegs_keeps ha1 ..
  extract_lets +onlyGivenNames _
  exact State.abandonSegs_keeps h1 ..

theorem State.unbuild_keeps {r} {a1} (ha1 : Keeps r a1) (a2) : Keeps r (State.unbuild a1 a2) := by
  unfold State.unbuild
  extract_lets +onlyGivenNames _ _ s3
  have h3 : Keeps r s3 := pred_foldl (P := Keeps r) _ (fun _ h4 x5 => State.giveIf_keeps h4 ..) _ ha1
  extract_lets +onlyGivenNames _
  exact Keeps.of h3 rfl

theorem State.refundAir_keeps {r} {a1} (ha1 : Keeps r a1) (a2) : Keeps r (State.refundAir a1 a2) := by
  unfold State.refundAir
  refine pred_ite (P := Keeps r) ha1 ?_
  extract_lets +onlyGivenNames _ _ s3
  have h3 : Keeps r s3 := State.setFld_keeps ha1 ..
  extract_lets +onlyGivenNames s4
  have h4 : Keeps r s4 := State.setFld_keeps h3 ..
  extract_lets +onlyGivenNames _
  exact Keeps.of h4 rfl

theorem State.unsendLi_keeps {r} {a1} (ha1 : Keeps r a1) (a2) : Keeps r (State.unsendLi a1 a2) := by
  unfold State.unsendLi
  split
  · exact ha1
  · refine pred_ite (P := Keeps r) ha1 ?_
    extract_lets +onlyGivenNames _ _ s3
    have h3 : Keeps r s3 := State.updChan_keeps ha1 ..
    exact State.setFld_keeps h3 ..

theorem State.addRamp_keeps {r} {a1} (ha1 : Keeps r a1) (a2 a3 a4) : Keeps r (State.addRamp a1 a2 a3 a4) := by
  unfold State.addRamp
  extract_lets +onlyGivenNames _
  exact Keeps.of ha1 rfl

theorem State.cutRamp_keeps {r} {a1} (ha1 : Keeps r a1) (a2 a3) : Keeps r (State.cutRamp a1 a2 a3) := by
  unfold State.cutRamp
  extract_lets +onlyGivenNames _
  exact Keeps.of ha1 rfl

theorem State.endExchange_keeps {r} {a1} (ha1 : Keeps r a1) (a2 a3) : Keeps r (State.endExchange a1 a2 a3) := by
  unfold State.endExchange
  extract_lets +onlyGivenNames _
  exact Keeps.of ha1 rfl

theorem State.discardFrame_keeps {r} {a1} (ha1 : Keeps r a1) (a2) : Keeps r (State.discardFrame a1 a2) := by
  unfold State.discardFrame
  extract_lets +onlyGivenNames _ s2
  have h2 : Keeps r s2 := State.unsendLi_keeps ha1 ..
  extract_lets +onlyGivenNames s3
  have h3 : Keeps r s3 := pred_ite (P := Keeps r) (State.cutRamp_keeps h2 ..) h2
  extract_lets +onlyGivenNames _ s5
  have h5 : Keeps r s5 := Keeps.of h3 rfl
  extract_lets +onlyGivenNames s6
  have h6 : Keeps r s6 := State.endExchange_keeps (State.updChan_keeps h5 ..) ..
  extract_lets +onlyGivenNames _ s8
  have h8 : Keeps r s8 := Keeps.of h6 rfl
  exact State.bump_keeps (State.refundAir_keeps (State.unbuild_keeps h8 ..) ..) ..

theorem State.discardFrames_keeps {r} {a1} (ha1 : Keeps r a1) (a2) : Keeps r (State.discardFrames a1 a2) := by
  unfold State.discardFrames
  exact pred_foldl (P := Keeps r) _ (fun _ h1 x2 => State.discardFrame_keeps h1 ..) _ ha1

theorem State.dropRxFlows_keeps {r} {a1} (ha1 : Keeps r a1) (a2) : Keeps r (State.dropRxFlows a1 a2) := by
  unfold State.dropRxFlows
  extract_lets +onlyGivenNames _ s2
  have h2 : Keeps r s2 := pred_foldl (P := Keeps r) _ (fun _ h3 x4 => pred_foldl (P := Keeps r) _ (fun _ h5 x6 =>
      State.giveDesc_keeps h5 ..) _ h3) _ ha1
  exact Keeps.of h2 rfl

theorem State.dropCopies_keeps {r} {a1} (ha1 : Keeps r a1) (a2) : Keeps r (State.dropCopies a1 a2) := by
  unfold State.dropCopies
  extract_lets +onlyGivenNames _ _ s3
  have h3 : Keeps r s3 := pred_foldl (P := Keeps r) _ (fun _ h4 x5 => State.giveDesc_keeps h4 ..) _ ha1
  exact Keeps.of h3 rfl

theorem State.channelLeaves_keeps {r} {a1} (ha1 : Keeps r a1) (a2) : Keeps r (State.channelLeaves a1 a2) := by
  unfold State.channelLeaves
  extract_lets +onlyGivenNames s1
  have h1 : Keeps r s1 := State.abandonSegs_keeps ha1 ..
  extract_lets +onlyGivenNames s2
  have h2 : Keeps r s2 := State.dropCopies_keeps (State.dropRxFlows_keeps h1 ..) ..
  extract_lets +onlyGivenNames s3
  have h3 : Keeps r s3 := State.updChan_keeps h2 ..
  exact Keeps.of h3 rfl

theorem State.restartFlows_keeps {r} {a1} (ha1 : Keeps r a1) (a2) : Keeps r (State.restartFlows a1 a2) := by
  unfold State.restartFlows
  extract_lets +onlyGivenNames s1
  have h1 : Keeps r s1 := State.dropRxFlows_keeps ha1 ..
  exact Keeps.of h1 rfl

theorem State.syncMaps_keeps {r} {a1} (ha1 : Keeps r a1) (a2) : Keeps r (State.syncMaps a1 a2) := by
  unfold State.syncMaps
  extract_lets +onlyGivenNames _
  exact State.setFld_keeps (State.setFld_keeps ha1 ..) ..

theorem State.restartLi_keeps {r} {a1} (ha1 : Keeps r a1) (a2 a3 a4) : Keeps r (State.restartLi a1 a2 a3 a4) := by
  unfold State.restartLi
  extract_lets +onlyGivenNames _ s2
  have h2 : Keeps r s2 := pred_ite (P := Keeps r) (State.bump_keeps ha1 ..) ha1
  extract_lets +onlyGivenNames s3
  have h3 : Keeps r s3 := State.setFld_keeps (State.updChan_keeps h2 ..) ..
  extract_lets +onlyGivenNames s4
  have h4 : Keeps r s4 := by
    unfold s4
    refine pred_ite (P := Keeps r) ?_ h2
    split
    · exact State.setFld_keeps h3 ..
    · exact h3
  refine pred_ite (P := Keeps r) ?_ h4
  extract_lets +onlyGivenNames _
  exact State.setFld_keeps (State.updChan_keeps h4 ..) ..

theorem State.clearMaps_keeps {r} {a1} (ha1 : Keeps r a1) (a2) : Keeps r (State.clearMaps a1 a2) := by
  unfold State.clearMaps
  extract_lets +onlyGivenNames s1
  have h1 : Keeps r s1 := State.restartLi_keeps ha1 ..
  extract_lets +onlyGivenNames s2
  have h2 : Keeps r s2 := State.updChan_keeps h1 ..
  exact State.setFlag_keeps (State.setFlag_keeps (State.setFlag_keeps (State.syncMaps_keeps h2 ..) ..) ..) ..

theorem State.chooseImpulse_keeps {r} {a1} (ha1 : Keeps r a1) (a2) : Keeps r (State.chooseImpulse a1 a2) := by
  unfold State.chooseImpulse
  extract_lets +onlyGivenNames _ _
  exact State.setFlag_keeps (State.setFlag_keeps (State.setFlag_keeps ha1 ..) ..) ..

theorem State.sendTm_keeps {r} {a1} (ha1 : Keeps r a1) (a2 a3) : Keeps r (State.sendTm a1 a2 a3) := by
  unfold State.sendTm
  exact State.sendDevice_keeps ha1 ..

theorem State.askSound_keeps {r} {a1} (ha1 : Keeps r a1) (a2) : Keeps r (State.askSound a1 a2) := by
  unfold State.askSound
  exact State.updChan_keeps (State.sendTm_keeps ha1 ..) ..

theorem State.startTraining_keeps {r} {a1} (ha1 : Keeps r a1) (a2) : Keeps r (State.startTraining a1 a2) := by
  unfold State.startTraining
  extract_lets +onlyGivenNames s1
  have h1 : Keeps r s1 := State.updChan_keeps (State.restartLi_keeps ha1 ..) ..
  exact State.askSound_keeps (State.chooseImpulse_keeps h1 ..) ..

theorem State.invalidate_keeps {r} {a1} (ha1 : Keeps r a1) (a2 a3 a4) : Keeps r (State.invalidate a1 a2 a3 a4) := by
  unfold State.invalidate
  extract_lets +onlyGivenNames _ s2
  have h2 : ∀ t1, Keeps r t1 → Keeps r (s2 t1) := by
    intro _ h3
    unfold s2
    exact State.log_keeps (State.bump_keeps (State.clearMaps_keeps h3 ..) ..) ..
  clear_value s2
  refine pred_ite (P := Keeps r) ?_ (pred_ite (P := Keeps r) (h2 _ ha1) ha1)
  extract_lets +onlyGivenNames s4
  have h4 : Keeps r s4 := pred_ite (P := Keeps r) (State.sendTm_keeps ha1 ..) ha1
  exact State.requestState_keeps (h2 _ h4) ..

theorem State.showSnr_keeps {r} {a1} (ha1 : Keeps r a1) (a2) : Keeps r (State.showSnr a1 a2) := by
  unfold State.showSnr
  extract_lets +onlyGivenNames _ _ _
  exact State.setFld_keeps (State.setFlag_keeps (State.setFld_keeps ha1 ..) ..) ..

theorem State.refreshSnr_keeps {r} {a1} (ha1 : Keeps r a1) (a2) : Keeps r (State.refreshSnr a1 a2) := by
  unfold State.refreshSnr
  exact pred_ite (P := Keeps r) (State.showSnr_keeps ha1 ..) ha1

theorem State.waitMap_keeps {r} {a1} (ha1 : Keeps r a1) (a2 a3) : Keeps r (State.waitMap a1 a2 a3) := by
  unfold State.waitMap
  exact State.updChan_keeps ha1 ..

theorem State.sendMap_keeps {r} {a1} (ha1 : Keeps r a1) (a2 a3) : Keeps r (State.sendMap a1 a2 a3) := by
  unfold State.sendMap
  refine pred_ite (P := Keeps r) (State.waitMap_keeps ha1 ..) ?_
  split
  · exact State.waitMap_keeps ha1 ..
  · extract_lets +onlyGivenNames _ s2
    have h2 : Keeps r s2 := pred_ite (P := Keeps r) (State.chooseImpulse_keeps ha1 ..) ha1
    extract_lets +onlyGivenNames s3
    have h3 : Keeps r s3 := State.syncMaps_keeps (State.updChan_keeps h2 ..) ..
    exact State.sendTm_keeps h3 ..

theorem State.renewMap_keeps {r} {a1} (ha1 : Keeps r a1) (a2 a3) : Keeps r (State.renewMap a1 a2 a3) := by
  unfold State.renewMap
  extract_lets +onlyGivenNames _
  exact pred_ite (P := Keeps r) (State.waitMap_keeps ha1 ..) (State.sendMap_keeps ha1 ..)

theorem State.serveMaps_keeps {r} {a1} (ha1 : Keeps r a1) (a2) : Keeps r (State.serveMaps a1 a2) := by
  unfold State.serveMaps
  split
  · exact ha1
  · exact State.renewMap_keeps ha1 ..

theorem State.checkLive_keeps {r} {a1} (ha1 : Keeps r a1) (a2) : Keeps r (State.checkLive a1 a2) := by
  unfold State.checkLive
  exact pred_ite (P := Keeps r) (State.requestState_keeps ha1 ..) ha1

theorem State.tmAcked_keeps {r} {a1} (ha1 : Keeps r a1) (a2 a3) : Keeps r (State.tmAcked a1 a2 a3) := by
  unfold State.tmAcked
  split
  · exact ha1
  · extract_lets +onlyGivenNames _ s2
    have h2 : Keeps r s2 := State.bump_keeps ha1 ..
    extract_lets +onlyGivenNames _ _ s5
    have h5 : Keeps r s5 := State.updChan_keeps h2 ..
    extract_lets +onlyGivenNames _ s7
    have h7 : Keeps r s7 := pred_ite (P := Keeps r) (State.restartLi_keeps h5 ..) h5
    extract_lets +onlyGivenNames s8
    have h8 : Keeps r s8 := pred_ite (P := Keeps r) (State.setFlag_keeps h7 ..) h5
    exact State.checkLive_keeps (State.refreshSnr_keeps h8 ..) ..

theorem State.acceptMap_keeps {r} {a1} (ha1 : Keeps r a1) (a2 a3 a4) : Keeps r (State.acceptMap a1 a2 a3 a4) := by
  unfold State.acceptMap
  extract_lets +onlyGivenNames _
  exact State.bump_keeps (State.updChan_keeps ha1 ..) ..

theorem State.useMap_keeps {r} {a1} (ha1 : Keeps r a1) (a2 a3 a4) : Keeps r (State.useMap a1 a2 a3 a4) := by
  unfold State.useMap
  extract_lets +onlyGivenNames _ _ s3
  have h3 : Keeps r s3 := State.updChan_keeps ha1 ..
  extract_lets +onlyGivenNames s4
  have h4 : Keeps r s4 := pred_ite (P := Keeps r) (State.setFlag_keeps (State.setFld_keeps h3 ..) ..) (State.setFld_keeps h3 ..)
  exact State.checkLive_keeps (State.syncMaps_keeps h4 ..) ..

theorem State.takeUp_keeps {r} {a1} (ha1 : Keeps r a1) (a2 a3) : Keeps r (State.takeUp a1 a2 a3) := by
  unfold State.takeUp
  split
  · exact State.useMap_keeps ha1 ..
  · exact State.setFlag_keeps (State.updChan_keeps ha1 ..) ..

theorem State.tmSent_keeps {r} {a1} (ha1 : Keeps r a1) (a2 a3) : Keeps r (State.tmSent a1 a2 a3) := by
  unfold State.tmSent
  extract_lets +onlyGivenNames _ s2
  have h2 : Keeps r s2 := State.updChan_keeps ha1 ..
  exact pred_foldl (P := Keeps r) _ (fun _ h3 x4 => State.takeUp_keeps h3 ..) _ h2

theorem State.tmMessage_keeps {r} {a1} (ha1 : Keeps r a1) (a2 a3 a4) : Keeps r (State.tmMessage a1 a2 a3 a4) := by
  unfold State.tmMessage
  split
  · exact State.bump_keeps ha1 ..
  · exact State.sendDevice_keeps (State.bump_keeps ha1 ..) ..
  · exact State.acceptMap_keeps ha1 ..
  · exact State.updChan_keeps ha1 ..
  · exact State.invalidate_keeps ha1 ..
  · extract_lets +onlyGivenNames _
    exact State.updChan_keeps ha1 ..
  · extract_lets +onlyGivenNames _ s3
    have h3 : Keeps r s3 := State.syncMaps_keeps (State.updChan_keeps ha1 ..) ..
    exact State.renewMap_keeps (State.bump_keeps h3 ..) ..
  · exact ha1

theorem execMapRx_keeps {r} {a4} (ha4 : Keeps r a4) (a1 a2 a3) : KeepsX r (execMapRx a1 a2 a3 a4) := by
  unfold execMapRx
  exact KeepsX.mk (pred_ite (P := Keeps r) (State.tmMessage_keeps ha4 ..) ha4)

theorem execMapNakRx_keeps {r} {a4} (ha4 : Keeps r a4) (a1 a2 a3) : KeepsX r (execMapNakRx a1 a2 a3 a4) := by
  unfold execMapNakRx
  exact KeepsX.mk (pred_ite (P := Keeps r) (State.tmMessage_keeps ha4 ..) ha4)

theorem execSoundReqRx_keeps {r} {a4} (ha4 : Keeps r a4) (a1 a2 a3) : KeepsX r (execSoundReqRx a1 a2 a3 a4) := by
  unfold execSoundReqRx
  exact KeepsX.mk (pred_ite (P := Keeps r) (State.tmMessage_keeps ha4 ..) ha4)

theorem execInvalidateAllRx_keeps {r} {a4} (ha4 : Keeps r a4) (a1 a2 a3) : KeepsX r (execInvalidateAllRx a1 a2 a3 a4) := by
  unfold execInvalidateAllRx
  exact KeepsX.mk (pred_ite (P := Keeps r) (State.tmMessage_keeps ha4 ..) ha4)

theorem execFallbackRx_keeps {r} {a4} (ha4 : Keeps r a4) (a1 a2 a3) : KeepsX r (execFallbackRx a1 a2 a3 a4) := by
  unfold execFallbackRx
  exact KeepsX.mk (pred_ite (P := Keeps r) (State.tmMessage_keeps ha4 ..) ha4)

theorem execSoundTimeout_keeps {r} {a2} (ha2 : Keeps r a2) (a1) : KeepsX r (execSoundTimeout a1 a2) := by
  unfold execSoundTimeout
  refine KeepsX.mk ?_
  split
  · exact ha2
  · exact pred_ite (P := Keeps r) ha2 (State.bump_keeps (State.askSound_keeps ha2 ..) ..)

theorem execToneMapRetire_keeps {r} {a2} (ha2 : Keeps r a2) (a1) : KeepsX r (execToneMapRetire a1 a2) := by
  unfold execToneMapRetire
  refine KeepsX.mk ?_
  split
  · exact ha2
  · exact ha2
  · exact State.serveMaps_keeps (State.syncMaps_keeps (State.updChan_keeps ha2 ..) ..) ..

theorem execTmRefresh_keeps {r} {a2} (ha2 : Keeps r a2) (a1) : KeepsX r (execTmRefresh a1 a2) := by
  unfold execTmRefresh
  exact KeepsX.mk (pred_ite (P := Keeps r) ha2 (State.askSound_keeps ha2 ..))

theorem execStepRebaseEnd_keeps {r} {a2} (ha2 : Keeps r a2) (a1) : KeepsX r (execStepRebaseEnd a1 a2) := by
  unfold execStepRebaseEnd
  refine KeepsX.mk ?_
  refine pred_ite (P := Keeps r) ha2 ?_
  extract_lets +onlyGivenNames _ _ s3
  have h3 : Keeps r s3 := State.setFlag_keeps (State.setChan_keeps ha2 ..) ..
  extract_lets +onlyGivenNames s4
  have h4 : Keeps r s4 := State.refreshSnr_keeps h3 ..
  split
  · exact pred_ite (P := Keeps r) (State.updChan_keeps (State.sendTm_keeps h4 ..) ..) (State.askSound_keeps h4 ..)
  · exact State.askSound_keeps h4 ..

theorem State.reviewMap_keeps {r} {a1} (ha1 : Keeps r a1) (a2 a3) : Keeps r (State.reviewMap a1 a2 a3) := by
  unfold State.reviewMap
  split
  · exact ha1
  · extract_lets +onlyGivenNames _ s2
    have h2 : Keeps r s2 := State.updChan_keeps ha1 ..
    extract_lets +onlyGivenNames _ _ _
    exact pred_ite (P := Keeps r) (State.renewMap_keeps h2 ..) h2

theorem State.reviewMaps_keeps {r} {a1} (ha1 : Keeps r a1) (a2) : Keeps r (State.reviewMaps a1 a2) := by
  unfold State.reviewMaps
  exact pred_ite (P := Keeps r) ha1 (State.reviewMap_keeps (State.reviewMap_keeps ha1 ..) ..)

theorem State.segFailures_keeps {r} {a1} (ha1 : Keeps r a1) (a2 a3 a4) : Keeps r (State.segFailures a1 a2 a3 a4) := by
  unfold State.segFailures
  extract_lets +onlyGivenNames _ s2
  have h2 : Keeps r s2 := State.updChan_keeps ha1 ..
  exact pred_ite (P := Keeps r) (State.invalidate_keeps h2 ..) h2

theorem State.setPair_keeps {r} {a1} (ha1 : Keeps r a1) (a2 a3 a4 a5) : Keeps r (State.setPair a1 a2 a3 a4 a5) := by
  unfold State.setPair
  extract_lets +onlyGivenNames _ _ _ s4
  have h4 : Keeps r s4 := Keeps.of ha1 rfl
  extract_lets +onlyGivenNames s5
  have h5 : Keeps r s5 := State.setFld_keeps h4 ..
  extract_lets +onlyGivenNames s6
  have h6 : Keeps r s6 := State.setFld_keeps h5 ..
  refine pred_ite (P := Keeps r) ?_ h6
  extract_lets +onlyGivenNames _ _
  exact Keeps.of h6 rfl

theorem State.mapPairs_keeps {r} {a1} (ha1 : Keeps r a1) (a2 a3 a4) : Keeps r (State.mapPairs a1 a2 a3 a4) := by
  unfold State.mapPairs
  refine pred_foldl (P := Keeps r) _ (fun _ h1 x2 => ?_) _ ha1
  extract_lets +onlyGivenNames _
  exact pred_ite (P := Keeps r) h1 (State.setPair_keeps h1 ..)

theorem State.olaEmpty_keeps {r} {a1} (ha1 : Keeps r a1) (a2) : Keeps r (State.olaEmpty a1 a2) := by
  unfold State.olaEmpty
  exact State.mapPairs_keeps (State.mapPairs_keeps (State.mapPairs_keeps ha1 ..) ..) ..

theorem State.olaEmptyFar_keeps {r} {a1} (ha1 : Keeps r a1) (a2) : Keeps r (State.olaEmptyFar a1 a2) := by
  unfold State.olaEmptyFar
  exact State.mapPairs_keeps (State.mapPairs_keeps ha1 ..) ..

theorem State.olaDemote_keeps {r} {a1} (ha1 : Keeps r a1) (a2) : Keeps r (State.olaDemote a1 a2) := by
  unfold State.olaDemote
  exact State.mapPairs_keeps (State.mapPairs_keeps ha1 ..) ..

theorem State.olaHold_keeps {r} {a1} (ha1 : Keeps r a1) (a2) : Keeps r (State.olaHold a1 a2) := by
  unfold State.olaHold
  exact State.mapPairs_keeps (State.mapPairs_keeps (State.mapPairs_keeps ha1 ..) ..) ..

theorem State.olaUnhold_keeps {r} {a1} (ha1 : Keeps r a1) (a2) : Keeps r (State.olaUnhold a1 a2) := by
  unfold State.olaUnhold
  exact State.mapPairs_keeps ha1 ..

theorem State.dropResid_keeps {r} {a1} (ha1 : Keeps r a1) (a2) : Keeps r (State.dropResid a1 a2) := by
  unfold State.dropResid
  exact Keeps.of ha1 rfl

theorem State.holdPairs_keeps {r} {a1} (ha1 : Keeps r a1) (a2 a3) : Keeps r (State.holdPairs a1 a2 a3) := by
  unfold State.holdPairs
  exact State.mapPairs_keeps (State.dropResid_keeps ha1 ..) ..

theorem State.olaStateChange_keeps {r} {a1} (ha1 : Keeps r a1) (a2 a3 a4) : Keeps r (State.olaStateChange a1 a2 a3 a4) := by
  unfold State.olaStateChange
  extract_lets +onlyGivenNames _ s2
  have h2 : Keeps r s2 := by unfold s2; exact pred_ite (P := Keeps r) ha1 (Keeps.of ha1 rfl)
  extract_lets +onlyGivenNames s3
  have h3 : Keeps r s3 := pred_ite (P := Keeps r) (State.olaUnhold_keeps h2 ..) h2
  exact pred_ite (P := Keeps r) (State.olaEmpty_keeps h3 ..) (pred_ite (P := Keeps r) (State.olaEmptyFar_keeps h3 ..) (pred_ite
      (P := Keeps r) (State.olaDemote_keeps h3 ..) (pred_ite (P := Keeps r) (State.olaHold_keeps (State.dropResid_keeps h3 ..)
      ..) h3)))

theorem State.handDuplex_keeps {r} {a1} (ha1 : Keeps r a1) : Keeps r (State.handDuplex a1) := by
  unfold State.handDuplex
  extract_lets +onlyGivenNames _ _ s3
  have h3 : Keeps r s3 := pred_foldl (P := Keeps r) _ (fun _ h4 x5 => State.setFld_keeps h4 ..) _ ha1
  exact Keeps.of h3 rfl

theorem State.fallDuplex_keeps {r} {a1} (ha1 : Keeps r a1) : Keeps r (State.fallDuplex a1) := by
  unfold State.fallDuplex
  exact Keeps.of ha1 rfl

theorem State.diverge_keeps {r} {a1} (ha1 : Keeps r a1) (a2 a3) : Keeps r (State.diverge a1 a2 a3) := by
  unfold State.diverge
  split
  · exact ha1
  · extract_lets +onlyGivenNames s1
    have h1 : Keeps r s1 := pred_foldl (P := Keeps r) _ (fun _ h2 x3 => State.request_keeps h2 ..) _ ha1
    extract_lets +onlyGivenNames s4
    have h4 : Keeps r s4 := State.bump_keeps h1 ..
    extract_lets +onlyGivenNames s5
    have h5 : Keeps r s5 := by
      unfold s5
      split
      · exact State.setFlag_keeps h4 ..
      · exact State.setFlag_keeps h4 ..
      · exact State.setFlag_keeps h4 ..
    extract_lets +onlyGivenNames _ s7
    have h7 : Keeps r s7 := Keeps.of h5 rfl
    exact State.log_keeps h7 ..

theorem State.divGuard_keeps {r} {a1} (ha1 : Keeps r a1) (a2 a3 a4) : Keeps r (State.divGuard a1 a2 a3 a4) := by
  unfold State.divGuard
  extract_lets +onlyGivenNames _ _ _ s4
  have h4 : Keeps r s4 := Keeps.of ha1 rfl
  exact pred_ite (P := Keeps r) (State.diverge_keeps h4 ..) h4

theorem State.countUpdate_keeps {r} {a1} (ha1 : Keeps r a1) (a2 a3 a4 a5) : Keeps r (State.countUpdate a1 a2 a3 a4 a5) := by
  unfold State.countUpdate
  extract_lets +onlyGivenNames s1
  have h1 : Keeps r s1 := pred_ite (P := Keeps r) (State.setPair_keeps ha1 ..) ha1
  extract_lets +onlyGivenNames _ _ _ s5
  have h5 : Keeps r s5 := Keeps.of h1 rfl
  extract_lets +onlyGivenNames _
  exact pred_ite (P := Keeps r) (State.request_keeps h5 ..) h5

theorem State.writeCoef_keeps {r} {a1} (ha1 : Keeps r a1) (a2 a3 a4) : Keeps r (State.writeCoef a1 a2 a3 a4) := by
  unfold State.writeCoef
  exact Keeps.of ha1 rfl

theorem State.applyResid_keeps {r} {a1} (ha1 : Keeps r a1) (a2 a3) : Keeps r (State.applyResid a1 a2 a3) := by
  unfold State.applyResid
  split
  · exact ha1
  · extract_lets +onlyGivenNames _ _
    refine pred_ite (P := Keeps r) ha1 ?_
    refine pred_foldl (P := Keeps r) _ (fun _ h3 x4 => ?_) _ ha1
    refine pred_ite (P := Keeps r) (State.request_keeps h3 ..) ?_
    extract_lets +onlyGivenNames _ _ _ s8
    have h8 : Keeps r s8 := pred_foldl (P := Keeps r) _ (fun _ h9 x10 => State.writeCoef_keeps h9 ..) _ h3
    exact pred_ite (P := Keeps r) h8 (State.countUpdate_keeps h8 ..)

theorem State.olaSlot_keeps {r} {a1} (ha1 : Keeps r a1) : Keeps r (State.olaSlot a1) := by
  unfold State.olaSlot
  extract_lets +onlyGivenNames _ s2
  have h2 : Keeps r s2 := Keeps.of ha1 rfl
  extract_lets +onlyGivenNames _ _ _ _ s7
  have h7 : Keeps r s7 := pred_ite (P := Keeps r) (State.bump_keeps h2 ..) h2
  extract_lets +onlyGivenNames _ s9
  have h9 : Keeps r s9 := Keeps.of h7 rfl
  extract_lets +onlyGivenNames _ s11
  have h11 : Keeps r s11 := pred_foldl (P := Keeps r) _ (fun _ h12 x13 => State.applyResid_keeps h12 ..) _ h9
  extract_lets +onlyGivenNames _ _ s16
  have h16 : Keeps r s16 := Keeps.of h11 rfl
  extract_lets +onlyGivenNames s17
  have h17 : Keeps r s17 := State.setFld_keeps h16 ..
  extract_lets +onlyGivenNames s18
  have h18 : Keeps r s18 := pred_ite (P := Keeps r) (State.setFld_keeps h17 ..) h17
  extract_lets +onlyGivenNames _ _ s21
  have h21 : Keeps r s21 := pred_foldl (P := Keeps r) _ (fun _ h22 x23 => State.setFlag_keeps h22 ..) _ h18
  extract_lets +onlyGivenNames s24
  have h24 : Keeps r s24 := State.setFld_keeps h21 ..
  extract_lets +onlyGivenNames _ s26
  have h26 : Keeps r s26 := by unfold s26; exact pred_ite (P := Keeps r) (Keeps.of h24 rfl) h18
  exact State.fallDuplex_keeps h26 ..

theorem State.noteSync_keeps {r} {a1} (ha1 : Keeps r a1) (a2) : Keeps r (State.noteSync a1 a2) := by
  unfold State.noteSync
  extract_lets +onlyGivenNames _
  exact Keeps.of ha1 rfl

theorem State.useReport_keeps {r} {a1} (ha1 : Keeps r a1) (a2 a3 a4 a5) : Keeps r (State.useReport a1 a2 a3 a4 a5) := by
  unfold State.useReport
  extract_lets +onlyGivenNames s1
  have h1 : Keeps r s1 := State.setFlag_keeps (State.bump_keeps ha1 ..) ..
  split
  · exact h1
  · extract_lets +onlyGivenNames _ _ _ _ _ _ _ _ _ s11
    have h11 : Keeps r s11 := Keeps.of h1 rfl
    exact pred_ite (P := Keeps r) (State.diverge_keeps h11 ..) h11

theorem State.reportPart_keeps {r} {a1} (ha1 : Keeps r a1) (a2 a3) : Keeps r (State.reportPart a1 a2 a3) := by
  unfold State.reportPart
  extract_lets +onlyGivenNames _ _ _ _
  refine pred_ite (P := Keeps r) (State.bump_keeps ha1 ..) ?_
  refine pred_ite (P := Keeps r) (State.useReport_keeps ha1 ..) ?_
  extract_lets +onlyGivenNames _ _
  split
  · exact Keeps.of ha1 rfl
  · extract_lets +onlyGivenNames _ s8
    have h8 : Keeps r s8 := Keeps.of ha1 rfl
    exact State.useReport_keeps h8 ..

theorem execErrorReportRx_keeps {r} {a3} (ha3 : Keeps r a3) (a1 a2) : KeepsX r (execErrorReportRx a1 a2 a3) := by
  unfold execErrorReportRx
  exact KeepsX.mk (State.reportPart_keeps ha3 ..)

theorem execErrReportDeadline_keeps {r} {a3} (ha3 : Keeps r a3) (a1 a2) : KeepsX r (execErrReportDeadline a1 a2 a3) := by
  unfold execErrReportDeadline
  refine KeepsX.mk ?_
  refine pred_ite (P := Keeps r) ha3 ?_
  extract_lets +onlyGivenNames _ _ s3
  have h3 : Keeps r s3 := Keeps.of ha3 rfl
  exact State.bumpN_keeps h3 ..

theorem execPairHoldExpiry_keeps {r} {a4} (ha4 : Keeps r a4) (a1 a2 a3) : KeepsX r (execPairHoldExpiry a1 a2 a3 a4) := by
  unfold execPairHoldExpiry
  refine KeepsX.mk ?_
  split
  · exact ha4
  · exact pred_ite (P := Keeps r) (State.request_keeps ha4 ..) ha4

theorem olaCmd_keeps {r} {a1 a6} (ha1 : Keeps r a1) (ha6 : ∀ t1, Keeps1 r (a6 t1)) (a2 a3 a4 a5) :
    Keeps1 r (olaCmd a1 a2 a3 a4 a5 a6) := by
  unfold olaCmd
  refine pred_ite (P := Keeps1 r) (refuse_keeps ha1 ..) ?_
  refine pred_ite (P := Keeps1 r) (refuse_keeps ha1 ..) ?_
  refine pred_ite (P := Keeps1 r) (featGate_keeps ha1 (refuse_keeps ha1 ..) ..) ?_
  split
  · exact refuse_keeps ha1 ..
  · exact pred_ite (P := Keeps1 r) (refuse_keeps ha1 ..) (ha6 _)

theorem opOlaPairQuery_keeps {r} {a5} (ha5 : Keeps r a5) (a1 a2 a3 a4) : Keeps1 r (opOlaPairQuery a1 a2 a3 a4 a5) := by
  unfold opOlaPairQuery
  refine olaCmd_keeps ha5 (fun x1 => ?_) ..
  extract_lets +onlyGivenNames _ _
  exact Keeps1.mk ha5

theorem opOlaVictimReset_keeps {r} {a4} (ha4 : Keeps r a4) (a1 a2 a3) : Keeps1 r (opOlaVictimReset a1 a2 a3 a4) := by
  unfold opOlaVictimReset
  exact olaCmd_keeps ha4 (fun x1 => Keeps1.mk (pred_foldl (P := Keeps r) _ (fun _ h2 x3 => State.request_keeps h2 ..) _ ha4)) ..

theorem opOlaCoefRead_keeps {r} {a7} (ha7 : Keeps r a7) (a1 a2 a3 a4 a5 a6) :
    Keeps1 r (opOlaCoefRead a1 a2 a3 a4 a5 a6 a7) := by
  unfold opOlaCoefRead
  exact olaCmd_keeps ha7 (fun x1 => pred_ite (P := Keeps1 r) (refuse_keeps ha7 ..) (Keeps1.mk ha7)) ..

theorem opOlaCoefWrite_keeps {r} {a7} (ha7 : Keeps r a7) (a1 a2 a3 a4 a5 a6) :
    Keeps1 r (opOlaCoefWrite a1 a2 a3 a4 a5 a6 a7) := by
  unfold opOlaCoefWrite
  refine olaCmd_keeps ha7 (fun x1 => ?_) ..
  refine pred_ite (P := Keeps1 r) (refuse_keeps ha7 ..) ?_
  refine pred_ite (P := Keeps1 r) (refuse_keeps ha7 ..) ?_
  refine pred_ite (P := Keeps1 r) (refuse_keeps ha7 ..) ?_
  refine pred_ite (P := Keeps1 r) (refuse_keeps ha7 ..) ?_
  extract_lets +onlyGivenNames s2
  have h2 : Keeps r s2 := pred_foldl (P := Keeps r) _ (fun _ h3 x4 => State.writeCoef_keeps h3 ..) _ ha7
  extract_lets +onlyGivenNames s5
  have h5 : Keeps r s5 := pred_ite (P := Keeps r) (State.request_keeps h2 ..) h2
  exact Keeps1.mk h5

theorem execOlaPairQuery_keeps {r} {a5} (ha5 : Keeps r a5) (a1 a2 a3 a4) : KeepsX r (execOlaPairQuery a1 a2 a3 a4 a5) := by
  unfold execOlaPairQuery
  exact KeepsX.mk (ohi_keeps ha5 (opOlaPairQuery_keeps ha5 ..) ..)

theorem execOlaVictimReset_keeps {r} {a4} (ha4 : Keeps r a4) (a1 a2 a3) : KeepsX r (execOlaVictimReset a1 a2 a3 a4) := by
  unfold execOlaVictimReset
  exact KeepsX.mk (ohi_keeps ha4 (opOlaVictimReset_keeps ha4 ..) ..)

theorem execOlaCoefRead_keeps {r} {a7} (ha7 : Keeps r a7) (a1 a2 a3 a4 a5 a6) :
    KeepsX r (execOlaCoefRead a1 a2 a3 a4 a5 a6 a7) := by
  unfold execOlaCoefRead
  exact KeepsX.mk (ohi_keeps ha7 (opOlaCoefRead_keeps ha7 ..) ..)

theorem execOlaCoefWrite_keeps {r} {a7} (ha7 : Keeps r a7) (a1 a2 a3 a4 a5 a6) :
    KeepsX r (execOlaCoefWrite a1 a2 a3 a4 a5 a6 a7) := by
  unfold execOlaCoefWrite
  exact KeepsX.mk (ohi_keeps ha7 (opOlaCoefWrite_keeps ha7 ..) ..)

theorem State.withdraw_keeps {r} {a1} (ha1 : Keeps r a1) (a2) : Keeps r (State.withdraw a1 a2) := by
  unfold State.withdraw
  refine pred_ite (P := Keeps r) ?_ ha1
  extract_lets +onlyGivenNames s1
  have h1 : Keeps r s1 := State.setFld_keeps ha1 ..
  refine pred_ite (P := Keeps r) ?_ h1
  extract_lets +onlyGivenNames s2
  have h2 : Keeps r s2 := State.setFld_keeps h1 ..
  extract_lets +onlyGivenNames _ s4
  have h4 : Keeps r s4 := Keeps.of h2 rfl
  exact State.log_keeps h4 ..

theorem State.olaShow_keeps {r} {a1} (ha1 : Keeps r a1) : Keeps r (State.olaShow a1) := by
  unfold State.olaShow
  extract_lets +onlyGivenNames _
  exact State.setFlag_keeps (State.setFlag_keeps (State.setFlag_keeps (State.setFlag_keeps ha1 ..) ..) ..) ..

theorem State.olaAllEmpty_keeps {r} {a1} (ha1 : Keeps r a1) : Keeps r (State.olaAllEmpty a1) := by
  unfold State.olaAllEmpty
  extract_lets +onlyGivenNames _ s2
  have h2 : Keeps r s2 := Keeps.of ha1 rfl
  exact forAll_keeps (fun x3 _ h4 => State.setFld_keeps (State.setFld_keeps h4 ..) ..) h2 ..

theorem State.olaStop_keeps {r} {a1} (ha1 : Keeps r a1) : Keeps r (State.olaStop a1) := by
  unfold State.olaStop
  exact State.handDuplex_keeps (State.olaAllEmpty_keeps (State.setFlag_keeps ha1 ..) ..) ..

theorem execOverlockFence_keeps {r} {a1} (ha1 : Keeps r a1) : KeepsX r (execOverlockFence a1) := by
  unfold execOverlockFence
  exact KeepsX.mk (pred_ite (P := Keeps r) (pred_foldl (P := Keeps r) _ (fun _ h1 x2 => State.request_keeps h1 ..) _
      (State.request_keeps ha1 ..)) (pred_foldl (P := Keeps r) _ (fun _ h3 x4 => State.withdraw_keeps h3 ..) _
      (State.olaStop_keeps ha1 ..)))

theorem State.release_keeps {r} {a1} (ha1 : Keeps r a1) (a2) : Keeps r (State.release a1 a2) := by
  unfold State.release
  exact Keeps.of ha1 rfl

theorem State.freezeAgc_keeps {r} {a1} (ha1 : Keeps r a1) (a2 a3) : Keeps r (State.freezeAgc a1 a2 a3) := by
  unfold State.freezeAgc
  extract_lets +onlyGivenNames _ _
  exact State.updChan_keeps ha1 ..

theorem State.notePeer_keeps {r} {a1} (ha1 : Keeps r a1) (a2 a3) : Keeps r (State.notePeer a1 a2 a3) := by
  unfold State.notePeer
  exact State.updChan_keeps ha1 ..

theorem State.establish_keeps {r} {a1} (ha1 : Keeps r a1) (a2 a3) : Keeps r (State.establish a1 a2 a3) := by
  unfold State.establish
  exact pred_ite (P := Keeps r) (State.requestState_keeps ha1 ..) ha1

theorem State.takeHeard_keeps {r} {a1} (ha1 : Keeps r a1) (a2 a3) : Keeps r (State.takeHeard a1 a2 a3) := by
  unfold State.takeHeard
  exact State.updChan_keeps ha1 ..

theorem State.setRec_keeps {r} {a1} (ha1 : Keeps r a1) (a2 a3) : Keeps r (State.setRec a1 a2 a3) := by
  unfold State.setRec
  extract_lets +onlyGivenNames _ s2
  have h2 : Keeps r s2 := Keeps.of ha1 rfl
  exact State.setFld_keeps h2 ..

theorem State.freeRec_keeps {r} {a1} (ha1 : Keeps r a1) (a2) : Keeps r (State.freeRec a1 a2) := by
  unfold State.freeRec
  exact State.setRec_keeps ha1 ..

theorem State.sendAns_keeps {r} {a1} (ha1 : Keeps r a1) (a2 a3 a4) : Keeps r (State.sendAns a1 a2 a3 a4) := by
  unfold State.sendAns
  exact State.sendDevice_keeps ha1 ..

theorem State.refuseSleep_keeps {r} {a1} (ha1 : Keeps r a1) (a2 a3 a4) : Keeps r (State.refuseSleep a1 a2 a3 a4) := by
  unfold State.refuseSleep
  split
  · rename_i e1
    have h1 := Keeps2.out (r := r) e1 (State.drawFree_keeps ha1 ..)
    exact State.sendAns_keeps h1 ..

theorem State.sleepMessage_keeps {r} {a1} (ha1 : Keeps r a1) (a2 a3 a4) : Keeps r (State.sleepMessage a1 a2 a3 a4) := by
  unfold State.sleepMessage
  refine pred_ite (P := Keeps r) (State.bump_keeps ha1 ..) ?_
  split
  · extract_lets +onlyGivenNames _
    exact State.sendAns_keeps ha1 ..
  · split
    · exact State.refuseSleep_keeps ha1 ..
    · split
      · exact State.refuseSleep_keeps (State.bump_keeps ha1 ..) ..
      · extract_lets +onlyGivenNames _ _ _
        split
        · rename_i e5
          have h5 := Keeps2.out (r := r) e5 (State.drawFree_keeps ha1 ..)
          extract_lets +onlyGivenNames s6
          have h6 : Keeps r s6 := State.setRec_keeps h5 ..
          exact State.sendAns_keeps h6 ..

theorem execSleepReq_keeps {r} {a4} (ha4 : Keeps r a4) (a1 a2 a3) : KeepsX r (execSleepReq a1 a2 a3 a4) := by
  unfold execSleepReq
  exact KeepsX.mk (State.sleepMessage_keeps ha4 ..)

theorem State.grantAcked_keeps {r} {a1} (ha1 : Keeps r a1) (a2 a3) : Keeps r (State.grantAcked a1 a2 a3) := by
  unfold State.grantAcked
  split
  · exact ha1
  · extract_lets +onlyGivenNames _
    exact pred_ite (P := Keeps r) (State.setRec_keeps ha1 ..) ha1

theorem execSyncingTimeout_keeps {r} {a2} (ha2 : Keeps r a2) (a1) : KeepsX r (execSyncingTimeout a1 a2) := by
  unfold execSyncingTimeout
  refine KeepsX.mk ?_
  split
  · exact ha2
  · exact pred_ite (P := Keeps r) (State.freeRec_keeps (State.reach_keeps ha2 ..) ..) ha2

theorem execListenWindowOpen_keeps {r} {a2} (ha2 : Keeps r a2) (a1) : KeepsX r (execListenWindowOpen a1 a2) := by
  unfold execListenWindowOpen
  refine KeepsX.mk ?_
  extract_lets +onlyGivenNames _
  split
  · exact ha2
  · exact pred_ite (P := Keeps r) (State.setRec_keeps (State.reach_keeps ha2 ..) ..) ha2

theorem State.startWaking_keeps {r} {a1} (ha1 : Keeps r a1) (a2) : Keeps r (State.startWaking a1 a2) := by
  unfold State.startWaking
  extract_lets +onlyGivenNames _
  exact pred_ite (P := Keeps r) (State.bump_keeps (State.setRec_keeps ha1 ..) ..) ha1

theorem State.wakeFor_keeps {r} {a1} (ha1 : Keeps r a1) (a2 a3) : Keeps r (State.wakeFor a1 a2 a3) := by
  unfold State.wakeFor
  split
  · exact State.startWaking_keeps ha1 ..
  · exact ha1

theorem State.handoverWake_keeps {r} {a1} (ha1 : Keeps r a1) (a2 a3 a4 a5 a6 a7 a8 a9 a10) :
    KeepsO r (State.handoverWake a1 a2 a3 a4 a5 a6 a7 a8 a9 a10) := by
  unfold State.handoverWake
  exact KeepsO.map_KeepsO (fun _ h1 => pred_ite (P := Keeps r) (State.wakeFor_keeps h1 ..) h1) (State.handover_keeps ha1 ..)

theorem execListenWindowClose_keeps {r} {a2} (ha2 : Keeps r a2) (a1) : KeepsX r (execListenWindowClose a1 a2) := by
  unfold execListenWindowClose
  refine KeepsX.mk ?_
  extract_lets +onlyGivenNames _
  split
  · exact ha2
  · refine pred_ite (P := Keeps r) ha2 ?_
    extract_lets +onlyGivenNames s2
    have h2 : Keeps r s2 := State.reach_keeps ha2 ..
    refine pred_ite (P := Keeps r) (State.setRec_keeps h2 ..) ?_
    extract_lets +onlyGivenNames s3
    have h3 : Keeps r s3 := State.bump_keeps (State.setRec_keeps h2 ..) ..
    extract_lets +onlyGivenNames _
    exact pred_ite (P := Keeps r) (State.startWaking_keeps h3 ..) h3

theorem State.learnDrift_keeps {r} {a1} (ha1 : Keeps r a1) (a2 a3 a4 a5) : Keeps r (State.learnDrift a1 a2 a3 a4 a5) := by
  unfold State.learnDrift
  extract_lets +onlyGivenNames _
  split
  · exact ha1
  · extract_lets +onlyGivenNames _
    split
    · rename_i e3
      have h3 := Keeps2.out (r := r) e3 (pred_ite (P := Keeps2 r) (State.drawFree_keeps ha1 ..) (Keeps2.mk ha1))
      exact State.setRec_keeps h3 ..

theorem State.oweReply_keeps {r} {a1} (ha1 : Keeps r a1) (a2 a3 a4) : Keeps r (State.oweReply a1 a2 a3 a4) := by
  unfold State.oweReply
  extract_lets +onlyGivenNames _
  refine pred_ite (P := Keeps r) ?_ ha1
  extract_lets +onlyGivenNames _ _
  exact Keeps.of ha1 rfl

theorem State.wakeSync_keeps {r} {a1} (ha1 : Keeps r a1) (a2 a3 a4) : Keeps r (State.wakeSync a1 a2 a3 a4) := by
  unfold State.wakeSync
  extract_lets +onlyGivenNames _ _
  refine pred_ite (P := Keeps r) ha1 ?_
  extract_lets +onlyGivenNames s3
  have h3 : Keeps r s3 := State.establish_keeps (State.oweReply_keeps ha1 ..) ..
  split
  · exact State.bump_keeps h3 ..
  · extract_lets +onlyGivenNames _
    exact pred_ite (P := Keeps r) (State.setRec_keeps h3 ..) (pred_ite (P := Keeps r) (State.learnDrift_keeps (State.bump_keeps
        (State.setRec_keeps h3 ..) ..) ..) (pred_ite (P := Keeps r) (State.bump_keeps (State.setRec_keeps h3 ..) ..) h3))

theorem execWakeSyncRx_keeps {r} {a2} (ha2 : Keeps r a2) (a1) : KeepsX r (execWakeSyncRx a1 a2) := by
  unfold execWakeSyncRx
  refine KeepsX.mk ?_
  split
  · exact ha2
  · exact State.reviewMaps_keeps (State.wakeSync_keeps (State.takeHeard_keeps ha2 ..) ..) ..

theorem State.replyFor_keeps {r} {a1} (ha1 : Keeps r a1) (a2) : Keeps2 r (State.replyFor a1 a2) := by
  unfold State.replyFor
  split
  · split
    · rename_i e1
      have h1 := Keeps2.out (r := r) e1 (State.drawFree_keeps ha1 ..)
      exact Keeps2.mk h1
  · extract_lets +onlyGivenNames _ _ _
    exact Keeps2.mk ha1

theorem State.replySent_keeps {r} {a1} (ha1 : Keeps r a1) (a2) : Keeps r (State.replySent a1 a2) := by
  unfold State.replySent
  split
  · exact ha1
  · extract_lets +onlyGivenNames _ _ _ _
    exact pred_ite (P := Keeps r) (State.freeRec_keeps ha1 ..) (pred_ite (P := Keeps r) (State.setRec_keeps ha1 ..)
        (State.setRec_keeps ha1 ..))

theorem execWakeSyncReply_keeps {r} {a2} (ha2 : Keeps r a2) (a1) : KeepsX r (execWakeSyncReply a1 a2) := by
  unfold execWakeSyncReply
  refine KeepsX.mk ?_
  split
  · exact ha2
  · extract_lets +onlyGivenNames _ s2
    have h2 : Keeps r s2 := Keeps.of ha2 rfl
    extract_lets +onlyGivenNames _
    refine pred_ite (P := Keeps r) h2 ?_
    split
    · exact h2
    · split
      · rename_i e4
        have h4 := Keeps2.out (r := r) e4 (State.replyFor_keeps h2 ..)
        extract_lets +onlyGivenNames _ _
        exact Keeps.of h4 rfl

theorem State.drmSlot_keeps {r} {a1} (ha1 : Keeps r a1) : Keeps r (State.drmSlot a1) := by
  unfold State.drmSlot
  extract_lets +onlyGivenNames _ _
  exact Keeps.of ha1 rfl

theorem execWakeSequenceStart_keeps {r} {a2} (ha2 : Keeps r a2) (a1) : KeepsX r (execWakeSequenceStart a1 a2) := by
  unfold execWakeSequenceStart
  refine KeepsX.mk ?_
  extract_lets +onlyGivenNames _ _ _
  refine pred_ite (P := Keeps r) ha2 ?_
  refine pred_ite (P := Keeps r) (State.bump_keeps ha2 ..) ?_
  extract_lets +onlyGivenNames _ _ s6
  have h6 : Keeps r s6 := State.setRec_keeps ha2 ..
  exact State.addRamp_keeps (Keeps.of h6 rfl) ..

theorem execWakeListenExpiry_keeps {r} {a2} (ha2 : Keeps r a2) (a1) : KeepsX r (execWakeListenExpiry a1 a2) := by
  unfold execWakeListenExpiry
  refine KeepsX.mk ?_
  extract_lets +onlyGivenNames _
  refine pred_ite (P := Keeps r) ha2 ?_
  extract_lets +onlyGivenNames s2
  have h2 : Keeps r s2 := State.reach_keeps ha2 ..
  exact pred_ite (P := Keeps r) (State.setRec_keeps h2 ..) (State.log_keeps (State.bump_keeps (State.freeRec_keeps h2 ..) ..)
      ..)

theorem execAwakeHoldExpiry_keeps {r} {a2} (ha2 : Keeps r a2) (a1) : KeepsX r (execAwakeHoldExpiry a1 a2) := by
  unfold execAwakeHoldExpiry
  refine KeepsX.mk ?_
  extract_lets +onlyGivenNames _
  exact pred_ite (P := Keeps r) (State.setRec_keeps ha2 ..) ha2

theorem State.stopTones_keeps {r} {a1} (ha1 : Keeps r a1) (a2) : Keeps r (State.stopTones a1 a2) := by
  unfold State.stopTones
  extract_lets +onlyGivenNames _ s2
  have h2 : Keeps r s2 := by
    unfold s2
    refine pred_foldl (P := Keeps r) _ (fun _ h3 x4 => ?_) _ ha1
    extract_lets +onlyGivenNames _
    exact pred_ite (P := Keeps r) (State.setRec_keeps h3 ..) h3
  extract_lets +onlyGivenNames s6
  have h6 : Keeps r s6 := pred_ite (P := Keeps r) h2 (State.cutRamp_keeps h2 ..)
  exact Keeps.of h6 rfl

theorem State.releaseRecs_keeps {r} {a1} (ha1 : Keeps r a1) (a2) : Keeps r (State.releaseRecs a1 a2) := by
  unfold State.releaseRecs
  exact pred_foldl (P := Keeps r) _ (fun _ h1 x2 => State.freeRec_keeps h1 ..) _ ha1

theorem drmCmd_keeps {r} {a1 a4} (ha1 : Keeps r a1) (ha4 : ∀ t1, Keeps1 r (a4 t1)) (a2 a3) : Keeps1 r (drmCmd a1 a2 a3 a4) := by
  unfold drmCmd
  extract_lets +onlyGivenNames _
  exact pred_ite (P := Keeps1 r) (refuse_keeps ha1 ..) (pred_ite (P := Keeps1 r) (refuse_keeps ha1 ..) (featGate_keeps ha1 (ha4
      _) ..))

theorem opDrmQuery_keeps {r} {a3} (ha3 : Keeps r a3) (a1 a2) : Keeps1 r (opDrmQuery a1 a2 a3) := by
  unfold opDrmQuery
  exact drmCmd_keeps ha3 (fun x1 => Keeps1.mk ha3) ..

theorem opDrmWake_keeps {r} {a3} (ha3 : Keeps r a3) (a1 a2) : Keeps1 r (opDrmWake a1 a2 a3) := by
  unfold opDrmWake
  exact drmCmd_keeps ha3 (fun x1 => pred_ite (P := Keeps1 r) (refuse_keeps ha3 ..) (Keeps1.mk (State.startWaking_keeps ha3
      ..))) ..

theorem opDrmRelease_keeps {r} {a3} (ha3 : Keeps r a3) (a1 a2) : Keeps1 r (opDrmRelease a1 a2 a3) := by
  unfold opDrmRelease
  exact drmCmd_keeps ha3 (fun x1 => pred_ite (P := Keeps1 r) (refuse_keeps ha3 ..) (Keeps1.mk (State.freeRec_keeps ha3 ..))) ..

theorem execDrmQuery_keeps {r} {a3} (ha3 : Keeps r a3) (a1 a2) : KeepsX r (execDrmQuery a1 a2 a3) := by
  unfold execDrmQuery
  exact KeepsX.mk (ohi_keeps ha3 (opDrmQuery_keeps ha3 ..) ..)

theorem execDrmWake_keeps {r} {a3} (ha3 : Keeps r a3) (a1 a2) : KeepsX r (execDrmWake a1 a2 a3) := by
  unfold execDrmWake
  exact KeepsX.mk (ohi_keeps ha3 (opDrmWake_keeps ha3 ..) ..)

theorem execDrmRelease_keeps {r} {a3} (ha3 : Keeps r a3) (a1 a2) : KeepsX r (execDrmRelease a1 a2 a3) := by
  unfold execDrmRelease
  exact KeepsX.mk (ohi_keeps ha3 (opDrmRelease_keeps ha3 ..) ..)

theorem State.sealField_keeps {r} {a1} (ha1 : Keeps r a1) (a2 a3 a4 a5 a6 a7 a8 a9) :
    KeepsO2 r (State.sealField a1 a2 a3 a4 a5 a6 a7 a8 a9) := by
  unfold State.sealField
  split
  · split
    · exact KeepsO2.none
    · refine pred_ite (P := KeepsO2 r) KeepsO2.none ?_
      extract_lets +onlyGivenNames _ _
      exact KeepsO2.mk (Keeps2.mk (Keeps.of ha1 rfl))
  · exact KeepsO2.none

theorem State.openField_keeps {r} {a1} (ha1 : Keeps r a1) (a2 a3 a4 a5 a6 a7) :
    Keeps2 r (State.openField a1 a2 a3 a4 a5 a6 a7) := by
  unfold State.openField
  extract_lets +onlyGivenNames _ _ s3
  have h3 : ∀ t1, Keeps r t1 → Keeps2 r (s3 t1) := by
    intro _ h4
    unfold s3
    exact Keeps2.mk (State.bump_keeps h4 ..)
  clear_value s3
  split
  · exact h3 _ ha1
  · split
    · exact h3 _ ha1
    · split
      · exact h3 _ ha1
      · extract_lets +onlyGivenNames _
        refine pred_ite (P := Keeps2 r) (h3 _ (State.bump_keeps ha1 ..)) ?_
        extract_lets +onlyGivenNames _ _
        exact Keeps2.mk (Keeps.of ha1 rfl)

theorem State.raiseFloors_keeps {r} {a1} (ha1 : Keeps r a1) (a2) : Keeps r (State.raiseFloors a1 a2) := by
  unfold State.raiseFloors
  exact Keeps.of ha1 rfl

theorem State.flowRestart_keeps {r} {a1} (ha1 : Keeps r a1) (a2) : Keeps r (State.flowRestart a1 a2) := by
  unfold State.flowRestart
  exact State.raiseFloors_keeps (State.restartFlows_keeps ha1 ..) ..

theorem State.clearKeys_keeps {r} {a1} (ha1 : Keeps r a1) : Keeps r (State.clearKeys a1) := by
  unfold State.clearKeys
  exact Keeps.of ha1 rfl

end Sys2Proof.Machine
end

