-- ==== Sys2Proof/Laws/KeepsHost.lean ====
section
/-! SUPPORT. The commands waiting and the invariant are kept by: timebases, PTP, the host ports, the mains watch, the gauge. -/

namespace Sys2Proof.Machine

theorem State.setTb_keeps {r} {a1} (ha1 : Keeps r a1) (a2 a3) : Keeps r (State.setTb a1 a2 a3) := by
  unfold State.setTb
  exact Keeps.of ha1 rfl

theorem State.anchor_keeps {r} {a1} (ha1 : Keeps r a1) (a2 a3) : Keeps r (State.anchor a1 a2 a3) := by
  unfold State.anchor
  extract_lets +onlyGivenNames _
  exact State.setTb_keeps ha1 ..

theorem State.showPhi_keeps {r} {a1} (ha1 : Keeps r a1) (a2) : Keeps r (State.showPhi a1 a2) := by
  unfold State.showPhi
  extract_lets +onlyGivenNames _ _ _
  exact State.setFlag_keeps (State.setFld_keeps ha1 ..) ..

theorem State.setTime_keeps {r} {a1} (ha1 : Keeps r a1) (a2 a3 a4 a5 a6 a7) : Keeps r (State.setTime a1 a2 a3 a4 a5 a6 a7) := by
  unfold State.setTime
  extract_lets +onlyGivenNames _ _ s3
  have h3 : Keeps r s3 := State.setFld_keeps (State.anchor_keeps ha1 ..) ..
  refine pred_foldl (P := Keeps r) _ (fun _ h4 x5 => ?_) _ h3
  extract_lets +onlyGivenNames _ _ s8
  have h8 : Keeps r s8 := State.anchor_keeps h4 ..
  exact State.showPhi_keeps (State.setFld_keeps h8 ..) ..

theorem State.showQualified_keeps {r} {a1} (ha1 : Keeps r a1) (a2) : Keeps r (State.showQualified a1 a2) := by
  unfold State.showQualified
  extract_lets +onlyGivenNames _ _
  exact State.setFlag_keeps (State.setTb_keeps ha1 ..) ..

theorem State.pairSwitch_keeps {r} {a1} (ha1 : Keeps r a1) (a2 a3 a4) : Keeps r (State.pairSwitch a1 a2 a3 a4) := by
  unfold State.pairSwitch
  extract_lets +onlyGivenNames _ _ _ _ s5
  have h5 : Keeps r s5 := State.anchor_keeps ha1 ..
  extract_lets +onlyGivenNames s6
  have h6 : Keeps r s6 := State.setFld_keeps (State.setFlag_keeps h5 ..) ..
  exact State.log_keeps (State.bump_keeps (State.showPhi_keeps h6 ..) ..) ..

theorem State.pairDecide_keeps {r} {a1} (ha1 : Keeps r a1) (a2) : Keeps r (State.pairDecide a1 a2) := by
  unfold State.pairDecide
  refine pred_foldl (P := Keeps r) _ (fun _ h1 x2 => ?_) _ ha1
  extract_lets +onlyGivenNames _ _ _ _
  exact pred_ite (P := Keeps r) (State.pairSwitch_keeps h1 ..) (pred_ite (P := Keeps r) (State.pairSwitch_keeps h1 ..) h1)

theorem State.setTbState_keeps {r} {a1} (ha1 : Keeps r a1) (a2 a3) : Keeps r (State.setTbState a1 a2 a3) := by
  unfold State.setTbState
  refine pred_ite (P := Keeps r) ha1 ?_
  extract_lets +onlyGivenNames s1
  have h1 : Keeps r s1 := State.log_keeps (State.setFld_keeps ha1 ..) ..
  extract_lets +onlyGivenNames _ s3
  have h3 : Keeps r s3 := pred_ite (P := Keeps r) (State.setTb_keeps h1 ..) h1
  exact State.pairDecide_keeps (State.showQualified_keeps h3 ..) ..

theorem State.tbOffset_keeps {r} {a1} (ha1 : Keeps r a1) (a2 a3) : Keeps r (State.tbOffset a1 a2 a3) := by
  unfold State.tbOffset
  extract_lets +onlyGivenNames _ _ s3
  have h3 : Keeps r s3 := State.setFld_keeps ha1 ..
  extract_lets +onlyGivenNames _ _ _ _ _ _ _ _ s12
  have h12 : Keeps r s12 := State.setTime_keeps (State.setTb_keeps h3 ..) ..
  extract_lets +onlyGivenNames _ s14
  have h14 : Keeps r s14 := State.setTb_keeps h3 ..
  extract_lets +onlyGivenNames _ s16
  have h16 : Keeps r s16 := pred_ite (P := Keeps r) (State.log_keeps (State.bump_keeps h12 ..) ..) (State.bumpWrap_keeps
      (State.setTime_keeps h14 ..) ..)
  extract_lets +onlyGivenNames _ s18
  have h18 : Keeps r s18 := State.setTbState_keeps h16 ..
  exact State.pairDecide_keeps (State.showQualified_keeps h18 ..) ..

theorem execTimebaseLossTimeout_keeps {r} {a2} (ha2 : Keeps r a2) (a1) : KeepsX r (execTimebaseLossTimeout a1 a2) := by
  unfold execTimebaseLossTimeout
  refine KeepsX.mk ?_
  extract_lets +onlyGivenNames _
  refine pred_ite (P := Keeps r) ha2 ?_
  extract_lets +onlyGivenNames _ s3
  have h3 : Keeps r s3 := State.reach_keeps ha2 ..
  extract_lets +onlyGivenNames _ _
  exact State.setTbState_keeps (State.setTime_keeps h3 ..) ..

theorem execSlewEnd_keeps {r} {a2} (ha2 : Keeps r a2) (a1) : KeepsX r (execSlewEnd a1 a2) := by
  unfold execSlewEnd
  refine KeepsX.mk ?_
  split
  · exact ha2
  · extract_lets +onlyGivenNames _
    refine pred_ite (P := Keeps r) ha2 ?_
    extract_lets +onlyGivenNames s2
    have h2 : Keeps r s2 := State.reach_keeps ha2 ..
    extract_lets +onlyGivenNames _
    exact State.showPhi_keeps (State.anchor_keeps h2 ..) ..

theorem execPpsInEdge_keeps {r} {a2} (ha2 : Keeps r a2) (a1) : KeepsX r (execPpsInEdge a1 a2) := by
  unfold execPpsInEdge
  refine KeepsX.mk ?_
  extract_lets +onlyGivenNames _ s2
  have h2 : Keeps r s2 := Keeps.of ha2 rfl
  extract_lets +onlyGivenNames _ s4
  have h4 : Keeps r s4 := State.setFlag_keeps h2 ..
  extract_lets +onlyGivenNames _ s6
  have h6 : Keeps r s6 := Keeps.of h4 rfl
  exact forAll_keeps (fun x7 _ h8 => State.tbOffset_keeps h8 ..) h6 ..

theorem execPpsInTimeout_keeps {r} {a1} (ha1 : Keeps r a1) : KeepsX r (execPpsInTimeout a1) := by
  unfold execPpsInTimeout
  refine KeepsX.mk ?_
  extract_lets +onlyGivenNames s1
  have h1 : Keeps r s1 := by
    unfold s1
    split
    · exact State.reach_keeps ha1 ..
    · exact ha1
  extract_lets +onlyGivenNames s2
  have h2 : Keeps r s2 := State.setFlag_keeps h1 ..
  exact Keeps.of h2 rfl

theorem State.setTod_keeps {r} {a1} (ha1 : Keeps r a1) (a2) : Keeps r (State.setTod a1 a2) := by
  unfold State.setTod
  extract_lets +onlyGivenNames _ s2
  have h2 : Keeps r s2 := Keeps.of ha1 rfl
  exact State.setFlag_keeps (State.setFld_keeps (State.setFld_keeps h2 ..) ..) ..

theorem execPpsOutEdge_keeps {r} {a2} (ha2 : Keeps r a2) (a1) : KeepsX r (execPpsOutEdge a1 a2) := by
  unfold execPpsOutEdge
  refine KeepsX.mk ?_
  extract_lets +onlyGivenNames _
  refine pred_ite (P := Keeps r) ha2 ?_
  extract_lets +onlyGivenNames s2
  have h2 : Keeps r s2 := State.reach_keeps ha2 ..
  extract_lets +onlyGivenNames _ _ s5
  have h5 : Keeps r s5 := State.setTod_keeps h2 ..
  exact Keeps.of h5 rfl

theorem execTodTxLine_keeps {r} {a1} (ha1 : Keeps r a1) : KeepsX r (execTodTxLine a1) := by
  unfold execTodTxLine
  refine KeepsX.mk ?_
  split
  · exact ha1
  · extract_lets +onlyGivenNames s1
    have h1 : Keeps r s1 := State.reach_keeps ha1 ..
    exact Keeps.of h1 rfl

theorem timCmd_keeps {r} {a1 a4} (ha1 : Keeps r a1) (ha4 : Keeps1 r a4) (a2 a3) : Keeps1 r (timCmd a1 a2 a3 a4) := by
  unfold timCmd
  exact pred_ite (P := Keeps1 r) (refuse_keeps ha1 ..) (pred_ite (P := Keeps1 r) (refuse_keeps ha1 ..) (pred_ite (P := Keeps1
      r) (refuse_keeps ha1 ..) ha4))

theorem opTimQuery_keeps {r} {a3} (ha3 : Keeps r a3) (a1 a2) : Keeps1 r (opTimQuery a1 a2 a3) := by
  unfold opTimQuery
  exact timCmd_keeps ha3 (Keeps1.mk ha3) ..

theorem opTimSet_keeps {r} {a6} (ha6 : Keeps r a6) (a1 a2 a3 a4 a5) : Keeps1 r (opTimSet a1 a2 a3 a4 a5 a6) := by
  unfold opTimSet
  extract_lets +onlyGivenNames _ _
  refine timCmd_keeps ha6 ?_ ..
  refine pred_ite (P := Keeps1 r) (refuse_keeps ha6 ..) ?_
  refine pred_ite (P := Keeps1 r) (refuse_keeps ha6 ..) ?_
  extract_lets +onlyGivenNames _ _ _
  exact Keeps1.mk (State.setTime_keeps ha6 ..)

theorem opTimFeed_keeps {r} {a4} (ha4 : Keeps r a4) (a1 a2 a3) : Keeps1 r (opTimFeed a1 a2 a3 a4) := by
  unfold opTimFeed
  exact timCmd_keeps ha4 (pred_ite (P := Keeps1 r) (refuse_keeps ha4 ..) (Keeps1.mk (State.tbOffset_keeps ha4 ..))) ..

theorem opTimPairSelect_keeps {r} {a4} (ha4 : Keeps r a4) (a1 a2 a3) : Keeps1 r (opTimPairSelect a1 a2 a3 a4) := by
  unfold opTimPairSelect
  refine pred_ite (P := Keeps1 r) (refuse_keeps ha4 ..) ?_
  refine pred_ite (P := Keeps1 r) (refuse_keeps ha4 ..) ?_
  refine featGate_keeps ha4 ?_ ..
  refine timCmd_keeps ha4 ?_ ..
  split
  · exact refuse_keeps ha4 ..
  · extract_lets +onlyGivenNames _
    exact pred_ite (P := Keeps1 r) (refuse_keeps ha4 ..) (pred_ite (P := Keeps1 r) (Keeps1.mk ha4) (Keeps1.mk
        (State.pairSwitch_keeps ha4 ..)))

theorem opTimAt_keeps {r} {a4} (ha4 : Keeps r a4) (a1 a2 a3) : Keeps1 r (opTimAt a1 a2 a3 a4) := by
  unfold opTimAt
  refine timCmd_keeps ha4 ?_ ..
  split
  · exact refuse_keeps ha4 ..
  · refine pred_ite (P := Keeps1 r) (refuse_keeps ha4 ..) ?_
    extract_lets +onlyGivenNames _ _
    exact Keeps1.mk ha4

theorem execTimQuery_keeps {r} {a3} (ha3 : Keeps r a3) (a1 a2) : KeepsX r (execTimQuery a1 a2 a3) := by
  unfold execTimQuery
  exact KeepsX.mk (ohi_keeps ha3 (opTimQuery_keeps ha3 ..) ..)

theorem execTimSet_keeps {r} {a6} (ha6 : Keeps r a6) (a1 a2 a3 a4 a5) : KeepsX r (execTimSet a1 a2 a3 a4 a5 a6) := by
  unfold execTimSet
  exact KeepsX.mk (ohi_keeps ha6 (opTimSet_keeps ha6 ..) ..)

theorem execTimFeed_keeps {r} {a4} (ha4 : Keeps r a4) (a1 a2 a3) : KeepsX r (execTimFeed a1 a2 a3 a4) := by
  unfold execTimFeed
  exact KeepsX.mk (ohi_keeps ha4 (opTimFeed_keeps ha4 ..) ..)

theorem execTimPairSelect_keeps {r} {a4} (ha4 : Keeps r a4) (a1 a2 a3) : KeepsX r (execTimPairSelect a1 a2 a3 a4) := by
  unfold execTimPairSelect
  exact KeepsX.mk (ohi_keeps ha4 (opTimPairSelect_keeps ha4 ..) ..)

theorem execTimAt_keeps {r} {a4} (ha4 : Keeps r a4) (a1 a2 a3) : KeepsX r (execTimAt a1 a2 a3 a4) := by
  unfold execTimAt
  exact KeepsX.mk (ohi_keeps ha4 (opTimAt_keeps ha4 ..) ..)

theorem State.startTb_keeps {r} {a1} (ha1 : Keeps r a1) (a2 a3) : Keeps r (State.startTb a1 a2 a3) := by
  unfold State.startTb
  extract_lets +onlyGivenNames _ s2
  have h2 : Keeps r s2 := State.setTb_keeps ha1 ..
  extract_lets +onlyGivenNames s3
  have h3 : Keeps r s3 := State.setFld_keeps h2 ..
  exact State.setFld_keeps (State.setFlag_keeps h3 ..) ..

theorem State.sealTime_keeps {r} {a1} (ha1 : Keeps r a1) (a2) : Keeps r (State.sealTime a1 a2) := by
  unfold State.sealTime
  extract_lets +onlyGivenNames s1
  have h1 : Keeps r s1 := by
    unfold s1
    refine forAll_keeps (fun x2 _ h3 => ?_) ha1 ..
    extract_lets +onlyGivenNames _ _ s6
    have h6 : Keeps r s6 := State.setFld_keeps (State.setFld_keeps h3 ..) ..
    extract_lets +onlyGivenNames s7
    have h7 : Keeps r s7 := State.setFld_keeps (State.setFld_keeps (State.setFld_keeps h6 ..) ..) ..
    extract_lets +onlyGivenNames s8
    have h8 : Keeps r s8 := pred_ite (P := Keeps r) h7 (pred_ite (P := Keeps r) h7 (State.startTb_keeps h7 ..))
    exact State.setFld_keeps h8 ..
  extract_lets +onlyGivenNames _
  refine pred_foldl (P := Keeps r) _ (fun _ h10 x11 => ?_) _ h1
  refine pred_ite (P := Keeps r) h10 ?_
  extract_lets +onlyGivenNames s12
  have h12 : Keeps r s12 := State.setFlag_keeps h10 ..
  extract_lets +onlyGivenNames _ _
  exact State.showPhi_keeps (State.anchor_keeps h12 ..) ..

theorem State.setPd_keeps {r} {a1} (ha1 : Keeps r a1) (a2 a3) : Keeps r (State.setPd a1 a2 a3) := by
  unfold State.setPd
  extract_lets +onlyGivenNames _ s2
  have h2 : Keeps r s2 := Keeps.of ha1 rfl
  extract_lets +onlyGivenNames _
  split
  · extract_lets +onlyGivenNames s4
    have h4 : Keeps r s4 := State.setFlag_keeps h2 ..
    exact pred_ite (P := Keeps r) (State.setFld_keeps h4 ..) h4
  · extract_lets +onlyGivenNames s5
    have h5 : Keeps r s5 := State.setFlag_keeps h2 ..
    exact pred_ite (P := Keeps r) (State.setFld_keeps h5 ..) h5

theorem State.pdDrop_keeps {r} {a1} (ha1 : Keeps r a1) (a2) : Keeps r (State.pdDrop a1 a2) := by
  unfold State.pdDrop
  exact pred_ite (P := Keeps r) (State.setPd_keeps ha1 ..) ha1

theorem State.ptpDepart_keeps {r} {a1} (ha1 : Keeps r a1) (a2 a3) : Keeps2 r (State.ptpDepart a1 a2 a3) := by
  unfold State.ptpDepart
  extract_lets +onlyGivenNames _ _
  split
  · exact Keeps2.mk ha1
  · exact Keeps2.mk ha1
  · extract_lets +onlyGivenNames _ _ _ _ _
    exact Keeps2.mk (Keeps.of ha1 rfl)
  · split
    · exact Keeps2.mk ha1
    · exact Keeps2.mk (Keeps.of ha1 rfl)
  · exact Keeps2.mk ha1
  · exact Keeps2.mk (State.setPd_keeps ha1 ..)

theorem State.ptpQueue_keeps {r} {a1} (ha1 : Keeps r a1) (a2 a3) : Keeps r (State.ptpQueue a1 a2 a3) := by
  unfold State.ptpQueue
  refine pred_ite (P := Keeps r) ?_ (Keeps.of ha1 rfl)
  split
  · rename_i e1
    have h1 := Keeps2.out (r := r) e1 (State.drawFree_keeps ha1 ..)
    exact Keeps.of h1 rfl

theorem State.ptpForward_keeps {r} {a1} (ha1 : Keeps r a1) (a2 a3 a4 a5 a6) :
    Keeps2 r (State.ptpForward a1 a2 a3 a4 a5 a6) := by
  unfold State.ptpForward
  refine pred_ite (P := Keeps2 r) (Keeps2.mk ha1) ?_
  extract_lets +onlyGivenNames _
  refine pred_ite (P := Keeps2 r) (Keeps2.mk (State.bump_keeps ha1 ..)) ?_
  extract_lets +onlyGivenNames _ _ s4
  have h4 : Keeps r s4 := Keeps.of ha1 rfl
  exact Keeps2.mk (pred_foldl (P := Keeps r) _ (fun _ h5 x6 => State.ptpQueue_keeps h5 ..) _ h4)

theorem State.syncTb_keeps {r} {a1} (ha1 : Keeps r a1) (a2 a3 a4 a5) : Keeps r (State.syncTb a1 a2 a3 a4 a5) := by
  unfold State.syncTb
  extract_lets +onlyGivenNames _
  split
  · exact ha1
  · refine pred_ite (P := Keeps r) ha1 ?_
    extract_lets +onlyGivenNames _ _
    exact pred_ite (P := Keeps r) (State.setTb_keeps ha1 ..) (State.tbOffset_keeps (State.setTb_keeps ha1 ..) ..)

theorem State.followTb_keeps {r} {a1} (ha1 : Keeps r a1) (a2 a3) : Keeps r (State.followTb a1 a2 a3) := by
  unfold State.followTb
  extract_lets +onlyGivenNames _
  split
  · exact ha1
  · exact State.tbOffset_keeps (State.setTb_keeps ha1 ..) ..

theorem State.announceTb_keeps {r} {a1} (ha1 : Keeps r a1) (a2 a3 a4) : Keeps r (State.announceTb a1 a2 a3 a4) := by
  unfold State.announceTb
  refine pred_ite (P := Keeps r) ha1 ?_
  extract_lets +onlyGivenNames _ _ _ _ s5
  have h5 : Keeps r s5 := State.setTb_keeps ha1 ..
  extract_lets +onlyGivenNames s6
  have h6 : Keeps r s6 := by
    unfold s6
    split
    · exact State.setFld_keeps h5 ..
    · exact h5
  exact State.showQualified_keeps h6 ..

theorem State.pdDone_keeps {r} {a1} (ha1 : Keeps r a1) (a2 a3 a4 a5) : Keeps r (State.pdDone a1 a2 a3 a4 a5) := by
  unfold State.pdDone
  extract_lets +onlyGivenNames _
  split
  · exact ha1
  · extract_lets +onlyGivenNames _ _
    exact State.setPd_keeps ha1 ..

theorem State.ptpMessage_keeps {r} {a1} (ha1 : Keeps r a1) (a2 a3 a4 a5) : Keeps r (State.ptpMessage a1 a2 a3 a4 a5) := by
  unfold State.ptpMessage
  extract_lets +onlyGivenNames _
  refine pred_ite (P := Keeps r) (State.bump_keeps ha1 ..) ?_
  refine pred_ite (P := Keeps r) (State.bump_keeps ha1 ..) ?_
  split
  · split
    · exact State.bump_keeps ha1 ..
    · split
      · rename_i e2
        have h2 := Keeps2.out (r := r) e2 (State.ptpForward_keeps ha1 ..)
        exact pred_ite (P := Keeps r) (pred_foldl (P := Keeps r) _ (fun _ h3 x4 => State.syncTb_keeps h3 ..) _ h2) h2
  · split
    · rename_i e5
      have h5 := Keeps2.out (r := r) e5 (State.ptpForward_keeps ha1 ..)
      exact pred_ite (P := Keeps r) (pred_foldl (P := Keeps r) _ (fun _ h6 x7 => State.followTb_keeps h6 ..) _ h5) h5
  · split
    · rename_i e8
      have h8 := Keeps2.out (r := r) e8 (State.ptpForward_keeps ha1 ..)
      extract_lets +onlyGivenNames _ s10
      have h10 : Keeps r s10 := Keeps.of h8 rfl
      exact pred_ite (P := Keeps r) (pred_foldl (P := Keeps r) _ (fun _ h11 x12 => State.announceTb_keeps h11 ..) _ h10) h10
  · exact Keeps2.proj (State.ptpForward_keeps ha1 ..)
  · exact Keeps2.proj (State.ptpForward_keeps ha1 ..)
  · refine pred_ite (P := Keeps r) ?_ ha1
    extract_lets +onlyGivenNames _
    exact State.ptpQueue_keeps ha1 ..
  · exact pred_ite (P := Keeps r) (pred_ite (P := Keeps r) (State.setPd_keeps ha1 ..) (State.pdDone_keeps ha1 ..)) ha1
  · refine pred_ite (P := Keeps r) ?_ ha1
    split
    · exact State.pdDone_keeps ha1 ..
    · exact ha1
  · exact State.bump_keeps ha1 ..

theorem State.ptpOf_keeps {r} {a1} (ha1 : Keeps r a1) (a2 a3 a4 a5 a6) : Keeps r (State.ptpOf a1 a2 a3 a4 a5 a6) := by
  unfold State.ptpOf
  exact pred_ite (P := Keeps r) (State.ptpMessage_keeps ha1 ..) ha1

theorem execSync_keeps {r} {a5} (ha5 : Keeps r a5) (a1 a2 a3 a4) : KeepsX r (execSync a1 a2 a3 a4 a5) := by
  unfold execSync
  exact KeepsX.mk (State.ptpOf_keeps ha5 ..)

theorem execFollowUp_keeps {r} {a5} (ha5 : Keeps r a5) (a1 a2 a3 a4) : KeepsX r (execFollowUp a1 a2 a3 a4 a5) := by
  unfold execFollowUp
  exact KeepsX.mk (State.ptpOf_keeps ha5 ..)

theorem execPdelayReq_keeps {r} {a5} (ha5 : Keeps r a5) (a1 a2 a3 a4) : KeepsX r (execPdelayReq a1 a2 a3 a4 a5) := by
  unfold execPdelayReq
  exact KeepsX.mk (State.ptpOf_keeps ha5 ..)

theorem execPdelayResp_keeps {r} {a5} (ha5 : Keeps r a5) (a1 a2 a3 a4) : KeepsX r (execPdelayResp a1 a2 a3 a4 a5) := by
  unfold execPdelayResp
  exact KeepsX.mk (State.ptpOf_keeps ha5 ..)

theorem execPdelayRespFollowUp_keeps {r} {a5} (ha5 : Keeps r a5) (a1 a2 a3 a4) :
    KeepsX r (execPdelayRespFollowUp a1 a2 a3 a4 a5) := by
  unfold execPdelayRespFollowUp
  exact KeepsX.mk (State.ptpOf_keeps ha5 ..)

theorem execAnnounce_keeps {r} {a5} (ha5 : Keeps r a5) (a1 a2 a3 a4) : KeepsX r (execAnnounce a1 a2 a3 a4 a5) := by
  unfold execAnnounce
  exact KeepsX.mk (State.ptpOf_keeps ha5 ..)

theorem execSignaling_keeps {r} {a5} (ha5 : Keeps r a5) (a1 a2 a3 a4) : KeepsX r (execSignaling a1 a2 a3 a4 a5) := by
  unfold execSignaling
  exact KeepsX.mk (State.ptpOf_keeps ha5 ..)

theorem execManagement_keeps {r} {a5} (ha5 : Keeps r a5) (a1 a2 a3 a4) : KeepsX r (execManagement a1 a2 a3 a4 a5) := by
  unfold execManagement
  exact KeepsX.mk (State.ptpOf_keeps ha5 ..)

theorem execPdelayInterval_keeps {r} {a2} (ha2 : Keeps r a2) (a1) : KeepsX r (execPdelayInterval a1 a2) := by
  unfold execPdelayInterval
  refine KeepsX.mk ?_
  refine pred_ite (P := Keeps r) ha2 ?_
  extract_lets +onlyGivenNames _ s2
  have h2 : Keeps r s2 := by
    unfold s2
    split
    · exact State.reach_keeps ha2 ..
    · exact ha2
  extract_lets +onlyGivenNames _ _ s5
  have h5 : Keeps r s5 := State.setPd_keeps h2 ..
  exact State.ptpQueue_keeps h5 ..

theorem execHeldCorrectionExpiry_keeps {r} {a1} (ha1 : Keeps r a1) : KeepsX r (execHeldCorrectionExpiry a1) := by
  unfold execHeldCorrectionExpiry
  refine KeepsX.mk ?_
  split
  · exact ha1
  · extract_lets +onlyGivenNames s1
    have h1 : Keeps r s1 := State.reach_keeps ha1 ..
    exact Keeps.of h1 rfl

theorem State.sendEth_keeps {r} {a1} (ha1 : Keeps r a1) (a2 a3) : Keeps r (State.sendEth a1 a2 a3) := by
  unfold State.sendEth
  exact Keeps.of ha1 rfl

theorem State.ptpLaunch_keeps {r} {a1} (ha1 : Keeps r a1) (a2 a3) : Keeps r (State.ptpLaunch a1 a2 a3) := by
  unfold State.ptpLaunch
  extract_lets +onlyGivenNames _ s2
  have h2 : Keeps r s2 := Keeps.of ha1 rfl
  split
  · rename_i e3
    have h3 := Keeps2.out (r := r) e3 (State.ptpDepart_keeps h2 ..)
    exact State.sendEth_keeps h3 ..

theorem execLaunchTimeFrame_keeps {r} {a3} (ha3 : Keeps r a3) (a1 a2) : KeepsX r (execLaunchTimeFrame a1 a2 a3) := by
  unfold execLaunchTimeFrame
  refine KeepsX.mk ?_
  extract_lets +onlyGivenNames s1
  have h1 : Keeps r s1 := Keeps.of ha3 rfl
  split
  · exact h1
  · extract_lets +onlyGivenNames _
    refine pred_ite (P := Keeps r) ?_ (State.ptpLaunch_keeps (State.reach_keeps h1 ..) ..)
    extract_lets +onlyGivenNames s3
    have h3 : Keeps r s3 := State.bump_keeps h1 ..
    exact Keeps.of h3 rfl

theorem State.setCredit_keeps {r} {a1} (ha1 : Keeps r a1) (a2 a3 a4) : Keeps r (State.setCredit a1 a2 a3 a4) := by
  unfold State.setCredit
  exact Keeps.of ha1 rfl

theorem State.returnCredit_keeps {r} {a1} (ha1 : Keeps r a1) (a2 a3) : Keeps r (State.returnCredit a1 a2 a3) := by
  unfold State.returnCredit
  extract_lets +onlyGivenNames s1
  have h1 : Keeps r s1 := State.setCredit_keeps ha1 ..
  extract_lets +onlyGivenNames _ s3
  have h3 : Keeps r s3 := State.setFld_keeps h1 ..
  exact Keeps.of h3 rfl

theorem State.queueMsg_keeps {r} {a1} (ha1 : Keeps r a1) (a2) : Keeps r (State.queueMsg a1 a2) := by
  unfold State.queueMsg
  refine pred_ite (P := Keeps r) (pred_ite (P := Keeps r) (State.bump_keeps ha1 ..) (Keeps.of ha1 rfl)) ?_
  extract_lets +onlyGivenNames s1
  have h1 : Keeps r s1 := State.setCredit_keeps ha1 ..
  exact Keeps.of h1 rfl

theorem State.hoLaunch_keeps {r} {a1} (ha1 : Keeps r a1) (a2) : Keeps2 r (State.hoLaunch a1 a2) := by
  unfold State.hoLaunch
  refine pred_ite (P := Keeps2 r) (Keeps2.mk ha1) ?_
  extract_lets +onlyGivenNames _
  exact pred_ite (P := Keeps2 r) (Keeps2.mk (State.bump_keeps ha1 ..)) (pred_ite (P := Keeps2 r) (Keeps2.mk (State.bump_keeps
      ha1 ..)) (Keeps2.mk ha1))

theorem State.handoverIn_keeps {r} {a1} (ha1 : Keeps r a1) (a2 a3 a4) : Keeps r (State.handoverIn a1 a2 a3 a4) := by
  unfold State.handoverIn
  extract_lets +onlyGivenNames _
  refine pred_ite (P := Keeps r) (State.bump_keeps ha1 ..) ?_
  refine pred_ite (P := Keeps r) (State.bump_keeps ha1 ..) ?_
  refine pred_ite (P := Keeps r) (State.bump_keeps ha1 ..) ?_
  refine pred_ite (P := Keeps r) (State.bump_keeps ha1 ..) ?_
  split
  · rename_i e2
    have h2 := Keeps2.out (r := r) e2 (State.hoLaunch_keeps ha1 ..)
    exact h2
  · rename_i e3
    have h3 := Keeps2.out (r := r) e3 (State.hoLaunch_keeps ha1 ..)
    exact State.queueMsg_keeps h3 ..

theorem execSend_keeps {r} {a4} (ha4 : Keeps r a4) (a1 a2 a3) : KeepsX r (execSend a1 a2 a3 a4) := by
  unfold execSend
  exact KeepsX.mk (pred_ite (P := Keeps r) (State.handoverIn_keeps ha4 ..) ha4)

theorem execFlood_keeps {r} {a4} (ha4 : Keeps r a4) (a1 a2 a3) : KeepsX r (execFlood a1 a2 a3 a4) := by
  unfold execFlood
  exact KeepsX.mk (pred_ite (P := Keeps r) (State.handoverIn_keeps ha4 ..) ha4)

theorem State.enterSeen_keeps {r} {a1} (ha1 : Keeps r a1) (a2 a3 a4) : Keeps r (State.enterSeen a1 a2 a3 a4) := by
  unfold State.enterSeen
  extract_lets +onlyGivenNames _ _
  refine pred_ite (P := Keeps r) (State.setFld_keeps (Keeps.of ha1 rfl) ..) ?_
  extract_lets +onlyGivenNames _ s4
  have h4 : Keeps r s4 := by unfold s4; exact State.bump_keeps (Keeps.of ha1 rfl) ..
  exact pred_ite (P := Keeps r) h4 (State.log_keeps (Keeps.of h4 rfl) ..)

theorem State.addCopy_keeps {r} {a1} (ha1 : Keeps r a1) (a2 a3 a4 a5 a6 a7 a8 a9) :
    Keeps r (State.addCopy a1 a2 a3 a4 a5 a6 a7 a8 a9) := by
  unfold State.addCopy
  split
  · exact State.bump_keeps ha1 ..
  · rename_i e1
    have h1 := KeepsO2.out (r := r) e1 (State.takeDesc_keeps ha1 ..)
    extract_lets +onlyGivenNames _ _
    exact Keeps.of h1 rfl

theorem State.originateOn_keeps {r} {a1} (ha1 : Keeps r a1) (a2 a3 a4 a5) : Keeps r (State.originateOn a1 a2 a3 a4 a5) := by
  unfold State.originateOn
  extract_lets +onlyGivenNames _ s2
  have h2 : Keeps r s2 := State.enterSeen_keeps ha1 ..
  split
  · rename_i e3
    have h3 := Keeps2.out (r := r) e3 (State.drawFree_keeps h2 ..)
    extract_lets +onlyGivenNames _
    refine pred_ite (P := Keeps r) ?_ (State.addCopy_keeps h3 ..)
    split
    · exact State.bump_keeps h3 ..
    · rename_i e5
      have h5 := KeepsO2.out (r := r) e5 (State.sealField_keeps h3 ..)
      exact State.addCopy_keeps h5 ..

theorem State.originate_keeps {r} {a1} (ha1 : Keeps r a1) (a2) : Keeps r (State.originate a1 a2) := by
  unfold State.originate
  extract_lets +onlyGivenNames _ _ s3
  have h3 : Keeps r s3 := Keeps.of ha1 rfl
  extract_lets +onlyGivenNames _
  exact pred_foldl (P := Keeps r) _ (fun _ h5 x6 => State.originateOn_keeps h5 ..) _ h3

theorem State.dequeue_keeps {r} {a1} (ha1 : Keeps r a1) (a2) : Keeps r (State.dequeue a1 a2) := by
  unfold State.dequeue
  extract_lets +onlyGivenNames _ s2
  have h2 : Keeps r s2 := Keeps.of ha1 rfl
  exact pred_ite (P := Keeps r) h2 (State.returnCredit_keeps h2 ..)

theorem State.takeMsg_keeps {r} {a1} (ha1 : Keeps r a1) (a2) : KeepsO r (State.takeMsg a1 a2) := by
  unfold State.takeMsg
  exact pred_ite (P := KeepsO r) (KeepsO.mk (State.originate_keeps (State.dequeue_keeps ha1 ..) ..)) (pred_ite (P := KeepsO r)
      (KeepsO.mk (State.bump_keeps (State.dequeue_keeps ha1 ..) ..)) (KeepsO.map_KeepsO (fun _ h1 => State.dequeue_keeps h1 ..)
      (State.handoverWake_keeps ha1 ..)))

theorem State.takeFirst_keeps {r a1} (ha1 : Keeps r a1) (a2) : Keeps r (State.takeFirst a1 a2) := by
  induction a2 with
  | nil => exact ha1
  | cons m ms ih =>
    unfold State.takeFirst
    exact KeepsO.getD (State.takeMsg_keeps ha1 ..) ih

theorem execQAgeDrop_keeps {r} {a3} (ha3 : Keeps r a3) (a1 a2) : KeepsX r (execQAgeDrop a1 a2 a3) := by
  unfold execQAgeDrop
  refine KeepsX.mk ?_
  extract_lets +onlyGivenNames _
  split
  · exact ha3
  · exact State.bump_keeps (State.dequeue_keeps (State.reach_keeps ha3 ..) ..) ..

theorem State.egressFrame_keeps {r} {a1} (ha1 : Keeps r a1) (a2) : Keeps r (State.egressFrame a1 a2) := by
  unfold State.egressFrame
  refine pred_ite (P := Keeps r) ?_ (Keeps.of ha1 rfl)
  extract_lets +onlyGivenNames _ _ _
  exact Keeps.of ha1 rfl

theorem State.toHost_keeps {r} {a1} (ha1 : Keeps r a1) (a2 a3 a4 a5 a6 a7 a8 a9) :
    Keeps r (State.toHost a1 a2 a3 a4 a5 a6 a7 a8 a9) := by
  unfold State.toHost
  split
  · exact ha1
  · extract_lets +onlyGivenNames _
    exact State.egressFrame_keeps ha1 ..

theorem State.publish_keeps {r} {a1} (ha1 : Keeps r a1) (a2 a3) : Keeps r (State.publish a1 a2 a3) := by
  unfold State.publish
  extract_lets +onlyGivenNames _ s2
  have h2 : ∀ t1, ∀ t2, Keeps r t2 → Keeps r (s2 t1 t2) := by
    intro x3 _ h4
    unfold s2
    exact State.egressFrame_keeps h4 ..
  clear_value s2
  refine pred_ite (P := Keeps r) (h2 _ _ ha1) ?_
  extract_lets +onlyGivenNames s5
  have h5 : Keeps r s5 := pred_ite (P := Keeps r) (h2 _ _ ha1) ha1
  exact pred_ite (P := Keeps r) (h2 _ _ h5) h5

theorem State.sendCredit_keeps {r} {a1} (ha1 : Keeps r a1) (a2) : Keeps r (State.sendCredit a1 a2) := by
  unfold State.sendCredit
  split
  · exact ha1
  · refine pred_ite (P := Keeps r) ha1 ?_
    split
    · rename_i e1
      have h1 := Keeps2.out (r := r) e1 (State.drawFree_keeps ha1 ..)
      extract_lets +onlyGivenNames _ _
      exact State.egressFrame_keeps h1 ..

theorem State.creditReport_keeps {r} {a1} (ha1 : Keeps r a1) : Keeps r (State.creditReport a1) := by
  unfold State.creditReport
  extract_lets +onlyGivenNames _
  exact pred_foldl (P := Keeps r) _ (fun _ h2 x3 => State.sendCredit_keeps h2 ..) _ (Keeps.of ha1 rfl)

theorem State.freshQueues_keeps {r} {a1} (ha1 : Keeps r a1) (a2) : Keeps r (State.freshQueues a1 a2) := by
  unfold State.freshQueues
  extract_lets +onlyGivenNames _ s2
  have h2 : Keeps r s2 := Keeps.of ha1 rfl
  extract_lets +onlyGivenNames _ s4
  have h4 : Keeps r s4 := pred_foldl (P := Keeps r) _ (fun _ h5 x6 => State.setCredit_keeps h5 ..) _ h2
  exact pred_foldl (P := Keeps r) _ (fun _ h7 x8 => State.setFld_keeps (State.setFld_keeps h7 ..) ..) _ h4

theorem State.gooseIn_keeps {r} {a1} (ha1 : Keeps r a1) (a2 a3) : Keeps r (State.gooseIn a1 a2 a3) := by
  unfold State.gooseIn
  extract_lets +onlyGivenNames s1
  have h1 : Keeps r s1 := State.bumpWrap_keeps ha1 ..
  extract_lets +onlyGivenNames _
  split
  · exact State.bump_keeps h1 ..
  · exact pred_ite (P := Keeps r) (State.bump_keeps h1 ..) (State.queueMsg_keeps h1 ..)

theorem State.arpReply_keeps {r} {a1} (ha1 : Keeps r a1) (a2 a3) : Keeps r (State.arpReply a1 a2 a3) := by
  unfold State.arpReply
  extract_lets +onlyGivenNames _
  refine pred_ite (P := Keeps r) ?_ ha1
  extract_lets +onlyGivenNames _
  exact State.egressFrame_keeps ha1 ..

theorem State.ohiReply_keeps {r} {a1} (ha1 : Keeps r a1) (a2 a3) : Keeps r (State.ohiReply a1 a2 a3) := by
  unfold State.ohiReply
  split
  · rename_i e1
    have h1 := Keeps2.out (r := r) e1 (State.drawFree_keeps ha1 ..)
    extract_lets +onlyGivenNames _ _ _ _ _
    exact State.egressFrame_keeps h1 ..

theorem State.sendOhi_keeps {r} {a1} (ha1 : Keeps r a1) : Keeps r (State.sendOhi a1) := by
  unfold State.sendOhi
  extract_lets +onlyGivenNames _ _ s3
  have h3 : Keeps r s3 := Keeps.of ha1 rfl
  refine pred_foldl (P := Keeps r) _ (fun _ h4 x5 => ?_) _ h3
  split
  · exact State.ohiReply_keeps h4 ..
  · exact h4

theorem execArpRequest_keeps {r} {a4} (ha4 : Keeps r a4) (a1 a2 a3) : KeepsX r (execArpRequest a1 a2 a3 a4) := by
  unfold execArpRequest
  refine KeepsX.mk ?_
  split
  · exact pred_ite (P := Keeps r) (State.arpReply_keeps ha4 ..) ha4
  · exact ha4

theorem execPrpSupervisionRx_keeps {r} {a3} (ha3 : Keeps r a3) (a1 a2) : KeepsX r (execPrpSupervisionRx a1 a2 a3) := by
  unfold execPrpSupervisionRx
  extract_lets +onlyGivenNames _
  exact KeepsX.mk ha3

theorem execPrpSupervisionSend_keeps {r} {a1} (ha1 : Keeps r a1) : KeepsX r (execPrpSupervisionSend a1) := by
  unfold execPrpSupervisionSend
  refine KeepsX.mk ?_
  refine pred_ite (P := Keeps r) ?_ ha1
  extract_lets +onlyGivenNames s1
  have h1 : Keeps r s1 := State.reach_keeps ha1 ..
  extract_lets +onlyGivenNames s2
  have h2 : Keeps r s2 := State.egressFrame_keeps h1 ..
  exact Keeps.of h2 rfl

theorem State.prpIn_keeps {r} {a1} (ha1 : Keeps r a1) (a2 a3) : Keeps2 r (State.prpIn a1 a2 a3) := by
  unfold State.prpIn
  refine pred_ite (P := Keeps2 r) (Keeps2.mk ha1) ?_
  split
  · exact Keeps2.mk ha1
  · extract_lets +onlyGivenNames _ _ s3
    have h3 : Keeps r s3 := pred_ite (P := Keeps r) ha1 (State.bump_keeps ha1 ..)
    refine pred_ite (P := Keeps2 r) (Keeps2.mk (State.bump_keeps h3 ..)) ?_
    extract_lets +onlyGivenNames _ _
    exact Keeps2.mk (Keeps.of h3 rfl)

theorem execHostLinkChange_keeps {r} {a3} (ha3 : Keeps r a3) (a1 a2) : KeepsX r (execHostLinkChange a1 a2 a3) := by
  unfold execHostLinkChange
  refine KeepsX.mk ?_
  refine pred_ite (P := Keeps r) ha3 ?_
  extract_lets +onlyGivenNames _
  exact State.setFlag_keeps (State.setFlag_keeps (State.setFlag_keeps ha3 ..) ..) ..

theorem State.sendEgress_keeps {r} {a1} (ha1 : Keeps r a1) (a2 a3) : Keeps r (State.sendEgress a1 a2 a3) := by
  unfold State.sendEgress
  extract_lets +onlyGivenNames _ _
  exact State.sendEth_keeps (Keeps.of ha1 rfl) ..

theorem opPnlQuery_keeps {r} {a3} (ha3 : Keeps r a3) (a1 a2) : Keeps1 r (opPnlQuery a1 a2 a3) := by
  unfold opPnlQuery
  exact pred_ite (P := Keeps1 r) (refuse_keeps ha3 ..) (Keeps1.mk ha3)

theorem execPnlQuery_keeps {r} {a3} (ha3 : Keeps r a3) (a1 a2) : KeepsX r (execPnlQuery a1 a2 a3) := by
  unfold execPnlQuery
  exact KeepsX.mk (ohi_keeps ha3 (opPnlQuery_keeps ha3 ..) ..)

theorem State.setLane_keeps {r} {a1} (ha1 : Keeps r a1) (a2 a3) : Keeps r (State.setLane a1 a2 a3) := by
  unfold State.setLane
  exact Keeps.of ha1 rfl

theorem State.updLane_keeps {r} {a1} (ha1 : Keeps r a1) (a2 a3) : Keeps r (State.updLane a1 a2 a3) := by
  unfold State.updLane
  exact State.setLane_keeps ha1 ..

theorem State.sendCtl_keeps {r} {a1} (ha1 : Keeps r a1) (a2 a3 a4 a5 a6) : Keeps r (State.sendCtl a1 a2 a3 a4 a5 a6) := by
  unfold State.sendCtl
  exact State.updLane_keeps ha1 ..

theorem State.completeCmd_keeps {r} {a1} (ha1 : Keeps r a1) (a2 a3 a4) : Keeps r (State.completeCmd a1 a2 a3 a4) := by
  unfold State.completeCmd
  split
  · exact ha1
  · extract_lets +onlyGivenNames _ s2
    have h2 : Keeps r s2 := Keeps.of ha1 rfl
    exact State.answerOn_keeps h2 ..

theorem State.dropCtl_keeps {r} {a1} (ha1 : Keeps r a1) (a2) : Keeps r (State.dropCtl a1 a2) := by
  unfold State.dropCtl
  extract_lets +onlyGivenNames _ s2
  have h2 : Keeps r s2 := State.setLane_keeps ha1 ..
  refine pred_foldl (P := Keeps r) _ (fun _ h3 x4 => ?_) _ h2
  split
  · exact State.completeCmd_keeps h3 ..
  · exact h3

theorem hlkCmd_keeps {r} {a1 a4} (ha1 : Keeps r a1) (ha4 : Keeps1 r a4) (a2 a3) : Keeps1 r (hlkCmd a1 a2 a3 a4) := by
  unfold hlkCmd
  exact pred_ite (P := Keeps1 r) (refuse_keeps ha1 ..) (pred_ite (P := Keeps1 r) (refuse_keeps ha1 ..) ha4)

theorem opHlkQuery_keeps {r} {a3} (ha3 : Keeps r a3) (a1 a2) : Keeps1 r (opHlkQuery a1 a2 a3) := by
  unfold opHlkQuery
  exact hlkCmd_keeps ha3 (Keeps1.mk ha3) ..

theorem opHlkHeadRead_keeps {r} {a4} (ha4 : Keeps r a4) (a1 a2 a3) : Keeps1 r (opHlkHeadRead a1 a2 a3 a4) := by
  unfold opHlkHeadRead
  exact hlkCmd_keeps ha4 (pred_ite (P := Keeps1 r) (Keeps1.mk (State.sendCtl_keeps ha4 ..)) (refuse_keeps ha4 ..)) ..

theorem opHlkHeadWrite_keeps {r} {a5} (ha5 : Keeps r a5) (a1 a2 a3 a4) : Keeps1 r (opHlkHeadWrite a1 a2 a3 a4 a5) := by
  unfold opHlkHeadWrite
  exact hlkCmd_keeps ha5 (pred_ite (P := Keeps1 r) (refuse_keeps ha5 ..) (pred_ite (P := Keeps1 r) (Keeps1.mk
      (State.sendCtl_keeps ha5 ..)) (refuse_keeps ha5 ..))) ..

theorem execHlkQuery_keeps {r} {a3} (ha3 : Keeps r a3) (a1 a2) : KeepsX r (execHlkQuery a1 a2 a3) := by
  unfold execHlkQuery
  exact KeepsX.mk (ohi_keeps ha3 (opHlkQuery_keeps ha3 ..) ..)

theorem execHlkHeadRead_keeps {r} {a4} (ha4 : Keeps r a4) (a1 a2 a3) : KeepsX r (execHlkHeadRead a1 a2 a3 a4) := by
  unfold execHlkHeadRead
  exact KeepsX.mk (ohi_keeps ha4 (opHlkHeadRead_keeps ha4 ..) ..)

theorem execHlkHeadWrite_keeps {r} {a5} (ha5 : Keeps r a5) (a1 a2 a3 a4) : KeepsX r (execHlkHeadWrite a1 a2 a3 a4 a5) := by
  unfold execHlkHeadWrite
  exact KeepsX.mk (ohi_keeps ha5 (opHlkHeadWrite_keeps ha5 ..) ..)

theorem State.setSource_keeps {r} {a1} (ha1 : Keeps r a1) (a2 a3) : Keeps r (State.setSource a1 a2 a3) := by
  unfold State.setSource
  exact pred_ite (P := Keeps r) (State.setFlag_keeps (Keeps.of ha1 rfl) ..) (State.setFlag_keeps (Keeps.of ha1 rfl) ..)

theorem State.srcLost_keeps {r} {a1} (ha1 : Keeps r a1) (a2) : Keeps r (State.srcLost a1 a2) := by
  unfold State.srcLost
  exact pred_ite (P := Keeps r) (State.bump_keeps ha1 ..) ha1

theorem State.setPf_keeps {r} {a1} (ha1 : Keeps r a1) (a2) : Keeps r (State.setPf a1 a2) := by
  unfold State.setPf
  exact State.setFld_keeps (Keeps.of ha1 rfl) ..

theorem State.crossing_keeps {r} {a1} (ha1 : Keeps r a1) (a2 a3) : Keeps r (State.crossing a1 a2 a3) := by
  unfold State.crossing
  extract_lets +onlyGivenNames _
  refine pred_ite (P := Keeps r) ha1 ?_
  extract_lets +onlyGivenNames _ _ s4
  have h4 : Keeps r s4 := by unfold s4; exact pred_ite (P := Keeps r) (Keeps.of ha1 rfl) (Keeps.of ha1 rfl)
  split
  · exact State.setSource_keeps h4 ..
  · extract_lets +onlyGivenNames _
    refine pred_ite (P := Keeps r) ?_ (State.setSource_keeps (State.srcLost_keeps h4 ..) ..)
    extract_lets +onlyGivenNames s6
    have h6 : Keeps r s6 := State.setSource_keeps h4 ..
    exact pred_ite (P := Keeps r) (State.setPf_keeps h6 ..) h6

theorem State.dropTheta_keeps {r} {a1} (ha1 : Keeps r a1) (a2) : Keeps r (State.dropTheta a1 a2) := by
  unfold State.dropTheta
  exact State.setFlag_keeps (State.setFld_keeps ha1 ..) ..

theorem State.feederCross_keeps {r} {a1} (ha1 : Keeps r a1) (a2 a3) : Keeps r (State.feederCross a1 a2 a3) := by
  unfold State.feederCross
  extract_lets +onlyGivenNames _ _ _ s4
  have h4 : Keeps r s4 := State.setChan_keeps ha1 ..
  refine pred_ite (P := Keeps r) (pred_ite (P := Keeps r) h4 (State.dropTheta_keeps h4 ..)) ?_
  extract_lets +onlyGivenNames _ _ _
  exact State.setFlag_keeps (State.setFld_keeps h4 ..) ..

theorem State.feederCheck_keeps {r} {a1} (ha1 : Keeps r a1) (a2) : Keeps r (State.feederCheck a1 a2) := by
  unfold State.feederCheck
  extract_lets +onlyGivenNames _
  exact pred_ite (P := Keeps r) (State.dropTheta_keeps (State.setChan_keeps ha1 ..) ..) ha1

theorem execMainsCrossing_keeps {r} {a3} (ha3 : Keeps r a3) (a1 a2) : KeepsX r (execMainsCrossing a1 a2 a3) := by
  unfold execMainsCrossing
  refine KeepsX.mk ?_
  extract_lets +onlyGivenNames s1
  have h1 : Keeps r s1 := Keeps.of ha3 rfl
  exact pred_ite (P := Keeps r) (State.crossing_keeps h1 ..) (pred_ite (P := Keeps r) h1 (State.crossing_keeps h1 ..))

theorem execSourceTimeout_keeps {r} {a2} (ha2 : Keeps r a2) (a1) : KeepsX r (execSourceTimeout a1 a2) := by
  unfold execSourceTimeout
  refine KeepsX.mk ?_
  split
  · exact ha2
  · exact State.setSource_keeps (State.srcLost_keeps (State.reach_keeps ha2 ..) ..) ..

theorem State.setGauge_keeps {r} {a1} (ha1 : Keeps r a1) (a2 a3) : Keeps r (State.setGauge a1 a2 a3) := by
  unfold State.setGauge
  exact Keeps.of ha1 rfl

theorem State.updGauge_keeps {r} {a1} (ha1 : Keeps r a1) (a2 a3) : Keeps r (State.updGauge a1 a2 a3) := by
  unfold State.updGauge
  exact State.setGauge_keeps ha1 ..

theorem State.fit32_keeps {r} {a1} (ha1 : Keeps r a1) (a2) : Keeps2 r (State.fit32 a1 a2) := by
  unfold State.fit32
  refine pred_ite (P := Keeps2 r) (Keeps2.mk ha1) ?_
  split
  · rename_i e1
    have h1 := Keeps2.out (r := r) e1 (State.drawFree_keeps ha1 ..)
    exact Keeps2.mk h1

theorem State.applySwitches_keeps {r} {a1} (ha1 : Keeps r a1) (a2 a3) : Keeps r (State.applySwitches a1 a2 a3) := by
  unfold State.applySwitches
  extract_lets +onlyGivenNames _
  refine pred_ite (P := Keeps r) ?_ ha1
  extract_lets +onlyGivenNames _ _ _
  exact State.setFlag_keeps (State.setGauge_keeps ha1 ..) ..

theorem State.chainIn_keeps {r} {a1} (ha1 : Keeps r a1) (a2 a3 a4 a5) : Keeps r (State.chainIn a1 a2 a3 a4 a5) := by
  unfold State.chainIn
  extract_lets +onlyGivenNames s1
  have h1 : Keeps r s1 := pred_ite (P := Keeps r) (State.applySwitches_keeps ha1 ..) ha1
  extract_lets +onlyGivenNames _ _
  refine pred_ite (P := Keeps r) (State.setGauge_keeps h1 ..) ?_
  split
  · exact State.setGauge_keeps h1 ..

theorem State.rcStage_keeps {r} {a1} (ha1 : Keeps r a1) (a2 a3 a4 a5) : Keeps r (State.rcStage a1 a2 a3 a4 a5) := by
  unfold State.rcStage
  extract_lets +onlyGivenNames _ _
  refine pred_ite (P := Keeps r) ?_ ?_
  · extract_lets +onlyGivenNames _
    refine pred_ite (P := Keeps r) (State.setGauge_keeps ha1 ..) ?_
    extract_lets +onlyGivenNames _ _ _ s7
    have h7 : Keeps r s7 := State.setGauge_keeps ha1 ..
    exact State.chainIn_keeps h7 ..
  · extract_lets +onlyGivenNames s8
    have h8 : Keeps r s8 := State.setGauge_keeps ha1 ..
    extract_lets +onlyGivenNames s9
    have h9 : Keeps r s9 := pred_foldl (P := Keeps r) _ (fun _ h10 x11 => State.chainIn_keeps h10 ..) _ h8
    exact State.chainIn_keeps h9 ..

theorem State.takeInput_keeps {r} {a1} (ha1 : Keeps r a1) (a2 a3 a4 a5) : Keeps r (State.takeInput a1 a2 a3 a4 a5) := by
  unfold State.takeInput
  extract_lets +onlyGivenNames _ _ _ s4
  have h4 : Keeps r s4 := State.setGauge_keeps ha1 ..
  exact State.rcStage_keeps h4 ..

theorem State.drainInputs_keeps {r a4} (ha4 : Keeps r a4) (a1 a2 a3) : Keeps r (State.drainInputs a1 a2 a3 a4) := by
  induction a1 generalizing a4 with
  | zero => exact ha4
  | succ n ih =>
    unfold State.drainInputs
    extract_lets _
    split
    · exact ha4
    · split
      · exact ha4
      · exact ih (State.takeInput_keeps (State.setGauge_keeps ha4 ..) ..)

theorem State.gaugeWord_keeps {r} {a1} (ha1 : Keeps r a1) (a2 a3 a4 a5 a6 a7 a8 a9) :
    Keeps r (State.gaugeWord a1 a2 a3 a4 a5 a6 a7 a8 a9) := by
  unfold State.gaugeWord
  extract_lets +onlyGivenNames _ _
  refine pred_ite (P := Keeps r) ?_ ha1
  extract_lets +onlyGivenNames s3
  have h3 : Keeps r s3 := State.setFld_keeps ha1 ..
  extract_lets +onlyGivenNames s4
  have h4 : Keeps r s4 := pred_ite (P := Keeps r) (State.updChan_keeps (State.bumpWrap_keeps h3 ..) ..) h3
  extract_lets +onlyGivenNames _ _
  split
  · extract_lets +onlyGivenNames _ _
    refine pred_ite (P := Keeps r) h4 ?_
    extract_lets +onlyGivenNames s9
    have h9 : Keeps r s9 := State.setGauge_keeps h4 ..
    exact State.drainInputs_keeps h9 ..

theorem execGaugeSampleDeadline_keeps {r} {a4} (ha4 : Keeps r a4) (a1 a2 a3) :
    KeepsX r (execGaugeSampleDeadline a1 a2 a3 a4) := by
  unfold execGaugeSampleDeadline
  refine KeepsX.mk ?_
  extract_lets +onlyGivenNames _
  refine pred_ite (P := Keeps r) ha4 ?_
  extract_lets +onlyGivenNames s2
  have h2 : Keeps r s2 := State.bump_keeps (State.reach_keeps ha4 ..) ..
  extract_lets +onlyGivenNames _
  exact State.drainInputs_keeps (State.takeInput_keeps h2 ..) ..

theorem State.switchNco_keeps {r} {a1} (ha1 : Keeps r a1) (a2 a3 a4 a5 a6) : Keeps r (State.switchNco a1 a2 a3 a4 a5 a6) := by
  unfold State.switchNco
  extract_lets +onlyGivenNames _
  exact State.setFlag_keeps (State.updGauge_keeps ha1 ..) ..

theorem State.gaugeIdle_keeps {r} {a1} (ha1 : Keeps r a1) (a2) : Keeps r (State.gaugeIdle a1 a2) := by
  unfold State.gaugeIdle
  exact State.switchNco_keeps (State.setFld_keeps ha1 ..) ..

theorem State.gaugeExcite_keeps {r} {a1} (ha1 : Keeps r a1) (a2) : Keeps r (State.gaugeExcite a1 a2) := by
  unfold State.gaugeExcite
  exact State.switchNco_keeps (State.setFld_keeps ha1 ..) ..

theorem State.abandonCheck_keeps {r} {a1} (ha1 : Keeps r a1) (a2) : Keeps r (State.abandonCheck a1 a2) := by
  unfold State.abandonCheck
  extract_lets +onlyGivenNames s1
  have h1 : Keeps r s1 := State.bump_keeps ha1 ..
  extract_lets +onlyGivenNames s2
  have h2 : Keeps r s2 := pred_ite (P := Keeps r) (State.sendCtl_keeps h1 ..) h1
  exact State.gaugeIdle_keeps (State.updGauge_keeps h2 ..) ..

theorem State.gaugeUpdate_keeps {r} {a1} (ha1 : Keeps r a1) (a2) : Keeps r (State.gaugeUpdate a1 a2) := by
  unfold State.gaugeUpdate
  exact pred_ite (P := Keeps r) (pred_ite (P := Keeps r) ha1 (pred_ite (P := Keeps r) (State.gaugeExcite_keeps
      (State.abandonCheck_keeps ha1 ..) ..) (State.gaugeExcite_keeps ha1 ..))) (pred_ite (P := Keeps r) (State.gaugeIdle_keeps
      ha1 ..) ha1)

theorem State.gaugeRetune_keeps {r} {a1} (ha1 : Keeps r a1) (a2) : Keeps r (State.gaugeRetune a1 a2) := by
  unfold State.gaugeRetune
  refine pred_ite (P := Keeps r) ?_ ha1
  extract_lets +onlyGivenNames _
  exact State.switchNco_keeps ha1 ..

theorem execExcitationInterval_keeps {r} {a3} (ha3 : Keeps r a3) (a1 a2) : KeepsX r (execExcitationInterval a1 a2 a3) := by
  unfold execExcitationInterval
  refine KeepsX.mk ?_
  extract_lets +onlyGivenNames _
  refine pred_ite (P := Keeps r) ha3 ?_
  extract_lets +onlyGivenNames _
  exact State.gaugeUpdate_keeps (State.updGauge_keeps (State.reach_keeps ha3 ..) ..) ..

theorem State.startCheck_keeps {r} {a1} (ha1 : Keeps r a1) (a2 a3) : Keeps r (State.startCheck a1 a2 a3) := by
  unfold State.startCheck
  extract_lets +onlyGivenNames s1
  have h1 : Keeps r s1 := State.setFld_keeps ha1 ..
  extract_lets +onlyGivenNames s2
  have h2 : Keeps r s2 := State.updGauge_keeps h1 ..
  exact State.sendCtl_keeps (State.switchNco_keeps h2 ..) ..

theorem State.checkDrive_keeps {r} {a1} (ha1 : Keeps r a1) (a2) : Keeps r (State.checkDrive a1 a2) := by
  unfold State.checkDrive
  extract_lets +onlyGivenNames _
  exact pred_ite (P := Keeps r) (State.switchNco_keeps (State.updGauge_keeps ha1 ..) ..) ha1

theorem execCheckDue_keeps {r} {a2} (ha2 : Keeps r a2) (a1) : KeepsX r (execCheckDue a1 a2) := by
  unfold execCheckDue
  refine KeepsX.mk ?_
  refine pred_ite (P := Keeps r) ha2 ?_
  extract_lets +onlyGivenNames _ s2
  have h2 : Keeps r s2 := State.updGauge_keeps (State.reach_keeps ha2 ..) ..
  exact pred_ite (P := Keeps r) (State.bump_keeps h2 ..) (pred_ite (P := Keeps r) (State.startCheck_keeps h2 ..) h2)

theorem State.impedance_keeps {r} {a1} (ha1 : Keeps r a1) (a2 a3 a4 a5) : Keeps2 r (State.impedance a1 a2 a3 a4 a5) := by
  unfold State.impedance
  extract_lets +onlyGivenNames _ _ _
  refine pred_ite (P := Keeps2 r) ?_ (Keeps2.mk ha1)
  split
  · rename_i e4
    have h4 := Keeps2.out (r := r) e4 (State.drawFree_keeps ha1 ..)
    split
    · rename_i e5
      have h5 := Keeps2.out (r := r) e5 (State.drawFree_keeps h4 ..)
      exact Keeps2.mk h5

theorem State.gaugeFault_keeps {r} {a1} (ha1 : Keeps r a1) (a2) : Keeps r (State.gaugeFault a1 a2) := by
  unfold State.gaugeFault
  exact pred_ite (P := Keeps r) ha1 (State.requestState_keeps ha1 ..)

theorem State.evalZ_keeps {r} {a1} (ha1 : Keeps r a1) (a2 a3) : Keeps r (State.evalZ a1 a2 a3) := by
  unfold State.evalZ
  refine pred_ite (P := Keeps r) ha1 ?_
  extract_lets +onlyGivenNames _ _ _ _ _ _ s7
  have h7 : Keeps r s7 := State.setGauge_keeps ha1 ..
  refine pred_ite (P := Keeps r) (pred_ite (P := Keeps r) (State.setFlag_keeps h7 ..) h7) ?_
  refine pred_ite (P := Keeps r) ?_ h7
  extract_lets +onlyGivenNames s8
  have h8 : Keeps r s8 := State.log_keeps (State.setFlag_keeps h7 ..) ..
  exact pred_ite (P := Keeps r) (State.gaugeFault_keeps h8 ..) h8

theorem State.zRef_keeps {r} {a1} (ha1 : Keeps r a1) (a2) : Keeps2 r (State.zRef a1 a2) := by
  unfold State.zRef
  split
  · extract_lets +onlyGivenNames _
    refine pred_ite (P := Keeps2 r) ?_ (Keeps2.mk ha1)
    split
    · rename_i e2
      have h2 := Keeps2.out (r := r) e2 (State.drawFree_keeps ha1 ..)
      exact Keeps2.mk h2

theorem State.endCheck_keeps {r} {a1} (ha1 : Keeps r a1) (a2) : Keeps r (State.endCheck a1 a2) := by
  unfold State.endCheck
  extract_lets +onlyGivenNames s1
  have h1 : Keeps r s1 := State.sendCtl_keeps ha1 ..
  exact State.gaugeUpdate_keeps (State.gaugeIdle_keeps (State.updGauge_keeps h1 ..) ..) ..

theorem State.checkPass_keeps {r} {a1} (ha1 : Keeps r a1) (a2) : Keeps r (State.checkPass a1 a2) := by
  unfold State.checkPass
  exact State.setFlag_keeps (State.updGauge_keeps ha1 ..) ..

theorem State.checkFail_keeps {r} {a1} (ha1 : Keeps r a1) (a2 a3) : Keeps r (State.checkFail a1 a2 a3) := by
  unfold State.checkFail
  extract_lets +onlyGivenNames _ s2
  have h2 : Keeps r s2 := State.bump_keeps (State.setGauge_keeps ha1 ..) ..
  refine pred_ite (P := Keeps r) ?_ h2
  extract_lets +onlyGivenNames s3
  have h3 : Keeps r s3 := State.log_keeps (State.setFlag_keeps h2 ..) ..
  exact pred_ite (P := Keeps r) (State.gaugeFault_keeps h3 ..) h3

theorem State.checkDone_keeps {r} {a1} (ha1 : Keeps r a1) (a2) : Keeps r (State.checkDone a1 a2) := by
  unfold State.checkDone
  extract_lets +onlyGivenNames _ _
  split
  · rename_i e3
    have h3 := Keeps2.out (r := r) e3 (State.zRef_keeps ha1 ..)
    refine pred_ite (P := Keeps r) ?_ (pred_ite (P := Keeps r) (State.endCheck_keeps (State.checkPass_keeps h3 ..) ..)
        (State.endCheck_keeps (State.checkFail_keeps h3 ..) ..))
    extract_lets +onlyGivenNames _
    split
    · rename_i e5
      have h5 := Keeps2.out (r := r) e5 (State.fit32_keeps h3 ..)
      split
      · rename_i e6
        have h6 := Keeps2.out (r := r) e6 (State.fit32_keeps h5 ..)
        exact State.endCheck_keeps (State.checkPass_keeps (State.setFld_keeps (State.setFld_keeps h6 ..) ..) ..) ..

theorem State.iqOutput_keeps {r} {a1} (ha1 : Keeps r a1) (a2) : Keeps r (State.iqOutput a1 a2) := by
  unfold State.iqOutput
  extract_lets +onlyGivenNames _ _ s3
  have h3 : Keeps r s3 := State.setFlag_keeps ha1 ..
  refine pred_ite (P := Keeps r) ?_ ?_
  · refine pred_ite (P := Keeps r) h3 ?_
    extract_lets +onlyGivenNames _
    split
    · rename_i e5
      have h5 := Keeps2.out (r := r) e5 (State.impedance_keeps h3 ..)
      split
      · rename_i e6
        have h6 := Keeps2.out (r := r) e6 (State.fit32_keeps h5 ..)
        split
        · rename_i e7
          have h7 := Keeps2.out (r := r) e7 (State.fit32_keeps h6 ..)
          extract_lets +onlyGivenNames s8
          have h8 : Keeps r s8 := State.setFlag_keeps (State.setFld_keeps (State.setFld_keeps h7 ..) ..) ..
          exact State.evalZ_keeps h8 ..
  · refine pred_ite (P := Keeps r) ?_ h3
    extract_lets +onlyGivenNames _ s10
    have h10 : Keeps r s10 := State.setGauge_keeps h3 ..
    extract_lets +onlyGivenNames s11
    have h11 : Keeps r s11 := by
      unfold s11
      refine pred_ite (P := Keeps r) h10 ?_
      split
      · rename_i e12
        have h12 := Keeps2.out (r := r) e12 (State.impedance_keeps h10 ..)
        exact State.updGauge_keeps h12 ..
    exact pred_ite (P := Keeps r) (State.checkDone_keeps h11 ..) (pred_ite (P := Keeps r) (State.gaugeUpdate_keeps
        (State.abandonCheck_keeps h11 ..) ..) h11)

theorem State.gaugeCross_keeps {r} {a1} (ha1 : Keeps r a1) (a2 a3) : Keeps r (State.gaugeCross a1 a2 a3) := by
  unfold State.gaugeCross
  extract_lets +onlyGivenNames s1
  have h1 : Keeps r s1 := State.feederCross_keeps ha1 ..
  exact pred_ite (P := Keeps r) (State.crossing_keeps h1 ..) h1

theorem State.vOutput_keeps {r} {a1} (ha1 : Keeps r a1) (a2 a3 a4) : Keeps r (State.vOutput a1 a2 a3 a4) := by
  unfold State.vOutput
  extract_lets +onlyGivenNames _ _ _ _
  split
  · extract_lets +onlyGivenNames _ _ _ _ s9
    have h9 : Keeps r s9 := State.setGauge_keeps ha1 ..
    exact pred_ite (P := Keeps r) (State.gaugeCross_keeps h9 ..) h9

theorem execChainOutput_keeps {r} {a3} (ha3 : Keeps r a3) (a1 a2) : KeepsX r (execChainOutput a1 a2 a3) := by
  unfold execChainOutput
  refine KeepsX.mk ?_
  extract_lets +onlyGivenNames _ _
  split
  · split
    · exact ha3
    · extract_lets +onlyGivenNames s3
      have h3 : Keeps r s3 := State.setGauge_keeps ha3 ..
      exact pred_ite (P := Keeps r) (State.iqOutput_keeps h3 ..) h3
  · split
    · exact ha3
    · extract_lets +onlyGivenNames s4
      have h4 : Keeps r s4 := State.setGauge_keeps ha3 ..
      exact pred_ite (P := Keeps r) (State.iqOutput_keeps h4 ..) h4
  · split
    · exact ha3
    · exact State.vOutput_keeps (State.setGauge_keeps ha3 ..) ..
  · exact ha3

theorem State.gaugeLaneLost_keeps {r} {a1} (ha1 : Keeps r a1) (a2) : Keeps r (State.gaugeLaneLost a1 a2) := by
  unfold State.gaugeLaneLost
  exact pred_ite (P := Keeps r) (State.abandonCheck_keeps ha1 ..) (pred_ite (P := Keeps r) (State.gaugeIdle_keeps ha1 ..) ha1)

theorem State.gaugeLaneUp_keeps {r} {a1} (ha1 : Keeps r a1) (a2) : Keeps r (State.gaugeLaneUp a1 a2) := by
  unfold State.gaugeLaneUp
  extract_lets +onlyGivenNames _ _ s3
  have h3 : Keeps r s3 := State.setGauge_keeps ha1 ..
  extract_lets +onlyGivenNames s4
  have h4 : Keeps r s4 := State.sendCtl_keeps h3 ..
  exact State.gaugeUpdate_keeps (State.setFlag_keeps (State.updGauge_keeps h4 ..) ..) ..

theorem gauCmd_keeps {r} {a1 a4} (ha1 : Keeps r a1) (ha4 : Keeps1 r a4) (a2 a3) : Keeps1 r (gauCmd a1 a2 a3 a4) := by
  unfold gauCmd
  exact pred_ite (P := Keeps1 r) (refuse_keeps ha1 ..) (pred_ite (P := Keeps1 r) (refuse_keeps ha1 ..) (pred_ite (P := Keeps1
      r) (refuse_keeps ha1 ..) ha4))

theorem opGauQuery_keeps {r} {a3} (ha3 : Keeps r a3) (a1 a2) : Keeps1 r (opGauQuery a1 a2 a3) := by
  unfold opGauQuery
  exact gauCmd_keeps ha3 (Keeps1.mk ha3) ..

theorem opGauCheck_keeps {r} {a3} (ha3 : Keeps r a3) (a1 a2) : Keeps1 r (opGauCheck a1 a2 a3) := by
  unfold opGauCheck
  exact gauCmd_keeps ha3 (pred_ite (P := Keeps1 r) (refuse_keeps ha3 ..) (pred_ite (P := Keeps1 r) (Keeps1.mk ha3) (Keeps1.mk
      (State.startCheck_keeps ha3 ..)))) ..

theorem opGauCalibrate_keeps {r} {a3} (ha3 : Keeps r a3) (a1 a2) : Keeps1 r (opGauCalibrate a1 a2 a3) := by
  unfold opGauCalibrate
  exact gauCmd_keeps ha3 (pred_ite (P := Keeps1 r) (refuse_keeps ha3 ..) (pred_ite (P := Keeps1 r) (Keeps1.mk
      (State.updGauge_keeps ha3 ..)) (Keeps1.mk (State.startCheck_keeps ha3 ..)))) ..

theorem opGauExcite_keeps {r} {a4} (ha4 : Keeps r a4) (a1 a2 a3) : Keeps1 r (opGauExcite a1 a2 a3 a4) := by
  unfold opGauExcite
  extract_lets +onlyGivenNames _
  exact pred_ite (P := Keeps1 r) (refuse_keeps ha4 ..) (gauCmd_keeps ha4 (pred_ite (P := Keeps1 r) (refuse_keeps ha4 ..)
      (Keeps1.mk (State.gaugeUpdate_keeps (State.setFld_keeps ha4 ..) ..))) ..)

theorem execGauQuery_keeps {r} {a3} (ha3 : Keeps r a3) (a1 a2) : KeepsX r (execGauQuery a1 a2 a3) := by
  unfold execGauQuery
  exact KeepsX.mk (ohi_keeps ha3 (opGauQuery_keeps ha3 ..) ..)

theorem execGauCheck_keeps {r} {a3} (ha3 : Keeps r a3) (a1 a2) : KeepsX r (execGauCheck a1 a2 a3) := by
  unfold execGauCheck
  exact KeepsX.mk (ohi_keeps ha3 (opGauCheck_keeps ha3 ..) ..)

theorem execGauCalibrate_keeps {r} {a4} (ha4 : Keeps r a4) (a1 a2 a3) : KeepsX r (execGauCalibrate a1 a2 a3 a4) := by
  unfold execGauCalibrate
  exact KeepsX.mk (ohi_keeps ha4 (pred_ite (P := Keeps1 r) (opGauCalibrate_keeps ha4 ..) (refuse_keeps ha4 ..)) ..)

theorem execGauExcite_keeps {r} {a4} (ha4 : Keeps r a4) (a1 a2 a3) : KeepsX r (execGauExcite a1 a2 a3 a4) := by
  unfold execGauExcite
  exact KeepsX.mk (ohi_keeps ha4 (opGauExcite_keeps ha4 ..) ..)

end Sys2Proof.Machine
end

