-- ==== Sys2Proof/Laws/KeepsLanes.lean ====
section
/-! SUPPORT. The commands waiting and the invariant are kept by: casts and the Surge Spool, the lanes, serial ports, contacts. -/

namespace Sys2Proof.Machine

theorem State.showRegion_keeps {r} {a1} (ha1 : Keeps r a1) (a2) : Keeps r (State.showRegion a1 a2) := by
  unfold State.showRegion
  extract_lets +onlyGivenNames _ _ s3
  have h3 : Keeps r s3 := State.setFld_keeps (State.setFlag_keeps (State.setFlag_keeps (State.setFld_keeps ha1 ..) ..) ..) ..
  exact State.setFld_keeps h3 ..

theorem State.setRegion_keeps {r} {a1} (ha1 : Keeps r a1) (a2 a3) : Keeps r (State.setRegion a1 a2 a3) := by
  unfold State.setRegion
  exact State.showRegion_keeps (Keeps.of ha1 rfl) ..

theorem State.setBlock_keeps {r} {a1} (ha1 : Keeps r a1) (a2 a3 a4) : Keeps r (State.setBlock a1 a2 a3 a4) := by
  unfold State.setBlock
  extract_lets +onlyGivenNames _ s2
  have h2 : Keeps r s2 := Keeps.of ha1 rfl
  exact pred_ite (P := Keeps r) (pred_foldl (P := Keeps r) _ (fun _ h3 x4 => pred_ite (P := Keeps r) (State.showRegion_keeps h3
      ..) h3) _ h2) h2

theorem State.castBlockFor_keeps {r} {a1} (ha1 : Keeps r a1) (a2 a3) : KeepsO3 r (State.castBlockFor a1 a2 a3) := by
  unfold State.castBlockFor
  extract_lets +onlyGivenNames _ _ s3
  have h3 : ∀ t1, KeepsO3 r (s3 t1) := by
    intro x4
    unfold s3
    split
    · exact KeepsO3.none
    · extract_lets +onlyGivenNames _ _
      exact KeepsO3.mk (Keeps3.mk (Keeps2.mk (Keeps.of ha1 rfl)))
  clear_value s3
  split
  · exact h3 _
  · split
    · exact h3 _
    · exact pred_ite (P := KeepsO3 r) (KeepsO3.mk (Keeps3.mk (Keeps2.mk ha1))) (h3 _)

theorem State.castMay_keeps {r} {a1} (ha1 : Keeps r a1) : Keeps2 r (State.castMay a1) := by
  unfold State.castMay
  extract_lets +onlyGivenNames _
  refine pred_ite (P := Keeps2 r) (Keeps2.mk ha1) ?_
  refine pred_ite (P := Keeps2 r) (Keeps2.mk (Keeps.of ha1 rfl)) ?_
  refine pred_ite (P := Keeps2 r) ?_ (pred_ite (P := Keeps2 r) (Keeps2.mk ha1) (Keeps2.mk (State.bump_keeps (Keeps.of ha1 rfl)
      ..)))
  extract_lets +onlyGivenNames _ s3
  have h3 : Keeps r s3 := Keeps.of ha1 rfl
  exact Keeps2.mk (pred_ite (P := Keeps r) (State.bump_keeps h3 ..) h3)

theorem State.castPut_keeps {r} {a1} (ha1 : Keeps r a1) (a2 a3 a4 a5) : Keeps r (State.castPut a1 a2 a3 a4 a5) := by
  unfold State.castPut
  split
  · exact ha1
  · rename_i e1
    have h1 := KeepsO3.out (r := r) e1 (State.castBlockFor_keeps ha1 ..)
    refine pred_ite (P := Keeps r) h1 ?_
    split
    · rename_i e2
      have h2 := Keeps2.out (r := r) e2 (State.castMay_keeps h1 ..)
      refine pred_ite (P := Keeps r) (State.setBlock_keeps h2 ..) ?_
      extract_lets +onlyGivenNames s3
      have h3 : Keeps r s3 := pred_ite (P := Keeps r) h2 (State.bump_keeps h2 ..)
      exact State.setBlock_keeps h3 ..

theorem State.castIn_keeps {r} {a1} (ha1 : Keeps r a1) (a2 a3 a4 a5) : Keeps r (State.castIn a1 a2 a3 a4 a5) := by
  unfold State.castIn
  exact pred_ite (P := Keeps r) (pred_foldl (P := Keeps r) _ (fun _ h1 x2 => State.castPut_keeps h1 ..) _ ha1) ha1

theorem State.castLostSlot_keeps {r} {a1} (ha1 : Keeps r a1) (a2 a3) : Keeps r (State.castLostSlot a1 a2 a3) := by
  unfold State.castLostSlot
  exact pred_foldl (P := Keeps r) _ (fun _ h1 x2 => pred_ite (P := Keeps r) (State.castIn_keeps h1 ..) h1) _ ha1

theorem State.castRefill_keeps {r} {a1} (ha1 : Keeps r a1) (a2) : Keeps r (State.castRefill a1 a2) := by
  unfold State.castRefill
  exact Keeps.of ha1 rfl

theorem State.takeRegion_keeps {r} {a1} (ha1 : Keeps r a1) (a2 a3 a4) : Keeps r (State.takeRegion a1 a2 a3 a4) := by
  unfold State.takeRegion
  extract_lets +onlyGivenNames _
  exact State.setRegion_keeps (Keeps.of ha1 rfl) ..

theorem State.freeze_keeps {r} {a1} (ha1 : Keeps r a1) (a2 a3) : Keeps2 r (State.freeze a1 a2 a3) := by
  unfold State.freeze
  refine pred_ite (P := Keeps2 r) (Keeps2.mk (State.bump_keeps ha1 ..)) ?_
  split
  · exact Keeps2.mk (State.takeRegion_keeps ha1 ..)
  · extract_lets +onlyGivenNames s1
    have h1 : Keeps r s1 := State.bump_keeps ha1 ..
    refine pred_ite (P := Keeps2 r) ?_ (Keeps2.mk h1)
    split
    · exact Keeps2.mk (State.takeRegion_keeps h1 ..)
    · exact Keeps2.mk h1

theorem State.blankRise_keeps {r} {a1} (ha1 : Keeps r a1) (a2 a3) : Keeps r (State.blankRise a1 a2 a3) := by
  unfold State.blankRise
  extract_lets +onlyGivenNames _ _ s3
  have h3 : Keeps r s3 := Keeps.of ha1 rfl
  extract_lets +onlyGivenNames s4
  have h4 : Keeps r s4 := State.setFld_keeps h3 ..
  extract_lets +onlyGivenNames s5
  have h5 : Keeps r s5 := State.setFld_keeps h4 ..
  extract_lets +onlyGivenNames s6
  have h6 : Keeps r s6 := pred_foldl (P := Keeps r) _ (fun _ h7 x8 => State.request_keeps (State.updChan_keeps h7 ..) ..) _ h5
  exact pred_ite (P := Keeps r) (Keeps2.proj (State.freeze_keeps h6 ..)) h6

theorem State.blankFall_keeps {r} {a1} (ha1 : Keeps r a1) (a2 a3) : Keeps r (State.blankFall a1 a2 a3) := by
  unfold State.blankFall
  extract_lets +onlyGivenNames _ _ _ s4
  have h4 : Keeps r s4 := Keeps.of ha1 rfl
  extract_lets +onlyGivenNames s5
  have h5 : Keeps r s5 := State.setFld_keeps h4 ..
  exact pred_ite (P := Keeps r) (State.setFld_keeps h5 ..) h5

theorem State.keepEdge_keeps {r} {a1} (ha1 : Keeps r a1) (a2 a3) : Keeps r (State.keepEdge a1 a2 a3) := by
  unfold State.keepEdge
  exact pred_ite (P := Keeps r) (Keeps.of ha1 rfl) ha1

theorem execBlankEdge_keeps {r} {a4} (ha4 : Keeps r a4) (a1 a2 a3) : KeepsX r (execBlankEdge a1 a2 a3 a4) := by
  unfold execBlankEdge
  refine KeepsX.mk ?_
  extract_lets +onlyGivenNames s1
  have h1 : Keeps r s1 := Keeps.of ha4 rfl
  exact pred_ite (P := Keeps r) (State.keepEdge_keeps h1 ..) (pred_ite (P := Keeps r) h1 (pred_ite (P := Keeps r)
      (State.blankRise_keeps h1 ..) (State.blankFall_keeps h1 ..)))

theorem execBlankExtensionEnd_keeps {r} {a2} (ha2 : Keeps r a2) (a1) : KeepsX r (execBlankExtensionEnd a1 a2) := by
  unfold execBlankExtensionEnd
  refine KeepsX.mk ?_
  refine pred_ite (P := Keeps r) ?_ ha2
  extract_lets +onlyGivenNames s1
  have h1 : Keeps r s1 := by
    unfold s1
    split
    · exact State.reach_keeps ha2 ..
    · exact ha2
  exact State.setFld_keeps h1 ..

theorem State.armChannel_keeps {r} {a1} (ha1 : Keeps r a1) (a2) : Keeps r (State.armChannel a1 a2) := by
  unfold State.armChannel
  exact pred_ite (P := Keeps r) (State.setFlag_keeps ha1 ..) ha1

theorem execArmExpiry_keeps {r} {a2} (ha2 : Keeps r a2) (a1) : KeepsX r (execArmExpiry a1 a2) := by
  unfold execArmExpiry
  exact KeepsX.mk (pred_ite (P := Keeps r) (State.setFlag_keeps (State.reach_keeps ha2 ..) ..) ha2)

theorem State.castTime_keeps {r} {a1} (ha1 : Keeps r a1) (a2 a3) : Keeps3 r (State.castTime a1 a2 a3) := by
  unfold State.castTime
  extract_lets +onlyGivenNames _
  refine pred_ite (P := Keeps3 r) ?_ ?_
  · split
    · rename_i e2
      have h2 := Keeps2.out (r := r) e2 (State.drawFree_keeps ha1 ..)
      split
      · rename_i e3
        have h3 := Keeps2.out (r := r) e3 (State.drawFree_keeps h2 ..)
        exact Keeps3.mk (Keeps2.mk h3)
  · split
    · exact Keeps3.mk (Keeps2.mk ha1)

theorem State.arrive_keeps {r} {a1} (ha1 : Keeps r a1) (a2 a3 a4 a5 a6 a7) : Keeps r (State.arrive a1 a2 a3 a4 a5 a6 a7) := by
  unfold State.arrive
  extract_lets +onlyGivenNames _ _
  split
  · rename_i e3
    have h3 := Keeps3.out (r := r) e3 (State.castTime_keeps ha1 ..)
    extract_lets +onlyGivenNames _ _ _ _ _ _ s10
    have h10 : Keeps r s10 := Keeps.of h3 rfl
    extract_lets +onlyGivenNames s11
    have h11 : Keeps r s11 := State.bumpWrap_keeps (State.setFld_keeps h10 ..) ..
    extract_lets +onlyGivenNames s12
    have h12 : Keeps r s12 := State.log_keeps h11 ..
    refine pred_ite (P := Keeps r) ?_ h12
    extract_lets +onlyGivenNames _ s14
    have h14 : Keeps r s14 := Keeps.of h12 rfl
    exact Keeps2.proj (State.freeze_keeps h14 ..)

theorem execRegionCollected_keeps {r} {a2} (ha2 : Keeps r a2) (a1) : KeepsX r (execRegionCollected a1 a2) := by
  unfold execRegionCollected
  refine KeepsX.mk ?_
  extract_lets +onlyGivenNames _
  refine pred_ite (P := Keeps r) ?_ ha2
  extract_lets +onlyGivenNames s2
  have h2 : Keeps r s2 := State.reach_keeps ha2 ..
  exact State.log_keeps (State.setRegion_keeps h2 ..) ..

theorem State.castCut_keeps {r} {a1} (ha1 : Keeps r a1) : Keeps r (State.castCut a1) := by
  unfold State.castCut
  refine pred_foldl (P := Keeps r) _ (fun _ h1 x2 => ?_) _ ha1
  extract_lets +onlyGivenNames _
  split
  · exact State.log_keeps (State.setRegion_keeps h1 ..) ..
  · exact State.setRegion_keeps h1 ..
  · exact h1

theorem State.releaseRegions_keeps {r} {a1} (ha1 : Keeps r a1) : Keeps r (State.releaseRegions a1) := by
  unfold State.releaseRegions
  exact forAll_keeps (fun x1 _ h2 => State.setRegion_keeps h2 ..) ha1 ..

theorem State.castSeal_keeps {r} {a1} (ha1 : Keeps r a1) (a2 a3) : Keeps r (State.castSeal a1 a2 a3) := by
  unfold State.castSeal
  extract_lets +onlyGivenNames _ _ s3
  have h3 : Keeps r s3 := State.setFld_keeps (State.setFlag_keeps ha1 ..) ..
  extract_lets +onlyGivenNames _ s5
  have h5 : Keeps r s5 := Keeps.of h3 rfl
  exact pred_ite (P := Keeps r) (State.showRegion_keeps h5 ..) (State.showRegion_keeps (State.releaseRegions_keeps (Keeps.of h5
      rfl) ..) ..)

theorem State.sendExport_keeps {r} {a1} (ha1 : Keeps r a1) (a2 a3 a4) : Keeps r (State.sendExport a1 a2 a3 a4) := by
  unfold State.sendExport
  split
  · exact ha1
  · split
    · rename_i e1
      have h1 := Keeps2.out (r := r) e1 (State.drawFree_keeps ha1 ..)
      extract_lets +onlyGivenNames _
      exact State.egressFrame_keeps h1 ..

theorem execExportMessage_keeps {r} {a2} (ha2 : Keeps r a2) (a1) : KeepsX r (execExportMessage a1 a2) := by
  unfold execExportMessage
  refine KeepsX.mk ?_
  extract_lets +onlyGivenNames _
  refine pred_ite (P := Keeps r) ha2 ?_
  split
  · exact State.setRegion_keeps ha2 ..
  · extract_lets +onlyGivenNames _
    split
    · exact State.setRegion_keeps ha2 ..
    · extract_lets +onlyGivenNames _ _ s5
      have h5 : Keeps r s5 := State.sendExport_keeps ha2 ..
      extract_lets +onlyGivenNames _
      exact pred_ite (P := Keeps r) (State.setRegion_keeps h5 ..) (State.setRegion_keeps h5 ..)

theorem srgCmd_keeps {r} {a1 a3} (ha1 : Keeps r a1) (ha3 : Keeps1 r a3) (a2) : Keeps1 r (srgCmd a1 a2 a3) := by
  unfold srgCmd
  exact pred_ite (P := Keeps1 r) (refuse_keeps ha1 ..) (featGate_keeps ha1 ha3 ..)

theorem opSrgQuery_keeps {r} {a3} (ha3 : Keeps r a3) (a1 a2) : Keeps1 r (opSrgQuery a1 a2 a3) := by
  unfold opSrgQuery
  refine srgCmd_keeps ha3 ?_ ..
  refine pred_ite (P := Keeps1 r) (refuse_keeps ha3 ..) ?_
  extract_lets +onlyGivenNames _ _
  exact Keeps1.mk ha3

theorem opSrgFreeze_keeps {r} {a2} (ha2 : Keeps r a2) (a1) : Keeps1 r (opSrgFreeze a1 a2) := by
  unfold opSrgFreeze
  refine srgCmd_keeps ha2 ?_ ..
  split
  · rename_i e1
    have h1 := Keeps2.out (r := r) e1 (State.freeze_keeps ha2 ..)
    exact Keeps1.mk h1
  · rename_i e2
    have h2 := Keeps2.out (r := r) e2 (State.freeze_keeps ha2 ..)
    exact Keeps1.mk h2

theorem opSrgExport_keeps {r} {a5} (ha5 : Keeps r a5) (a1 a2 a3 a4) : Keeps1 r (opSrgExport a1 a2 a3 a4 a5) := by
  unfold opSrgExport
  refine srgCmd_keeps ha5 ?_ ..
  refine pred_ite (P := Keeps1 r) (refuse_keeps ha5 ..) ?_
  extract_lets +onlyGivenNames _
  split
  · exact Keeps1.mk (State.setRegion_keeps ha5 ..)
  · exact refuse_keeps ha5 ..
  · exact refuse_keeps ha5 ..

theorem opSrgRelease_keeps {r} {a3} (ha3 : Keeps r a3) (a1 a2) : Keeps1 r (opSrgRelease a1 a2 a3) := by
  unfold opSrgRelease
  refine srgCmd_keeps ha3 ?_ ..
  refine pred_ite (P := Keeps1 r) (refuse_keeps ha3 ..) ?_
  split
  · exact Keeps1.mk (State.setRegion_keeps ha3 ..)
  · exact refuse_keeps ha3 ..
  · exact refuse_keeps ha3 ..

theorem opSrgArrivalRead_keeps {r} {a3} (ha3 : Keeps r a3) (a1 a2) : Keeps1 r (opSrgArrivalRead a1 a2 a3) := by
  unfold opSrgArrivalRead
  exact srgCmd_keeps ha3 (pred_ite (P := Keeps1 r) (refuse_keeps ha3 ..) (Keeps1.mk ha3)) ..

theorem execSrgQuery_keeps {r} {a3} (ha3 : Keeps r a3) (a1 a2) : KeepsX r (execSrgQuery a1 a2 a3) := by
  unfold execSrgQuery
  exact KeepsX.mk (ohi_keeps ha3 (opSrgQuery_keeps ha3 ..) ..)

theorem execSrgFreeze_keeps {r} {a3} (ha3 : Keeps r a3) (a1 a2) : KeepsX r (execSrgFreeze a1 a2 a3) := by
  unfold execSrgFreeze
  exact KeepsX.mk (ohi_keeps ha3 (pred_ite (P := Keeps1 r) (opSrgFreeze_keeps ha3 ..) (refuse_keeps ha3 ..)) ..)

theorem execSrgExport_keeps {r} {a3} (ha3 : Keeps r a3) (a1 a2) : KeepsX r (execSrgExport a1 a2 a3) := by
  unfold execSrgExport
  exact KeepsX.mk (ohi_keeps ha3 (pred_ite (P := Keeps1 r) (opSrgExport_keeps ha3 ..) (refuse_keeps ha3 ..)) ..)

theorem execSrgRelease_keeps {r} {a3} (ha3 : Keeps r a3) (a1 a2) : KeepsX r (execSrgRelease a1 a2 a3) := by
  unfold execSrgRelease
  exact KeepsX.mk (ohi_keeps ha3 (opSrgRelease_keeps ha3 ..) ..)

theorem execSrgArrivalRead_keeps {r} {a3} (ha3 : Keeps r a3) (a1 a2) : KeepsX r (execSrgArrivalRead a1 a2 a3) := by
  unfold execSrgArrivalRead
  exact KeepsX.mk (ohi_keeps ha3 (opSrgArrivalRead_keeps ha3 ..) ..)

theorem State.setLaneState_keeps {r} {a1} (ha1 : Keeps r a1) (a2 a3 a4) : Keeps r (State.setLaneState a1 a2 a3 a4) := by
  unfold State.setLaneState
  extract_lets +onlyGivenNames s1
  have h1 : Keeps r s1 := State.setFld_keeps (State.setFld_keeps ha1 ..) ..
  extract_lets +onlyGivenNames s2
  have h2 : Keeps r s2 := State.setFlag_keeps h1 ..
  exact pred_ite (P := Keeps r) h2 (State.setFlag_keeps (State.setFlag_keeps h2 ..) ..)

theorem State.olaDropHead_keeps {r} {a1} (ha1 : Keeps r a1) (a2) : Keeps r (State.olaDropHead a1 a2) := by
  unfold State.olaDropHead
  extract_lets +onlyGivenNames _ _ _ _ _ s6
  have h6 : Keeps r s6 := Keeps.of ha1 rfl
  exact State.bumpN_keeps h6 ..

theorem State.keepTerms_keeps {r} {a1} (ha1 : Keeps r a1) (a2) : Keeps r (State.keepTerms a1 a2) := by
  unfold State.keepTerms
  extract_lets +onlyGivenNames _ _
  exact Keeps.of ha1 rfl

theorem State.laneLost_keeps {r} {a1} (ha1 : Keeps r a1) (a2 a3 a4) : Keeps r (State.laneLost a1 a2 a3 a4) := by
  unfold State.laneLost
  extract_lets +onlyGivenNames _ _ s3
  have h3 : Keeps r s3 := State.bump_keeps (State.setLaneState_keeps ha1 ..) ..
  extract_lets +onlyGivenNames s4
  have h4 : Keeps r s4 := State.log_keeps h3 ..
  extract_lets +onlyGivenNames s5
  have h5 : Keeps r s5 := State.updLane_keeps h4 ..
  extract_lets +onlyGivenNames s6
  have h6 : Keeps r s6 := State.olaDropHead_keeps (State.dropCtl_keeps (State.keepTerms_keeps h5 ..) ..) ..
  extract_lets +onlyGivenNames _ s8
  have h8 : Keeps r s8 := Keeps.of h6 rfl
  refine pred_foldl (P := Keeps r) _ (fun _ h9 x10 => ?_) _ h8
  extract_lets +onlyGivenNames s11
  have h11 : Keeps r s11 := State.updChan_keeps (State.gaugeLaneLost_keeps (State.olaEmpty_keeps (State.discardFrames_keeps h9
      ..) ..) ..) ..
  exact pred_ite (P := Keeps r) h11 (State.requestState_keeps h11 ..)

theorem State.laneFallBack_keeps {r} {a1} (ha1 : Keeps r a1) (a2 a3 a4) : Keeps r (State.laneFallBack a1 a2 a3 a4) := by
  unfold State.laneFallBack
  exact State.dropCtl_keeps (State.updLane_keeps (State.setLaneState_keeps ha1 ..) ..) ..

theorem State.laneLeave_keeps {r} {a1} (ha1 : Keeps r a1) (a2 a3 a4) : Keeps r (State.laneLeave a1 a2 a3 a4) := by
  unfold State.laneLeave
  extract_lets +onlyGivenNames s1
  have h1 : Keeps r s1 := pred_ite (P := Keeps r) (State.laneLost_keeps ha1 ..) (State.laneFallBack_keeps ha1 ..)
  exact State.updLane_keeps h1 ..

theorem execSignalAndSymbolLock_keeps {r} {a2} (ha2 : Keeps r a2) (a1) : KeepsX r (execSignalAndSymbolLock a1 a2) := by
  unfold execSignalAndSymbolLock
  refine KeepsX.mk ?_
  extract_lets +onlyGivenNames s1
  have h1 : Keeps r s1 := State.updLane_keeps ha2 ..
  exact pred_ite (P := Keeps r) (State.laneLeave_keeps h1 ..) h1

theorem State.startCalib_keeps {r} {a1} (ha1 : Keeps r a1) (a2) : Keeps r (State.startCalib a1 a2) := by
  unfold State.startCalib
  extract_lets +onlyGivenNames s1
  have h1 : Keeps r s1 := State.setLaneState_keeps ha1 ..
  extract_lets +onlyGivenNames s2
  have h2 : Keeps r s2 := State.updLane_keeps h1 ..
  exact pred_foldl (P := Keeps r) _ (fun _ h3 x4 => State.sendCtl_keeps h3 ..) _ h2

theorem execFrameLock_keeps {r} {a2} (ha2 : Keeps r a2) (a1) : KeepsX r (execFrameLock a1 a2) := by
  unfold execFrameLock
  exact KeepsX.mk (pred_ite (P := Keeps r) (State.startCalib_keeps ha2 ..) ha2)

theorem execFrameLockLost_keeps {r} {a2} (ha2 : Keeps r a2) (a1) : KeepsX r (execFrameLockLost a1 a2) := by
  unfold execFrameLockLost
  exact KeepsX.mk (pred_ite (P := Keeps r) (State.laneLeave_keeps ha2 ..) ha2)

theorem execLossOfSignal_keeps {r} {a2} (ha2 : Keeps r a2) (a1) : KeepsX r (execLossOfSignal a1 a2) := by
  unfold execLossOfSignal
  refine KeepsX.mk ?_
  extract_lets +onlyGivenNames s1
  have h1 : Keeps r s1 := State.updLane_keeps ha2 ..
  exact pred_ite (P := Keeps r) (State.laneLeave_keeps h1 ..) h1

theorem State.laneFault_keeps {r} {a1} (ha1 : Keeps r a1) (a2 a3) : Keeps r (State.laneFault a1 a2 a3) := by
  unfold State.laneFault
  exact State.updLane_keeps (State.laneLeave_keeps ha1 ..) ..

theorem State.sendCoupling_keeps {r} {a1} (ha1 : Keeps r a1) (a2 a3) : Keeps r (State.sendCoupling a1 a2 a3) := by
  unfold State.sendCoupling
  extract_lets +onlyGivenNames s1
  have h1 : Keeps r s1 := State.updChan_keeps (State.setFlag_keeps ha1 ..) ..
  extract_lets +onlyGivenNames s2
  have h2 : Keeps r s2 := State.olaEmpty_keeps h1 ..
  exact pred_ite (P := Keeps r) (State.sendCtl_keeps h2 ..) h2

theorem State.couplingDone_keeps {r} {a1} (ha1 : Keeps r a1) (a2) : Keeps r (State.couplingDone a1 a2) := by
  unfold State.couplingDone
  exact pred_ite (P := Keeps r) (State.request_keeps ha1 ..) ha1

theorem State.couplingOn_keeps {r} {a1} (ha1 : Keeps r a1) (a2) : Keeps r (State.couplingOn a1 a2) := by
  unfold State.couplingOn
  split
  · exact ha1
  · extract_lets +onlyGivenNames _ s2
    have h2 : Keeps r s2 := State.setFld_keeps (State.setFlag_keeps ha1 ..) ..
    extract_lets +onlyGivenNames s3
    have h3 : Keeps r s3 := State.updChan_keeps h2 ..
    refine pred_ite (P := Keeps r) ?_ h3
    extract_lets +onlyGivenNames s4
    have h4 : Keeps r s4 := pred_ite (P := Keeps r) h3 (State.dropTheta_keeps h3 ..)
    exact State.invalidate_keeps h4 ..

theorem State.couplingFailed_keeps {r} {a1} (ha1 : Keeps r a1) (a2) : Keeps r (State.couplingFailed a1 a2) := by
  unfold State.couplingFailed
  split
  · exact ha1
  · extract_lets +onlyGivenNames s1
    have h1 : Keeps r s1 := State.updChan_keeps (State.setFlag_keeps ha1 ..) ..
    exact State.requestState_keeps h1 ..

theorem execCouplingTimeout_keeps {r} {a2} (ha2 : Keeps r a2) (a1) : KeepsX r (execCouplingTimeout a1 a2) := by
  unfold execCouplingTimeout
  refine KeepsX.mk ?_
  extract_lets +onlyGivenNames _ _ _
  refine pred_ite (P := Keeps r) ?_ ha2
  extract_lets +onlyGivenNames s4
  have h4 : Keeps r s4 := State.reach_keeps ha2 ..
  exact State.couplingFailed_keeps (State.setLane_keeps h4 ..) ..

theorem State.laneAlign_keeps {r} {a1} (ha1 : Keeps r a1) (a2) : Keeps r (State.laneAlign a1 a2) := by
  unfold State.laneAlign
  extract_lets +onlyGivenNames s1
  have h1 : Keeps r s1 := State.updLane_keeps (State.setLaneState_keeps ha1 ..) ..
  refine pred_foldl (P := Keeps r) _ (fun _ h2 x3 => ?_) _ h1
  extract_lets +onlyGivenNames _ s5
  have h5 : Keeps r s5 := by
    unfold s5
    split
    · exact h2
    · exact State.updChan_keeps (State.sendCoupling_keeps h2 ..) ..
  exact State.gaugeLaneUp_keeps h5 ..

theorem State.laneCalibrate_keeps {r} {a1} (ha1 : Keeps r a1) (a2 a3) : Keeps r (State.laneCalibrate a1 a2 a3) := by
  unfold State.laneCalibrate
  extract_lets +onlyGivenNames _ _ _
  split
  · extract_lets +onlyGivenNames _ _ _ _
    refine pred_ite (P := Keeps r) (State.laneFault_keeps ha1 ..) ?_
    extract_lets +onlyGivenNames s8
    have h8 : Keeps r s8 := State.setFlag_keeps (State.setFld_keeps (State.setFld_keeps ha1 ..) ..) ..
    exact State.sendCtl_keeps (State.setFld_keeps h8 ..) ..

theorem State.laneTrack_keeps {r} {a1} (ha1 : Keeps r a1) (a2 a3) : Keeps r (State.laneTrack a1 a2 a3) := by
  unfold State.laneTrack
  extract_lets +onlyGivenNames _ _ _
  split
  · extract_lets +onlyGivenNames _ _
    refine pred_ite (P := Keeps r) (State.laneFault_keeps ha1 ..) ?_
    refine pred_ite (P := Keeps r) (State.laneFault_keeps ha1 ..) ?_
    extract_lets +onlyGivenNames s6
    have h6 : Keeps r s6 := State.setFld_keeps ha1 ..
    extract_lets +onlyGivenNames _
    split
    · exact pred_ite (P := Keeps r) h6 (State.sendCtl_keeps h6 ..)
    · exact h6

theorem execLaneRecalculate_keeps {r} {a3} (ha3 : Keeps r a3) (a1 a2) : KeepsX r (execLaneRecalculate a1 a2 a3) := by
  unfold execLaneRecalculate
  refine KeepsX.mk ?_
  refine pred_ite (P := Keeps r) ha3 ?_
  extract_lets +onlyGivenNames _ _ s3
  have h3 : Keeps r s3 := State.setFlag_keeps (State.setFld_keeps ha3 ..) ..
  exact pred_ite (P := Keeps r) (State.laneTrack_keeps h3 ..) (pred_ite (P := Keeps r) (State.laneCalibrate_keeps h3 ..) h3)

theorem State.fixAlign_keeps {r} {a1} (ha1 : Keeps r a1) (a2) : Keeps r (State.fixAlign a1 a2) := by
  unfold State.fixAlign
  exact forAll_keeps (fun x1 _ h2 => State.setFlag_keeps (State.setFld_keeps h2 ..) ..) (Keeps.of ha1 rfl) ..

theorem execAlignmentDelayFix_keeps {r} {a1} (ha1 : Keeps r a1) : KeepsX r (execAlignmentDelayFix a1) := by
  unfold execAlignmentDelayFix
  refine KeepsX.mk ?_
  extract_lets +onlyGivenNames _ _
  exact pred_ite (P := Keeps r) ha1 (pred_ite (P := Keeps r) (State.fixAlign_keeps ha1 ..) (State.fixAlign_keeps ha1 ..))

theorem execLaneFaultRetry_keeps {r} {a2} (ha2 : Keeps r a2) (a1) : KeepsX r (execLaneFaultRetry a1 a2) := by
  unfold execLaneFaultRetry
  refine KeepsX.mk ?_
  extract_lets +onlyGivenNames _
  exact pred_ite (P := Keeps r) (State.laneLeave_keeps (State.reach_keeps ha2 ..) ..) ha2

theorem opHlkRealign_keeps {r} {a3} (ha3 : Keeps r a3) (a1 a2) : Keeps1 r (opHlkRealign a1 a2 a3) := by
  unfold opHlkRealign
  exact hlkCmd_keeps ha3 (pred_ite (P := Keeps1 r) (Keeps1.mk (State.laneLeave_keeps ha3 ..)) (pred_ite (P := Keeps1 r)
      (Keeps1.mk (State.laneLeave_keeps ha3 ..)) (refuse_keeps ha3 ..))) ..

theorem execHlkRealign_keeps {r} {a3} (ha3 : Keeps r a3) (a1 a2) : KeepsX r (execHlkRealign a1 a2 a3) := by
  unfold execHlkRealign
  exact KeepsX.mk (ohi_keeps ha3 (opHlkRealign_keeps ha3 ..) ..)

theorem State.calibRead_keeps {r} {a1} (ha1 : Keeps r a1) (a2 a3 a4) : Keeps r (State.calibRead a1 a2 a3 a4) := by
  unfold State.calibRead
  refine pred_ite (P := Keeps r) (State.updLane_keeps ha1 ..) ?_
  refine pred_ite (P := Keeps r) ?_ ?_
  · extract_lets +onlyGivenNames s1
    have h1 : Keeps r s1 := State.updLane_keeps ha1 ..
    exact pred_ite (P := Keeps r) h1 (State.laneFault_keeps h1 ..)
  · refine pred_ite (P := Keeps r) ?_ ?_
    · extract_lets +onlyGivenNames s2
      have h2 : Keeps r s2 := State.updLane_keeps ha1 ..
      extract_lets +onlyGivenNames s3
      have h3 : Keeps r s3 := pred_foldl (P := Keeps r) _ (fun _ h4 x5 => State.setFlag_keeps h4 ..) _ h2
      exact pred_foldl (P := Keeps r) _ (fun _ h6 x7 => State.sendCtl_keeps (State.sendCtl_keeps h6 ..) ..) _ h3
    · refine pred_ite (P := Keeps r) (State.updLane_keeps (State.setFld_keeps (State.setFld_keeps ha1 ..) ..) ..) ?_
      extract_lets +onlyGivenNames _ _
      exact pred_ite (P := Keeps r) (Keeps.of ha1 rfl) (Keeps.of ha1 rfl)

theorem State.takeReadRsp_keeps {r} {a1} (ha1 : Keeps r a1) (a2 a3 a4) : Keeps r (State.takeReadRsp a1 a2 a3 a4) := by
  unfold State.takeReadRsp
  split
  · exact ha1
  · refine pred_ite (P := Keeps r) ha1 ?_
    extract_lets +onlyGivenNames s1
    have h1 : Keeps r s1 := State.updLane_keeps ha1 ..
    split
    · exact pred_ite (P := Keeps r) (State.calibRead_keeps h1 ..) h1
    · exact State.completeCmd_keeps h1 ..
    · exact h1

theorem State.takeWriteAck_keeps {r} {a1} (ha1 : Keeps r a1) (a2 a3) : Keeps r (State.takeWriteAck a1 a2 a3) := by
  unfold State.takeWriteAck
  split
  · exact ha1
  · refine pred_ite (P := Keeps r) ha1 ?_
    extract_lets +onlyGivenNames s1
    have h1 : Keeps r s1 := State.updLane_keeps ha1 ..
    split
    · extract_lets +onlyGivenNames s2
      have h2 : Keeps r s2 := State.updLane_keeps h1 ..
      exact pred_ite (P := Keeps r) (State.sendCtl_keeps h2 ..) h2
    · extract_lets +onlyGivenNames s3
      have h3 : Keeps r s3 := State.updLane_keeps h1 ..
      exact pred_ite (P := Keeps r) (State.laneAlign_keeps h3 ..) h3
    · exact State.couplingDone_keeps h1 ..
    · exact State.checkDrive_keeps h1 ..
    · exact State.completeCmd_keeps h1 ..
    · exact h1

theorem State.takeNak_keeps {r} {a1} (ha1 : Keeps r a1) (a2 a3 a4) : Keeps r (State.takeNak a1 a2 a3 a4) := by
  unfold State.takeNak
  split
  · exact ha1
  · extract_lets +onlyGivenNames s1
    have h1 : Keeps r s1 := State.updLane_keeps ha1 ..
    split
    · exact State.couplingFailed_keeps h1 ..
    · exact State.completeCmd_keeps h1 ..
    · exact h1

theorem State.takeEvent_keeps {r} {a1} (ha1 : Keeps r a1) (a2 a3) : Keeps r (State.takeEvent a1 a2 a3) := by
  unfold State.takeEvent
  exact State.updLane_keeps ha1 ..

theorem execReadRsp_keeps {r} {a5} (ha5 : Keeps r a5) (a1 a2 a3 a4) : KeepsX r (execReadRsp a1 a2 a3 a4 a5) := by
  unfold execReadRsp
  extract_lets +onlyGivenNames _
  exact KeepsX.mk (State.takeReadRsp_keeps ha5 ..)

theorem execWriteAck_keeps {r} {a4} (ha4 : Keeps r a4) (a1 a2 a3) : KeepsX r (execWriteAck a1 a2 a3 a4) := by
  unfold execWriteAck
  extract_lets +onlyGivenNames _
  exact KeepsX.mk (State.takeWriteAck_keeps ha4 ..)

theorem execNak_keeps {r} {a4} (ha4 : Keeps r a4) (a1 a2 a3) : KeepsX r (execNak a1 a2 a3 a4) := by
  unfold execNak
  exact KeepsX.mk (State.takeNak_keeps ha4 ..)

theorem execEvent_keeps {r} {a3} (ha3 : Keeps r a3) (a1 a2) : KeepsX r (execEvent a1 a2 a3) := by
  unfold execEvent
  exact KeepsX.mk (State.takeEvent_keeps ha3 ..)

theorem execControlRepeat_keeps {r} {a3} (ha3 : Keeps r a3) (a1 a2) : KeepsX r (execControlRepeat a1 a2 a3) := by
  unfold execControlRepeat
  refine KeepsX.mk ?_
  split
  · exact ha3
  · refine pred_ite (P := Keeps r) ha3 ?_
    extract_lets +onlyGivenNames s1
    have h1 : Keeps r s1 := State.reach_keeps ha3 ..
    refine pred_ite (P := Keeps r) ?_ (State.laneLeave_keeps (State.bump_keeps h1 ..) ..)
    extract_lets +onlyGivenNames _
    exact State.updLane_keeps h1 ..

theorem State.rampRefused_keeps {r} {a1} (ha1 : Keeps r a1) (a2 a3) : Keeps r (State.rampRefused a1 a2 a3) := by
  unfold State.rampRefused
  extract_lets +onlyGivenNames _
  split
  · exact ha1
  · extract_lets +onlyGivenNames s2
    have h2 : Keeps r s2 := State.bump_keeps (State.discardFrame_keeps ha1 ..) ..
    extract_lets +onlyGivenNames _ s4
    have h4 : Keeps r s4 := State.updChan_keeps h2 ..
    exact pred_ite (P := Keeps r) (State.requestState_keeps h4 ..) h4

theorem State.laneFields_keeps {r} {a1} (ha1 : Keeps r a1) (a2 a3 a4) : Keeps r (State.laneFields a1 a2 a3 a4) := by
  unfold State.laneFields
  extract_lets +onlyGivenNames _ s2
  have h2 : Keeps r s2 := State.updLane_keeps ha1 ..
  extract_lets +onlyGivenNames s3
  have h3 : Keeps r s3 := pred_ite (P := Keeps r) (State.bump_keeps h2 ..) h2
  extract_lets +onlyGivenNames s4
  have h4 : Keeps r s4 := pred_foldl (P := Keeps r) _ (fun _ h5 x6 => State.rampRefused_keeps h5 ..) _ h3
  extract_lets +onlyGivenNames _ s8
  have h8 : Keeps r s8 := State.setFld_keeps h4 ..
  refine pred_ite (P := Keeps r) ?_ h8
  split
  · exact h8
  · refine pred_ite (P := Keeps r) (State.updLane_keeps h8 ..) ?_
    extract_lets +onlyGivenNames s9
    have h9 : Keeps r s9 := State.bump_keeps h8 ..
    extract_lets +onlyGivenNames _ s11
    have h11 : Keeps r s11 := State.updLane_keeps h9 ..
    exact pred_ite (P := Keeps r) (State.laneFault_keeps h11 ..) h11

theorem State.laneGauge_keeps {r} {a1} (ha1 : Keeps r a1) (a2 a3 a4) : Keeps r (State.laneGauge a1 a2 a3 a4) := by
  unfold State.laneGauge
  exact pred_ite (P := Keeps r) (State.gaugeWord_keeps ha1 ..) ha1

theorem State.laneControl_keeps {r} {a1} (ha1 : Keeps r a1) (a2 a3) : Keeps r (State.laneControl a1 a2 a3) := by
  unfold State.laneControl
  extract_lets +onlyGivenNames _
  split
  · exact State.takeReadRsp_keeps ha1 ..
  · exact State.takeWriteAck_keeps ha1 ..
  · exact State.takeNak_keeps ha1 ..
  · exact State.takeEvent_keeps ha1 ..
  · exact ha1

theorem State.takeSamples_keeps {r} {a1} (ha1 : Keeps r a1) (a2 a3 a4 a5) : Keeps r (State.takeSamples a1 a2 a3 a4 a5) := by
  unfold State.takeSamples
  exact State.castIn_keeps (State.updChan_keeps ha1 ..) ..

theorem State.laneSamples_keeps {r} {a1} (ha1 : Keeps r a1) (a2 a3 a4) : Keeps r (State.laneSamples a1 a2 a3 a4) := by
  unfold State.laneSamples
  exact pred_foldl (P := Keeps r) _ (fun _ h1 x2 => State.takeSamples_keeps h1 ..) _ ha1

theorem State.laneTake_keeps {r} {a1} (ha1 : Keeps r a1) (a2 a3) : Keeps r (State.laneTake a1 a2 a3) := by
  unfold State.laneTake
  extract_lets +onlyGivenNames _ s2
  have h2 : Keeps r s2 := Keeps.of ha1 rfl
  extract_lets +onlyGivenNames _ s4
  have h4 : Keeps r s4 := pred_ite (P := Keeps r) (State.laneSamples_keeps h2 ..) h2
  extract_lets +onlyGivenNames s5
  have h5 : Keeps r s5 := pred_ite (P := Keeps r) (pred_foldl (P := Keeps r) _ (fun _ h6 x7 => State.laneGauge_keeps h6 ..) _
      h4) h4
  extract_lets +onlyGivenNames s8
  have h8 : Keeps r s8 := State.laneFields_keeps h5 ..
  exact pred_foldl (P := Keeps r) _ (fun _ h9 x10 => pred_ite (P := Keeps r) (State.laneControl_keeps h9 ..) h9) _ h8

theorem State.laneBad_keeps {r} {a1} (ha1 : Keeps r a1) (a2) : Keeps r (State.laneBad a1 a2) := by
  unfold State.laneBad
  refine pred_ite (P := Keeps r) ?_ ha1
  split
  · exact ha1
  · extract_lets +onlyGivenNames _ s2
    have h2 : Keeps r s2 := State.updLane_keeps ha1 ..
    exact pred_foldl (P := Keeps r) _ (fun _ h3 x4 => State.takeSamples_keeps h3 ..) _ h2

theorem State.showPort_keeps {r} {a1} (ha1 : Keeps r a1) (a2) : Keeps r (State.showPort a1 a2) := by
  unfold State.showPort
  extract_lets +onlyGivenNames _
  exact State.setFlag_keeps (State.setFld_keeps (State.setFld_keeps ha1 ..) ..) ..

theorem State.setPort_keeps {r} {a1} (ha1 : Keeps r a1) (a2 a3) : Keeps r (State.setPort a1 a2 a3) := by
  unfold State.setPort
  exact State.showPort_keeps (Keeps.of ha1 rfl) ..

theorem State.updPort_keeps {r} {a1} (ha1 : Keeps r a1) (a2 a3) : Keeps r (State.updPort a1 a2 a3) := by
  unfold State.updPort
  exact State.setPort_keeps ha1 ..

theorem State.closePort_keeps {r} {a1} (ha1 : Keeps r a1) (a2) : Keeps r (State.closePort a1 a2) := by
  unfold State.closePort
  split
  · extract_lets +onlyGivenNames s1
    have h1 : Keeps r s1 := State.setPort_keeps ha1 ..
    exact pred_ite (P := Keeps r) (State.bump_keeps h1 ..) h1

theorem State.endMessage_keeps {r} {a1} (ha1 : Keeps r a1) (a2) : Keeps r (State.endMessage a1 a2) := by
  unfold State.endMessage
  extract_lets +onlyGivenNames _
  split
  · exact State.closePort_keeps ha1 ..
  · exact pred_ite (P := Keeps r) (State.setPort_keeps ha1 ..) ha1

theorem State.drainRx_keeps {r a3} (ha3 : Keeps r a3) (a1 a2) : Keeps r (State.drainRx a1 a2 a3) := by
  induction a1 generalizing a3 with
  | zero => exact ha3
  | succ n ih =>
    unfold State.drainRx
    extract_lets _
    split
    · exact ha3
    · refine pred_ite (P := Keeps r) ha3 ?_
      extract_lets s1 _ _
      have h1 : Keeps r s1 := State.setPort_keeps ha3 ..
      exact ih (pred_ite (P := Keeps r) (State.closePort_keeps h1 ..) h1)

theorem State.giveMsg_keeps {r} {a1} (ha1 : Keeps r a1) (a2) : KeepsO r (State.giveMsg a1 a2) := by
  unfold State.giveMsg
  exact pred_ite (P := KeepsO r) (pred_ite (P := KeepsO r) KeepsO.none (KeepsO.mk (State.originate_keeps ha1 ..)))
      (State.handoverWake_keeps ha1 ..)

theorem State.giveSerial_keeps {r a3} (ha3 : Keeps r a3) (a1 a2) : Keeps r (State.giveSerial a1 a2 a3) := by
  induction a1 generalizing a3 with
  | zero => exact ha3
  | succ n ih =>
    unfold State.giveSerial
    extract_lets _
    split
    · split
      · exact ha3
      · rename_i e
        have h1 := KeepsO.out (r := r) e (State.giveMsg_keeps ha3 ..)
        exact ih (State.drainRx_keeps (State.bumpWrap_keeps (State.updPort_keeps h1 ..) ..) ..)
    · exact ha3

theorem State.storeChar_keeps {r} {a1} (ha1 : Keeps r a1) (a2 a3) : Keeps r (State.storeChar a1 a2 a3) := by
  unfold State.storeChar
  extract_lets +onlyGivenNames _
  refine pred_ite (P := Keeps r) (State.bump_keeps (State.setPort_keeps ha1 ..) ..) ?_
  extract_lets +onlyGivenNames _ s3
  have h3 : Keeps r s3 := State.setPort_keeps ha1 ..
  exact pred_ite (P := Keeps r) (State.giveSerial_keeps (State.drainRx_keeps h3 ..) ..) h3

theorem State.busChar_keeps {r} {a1} (ha1 : Keeps r a1) (a2 a3 a4) : Keeps r (State.busChar a1 a2 a3 a4) := by
  unfold State.busChar
  extract_lets +onlyGivenNames _
  refine pred_ite (P := Keeps r) ?_ (pred_ite (P := Keeps r) (State.storeChar_keeps ha1 ..) ha1)
  extract_lets +onlyGivenNames s2
  have h2 : Keeps r s2 := pred_ite (P := Keeps r) (State.giveSerial_keeps (State.endMessage_keeps ha1 ..) ..) ha1
  exact pred_ite (P := Keeps r) (State.storeChar_keeps (State.setFlag_keeps h2 ..) ..) (State.setFlag_keeps h2 ..)

theorem State.startEdge_keeps {r} {a1} (ha1 : Keeps r a1) (a2) : Keeps r (State.startEdge a1 a2) := by
  unfold State.startEdge
  extract_lets +onlyGivenNames _ s2
  have h2 : Keeps r s2 := State.setPort_keeps ha1 ..
  exact pred_ite (P := Keeps r) (State.setFlag_keeps h2 ..) h2

theorem execSerialCharacterRx_keeps {r} {a7} (ha7 : Keeps r a7) (a1 a2 a3 a4 a5 a6) :
    KeepsX r (execSerialCharacterRx a1 a2 a3 a4 a5 a6 a7) := by
  unfold execSerialCharacterRx
  refine KeepsX.mk ?_
  extract_lets +onlyGivenNames s1
  have h1 : Keeps r s1 := Keeps.of ha7 rfl
  extract_lets +onlyGivenNames _
  split
  · exact h1
  · refine pred_ite (P := Keeps r) h1 ?_
    extract_lets +onlyGivenNames s3
    have h3 : Keeps r s3 := State.startEdge_keeps h1 ..
    extract_lets +onlyGivenNames s4
    have h4 : Keeps r s4 := State.updPort_keeps h3 ..
    refine pred_ite (P := Keeps r) (State.bump_keeps h4 ..) ?_
    extract_lets +onlyGivenNames _ _ _ _ s9
    have h9 : Keeps r s9 := pred_ite (P := Keeps r) h4 (State.bump_keeps h4 ..)
    extract_lets +onlyGivenNames s10
    have h10 : Keeps r s10 := pred_ite (P := Keeps r) h9 (State.bump_keeps (State.updPort_keeps h9 ..) ..)
    exact pred_ite (P := Keeps r) (State.busChar_keeps h10 ..) (State.storeChar_keeps h10 ..)

theorem execFramingRearm_keeps {r} {a2} (ha2 : Keeps r a2) (a1) : KeepsX r (execFramingRearm a1 a2) := by
  unfold execFramingRearm
  refine KeepsX.mk ?_
  extract_lets +onlyGivenNames _
  exact pred_ite (P := Keeps r) ha2 (State.setPort_keeps (State.reach_keeps ha2 ..) ..)

theorem execSerialGapClose_keeps {r} {a2} (ha2 : Keeps r a2) (a1) : KeepsX r (execSerialGapClose a1 a2) := by
  unfold execSerialGapClose
  refine KeepsX.mk ?_
  extract_lets +onlyGivenNames _
  refine pred_ite (P := Keeps r) ha2 ?_
  extract_lets +onlyGivenNames s2
  have h2 : Keeps r s2 := State.reach_keeps ha2 ..
  exact State.giveSerial_keeps (State.endMessage_keeps h2 ..) ..

theorem State.serialDeliver_keeps {r} {a1} (ha1 : Keeps r a1) (a2 a3) : KeepsO r (State.serialDeliver a1 a2 a3) := by
  unfold State.serialDeliver
  extract_lets +onlyGivenNames _
  refine pred_ite (P := KeepsO r) KeepsO.none ?_
  extract_lets +onlyGivenNames _ _
  exact KeepsO.mk (State.setPort_keeps ha1 ..)

theorem State.startPort_keeps {r} {a1} (ha1 : Keeps r a1) (a2 a3) : Keeps r (State.startPort a1 a2 a3) := by
  unfold State.startPort
  extract_lets +onlyGivenNames _ s2
  have h2 : Keeps r s2 := State.setPort_keeps ha1 ..
  extract_lets +onlyGivenNames s3
  have h3 : Keeps r s3 := State.setFld_keeps (State.setFld_keeps h2 ..) ..
  extract_lets +onlyGivenNames s4
  have h4 : Keeps r s4 := State.setFlag_keeps (State.setFlag_keeps h3 ..) ..
  exact State.setFld_keeps (State.setFlag_keeps h4 ..) ..

theorem State.shiftDone_keeps {r} {a1} (ha1 : Keeps r a1) (a2) : Keeps r (State.shiftDone a1 a2) := by
  unfold State.shiftDone
  split
  · exact State.startPort_keeps ha1 ..
  · exact State.updPort_keeps ha1 ..

theorem State.nextChar_keeps {r} {a1} (ha1 : Keeps r a1) (a2) : Keeps r (State.nextChar a1 a2) := by
  unfold State.nextChar
  extract_lets +onlyGivenNames s1
  have h1 : Keeps r s1 := pred_ite (P := Keeps r) (State.reach_keeps ha1 ..) ha1
  extract_lets +onlyGivenNames s2
  have h2 : Keeps r s2 := State.shiftDone_keeps h1 ..
  extract_lets +onlyGivenNames _
  split
  · exact h2
  · extract_lets +onlyGivenNames _ _ _ _ s8
    have h8 : Keeps r s8 := State.setPort_keeps h2 ..
    extract_lets +onlyGivenNames s9
    have h9 : Keeps r s9 := State.setFlag_keeps h8 ..
    exact pred_ite (P := Keeps r) (State.setFlag_keeps h9 ..) h9

theorem execDeRelease_keeps {r} {a2} (ha2 : Keeps r a2) (a1) : KeepsX r (execDeRelease a1 a2) := by
  unfold execDeRelease
  refine KeepsX.mk ?_
  extract_lets +onlyGivenNames _
  refine pred_ite (P := Keeps r) ha2 ?_
  extract_lets +onlyGivenNames s2
  have h2 : Keeps r s2 := State.reach_keeps ha2 ..
  exact State.setFlag_keeps (State.shiftDone_keeps h2 ..) ..

theorem execOscStop_keeps {r} {a2} (ha2 : Keeps r a2) (a1) : KeepsX r (execOscStop a1 a2) := by
  unfold execOscStop
  refine KeepsX.mk ?_
  extract_lets +onlyGivenNames _
  exact pred_ite (P := Keeps r) (State.setFlag_keeps (State.reach_keeps ha2 ..) ..) ha2

theorem State.writeDiv_keeps {r} {a1} (ha1 : Keeps r a1) (a2 a3) : Keeps r (State.writeDiv a1 a2 a3) := by
  unfold State.writeDiv
  extract_lets +onlyGivenNames _
  exact State.setPort_keeps (State.setFld_keeps ha1 ..) ..

theorem State.readRxData_keeps {r} {a1} (ha1 : Keeps r a1) (a2) : Keeps2 r (State.readRxData a1 a2) := by
  unfold State.readRxData
  extract_lets +onlyGivenNames _
  refine pred_ite (P := Keeps2 r) ?_ (Keeps2.mk ha1)
  split
  · exact Keeps2.mk ha1
  · exact Keeps2.mk (State.setPort_keeps ha1 ..)

theorem State.writeTxData_keeps {r} {a1} (ha1 : Keeps r a1) (a2 a3) : Keeps r (State.writeTxData a1 a2 a3) := by
  unfold State.writeTxData
  extract_lets +onlyGivenNames _
  exact pred_ite (P := Keeps r) (pred_ite (P := Keeps r) (State.bump_keeps ha1 ..) (State.setPort_keeps ha1 ..)) ha1

theorem State.sealPorts_keeps {r} {a1} (ha1 : Keeps r a1) : Keeps r (State.sealPorts a1) := by
  unfold State.sealPorts
  refine forAll_keeps (fun x1 _ h2 => ?_) ha1 ..
  extract_lets +onlyGivenNames _ _
  exact pred_ite (P := Keeps r) (State.setPort_keeps h2 ..) (pred_ite (P := Keeps r) (State.startPort_keeps h2 ..)
      (State.setPort_keeps h2 ..))

theorem serCmd_keeps {r} {a1 a4} (ha1 : Keeps r a1) (ha4 : Keeps1 r a4) (a2 a3) : Keeps1 r (serCmd a1 a2 a3 a4) := by
  unfold serCmd
  exact pred_ite (P := Keeps1 r) (refuse_keeps ha1 ..) (pred_ite (P := Keeps1 r) (refuse_keeps ha1 ..) ha4)

theorem opSerQuery_keeps {r} {a3} (ha3 : Keeps r a3) (a1 a2) : Keeps1 r (opSerQuery a1 a2 a3) := by
  unfold opSerQuery
  exact serCmd_keeps ha3 (Keeps1.mk ha3) ..

theorem opSerFlush_keeps {r} {a4} (ha4 : Keeps r a4) (a1 a2 a3) : Keeps1 r (opSerFlush a1 a2 a3 a4) := by
  unfold opSerFlush
  refine pred_ite (P := Keeps1 r) (refuse_keeps ha4 ..) ?_
  refine serCmd_keeps ha4 ?_ ..
  refine pred_ite (P := Keeps1 r) (refuse_keeps ha4 ..) ?_
  extract_lets +onlyGivenNames s1
  have h1 : Keeps r s1 := pred_ite (P := Keeps r) (State.updPort_keeps ha4 ..) ha4
  extract_lets +onlyGivenNames s2
  have h2 : Keeps r s2 := pred_ite (P := Keeps r) (State.updPort_keeps h1 ..) h1
  exact Keeps1.mk h2

theorem execSerQuery_keeps {r} {a3} (ha3 : Keeps r a3) (a1 a2) : KeepsX r (execSerQuery a1 a2 a3) := by
  unfold execSerQuery
  exact KeepsX.mk (ohi_keeps ha3 (opSerQuery_keeps ha3 ..) ..)

theorem State.setGroup_keeps {r} {a1} (ha1 : Keeps r a1) (a2 a3) : Keeps r (State.setGroup a1 a2 a3) := by
  unfold State.setGroup
  exact Keeps.of ha1 rfl

theorem State.replaceQueued_keeps {r} {a1} (ha1 : Keeps r a1) (a2 a3 a4) : Keeps r (State.replaceQueued a1 a2 a3 a4) := by
  unfold State.replaceQueued
  split
  · exact ha1
  · extract_lets +onlyGivenNames s1
    have h1 : Keeps r s1 := State.bump_keeps ha1 ..
    refine pred_ite (P := Keeps r) ?_ ?_
    · extract_lets +onlyGivenNames _ _ _
      exact Keeps.of h1 rfl
    · extract_lets +onlyGivenNames _
      exact Keeps.of h1 rfl

theorem State.giveGroup_keeps {r} {a1} (ha1 : Keeps r a1) (a2) : Keeps r (State.giveGroup a1 a2) := by
  unfold State.giveGroup
  split
  · exact ha1
  · extract_lets +onlyGivenNames _
    split
    · exact State.setGroup_keeps ha1 ..
    · rename_i e2
      have h2 := KeepsO.out (r := r) e2 (State.giveMsg_keeps ha1 ..)
      exact State.setGroup_keeps h2 ..

theorem State.sendGroup_keeps {r} {a1} (ha1 : Keeps r a1) (a2) : Keeps r (State.sendGroup a1 a2) := by
  unfold State.sendGroup
  split
  · exact ha1
  · extract_lets +onlyGivenNames _ s2
    have h2 : Keeps r s2 := State.setGroup_keeps ha1 ..
    exact pred_ite (P := Keeps r) (State.bump_keeps h2 ..) (pred_ite (P := Keeps r) (State.replaceQueued_keeps h2 ..)
        (State.giveGroup_keeps h2 ..))

theorem State.acceptInput_keeps {r} {a1} (ha1 : Keeps r a1) (a2) : Keeps r (State.acceptInput a1 a2) := by
  unfold State.acceptInput
  split
  · extract_lets +onlyGivenNames _ _ s3
    have h3 : Keeps r s3 := Keeps.of ha1 rfl
    refine pred_ite (P := Keeps r) h3 ?_
    extract_lets +onlyGivenNames s4
    have h4 : Keeps r s4 := State.setFld_keeps h3 ..
    extract_lets +onlyGivenNames _ s6
    have h6 : Keeps r s6 := State.setGroup_keeps h4 ..
    exact State.sendGroup_keeps h6 ..
  · exact ha1

theorem execContactChangeAccepted_keeps {r} {a2} (ha2 : Keeps r a2) (a1) : KeepsX r (execContactChangeAccepted a1 a2) := by
  unfold execContactChangeAccepted
  refine KeepsX.mk ?_
  split
  · exact ha2
  · exact State.acceptInput_keeps (State.reach_keeps ha2 ..) ..

theorem execContactInputEdge_keeps {r} {a4} (ha4 : Keeps r a4) (a1 a2 a3) : KeepsX r (execContactInputEdge a1 a2 a3 a4) := by
  unfold execContactInputEdge
  refine KeepsX.mk ?_
  refine pred_ite (P := Keeps r) ha4 ?_
  extract_lets +onlyGivenNames s1
  have h1 : Keeps r s1 := Keeps.of ha4 rfl
  extract_lets +onlyGivenNames s2
  have h2 : Keeps r s2 := State.setFld_keeps h1 ..
  refine pred_ite (P := Keeps r) ?_ h2
  extract_lets +onlyGivenNames _
  refine pred_ite (P := Keeps r) (Keeps.of h2 rfl) ?_
  extract_lets +onlyGivenNames _ s5
  have h5 : Keeps r s5 := Keeps.of h2 rfl
  exact pred_ite (P := Keeps r) (State.acceptInput_keeps h5 ..) h5

theorem execCommandRefresh_keeps {r} {a2} (ha2 : Keeps r a2) (a1) : KeepsX r (execCommandRefresh a1 a2) := by
  unfold execCommandRefresh
  refine KeepsX.mk ?_
  split
  · exact ha2
  · exact pred_ite (P := Keeps r) (State.sendGroup_keeps (State.reach_keeps ha2 ..) ..) ha2

theorem State.setOut_keeps {r} {a1} (ha1 : Keeps r a1) (a2 a3) : Keeps r (State.setOut a1 a2 a3) := by
  unfold State.setOut
  extract_lets +onlyGivenNames _ s2
  have h2 : Keeps r s2 := Keeps.of ha1 rfl
  extract_lets +onlyGivenNames s3
  have h3 : Keeps r s3 := State.setFld_keeps h2 ..
  exact State.setFld_keeps h3 ..

theorem State.applyCommand_keeps {r} {a1} (ha1 : Keeps r a1) (a2 a3) : Keeps r (State.applyCommand a1 a2 a3) := by
  unfold State.applyCommand
  refine pred_ite (P := Keeps r) (State.bump_keeps ha1 ..) ?_
  extract_lets +onlyGivenNames _ _ _ _ _ _ _
  refine pred_ite (P := Keeps r) ?_ ?_
  · extract_lets +onlyGivenNames s8
    have h8 : Keeps r s8 := State.setGroup_keeps ha1 ..
    extract_lets +onlyGivenNames s9
    have h9 : Keeps r s9 := pred_foldl (P := Keeps r) _ (fun _ h10 x11 => State.setOut_keeps h10 ..) _ h8
    exact pred_foldl (P := Keeps r) _ (fun _ h12 x13 => State.setOut_keeps h12 ..) _ h9
  · refine pred_ite (P := Keeps r) ?_ (State.bump_keeps ha1 ..)
    extract_lets +onlyGivenNames s14
    have h14 : Keeps r s14 := State.setGroup_keeps ha1 ..
    refine pred_foldl (P := Keeps r) _ (fun _ h15 x16 => ?_) _ h14
    extract_lets +onlyGivenNames _
    exact pred_ite (P := Keeps r) (State.setOut_keeps h15 ..) h15

theorem execCommandMessage_keeps {r} {a3} (ha3 : Keeps r a3) (a1 a2) : KeepsX r (execCommandMessage a1 a2 a3) := by
  unfold execCommandMessage
  exact KeepsX.mk (pred_ite (P := Keeps r) (State.applyCommand_keeps ha3 ..) ha3)

theorem execCmdWatch_keeps {r} {a2} (ha2 : Keeps r a2) (a1) : KeepsX r (execCmdWatch a1 a2) := by
  unfold execCmdWatch
  refine KeepsX.mk ?_
  split
  · exact ha2
  · extract_lets +onlyGivenNames _
    refine pred_ite (P := Keeps r) ha2 ?_
    extract_lets +onlyGivenNames s2
    have h2 : Keeps r s2 := State.reach_keeps ha2 ..
    extract_lets +onlyGivenNames s3
    have h3 : Keeps r s3 := State.bump_keeps (State.setOut_keeps h2 ..) ..
    exact State.log_keeps h3 ..

theorem execPulseEnd_keeps {r} {a2} (ha2 : Keeps r a2) (a1) : KeepsX r (execPulseEnd a1 a2) := by
  unfold execPulseEnd
  refine KeepsX.mk ?_
  extract_lets +onlyGivenNames _
  exact pred_ite (P := Keeps r) (State.setOut_keeps (State.reach_keeps ha2 ..) ..) ha2

theorem State.endForceAs_keeps {r} {a1} (ha1 : Keeps r a1) (a2 a3) : Keeps r (State.endForceAs a1 a2 a3) := by
  unfold State.endForceAs
  extract_lets +onlyGivenNames _
  exact pred_ite (P := Keeps r) ha1 (State.log_keeps (State.setOut_keeps ha1 ..) ..)

theorem State.endForce_keeps {r} {a1} (ha1 : Keeps r a1) (a2) : Keeps r (State.endForce a1 a2) := by
  unfold State.endForce
  exact State.endForceAs_keeps ha1 ..

theorem execCmdForceEnd_keeps {r} {a2} (ha2 : Keeps r a2) (a1) : KeepsX r (execCmdForceEnd a1 a2) := by
  unfold execCmdForceEnd
  exact KeepsX.mk (pred_ite (P := Keeps r) ha2 (State.endForce_keeps (State.reach_keeps ha2 ..) ..))

theorem conCmd_keeps {r} {a1 a4} (ha1 : Keeps r a1) (ha4 : Keeps1 r a4) (a2 a3) : Keeps1 r (conCmd a1 a2 a3 a4) := by
  unfold conCmd
  exact pred_ite (P := Keeps1 r) (refuse_keeps ha1 ..) (pred_ite (P := Keeps1 r) (refuse_keeps ha1 ..) ha4)

theorem opCmdQuery_keeps {r} {a3} (ha3 : Keeps r a3) (a1 a2) : Keeps1 r (opCmdQuery a1 a2 a3) := by
  unfold opCmdQuery
  exact conCmd_keeps ha3 (Keeps1.mk ha3) ..

theorem opCmdForce_keeps {r} {a5} (ha5 : Keeps r a5) (a1 a2 a3 a4) : Keeps1 r (opCmdForce a1 a2 a3 a4 a5) := by
  unfold opCmdForce
  exact pred_ite (P := Keeps1 r) (refuse_keeps ha5 ..) (conCmd_keeps ha5 (pred_ite (P := Keeps1 r) (refuse_keeps ha5 ..)
      (pred_ite (P := Keeps1 r) (refuse_keeps ha5 ..) (Keeps1.mk (State.setOut_keeps ha5 ..)))) ..)

theorem opCmdRelease_keeps {r} {a3} (ha3 : Keeps r a3) (a1 a2) : Keeps1 r (opCmdRelease a1 a2 a3) := by
  unfold opCmdRelease
  exact conCmd_keeps ha3 (pred_ite (P := Keeps1 r) (refuse_keeps ha3 ..) (pred_ite (P := Keeps1 r) (refuse_keeps ha3 ..)
      (Keeps1.mk (State.endForce_keeps ha3 ..)))) ..

theorem execCmdQuery_keeps {r} {a3} (ha3 : Keeps r a3) (a1 a2) : KeepsX r (execCmdQuery a1 a2 a3) := by
  unfold execCmdQuery
  exact KeepsX.mk (ohi_keeps ha3 (opCmdQuery_keeps ha3 ..) ..)

theorem execCmdForce_keeps {r} {a5} (ha5 : Keeps r a5) (a1 a2 a3 a4) : KeepsX r (execCmdForce a1 a2 a3 a4 a5) := by
  unfold execCmdForce
  exact KeepsX.mk (ohi_keeps ha5 (opCmdForce_keeps ha5 ..) ..)

theorem execCmdRelease_keeps {r} {a3} (ha3 : Keeps r a3) (a1 a2) : KeepsX r (execCmdRelease a1 a2 a3) := by
  unfold execCmdRelease
  exact KeepsX.mk (ohi_keeps ha3 (opCmdRelease_keeps ha3 ..) ..)

theorem State.sealContacts_keeps {r} {a1} (ha1 : Keeps r a1) (a2) : Keeps r (State.sealContacts a1 a2) := by
  unfold State.sealContacts
  extract_lets +onlyGivenNames s1
  have h1 : Keeps r s1 := by
    unfold s1
    refine forAll_keeps (fun x2 _ h3 => ?_) ha1 ..
    extract_lets +onlyGivenNames _ _
    refine pred_ite (P := Keeps r) h3 ?_
    extract_lets +onlyGivenNames s6
    have h6 : Keeps r s6 := State.setOut_keeps (State.endForceAs_keeps h3 ..) ..
    extract_lets +onlyGivenNames _ _ s9
    have h9 : Keeps r s9 := Keeps.of h6 rfl
    extract_lets +onlyGivenNames s10
    have h10 : Keeps r s10 := State.setFld_keeps h9 ..
    extract_lets +onlyGivenNames s11
    have h11 : Keeps r s11 := State.setFld_keeps (State.setFld_keeps h10 ..) ..
    exact State.setFld_keeps (State.setFlag_keeps h11 ..) ..
  exact forAll_keeps (fun x12 _ h13 => State.setGroup_keeps h13 ..) h1 ..

end Sys2Proof.Machine
end

