-- ==== Sys2Proof/Laws/KeepsChannels.lean ====
section
/-! SUPPORT. The commands waiting and the invariant are kept by: faults, security, reception, the channels and their PHY. -/

namespace Sys2Proof.Machine

theorem State.fence_keeps {r} {a1} (ha1 : Keeps r a1) (a2 a3) : Keeps r (State.fence a1 a2 a3) := by
  unfold State.fence
  exact pred_ite (P := Keeps r) ha1 (Keeps.of ha1 rfl)

theorem State.showCap_keeps {r} {a1} (ha1 : Keeps r a1) : Keeps r (State.showCap a1) := by
  unfold State.showCap
  extract_lets +onlyGivenNames _
  exact State.setFld_keeps (State.setFld_keeps ha1 ..) ..

theorem State.emptyNext_keeps {r} {a1} (ha1 : Keeps r a1) : Keeps r (State.emptyNext a1) := by
  unfold State.emptyNext
  exact pred_foldl (P := Keeps r) _ (fun _ h1 x2 => pred_foldl (P := Keeps r) _ (fun _ h3 x4 => pred_ite (P := Keeps r) h3
      (State.setPair_keeps h3 ..)) _ h1) _ ha1

theorem State.stopFeature_keeps {r} {a1} (ha1 : Keeps r a1) (a2) : Keeps r (State.stopFeature a1 a2) := by
  unfold State.stopFeature
  refine pred_ite (P := Keeps r) (State.handDuplex_keeps (State.olaShow_keeps (State.emptyNext_keeps ha1 ..) ..) ..) ?_
  refine pred_ite (P := Keeps r) (State.handDuplex_keeps (State.olaShow_keeps ha1 ..) ..) ?_
  refine pred_ite (P := Keeps r) ?_ (pred_ite (P := Keeps r) (State.setFlag_keeps (State.olaShow_keeps ha1 ..) ..) (pred_ite (P
      := Keeps r) (State.setFlag_keeps ha1 ..) ha1))
  refine forAll_keeps (fun x1 _ h2 => ?_) ha1 ..
  extract_lets +onlyGivenNames _
  exact pred_ite (P := Keeps r) (State.invalidate_keeps h2 ..) h2

theorem State.dropFeature_keeps {r} {a1} (ha1 : Keeps r a1) (a2) : Keeps r (State.dropFeature a1 a2) := by
  unfold State.dropFeature
  exact pred_ite (P := Keeps r) (State.stopFeature_keeps (State.withdraw_keeps ha1 ..) ..) ha1

theorem State.showBobs_keeps {r} {a1} (ha1 : Keeps r a1) : Keeps r (State.showBobs a1) := by
  unfold State.showBobs
  extract_lets +onlyGivenNames _
  exact State.setFld_keeps (State.setFld_keeps ha1 ..) ..

theorem State.setBob_keeps {r} {a1} (ha1 : Keeps r a1) (a2 a3) : Keeps r (State.setBob a1 a2 a3) := by
  unfold State.setBob
  exact State.showBobs_keeps (Keeps.of ha1 rfl) ..

theorem execBobbinFault_keeps {r} {a3} (ha3 : Keeps r a3) (a1 a2) : KeepsX r (execBobbinFault a1 a2 a3) := by
  unfold execBobbinFault
  exact KeepsX.mk (pred_ite (P := Keeps r) ha3 (State.setBob_keeps ha3 ..))

theorem State.fenceBob_keeps {r} {a1} (ha1 : Keeps r a1) (a2 a3) : Keeps r (State.fenceBob a1 a2 a3) := by
  unfold State.fenceBob
  extract_lets +onlyGivenNames _ s2
  have h2 : Keeps r s2 := State.log_keeps (State.fence_keeps (State.setBob_keeps ha1 ..) ..) ..
  refine pred_ite (P := Keeps r) h2 ?_
  refine pred_ite (P := Keeps r) (Keeps.of h2 rfl) ?_
  split
  · exact State.setBob_keeps h2 ..
  · exact pred_ite (P := Keeps r) h2 (State.request_keeps h2 ..)

theorem State.bobSlot_keeps {r} {a1} (ha1 : Keeps r a1) : Keeps r (State.bobSlot a1) := by
  unfold State.bobSlot
  exact pred_foldl (P := Keeps r) _ (fun _ h1 x2 => State.fenceBob_keeps h1 ..) _ ha1

theorem execBobMove_keeps {r} {a2} (ha2 : Keeps r a2) (a1) : KeepsX r (execBobMove a1 a2) := by
  unfold execBobMove
  refine KeepsX.mk ?_
  refine pred_ite (P := Keeps r) ?_ ha2
  extract_lets +onlyGivenNames _ _ s3
  have h3 : Keeps r s3 := Keeps.of ha2 rfl
  split
  · exact State.log_keeps (State.setBob_keeps (State.setBob_keeps h3 ..) ..) ..
  · extract_lets +onlyGivenNames s4
    have h4 : Keeps r s4 := State.log_keeps (State.setBob_keeps h3 ..) ..
    exact pred_foldl (P := Keeps r) _ (fun _ h5 x6 => pred_ite (P := Keeps r) h5 (State.requestState_keeps h5 ..)) _ h4

theorem State.sealBobs_keeps {r} {a1} (ha1 : Keeps r a1) : Keeps r (State.sealBobs a1) := by
  unfold State.sealBobs
  extract_lets +onlyGivenNames _ s2
  have h2 : Keeps r s2 := Keeps.of ha1 rfl
  refine State.showBobs_keeps ?_ ..
  refine forAll_keeps (fun x3 _ h4 => ?_) h2 ..
  extract_lets +onlyGivenNames _
  split
  · extract_lets +onlyGivenNames _
    exact Keeps.of h4 rfl
  · extract_lets +onlyGivenNames _
    exact Keeps.of h4 rfl

theorem opBobQuery_keeps {r} {a3} (ha3 : Keeps r a3) (a1 a2) : Keeps1 r (opBobQuery a1 a2 a3) := by
  unfold opBobQuery
  exact pred_ite (P := Keeps1 r) (refuse_keeps ha3 ..) (pred_ite (P := Keeps1 r) (refuse_keeps ha3 ..) (Keeps1.mk ha3))

theorem opHbmQuery_keeps {r} {a2} (ha2 : Keeps r a2) (a1) : Keeps1 r (opHbmQuery a1 a2) := by
  unfold opHbmQuery
  exact pred_ite (P := Keeps1 r) (refuse_keeps ha2 ..) (pred_ite (P := Keeps1 r) (refuse_keeps ha2 ..) (Keeps1.mk ha2))

theorem execBobQuery_keeps {r} {a3} (ha3 : Keeps r a3) (a1 a2) : KeepsX r (execBobQuery a1 a2 a3) := by
  unfold execBobQuery
  exact KeepsX.mk (ohi_keeps ha3 (opBobQuery_keeps ha3 ..) ..)

theorem execHbmQuery_keeps {r} {a2} (ha2 : Keeps r a2) (a1) : KeepsX r (execHbmQuery a1 a2) := by
  unfold execHbmQuery
  exact KeepsX.mk (ohi_keeps ha2 (opHbmQuery_keeps ha2 ..) ..)

theorem State.memFail_keeps {r} {a1} (ha1 : Keeps r a1) : Keeps r (State.memFail a1) := by
  unfold State.memFail
  refine pred_ite (P := Keeps r) ha1 ?_
  extract_lets +onlyGivenNames s1
  have h1 : Keeps r s1 := State.setFld_keeps (State.setFlag_keeps ha1 ..) ..
  extract_lets +onlyGivenNames s2
  have h2 : Keeps r s2 := pred_foldl (P := Keeps r) _ (fun _ h3 x4 => pred_ite (P := Keeps r) (State.request_keeps h3 ..)
      (State.dropFeature_keeps h3 ..)) _ h1
  exact forAll_keeps (fun x5 _ h6 => pred_ite (P := Keeps r) h6 (State.requestState_keeps h6 ..)) h2 ..

theorem execMemFence_keeps {r} {a1} (ha1 : Keeps r a1) : KeepsX r (execMemFence a1) := by
  unfold execMemFence
  exact KeepsX.mk (State.memFail_keeps ha1 ..)

theorem State.olaEcc_keeps {r} {a1} (ha1 : Keeps r a1) (a2) : Keeps r (State.olaEcc a1 a2) := by
  unfold State.olaEcc
  extract_lets +onlyGivenNames _ s2
  have h2 : Keeps r s2 := by
    unfold s2
    refine pred_foldl (P := Keeps r) _ (fun _ h3 x4 => ?_) _ ha1
    extract_lets +onlyGivenNames _ _
    refine pred_ite (P := Keeps r) ?_ h3
    extract_lets +onlyGivenNames _ _
    refine pred_ite (P := Keeps r) h3 ?_
    extract_lets +onlyGivenNames _
    exact State.log_keeps (State.bump_keeps (State.request_keeps h3 ..) ..) ..
  exact Keeps.of h2 rfl

theorem State.pick_keeps {α : Type} {r a2} (ha2 : Keeps r a2) (a3 : List α) : Keeps2 r (State.pick a2 a3) := by
  unfold State.pick
  split
  rename_i e
  exact Keeps2.mk (Keeps2.out (r := r) e (State.drawFree_keeps ha2))

theorem State.dlvEcc_keeps {r} {a1} (ha1 : Keeps r a1) : Keeps r (State.dlvEcc a1) := by
  unfold State.dlvEcc
  split
  · rename_i e1
    have h1 := Keeps2.out (r := r) e1 (State.pick_keeps ha1 ..)
    split
    · exact State.abandonSegs_keeps h1 ..
    · split
      · rename_i e2
        have h2 := Keeps2.out (r := r) e2 (State.pick_keeps h1 ..)
        extract_lets +onlyGivenNames s3
        have h3 : Keeps r s3 := by
          unfold s3
          split
          · exact State.giveDesc_keeps h2 ..
          · exact h2
        exact State.bump_keeps (Keeps.of h3 rfl) ..
      · rename_i e4
        have h4 := Keeps2.out (r := r) e4 (State.pick_keeps h1 ..)
        exact h4
    · exact h1

theorem State.memClient_keeps {r} {a1} (ha1 : Keeps r a1) (a2 a3) : Keeps r (State.memClient a1 a2 a3) := by
  unfold State.memClient
  split
  · exact State.olaEcc_keeps ha1 ..
  · exact State.dlvEcc_keeps ha1 ..
  · exact State.bump_keeps ha1 ..
  · split
    · rename_i e1
      have h1 := Keeps2.out (r := r) e1 (State.pick_keeps ha1 ..)
      split
      · exact Keeps.of h1 rfl
      · exact h1
  · split
    · rename_i e2
      have h2 := Keeps2.out (r := r) e2 (State.pick_keeps ha1 ..)
      split
      · exact State.bump_keeps (State.freeRec_keeps h2 ..) ..
      · exact h2
  · split
    · exact ha1
    · split
      · rename_i e3
        have h3 := Keeps2.out (r := r) e3 (State.drawFree_keeps ha1 ..)
        extract_lets +onlyGivenNames _
        exact State.updChan_keeps h3 ..
  · split
    · rename_i e5
      have h5 := Keeps2.out (r := r) e5 (State.pick_keeps ha1 ..)
      split
      · split
        · rename_i e6
          have h6 := Keeps2.out (r := r) e6 (State.drawFree_keeps h5 ..)
          extract_lets +onlyGivenNames _ _
          exact Keeps.of h6 rfl
      · exact h5
  · split
    · rename_i e9
      have h9 := Keeps2.out (r := r) e9 (State.pick_keeps ha1 ..)
      split
      · exact Keeps.of h9 rfl
      · exact h9

theorem execHbmUe_keeps {r} {a3} (ha3 : Keeps r a3) (a1 a2) : KeepsX r (execHbmUe a1 a2 a3) := by
  unfold execHbmUe
  refine KeepsX.mk ?_
  refine pred_ite (P := Keeps r) ha3 ?_
  extract_lets +onlyGivenNames s1
  have h1 : Keeps r s1 := State.log_keeps (State.bump_keeps ha3 ..) ..
  extract_lets +onlyGivenNames _ _ s4
  have h4 : Keeps r s4 := Keeps.of h1 rfl
  extract_lets +onlyGivenNames s5
  have h5 : Keeps r s5 := State.memClient_keeps h4 ..
  exact pred_ite (P := Keeps r) (State.memFail_keeps h5 ..) h5

theorem execHbmRecalibration_keeps {r} {a2} (ha2 : Keeps r a2) (a1) : KeepsX r (execHbmRecalibration a1 a2) := by
  unfold execHbmRecalibration
  refine KeepsX.mk ?_
  refine pred_ite (P := Keeps r) ha2 ?_
  extract_lets +onlyGivenNames _ _ s3
  have h3 : Keeps r s3 := Keeps.of ha2 rfl
  exact pred_ite (P := Keeps r) (State.bump_keeps h3 ..) h3

theorem State.snapSlot_keeps {r} {a1} (ha1 : Keeps r a1) : Keeps2 r (State.snapSlot a1) := by
  unfold State.snapSlot
  split
  · exact Keeps2.mk ha1
  · refine pred_ite (P := Keeps2 r) (Keeps2.mk ha1) ?_
    extract_lets +onlyGivenNames _
    refine pred_ite (P := Keeps2 r) ?_ (Keeps2.mk (Keeps.of ha1 rfl))
    refine Keeps2.mk ?_
    refine State.bump_keeps ?_ ..
    exact Keeps.of ha1 rfl

theorem State.scrubSlot_keeps {r} {a1} (ha1 : Keeps r a1) (a2 a3) : Keeps r (State.scrubSlot a1 a2 a3) := by
  unfold State.scrubSlot
  extract_lets +onlyGivenNames _
  refine pred_ite (P := Keeps r) ha1 ?_
  extract_lets +onlyGivenNames _ _ _ s5
  have h5 : Keeps r s5 := pred_ite (P := Keeps r) (State.bump_keeps ha1 ..) ha1
  extract_lets +onlyGivenNames s6
  have h6 : Keeps r s6 := State.bumpN_keeps h5 ..
  extract_lets +onlyGivenNames _ _ _ s10
  have h10 : Keeps r s10 := Keeps.of h6 rfl
  extract_lets +onlyGivenNames s11
  have h11 : Keeps r s11 := State.setFld_keeps h10 ..
  exact State.setFld_keeps h11 ..

theorem State.memSlot_keeps {r} {a1} (ha1 : Keeps r a1) (a2) : Keeps2 r (State.memSlot a1 a2) := by
  unfold State.memSlot
  split
  · rename_i e1
    have h1 := Keeps2.out (r := r) e1 (State.drawFree_keeps ha1 ..)
    extract_lets +onlyGivenNames _ _ _ _ _ _ _ s9
    have h9 : Keeps r s9 := State.bumpN_keeps h1 ..
    extract_lets +onlyGivenNames s10
    have h10 : Keeps r s10 := State.bumpN_keeps h9 ..
    exact Keeps2.mk (State.castRefill_keeps h10 ..)

theorem State.flashLog_keeps {r} {a1} (ha1 : Keeps r a1) (a2 a3) : Keeps r (State.flashLog a1 a2 a3) := by
  unfold State.flashLog
  refine pred_ite (P := Keeps r) ?_ ?_
  · extract_lets +onlyGivenNames _ _
    exact Keeps.of ha1 rfl
  · split
    · rename_i e3
      have h3 := Keeps2.out (r := r) e3 (State.drawFree_keeps ha1 ..)
      extract_lets +onlyGivenNames _ s5
      have h5 : Keeps r s5 := Keeps.of h3 rfl
      exact State.log_keeps (State.setFld_keeps h5 ..) ..

theorem execLogFlashWrite_keeps {r} {a2} (ha2 : Keeps r a2) (a1) : KeepsX r (execLogFlashWrite a1 a2) := by
  unfold execLogFlashWrite
  exact KeepsX.mk (pred_ite (P := Keeps r) ha2 (State.flashLog_keeps ha2 ..))

theorem execPipeFence_keeps {r} {a2} (ha2 : Keeps r a2) (a1) : KeepsX r (execPipeFence a1 a2) := by
  unfold execPipeFence
  refine KeepsX.mk ?_
  refine pred_ite (P := Keeps r) ha2 ?_
  extract_lets +onlyGivenNames s1
  have h1 : Keeps r s1 := State.fence_keeps (State.setFlag_keeps ha2 ..) ..
  exact pred_foldl (P := Keeps r) _ (fun _ h2 x3 => pred_ite (P := Keeps r) h2 (State.requestState_keeps h2 ..)) _ h1

theorem State.fenceUnit_keeps {r} {a1} (ha1 : Keeps r a1) (a2 a3) : Keeps r (State.fenceUnit a1 a2 a3) := by
  unfold State.fenceUnit
  refine pred_ite (P := Keeps r) ha1 ?_
  extract_lets +onlyGivenNames _ s2
  have h2 : Keeps r s2 := State.showCap_keeps (State.setFld_keeps (State.fence_keeps ha1 ..) ..) ..
  extract_lets +onlyGivenNames s3
  have h3 : Keeps r s3 := State.log_keeps h2 ..
  extract_lets +onlyGivenNames _ _ s6
  have h6 : Keeps r s6 := Keeps.of h3 rfl
  exact pred_ite (P := Keeps r) (State.dropFeature_keeps h6 ..) h6

theorem execCodUnitFenced_keeps {r} {a3} (ha3 : Keeps r a3) (a1 a2) : KeepsX r (execCodUnitFenced a1 a2 a3) := by
  unfold execCodUnitFenced
  exact KeepsX.mk (pred_ite (P := Keeps r) ha3 (pred_ite (P := Keeps r) (State.request_keeps ha3 ..) (State.fenceUnit_keeps ha3
      ..)))

theorem State.unfence_keeps {r} {a1} (ha1 : Keeps r a1) (a2 a3) : Keeps r (State.unfence a1 a2 a3) := by
  unfold State.unfence
  exact Keeps.of ha1 rfl

theorem State.unfenceUnit_keeps {r} {a1} (ha1 : Keeps r a1) (a2 a3) : Keeps r (State.unfenceUnit a1 a2 a3) := by
  unfold State.unfenceUnit
  refine pred_ite (P := Keeps r) ?_ ha1
  extract_lets +onlyGivenNames _
  exact State.showCap_keeps (State.setFld_keeps (State.unfence_keeps ha1 ..) ..) ..

theorem execHostPortFail_keeps {r} {a2} (ha2 : Keeps r a2) (a1) : KeepsX r (execHostPortFail a1 a2) := by
  unfold execHostPortFail
  refine KeepsX.mk ?_
  refine pred_ite (P := Keeps r) ha2 ?_
  extract_lets +onlyGivenNames _ s2
  have h2 : Keeps r s2 := by unfold s2; exact State.fence_keeps (Keeps.of ha2 rfl) ..
  extract_lets +onlyGivenNames s3
  have h3 : Keeps r s3 := State.setFlag_keeps (State.setFlag_keeps (State.setFlag_keeps h2 ..) ..) ..
  exact pred_ite (P := Keeps r) (State.request_keeps h3 ..) (State.dropFeature_keeps h3 ..)

theorem State.updSec_keeps {r} {a1} (ha1 : Keeps r a1) (a2) : Keeps r (State.updSec a1 a2) := by
  unfold State.updSec
  exact Keeps.of ha1 rfl

theorem State.showOwner_keeps {r} {a1} (ha1 : Keeps r a1) : Keeps r (State.showOwner a1) := by
  unfold State.showOwner
  exact State.setFld_keeps (State.setFlag_keeps ha1 ..) ..

theorem opSecQuery_keeps {r} {a1} (ha1 : Keeps r a1) : Keeps1 r (opSecQuery a1) := by unfold opSecQuery; exact Keeps1.mk ha1

theorem pnl0_keeps {r} {a1 a3} (ha1 : Keeps r a1) (ha3 : Keeps1 r a3) (a2) : Keeps1 r (pnl0 a1 a2 a3) := by
  unfold pnl0
  exact pred_ite (P := Keeps1 r) ha3 (refuse_keeps ha1 ..)

theorem opSecStage_keeps {r} {a4} (ha4 : Keeps r a4) (a1 a2 a3) : Keeps1 r (opSecStage a1 a2 a3 a4) := by
  unfold opSecStage
  refine pred_ite (P := Keeps1 r) (refuse_keeps ha4 ..) ?_
  refine pnl0_keeps ha4 ?_ ..
  extract_lets +onlyGivenNames _ _
  exact Keeps1.mk (State.updSec_keeps ha4 ..)

theorem State.blowOwner_keeps {r} {a1} (ha1 : Keeps r a1) (a2 a3) : Keeps r (State.blowOwner a1 a2 a3) := by
  unfold State.blowOwner
  exact State.showOwner_keeps (State.updSec_keeps ha1 ..) ..

theorem State.revokeOwner_keeps {r} {a1} (ha1 : Keeps r a1) (a2) : Keeps r (State.revokeOwner a1 a2) := by
  unfold State.revokeOwner
  exact State.showOwner_keeps (State.updSec_keeps ha1 ..) ..

theorem opSecEnrol_keeps {r} {a3} (ha3 : Keeps r a3) (a1 a2) : Keeps1 r (opSecEnrol a1 a2 a3) := by
  unfold opSecEnrol
  extract_lets +onlyGivenNames _ _ _ _
  refine pred_ite (P := Keeps1 r) (refuse_keeps ha3 ..) ?_
  refine pnl0_keeps ha3 ?_ ..
  refine pred_ite (P := Keeps1 r) (refuse_keeps ha3 ..) ?_
  refine pred_ite (P := Keeps1 r) (refuse_keeps ha3 ..) ?_
  refine pred_ite (P := Keeps1 r) ?_ ?_
  · refine pred_ite (P := Keeps1 r) (refuse_keeps ha3 ..) ?_
    refine pred_ite (P := Keeps1 r) (refuse_keeps ha3 ..) ?_
    split
    · exact refuse_keeps ha3 ..
    · exact Keeps1.mk (State.blowOwner_keeps ha3 ..)
  · split
    · exact refuse_keeps ha3 ..
    · split
      · exact refuse_keeps ha3 ..
      · exact pred_ite (P := Keeps1 r) (Keeps1.mk (State.revokeOwner_keeps (State.blowOwner_keeps ha3 ..) ..)) (refuse_keeps
            ha3 ..)

theorem opSecFwWrite_keeps {r} {a3} (ha3 : Keeps r a3) (a1 a2) : Keeps1 r (opSecFwWrite a1 a2 a3) := by
  unfold opSecFwWrite
  extract_lets +onlyGivenNames _ _
  refine pred_ite (P := Keeps1 r) (refuse_keeps ha3 ..) ?_
  refine pnl0_keeps ha3 ?_ ..
  extract_lets +onlyGivenNames _ _
  exact Keeps1.mk (State.updSec_keeps ha3 ..)

theorem opSecFwCommit_keeps {r} {a3} (ha3 : Keeps r a3) (a1 a2) : Keeps1 r (opSecFwCommit a1 a2 a3) := by
  unfold opSecFwCommit
  refine pred_ite (P := Keeps1 r) (refuse_keeps ha3 ..) ?_
  refine pnl0_keeps ha3 ?_ ..
  extract_lets +onlyGivenNames _ _ _
  exact Keeps1.mk (State.updSec_keeps ha3 ..)

theorem opSecRollbackAdvance_keeps {r} {a3} (ha3 : Keeps r a3) (a1 a2) : Keeps1 r (opSecRollbackAdvance a1 a2 a3) := by
  unfold opSecRollbackAdvance
  extract_lets +onlyGivenNames _ _
  exact pred_ite (P := Keeps1 r) (refuse_keeps ha3 ..) (pnl0_keeps ha3 (pred_ite (P := Keeps1 r) (refuse_keeps ha3 ..)
      (pred_ite (P := Keeps1 r) (pred_ite (P := Keeps1 r) (refuse_keeps ha3 ..) (Keeps1.mk (State.setFld_keeps ha3 ..)))
      (pred_ite (P := Keeps1 r) (refuse_keeps ha3 ..) (Keeps1.mk (State.setFld_keeps ha3 ..))))) ..)

theorem opSecAttest_keeps {r} {a2} (ha2 : Keeps r a2) (a1) : Keeps1 r (opSecAttest a1 a2) := by
  unfold opSecAttest
  refine pred_ite (P := Keeps1 r) (refuse_keeps ha2 ..) ?_
  extract_lets +onlyGivenNames _ _ _
  exact Keeps1.mk (State.updSec_keeps ha2 ..)

theorem opSecRead_keeps {r} {a2} (ha2 : Keeps r a2) (a1) : Keeps1 r (opSecRead a1 a2) := by
  unfold opSecRead
  extract_lets +onlyGivenNames _ _
  exact pred_ite (P := Keeps1 r) (refuse_keeps ha2 ..) (Keeps1.mk ha2)

theorem opSecDebugChallenge_keeps {r} {a3} (ha3 : Keeps r a3) (a1 a2) : Keeps1 r (opSecDebugChallenge a1 a2 a3) := by
  unfold opSecDebugChallenge
  refine pred_ite (P := Keeps1 r) (refuse_keeps ha3 ..) ?_
  refine pred_ite (P := Keeps1 r) (refuse_keeps ha3 ..) ?_
  split
  · rename_i e1
    have h1 := Keeps2.out (r := r) e1 (State.drawBelow_keeps ha3 ..)
    extract_lets +onlyGivenNames _
    exact Keeps1.mk (State.updSec_keeps h1 ..)

theorem State.closeDebug_keeps {r} {a1} (ha1 : Keeps r a1) : Keeps r (State.closeDebug a1) := by
  unfold State.closeDebug
  exact State.updSec_keeps (State.setFld_keeps (State.setFlag_keeps ha1 ..) ..) ..

theorem opSecDebugOpen_keeps {r} {a3} (ha3 : Keeps r a3) (a1 a2) : Keeps1 r (opSecDebugOpen a1 a2 a3) := by
  unfold opSecDebugOpen
  extract_lets +onlyGivenNames _ _ _ _ _ _
  refine pred_ite (P := Keeps1 r) (refuse_keeps ha3 ..) ?_
  refine pnl0_keeps ha3 ?_ ..
  extract_lets +onlyGivenNames _ s8
  have h8 : Keeps r s8 := State.updSec_keeps ha3 ..
  refine pred_ite (P := Keeps1 r) (Keeps1.mk (State.bump_keeps h8 ..)) ?_
  extract_lets +onlyGivenNames s9
  have h9 : Keeps r s9 := pred_ite (P := Keeps r) (State.clearKeys_keeps h8 ..) h8
  extract_lets +onlyGivenNames s10
  have h10 : Keeps r s10 := State.updSec_keeps (State.setFld_keeps (State.setFlag_keeps h9 ..) ..) ..
  exact Keeps1.mk (State.log_keeps h10 ..)

theorem opSecKeySet_keeps {r} {a3} (ha3 : Keeps r a3) (a1 a2) : Keeps1 r (opSecKeySet a1 a2 a3) := by
  unfold opSecKeySet
  extract_lets +onlyGivenNames _
  exact pred_ite (P := Keeps1 r) (refuse_keeps ha3 ..) (pred_ite (P := Keeps1 r) (refuse_keeps ha3 ..) (pred_ite (P := Keeps1
      r) (refuse_keeps ha3 ..) (Keeps1.mk (State.updSec_keeps ha3 ..))))

theorem opSecKeyClear_keeps {r} {a3} (ha3 : Keeps r a3) (a1 a2) : Keeps1 r (opSecKeyClear a1 a2 a3) := by
  unfold opSecKeyClear
  extract_lets +onlyGivenNames _
  exact pred_ite (P := Keeps1 r) (refuse_keeps ha3 ..) (pred_ite (P := Keeps1 r) (refuse_keeps ha3 ..) (pred_ite (P := Keeps1
      r) (refuse_keeps ha3 ..) (Keeps1.mk (State.updSec_keeps ha3 ..))))

theorem opSecKeyTx_keeps {r} {a3} (ha3 : Keeps r a3) (a1 a2) : Keeps1 r (opSecKeyTx a1 a2 a3) := by
  unfold opSecKeyTx
  extract_lets +onlyGivenNames _ _
  exact pred_ite (P := Keeps1 r) (refuse_keeps ha3 ..) (pred_ite (P := Keeps1 r) (refuse_keeps ha3 ..) (pred_ite (P := Keeps1
      r) (Keeps1.mk (State.updSec_keeps ha3 ..)) (pred_ite (P := Keeps1 r) (refuse_keeps ha3 ..) (Keeps1.mk (State.updSec_keeps
      ha3 ..)))))

theorem opSecOhiKey_keeps {r} {a3} (ha3 : Keeps r a3) (a1 a2) : Keeps1 r (opSecOhiKey a1 a2 a3) := by
  unfold opSecOhiKey
  extract_lets +onlyGivenNames _
  exact pred_ite (P := Keeps1 r) (refuse_keeps ha3 ..) (pred_ite (P := Keeps1 r) (refuse_keeps ha3 ..) (Keeps1.mk
      (State.updSec_keeps ha3 ..)))

theorem opSecTamperClear_keeps {r} {a3} (ha3 : Keeps r a3) (a1 a2) : Keeps1 r (opSecTamperClear a1 a2 a3) := by
  unfold opSecTamperClear
  exact pred_ite (P := Keeps1 r) (refuse_keeps ha3 ..) (pnl0_keeps ha3 (pred_ite (P := Keeps1 r) (refuse_keeps ha3 ..)
      (Keeps1.mk (State.updSec_keeps (State.setFlag_keeps (State.setFlag_keeps ha3 ..) ..) ..))) ..)

theorem State.stopChannel_keeps {r} {a1} (ha1 : Keeps r a1) (a2) : Keeps r (State.stopChannel a1 a2) := by
  unfold State.stopChannel
  extract_lets +onlyGivenNames s1
  have h1 : Keeps r s1 := State.releaseRecs_keeps ha1 ..
  exact pred_ite (P := Keeps r) h1 (State.requestState_keeps h1 ..)

theorem State.tamperAct_keeps {r} {a1} (ha1 : Keeps r a1) : Keeps r (State.tamperAct a1) := by
  unfold State.tamperAct
  extract_lets +onlyGivenNames _ s2
  have h2 : Keeps r s2 := pred_ite (P := Keeps r) ha1 (State.closeDebug_keeps (State.updSec_keeps (State.clearKeys_keeps ha1
      ..) ..) ..)
  exact pred_ite (P := Keeps r) h2 (forAll_keeps (fun x3 _ h4 => State.stopChannel_keeps h4 ..) (State.updSec_keeps h2 ..) ..)

theorem execTamperOpen_keeps {r} {a1} (ha1 : Keeps r a1) : KeepsX r (execTamperOpen a1) := by
  unfold execTamperOpen
  refine KeepsX.mk ?_
  refine pred_ite (P := Keeps r) ha1 ?_
  extract_lets +onlyGivenNames s1
  have h1 : Keeps r s1 := State.setFlag_keeps (State.setFlag_keeps (State.setFlag_keeps ha1 ..) ..) ..
  extract_lets +onlyGivenNames s2
  have h2 : Keeps r s2 := pred_ite (P := Keeps r) (State.updSec_keeps h1 ..) (State.log_keeps h1 ..)
  exact State.tamperAct_keeps h2 ..

theorem execTamperLoopClosed_keeps {r} {a1} (ha1 : Keeps r a1) : KeepsX r (execTamperLoopClosed a1) := by
  unfold execTamperLoopClosed
  exact KeepsX.mk (State.setFlag_keeps ha1 ..)

theorem execDebugClose_keeps {r} {a1} (ha1 : Keeps r a1) : KeepsX r (execDebugClose a1) := by
  unfold execDebugClose
  refine KeepsX.mk ?_
  refine pred_ite (P := Keeps r) ?_ ha1
  extract_lets +onlyGivenNames s1
  have h1 : Keeps r s1 := Keeps.of ha1 rfl
  exact State.closeDebug_keeps h1 ..

theorem execSecQuery_keeps {r} {a2} (ha2 : Keeps r a2) (a1) : KeepsX r (execSecQuery a1 a2) := by
  unfold execSecQuery
  exact KeepsX.mk (ohi_keeps ha2 (opSecQuery_keeps ha2 ..) ..)

theorem execSecStage_keeps {r} {a4} (ha4 : Keeps r a4) (a1 a2 a3) : KeepsX r (execSecStage a1 a2 a3 a4) := by
  unfold execSecStage
  exact KeepsX.mk (ohi_keeps ha4 (opSecStage_keeps ha4 ..) ..)

theorem execSecEnrol_keeps {r} {a3} (ha3 : Keeps r a3) (a1 a2) : KeepsX r (execSecEnrol a1 a2 a3) := by
  unfold execSecEnrol
  exact KeepsX.mk (ohi_keeps ha3 (opSecEnrol_keeps ha3 ..) ..)

theorem execSecFwWrite_keeps {r} {a3} (ha3 : Keeps r a3) (a1 a2) : KeepsX r (execSecFwWrite a1 a2 a3) := by
  unfold execSecFwWrite
  exact KeepsX.mk (ohi_keeps ha3 (opSecFwWrite_keeps ha3 ..) ..)

theorem execSecFwCommit_keeps {r} {a3} (ha3 : Keeps r a3) (a1 a2) : KeepsX r (execSecFwCommit a1 a2 a3) := by
  unfold execSecFwCommit
  exact KeepsX.mk (ohi_keeps ha3 (opSecFwCommit_keeps ha3 ..) ..)

theorem execSecRollbackAdvance_keeps {r} {a3} (ha3 : Keeps r a3) (a1 a2) : KeepsX r (execSecRollbackAdvance a1 a2 a3) := by
  unfold execSecRollbackAdvance
  exact KeepsX.mk (ohi_keeps ha3 (opSecRollbackAdvance_keeps ha3 ..) ..)

theorem execSecAttest_keeps {r} {a3} (ha3 : Keeps r a3) (a1 a2) : KeepsX r (execSecAttest a1 a2 a3) := by
  unfold execSecAttest
  exact KeepsX.mk (ohi_keeps ha3 (opSecAttest_keeps ha3 ..) ..)

theorem execSecRead_keeps {r} {a3} (ha3 : Keeps r a3) (a1 a2) : KeepsX r (execSecRead a1 a2 a3) := by
  unfold execSecRead
  exact KeepsX.mk (ohi_keeps ha3 (opSecRead_keeps ha3 ..) ..)

theorem execSecDebugChallenge_keeps {r} {a3} (ha3 : Keeps r a3) (a1 a2) : KeepsX r (execSecDebugChallenge a1 a2 a3) := by
  unfold execSecDebugChallenge
  exact KeepsX.mk (ohi_keeps ha3 (opSecDebugChallenge_keeps ha3 ..) ..)

theorem execSecDebugOpen_keeps {r} {a3} (ha3 : Keeps r a3) (a1 a2) : KeepsX r (execSecDebugOpen a1 a2 a3) := by
  unfold execSecDebugOpen
  exact KeepsX.mk (ohi_keeps ha3 (opSecDebugOpen_keeps ha3 ..) ..)

theorem execSecKeySet_keeps {r} {a3} (ha3 : Keeps r a3) (a1 a2) : KeepsX r (execSecKeySet a1 a2 a3) := by
  unfold execSecKeySet
  exact KeepsX.mk (ohi_keeps ha3 (opSecKeySet_keeps ha3 ..) ..)

theorem execSecKeyTx_keeps {r} {a3} (ha3 : Keeps r a3) (a1 a2) : KeepsX r (execSecKeyTx a1 a2 a3) := by
  unfold execSecKeyTx
  exact KeepsX.mk (ohi_keeps ha3 (opSecKeyTx_keeps ha3 ..) ..)

theorem execSecKeyClear_keeps {r} {a3} (ha3 : Keeps r a3) (a1 a2) : KeepsX r (execSecKeyClear a1 a2 a3) := by
  unfold execSecKeyClear
  exact KeepsX.mk (ohi_keeps ha3 (opSecKeyClear_keeps ha3 ..) ..)

theorem execSecOhiKey_keeps {r} {a3} (ha3 : Keeps r a3) (a1 a2) : KeepsX r (execSecOhiKey a1 a2 a3) := by
  unfold execSecOhiKey
  exact KeepsX.mk (ohi_keeps ha3 (opSecOhiKey_keeps ha3 ..) ..)

theorem execSecTamperClear_keeps {r} {a3} (ha3 : Keeps r a3) (a1 a2) : KeepsX r (execSecTamperClear a1 a2 a3) := by
  unfold execSecTamperClear
  exact KeepsX.mk (ohi_keeps ha3 (opSecTamperClear_keeps ha3 ..) ..)

theorem State.deviceMsg_keeps {r} {a1} (ha1 : Keeps r a1) (a2 a3 a4 a5) : Keeps r (State.deviceMsg a1 a2 a3 a4 a5) := by
  unfold State.deviceMsg
  exact pred_ite (P := Keeps r) (State.tmMessage_keeps ha1 ..) (pred_ite (P := Keeps r) (State.reportPart_keeps ha1 ..)
      (pred_ite (P := Keeps r) (State.sleepMessage_keeps ha1 ..) (State.ptpMessage_keeps ha1 ..)))

theorem State.consume_keeps {r} {a1} (ha1 : Keeps r a1) (a2) : KeepsO r (State.consume a1 a2) := by
  unfold State.consume
  split
  · exact KeepsO.mk ha1
  · split
    · exact pred_ite (P := KeepsO r) (KeepsO.mk (State.toHost_keeps ha1 ..)) KeepsO.none
    · exact State.serialDeliver_keeps ha1 ..
    · exact KeepsO.mk (State.applyCommand_keeps ha1 ..)
    · split
      · exact KeepsO.mk (State.publish_keeps ha1 ..)
      · exact KeepsO.mk ha1
    · split
      · rename_i e1
        have h1 := Keeps2.out (r := r) e1 (State.drawFree_keeps ha1 ..)
        extract_lets +onlyGivenNames _ _
        exact pred_ite (P := KeepsO r) (KeepsO.mk (State.bump_keeps h1 ..)) (State.handoverWake_keeps h1 ..)

theorem State.giveRx_keeps {r} {a1} (ha1 : Keeps r a1) (a2) : Keeps r (State.giveRx a1 a2) := by
  unfold State.giveRx
  split
  · exact State.giveDesc_keeps ha1 ..
  · exact ha1

theorem State.deliverDone_keeps {r} {a1} (ha1 : Keeps r a1) : Keeps r (State.deliverDone a1) := by
  unfold State.deliverDone
  extract_lets +onlyGivenNames _ _ s3
  have h3 : Keeps r s3 := Keeps.of ha1 rfl
  refine pred_foldl (P := Keeps r) _ (fun _ h4 x5 => ?_) _ h3
  extract_lets +onlyGivenNames s6
  have h6 : ∀ t1, Keeps r t1 → Keeps r (s6 t1) := by
    intro _ h7
    unfold s6
    exact Keeps.of h7 rfl
  clear_value s6
  refine pred_ite (P := Keeps r) (h6 _ h4) ?_
  split
  · rename_i e8
    have h8 := KeepsO.out (r := r) e8 (State.consume_keeps h4 ..)
    exact State.giveRx_keeps h8 ..
  · exact h6 _ h4

theorem State.complete1_keeps {r} {a1} (ha1 : Keeps r a1) (a2) : Keeps r (State.complete1 a1 a2) := by
  unfold State.complete1
  exact State.deliverDone_keeps (Keeps.of ha1 rfl) ..

theorem State.deliverSeg_keeps {r} {a1} (ha1 : Keeps r a1) (a2 a3 a4 a5 a6) : Keeps r (State.deliverSeg a1 a2 a3 a4 a5 a6) := by
  unfold State.deliverSeg
  exact pred_ite (P := Keeps r) (State.giveDesc_keeps (State.deviceMsg_keeps ha1 ..) ..) (State.complete1_keeps ha1 ..)

theorem State.setRxFlow_keeps {r} {a1} (ha1 : Keeps r a1) (a2) : Keeps r (State.setRxFlow a1 a2) := by
  unfold State.setRxFlow
  extract_lets +onlyGivenNames _
  exact Keeps.of ha1 rfl

theorem State.rxRoom_keeps {r} {a1} (ha1 : Keeps r a1) (a2 a3 a4) : KeepsO2 r (State.rxRoom a1 a2 a3 a4) := by
  unfold State.rxRoom
  refine pred_ite (P := KeepsO2 r) KeepsO2.none ?_
  extract_lets +onlyGivenNames _
  split
  · exact KeepsO2.map_KeepsO2 (fun _ h2 => Keeps2.mk (Keeps2.proj h2)) (State.takeDesc_keeps ha1 ..)
  · exact KeepsO2.mk (Keeps2.mk (pred_foldl (P := Keeps r) _ (fun _ h3 x4 => State.giveDesc_keeps h3 ..) _ ha1))

theorem RxRun.s_keeps {r} {a1} (ha1 : KeepsR r a1) : Keeps r (RxRun.s a1) := by unfold RxRun.s; exact KeepsR.proj ha1

theorem RxRun.take_keeps {r} {a1} (ha1 : KeepsR r a1) (a2 a3) : KeepsR r (RxRun.take a1 a2 a3) := by
  unfold RxRun.take
  extract_lets +onlyGivenNames _ _ _
  refine pred_ite (P := KeepsR r) (RxRun.mk_keeps (State.bump_keeps (KeepsR.proj ha1) ..) ..) ?_
  refine pred_ite (P := KeepsR r) (RxRun.mk_keeps (State.bump_keeps (KeepsR.proj ha1) ..) ..) ?_
  split
  · exact RxRun.mk_keeps (State.bump_keeps (KeepsR.proj ha1) ..) ..
  · extract_lets +onlyGivenNames s4
    have h4 : KeepsR r s4 := RxRun.mk_keeps (State.bump_keeps (KeepsR.proj ha1) ..) ..
    refine pred_ite (P := KeepsR r) ?_ ?_
    · split
      · exact h4
      · rename_i e5
        have h5 := KeepsO2.out (r := r) e5 (State.takeDesc_keeps (KeepsR.proj ha1) ..)
        exact RxRun.mk_keeps (State.deliverSeg_keeps h5 ..) ..
    · split
      · exact h4
      · rename_i e6
        have h6 := KeepsO2.out (r := r) e6 (State.rxRoom_keeps (KeepsR.proj ha1) ..)
        exact RxRun.mk_keeps h6 ..

theorem State.dropHeld_keeps {r} {a1} (ha1 : Keeps r a1) (a2 a3) : Keeps1 r (State.dropHeld a1 a2 a3) := by
  unfold State.dropHeld
  extract_lets +onlyGivenNames _
  exact Keeps1.mk (pred_foldl (P := Keeps r) _ (fun _ h2 x3 => State.giveDesc_keeps h2 ..) _ ha1)

theorem State.flushFlow_keeps {r a5} (ha5 : Keeps r a5) (a1 a2 a3 a4 a6) : Keeps1 r (State.flushFlow a1 a2 a3 a4 a5 a6) := by
  induction a2 generalizing a3 a4 a5 a6 with
  | zero => exact ha5
  | succ n ih =>
    unfold State.flushFlow
    refine pred_ite (P := Keeps1 r) ha5 ?_
    split
    · split
      rename_i e
      exact ih (Keeps1.out (r := r) e (State.dropHeld_keeps ha5 ..)) ..
    · refine pred_ite (P := Keeps1 r) ?_ ?_
      · split
        rename_i e
        exact ih (Keeps1.out (r := r) e (State.dropHeld_keeps ha5 ..)) ..
      · split
        rename_i e
        have h1 := Keeps1.out (r := r) e (pred_ite (P := Keeps1 r) (State.dropHeld_keeps ha5 ..) (Keeps1.mk ha5))
        extract_lets _
        refine pred_ite (P := Keeps1 r) ?_ (ih h1 ..)
        exact ih (State.complete1_keeps h1 ..) ..

theorem State.openSeg_keeps {r} {a1} (ha1 : Keeps r a1) (a2 a3 a4 a5 a6 a7) :
    Keeps3 r (State.openSeg a1 a2 a3 a4 a5 a6 a7) := by
  unfold State.openSeg
  refine pred_ite (P := Keeps3 r) (Keeps3.mk (Keeps2.mk ha1)) ?_
  refine pred_ite (P := Keeps3 r) (Keeps3.mk (Keeps2.mk (State.bump_keeps ha1 ..))) ?_
  refine pred_ite (P := Keeps3 r) (Keeps3.mk (Keeps2.mk ha1)) ?_
  split
  · rename_i e1
    have h1 := Keeps2.out (r := r) e1 (State.openField_keeps ha1 ..)
    exact Keeps3.mk (Keeps2.mk h1)
  · rename_i e2
    have h2 := Keeps2.out (r := r) e2 (State.openField_keeps ha1 ..)
    exact Keeps3.mk (Keeps2.mk h2)

theorem State.countFailures_keeps {r} {a1} (ha1 : Keeps r a1) (a2 a3 a4 a5) : Keeps r (State.countFailures a1 a2 a3 a4 a5) := by
  unfold State.countFailures
  extract_lets +onlyGivenNames _
  exact State.segFailures_keeps ha1 ..

theorem State.takeFlow_keeps {r} {a1} (ha1 : Keeps r a1) (a2 a3 a4) : Keeps r (State.takeFlow a1 a2 a3 a4) := by
  unfold State.takeFlow
  extract_lets +onlyGivenNames _ s2
  have h2 : KeepsR r s2 := by
    unfold s2
    refine pred_foldl (P := KeepsR r) _ (fun _ h3 x4 => ?_) _ (RxRun.mk_keeps ha1 ..)
    split
    · rename_i e5
      have h5 := Keeps3.out (r := r) e5 (State.openSeg_keeps (KeepsR.proj h3) ..)
      exact RxRun.take_keeps (RxRun.mk_keeps h5 ..) ..
    · rename_i e6
      have h6 := Keeps3.out (r := r) e6 (State.openSeg_keeps (KeepsR.proj h3) ..)
      exact RxRun.mk_keeps h6 ..
  extract_lets +onlyGivenNames _ _
  split
  · extract_lets +onlyGivenNames s9
    have h9 : Keeps r s9 := State.bumpN_keeps (KeepsR.proj h2) ..
    split
    · rename_i e10
      have h10 := Keeps1.out (r := r) e10 (State.flushFlow_keeps h9 ..)
      extract_lets +onlyGivenNames s11
      have h11 : Keeps r s11 := State.setRxFlow_keeps h10 ..
      extract_lets +onlyGivenNames _ _ _ s15
      have h15 : Keeps r s15 := pred_ite (P := Keeps r) h11 (State.updChan_keeps h11 ..)
      exact State.countFailures_keeps h15 ..

theorem State.takeLoose_keeps {r} {a1} (ha1 : Keeps r a1) (a2 a3 a4) : Keeps r (State.takeLoose a1 a2 a3 a4) := by
  unfold State.takeLoose
  split
  · exact State.bump_keeps ha1 ..
  · split
    · exact State.bump_keeps ha1 ..
    · rename_i e1
      have h1 := KeepsO2.out (r := r) e1 (pred_ite (P := KeepsO2 r) (State.takeDesc_keeps ha1 ..) KeepsO2.none)
      exact State.deliverSeg_keeps h1 ..

theorem State.takeAllLoose_keeps {r} {a1} (ha1 : Keeps r a1) (a2 a3 a4 a5 a6 a7) :
    Keeps r (State.takeAllLoose a1 a2 a3 a4 a5 a6 a7) := by
  unfold State.takeAllLoose
  extract_lets +onlyGivenNames s1
  have h1 : Keeps1 r s1 := by
    unfold s1
    refine pred_foldl (P := Keeps1 r) _ (fun _ h2 x3 => ?_) _ (Keeps1.mk ha1)
    split
    · rename_i e4
      have h4 := Keeps3.out (r := r) e4 (State.openSeg_keeps (Keeps1.proj h2) ..)
      exact Keeps1.mk (State.takeLoose_keeps h4 ..)
    · rename_i e5
      have h5 := Keeps3.out (r := r) e5 (State.openSeg_keeps (Keeps1.proj h2) ..)
      exact Keeps1.mk h5
  exact State.countFailures_keeps (Keeps1.proj h1) ..

theorem State.setBc_keeps {r} {a1} (ha1 : Keeps r a1) (a2 a3 a4) : Keeps r (State.setBc a1 a2 a3 a4) := by
  unfold State.setBc
  exact State.updChan_keeps ha1 ..

theorem State.setCw_keeps {r} {a1} (ha1 : Keeps r a1) (a2 a3 a4) : Keeps r (State.setCw a1 a2 a3 a4) := by
  unfold State.setCw
  exact State.updChan_keeps ha1 ..

theorem State.drawBc_keeps {r} {a1} (ha1 : Keeps r a1) (a2 a3) : Keeps r (State.drawBc a1 a2 a3) := by
  unfold State.drawBc
  split
  · rename_i e1
    have h1 := Keeps2.out (r := r) e1 (State.drawBelow_keeps ha1 ..)
    exact State.setBc_keeps h1 ..

theorem State.exchangeOk_keeps {r} {a1} (ha1 : Keeps r a1) (a2 a3 a4) : Keeps r (State.exchangeOk a1 a2 a3 a4) := by
  unfold State.exchangeOk
  refine pred_ite (P := Keeps r) ha1 ?_
  extract_lets +onlyGivenNames s1
  have h1 : Keeps r s1 := pred_ite (P := Keeps r) (State.setCw_keeps ha1 ..) ha1
  exact pred_ite (P := Keeps r) h1 (State.setBc_keeps h1 ..)

theorem State.exchangeFailed_keeps {r} {a1} (ha1 : Keeps r a1) (a2 a3) : Keeps r (State.exchangeFailed a1 a2 a3) := by
  unfold State.exchangeFailed
  extract_lets +onlyGivenNames s1
  have h1 : Keeps r s1 := State.bump_keeps ha1 ..
  exact pred_ite (P := Keeps r) h1 (State.drawBc_keeps (State.setCw_keeps h1 ..) ..)

theorem State.lateAcks_keeps {r} {a1} (ha1 : Keeps r a1) (a2 a3) : Keeps r (State.lateAcks a1 a2 a3) := by
  unfold State.lateAcks
  extract_lets +onlyGivenNames _ s2
  have h2 : Keeps r s2 := State.bumpN_keeps ha1 ..
  exact State.endExchange_keeps (Keeps.of h2 rfl) ..

theorem State.ackSegs_keeps {r} {a1} (ha1 : Keeps r a1) (a2 a3) : Keeps r (State.ackSegs a1 a2 a3) := by
  unfold State.ackSegs
  extract_lets +onlyGivenNames _ _ s3
  have h3 : Keeps r s3 := Keeps.of ha1 rfl
  extract_lets +onlyGivenNames s4
  have h4 : Keeps r s4 := by
    unfold s4
    refine pred_foldl (P := Keeps r) _ (fun _ h5 x6 => ?_) _ h3
    extract_lets +onlyGivenNames s7
    have h7 : Keeps r s7 := State.giveIf_keeps h5 ..
    extract_lets +onlyGivenNames s8
    have h8 : Keeps r s8 := pred_ite (P := Keeps r) (State.grantAcked_keeps h7 ..) h7
    split
    · exact State.tmAcked_keeps h8 ..
    · exact h8
  exact State.sweepTx_keeps h4 ..

theorem State.takeAck_keeps {r} {a1} (ha1 : Keeps r a1) (a2 a3) : Keeps r (State.takeAck a1 a2 a3) := by
  unfold State.takeAck
  split
  · exact ha1
  · refine pred_ite (P := Keeps r) ha1 ?_
    extract_lets +onlyGivenNames s1
    have h1 : Keeps r s1 := State.notePeer_keeps ha1 ..
    extract_lets +onlyGivenNames _ _ _ _ _ _ s8
    have h8 : Keeps r s8 := State.updChan_keeps h1 ..
    extract_lets +onlyGivenNames s9
    have h9 : Keeps r s9 := State.lateAcks_keeps h8 ..
    extract_lets +onlyGivenNames s10
    have h10 : Keeps r s10 := State.ackSegs_keeps h9 ..
    extract_lets +onlyGivenNames _ s12
    have h12 : Keeps r s12 := State.loseSegs_keeps h10 ..
    extract_lets +onlyGivenNames _ s14
    have h14 : Keeps r s14 := State.setTxFlow_keeps h12 ..
    exact State.exchangeOk_keeps h14 ..

theorem execAckRx_keeps {r} {a2} (ha2 : Keeps r a2) (a1) : KeepsX r (execAckRx a1 a2) := by
  unfold execAckRx
  refine KeepsX.mk ?_
  split
  · exact ha2
  · exact State.reviewMaps_keeps (State.takeAck_keeps (State.takeHeard_keeps ha2 ..) ..) ..

theorem execAckMissing_keeps {r} {a2} (ha2 : Keeps r a2) (a1) : KeepsX r (execAckMissing a1 a2) := by
  unfold execAckMissing
  refine KeepsX.mk ?_
  split
  · exact ha2
  · extract_lets +onlyGivenNames s1
    have h1 : Keeps r s1 := State.updChan_keeps ha2 ..
    extract_lets +onlyGivenNames s2
    have h2 : Keeps r s2 := State.lateAcks_keeps h1 ..
    extract_lets +onlyGivenNames s3
    have h3 : Keeps r s3 := State.loseSegs_keeps h2 ..
    exact State.exchangeFailed_keeps h3 ..

theorem execSegmentDeadline_keeps {r} {a2} (ha2 : Keeps r a2) (a1) : KeepsX r (execSegmentDeadline a1 a2) := by
  unfold execSegmentDeadline
  exact KeepsX.mk (State.abandonSegs_keeps ha2 ..)

theorem execRxMessageDiscard_keeps {r} {a1} (ha1 : Keeps r a1) : KeepsX r (execRxMessageDiscard a1) := by
  unfold execRxMessageDiscard
  refine KeepsX.mk ?_
  split
  · exact ha1
  · extract_lets +onlyGivenNames _ s2
    have h2 : Keeps r s2 := Keeps.of ha1 rfl
    exact State.bump_keeps (State.giveRx_keeps h2 ..) ..

theorem execSeenEntryExpiry_keeps {r} {a1} (ha1 : Keeps r a1) : KeepsX r (execSeenEntryExpiry a1) := by
  unfold execSeenEntryExpiry
  refine KeepsX.mk ?_
  split
  · exact ha1
  · extract_lets +onlyGivenNames _ s2
    have h2 : Keeps r s2 := State.reach_keeps ha1 ..
    exact State.setFld_keeps (Keeps.of h2 rfl) ..

theorem execSerialCharacterTx_keeps {r} {a2} (ha2 : Keeps r a2) (a1) : KeepsX r (execSerialCharacterTx a1 a2) := by
  unfold execSerialCharacterTx
  exact KeepsX.mk (State.deliverDone_keeps (State.nextChar_keeps ha2 ..) ..)

theorem flushDone_keeps {r} {a1} (ha1 : Keeps1 r a1) : Keeps1 r (flushDone a1) := by
  unfold flushDone
  exact Keeps1.mk (State.deliverDone_keeps (Keeps1.proj ha1) ..)

theorem execSerFlush_keeps {r} {a4} (ha4 : Keeps r a4) (a1 a2 a3) : KeepsX r (execSerFlush a1 a2 a3 a4) := by
  unfold execSerFlush
  exact KeepsX.mk (ohi_keeps ha4 (flushDone_keeps (opSerFlush_keeps ha4 ..) ..) ..)

theorem State.retryRoutes_keeps {r} {a1} (ha1 : Keeps r a1) (a2) : Keeps r (State.retryRoutes a1 a2) := by
  unfold State.retryRoutes
  extract_lets +onlyGivenNames s1
  have h1 : Keeps r s1 := pred_foldl (P := Keeps r) _ (fun _ h2 x3 => pred_ite (P := Keeps r) (State.giveGroup_keeps h2 ..) h2)
      _ ha1
  exact pred_foldl (P := Keeps r) _ (fun _ h4 x5 => State.giveSerial_keeps h4 ..) _ h1

theorem State.takeNext_keeps {r} {a1} (ha1 : Keeps r a1) (a2) : Keeps r (State.takeNext a1 a2) := by
  unfold State.takeNext
  split
  · exact KeepsO.getD (State.takeMsg_keeps ha1 ..) ha1
  · split
    · exact ha1
    · extract_lets +onlyGivenNames _
      exact pred_ite (P := Keeps r) ha1 (State.takeFirst_keeps (State.reach_keeps ha1 ..) ..)

theorem execMessageHandover_keeps {r} {a2} (ha2 : Keeps r a2) (a1) : KeepsX r (execMessageHandover a1 a2) := by
  unfold execMessageHandover
  exact KeepsX.mk (State.retryRoutes_keeps (State.takeNext_keeps ha2 ..) ..)

theorem execEthernetEgress_keeps {r} {a2} (ha2 : Keeps r a2) (a1) : KeepsX r (execEthernetEgress a1 a2) := by
  unfold execEthernetEgress
  refine KeepsX.mk ?_
  extract_lets +onlyGivenNames _ _ s3
  have h3 : Keeps r s3 := by unfold s3; exact pred_ite (P := Keeps r) ha2 (Keeps.of ha2 rfl)
  extract_lets +onlyGivenNames s4
  have h4 : Keeps r s4 := State.sendOhi_keeps h3 ..
  refine pred_ite (P := Keeps r) h4 ?_
  split
  · exact State.ptpLaunch_keeps h4 ..
  · split
    · exact State.deliverDone_keeps (State.sendEgress_keeps h4 ..) ..
    · exact h4

theorem State.showGates_keeps {r} {a1} (ha1 : Keeps r a1) (a2) : Keeps r (State.showGates a1 a2) := by
  unfold State.showGates
  extract_lets +onlyGivenNames _ _ _ s4
  have h4 : Keeps r s4 := State.setFlag_keeps (State.setFld_keeps ha1 ..) ..
  exact State.setFlag_keeps h4 ..

theorem State.rearm_keeps {r} {a1} (ha1 : Keeps r a1) (a2) : Keeps r (State.rearm a1 a2) := by
  unfold State.rearm
  exact State.setFlag_keeps (State.updChan_keeps ha1 ..) ..

theorem State.resetRx_keeps {r} {a1} (ha1 : Keeps r a1) (a2) : Keeps r (State.resetRx a1 a2) := by
  unfold State.resetRx
  extract_lets +onlyGivenNames _ s2
  have h2 : Keeps r s2 := Keeps.of ha1 rfl
  exact State.rearm_keeps (State.updChan_keeps h2 ..) ..

theorem State.leaveState_keeps {r} {a1} (ha1 : Keeps r a1) (a2 a3 a4) : Keeps r (State.leaveState a1 a2 a3 a4) := by
  unfold State.leaveState
  extract_lets +onlyGivenNames _ s2
  have h2 : Keeps r s2 := pred_ite (P := Keeps r) (State.discardFrames_keeps ha1 ..) ha1
  extract_lets +onlyGivenNames s3
  have h3 : Keeps r s3 := pred_ite (P := Keeps r) (State.clearMaps_keeps h2 ..) h2
  extract_lets +onlyGivenNames s4
  have h4 : Keeps r s4 := pred_ite (P := Keeps r) (State.pdDrop_keeps h3 ..) h3
  extract_lets +onlyGivenNames s5
  have h5 : Keeps r s5 := pred_ite (P := Keeps r) (State.stopTones_keeps h4 ..) h4
  exact pred_ite (P := Keeps r) (State.channelLeaves_keeps h5 ..) h5

theorem State.enterState_keeps {r} {a1} (ha1 : Keeps r a1) (a2 a3 a4 a5) : Keeps r (State.enterState a1 a2 a3 a4 a5) := by
  unfold State.enterState
  refine pred_ite (P := Keeps r) ?_ ?_
  · extract_lets +onlyGivenNames s1
    have h1 : Keeps r s1 := pred_ite (P := Keeps r) (State.flowRestart_keeps ha1 ..) ha1
    exact State.startTraining_keeps h1 ..
  · refine pred_ite (P := Keeps r) (State.updChan_keeps (State.restartLi_keeps ha1 ..) ..) ?_
    refine pred_ite (P := Keeps r) (State.updChan_keeps ha1 ..) ?_
    extract_lets +onlyGivenNames s2
    have h2 : Keeps r s2 := State.resetRx_keeps ha1 ..
    extract_lets +onlyGivenNames s3
    have h3 : Keeps r s3 := State.updChan_keeps h2 ..
    extract_lets +onlyGivenNames s4
    have h4 : Keeps r s4 := State.setFlag_keeps h3 ..
    exact pred_ite (P := Keeps r) (State.setFld_keeps h4 ..) h4

theorem State.applyState_keeps {r} {a1} (ha1 : Keeps r a1) (a2 a3 a4) : Keeps r (State.applyState a1 a2 a3 a4) := by
  unfold State.applyState
  extract_lets +onlyGivenNames _
  refine pred_ite (P := Keeps r) (pred_ite (P := Keeps r) (State.startTraining_keeps ha1 ..) (pred_ite (P := Keeps r)
      (State.setFld_keeps ha1 ..) ha1)) ?_
  extract_lets +onlyGivenNames s2
  have h2 : Keeps r s2 := State.setFld_keeps (State.leaveState_keeps ha1 ..) ..
  extract_lets +onlyGivenNames s3
  have h3 : Keeps r s3 := State.updChan_keeps h2 ..
  extract_lets +onlyGivenNames s4
  have h4 : Keeps r s4 := pred_ite (P := Keeps r) h3 (State.setFlag_keeps h3 ..)
  extract_lets +onlyGivenNames s5
  have h5 : Keeps r s5 := State.olaStateChange_keeps (State.enterState_keeps h4 ..) ..
  exact State.log_keeps (State.showGates_keeps h5 ..) ..

theorem chnCmd_keeps {r} {a1 a4} (ha1 : Keeps r a1) (ha4 : Keeps1 r a4) (a2 a3) : Keeps1 r (chnCmd a1 a2 a3 a4) := by
  unfold chnCmd
  exact pred_ite (P := Keeps1 r) (refuse_keeps ha1 ..) (pred_ite (P := Keeps1 r) (refuse_keeps ha1 ..) (pred_ite (P := Keeps1
      r) (refuse_keeps ha1 ..) ha4))

theorem opChnStart_keeps {r} {a3} (ha3 : Keeps r a3) (a1 a2) : Keeps1 r (opChnStart a1 a2 a3) := by
  unfold opChnStart
  refine chnCmd_keeps ha3 ?_ ..
  refine pred_ite (P := Keeps1 r) (refuse_keeps ha3 ..) ?_
  extract_lets +onlyGivenNames _
  exact pred_ite (P := Keeps1 r) (Keeps1.mk (State.requestState_keeps ha3 ..)) (refuse_keeps ha3 ..)

theorem opChnStop_keeps {r} {a3} (ha3 : Keeps r a3) (a1 a2) : Keeps1 r (opChnStop a1 a2 a3) := by
  unfold opChnStop
  exact pred_ite (P := Keeps1 r) (refuse_keeps ha3 ..) (chnCmd_keeps ha3 (Keeps1.mk (State.stopChannel_keeps ha3 ..)) ..)

theorem opChnQuiet_keeps {r} {a3} (ha3 : Keeps r a3) (a1 a2) : Keeps1 r (opChnQuiet a1 a2 a3) := by
  unfold opChnQuiet
  refine chnCmd_keeps ha3 ?_ ..
  extract_lets +onlyGivenNames _
  exact pred_ite (P := Keeps1 r) (refuse_keeps ha3 ..) (pred_ite (P := Keeps1 r) (refuse_keeps ha3 ..) (Keeps1.mk
      (State.requestState_keeps ha3 ..)))

theorem opChnResume_keeps {r} {a3} (ha3 : Keeps r a3) (a1 a2) : Keeps1 r (opChnResume a1 a2 a3) := by
  unfold opChnResume
  exact chnCmd_keeps ha3 (pred_ite (P := Keeps1 r) (refuse_keeps ha3 ..) (Keeps1.mk (State.requestState_keeps ha3 ..))) ..

theorem opChnRetrain_keeps {r} {a3} (ha3 : Keeps r a3) (a1 a2) : Keeps1 r (opChnRetrain a1 a2 a3) := by
  unfold opChnRetrain
  refine chnCmd_keeps ha3 ?_ ..
  extract_lets +onlyGivenNames _
  exact pred_ite (P := Keeps1 r) (Keeps1.mk (State.invalidate_keeps ha3 ..)) (refuse_keeps ha3 ..)

theorem opChnSetCoupling_keeps {r} {a4} (ha4 : Keeps r a4) (a1 a2 a3) : Keeps1 r (opChnSetCoupling a1 a2 a3 a4) := by
  unfold opChnSetCoupling
  refine pred_ite (P := Keeps1 r) (refuse_keeps ha4 ..) ?_
  refine chnCmd_keeps ha4 ?_ ..
  extract_lets +onlyGivenNames _
  exact pred_ite (P := Keeps1 r) (refuse_keeps ha4 ..) (pred_ite (P := Keeps1 r) (refuse_keeps ha4 ..) (Keeps1.mk
      (State.request_keeps ha4 ..)))

theorem opChnSetRole_keeps {r} {a4} (ha4 : Keeps r a4) (a1 a2 a3) : Keeps1 r (opChnSetRole a1 a2 a3 a4) := by
  unfold opChnSetRole
  exact pred_ite (P := Keeps1 r) (refuse_keeps ha4 ..) (chnCmd_keeps ha4 (pred_ite (P := Keeps1 r) (refuse_keeps ha4 ..)
      (pred_ite (P := Keeps1 r) (refuse_keeps ha4 ..) (Keeps1.mk (State.olaEmptyFar_keeps (State.setFld_keeps ha4 ..) ..)))) ..)

theorem opChnQuery_keeps {r} {a3} (ha3 : Keeps r a3) (a1 a2) : Keeps1 r (opChnQuery a1 a2 a3) := by
  unfold opChnQuery
  exact pred_ite (P := Keeps1 r) (refuse_keeps ha3 ..) (pred_ite (P := Keeps1 r) (refuse_keeps ha3 ..) (Keeps1.mk ha3))

theorem execChnStart_keeps {r} {a3} (ha3 : Keeps r a3) (a1 a2) : KeepsX r (execChnStart a1 a2 a3) := by
  unfold execChnStart
  exact KeepsX.mk (ohi_keeps ha3 (opChnStart_keeps ha3 ..) ..)

theorem execChnStop_keeps {r} {a3} (ha3 : Keeps r a3) (a1 a2) : KeepsX r (execChnStop a1 a2 a3) := by
  unfold execChnStop
  exact KeepsX.mk (ohi_keeps ha3 (opChnStop_keeps ha3 ..) ..)

theorem execChnQuiet_keeps {r} {a3} (ha3 : Keeps r a3) (a1 a2) : KeepsX r (execChnQuiet a1 a2 a3) := by
  unfold execChnQuiet
  exact KeepsX.mk (ohi_keeps ha3 (opChnQuiet_keeps ha3 ..) ..)

theorem execChnResume_keeps {r} {a3} (ha3 : Keeps r a3) (a1 a2) : KeepsX r (execChnResume a1 a2 a3) := by
  unfold execChnResume
  exact KeepsX.mk (ohi_keeps ha3 (opChnResume_keeps ha3 ..) ..)

theorem execChnRetrain_keeps {r} {a3} (ha3 : Keeps r a3) (a1 a2) : KeepsX r (execChnRetrain a1 a2 a3) := by
  unfold execChnRetrain
  exact KeepsX.mk (ohi_keeps ha3 (opChnRetrain_keeps ha3 ..) ..)

theorem execChnSetCoupling_keeps {r} {a4} (ha4 : Keeps r a4) (a1 a2 a3) : KeepsX r (execChnSetCoupling a1 a2 a3 a4) := by
  unfold execChnSetCoupling
  exact KeepsX.mk (ohi_keeps ha4 (opChnSetCoupling_keeps ha4 ..) ..)

theorem execChnSetRole_keeps {r} {a4} (ha4 : Keeps r a4) (a1 a2 a3) : KeepsX r (execChnSetRole a1 a2 a3 a4) := by
  unfold execChnSetRole
  exact KeepsX.mk (ohi_keeps ha4 (opChnSetRole_keeps ha4 ..) ..)

theorem execChnQuery_keeps {r} {a3} (ha3 : Keeps r a3) (a1 a2) : KeepsX r (execChnQuery a1 a2 a3) := by
  unfold execChnQuery
  exact KeepsX.mk (ohi_keeps ha3 (opChnQuery_keeps ha3 ..) ..)

theorem execTrainTimeout_keeps {r} {a2} (ha2 : Keeps r a2) (a1) : KeepsX r (execTrainTimeout a1 a2) := by
  unfold execTrainTimeout
  refine KeepsX.mk ?_
  extract_lets +onlyGivenNames _ _
  exact pred_ite (P := Keeps r) (State.requestState_keeps ha2 ..) ha2

theorem execFaultAutoRearm_keeps {r} {a2} (ha2 : Keeps r a2) (a1) : KeepsX r (execFaultAutoRearm a1 a2) := by
  unfold execFaultAutoRearm
  exact KeepsX.mk (pred_ite (P := Keeps r) (State.requestState_keeps ha2 ..) ha2)

theorem State.payCells_keeps {r} {a1} (ha1 : Keeps r a1) (a2) : Keeps2 r (State.payCells a1 a2) := by
  unfold State.payCells
  split
  · extract_lets +onlyGivenNames _ _ _ _ _ _
    split
    · extract_lets +onlyGivenNames _
      exact Keeps2.mk (State.setFld_keeps (State.setChan_keeps ha1 ..) ..)
  · exact Keeps2.mk ha1

theorem State.buildAir_keeps {r} {a1} (ha1 : Keeps r a1) (a2) : Keeps2 r (State.buildAir a1 a2) := by
  unfold State.buildAir
  extract_lets +onlyGivenNames _
  split
  · split
    · rename_i e2
      have h2 := Keeps2.out (r := r) e2 (State.payCells_keeps ha1 ..)
      exact Keeps2.mk h2

theorem State.keepTails_keeps {r} {a1} (ha1 : Keeps r a1) (a2) : Keeps r (State.keepTails a1 a2) := by
  unfold State.keepTails
  extract_lets +onlyGivenNames _ _
  exact Keeps.of ha1 rfl

theorem State.fillDown_keeps {r} {a1} (ha1 : Keeps r a1) (a2) : Keeps r (State.fillDown a1 a2) := by
  unfold State.fillDown
  refine pred_ite (P := Keeps r) ha1 ?_
  extract_lets +onlyGivenNames _ _
  exact State.updLane_keeps ha1 ..

theorem State.openDown_keeps {r} {a1} (ha1 : Keeps r a1) (a2 a3 a4) : Keeps r (State.openDown a1 a2 a3 a4) := by
  unfold State.openDown
  extract_lets +onlyGivenNames _
  exact State.updLane_keeps ha1 ..

theorem State.sendSlot_keeps {r} {a1} (ha1 : Keeps r a1) : Keeps r (State.sendSlot a1) := by
  unfold State.sendSlot
  extract_lets +onlyGivenNames _ _ _
  exact pred_foldl (P := Keeps r) _ (fun _ h4 x5 => State.fillDown_keeps (State.openDown_keeps h4 ..) ..) _ ha1

theorem State.sendIdle_keeps {r} {a1} (ha1 : Keeps r a1) (a2) : Keeps r (State.sendIdle a1 a2) := by
  unfold State.sendIdle
  exact pred_ite (P := Keeps r) ha1 (State.openDown_keeps ha1 ..)

theorem State.waveMean_keeps {r} {a1} (ha1 : Keeps r a1) (a2 a3) : Keeps r (State.waveMean a1 a2 a3) := by
  unfold State.waveMean
  split
  · exact ha1
  · refine pred_ite (P := Keeps r) ha1 ?_
    extract_lets +onlyGivenNames _
    exact Keeps.of ha1 rfl

theorem State.waveLane_keeps {r} {a1} (ha1 : Keeps r a1) (a2) : Keeps r (State.waveLane a1 a2) := by
  unfold State.waveLane
  refine pred_foldl (P := Keeps r) _ (fun _ h1 x2 => ?_) _ ha1
  extract_lets +onlyGivenNames _ _
  exact pred_ite (P := Keeps r) (pred_foldl (P := Keeps r) _ (fun _ h5 x6 => State.waveMean_keeps h5 ..) _ h1) h1

theorem execUpstreamFrame_keeps {r} {a3} (ha3 : Keeps r a3) (a1 a2) : KeepsX r (execUpstreamFrame a1 a2 a3) := by
  unfold execUpstreamFrame
  refine KeepsX.mk ?_
  refine pred_ite (P := Keeps r) ha3 ?_
  extract_lets +onlyGivenNames s1
  have h1 : Keeps r s1 := State.sendIdle_keeps ha3 ..
  extract_lets +onlyGivenNames _
  split
  · extract_lets +onlyGivenNames s3
    have h3 : Keeps r s3 := State.updLane_keeps h1 ..
    extract_lets +onlyGivenNames s4
    have h4 : Keeps r s4 := pred_ite (P := Keeps r) (State.bump_keeps h3 ..) h3
    exact State.waveLane_keeps (State.laneBad_keeps h4 ..) ..
  · extract_lets +onlyGivenNames s5
    have h5 : Keeps r s5 := pred_ite (P := Keeps r) (State.bumpWrapN_keeps h1 ..) h1
    refine pred_ite (P := Keeps r) ?_ (State.waveLane_keeps (State.laneBad_keeps (State.updLane_keeps h5 ..) ..) ..)
    extract_lets +onlyGivenNames s6
    have h6 : Keeps r s6 := State.updLane_keeps h5 ..
    exact pred_ite (P := Keeps r) (State.waveLane_keeps (State.laneTake_keeps h6 ..) ..) h6

theorem execWavefrontArrival_keeps {r} {a3} (ha3 : Keeps r a3) (a1 a2) : KeepsX r (execWavefrontArrival a1 a2 a3) := by
  unfold execWavefrontArrival
  refine KeepsX.mk ?_
  extract_lets +onlyGivenNames s1
  have h1 : Keeps r s1 := State.reach_keeps ha3 ..
  extract_lets +onlyGivenNames _ _
  split
  · refine pred_ite (P := Keeps r) h1 ?_
    extract_lets +onlyGivenNames _
    exact State.arrive_keeps h1 ..
  · exact h1

theorem execDeadTimeEnd_keeps {r} {a2} (ha2 : Keeps r a2) (a1) : KeepsX r (execDeadTimeEnd a1 a2) := by
  unfold execDeadTimeEnd
  refine KeepsX.mk ?_
  split
  · exact ha2
  · extract_lets +onlyGivenNames s1
    have h1 : Keeps r s1 := State.reach_keeps ha2 ..
    exact Keeps.of h1 rfl

theorem State.floorOf_keeps {r} {a1} (ha1 : Keeps r a1) (a2) : Keeps2 r (State.floorOf a1 a2) := by
  unfold State.floorOf
  split
  · exact Keeps2.mk ha1
  · split
    · rename_i e1
      have h1 := Keeps2.out (r := r) e1 (State.drawFree_keeps ha1 ..)
      exact Keeps2.mk h1

theorem execEnergyTrigger_keeps {r} {a3} (ha3 : Keeps r a3) (a1 a2) : KeepsX r (execEnergyTrigger a1 a2 a3) := by
  unfold execEnergyTrigger
  refine KeepsX.mk ?_
  extract_lets +onlyGivenNames s1
  have h1 : Keeps r s1 := State.release_keeps ha3 ..
  split
  · exact h1
  · refine pred_ite (P := Keeps r) h1 ?_
    split
    · rename_i e2
      have h2 := Keeps2.out (r := r) e2 (State.floorOf_keeps h1 ..)
      refine pred_ite (P := Keeps r) h2 ?_
      extract_lets +onlyGivenNames s3
      have h3 : Keeps r s3 := State.updChan_keeps h2 ..
      exact State.bump_keeps (State.setFlag_keeps (State.setFlag_keeps h3 ..) ..) ..

theorem State.hearPrs_keeps {r} {a1} (ha1 : Keeps r a1) (a2 a3) : Keeps r (State.hearPrs a1 a2 a3) := by
  unfold State.hearPrs
  split
  · exact ha1
  · extract_lets +onlyGivenNames _ _
    exact pred_ite (P := Keeps r) (State.bump_keeps (State.updChan_keeps ha1 ..) ..) ha1

theorem execQualifierPass_keeps {r} {a3} (ha3 : Keeps r a3) (a1 a2) : KeepsX r (execQualifierPass a1 a2 a3) := by
  unfold execQualifierPass
  refine KeepsX.mk ?_
  extract_lets +onlyGivenNames s1
  have h1 : Keeps r s1 := State.release_keeps ha3 ..
  extract_lets +onlyGivenNames _ _ _
  refine pred_ite (P := Keeps r) h1 ?_
  extract_lets +onlyGivenNames s5
  have h5 : Keeps r s5 := State.hearPrs_keeps h1 ..
  refine pred_ite (P := Keeps r) h5 ?_
  extract_lets +onlyGivenNames _ s7
  have h7 : Keeps r s7 := State.updChan_keeps h5 ..
  exact pred_ite (P := Keeps r) (State.freezeAgc_keeps h7 ..) h7

theorem execQualFail_keeps {r} {a2} (ha2 : Keeps r a2) (a1) : KeepsX r (execQualFail a1 a2) := by
  unfold execQualFail
  refine KeepsX.mk ?_
  extract_lets +onlyGivenNames _
  exact pred_ite (P := Keeps r) (State.bump_keeps (State.resetRx_keeps (State.release_keeps ha2 ..) ..) ..) (pred_ite (P :=
      Keeps r) (State.bump_keeps (State.resetRx_keeps (State.release_keeps ha2 ..) ..) ..) ha2)

theorem State.hearFrame_keeps {r} {a1} (ha1 : Keeps r a1) (a2 a3) : Keeps r (State.hearFrame a1 a2 a3) := by
  unfold State.hearFrame
  split
  · exact ha1
  · extract_lets +onlyGivenNames _ _ _ s4
    have h4 : Keeps r s4 := State.updChan_keeps ha1 ..
    split
    · exact pred_ite (P := Keeps r) (State.setBc_keeps h4 ..) h4
    · exact h4

theorem execSyncPoint_keeps {r} {a3} (ha3 : Keeps r a3) (a1 a2) : KeepsX r (execSyncPoint a1 a2 a3) := by
  unfold execSyncPoint
  refine KeepsX.mk ?_
  extract_lets +onlyGivenNames s1
  have h1 : Keeps r s1 := State.release_keeps ha3 ..
  extract_lets +onlyGivenNames _
  split
  · extract_lets +onlyGivenNames _
    refine pred_ite (P := Keeps r) h1 ?_
    refine pred_ite (P := Keeps r) (State.bump_keeps (State.resetRx_keeps h1 ..) ..) ?_
    extract_lets +onlyGivenNames _ s5
    have h5 : Keeps r s5 := pred_ite (P := Keeps r) (State.freezeAgc_keeps h1 ..) h1
    extract_lets +onlyGivenNames _ s7
    have h7 : Keeps r s7 := State.setFlag_keeps (State.setFld_keeps h5 ..) ..
    extract_lets +onlyGivenNames s8
    have h8 : Keeps r s8 := State.setFld_keeps (State.setFld_keeps h7 ..) ..
    extract_lets +onlyGivenNames _ s10
    have h10 : Keeps r s10 := State.setFld_keeps (State.setFlag_keeps h8 ..) ..
    extract_lets +onlyGivenNames s11
    have h11 : Keeps r s11 := State.setFlag_keeps h10 ..
    extract_lets +onlyGivenNames _ _ s14
    have h14 : Keeps r s14 := State.updChan_keeps h11 ..
    exact State.hearFrame_keeps h14 ..
  · exact h1

theorem execDetectorRearm_keeps {r} {a2} (ha2 : Keeps r a2) (a1) : KeepsX r (execDetectorRearm a1 a2) := by
  unfold execDetectorRearm
  refine KeepsX.mk ?_
  extract_lets +onlyGivenNames _
  refine pred_ite (P := Keeps r) ha2 ?_
  split
  · exact State.rearm_keeps (State.reach_keeps ha2 ..) ..
  · exact State.resetRx_keeps (State.reach_keeps ha2 ..) ..

theorem State.roleConflict_keeps {r} {a1} (ha1 : Keeps r a1) (a2 a3) : Keeps r (State.roleConflict a1 a2 a3) := by
  unfold State.roleConflict
  extract_lets +onlyGivenNames _ s2
  have h2 : Keeps r s2 := State.updChan_keeps ha1 ..
  exact pred_ite (P := Keeps r) h2 (State.log_keeps (State.bump_keeps h2 ..) ..)

theorem State.setLock_keeps {r} {a1} (ha1 : Keeps r a1) (a2 a3) : Keeps r (State.setLock a1 a2 a3) := by
  unfold State.setLock
  extract_lets +onlyGivenNames _ s2
  have h2 : Keeps r s2 := State.setFlag_keeps (State.setFld_keeps ha1 ..) ..
  extract_lets +onlyGivenNames s3
  have h3 : Keeps r s3 := State.updChan_keeps (State.setFlag_keeps h2 ..) ..
  exact pred_ite (P := Keeps r) h3 (State.bump_keeps h3 ..)

theorem State.rxLink_keeps {r} {a1} (ha1 : Keeps r a1) (a2 a3) : Keeps r (State.rxLink a1 a2 a3) := by
  unfold State.rxLink
  exact pred_ite (P := Keeps r) ha1 (State.setFlag_keeps (State.restartLi_keeps ha1 ..) ..)

theorem State.addFrame_keeps {r} {a1} (ha1 : Keeps r a1) (a2 a3 a4) : Keeps r (State.addFrame a1 a2 a3 a4) := by
  unfold State.addFrame
  extract_lets +onlyGivenNames _ _ s3
  have h3 : Keeps r s3 := pred_ite (P := Keeps r) (State.rxLink_keeps ha1 ..) ha1
  extract_lets +onlyGivenNames _ _ _ s7
  have h7 : Keeps r s7 := State.updChan_keeps h3 ..
  exact pred_ite (P := Keeps r) (State.setFld_keeps h7 ..) h7

theorem State.takeFc_keeps {r} {a1} (ha1 : Keeps r a1) (a2 a3 a4) : Keeps r (State.takeFc a1 a2 a3 a4) := by
  unfold State.takeFc
  extract_lets +onlyGivenNames _ _ s3
  have h3 : Keeps r s3 := State.setLock_keeps ha1 ..
  extract_lets +onlyGivenNames s4
  have h4 : Keeps r s4 := pred_ite (P := Keeps r) (State.roleConflict_keeps h3 ..) h3
  extract_lets +onlyGivenNames s5
  have h5 : Keeps r s5 := State.updChan_keeps h4 ..
  refine pred_ite (P := Keeps r) h5 ?_
  refine pred_ite (P := Keeps r) (State.bump_keeps h5 ..) ?_
  extract_lets +onlyGivenNames s6
  have h6 : Keeps r s6 := State.establish_keeps (State.notePeer_keeps h5 ..) ..
  extract_lets +onlyGivenNames s7
  have h7 : Keeps r s7 := State.updChan_keeps h6 ..
  exact pred_ite (P := Keeps r) h7 (pred_ite (P := Keeps r) (State.bump_keeps h7 ..) (State.addFrame_keeps h7 ..))

theorem execFrameControlRx_keeps {r} {a3} (ha3 : Keeps r a3) (a1 a2) : KeepsX r (execFrameControlRx a1 a2 a3) := by
  unfold execFrameControlRx
  refine KeepsX.mk ?_
  extract_lets +onlyGivenNames _
  split
  · exact ha3
  · refine pred_ite (P := Keeps r) ha3 ?_
    extract_lets +onlyGivenNames _
    refine pred_ite (P := Keeps r) ?_ ?_
    · extract_lets +onlyGivenNames s3
      have h3 : Keeps r s3 := State.updChan_keeps ha3 ..
      exact State.bump_keeps (State.resetRx_keeps h3 ..) ..
    · extract_lets +onlyGivenNames _ _ s6
      have h6 : Keeps r s6 := State.updChan_keeps ha3 ..
      exact pred_ite (P := Keeps r) (State.bump_keeps (State.resetRx_keeps h6 ..) ..) (State.takeFc_keeps h6 ..)

theorem State.pipeSymbol_keeps {r} {a1} (ha1 : Keeps r a1) (a2 a3 a4 a5) : Keeps r (State.pipeSymbol a1 a2 a3 a4 a5) := by
  unfold State.pipeSymbol
  extract_lets +onlyGivenNames _ _ _ _ _ _ _ _ _ s10
  have h10 : Keeps r s10 := State.updChan_keeps ha1 ..
  extract_lets +onlyGivenNames _ s12
  have h12 : Keeps r s12 := pred_ite (P := Keeps r) (State.bump_keeps h10 ..) (pred_ite (P := Keeps r) (State.bump_keeps h10
      ..) h10)
  extract_lets +onlyGivenNames _ _ _ s16
  have h16 : Keeps r s16 := pred_ite (P := Keeps r) (State.bump_keeps h12 ..) h12
  extract_lets +onlyGivenNames _ s18
  have h18 : Keeps r s18 := pred_ite (P := Keeps r) (State.bump_keeps h16 ..) h16
  extract_lets +onlyGivenNames _ _ _ _ _ _ _
  exact Keeps.of h18 rfl

theorem execSymbolRx_keeps {r} {a2} (ha2 : Keeps r a2) (a1) : KeepsX r (execSymbolRx a1 a2) := by
  unfold execSymbolRx
  refine KeepsX.mk ?_
  split
  · exact ha2
  · extract_lets +onlyGivenNames _
    split
    · exact ha2
    · exact pred_ite (P := Keeps r) (State.pipeSymbol_keeps (State.release_keeps ha2 ..) ..) ha2

end Sys2Proof.Machine
end

