-- ==== Sys2Proof/Laws/KeepsFrames.lean ====
section
/-! SUPPORT. The commands waiting and the invariant are kept by: symbols, frames and commitment, the grid, the register interface, events. -/

namespace Sys2Proof.Machine

theorem State.guardSym_keeps {r} {a1} (ha1 : Keeps r a1) (a2 a3) : Keeps r (State.guardSym a1 a2 a3) := by
  unfold State.guardSym
  refine pred_ite (P := Keeps r) ha1 ?_
  extract_lets +onlyGivenNames _ _ _ _ _ s6
  have h6 : Keeps r s6 := pred_ite (P := Keeps r) ha1 (State.divGuard_keeps ha1 ..)
  exact pred_ite (P := Keeps r) (State.divGuard_keeps h6 ..) h6

theorem State.learnNext_keeps {r} {a1} (ha1 : Keeps r a1) (a2 a3) : Keeps r (State.learnNext a1 a2 a3) := by
  unfold State.learnNext
  extract_lets +onlyGivenNames _ _
  split
  · exact ha1
  · refine pred_ite (P := Keeps r) ha1 ?_
    extract_lets +onlyGivenNames _ _ _ _ _ _
    refine pred_foldl (P := Keeps r) _ (fun _ h9 x10 => ?_) _ ha1
    extract_lets +onlyGivenNames _ s12
    have h12 : Keeps r s12 := by
      unfold s12
      refine pred_foldl (P := Keeps r) _ (fun _ h13 x14 => ?_) _ h9
      extract_lets +onlyGivenNames _
      exact State.writeCoef_keeps h13 ..
    exact pred_ite (P := Keeps r) h12 (State.countUpdate_keeps h12 ..)

theorem State.stepCheck_keeps {r} {a1} (ha1 : Keeps r a1) (a2 a3) : Keeps r (State.stepCheck a1 a2 a3) := by
  unfold State.stepCheck
  extract_lets +onlyGivenNames _ s2
  have h2 : ∀ t1, Keeps r t1 → Keeps r (s2 t1) := by
    intro _ h3
    unfold s2
    exact State.updChan_keeps h3 ..
  clear_value s2
  refine pred_ite (P := Keeps r) (h2 _ ha1) ?_
  extract_lets +onlyGivenNames _
  refine pred_ite (P := Keeps r) ha1 ?_
  extract_lets +onlyGivenNames _ _ s7
  have h7 : Keeps r s7 := State.updChan_keeps ha1 ..
  refine pred_ite (P := Keeps r) ?_ h7
  extract_lets +onlyGivenNames s8
  have h8 : Keeps r s8 := State.bump_keeps h7 ..
  extract_lets +onlyGivenNames s9
  have h9 : Keeps r s9 := pred_ite (P := Keeps r) (State.bump_keeps h8 ..) h8
  extract_lets +onlyGivenNames s10
  have h10 : Keeps r s10 := State.olaDemote_keeps (h2 _ (State.setFlag_keeps h9 ..)) ..
  exact State.log_keeps h10 ..

theorem State.takeCells_keeps {r} {a1} (ha1 : Keeps r a1) (a2 a3) : Keeps r (State.takeCells a1 a2 a3) := by
  unfold State.takeCells
  extract_lets +onlyGivenNames _
  exact State.updChan_keeps ha1 ..

theorem State.addWork_keeps {r} {a1} (ha1 : Keeps r a1) (a2) : Keeps r (State.addWork a1 a2) := by
  unfold State.addWork
  exact Keeps.of ha1 rfl

theorem State.updFrame_keeps {r} {a1} (ha1 : Keeps r a1) (a2 a3 a4) : Keeps r (State.updFrame a1 a2 a3 a4) := by
  unfold State.updFrame
  exact State.updChan_keeps ha1 ..

theorem State.takeStamp_keeps {r} {a1} (ha1 : Keeps r a1) (a2 a3 a4 a5) : Keeps r (State.takeStamp a1 a2 a3 a4 a5) := by
  unfold State.takeStamp
  extract_lets +onlyGivenNames _ _ _
  refine pred_ite (P := Keeps r) (State.bump_keeps ha1 ..) ?_
  extract_lets +onlyGivenNames _ _ s6
  have h6 : ∀ t1, Keeps r t1 → Keeps r (s6 t1) := by
    intro _ h7
    unfold s6
    extract_lets +onlyGivenNames s8
    have h8 : Keeps r s8 := State.updChan_keeps (State.updFrame_keeps h7 ..) ..
    exact State.setFld_keeps h8 ..
  clear_value s6
  exact pred_ite (P := Keeps r) ha1 (pred_ite (P := Keeps r) (h6 _ ha1) (State.bump_keeps (h6 _ (State.updChan_keeps ha1 ..))
      ..))

theorem State.queueDue_keeps {r} {a1} (ha1 : Keeps r a1) (a2 a3 a4 a5) : Keeps r (State.queueDue a1 a2 a3 a4 a5) := by
  unfold State.queueDue
  extract_lets +onlyGivenNames _ _ _
  exact State.addWork_keeps (State.updChan_keeps ha1 ..) ..

theorem State.trackWindow_keeps {r} {a1} (ha1 : Keeps r a1) (a2 a3) : Keeps r (State.trackWindow a1 a2 a3) := by
  unfold State.trackWindow
  extract_lets +onlyGivenNames _
  exact State.updChan_keeps ha1 ..

theorem State.takeControl_keeps {r} {a1} (ha1 : Keeps r a1) (a2 a3) : Keeps r (State.takeControl a1 a2 a3) := by
  unfold State.takeControl
  extract_lets +onlyGivenNames _ _ _ _ _ _ _ s8
  have h8 : Keeps r s8 := pred_ite (P := Keeps r) (State.takeCells_keeps ha1 ..) ha1
  exact State.updChan_keeps (State.trackWindow_keeps h8 ..) ..

theorem State.takePayload_keeps {r} {a1} (ha1 : Keeps r a1) (a2 a3 a4 a5) : Keeps r (State.takePayload a1 a2 a3 a4 a5) := by
  unfold State.takePayload
  extract_lets +onlyGivenNames _ _ _ s4
  have h4 : Keeps r s4 := State.trackWindow_keeps ha1 ..
  extract_lets +onlyGivenNames _ _ s7
  have h7 : Keeps r s7 := pred_ite (P := Keeps r) h4 (State.stepCheck_keeps h4 ..)
  extract_lets +onlyGivenNames _ s9
  have h9 : Keeps r s9 := pred_ite (P := Keeps r) (State.updFrame_keeps h7 ..) h7
  extract_lets +onlyGivenNames _ s11
  have h11 : Keeps r s11 := pred_ite (P := Keeps r) (State.takeCells_keeps h9 ..) h9
  extract_lets +onlyGivenNames _
  split
  · exact State.queueDue_keeps (State.updFrame_keeps h11 ..) ..
  · extract_lets +onlyGivenNames s13
    have h13 : Keeps r s13 := pred_ite (P := Keeps r) (State.takeStamp_keeps h11 ..) h11
    extract_lets +onlyGivenNames _ s15
    have h15 : Keeps r s15 := State.updChan_keeps h13 ..
    extract_lets +onlyGivenNames s16
    have h16 : Keeps r s16 := State.queueDue_keeps h15 ..
    exact pred_ite (P := Keeps r) (State.updChan_keeps h16 ..) h16

theorem State.takeSymbol_keeps {r} {a1} (ha1 : Keeps r a1) (a2 a3) : Keeps r (State.takeSymbol a1 a2 a3) := by
  unfold State.takeSymbol
  extract_lets +onlyGivenNames s1
  have h1 : Keeps r s1 := State.guardSym_keeps (State.learnNext_keeps ha1 ..) ..
  split
  · exact State.takeControl_keeps h1 ..
  · split
    · exact State.takePayload_keeps h1 ..
    · exact h1
  · exact h1

theorem State.missSync_keeps {r} {a1} (ha1 : Keeps r a1) (a2 a3 a4) : Keeps r (State.missSync a1 a2 a3 a4) := by
  unfold State.missSync
  extract_lets +onlyGivenNames _ _ _ _ _ s6
  have h6 : Keeps r s6 := Keeps.of ha1 rfl
  exact pred_ite (P := Keeps r) (State.holdPairs_keeps h6 ..) h6

theorem State.endUpSync_keeps {r} {a1} (ha1 : Keeps r a1) (a2 a3) : Keeps r (State.endUpSync a1 a2 a3) := by
  unfold State.endUpSync
  extract_lets +onlyGivenNames _ _ _ _ s5
  have h5 : Keeps r s5 := pred_foldl (P := Keeps r) _ (fun _ h6 x7 => State.missSync_keeps (State.setFlag_keeps h6 ..) ..) _ ha1
  extract_lets +onlyGivenNames _
  exact Keeps.of h5 rfl

theorem State.endDnSync_keeps {r} {a1} (ha1 : Keeps r a1) (a2) : Keeps r (State.endDnSync a1 a2) := by
  unfold State.endDnSync
  exact pred_foldl (P := Keeps r) _ (fun _ h1 x2 => State.missSync_keeps h1 ..) _ ha1

theorem State.endSymbols_keeps {r} {a1} (ha1 : Keeps r a1) (a2) : Keeps r (State.endSymbols a1 a2) := by
  unfold State.endSymbols
  extract_lets +onlyGivenNames _ s2
  have h2 : Keeps r s2 := pred_foldl (P := Keeps r) _ (fun _ h3 x4 => State.takeSymbol_keeps h3 ..) _ ha1
  extract_lets +onlyGivenNames s5
  have h5 : Keeps r s5 := pred_ite (P := Keeps r) (State.endUpSync_keeps h2 ..) h2
  extract_lets +onlyGivenNames s6
  have h6 : Keeps r s6 := pred_ite (P := Keeps r) (State.endDnSync_keeps h5 ..) h5
  exact Keeps.of h6 rfl

theorem State.grantPool_keeps {r} {a1} (ha1 : Keeps r a1) (a2) : Keeps r (State.grantPool a1 a2) := by
  unfold State.grantPool
  extract_lets +onlyGivenNames _ _ _ _ _
  split
  · extract_lets +onlyGivenNames _ _ _ _ _ _ _ _ _ s15
    have h15 : Keeps r s15 := Keeps.of ha1 rfl
    extract_lets +onlyGivenNames _ s17
    have h17 : Keeps r s17 := pred_ite (P := Keeps r) h15 (State.bumpN_keeps h15 ..)
    extract_lets +onlyGivenNames s18
    have h18 : Keeps r s18 := pred_ite (P := Keeps r) h17 (State.bumpN_keeps h17 ..)
    exact pred_ite (P := Keeps r) h18 (State.bumpN_keeps h18 ..)

theorem State.grantDecoders_keeps {r} {a1} (ha1 : Keeps r a1) : Keeps r (State.grantDecoders a1) := by
  unfold State.grantDecoders
  extract_lets +onlyGivenNames _ s2
  have h2 : Keeps r s2 := Keeps.of ha1 rfl
  extract_lets +onlyGivenNames s3
  have h3 : Keeps r s3 := State.grantPool_keeps (State.grantPool_keeps h2 ..) ..
  exact pred_foldl (P := Keeps r) _ (fun _ h4 x5 => State.setFld_keeps h4 ..) _ h3

theorem State.blockOut_keeps {r} {a1} (ha1 : Keeps r a1) (a2 a3 a4 a5) : Keeps r (State.blockOut a1 a2 a3 a4 a5) := by
  unfold State.blockOut
  exact State.updFrame_keeps ha1 ..

theorem execDecodeComplete_keeps {r} {a3} (ha3 : Keeps r a3) (a1 a2) : KeepsX r (execDecodeComplete a1 a2 a3) := by
  unfold execDecodeComplete
  refine KeepsX.mk ?_
  extract_lets +onlyGivenNames _
  split
  · exact ha3
  · refine pred_ite (P := Keeps r) ha3 ?_
    extract_lets +onlyGivenNames _ s3
    have h3 : Keeps r s3 := Keeps.of ha3 rfl
    split
    · exact h3
    · split
      · exact h3
      · extract_lets +onlyGivenNames _ s5
        have h5 : Keeps r s5 := State.blockOut_keeps h3 ..
        exact pred_ite (P := Keeps r) (State.bump_keeps h5 ..) h5

theorem execDecodeDrop_keeps {r} {a1} (ha1 : Keeps r a1) : KeepsX r (execDecodeDrop a1) := by
  unfold execDecodeDrop
  refine KeepsX.mk ?_
  split
  · exact ha1
  · extract_lets +onlyGivenNames _ s2
    have h2 : Keeps r s2 := by unfold s2; exact State.bump_keeps (Keeps.of ha1 rfl) ..
    extract_lets +onlyGivenNames _ s4
    have h4 : Keeps r s4 := State.blockOut_keeps h2 ..
    exact State.bump_keeps h4 ..

theorem State.learnFrame_keeps {r} {a1} (ha1 : Keeps r a1) (a2 a3 a4 a5 a6) : Keeps r (State.learnFrame a1 a2 a3 a4 a5 a6) := by
  unfold State.learnFrame
  exact pred_ite (P := Keeps r) ha1 (State.refreshSnr_keeps (State.takeCells_keeps ha1 ..) ..)

theorem State.takeData_keeps {r} {a1} (ha1 : Keeps r a1) (a2 a3) : Keeps r (State.takeData a1 a2 a3) := by
  unfold State.takeData
  extract_lets +onlyGivenNames _
  split
  · extract_lets +onlyGivenNames _
    refine pred_ite (P := Keeps r) ha1 ?_
    extract_lets +onlyGivenNames s3
    have h3 : Keeps r s3 := State.notePeer_keeps (State.learnFrame_keeps ha1 ..) ..
    extract_lets +onlyGivenNames s4
    have h4 : Keeps r s4 := pred_ite (P := Keeps r) (State.takeFlow_keeps h3 ..) (State.takeAllLoose_keeps h3 ..)
    exact State.reviewMaps_keeps h4 ..

theorem execDataFrameRx_keeps {r} {a2} (ha2 : Keeps r a2) (a1) : KeepsX r (execDataFrameRx a1 a2) := by
  unfold execDataFrameRx
  refine KeepsX.mk ?_
  split
  · exact ha2
  · exact State.takeData_keeps (State.takeHeard_keeps ha2 ..) ..

theorem State.takeFlood_keeps {r} {a1} (ha1 : Keeps r a1) (a2 a3) : Keeps r (State.takeFlood a1 a2 a3) := by
  unfold State.takeFlood
  extract_lets +onlyGivenNames _
  split
  · refine pred_ite (P := Keeps r) ha1 ?_
    refine pred_ite (P := Keeps r) (State.bump_keeps ha1 ..) ?_
    extract_lets +onlyGivenNames _ s3
    have h3 : Keeps r s3 := State.notePeer_keeps (State.learnFrame_keeps ha1 ..) ..
    extract_lets +onlyGivenNames _ _ _ s7
    have h7 : ∀ t1, Keeps r t1 → Keeps r (s7 t1) := by
      intro _ h8
      unfold s7
      exact State.reviewMaps_keeps (State.takeAllLoose_keeps h8 ..) ..
    clear_value s7
    split
    · exact h7 _ h3
    · refine pred_ite (P := Keeps r) (State.bump_keeps h3 ..) ?_
      extract_lets +onlyGivenNames s9
      have h9 : Keeps r s9 := h7 _ (State.enterSeen_keeps h3 ..)
      refine pred_ite (P := Keeps r) (State.bump_keeps h9 ..) ?_
      extract_lets +onlyGivenNames _
      exact pred_ite (P := Keeps r) h9 (pred_foldl (P := Keeps r) _ (fun _ h11 x12 => State.addCopy_keeps h11 ..) _ h9)

theorem execFloodFrameRx_keeps {r} {a2} (ha2 : Keeps r a2) (a1) : KeepsX r (execFloodFrameRx a1 a2) := by
  unfold execFloodFrameRx
  refine KeepsX.mk ?_
  split
  · exact ha2
  · exact State.takeFlood_keeps (State.takeHeard_keeps ha2 ..) ..

theorem State.takeSound_keeps {r} {a1} (ha1 : Keeps r a1) (a2 a3) : Keeps r (State.takeSound a1 a2 a3) := by
  unfold State.takeSound
  extract_lets +onlyGivenNames _
  refine pred_ite (P := Keeps r) ha1 ?_
  extract_lets +onlyGivenNames s2
  have h2 : Keeps r s2 := State.notePeer_keeps ha1 ..
  refine pred_ite (P := Keeps r) (State.askSound_keeps h2 ..) ?_
  extract_lets +onlyGivenNames s3
  have h3 : Keeps r s3 := State.updChan_keeps h2 ..
  extract_lets +onlyGivenNames s4
  have h4 : Keeps r s4 := State.renewMap_keeps (State.showSnr_keeps (State.bump_keeps h3 ..) ..) ..
  exact pred_ite (P := Keeps r) (State.renewMap_keeps h4 ..) h4

theorem execSoundRx_keeps {r} {a2} (ha2 : Keeps r a2) (a1) : KeepsX r (execSoundRx a1 a2) := by
  unfold execSoundRx
  refine KeepsX.mk ?_
  split
  · exact ha2
  · exact State.takeSound_keeps (State.takeHeard_keeps ha2 ..) ..

theorem State.takeBeacon_keeps {r} {a1} (ha1 : Keeps r a1) (a2 a3) : Keeps r (State.takeBeacon a1 a2 a3) := by
  unfold State.takeBeacon
  extract_lets +onlyGivenNames _
  split
  · extract_lets +onlyGivenNames _ _ _
    refine pred_ite (P := Keeps r) ha1 ?_
    refine pred_ite (P := Keeps r) (State.roleConflict_keeps ha1 ..) ?_
    refine pred_ite (P := Keeps r) ha1 ?_
    extract_lets +onlyGivenNames s5
    have h5 : Keeps r s5 := State.notePeer_keeps ha1 ..
    extract_lets +onlyGivenNames _ _ _ _ _ _ _ _ s14
    have h14 : Keeps r s14 := State.setFld_keeps h5 ..
    extract_lets +onlyGivenNames _ s16
    have h16 : Keeps r s16 := State.updChan_keeps h14 ..
    extract_lets +onlyGivenNames s17
    have h17 : Keeps r s17 := pred_ite (P := Keeps r) (State.setFlag_keeps h16 ..) h16
    extract_lets +onlyGivenNames s18
    have h18 : Keeps r s18 := State.setFlag_keeps h17 ..
    exact pred_ite (P := Keeps r) (State.requestState_keeps h18 ..) h18

theorem execBeaconRx_keeps {r} {a2} (ha2 : Keeps r a2) (a1) : KeepsX r (execBeaconRx a1 a2) := by
  unfold execBeaconRx
  refine KeepsX.mk ?_
  split
  · exact ha2
  · exact State.reviewMaps_keeps (State.takeBeacon_keeps (State.takeHeard_keeps ha2 ..) ..) ..

theorem State.numberMsg_keeps {r} {a1} (ha1 : Keeps r a1) (a2) : Keeps r (State.numberMsg a1 a2) := by
  unfold State.numberMsg
  extract_lets +onlyGivenNames _ _ _ _ s5
  have h5 : Keeps r s5 := Keeps.of ha1 rfl
  exact State.setTxFlow_keeps h5 ..

theorem State.takeSeg_keeps {r} {a1} (ha1 : Keeps r a1) (a2) : KeepsO2 r (State.takeSeg a1 a2) := by
  unfold State.takeSeg
  extract_lets +onlyGivenNames _ _ _ s4
  have h4 : KeepsO2 r s4 := by
    unfold s4
    refine pred_ite (P := KeepsO2 r) (KeepsO2.mk (Keeps2.mk ha1)) ?_
    refine pred_ite (P := KeepsO2 r) ?_ ?_
    · split
      · exact KeepsO2.mk (Keeps2.mk ha1)
      · split
        · rename_i e5
          have h5 := Keeps2.out (r := r) e5 (State.drawFree_keeps ha1 ..)
          exact KeepsO2.mk (Keeps2.mk h5)
    · refine pred_ite (P := KeepsO2 r) KeepsO2.none ?_
      split
      · exact KeepsO2.none
      · rename_i e6
        have h6 := KeepsO2.out (r := r) e6 (State.takeIf_keeps ha1 ..)
        extract_lets +onlyGivenNames s7
        have h7 : Keeps r s7 := pred_ite (P := Keeps r) (State.numberMsg_keeps h6 ..) h6
        exact KeepsO2.mk (Keeps2.mk h7)
  clear_value s4
  split
  · exact KeepsO2.none
  · have h8 := KeepsO2.out (r := r) rfl h4
    refine pred_ite (P := KeepsO2 r) ?_ (KeepsO2.mk (Keeps2.mk h8))
    split
    · exact KeepsO2.none
    · rename_i e9
      have h9 := KeepsO2.out (r := r) e9 (State.sealField_keeps h8 ..)
      exact KeepsO2.mk (Keeps2.mk h9)

theorem State.putSeg_keeps {r} {a1} (ha1 : Keeps r a1) (a2) : Keeps r (State.putSeg a1 a2) := by
  unfold State.putSeg
  exact Keeps.of ha1 rfl

theorem State.collect_keeps {r a6} (ha6 : Keeps r a6) (a1 a2 a3 a4 a5) : Keeps2 r (State.collect a1 a2 a3 a4 a5 a6) := by
  induction a2 generalizing a3 a4 a5 a6 with
  | nil => exact ha6
  | cons g gs ih =>
    unfold State.collect
    extract_lets _ _
    refine pred_ite (P := Keeps2 r) ha6 ?_
    split
    · exact ha6
    · rename_i e
      have h1 := KeepsO2.out (r := r) e (State.takeSeg_keeps ha6 ..)
      exact ih (State.putSeg_keeps h1 ..) ..

theorem State.segFrame_keeps {r} {a1} (ha1 : Keeps r a1) (a2 a3 a4) : Keeps2 r (State.segFrame a1 a2 a3 a4) := by
  unfold State.segFrame
  extract_lets +onlyGivenNames _ s2
  clear_value s2
  split
  · exact Keeps2.mk ha1
  · extract_lets +onlyGivenNames _ _ _ _ _ _ _ _
    split
    · rename_i e11
      have h11 := Keeps2.out (r := r) e11 (State.collect_keeps ha1 ..)
      split
      · exact Keeps2.mk (pred_ite (P := Keeps r) (State.bump_keeps ha1 ..) ha1)
      · extract_lets +onlyGivenNames _ _ _ _ _
        exact Keeps2.mk h11

theorem State.ptpFrameFor_keeps {r} {a1} (ha1 : Keeps r a1) (a2 a3) : KeepsO2 r (State.ptpFrameFor a1 a2 a3) := by
  unfold State.ptpFrameFor
  split
  · exact KeepsO2.none
  · split
    · rename_i e1
      have h1 := Keeps2.out (r := r) e1 (State.ptpDepart_keeps ha1 ..)
      extract_lets +onlyGivenNames _ s3
      have h3 : Keeps r s3 := Keeps.of h1 rfl
      split
      · rename_i e4
        have h4 := Keeps2.out (r := r) e4 (State.drawFree_keeps h3 ..)
        extract_lets +onlyGivenNames _ _ _ _ _
        exact KeepsO2.mk (Keeps2.mk h4)

theorem State.gaspFrame_keeps {r} {a1} (ha1 : Keeps r a1) (a2 a3) : KeepsO2 r (State.gaspFrame a1 a2 a3) := by
  unfold State.gaspFrame
  extract_lets +onlyGivenNames _ _
  refine pred_ite (P := KeepsO2 r) KeepsO2.none ?_
  extract_lets +onlyGivenNames _
  split
  · rename_i e4
    have h4 := Keeps2.out (r := r) e4 (State.drawFree_keeps ha1 ..)
    extract_lets +onlyGivenNames _ _
    exact KeepsO2.mk (Keeps2.mk (Keeps.of h4 rfl))

theorem State.headFrame_keeps {r} {a1} (ha1 : Keeps r a1) (a2 a3 a4) : Keeps2 r (State.headFrame a1 a2 a3 a4) := by
  unfold State.headFrame
  extract_lets +onlyGivenNames s1
  have h1 : ∀ t1, ∀ t2, Keeps r t2 → Keeps2 r (s1 t1 t2) := by
    intro x2 _ h3
    unfold s1
    split
    · exact pred_ite (P := Keeps2 r) (Keeps2.mk h3) (Keeps2.mk ha1)
    · exact Keeps2.mk ha1
  clear_value s1
  extract_lets +onlyGivenNames _ s5 s6
  split
  · rename_i e7
    have h7 := KeepsO2.out (r := r) e7 (pred_ite (P := KeepsO2 r) (State.gaspFrame_keeps ha1 ..) KeepsO2.none)
    exact h1 _ _ h7
  · refine pred_ite (P := Keeps2 r) (State.segFrame_keeps ha1 ..) ?_
    split
    · exact h1 _ _ ha1
    · rename_i e8
      have h8 := KeepsO2.out (r := r) e8 (pred_ite (P := KeepsO2 r) (State.ptpFrameFor_keeps ha1 ..) KeepsO2.none)
      exact h1 _ _ h8
    · clear_value s5
      clear_value s6
      split
      · exact pred_ite (P := Keeps2 r) (h1 _ _ ha1) (State.segFrame_keeps ha1 ..)
      · exact State.segFrame_keeps ha1 ..
      · exact h1 _ _ ha1
      · exact pred_ite (P := Keeps2 r) (h1 _ _ ha1) (Keeps2.mk ha1)

theorem State.chargeAir_keeps {r} {a1} (ha1 : Keeps r a1) (a2 a3 a4) : KeepsO2 r (State.chargeAir a1 a2 a3 a4) := by
  unfold State.chargeAir
  extract_lets +onlyGivenNames _ _ _ _ _
  refine pred_ite (P := KeepsO2 r) KeepsO2.none ?_
  extract_lets +onlyGivenNames s6
  have h6 : Keeps r s6 := State.setFld_keeps (State.setFld_keeps ha1 ..) ..
  exact KeepsO2.mk (Keeps2.mk (Keeps.of h6 rfl))

theorem State.airRefused_keeps {r} {a1} (ha1 : Keeps r a1) (a2) : Keeps r (State.airRefused a1 a2) := by
  unfold State.airRefused
  exact pred_ite (P := Keeps r) ha1 (State.bump_keeps (Keeps.of ha1 rfl) ..)

theorem State.checkFrame_keeps {r} {a1 a3} (ha1 : Keeps r a1) (ha3 : Keeps r a3) (a2 a4) :
    KeepsP r (State.checkFrame a1 a2 a3 a4) := by
  unfold State.checkFrame
  extract_lets +onlyGivenNames _
  refine pred_ite (P := KeepsP r) (KeepsP.mk KeepsO2.none ha1) ?_
  refine pred_ite (P := KeepsP r) (KeepsP.mk KeepsO2.none ha1) ?_
  refine pred_ite (P := KeepsP r) (KeepsP.mk KeepsO2.none (State.bump_keeps ha1 ..)) ?_
  refine pred_ite (P := KeepsP r) (KeepsP.mk KeepsO2.none (State.bump_keeps ha1 ..)) ?_
  refine pred_ite (P := KeepsP r) ?_ (KeepsP.mk (KeepsO2.mk (Keeps2.mk ha3)) ha1)
  split
  · exact KeepsP.mk KeepsO2.none (State.airRefused_keeps ha1 ..)
  · rename_i e2
    have h2 := KeepsO2.out (r := r) e2 (State.chargeAir_keeps ha3 ..)
    exact KeepsP.mk (KeepsO2.mk (Keeps2.mk h2)) ha1

theorem State.switchLi_keeps {r} {a1} (ha1 : Keeps r a1) (a2) : Keeps r (State.switchLi a1 a2) := by
  unfold State.switchLi
  split
  · exact ha1
  · extract_lets +onlyGivenNames _
    exact pred_ite (P := Keeps r) ha1 (State.setFlag_keeps (pred_ite (P := Keeps r) (State.restartLi_keeps ha1 ..) ha1) ..)

theorem State.commitFrame_keeps {r} {a1} (ha1 : Keeps r a1) (a2) : Keeps r (State.commitFrame a1 a2) := by
  unfold State.commitFrame
  extract_lets +onlyGivenNames s1
  have h1 : Keeps r s1 := State.switchLi_keeps ha1 ..
  extract_lets +onlyGivenNames _ s3
  have h3 : Keeps r s3 := Keeps.of h1 rfl
  extract_lets +onlyGivenNames _
  exact State.updChan_keeps h3 ..

theorem State.tryClass_keeps {r} {a1} (ha1 : Keeps r a1) (a2 a3 a4) : Keeps2 r (State.tryClass a1 a2 a3 a4) := by
  unfold State.tryClass
  split
  · rename_i e1
    have h1 := Keeps2.out (r := r) e1 (State.headFrame_keeps ha1 ..)
    exact Keeps2.mk h1
  · rename_i e2
    have h2 := Keeps2.out (r := r) e2 (State.headFrame_keeps ha1 ..)
    split
    · rename_i e3
      have h3 := KeepsP.both (r := r) e3 (State.checkFrame_keeps ha1 h2 ..)
      exact Keeps2.mk (State.commitFrame_keeps h3.1 ..)
    · rename_i e4
      have h4 := KeepsP.out (r := r) e4 (State.checkFrame_keeps ha1 h2 ..)
      exact Keeps2.mk h4

theorem State.judgeClass_keeps {r} {a1} (ha1 : Keeps r a1) (a2 a3 a4) : Keeps r (State.judgeClass a1 a2 a3 a4) := by
  unfold State.judgeClass
  split
  · rename_i e1
    have h1 := Keeps2.out (r := r) e1 (State.headFrame_keeps ha1 ..)
    exact ha1
  · rename_i e2
    have h2 := Keeps2.out (r := r) e2 (State.headFrame_keeps ha1 ..)
    exact KeepsP.proj1 (State.checkFrame_keeps ha1 h2 ..)

theorem State.tryFirst_keeps {r} {a1} (ha1 : Keeps r a1) (a2 a3 a4) : Keeps r (State.tryFirst a1 a2 a3 a4) := by
  unfold State.tryFirst
  split
  · exact Keeps2.proj (State.tryClass_keeps ha1 ..)
  · exact ha1

theorem State.commitBeacon_keeps {r} {a1} (ha1 : Keeps r a1) (a2 a3) : Keeps r (State.commitBeacon a1 a2 a3) := by
  unfold State.commitBeacon
  refine pred_ite (P := Keeps r) ha1 ?_
  split
  · exact ha1
  · split
    · rename_i e1
      have h1 := KeepsP.both (r := r) e1 (State.checkFrame_keeps ha1 ha1 ..)
      exact State.updChan_keeps (State.commitFrame_keeps h1.1 ..) ..
    · rename_i e2
      have h2 := KeepsP.out (r := r) e2 (State.checkFrame_keeps ha1 ha1 ..)
      exact h2

theorem State.commitAck_keeps {r} {a1} (ha1 : Keeps r a1) (a2 a3) : Keeps r (State.commitAck a1 a2 a3) := by
  unfold State.commitAck
  extract_lets +onlyGivenNames s1
  have h1 : Keeps r s1 := State.updChan_keeps ha1 ..
  extract_lets +onlyGivenNames _
  exact pred_ite (P := Keeps r) h1 (pred_ite (P := Keeps r) (State.bump_keeps h1 ..) (pred_ite (P := Keeps r) (State.bump_keeps
      h1 ..) (Keeps.of h1 rfl)))

theorem State.prioritySlot_keeps {r} {a1} (ha1 : Keeps r a1) (a2 a3) : Keeps r (State.prioritySlot a1 a2 a3) := by
  unfold State.prioritySlot
  extract_lets +onlyGivenNames _ s2
  have h2 : ∀ t1, ∀ t2, Keeps r t2 → Keeps r (s2 t1 t2) := by
    intro x3 _ h4
    unfold s2
    exact State.updChan_keeps h4 ..
  clear_value s2
  split
  · exact h2 _ _ ha1
  · extract_lets +onlyGivenNames _ _ s7
    have h7 : Keeps r s7 := pred_ite (P := Keeps r) (State.bump_keeps ha1 ..) ha1
    refine pred_ite (P := Keeps r) (h2 _ _ h7) ?_
    split
    · rename_i e8
      have h8 := KeepsP.out (r := r) e8 (State.checkFrame_keeps h7 h7 ..)
      exact h2 _ _ h8
    · rename_i e9
      have h9 := KeepsP.both (r := r) e9 (State.checkFrame_keeps h7 h7 ..)
      extract_lets +onlyGivenNames s10
      have h10 : Keeps r s10 := pred_ite (P := Keeps r) (State.drawBc_keeps h7 ..) h7
      extract_lets +onlyGivenNames s11
      have h11 : Keeps r s11 := h2 _ _ h10
      exact pred_ite (P := Keeps r) h11 (Keeps.of h11 rfl)

theorem State.contend_keeps {r} {a1} (ha1 : Keeps r a1) (a2 a3) : Keeps r (State.contend a1 a2 a3) := by
  unfold State.contend
  extract_lets +onlyGivenNames _ s2
  have h2 : ∀ t1, Keeps r t1 → Keeps r (s2 t1) := by
    intro _ h3
    unfold s2
    split
    · exact h3
    · exact State.judgeClass_keeps h3 ..
  clear_value s2
  split
  · exact pred_ite (P := Keeps r) (h2 _ ha1) (State.prioritySlot_keeps ha1 ..)
  · split
    · exact h2 _ ha1
    · refine pred_ite (P := Keeps r) (h2 _ ha1) ?_
      split
      · rename_i e4
        have h4 := Keeps2.out (r := r) e4 (State.tryClass_keeps ha1 ..)
        exact State.updChan_keeps h4 ..
      · rename_i e5
        have h5 := Keeps2.out (r := r) e5 (State.tryClass_keeps ha1 ..)
        exact State.updChan_keeps h5 ..

theorem State.commitChan_keeps {r} {a1} (ha1 : Keeps r a1) (a2 a3) : Keeps r (State.commitChan a1 a2 a3) := by
  unfold State.commitChan
  extract_lets +onlyGivenNames _ s2
  have h2 : Keeps r s2 := pred_foldl (P := Keeps r) _ (fun _ h3 x4 => State.commitAck_keeps h3 ..) _ ha1
  extract_lets +onlyGivenNames _ s6
  have h6 : Keeps r s6 := pred_ite (P := Keeps r) (State.updChan_keeps h2 ..) h2
  extract_lets +onlyGivenNames _ s8
  have h8 : Keeps r s8 := by unfold s8; exact pred_ite (P := Keeps r) (Keeps.of h6 rfl) h6
  exact pred_ite (P := Keeps r) (pred_ite (P := Keeps r) (State.commitBeacon_keeps h8 ..) h8) (pred_ite (P := Keeps r) h8
      (pred_ite (P := Keeps r) (pred_ite (P := Keeps r) (Keeps2.proj (State.tryClass_keeps h8 ..)) h8) (pred_ite (P := Keeps r)
      h8 (pred_ite (P := Keeps r) (pred_ite (P := Keeps r) (State.tryFirst_keeps h8 ..) h8) (State.contend_keeps h8 ..)))))

theorem execTransmitCommit_keeps {r} {a1} (ha1 : Keeps r a1) : KeepsX r (execTransmitCommit a1) := by
  unfold execTransmitCommit
  refine KeepsX.mk ?_
  refine pred_ite (P := Keeps r) ha1 ?_
  extract_lets +onlyGivenNames _
  exact pred_foldl (P := Keeps r) _ (fun _ h2 x3 => pred_ite (P := Keeps r) (State.commitChan_keeps h2 ..) h2) _ ha1

theorem execContentionCycleEnd_keeps {r} {a2} (ha2 : Keeps r a2) (a1) : KeepsX r (execContentionCycleEnd a1 a2) := by
  unfold execContentionCycleEnd
  refine KeepsX.mk ?_
  split
  · exact ha2
  · extract_lets +onlyGivenNames s1
    have h1 : Keeps r s1 := by
      unfold s1
      split
      · exact pred_ite (P := Keeps r) (State.setBc_keeps ha2 ..) ha2
      · exact ha2
    exact State.updChan_keeps h1 ..

theorem execLiIdleFill_keeps {r} {a2} (ha2 : Keeps r a2) (a1) : KeepsX r (execLiIdleFill a1 a2) := by
  unfold execLiIdleFill
  refine KeepsX.mk ?_
  extract_lets +onlyGivenNames _
  exact pred_ite (P := Keeps r) (State.updChan_keeps ha2 ..) ha2

theorem State.chargeSlot_keeps {r} {a1} (ha1 : Keeps r a1) (a2 a3) : Keeps r (State.chargeSlot a1 a2 a3) := by
  unfold State.chargeSlot
  extract_lets +onlyGivenNames s1
  clear_value s1
  split
  · exact ha1
  · refine pred_foldl (P := Keeps r) _ (fun _ h2 x3 => ?_) _ ha1
    extract_lets +onlyGivenNames _ _ _ _
    exact Keeps.of h2 rfl

theorem State.launchSegs_keeps {r} {a1} (ha1 : Keeps r a1) (a2) : Keeps r (State.launchSegs a1 a2) := by
  unfold State.launchSegs
  refine pred_ite (P := Keeps r) ?_ ?_
  · extract_lets +onlyGivenNames s1
    clear_value s1
    split
    · exact ha1
    · extract_lets +onlyGivenNames _ s3
      have h3 : Keeps r s3 := pred_foldl (P := Keeps r) _ (fun _ h4 x5 => State.giveDesc_keeps h4 ..) _ ha1
      exact Keeps.of h3 rfl
    · exact Keeps.of ha1 rfl
  · refine pred_ite (P := Keeps r) (State.updChan_keeps ha1 ..) ?_
    extract_lets +onlyGivenNames _
    exact State.sweepTx_keeps (Keeps.of ha1 rfl) ..

theorem State.launch_keeps {r} {a1} (ha1 : Keeps r a1) (a2) : Keeps r (State.launch a1 a2) := by
  unfold State.launch
  extract_lets +onlyGivenNames _
  refine pred_ite (P := Keeps r) (State.discardFrame_keeps ha1 ..) ?_
  extract_lets +onlyGivenNames s2
  have h2 : Keeps r s2 := pred_ite (P := Keeps r) ha1 (State.bump_keeps (State.resetRx_keeps ha1 ..) ..)
  extract_lets +onlyGivenNames _ s4
  have h4 : Keeps r s4 := Keeps.of h2 rfl
  extract_lets +onlyGivenNames _ _ s7
  have h7 : Keeps r s7 := Keeps.of h4 rfl
  split
  · rename_i e8
    have h8 := Keeps2.out (r := r) e8 (pred_ite (P := Keeps2 r) (Keeps2.mk h7) (State.buildAir_keeps h7 ..))
    extract_lets +onlyGivenNames _ s10
    have h10 : Keeps r s10 := Keeps.of h8 rfl
    extract_lets +onlyGivenNames _ _ s13
    have h13 : Keeps r s13 := State.chargeSlot_keeps (State.addRamp_keeps h10 ..) ..
    refine pred_ite (P := Keeps r) h13 ?_
    extract_lets +onlyGivenNames s14
    have h14 : Keeps r s14 := pred_ite (P := Keeps r) (State.updChan_keeps h13 ..) h13
    extract_lets +onlyGivenNames s15
    have h15 : Keeps r s15 := pred_ite (P := Keeps r) (State.tmSent_keeps h14 ..) h14
    extract_lets +onlyGivenNames s16
    have h16 : Keeps r s16 := State.launchSegs_keeps h15 ..
    exact pred_ite (P := Keeps r) (State.exchangeOk_keeps h16 ..) h16

theorem execFrameLaunch_keeps {r} {a2} (ha2 : Keeps r a2) (a1) : KeepsX r (execFrameLaunch a1 a2) := by
  unfold execFrameLaunch
  exact KeepsX.mk (State.fillDown_keeps (pred_foldl (P := Keeps r) _ (fun _ h1 x2 => State.launch_keeps h1 ..) _ ha2) ..)

theorem execAckSend_keeps {r} {a2} (ha2 : Keeps r a2) (a1) : KeepsX r (execAckSend a1 a2) := by
  unfold execAckSend
  refine KeepsX.mk ?_
  extract_lets +onlyGivenNames s1
  have h1 : Keeps r s1 := by
    unfold s1
    split
    · exact pred_ite (P := Keeps r) (State.commitAck_keeps ha2 ..) (State.updChan_keeps ha2 ..)
    · exact ha2
  exact State.fillDown_keeps (pred_foldl (P := Keeps r) _ (fun _ h2 x3 => State.launch_keeps h2 ..) _ h1) ..

theorem State.changePair_keeps {r} {a1} (ha1 : Keeps r a1) (a2 a3 a4 a5) : Keeps r (State.changePair a1 a2 a3 a4 a5) := by
  unfold State.changePair
  extract_lets +onlyGivenNames _ _
  exact pred_ite (P := Keeps r) (State.setPair_keeps ha1 ..) ha1

theorem State.applyChange_keeps {r} {a1} (ha1 : Keeps r a1) (a2) : Keeps r (State.applyChange a1 a2) := by
  unfold State.applyChange
  split
  · exact State.applyState_keeps ha1 ..
  · exact State.sendCoupling_keeps ha1 ..
  · exact pred_ite (P := Keeps r) (State.couplingOn_keeps ha1 ..) ha1
  · exact State.olaStop_keeps ha1 ..
  · exact State.changePair_keeps ha1 ..
  · exact State.fenceUnit_keeps ha1 ..
  · exact State.unfenceUnit_keeps ha1 ..
  · exact State.dropFeature_keeps ha1 ..
  · exact State.armChannel_keeps ha1 ..

theorem State.applyChanges_keeps {r} {a1} (ha1 : Keeps r a1) : Keeps r (State.applyChanges a1) := by
  unfold State.applyChanges
  extract_lets +onlyGivenNames _ _ s3
  have h3 : Keeps r s3 := Keeps.of ha1 rfl
  exact pred_foldl (P := Keeps r) _ (fun _ h4 x5 => State.applyChange_keeps h4 ..) _ h3

theorem State.passSlots_keeps {r} {a1} (ha1 : Keeps r a1) : Keeps r (State.passSlots a1) := by
  unfold State.passSlots
  extract_lets +onlyGivenNames _ _ s3
  have h3 : Keeps r s3 := by
    unfold s3
    refine pred_foldl (P := Keeps r) _ (fun _ h4 x5 => ?_) _ ha1
    extract_lets +onlyGivenNames s6
    have h6 : Keeps r s6 := State.bumpN_keeps (State.updChan_keeps h4 ..) ..
    exact pred_ite (P := Keeps r) (State.replySent_keeps h6 ..) h6
  extract_lets +onlyGivenNames s7
  have h7 : Keeps r s7 := Keeps.of h3 rfl
  exact pred_foldl (P := Keeps r) _ (fun _ h8 x9 => State.discardFrame_keeps h8 ..) _ h7

theorem State.sendSync_keeps {r} {a1} (ha1 : Keeps r a1) : Keeps r (State.sendSync a1) := by
  unfold State.sendSync
  extract_lets +onlyGivenNames _
  refine pred_ite (P := Keeps r) ha1 ?_
  refine pred_foldl (P := Keeps r) _ (fun _ h2 x3 => ?_) _ ha1
  extract_lets +onlyGivenNames _
  refine pred_ite (P := Keeps r) h2 ?_
  extract_lets +onlyGivenNames _
  exact State.addRamp_keeps (State.noteSync_keeps (Keeps.of h2 rfl) ..) ..

theorem State.ledgerSlot_keeps {r} {a1} (ha1 : Keeps r a1) (a2) : Keeps r (State.ledgerSlot a1 a2) := by
  unfold State.ledgerSlot
  extract_lets +onlyGivenNames _ _ _ _ _ s6
  have h6 : Keeps r s6 := Keeps.of ha1 rfl
  split
  · extract_lets +onlyGivenNames _ s8
    have h8 : ∀ t1, Keeps r (s8 t1) := by
      intro x9
      unfold s8
      exact State.log_keeps (State.setFld_keeps h6 ..) ..
    clear_value s8
    exact pred_ite (P := Keeps r) (h8 _) (pred_ite (P := Keeps r) (h8 _) h6)

theorem State.chargeSlots_keeps {r} {a1} (ha1 : Keeps r a1) : Keeps r (State.chargeSlots a1) := by
  unfold State.chargeSlots
  extract_lets +onlyGivenNames _ _
  exact pred_foldl (P := Keeps r) _ (fun _ h3 x4 => pred_ite (P := Keeps r) (State.chargeSlot_keeps h3 ..) h3) _ ha1

theorem State.idleSlot_keeps {r} {a1} (ha1 : Keeps r a1) (a2) : Keeps r (State.idleSlot a1 a2) := by
  unfold State.idleSlot
  extract_lets +onlyGivenNames _ _
  refine pred_ite (P := Keeps r) ha1 ?_
  split
  · exact ha1
  · extract_lets +onlyGivenNames _ _ s5
    have h5 : Keeps r s5 := State.setChan_keeps ha1 ..
    exact pred_ite (P := Keeps r) h5 (State.setFlag_keeps (State.setFld_keeps h5 ..) ..)

theorem State.watchBeacons_keeps {r} {a1} (ha1 : Keeps r a1) (a2) : Keeps r (State.watchBeacons a1 a2) := by
  unfold State.watchBeacons
  extract_lets +onlyGivenNames _ _ _ _ s5
  have h5 : Keeps r s5 := State.setChan_keeps ha1 ..
  split
  · exact h5
  · refine pred_ite (P := Keeps r) h5 ?_
    refine pred_ite (P := Keeps r) (State.setChan_keeps h5 ..) ?_
    extract_lets +onlyGivenNames _ s7
    have h7 : Keeps r s7 := State.setChan_keeps h5 ..
    exact State.setFlag_keeps (State.bump_keeps h7 ..) ..

theorem State.fixHem_keeps {r} {a1} (ha1 : Keeps r a1) : Keeps r (State.fixHem a1) := by
  unfold State.fixHem
  extract_lets +onlyGivenNames s1 _ _ _ s5
  have h5 : Keeps r s5 := Keeps.of ha1 rfl
  extract_lets +onlyGivenNames s6
  have h6 : Keeps r s6 := pred_foldl (P := Keeps r) _ (fun _ h7 x8 => State.updChan_keeps h7 ..) _ h5
  clear_value s1
  split
  · exact State.setFlag_keeps (State.setFld_keeps h6 ..) ..
  · exact State.setFlag_keeps h6 ..

theorem execHemMapFix_keeps {r} {a1} (ha1 : Keeps r a1) : KeepsX r (execHemMapFix a1) := by
  unfold execHemMapFix
  exact KeepsX.mk (pred_ite (P := Keeps r) (State.fixHem_keeps ha1 ..) ha1)

theorem State.chooseSource_keeps {r} {a1} (ha1 : Keeps r a1) : Keeps r (State.chooseSource a1) := by
  unfold State.chooseSource
  extract_lets +onlyGivenNames _ _ _ _ _ _ s7
  have h7 : Keeps r s7 := by unfold s7; exact State.setFld_keeps (Keeps.of ha1 rfl) ..
  exact pred_ite (P := Keeps r) h7 (State.log_keeps (State.bump_keeps h7 ..) ..)

theorem State.refillAir_keeps {r} {a1} (ha1 : Keeps r a1) : Keeps r (State.refillAir a1) := by
  unfold State.refillAir
  extract_lets +onlyGivenNames _ s2
  have h2 : Keeps r s2 := Keeps.of ha1 rfl
  refine pred_foldl (P := Keeps r) _ (fun _ h3 x4 => ?_) _ h2
  extract_lets +onlyGivenNames _
  exact State.setFld_keeps (State.setFld_keeps h3 ..) ..

theorem State.startChannel_keeps {r} {a1} (ha1 : Keeps r a1) (a2) : Keeps r (State.startChannel a1 a2) := by
  unfold State.startChannel
  split
  · exact ha1
  · exact pred_ite (P := Keeps r) ha1 (pred_ite (P := Keeps r) (State.updChan_keeps ha1 ..) (State.updChan_keeps
        (State.applyState_keeps ha1 ..) ..))

theorem State.hemChan_keeps {r} {a1} (ha1 : Keeps r a1) (a2) : Keeps r (State.hemChan a1 a2) := by
  unfold State.hemChan
  extract_lets +onlyGivenNames _ _ s3
  have h3 : Keeps r s3 := State.updChan_keeps ha1 ..
  extract_lets +onlyGivenNames s4
  have h4 : Keeps r s4 := pred_ite (P := Keeps r) (State.setFlag_keeps (State.setFlag_keeps h3 ..) ..) h3
  exact State.feederCheck_keeps (State.serveMaps_keeps h4 ..) ..

theorem State.leak_keeps {r} {a1} (ha1 : Keeps r a1) (a2 a3) : Keeps r (State.leak a1 a2 a3) := by
  unfold State.leak
  exact pred_ite (P := Keeps r) ha1 (State.log_keeps (State.bump_keeps ha1 ..) ..)

theorem State.checkPools_keeps {r} {a1} (ha1 : Keeps r a1) : Keeps r (State.checkPools a1) := by
  unfold State.checkPools
  extract_lets +onlyGivenNames _ _ _ _ _ _ _ _ _ _ _ _ s13
  have h13 : Keeps r s13 := by unfold s13; exact pred_ite (P := Keeps r) ha1 (Keeps.of ha1 rfl)
  extract_lets +onlyGivenNames _ s15
  have h15 : Keeps r s15 := by unfold s15; exact pred_ite (P := Keeps r) h13 (Keeps.of h13 rfl)
  exact State.leak_keeps (State.leak_keeps h15 ..) ..

theorem State.checkBudgets_keeps {r} {a1} (ha1 : Keeps r a1) : Keeps r (State.checkBudgets a1) := by
  unfold State.checkBudgets
  refine pred_foldl (P := Keeps r) _ (fun _ h1 x2 => ?_) _ ha1
  extract_lets +onlyGivenNames s3
  have h3 : Keeps r s3 := by
    unfold s3
    refine pred_foldl (P := Keeps r) _ (fun _ h4 x5 => ?_) _ h1
    extract_lets +onlyGivenNames _ _
    exact pred_ite (P := Keeps r) h4 (State.leak_keeps (State.setCredit_keeps h4 ..) ..)
  extract_lets +onlyGivenNames _
  exact State.leak_keeps h3 ..

theorem State.offForApply_keeps {r} {a1} (ha1 : Keeps r a1) : Keeps r (State.offForApply a1) := by
  unfold State.offForApply
  refine pred_ite (P := Keeps r) ha1 ?_
  extract_lets +onlyGivenNames s1
  have h1 : Keeps r s1 := pred_foldl (P := Keeps r) _ (fun _ h2 x3 => State.applyState_keeps h2 ..) _ ha1
  exact pred_foldl (P := Keeps r) _ (fun _ h4 x5 => State.discardFrame_keeps h4 ..) _ h1

theorem State.nextHem_keeps {r} {a1} (ha1 : Keeps r a1) : Keeps r (State.nextHem a1) := by
  unfold State.nextHem
  extract_lets +onlyGivenNames s1
  have h1 : Keeps r s1 := pred_ite (P := Keeps r) (State.fixHem_keeps ha1 ..) ha1
  extract_lets +onlyGivenNames _ _ s4
  have h4 : Keeps r s4 := Keeps.of h1 rfl
  extract_lets +onlyGivenNames s5
  have h5 : Keeps r s5 := State.setFld_keeps (State.setFld_keeps h4 ..) ..
  extract_lets +onlyGivenNames _ _ _ _ _ s11
  have h11 : Keeps r s11 := Keeps.of h5 rfl
  exact pred_foldl (P := Keeps r) _ (fun _ h12 x13 => State.updChan_keeps (State.hemChan_keeps h12 ..) ..) _ h11

theorem State.startHem_keeps {r} {a1} (ha1 : Keeps r a1) : Keeps r (State.startHem a1) := by
  unfold State.startHem
  extract_lets +onlyGivenNames _ s2
  have h2 : Keeps r s2 := Keeps.of ha1 rfl
  extract_lets +onlyGivenNames s3
  have h3 : Keeps r s3 := State.refillAir_keeps (State.offForApply_keeps (State.chooseSource_keeps h2 ..) ..) ..
  extract_lets +onlyGivenNames s4
  have h4 : Keeps r s4 := pred_foldl (P := Keeps r) _ (fun _ h5 x6 => State.startChannel_keeps h5 ..) _ h3
  exact State.creditReport_keeps (State.handDuplex_keeps h4 ..) ..

theorem execHemBoundary_keeps {r} {a1} (ha1 : Keeps r a1) : KeepsX r (execHemBoundary a1) := by
  unfold execHemBoundary
  refine KeepsX.mk ?_
  refine pred_ite (P := Keeps r) ha1 ?_
  extract_lets +onlyGivenNames s1
  have h1 : Keeps r s1 := State.nextHem_keeps (State.checkBudgets_keeps (State.checkPools_keeps ha1 ..) ..) ..
  exact pred_ite (P := Keeps r) (State.startHem_keeps h1 ..) h1

theorem State.slotChan_keeps {r} {a1} (ha1 : Keeps r a1) (a2) : Keeps r (State.slotChan a1 a2) := by
  unfold State.slotChan
  extract_lets +onlyGivenNames s1
  have h1 : Keeps r s1 := State.idleSlot_keeps ha1 ..
  extract_lets +onlyGivenNames s2
  have h2 : Keeps r s2 := State.setFld_keeps h1 ..
  exact pred_ite (P := Keeps r) (State.watchBeacons_keeps h2 ..) h2

theorem State.countClips_keeps {r} {a1} (ha1 : Keeps r a1) (a2) : Keeps r (State.countClips a1 a2) := by
  unfold State.countClips
  exact pred_foldl (P := Keeps r) _ (fun _ h1 x2 => pred_ite (P := Keeps r) (State.bump_keeps h1 ..) h1) _ ha1

theorem State.castSlot_keeps {r} {a1} (ha1 : Keeps r a1) (a2) : Keeps r (State.castSlot a1 a2) := by
  unfold State.castSlot
  exact State.castLostSlot_keeps ha1 ..

theorem execGridSlotBoundary_keeps {r} {a1} (ha1 : Keeps r a1) : KeepsX r (execGridSlotBoundary a1) := by
  unfold execGridSlotBoundary
  refine KeepsX.mk ?_
  refine pred_ite (P := Keeps r) ha1 ?_
  extract_lets +onlyGivenNames _ s2
  have h2 : Keeps r s2 := State.countClips_keeps (State.endSymbols_keeps (State.keepTails_keeps ha1 ..) ..) ..
  extract_lets +onlyGivenNames _ s4
  have h4 : Keeps r s4 := Keeps.of h2 rfl
  extract_lets +onlyGivenNames s5
  have h5 : Keeps r s5 := pred_ite (P := Keeps r) (State.startHem_keeps h4 ..) h4
  extract_lets +onlyGivenNames s6
  have h6 : Keeps r s6 := State.drmSlot_keeps (State.passSlots_keeps (State.olaSlot_keeps (State.serveDev_keeps
      (State.bobSlot_keeps (State.applyChanges_keeps h5 ..) ..) ..) ..) ..) ..
  extract_lets +onlyGivenNames s7
  have h7 : Keeps r s7 := pred_foldl (P := Keeps r) _ (fun _ h8 x9 => State.ledgerSlot_keeps h8 ..) _ h6
  extract_lets +onlyGivenNames s10
  have h10 : Keeps r s10 := State.chargeSlots_keeps (State.sendSync_keeps h7 ..) ..
  split
  · rename_i e11
    have h11 := Keeps2.out (r := r) e11 (State.memSlot_keeps (State.castSlot_keeps h10 ..) ..)
    split
    · rename_i e12
      have h12 := Keeps2.out (r := r) e12 (State.snapSlot_keeps h11 ..)
      extract_lets +onlyGivenNames s13
      have h13 : Keeps r s13 := State.grantDecoders_keeps (State.scrubSlot_keeps h12 ..) ..
      exact State.sendSlot_keeps (pred_foldl (P := Keeps r) _ (fun _ h14 x15 => State.slotChan_keeps h14 ..) _ h13) ..

theorem State.clearRc_keeps {r} {a1} (ha1 : Keeps r a1) (a2 a3 a4) : Keeps r (State.clearRc a1 a2 a3 a4) := by
  unfold State.clearRc
  refine pred_ite (P := Keeps r) ?_ (pred_ite (P := Keeps r) ha1 (State.bumpN_keeps (State.setFld_keeps ha1 ..) ..))
  extract_lets +onlyGivenNames _ _
  exact State.setBob_keeps ha1 ..

theorem State.afterRead_keeps {r} {a1} (ha1 : Keeps r a1) (a2 a3) : Keeps r (State.afterRead a1 a2 a3) := by
  unfold State.afterRead
  extract_lets +onlyGivenNames _
  split
  · exact Keeps2.proj (State.readRxData_keeps ha1 ..)
  · extract_lets +onlyGivenNames _
    exact pred_foldl (P := Keeps r) _ (fun _ h3 x4 => State.clearRc_keeps h3 ..) _ ha1

theorem State.telMove_keeps {r} {a1} (ha1 : Keeps r a1) : Keeps r (State.telMove a1) := by
  unfold State.telMove
  exact Keeps.of ha1 rfl

theorem State.readLive_keeps {r} {a1} (ha1 : Keeps r a1) (a2 a3 a4) : Keeps2 r (State.readLive a1 a2 a3 a4) := by
  unfold State.readLive
  split
  · extract_lets +onlyGivenNames s1
    have h1 : Keeps r s1 := pred_ite (P := Keeps r) (State.telMove_keeps ha1 ..) ha1
    exact Keeps2.mk (State.afterRead_keeps h1 ..)
  · extract_lets +onlyGivenNames _
    refine pred_ite (P := Keeps2 r) ?_ ?_
    · extract_lets +onlyGivenNames _
      exact Keeps2.mk (Keeps.of ha1 rfl)
    · split
      · exact Keeps2.mk ha1
      · split
        · exact Keeps2.mk ha1
        · extract_lets +onlyGivenNames _
          exact Keeps2.mk (Keeps.of ha1 rfl)

theorem State.regRead_keeps {r} {a1} (ha1 : Keeps r a1) (a2 a3 a4) : Keeps2 r (State.regRead a1 a2 a3 a4) := by
  unfold State.regRead
  refine pred_ite (P := Keeps2 r) (Keeps2.mk (State.bump_keeps ha1 ..)) ?_
  refine pred_ite (P := Keeps2 r) (Keeps2.mk (State.bump_keeps ha1 ..)) ?_
  split
  · exact Keeps2.mk ha1
  · exact State.readLive_keeps ha1 ..

theorem State.storeFld_keeps {r} {a1} (ha1 : Keeps r a1) (a2 a3 a4) : Keeps r (State.storeFld a1 a2 a3 a4) := by
  unfold State.storeFld
  extract_lets +onlyGivenNames _ s2
  have h2 : Keeps r s2 := by unfold s2; exact pred_ite (P := Keeps r) (Keeps.of ha1 rfl) ha1
  exact State.setFld_keeps h2 ..

theorem State.setEvRd_keeps {r} {a1} (ha1 : Keeps r a1) (a2 a3) : Keeps r (State.setEvRd a1 a2 a3) := by
  unfold State.setEvRd
  extract_lets +onlyGivenNames _
  exact State.setFld_keeps ha1 ..

theorem State.writeFld_keeps {r} {a1} (ha1 : Keeps r a1) (a2 a3 a4 a5 a6) : Keeps r (State.writeFld a1 a2 a3 a4 a5 a6) := by
  unfold State.writeFld
  extract_lets +onlyGivenNames _
  refine pred_ite (P := Keeps r) ha1 ?_
  split
  · exact ha1
  · exact ha1
  · exact State.setFld_keeps ha1 ..
  · exact State.setFld_keeps ha1 ..
  · exact pred_ite (P := Keeps r) (State.writeTxData_keeps ha1 ..) ha1
  · exact pred_ite (P := Keeps r) (State.storeFld_keeps ha1 ..) ha1
  · split
    · exact State.setEvRd_keeps ha1 ..
    · exact State.writeDiv_keeps ha1 ..
    · exact State.storeFld_keeps ha1 ..

theorem State.afterWrite_keeps {r} {a1 a2} (ha1 : Keeps r a1) (ha2 : Keeps r a2) (a3) :
    Keeps r (State.afterWrite a1 a2 a3) := by
  unfold State.afterWrite
  refine pred_foldl (P := Keeps r) _ (fun _ h1 x2 => ?_) _ ha1
  refine pred_ite (P := Keeps r) h1 ?_
  split
  · exact State.gaugeUpdate_keeps h1 ..
  · exact State.gaugeRetune_keeps h1 ..
  · exact State.gaugeRetune_keeps h1 ..
  · exact h1

theorem State.countWrite_keeps {r} {a1} (ha1 : Keeps r a1) (a2 a3 a4 a5) : Keeps r (State.countWrite a1 a2 a3 a4 a5) := by
  unfold State.countWrite
  extract_lets +onlyGivenNames _ _ _ _ s5
  have h5 : Keeps r s5 := pred_ite (P := Keeps r) (State.bump_keeps ha1 ..) ha1
  extract_lets +onlyGivenNames s6
  have h6 : Keeps r s6 := pred_ite (P := Keeps r) (State.bump_keeps h5 ..) h5
  exact pred_ite (P := Keeps r) (State.bump_keeps h6 ..) h6

theorem State.writeReg_keeps {r} {a1} (ha1 : Keeps r a1) (a2 a3 a4 a5) : Keeps r (State.writeReg a1 a2 a3 a4 a5) := by
  unfold State.writeReg
  extract_lets +onlyGivenNames _ s2
  have h2 : Keeps r s2 := State.countWrite_keeps ha1 ..
  exact State.afterWrite_keeps (pred_foldl (P := Keeps r) _ (fun _ h3 x4 => State.writeFld_keeps h3 ..) _ h2) h2 ..

theorem State.writeAccept_keeps {r} {a1} (ha1 : Keeps r a1) (a2) : Keeps r (State.writeAccept a1 a2) := by
  unfold State.writeAccept
  refine pred_ite (P := Keeps r) (State.bump_keeps ha1 ..) ?_
  extract_lets +onlyGivenNames _ s2
  have h2 : Keeps r s2 := pred_ite (P := Keeps r) (State.bump_keeps ha1 ..) ha1
  exact pred_foldl (P := Keeps r) _ (fun _ h3 x4 => State.setFld_keeps h3 ..) _ h2

theorem State.writeGroup_keeps {r} {a1} (ha1 : Keeps r a1) (a2 a3 a4 a5 a6 a7) :
    Keeps r (State.writeGroup a1 a2 a3 a4 a5 a6 a7) := by
  unfold State.writeGroup
  extract_lets +onlyGivenNames _ _
  refine pred_ite (P := Keeps r) ha1 ?_
  refine pred_ite (P := Keeps r) (State.writeReg_keeps ha1 ..) ?_
  extract_lets +onlyGivenNames _ _ s5
  clear_value s5
  split
  · exact Keeps.of ha1 rfl
  · extract_lets +onlyGivenNames _
    refine pred_ite (P := Keeps r) (Keeps.of ha1 rfl) ?_
    extract_lets +onlyGivenNames _ s8
    have h8 : Keeps r s8 := Keeps.of ha1 rfl
    exact pred_ite (P := Keeps r) (State.writeAccept_keeps h8 ..) (pred_foldl (P := Keeps r) _ (fun _ h9 x10 =>
        State.writeReg_keeps h9 ..) _ h8)

theorem State.writeRingIdx_keeps {r} {a1} (ha1 : Keeps r a1) (a2 a3) : Keeps r (State.writeRingIdx a1 a2 a3) := by
  unfold State.writeRingIdx
  extract_lets +onlyGivenNames _ _
  exact pred_ite (P := Keeps r) (State.bump_keeps ha1 ..) (pred_ite (P := Keeps r) (State.bump_keeps ha1 ..)
      (State.setFld_keeps (State.setFld_keeps ha1 ..) ..))

theorem State.regWrite_keeps {r} {a1} (ha1 : Keeps r a1) (a2 a3 a4) : Keeps r (State.regWrite a1 a2 a3 a4) := by
  unfold State.regWrite
  extract_lets +onlyGivenNames _
  refine pred_ite (P := Keeps r) (State.bump_keeps ha1 ..) ?_
  refine pred_ite (P := Keeps r) (State.bump_keeps ha1 ..) ?_
  split
  · exact pred_ite (P := Keeps r) ha1 (pred_ite (P := Keeps r) (State.bump_keeps ha1 ..) (Keeps.ring ha1 _ _))
  · refine pred_ite (P := Keeps r) (State.writeRingIdx_keeps ha1 ..) ?_
    split
    · exact State.writeGroup_keeps ha1 ..
    · exact State.writeReg_keeps ha1 ..

theorem State.spi_keeps {r} {a1} (ha1 : Keeps r a1) (a2) : Keeps r (State.spi a1 a2) := by
  unfold State.spi
  exact Keeps.of ha1 rfl

theorem State.readOut_keeps {r} {a1} (ha1 : Keeps r a1) (a2 a3 a4) : Keeps r (State.readOut a1 a2 a3 a4) := by
  unfold State.readOut
  split
  · rename_i e1
    have h1 := Keeps2.out (r := r) e1 (State.regRead_keeps ha1 ..)
    exact State.spi_keeps h1 ..

theorem execGroupRead_keeps {r} {a3} (ha3 : Keeps r a3) (a1 a2) : KeepsX r (execGroupRead a1 a2 a3) := by
  unfold execGroupRead
  exact KeepsX.mk (pred_ite (P := Keeps r) (State.readOut_keeps ha3 ..) ha3)

theorem execRcFieldRead_keeps {r} {a4} (ha4 : Keeps r a4) (a1 a2 a3) : KeepsX r (execRcFieldRead a1 a2 a3 a4) := by
  unfold execRcFieldRead
  exact KeepsX.mk (pred_ite (P := Keeps r) (State.readOut_keeps ha4 ..) ha4)

theorem execW1cWrite_keeps {r} {a5} (ha5 : Keeps r a5) (a1 a2 a3 a4) : KeepsX r (execW1cWrite a1 a2 a3 a4 a5) := by
  unfold execW1cWrite
  refine KeepsX.mk ?_
  refine pred_ite (P := Keeps r) ha5 ?_
  extract_lets +onlyGivenNames s1
  have h1 : Keeps r s1 := State.regWrite_keeps ha5 ..
  exact pred_foldl (P := Keeps r) _ (fun _ h2 x3 => State.setFld_keeps h2 ..) _ h1

theorem execFeatAcceptWrite_keeps {r} {a6} (ha6 : Keeps r a6) (a1 a2 a3 a4 a5) :
    KeepsX r (execFeatAcceptWrite a1 a2 a3 a4 a5 a6) := by
  unfold execFeatAcceptWrite
  exact KeepsX.mk (pred_ite (P := Keeps r) (State.regWrite_keeps (State.regWrite_keeps (State.regWrite_keeps
      (State.regWrite_keeps ha6 ..) ..) ..) ..) ha6)

theorem execEvtPnlRdWrite_keeps {r} {a4} (ha4 : Keeps r a4) (a1 a2 a3) : KeepsX r (execEvtPnlRdWrite a1 a2 a3 a4) := by
  unfold execEvtPnlRdWrite
  exact KeepsX.mk (pred_ite (P := Keeps r) (State.regWrite_keeps ha4 ..) ha4)

theorem execTelStatusRead_keeps {r} {a2} (ha2 : Keeps r a2) (a1) : KeepsX r (execTelStatusRead a1 a2) := by
  unfold execTelStatusRead
  exact KeepsX.mk (pred_ite (P := Keeps r) (State.readOut_keeps ha2 ..) ha2)

theorem execSerRxDataRead_keeps {r} {a3} (ha3 : Keeps r a3) (a1 a2) : KeepsX r (execSerRxDataRead a1 a2 a3) := by
  unfold execSerRxDataRead
  exact KeepsX.mk (pred_ite (P := Keeps r) (State.readOut_keeps ha3 ..) ha3)

theorem execSerTxDataWrite_keeps {r} {a4} (ha4 : Keeps r a4) (a1 a2 a3) : KeepsX r (execSerTxDataWrite a1 a2 a3 a4) := by
  unfold execSerTxDataWrite
  exact KeepsX.mk (pred_ite (P := Keeps r) (State.regWrite_keeps ha4 ..) ha4)

theorem execSerDivWrite_keeps {r} {a4} (ha4 : Keeps r a4) (a1 a2 a3) : KeepsX r (execSerDivWrite a1 a2 a3 a4) := by
  unfold execSerDivWrite
  exact KeepsX.mk (pred_ite (P := Keeps r) (State.regWrite_keeps ha4 ..) ha4)

theorem regCmd_keeps {r} {a1 a6} (ha1 : Keeps r a1) (ha6 : Keeps1 r a6) (a2 a3 a4 a5) :
    Keeps1 r (regCmd a1 a2 a3 a4 a5 a6) := by
  unfold regCmd
  extract_lets +onlyGivenNames _ _
  exact pred_ite (P := Keeps1 r) (refuse_keeps ha1 ..) (pred_ite (P := Keeps1 r) (Keeps1.mk (State.bumpN_keeps ha1 ..)) ha6)

theorem opRegRead_keeps {r} {a4} (ha4 : Keeps r a4) (a1 a2 a3) : Keeps1 r (opRegRead a1 a2 a3 a4) := by
  unfold opRegRead
  refine regCmd_keeps ha4 ?_ ..
  split
  · rename_i e1
    have h1 := Keeps2.out (r := r) e1 (by
        refine pred_foldl (P := Keeps2 r) _ (fun _ h2 x3 => ?_) _ (Keeps2.mk ha4)
        split
        · rename_i e4
          have h4 := Keeps2.out (r := r) e4 (State.regRead_keeps (Keeps2.proj h2) ..)
          exact Keeps2.mk h4)
    exact Keeps1.mk h1

theorem opRegWrite_keeps {r} {a4} (ha4 : Keeps r a4) (a1 a2 a3) : Keeps1 r (opRegWrite a1 a2 a3 a4) := by
  unfold opRegWrite
  exact regCmd_keeps ha4 (Keeps1.mk (pred_foldl (P := Keeps r) _ (fun _ h1 x2 => State.regWrite_keeps h1 ..) _ ha4)) ..

theorem execRegRead_keeps {r} {a4} (ha4 : Keeps r a4) (a1 a2 a3) : KeepsX r (execRegRead a1 a2 a3 a4) := by
  unfold execRegRead
  exact KeepsX.mk (ohi_keeps ha4 (opRegRead_keeps ha4 ..) ..)

theorem opEvtRead_keeps {r} {a2} (ha2 : Keeps r a2) (a1) : Keeps1 r (opEvtRead a1 a2) := by
  unfold opEvtRead
  split
  · exact Keeps1.mk (State.setFld_keeps ha2 ..)
  · exact Keeps1.mk (State.setFld_keeps ha2 ..)

theorem opEvtCfg_keeps {r} {a4} (ha4 : Keeps r a4) (a1 a2 a3) : Keeps1 r (opEvtCfg a1 a2 a3 a4) := by
  unfold opEvtCfg
  exact pred_ite (P := Keeps1 r) (refuse_keeps ha4 ..) (Keeps1.mk (State.setFlag_keeps (State.setFlag_keeps (State.setFld_keeps
      ha4 ..) ..) ..))

theorem opTelSnap_keeps {r} {a2} (ha2 : Keeps r a2) (a1) : Keeps1 r (opTelSnap a1 a2) := by
  unfold opTelSnap
  exact pred_ite (P := Keeps1 r) (refuse_keeps ha2 ..) (pred_ite (P := Keeps1 r) (refuse_keeps ha2 ..) (Keeps1.mk (Keeps.of ha2
      rfl)))

theorem opTelRead_keeps {r} {a5} (ha5 : Keeps r a5) (a1 a2 a3 a4) : Keeps1 r (opTelRead a1 a2 a3 a4 a5) := by
  unfold opTelRead
  refine pred_ite (P := Keeps1 r) (refuse_keeps ha5 ..) ?_
  refine pred_ite (P := Keeps1 r) (refuse_keeps ha5 ..) ?_
  refine pred_ite (P := Keeps1 r) (refuse_keeps ha5 ..) ?_
  split
  · exact refuse_keeps ha5 ..
  · exact pred_ite (P := Keeps1 r) (refuse_keeps ha5 ..) (Keeps1.mk ha5)

theorem execEvtRead_keeps {r} {a2} (ha2 : Keeps r a2) (a1) : KeepsX r (execEvtRead a1 a2) := by
  unfold execEvtRead
  exact KeepsX.mk (ohi_keeps ha2 (opEvtRead_keeps ha2 ..) ..)

theorem execEvtCfg_keeps {r} {a4} (ha4 : Keeps r a4) (a1 a2 a3) : KeepsX r (execEvtCfg a1 a2 a3 a4) := by
  unfold execEvtCfg
  exact KeepsX.mk (ohi_keeps ha4 (opEvtCfg_keeps ha4 ..) ..)

theorem execTelSnap_keeps {r} {a2} (ha2 : Keeps r a2) (a1) : KeepsX r (execTelSnap a1 a2) := by
  unfold execTelSnap
  exact KeepsX.mk (ohi_keeps ha2 (opTelSnap_keeps ha2 ..) ..)

theorem execTelRead_keeps {r} {a5} (ha5 : Keeps r a5) (a1 a2 a3 a4) : KeepsX r (execTelRead a1 a2 a3 a4 a5) := by
  unfold execTelRead
  exact KeepsX.mk (ohi_keeps ha5 (opTelRead_keeps ha5 ..) ..)

theorem execTelemetrySnapshot_keeps {r} {a1} (ha1 : Keeps r a1) : KeepsX r (execTelemetrySnapshot a1) := by
  unfold execTelemetrySnapshot
  refine KeepsX.mk ?_
  refine pred_ite (P := Keeps r) ha1 ?_
  extract_lets +onlyGivenNames _ s2
  have h2 : Keeps r s2 := pred_ite (P := Keeps r) (State.bump_keeps ha1 ..) ha1
  extract_lets +onlyGivenNames _ _
  exact pred_ite (P := Keeps r) (Keeps.of h2 rfl) (Keeps.of h2 rfl)

end Sys2Proof.Machine
end

