-- ==== Sys2Proof/Laws/KeepsBlock.lean ====
section
/-! SUPPORT. The commands waiting and the invariant are kept by: the loader and patterns, resets, power, the seal, the rings, the ports. -/

namespace Sys2Proof.Machine

theorem State.setLoader_keeps {r} {a1} (ha1 : Keeps r a1) (a2) : Keeps r (State.setLoader a1 a2) := by
  unfold State.setLoader
  exact State.setFld_keeps ha1 ..

theorem State.updLdr_keeps {r} {a1} (ha1 : Keeps r a1) (a2) : Keeps r (State.updLdr a1 a2) := by
  unfold State.updLdr
  exact Keeps.of ha1 rfl

theorem State.setWords4_keeps {r} {a1} (ha1 : Keeps r a1) (a2 a3) : Keeps r (State.setWords4 a1 a2 a3) := by
  unfold State.setWords4
  exact pred_foldl (P := Keeps r) _ (fun _ h1 x2 => State.setFld_keeps h1 ..) _ ha1

theorem State.endLoad_keeps {r} {a1} (ha1 : Keeps r a1) : Keeps r (State.endLoad a1) := by
  unfold State.endLoad
  extract_lets +onlyGivenNames s1
  have h1 : Keeps r s1 := pred_ite (P := Keeps r) (State.setWords4_keeps ha1 ..) ha1
  exact State.setLoader_keeps (State.updLdr_keeps h1 ..) ..

theorem State.showReject_keeps {r} {a1} (ha1 : Keeps r a1) (a2 a3) : Keeps r (State.showReject a1 a2 a3) := by
  unfold State.showReject
  extract_lets +onlyGivenNames _ s2
  have h2 : Keeps r s2 := State.setFld_keeps (State.setFld_keeps ha1 ..) ..
  extract_lets +onlyGivenNames s3
  have h3 : Keeps r s3 := State.setFld_keeps (State.setFld_keeps h2 ..) ..
  extract_lets +onlyGivenNames s4
  have h4 : Keeps r s4 := State.setFld_keeps (State.setFld_keeps h3 ..) ..
  exact State.log_keeps (State.bump_keeps (State.setFld_keeps h4 ..) ..) ..

theorem State.reject_keeps {r} {a1} (ha1 : Keeps r a1) (a2 a3) : Keeps r (State.reject a1 a2 a3) := by
  unfold State.reject
  extract_lets +onlyGivenNames s1 s2
  have h2 : Keeps r s2 := State.endLoad_keeps (State.showReject_keeps ha1 ..) ..
  clear_value s1
  split
  · exact State.completeCmd_keeps h2 ..
  · exact h2

theorem State.dropPending_keeps {r} {a1} (ha1 : Keeps r a1) (a2) : Keeps r (State.dropPending a1 a2) := by
  unfold State.dropPending
  extract_lets +onlyGivenNames _ s2
  have h2 : Keeps r s2 := State.updLdr_keeps ha1 ..
  refine pred_foldl (P := Keeps r) _ (fun _ h3 x4 => ?_) _ h2
  extract_lets +onlyGivenNames s5
  have h5 : Keeps r s5 := State.showReject_keeps h3 ..
  split
  · exact State.completeCmd_keeps h5 ..
  · exact h5

theorem opPatternBegin_keeps {r} {a4} (ha4 : Keeps r a4) (a1 a2 a3) : Keeps1 r (opPatternBegin a1 a2 a3 a4) := by
  unfold opPatternBegin
  refine pred_ite (P := Keeps1 r) (refuse_keeps ha4 ..) ?_
  refine pred_ite (P := Keeps1 r) (refuse_keeps ha4 ..) ?_
  extract_lets +onlyGivenNames _ s2
  have h2 : Keeps r s2 := pred_ite (P := Keeps r) (State.reject_keeps ha4 ..) ha4
  extract_lets +onlyGivenNames _ s4
  have h4 : Keeps1 r s4 := pred_ite (P := Keeps1 r) (refuse_keeps ha4 ..) (Keeps1.mk (State.setLoader_keeps (State.updLdr_keeps
      h2 ..) ..))
  exact pred_ite (P := Keeps1 r) (featGate_keeps ha4 h4 ..) h4

theorem receiving_keeps {r} {a1 a4} (ha1 : Keeps r a1) (ha4 : Keeps1 r a4) (a2 a3) : Keeps1 r (receiving a1 a2 a3 a4) := by
  unfold receiving
  exact pred_ite (P := Keeps1 r) (refuse_keeps ha1 ..) (pred_ite (P := Keeps1 r) (refuse_keeps ha1 ..) (pred_ite (P := Keeps1
      r) (refuse_keeps ha1 ..) ha4))

theorem opPatternData_keeps {r} {a4} (ha4 : Keeps r a4) (a1 a2 a3) : Keeps1 r (opPatternData a1 a2 a3 a4) := by
  unfold opPatternData
  exact pred_ite (P := Keeps1 r) (refuse_keeps ha4 ..) (receiving_keeps ha4 (pred_ite (P := Keeps1 r) (refuse_keeps ha4 ..)
      (Keeps1.mk (State.updLdr_keeps ha4 ..))) ..)

theorem opPatternCommit_keeps {r} {a2} (ha2 : Keeps r a2) (a1) : Keeps1 r (opPatternCommit a1 a2) := by
  unfold opPatternCommit
  exact receiving_keeps ha2 (Keeps1.mk (State.setLoader_keeps (State.updLdr_keeps ha2 ..) ..)) ..

theorem opPatternAbort_keeps {r} {a2} (ha2 : Keeps r a2) (a1) : Keeps1 r (opPatternAbort a1 a2) := by
  unfold opPatternAbort
  exact receiving_keeps ha2 (Keeps1.mk (State.endLoad_keeps ha2 ..)) ..

theorem opPatternStore_keeps {r} {a3} (ha3 : Keeps r a3) (a1 a2) : Keeps1 r (opPatternStore a1 a2 a3) := by
  unfold opPatternStore
  exact pred_ite (P := Keeps1 r) (refuse_keeps ha3 ..) (pred_ite (P := Keeps1 r) (refuse_keeps ha3 ..) (pred_ite (P := Keeps1
      r) (refuse_keeps ha3 ..) (pred_ite (P := Keeps1 r) (refuse_keeps ha3 ..) (Keeps1.mk (State.updLdr_keeps ha3 ..)))))

theorem opFeatureAccept_keeps {r} {a3} (ha3 : Keeps r a3) (a1 a2) : Keeps1 r (opFeatureAccept a1 a2 a3) := by
  unfold opFeatureAccept
  exact pred_ite (P := Keeps1 r) (refuse_keeps ha3 ..) (pred_ite (P := Keeps1 r) (refuse_keeps ha3 ..) (pred_ite (P := Keeps1
      r) (refuse_keeps ha3 ..) (pred_ite (P := Keeps1 r) (refuse_keeps ha3 ..) (Keeps1.mk (pred_foldl (P := Keeps r) _ (fun _
      h1 x2 => State.setFld_keeps h1 ..) _ ha3)))))

theorem opPatternQuery_keeps {r} {a2} (ha2 : Keeps r a2) (a1) : Keeps1 r (opPatternQuery a1 a2) := by
  unfold opPatternQuery
  exact Keeps1.mk ha2

theorem execPatternBegin_keeps {r} {a4} (ha4 : Keeps r a4) (a1 a2 a3) : KeepsX r (execPatternBegin a1 a2 a3 a4) := by
  unfold execPatternBegin
  exact KeepsX.mk (ohi_keeps ha4 (opPatternBegin_keeps ha4 ..) ..)

theorem execPatternData_keeps {r} {a4} (ha4 : Keeps r a4) (a1 a2 a3) : KeepsX r (execPatternData a1 a2 a3 a4) := by
  unfold execPatternData
  exact KeepsX.mk (ohi_keeps ha4 (opPatternData_keeps ha4 ..) ..)

theorem execPatternCommit_keeps {r} {a2} (ha2 : Keeps r a2) (a1) : KeepsX r (execPatternCommit a1 a2) := by
  unfold execPatternCommit
  exact KeepsX.mk (ohi_keeps ha2 (opPatternCommit_keeps ha2 ..) ..)

theorem execPatternAbort_keeps {r} {a2} (ha2 : Keeps r a2) (a1) : KeepsX r (execPatternAbort a1 a2) := by
  unfold execPatternAbort
  exact KeepsX.mk (ohi_keeps ha2 (opPatternAbort_keeps ha2 ..) ..)

theorem execPatternStore_keeps {r} {a3} (ha3 : Keeps r a3) (a1 a2) : KeepsX r (execPatternStore a1 a2 a3) := by
  unfold execPatternStore
  exact KeepsX.mk (ohi_keeps ha3 (opPatternStore_keeps ha3 ..) ..)

theorem execFeatureAccept_keeps {r} {a6} (ha6 : Keeps r a6) (a1 a2 a3 a4 a5) :
    KeepsX r (execFeatureAccept a1 a2 a3 a4 a5 a6) := by
  unfold execFeatureAccept
  exact KeepsX.mk (ohi_keeps ha6 (opFeatureAccept_keeps ha6 ..) ..)

theorem execPatternQuery_keeps {r} {a2} (ha2 : Keeps r a2) (a1) : KeepsX r (execPatternQuery a1 a2) := by
  unfold execPatternQuery
  exact KeepsX.mk (ohi_keeps ha2 (opPatternQuery_keeps ha2 ..) ..)

theorem execPatternStoreDone_keeps {r} {a2} (ha2 : Keeps r a2) (a1) : KeepsX r (execPatternStoreDone a1 a2) := by
  unfold execPatternStoreDone
  refine KeepsX.mk ?_
  split
  · exact ha2
  · exact State.updLdr_keeps ha2 ..

theorem execLoaderVerifyDone_keeps {r} {a1} (ha1 : Keeps r a1) : KeepsX r (execLoaderVerifyDone a1) := by
  unfold execLoaderVerifyDone
  refine KeepsX.mk ?_
  refine pred_ite (P := Keeps r) ha1 ?_
  split
  · exact State.reject_keeps ha1 ..
  · exact State.setLoader_keeps ha1 ..

theorem execLoaderCheckDone_keeps {r} {a1} (ha1 : Keeps r a1) : KeepsX r (execLoaderCheckDone a1) := by
  unfold execLoaderCheckDone
  refine KeepsX.mk ?_
  refine pred_ite (P := Keeps r) ha1 ?_
  extract_lets +onlyGivenNames _ s2
  have h2 : Keeps r s2 := State.bumpN_keeps ha1 ..
  split
  · exact State.reject_keeps h2 ..
  · refine pred_ite (P := Keeps r) (State.setLoader_keeps (State.updLdr_keeps h2 ..) ..) ?_
    extract_lets +onlyGivenNames _ s4
    have h4 : Keeps r s4 := State.dropPending_keeps h2 ..
    exact State.endLoad_keeps (State.updLdr_keeps h4 ..) ..

theorem execFlashPatternLoad_keeps {r} {a1} (ha1 : Keeps r a1) : KeepsX r (execFlashPatternLoad a1) := by
  unfold execFlashPatternLoad
  refine KeepsX.mk ?_
  refine pred_ite (P := Keeps r) ha1 ?_
  split
  · exact State.updLdr_keeps ha1 ..
  · extract_lets +onlyGivenNames _ _ s3
    have h3 : Keeps r s3 := State.updLdr_keeps ha1 ..
    exact State.setLoader_keeps (State.setWords4_keeps h3 ..) ..

theorem State.putPat_keeps {r} {a1} (ha1 : Keeps r a1) (a2) : Keeps r (State.putPat a1 a2) := by
  unfold State.putPat
  exact pred_foldl (P := Keeps r) _ (fun _ h1 x2 => State.setFld_keeps h1 ..) _ ha1

theorem State.initWrite_keeps {r} {a1} (ha1 : Keeps r a1) (a2 a3 a4) : Keeps r (State.initWrite a1 a2 a3 a4) := by
  unfold State.initWrite
  split
  · refine pred_ite (P := Keeps r) (State.writeRingIdx_keeps ha1 ..) ?_
    split
    · exact State.writeGroup_keeps ha1 ..
    · exact State.writeReg_keeps ha1 ..

theorem State.initRegs_keeps {r} {a1} (ha1 : Keeps r a1) (a2) : Keeps r (State.initRegs a1 a2) := by
  unfold State.initRegs
  extract_lets +onlyGivenNames s1
  have h1 : Keeps r s1 := pred_foldl (P := Keeps r) _ (fun _ h2 x3 => State.initWrite_keeps h2 ..) _ ha1
  exact pred_foldl (P := Keeps r) _ (fun _ h4 x5 => pred_foldl (P := Keeps r) _ (fun _ h6 x7 => State.initWrite_keeps h6 ..) _
      h4) _ h1

theorem State.resetRegs_keeps {r} {a1} (ha1 : Keeps r a1) (a2) : Keeps r (State.resetRegs a1 a2) := by
  unfold State.resetRegs
  extract_lets +onlyGivenNames _
  exact State.initRegs_keeps (State.putPat_keeps (State.clearFlds_keeps ha1 ..) ..) ..

theorem State.startGauges_keeps {r} {a1} (ha1 : Keeps r a1) : Keeps r (State.startGauges a1) := by
  unfold State.startGauges
  refine forAll_keeps (fun x1 _ h2 => ?_) (Keeps.of ha1 rfl) ..
  extract_lets +onlyGivenNames _
  exact State.setFld_keeps (State.setGauge_keeps h2 ..) ..

theorem State.updRst_keeps {r} {a1} (ha1 : Keeps r a1) (a2) : Keeps r (State.updRst a1 a2) := by
  unfold State.updRst
  exact Keeps.of ha1 rfl

theorem State.note_keeps {r} {a1} (ha1 : Keeps r a1) (a2 a3) : Keeps r (State.note a1 a2 a3) := by
  unfold State.note
  exact pred_ite (P := Keeps r) (State.log_keeps ha1 ..) ha1

theorem State.freshChans_keeps {r} {a1} (ha1 : Keeps r a1) : Keeps r (State.freshChans a1) := by
  unfold State.freshChans
  extract_lets +onlyGivenNames s1
  have h1 : Keeps r s1 := Keeps.of ha1 rfl
  exact pred_foldl (P := Keeps r) _ (fun _ h2 x3 => State.dropTheta_keeps h2 ..) _ h1

theorem State.freshPools_keeps {r} {a1} (ha1 : Keeps r a1) : Keeps r (State.freshPools a1) := by
  unfold State.freshPools
  extract_lets +onlyGivenNames _ _ _
  exact Keeps.of ha1 rfl

theorem State.clearPipes_keeps {r} {a1} (ha1 : Keeps r a1) : Keeps r (State.clearPipes a1) := by
  unfold State.clearPipes
  extract_lets +onlyGivenNames _
  exact Keeps.of ha1 rfl

theorem State.showAllGates_keeps {r} {a1} (ha1 : Keeps r a1) : Keeps r (State.showAllGates a1) := by
  unfold State.showAllGates
  exact forAll_keeps (fun x1 _ h2 => State.showGates_keeps h2 ..) ha1 ..

theorem State.laneReset_keeps {r} {a1} (ha1 : Keeps r a1) (a2) : Keeps r (State.laneReset a1 a2) := by
  unfold State.laneReset
  extract_lets +onlyGivenNames s1
  have h1 : Keeps r s1 := pred_ite (P := Keeps r) (State.dropCtl_keeps ha1 ..) (State.laneLeave_keeps ha1 ..)
  exact State.setLane_keeps h1 ..

theorem State.planeReset_keeps {r} {a1} (ha1 : Keeps r a1) : Keeps r (State.planeReset a1) := by
  unfold State.planeReset
  extract_lets +onlyGivenNames s1
  have h1 : Keeps r s1 := State.setFld_keeps (State.bump_keeps (State.closeDebug_keeps ha1 ..) ..) ..
  extract_lets +onlyGivenNames s2
  have h2 : Keeps r s2 := forAll_keeps (fun x3 _ h4 => State.applyState_keeps h4 ..) h1 ..
  extract_lets +onlyGivenNames s5
  have h5 : Keeps r s5 := forAll_keeps (fun x6 _ h7 => State.laneReset_keeps h7 ..) h2 ..
  extract_lets +onlyGivenNames s8
  have h8 : Keeps r s8 := State.clearPipes_keeps h5 ..
  extract_lets +onlyGivenNames _ _ s11
  have h11 : Keeps r s11 := Keeps.of h8 rfl
  extract_lets +onlyGivenNames s12
  have h12 : Keeps r s12 := State.freshPools_keeps (State.resetRegs_keeps h11 ..) ..
  extract_lets +onlyGivenNames s13
  have h13 : Keeps r s13 := State.showAllGates_keeps (State.handDuplex_keeps (State.olaShow_keeps (State.startGauges_keeps
      (State.freshChans_keeps h12 ..) ..) ..) ..) ..
  exact State.updRst_keeps h13 ..

theorem State.asserted_keeps {r} {a1} (ha1 : Keeps r a1) (a2) : Keeps r (State.asserted a1 a2) := by
  unfold State.asserted
  exact State.setFld_keeps (State.updRst_keeps ha1 ..) ..

theorem State.coldReset_keeps {r} {a1} (ha1 : Keeps r a1) : Keeps r (State.coldReset a1) := by
  unfold State.coldReset
  exact State.asserted_keeps (State.reborn_keeps ha1 ..) ..

theorem State.keepMemory_keeps {r} {a1 a2} (ha1 : Keeps r a1) (ha2 : Keeps r a2) : Keeps r (State.keepMemory a1 a2) := by
  unfold State.keepMemory
  extract_lets +onlyGivenNames _ _ _ s4
  have h4 : Keeps r s4 := Keeps.of ha1 rfl
  extract_lets +onlyGivenNames s5
  have h5 : Keeps r s5 := State.updRst_keeps h4 ..
  exact forAll_keeps (fun x6 _ h7 => State.showRegion_keeps h7 ..) (State.takeFlds_keeps h5 ha2 ..) ..

theorem State.keepTamper_keeps {r} {a1 a2} (ha1 : Keeps r a1) (ha2 : Keeps r a2) : Keeps r (State.keepTamper a1 a2) := by
  unfold State.keepTamper
  exact State.updSec_keeps ha1 ..

theorem State.warmReset_keeps {r} {a1} (ha1 : Keeps r a1) : Keeps r (State.warmReset a1) := by
  unfold State.warmReset
  extract_lets +onlyGivenNames s1
  have h1 : Keeps r s1 := State.castCut_keeps ha1 ..
  extract_lets +onlyGivenNames s2
  have h2 : Keeps r s2 := State.reborn_keeps h1 ..
  extract_lets +onlyGivenNames s3
  have h3 : Keeps r s3 := State.asserted_keeps (State.keepTamper_keeps (State.keepMemory_keeps h2 h1 ..) h1 ..) ..
  extract_lets +onlyGivenNames s4
  have h4 : Keeps r s4 := State.updRst_keeps h3 ..
  exact State.bump_keeps (State.setFlag_keeps h4 ..) ..

theorem State.planeSource_keeps {r} {a1} (ha1 : Keeps r a1) (a2) : Keeps r (State.planeSource a1 a2) := by
  unfold State.planeSource
  exact pred_ite (P := Keeps r) (State.updRst_keeps ha1 ..) (State.planeReset_keeps ha1 ..)

theorem State.markSource_keeps {r} {a1} (ha1 : Keeps r a1) (a2) : Keeps r (State.markSource a1 a2) := by
  unfold State.markSource
  exact State.setFld_keeps ha1 ..

theorem State.fireSource_keeps {r} {a1} (ha1 : Keeps r a1) (a2 a3) : Keeps r (State.fireSource a1 a2 a3) := by
  unfold State.fireSource
  refine pred_ite (P := Keeps r) ha1 ?_
  extract_lets +onlyGivenNames s1
  have h1 : Keeps r s1 := State.markSource_keeps ha1 ..
  exact pred_ite (P := Keeps r) (State.note_keeps (State.bump_keeps h1 ..) ..) (pred_ite (P := Keeps r) h1 (pred_ite (P :=
      Keeps r) (State.planeSource_keeps h1 ..) (pred_ite (P := Keeps r) (State.warmReset_keeps h1 ..) (State.markSource_keeps
      (State.coldReset_keeps h1 ..) ..))))

theorem State.runWaiting_keeps {r} {a1} (ha1 : Keeps r a1) : Keeps r (State.runWaiting a1) := by
  unfold State.runWaiting
  refine pred_ite (P := Keeps r) ha1 ?_
  extract_lets +onlyGivenNames s1
  have h1 : Keeps r s1 := State.updRst_keeps ha1 ..
  exact pred_ite (P := Keeps r) h1 (State.planeReset_keeps h1 ..)

theorem execPowerOn_keeps {r} {a3} (ha3 : Keeps r a3) (a1 a2) : KeepsX r (execPowerOn a1 a2 a3) := by
  unfold execPowerOn
  extract_lets +onlyGivenNames _ s2
  have h2 : Keeps r s2 := State.updRst_keeps (State.asserted_keeps (State.reborn_keeps ha3 ..) ..) ..
  exact KeepsX.mk (State.setFlag_keeps (State.setFld_keeps (State.setFld_keeps (State.markSource_keeps h2 ..) ..) ..) ..)

theorem execBrownOut_keeps {r} {a1} (ha1 : Keeps r a1) : KeepsX r (execBrownOut a1) := by
  unfold execBrownOut
  exact KeepsX.mk (State.fireSource_keeps ha1 ..)

theorem execResetNLow_keeps {r} {a1} (ha1 : Keeps r a1) : KeepsX r (execResetNLow a1) := by
  unfold execResetNLow
  exact KeepsX.mk (State.fireSource_keeps ha1 ..)

theorem execWatchdogExpiry_keeps {r} {a2} (ha2 : Keeps r a2) (a1) : KeepsX r (execWatchdogExpiry a1 a2) := by
  unfold execWatchdogExpiry
  exact KeepsX.mk (pred_ite (P := Keeps r) ha2 (State.fireSource_keeps ha2 ..))

theorem execDbgReqNLow_keeps {r} {a1} (ha1 : Keeps r a1) : KeepsX r (execDbgReqNLow a1) := by
  unfold execDbgReqNLow
  exact KeepsX.mk (pred_ite (P := Keeps r) (State.fireSource_keeps ha1 ..) ha1)

theorem execClockFailure_keeps {r} {a1} (ha1 : Keeps r a1) : KeepsX r (execClockFailure a1) := by
  unfold execClockFailure
  exact KeepsX.mk (State.fireSource_keeps ha1 ..)

theorem execLockUp_keeps {r} {a1} (ha1 : Keeps r a1) : KeepsX r (execLockUp a1) := by
  unfold execLockUp
  exact KeepsX.mk (State.fireSource_keeps ha1 ..)

theorem execSoftwareResetAssert_keeps {r} {a1} (ha1 : Keeps r a1) : KeepsX r (execSoftwareResetAssert a1) := by
  unfold execSoftwareResetAssert
  refine KeepsX.mk ?_
  split
  · exact ha1
  · extract_lets +onlyGivenNames s1
    have h1 : Keeps r s1 := Keeps.of ha1 rfl
    exact State.fireSource_keeps (State.updRst_keeps h1 ..) ..

theorem opRstQuery_keeps {r} {a2} (ha2 : Keeps r a2) (a1) : Keeps1 r (opRstQuery a1 a2) := by
  unfold opRstQuery
  exact pred_ite (P := Keeps1 r) (refuse_keeps ha2 ..) (Keeps1.mk ha2)

theorem opRstRequest_keeps {r} {a3} (ha3 : Keeps r a3) (a1 a2) : Keeps1 r (opRstRequest a1 a2 a3) := by
  unfold opRstRequest
  refine pred_ite (P := Keeps1 r) (refuse_keeps ha3 ..) ?_
  refine pred_ite (P := Keeps1 r) (refuse_keeps ha3 ..) ?_
  extract_lets +onlyGivenNames _
  exact Keeps1.mk (State.updRst_keeps ha3 ..)

theorem opRstBlock_keeps {r} {a4} (ha4 : Keeps r a4) (a1 a2 a3) : Keeps1 r (opRstBlock a1 a2 a3 a4) := by
  unfold opRstBlock
  exact pred_ite (P := Keeps1 r) (refuse_keeps ha4 ..) (pred_ite (P := Keeps1 r) (refuse_keeps ha4 ..) (pred_ite (P := Keeps1
      r) (refuse_keeps ha4 ..) (pred_ite (P := Keeps1 r) (refuse_keeps ha4 ..) (Keeps1.mk (State.updRst_keeps
      (State.closeDebug_keeps ha4 ..) ..)))))

theorem State.bobPass_keeps {r} {a1} (ha1 : Keeps r a1) (a2) : Keeps r (State.bobPass a1 a2) := by
  unfold State.bobPass
  extract_lets +onlyGivenNames _ s2
  have h2 : Keeps r s2 := State.setBob_keeps ha1 ..
  refine pred_ite (P := Keeps r) ?_ h2
  extract_lets +onlyGivenNames _ s4
  have h4 : Keeps r s4 := Keeps.of h2 rfl
  split
  · exact State.log_keeps (State.setBob_keeps h4 ..) ..
  · exact h4

theorem State.blkPass_keeps {r} {a1} (ha1 : Keeps r a1) (a2 a3) : Keeps r (State.blkPass a1 a2 a3) := by
  unfold State.blkPass
  split
  · exact State.showGates_keeps (State.setFlag_keeps (State.resetRegs_keeps (State.unfence_keeps ha1 ..) ..) ..) ..
  · exact State.bobPass_keeps (State.unfence_keeps ha1 ..) ..
  · extract_lets +onlyGivenNames s1
    have h1 : Keeps r s1 := State.resetRegs_keeps (State.laneReset_keeps (State.unfence_keeps ha1 ..) ..) ..
    exact pred_ite (P := Keeps r) (State.setLaneState_keeps h1 ..) h1
  · extract_lets +onlyGivenNames s2
    have h2 : Keeps r s2 := State.resetRegs_keeps (State.unfence_keeps ha1 ..) ..
    exact Keeps.of h2 rfl
  · exact State.startPort_keeps (State.resetRegs_keeps (State.unfence_keeps ha1 ..) ..) ..
  · exact pred_ite (P := Keeps r) (pred_ite (P := Keeps r) (State.request_keeps ha1 ..) (State.unfenceUnit_keeps ha1 ..)) ha1

theorem State.blkFail_keeps {r} {a1} (ha1 : Keeps r a1) (a2 a3) : Keeps r (State.blkFail a1 a2 a3) := by
  unfold State.blkFail
  extract_lets +onlyGivenNames s1
  have h1 : Keeps r s1 := State.fence_keeps ha1 ..
  split
  · exact State.setFlag_keeps h1 ..
  · exact State.setBob_keeps h1 ..
  · exact State.laneReset_keeps h1 ..
  · exact Keeps.of h1 rfl
  · exact State.startPort_keeps h1 ..
  · exact h1

theorem execBlockResetComplete_keeps {r} {a4} (ha4 : Keeps r a4) (a1 a2 a3) :
    KeepsX r (execBlockResetComplete a1 a2 a3 a4) := by
  unfold execBlockResetComplete
  refine KeepsX.mk ?_
  split
  · exact ha4
  · extract_lets +onlyGivenNames s1
    have h1 : Keeps r s1 := State.bump_keeps (State.updRst_keeps ha4 ..) ..
    extract_lets +onlyGivenNames s2
    have h2 : Keeps r s2 := pred_ite (P := Keeps r) (State.blkPass_keeps h1 ..) (State.blkFail_keeps h1 ..)
    exact State.completeCmd_keeps h2 ..

theorem execRstQuery_keeps {r} {a2} (ha2 : Keeps r a2) (a1) : KeepsX r (execRstQuery a1 a2) := by
  unfold execRstQuery
  exact KeepsX.mk (ohi_keeps ha2 (opRstQuery_keeps ha2 ..) ..)

theorem execRstRequest_keeps {r} {a3} (ha3 : Keeps r a3) (a1 a2) : KeepsX r (execRstRequest a1 a2 a3) := by
  unfold execRstRequest
  exact KeepsX.mk (ohi_keeps ha3 (opRstRequest_keeps ha3 ..) ..)

theorem execRstBlock_keeps {r} {a4} (ha4 : Keeps r a4) (a1 a2 a3) : KeepsX r (execRstBlock a1 a2 a3 a4) := by
  unfold execRstBlock
  exact KeepsX.mk (ohi_keeps ha4 (opRstBlock_keeps ha4 ..) ..)

theorem State.releaseLanes_keeps {r} {a1} (ha1 : Keeps r a1) : Keeps r (State.releaseLanes a1) := by
  unfold State.releaseLanes
  exact forAll_keeps (fun x1 _ h2 => pred_ite (P := Keeps r) (State.setLaneState_keeps h2 ..) h2) ha1 ..

theorem execResetRelease_keeps {r} {a1} (ha1 : Keeps r a1) : KeepsX r (execResetRelease a1) := by
  unfold execResetRelease
  refine KeepsX.mk ?_
  refine pred_ite (P := Keeps r) ha1 ?_
  split
  · exact ha1
  · exact State.releaseLanes_keeps (State.updRst_keeps ha1 ..) ..
  · extract_lets +onlyGivenNames _ s2
    have h2 : Keeps r s2 := Keeps.of ha1 rfl
    extract_lets +onlyGivenNames s3
    have h3 : Keeps r s3 := State.updRst_keeps h2 ..
    exact pred_ite (P := Keeps r) (State.setFlag_keeps h3 ..) h3

theorem execFirmwareVerified_keeps {r} {a2} (ha2 : Keeps r a2) (a1) : KeepsX r (execFirmwareVerified a1 a2) := by
  unfold execFirmwareVerified
  exact KeepsX.mk (pred_ite (P := Keeps r) ha2 (pred_ite (P := Keeps r) (State.updRst_keeps (State.updSec_keeps ha2 ..) ..)
      (State.updRst_keeps (State.setFlag_keeps ha2 ..) ..)))

theorem execMemoryTrainingDone_keeps {r} {a2} (ha2 : Keeps r a2) (a1) : KeepsX r (execMemoryTrainingDone a1 a2) := by
  unfold execMemoryTrainingDone
  refine KeepsX.mk ?_
  refine pred_ite (P := Keeps r) ha2 ?_
  split
  · rename_i e1
    have h1 := Keeps2.out (r := r) e1 (State.drawFree_keeps ha2 ..)
    extract_lets +onlyGivenNames s2
    have h2 : Keeps r s2 := State.setFlag_keeps (State.setFld_keeps h1 ..) ..
    extract_lets +onlyGivenNames s3
    have h3 : Keeps r s3 := pred_ite (P := Keeps r) (State.setFld_keeps h2 ..) h2
    extract_lets +onlyGivenNames s4
    have h4 : Keeps r s4 := State.showBobs_keeps h3 ..
    extract_lets +onlyGivenNames s5
    have h5 : Keeps r s5 := State.setFld_keeps h4 ..
    extract_lets +onlyGivenNames s6
    have h6 : Keeps r s6 := State.updRst_keeps h5 ..
    extract_lets +onlyGivenNames s7
    have h7 : Keeps r s7 := State.log_keeps h6 ..
    extract_lets +onlyGivenNames s8
    have h8 : Keeps r s8 := pred_ite (P := Keeps r) (State.updRst_keeps (State.log_keeps h7 ..) ..) h7
    extract_lets +onlyGivenNames s9
    have h9 : Keeps r s9 := pred_ite (P := Keeps r) (State.updSec_keeps (State.log_keeps h8 ..) ..) h8
    exact State.updLdr_keeps h9 ..

theorem opPwrQuery_keeps {r} {a2} (ha2 : Keeps r a2) (a1) : Keeps1 r (opPwrQuery a1 a2) := by
  unfold opPwrQuery
  exact pred_ite (P := Keeps1 r) (refuse_keeps ha2 ..) (Keeps1.mk ha2)

theorem State.gaspLoader_keeps {r} {a1} (ha1 : Keeps r a1) : Keeps r (State.gaspLoader a1) := by
  unfold State.gaspLoader
  extract_lets +onlyGivenNames _ s2
  have h2 : Keeps r s2 := State.dropPending_keeps (State.offForApply_keeps ha1 ..) ..
  extract_lets +onlyGivenNames s3
  have h3 : Keeps r s3 := pred_ite (P := Keeps r) h2 (State.reject_keeps h2 ..)
  extract_lets +onlyGivenNames s4
  have h4 : Keeps r s4 := pred_ite (P := Keeps r) (State.setFlag_keeps h3 ..) h3
  exact State.runWaiting_keeps (State.updLdr_keeps h4 ..) ..

theorem State.gaspChans_keeps {r} {a1} (ha1 : Keeps r a1) : Keeps r (State.gaspChans a1) := by
  unfold State.gaspChans
  extract_lets +onlyGivenNames s1
  have h1 : Keeps r s1 := forAll_keeps (fun x2 _ h3 => pred_ite (P := Keeps r) h3 (State.requestState_keeps h3 ..)) ha1 ..
  exact Keeps.of h1 rfl

theorem State.gaspLinks_keeps {r} {a1} (ha1 : Keeps r a1) : Keeps r (State.gaspLinks a1) := by
  unfold State.gaspLinks
  extract_lets +onlyGivenNames s1
  have h1 : Keeps r s1 := forAll_keeps (fun x2 _ h3 => pred_ite (P := Keeps r) h3 (State.laneLeave_keeps h3 ..)) ha1 ..
  exact pred_ite (P := Keeps r) (State.setFlag_keeps (State.setFlag_keeps (State.setFlag_keeps h1 ..) ..) ..) h1

theorem State.gaspEngines_keeps {r} {a1} (ha1 : Keeps r a1) : Keeps r (State.gaspEngines a1) := by
  unfold State.gaspEngines
  extract_lets +onlyGivenNames s1
  have h1 : Keeps r s1 := State.setFld_keeps (State.setFld_keeps ha1 ..) ..
  extract_lets +onlyGivenNames _ s3
  have h3 : Keeps r s3 := Keeps.of h1 rfl
  exact State.setFlag_keeps (State.olaShow_keeps (State.showCap_keeps (State.castCut_keeps h3 ..) ..) ..) ..

theorem State.gaspHosts_keeps {r} {a1} (ha1 : Keeps r a1) : Keeps r (State.gaspHosts a1) := by
  unfold State.gaspHosts
  extract_lets +onlyGivenNames _
  split
  · exact ha1
  · refine pred_ite (P := Keeps r) ha1 ?_
    refine pred_foldl (P := Keeps r) _ (fun _ h2 x3 => ?_) _ ha1
    split
    · rename_i e4
      have h4 := Keeps2.out (r := r) e4 (State.drawFree_keeps h2 ..)
      extract_lets +onlyGivenNames _ _
      exact Keeps.of h4 rfl

theorem State.enterGasp_keeps {r} {a1} (ha1 : Keeps r a1) (a2) : Keeps r (State.enterGasp a1 a2) := by
  unfold State.enterGasp
  extract_lets +onlyGivenNames s1
  have h1 : Keeps r s1 := State.updRst_keeps ha1 ..
  extract_lets +onlyGivenNames s2
  have h2 : Keeps r s2 := State.bump_keeps (State.setFlag_keeps h1 ..) ..
  extract_lets +onlyGivenNames s3
  have h3 : Keeps r s3 := State.gaspHosts_keeps (State.gaspLinks_keeps (State.gaspEngines_keeps (State.gaspChans_keeps
      (State.gaspLoader_keeps h2 ..) ..) ..) ..) ..
  exact State.flashLog_keeps h3 ..

theorem opPwrKeep_keeps {r} {a3} (ha3 : Keeps r a3) (a1 a2) : Keeps1 r (opPwrKeep a1 a2 a3) := by
  unfold opPwrKeep
  exact pred_ite (P := Keeps1 r) (refuse_keeps ha3 ..) (pred_ite (P := Keeps1 r) (refuse_keeps ha3 ..) (pred_ite (P := Keeps1
      r) (refuse_keeps ha3 ..) (Keeps1.mk (State.enterGasp_keeps ha3 ..))))

theorem execPwrQuery_keeps {r} {a2} (ha2 : Keeps r a2) (a1) : KeepsX r (execPwrQuery a1 a2) := by
  unfold execPwrQuery
  exact KeepsX.mk (ohi_keeps ha2 (opPwrQuery_keeps ha2 ..) ..)

theorem execPwrKeep_keeps {r} {a3} (ha3 : Keeps r a3) (a1 a2) : KeepsX r (execPwrKeep a1 a2 a3) := by
  unfold execPwrKeep
  exact KeepsX.mk (ohi_keeps ha3 (opPwrKeep_keeps ha3 ..) ..)

theorem execInputLost_keeps {r} {a3} (ha3 : Keeps r a3) (a1 a2) : KeepsX r (execInputLost a1 a2 a3) := by
  unfold execInputLost
  refine KeepsX.mk ?_
  refine pred_ite (P := Keeps r) ha3 ?_
  extract_lets +onlyGivenNames s1
  have h1 : Keeps r s1 := State.setFld_keeps (State.setFlag_keeps (State.setFlag_keeps ha3 ..) ..) ..
  extract_lets +onlyGivenNames s2
  have h2 : Keeps r s2 := State.updRst_keeps h1 ..
  exact pred_ite (P := Keeps r) (State.note_keeps (State.bump_keeps h2 ..) ..) h2

theorem State.leaveKeep_keeps {r} {a1} (ha1 : Keeps r a1) : Keeps r (State.leaveKeep a1) := by
  unfold State.leaveKeep
  extract_lets +onlyGivenNames _ s2
  have h2 : Keeps r s2 := State.setFld_keeps (State.setFld_keeps ha1 ..) ..
  extract_lets +onlyGivenNames s3
  have h3 : Keeps r s3 := Keeps.of h2 rfl
  extract_lets +onlyGivenNames s4
  have h4 : Keeps r s4 := State.updRst_keeps h3 ..
  exact State.bump_keeps (State.setFlag_keeps (State.asserted_keeps h4 ..) ..) ..

theorem execInputReturn_keeps {r} {a2} (ha2 : Keeps r a2) (a1) : KeepsX r (execInputReturn a1 a2) := by
  unfold execInputReturn
  refine KeepsX.mk ?_
  refine pred_ite (P := Keeps r) ha2 ?_
  extract_lets +onlyGivenNames s1
  have h1 : Keeps r s1 := State.setFld_keeps (State.setFlag_keeps ha2 ..) ..
  split
  · extract_lets +onlyGivenNames _
    exact State.updRst_keeps (State.note_keeps h1 ..) ..
  · exact pred_ite (P := Keeps r) h1 (State.warmReset_keeps h1 ..)
  · exact pred_ite (P := Keeps r) (State.leaveKeep_keeps h1 ..) h1

theorem execGaspEntry_keeps {r} {a1} (ha1 : Keeps r a1) : KeepsX r (execGaspEntry a1) := by
  unfold execGaspEntry
  refine KeepsX.mk ?_
  split
  · exact ha1
  · refine pred_ite (P := Keeps r) ha1 ?_
    extract_lets +onlyGivenNames s1
    have h1 : Keeps r s1 := Keeps.of ha1 rfl
    exact State.enterGasp_keeps h1 ..

theorem execKeepEntry_keeps {r} {a1} (ha1 : Keeps r a1) : KeepsX r (execKeepEntry a1) := by
  unfold execKeepEntry
  refine KeepsX.mk ?_
  refine pred_ite (P := Keeps r) ha1 ?_
  extract_lets +onlyGivenNames s1
  have h1 : Keeps r s1 := Keeps.of ha1 rfl
  extract_lets +onlyGivenNames _ s3
  have h3 : Keeps r s3 := State.keepTamper_keeps (State.reborn_keeps h1 ..) h1 ..
  extract_lets +onlyGivenNames s4
  have h4 : Keeps r s4 := Keeps.of h3 rfl
  exact State.updRst_keeps h4 ..

theorem execBlank0KeepWake_keeps {r} {a2} (ha2 : Keeps r a2) (a1) : KeepsX r (execBlank0KeepWake a1 a2) := by
  unfold execBlank0KeepWake
  refine KeepsX.mk ?_
  refine pred_ite (P := Keeps r) ha2 ?_
  extract_lets +onlyGivenNames s1
  have h1 : Keeps r s1 := Keeps.of ha2 rfl
  exact pred_ite (P := Keeps r) (State.leaveKeep_keeps h1 ..) (State.keepEdge_keeps h1 ..)

theorem execAonStoresExhausted_keeps {r} {a1} (ha1 : Keeps r a1) : KeepsX r (execAonStoresExhausted a1) := by
  unfold execAonStoresExhausted
  exact KeepsX.mk (pred_ite (P := Keeps r) ha1 (State.updRst_keeps (State.markSource_keeps (State.coldReset_keeps ha1 ..) ..)
      ..))

theorem execVbatLevelChange_keeps {r} {a2} (ha2 : Keeps r a2) (a1) : KeepsX r (execVbatLevelChange a1 a2) := by
  unfold execVbatLevelChange
  exact KeepsX.mk (State.setFlag_keeps ha2 ..)

theorem State.refSwitch_keeps {r} {a1} (ha1 : Keeps r a1) (a2) : Keeps r (State.refSwitch a1 a2) := by
  unfold State.refSwitch
  extract_lets +onlyGivenNames _
  refine pred_ite (P := Keeps r) ha1 ?_
  extract_lets +onlyGivenNames s2
  have h2 : Keeps r s2 := State.updRst_keeps ha1 ..
  exact State.note_keeps (State.bump_keeps (State.setFlag_keeps (State.setFld_keeps h2 ..) ..) ..) ..

theorem execRefclkValid_keeps {r} {a3} (ha3 : Keeps r a3) (a1 a2) : KeepsX r (execRefclkValid a1 a2 a3) := by
  unfold execRefclkValid
  refine KeepsX.mk ?_
  refine pred_ite (P := Keeps r) ha3 ?_
  extract_lets +onlyGivenNames s1
  have h1 : Keeps r s1 := State.setFld_keeps (State.setFlag_keeps ha3 ..) ..
  exact State.refSwitch_keeps h1 ..

theorem execClkRefLost_keeps {r} {a1} (ha1 : Keeps r a1) : KeepsX r (execClkRefLost a1) := by
  unfold execClkRefLost
  refine KeepsX.mk ?_
  extract_lets +onlyGivenNames _
  refine pred_ite (P := Keeps r) ha1 ?_
  extract_lets +onlyGivenNames s2
  have h2 : Keeps r s2 := State.note_keeps (State.bump_keeps (State.setFlag_keeps ha1 ..) ..) ..
  exact State.refSwitch_keeps h2 ..

theorem execClockSlewEnd_keeps {r} {a1} (ha1 : Keeps r a1) : KeepsX r (execClockSlewEnd a1) := by
  unfold execClockSlewEnd
  exact KeepsX.mk (pred_ite (P := Keeps r) (State.setFlag_keeps (State.reach_keeps ha1 ..) ..) ha1)

theorem execPwrXtal_keeps {r} {a1} (ha1 : Keeps r a1) : KeepsX r (execPwrXtal a1) := by
  unfold execPwrXtal
  exact KeepsX.mk (State.note_keeps (State.setFlag_keeps ha1 ..) ..)

theorem State.heatTemp_keeps {r} {a1} (ha1 : Keeps r a1) (a2) : Keeps r (State.heatTemp a1 a2) := by
  unfold State.heatTemp
  extract_lets +onlyGivenNames _ s2
  have h2 : Keeps r s2 := State.setFlag_keeps (State.setFld_keeps ha1 ..) ..
  exact pred_ite (P := Keeps r) (State.note_keeps (State.bump_keeps (State.setFlag_keeps h2 ..) ..) ..) (pred_ite (P := Keeps
      r) (State.note_keeps (State.setFlag_keeps h2 ..) ..) h2)

theorem execPwrHot_keeps {r} {a2} (ha2 : Keeps r a2) (a1) : KeepsX r (execPwrHot a1 a2) := by
  unfold execPwrHot
  refine KeepsX.mk ?_
  extract_lets +onlyGivenNames _ s2
  have h2 : Keeps r s2 := pred_ite (P := Keeps r) (State.heatTemp_keeps ha2 ..) ha2
  exact pred_ite (P := Keeps r) (State.fireSource_keeps (State.updRst_keeps h2 ..) ..) (pred_ite (P := Keeps r)
      (State.updRst_keeps h2 ..) h2)

theorem State.sealFeats_keeps {r} {a1} (ha1 : Keeps r a1) : Keeps r (State.sealFeats a1) := by
  unfold State.sealFeats
  extract_lets +onlyGivenNames s1
  have h1 : Keeps r s1 := State.setFld_keeps ha1 ..
  extract_lets +onlyGivenNames _ _ s4
  have h4 : Keeps r s4 := pred_foldl (P := Keeps r) _ (fun _ h5 x6 => State.setFld_keeps h5 ..) _ h1
  exact Keeps.of h4 rfl

theorem State.sealGrid_keeps {r} {a1} (ha1 : Keeps r a1) : Keeps r (State.sealGrid a1) := by
  unfold State.sealGrid
  extract_lets +onlyGivenNames _ _ s3
  have h3 : Keeps r s3 := Keeps.of ha1 rfl
  extract_lets +onlyGivenNames s4
  have h4 : Keeps r s4 := State.setFlag_keeps (State.setFld_keeps (State.setFld_keeps h3 ..) ..) ..
  extract_lets +onlyGivenNames s5
  have h5 : Keeps r s5 := State.setFlag_keeps (State.setPf_keeps h4 ..) ..
  exact State.showCap_keeps (State.refillAir_keeps (State.setFld_keeps h5 ..) ..) ..

theorem State.sealDelivery_keeps {r} {a1} (ha1 : Keeps r a1) (a2) : Keeps r (State.sealDelivery a1 a2) := by
  unfold State.sealDelivery
  extract_lets +onlyGivenNames _ s2
  have h2 : Keeps r s2 := State.freshPools_keeps (forAll_keeps (fun x3 _ h4 => State.freshQueues_keeps h4 ..) ha1 ..) ..
  extract_lets +onlyGivenNames _ s6
  have h6 : Keeps r s6 := Keeps.of h2 rfl
  exact pred_ite (P := Keeps r) h6 (State.setFld_keeps (Keeps.of h6 rfl) ..)

theorem State.sealRecs_keeps {r} {a1} (ha1 : Keeps r a1) (a2) : Keeps r (State.sealRecs a1 a2) := by
  unfold State.sealRecs
  extract_lets +onlyGivenNames _ _ s3
  have h3 : Keeps r s3 := pred_foldl (P := Keeps r) _ (fun _ h4 x5 => State.freeRec_keeps h4 ..) _ ha1
  exact Keeps.of h3 rfl

theorem State.sealLane_keeps {r} {a1} (ha1 : Keeps r a1) (a2) : Keeps r (State.sealLane a1 a2) := by
  unfold State.sealLane
  extract_lets +onlyGivenNames _ s2
  have h2 : Keeps r s2 := State.setFlag_keeps (State.updLane_keeps ha1 ..) ..
  extract_lets +onlyGivenNames _ _
  exact pred_ite (P := Keeps r) (pred_ite (P := Keeps r) h2 (State.laneLeave_keeps h2 ..)) (pred_ite (P := Keeps r) (pred_ite
      (P := Keeps r) h2 (State.setLaneState_keeps h2 ..)) (pred_ite (P := Keeps r) (State.laneLeave_keeps h2 ..) (pred_ite (P
      := Keeps r) (State.laneAlign_keeps h2 ..) h2)))

theorem State.sealGauges_keeps {r} {a1} (ha1 : Keeps r a1) : Keeps r (State.sealGauges a1) := by
  unfold State.sealGauges
  extract_lets +onlyGivenNames s1
  have h1 : Keeps r s1 := forAll_keeps (fun x2 _ h3 => State.setFlag_keeps (State.gaugeLaneLost_keeps h3 ..) ..) ha1 ..
  extract_lets +onlyGivenNames s4
  have h4 : Keeps r s4 := State.startGauges_keeps h1 ..
  exact Keeps.of h4 rfl

theorem State.sealSnaps_keeps {r} {a1} (ha1 : Keeps r a1) (a2) : Keeps r (State.sealSnaps a1 a2) := by
  unfold State.sealSnaps
  exact pred_ite (P := Keeps r) (Keeps.of ha1 rfl) (Keeps.of ha1 rfl)

theorem State.sealHost_keeps {r} {a1} (ha1 : Keeps r a1) : Keeps r (State.sealHost a1) := by
  unfold State.sealHost
  extract_lets +onlyGivenNames s1
  have h1 : Keeps r s1 := State.setFlag_keeps ha1 ..
  exact forAll_keeps (fun x2 _ h3 => pred_ite (P := Keeps r) (State.setFlag_keeps (State.setFlag_keeps (State.setFlag_keeps h3
      ..) ..) ..) h3) h1 ..

theorem State.applyFull_keeps {r} {a1} (ha1 : Keeps r a1) (a2) : Keeps r (State.applyFull a1 a2) := by
  unfold State.applyFull
  extract_lets +onlyGivenNames _ _ _ _ s5
  have h5 : Keeps r s5 := Keeps.of ha1 rfl
  extract_lets +onlyGivenNames s6
  have h6 : Keeps r s6 := State.updLdr_keeps h5 ..
  extract_lets +onlyGivenNames s7
  have h7 : Keeps r s7 := State.sealFeats_keeps h6 ..
  extract_lets +onlyGivenNames s8
  have h8 : Keeps r s8 := State.putPat_keeps (State.clearFlds_keeps h7 ..) ..
  extract_lets +onlyGivenNames s9
  have h9 : Keeps r s9 := forAll_keeps (fun x10 _ h11 => State.setFld_keeps h11 ..) h8 ..
  extract_lets +onlyGivenNames s12
  have h12 : Keeps r s12 := State.sealHost_keeps (State.freshChans_keeps (State.sealGrid_keeps h9 ..) ..) ..
  extract_lets +onlyGivenNames s13
  have h13 : Keeps r s13 := by unfold s13; exact State.olaShow_keeps (State.olaAllEmpty_keeps (Keeps.of h12 rfl) ..) ..
  extract_lets +onlyGivenNames s14
  have h14 : Keeps r s14 := State.sealContacts_keeps (State.sealPorts_keeps (State.sealTime_keeps h13 ..) ..) ..
  extract_lets +onlyGivenNames s15
  have h15 : Keeps r s15 := State.castSeal_keeps h14 ..
  extract_lets +onlyGivenNames s16
  have h16 : Keeps r s16 := State.sealDelivery_keeps h15 ..
  extract_lets +onlyGivenNames s17
  have h17 : Keeps r s17 := State.sealRecs_keeps (State.sealSnaps_keeps h16 ..) ..
  extract_lets +onlyGivenNames s18
  have h18 : Keeps r s18 := State.sealBobs_keeps (State.sealGauges_keeps h17 ..) ..
  extract_lets +onlyGivenNames s19
  have h19 : Keeps r s19 := forAll_keeps (fun x20 _ h21 => State.sealLane_keeps h21 ..) h18 ..
  extract_lets +onlyGivenNames s22
  have h22 : Keeps r s22 := State.showAllGates_keeps (State.handDuplex_keeps (State.initRegs_keeps h19 ..) ..) ..
  exact State.updRst_keeps (State.bumpN_keeps h22 ..) ..

theorem execPatternSeal_keeps {r} {a1} (ha1 : Keeps r a1) : KeepsX r (execPatternSeal a1) := by
  unfold execPatternSeal
  refine KeepsX.mk ?_
  split
  · exact ha1
  · extract_lets +onlyGivenNames s1 _ s3
    have h3 : Keeps r s3 := State.applyFull_keeps (State.dropPending_keeps (State.offForApply_keeps ha1 ..) ..) ..
    extract_lets +onlyGivenNames s4
    have h4 : Keeps r s4 := State.updLdr_keeps h3 ..
    extract_lets +onlyGivenNames s5
    have h5 : Keeps r s5 := State.log_keeps (State.setLoader_keeps (State.setFld_keeps (State.setFlag_keeps h4 ..) ..) ..) ..
    extract_lets +onlyGivenNames s6
    have h6 : Keeps r s6 := by
      unfold s6
      clear_value s1
      split
      · exact State.completeCmd_keeps h5 ..
      · exact h5
    exact State.runWaiting_keeps h6 ..

theorem State.panelChans_keeps {r} {a1} (ha1 : Keeps r a1) (a2) : Keeps r (State.panelChans a1 a2) := by
  unfold State.panelChans
  exact pred_foldl (P := Keeps r) _ (fun _ h1 x2 => State.setFld_keeps (State.setFld_keeps h1 ..) ..) _ ha1

theorem State.applyPanel_keeps {r} {a1} (ha1 : Keeps r a1) (a2 a3) : Keeps r (State.applyPanel a1 a2 a3) := by
  unfold State.applyPanel
  split
  · exact ha1
  · extract_lets +onlyGivenNames _ _ _ s4
    have h4 : Keeps r s4 := Keeps.of ha1 rfl
    extract_lets +onlyGivenNames s5
    have h5 : Keeps r s5 := State.sealContacts_keeps (State.sealPorts_keeps (State.panelChans_keeps h4 ..) ..) ..
    extract_lets +onlyGivenNames s6
    have h6 : Keeps r s6 := pred_foldl (P := Keeps r) _ (fun _ h7 x8 => State.setGroup_keeps h7 ..) _ h5
    extract_lets +onlyGivenNames s9
    have h9 : Keeps r s9 := State.freshQueues_keeps h6 ..
    extract_lets +onlyGivenNames _ s11
    have h11 : Keeps r s11 := by unfold s11; exact pred_ite (P := Keeps r) (Keeps.of h9 rfl) h9
    exact pred_foldl (P := Keeps r) _ (fun _ h12 x13 => State.initWrite_keeps h12 ..) _ h11

theorem execPanelPatternEffect_keeps {r} {a2} (ha2 : Keeps r a2) (a1) : KeepsX r (execPanelPatternEffect a1 a2) := by
  unfold execPanelPatternEffect
  refine KeepsX.mk ?_
  split
  · exact ha2
  · refine pred_ite (P := Keeps r) ha2 ?_
    extract_lets +onlyGivenNames s1
    have h1 : Keeps r s1 := State.applyPanel_keeps ha2 ..
    extract_lets +onlyGivenNames s2
    have h2 : Keeps r s2 := State.updLdr_keeps h1 ..
    extract_lets +onlyGivenNames s3
    have h3 : Keeps r s3 := State.log_keeps h2 ..
    split
    · exact State.completeCmd_keeps h3 ..
    · exact h3

theorem argLen_keeps {r} {a1 a4} (ha1 : Keeps r a1) (ha4 : Keeps1 r a4) (a2 a3) : Keeps1 r (argLen a1 a2 a3 a4) := by
  unfold argLen
  exact pred_ite (P := Keeps1 r) ha4 (refuse_keeps ha1 ..)

theorem cmdPower_keeps {r} {a4} (ha4 : Keeps r a4) (a1 a2 a3) : Keeps1 r (cmdPower a1 a2 a3 a4) := by
  unfold cmdPower
  split
  · exact argLen_keeps ha4 (opRstQuery_keeps ha4 ..) ..
  · exact argLen_keeps ha4 (opRstRequest_keeps ha4 ..) ..
  · exact argLen_keeps ha4 (opRstBlock_keeps ha4 ..) ..
  · exact argLen_keeps ha4 (opPwrQuery_keeps ha4 ..) ..
  · exact opPwrKeep_keeps ha4 ..
  · exact refuse_keeps ha4 ..

theorem cmdPattern_keeps {r} {a4} (ha4 : Keeps r a4) (a1 a2 a3) : Keeps1 r (cmdPattern a1 a2 a3 a4) := by
  unfold cmdPattern
  split
  · exact argLen_keeps ha4 (opPatternBegin_keeps ha4 ..) ..
  · exact pred_ite (P := Keeps1 r) (refuse_keeps ha4 ..) (opPatternData_keeps ha4 ..)
  · exact argLen_keeps ha4 (opPatternCommit_keeps ha4 ..) ..
  · exact argLen_keeps ha4 (opPatternAbort_keeps ha4 ..) ..
  · exact argLen_keeps ha4 (opPatternStore_keeps ha4 ..) ..
  · exact argLen_keeps ha4 (opFeatureAccept_keeps ha4 ..) ..
  · exact argLen_keeps ha4 (opPatternQuery_keeps ha4 ..) ..
  · exact refuse_keeps ha4 ..

theorem cmdSec_keeps {r} {a4} (ha4 : Keeps r a4) (a1 a2 a3) : Keeps1 r (cmdSec a1 a2 a3 a4) := by
  unfold cmdSec
  split
  · exact argLen_keeps ha4 (opSecQuery_keeps ha4 ..) ..
  · exact pred_ite (P := Keeps1 r) (refuse_keeps ha4 ..) (opSecStage_keeps ha4 ..)
  · exact opSecEnrol_keeps ha4 ..
  · exact opSecFwWrite_keeps ha4 ..
  · exact opSecFwCommit_keeps ha4 ..
  · exact opSecRollbackAdvance_keeps ha4 ..
  · exact opSecAttest_keeps ha4 ..
  · exact opSecRead_keeps ha4 ..
  · exact opSecDebugChallenge_keeps ha4 ..
  · exact opSecDebugOpen_keeps ha4 ..
  · exact opSecKeySet_keeps ha4 ..
  · exact opSecKeyTx_keeps ha4 ..
  · exact opSecKeyClear_keeps ha4 ..
  · exact opSecOhiKey_keeps ha4 ..
  · exact opSecTamperClear_keeps ha4 ..
  · exact refuse_keeps ha4 ..

theorem cmdLink_keeps {r} {a4} (ha4 : Keeps r a4) (a1 a2 a3) : Keeps1 r (cmdLink a1 a2 a3 a4) := by
  unfold cmdLink
  extract_lets +onlyGivenNames _
  split
  · exact argLen_keeps ha4 (opHlkQuery_keeps ha4 ..) ..
  · exact argLen_keeps ha4 (opHlkHeadRead_keeps ha4 ..) ..
  · exact argLen_keeps ha4 (opHlkHeadWrite_keeps ha4 ..) ..
  · exact argLen_keeps ha4 (opHlkRealign_keeps ha4 ..) ..
  · exact argLen_keeps ha4 (opChnStart_keeps ha4 ..) ..
  · exact argLen_keeps ha4 (opChnStop_keeps ha4 ..) ..
  · exact argLen_keeps ha4 (opChnQuiet_keeps ha4 ..) ..
  · exact argLen_keeps ha4 (opChnResume_keeps ha4 ..) ..
  · exact argLen_keeps ha4 (opChnRetrain_keeps ha4 ..) ..
  · exact argLen_keeps ha4 (opChnSetCoupling_keeps ha4 ..) ..
  · exact argLen_keeps ha4 (opChnSetRole_keeps ha4 ..) ..
  · exact argLen_keeps ha4 (opChnQuery_keeps ha4 ..) ..
  · exact argLen_keeps ha4 (opOlaPairQuery_keeps ha4 ..) ..
  · exact argLen_keeps ha4 (opOlaVictimReset_keeps ha4 ..) ..
  · exact argLen_keeps ha4 (opOlaCoefRead_keeps ha4 ..) ..
  · extract_lets +onlyGivenNames _
    exact argLen_keeps ha4 (opOlaCoefWrite_keeps ha4 ..) ..
  · exact refuse_keeps ha4 ..

theorem cmdTime_keeps {r} {a4} (ha4 : Keeps r a4) (a1 a2 a3) : Keeps1 r (cmdTime a1 a2 a3 a4) := by
  unfold cmdTime
  extract_lets +onlyGivenNames _
  split
  · exact argLen_keeps ha4 (opDrmQuery_keeps ha4 ..) ..
  · exact argLen_keeps ha4 (opDrmWake_keeps ha4 ..) ..
  · exact argLen_keeps ha4 (opDrmRelease_keeps ha4 ..) ..
  · exact argLen_keeps ha4 (opTimQuery_keeps ha4 ..) ..
  · exact argLen_keeps ha4 (opTimSet_keeps ha4 ..) ..
  · exact argLen_keeps ha4 (opTimFeed_keeps ha4 ..) ..
  · exact argLen_keeps ha4 (opTimPairSelect_keeps ha4 ..) ..
  · exact argLen_keeps ha4 (opTimAt_keeps ha4 ..) ..
  · exact argLen_keeps ha4 (opGauQuery_keeps ha4 ..) ..
  · exact argLen_keeps ha4 (opGauCheck_keeps ha4 ..) ..
  · exact argLen_keeps ha4 (opGauCalibrate_keeps ha4 ..) ..
  · exact argLen_keeps ha4 (opGauExcite_keeps ha4 ..) ..
  · exact argLen_keeps ha4 (opSrgQuery_keeps ha4 ..) ..
  · exact argLen_keeps ha4 (opSrgFreeze_keeps ha4 ..) ..
  · exact argLen_keeps ha4 (opSrgExport_keeps ha4 ..) ..
  · exact argLen_keeps ha4 (opSrgRelease_keeps ha4 ..) ..
  · exact argLen_keeps ha4 (opSrgArrivalRead_keeps ha4 ..) ..
  · exact refuse_keeps ha4 ..

theorem cmdPanel_keeps {r} {a4} (ha4 : Keeps r a4) (a1 a2 a3) : Keeps1 r (cmdPanel a1 a2 a3 a4) := by
  unfold cmdPanel
  extract_lets +onlyGivenNames _
  split
  · exact argLen_keeps ha4 (opPnlQuery_keeps ha4 ..) ..
  · exact argLen_keeps ha4 (opRegRead_keeps ha4 ..) ..
  · extract_lets +onlyGivenNames _
    exact argLen_keeps ha4 (opRegWrite_keeps ha4 ..) ..
  · exact argLen_keeps ha4 (opSerQuery_keeps ha4 ..) ..
  · exact argLen_keeps ha4 (flushDone_keeps (opSerFlush_keeps ha4 ..) ..) ..
  · exact argLen_keeps ha4 (opCmdQuery_keeps ha4 ..) ..
  · exact argLen_keeps ha4 (opCmdForce_keeps ha4 ..) ..
  · exact argLen_keeps ha4 (opCmdRelease_keeps ha4 ..) ..
  · exact argLen_keeps ha4 (opBobQuery_keeps ha4 ..) ..
  · exact argLen_keeps ha4 (opHbmQuery_keeps ha4 ..) ..
  · exact argLen_keeps ha4 (opEvtRead_keeps ha4 ..) ..
  · exact argLen_keeps ha4 (opEvtCfg_keeps ha4 ..) ..
  · exact argLen_keeps ha4 (opTelSnap_keeps ha4 ..) ..
  · exact argLen_keeps ha4 (opTelRead_keeps ha4 ..) ..
  · exact refuse_keeps ha4 ..

theorem cmdOp_keeps {r} {a4} (ha4 : Keeps r a4) (a1 a2 a3) : Keeps1 r (cmdOp a1 a2 a3 a4) := by
  unfold cmdOp
  exact pred_ite (P := Keeps1 r) (cmdPower_keeps ha4 ..) (pred_ite (P := Keeps1 r) (cmdPattern_keeps ha4 ..) (pred_ite (P :=
      Keeps1 r) (cmdSec_keeps ha4 ..) (pred_ite (P := Keeps1 r) (cmdLink_keeps ha4 ..) (pred_ite (P := Keeps1 r) (cmdTime_keeps
      ha4 ..) (cmdPanel_keeps ha4 ..)))))

theorem State.takeEntry_keeps {r} {a1} (ha1 : Keeps r a1) (a2) : Keeps r (State.takeEntry a1 a2) := by
  unfold State.takeEntry
  extract_lets +onlyGivenNames _ _ _ _ _ s6
  have h6 : Keeps r s6 := State.setFld_keeps ha1 ..
  exact State.sendOhi_keeps (ohi_keeps h6 (pred_ite (P := Keeps1 r) (refuse_keeps h6 ..) (cmdOp_keeps h6 ..)) ..) ..

theorem State.takeEntries_keeps {r a1} (ha1 : Keeps r a1) (a2 a3) : Keeps r (State.takeEntries a1 a2 a3) := by
  induction a3 generalizing a1 with
  | zero => exact ha1
  | succ n ih =>
    unfold State.takeEntries
    exact pred_ite (P := Keeps r) (ih (State.takeEntry_keeps ha1 ..)) ha1

theorem State.pump_keeps {r} {a1} (ha1 : Keeps r a1) : Keeps r (State.pump a1) := by
  unfold State.pump
  exact forAll_keeps (fun x1 _ h2 => State.takeEntries_keeps h2 ..) (State.sendOhi_keeps ha1 ..) ..

theorem State.idle_keeps {r} {a1} (ha1 : Keeps r a1) : Keeps r (State.idle a1) := by
  unfold State.idle
  refine pred_ite (P := Keeps r) ha1 ?_
  extract_lets +onlyGivenNames s1
  have h1 : Keeps r s1 := Keeps.of ha1 rfl
  exact State.pump_keeps h1 ..

theorem execRingDoorbell_keeps {r} {a3} (ha3 : Keeps r a3) (a1 a2) : KeepsX r (execRingDoorbell a1 a2 a3) := by
  unfold execRingDoorbell
  exact KeepsX.mk (pred_ite (P := Keeps r) (State.pump_keeps (State.regWrite_keeps ha3 ..) ..) ha3)

theorem execRegisterWrite_keeps {r} {a4} (ha4 : Keeps r a4) (a1 a2 a3) : KeepsX r (execRegisterWrite a1 a2 a3 a4) := by
  unfold execRegisterWrite
  exact KeepsX.mk (pred_ite (P := Keeps r) (State.pump_keeps (State.regWrite_keeps ha4 ..) ..) ha4)

theorem execRegWrite_keeps {r} {a4} (ha4 : Keeps r a4) (a1 a2 a3) : KeepsX r (execRegWrite a1 a2 a3 a4) := by
  unfold execRegWrite
  exact KeepsX.mk (State.pump_keeps (ohi_keeps ha4 (opRegWrite_keeps ha4 ..) ..) ..)

theorem State.spiRun_keeps {r} {a1} (ha1 : Keeps r a1) (a2 a3 a4 a5 a6) : Keeps r (State.spiRun a1 a2 a3 a4 a5 a6) := by
  unfold State.spiRun
  extract_lets +onlyGivenNames _ _
  refine pred_ite (P := Keeps r) ha1 ?_
  refine pred_ite (P := Keeps r) (State.spi_keeps (State.bump_keeps ha1 ..) ..) ?_
  refine pred_ite (P := Keeps r) ?_ ?_
  · extract_lets +onlyGivenNames s3
    have h3 : Keeps r s3 := pred_foldl (P := Keeps r) _ (fun _ h4 x5 => State.regWrite_keeps h4 ..) _ ha1
    exact State.pump_keeps (State.spi_keeps h3 ..) ..
  · split
    · rename_i e6
      have h6 := Keeps2.out (r := r) e6 (by
          refine pred_foldl (P := Keeps2 r) _ (fun _ h7 x8 => ?_) _ (Keeps2.mk ha1)
          split
          · rename_i e9
            have h9 := Keeps2.out (r := r) e9 (State.regRead_keeps (Keeps2.proj h7) ..)
            exact Keeps2.mk h9)
      exact State.spi_keeps h6 ..

theorem execSpiTransaction_keeps {r} {a6} (ha6 : Keeps r a6) (a1 a2 a3 a4 a5) :
    KeepsX r (execSpiTransaction a1 a2 a3 a4 a5 a6) := by
  unfold execSpiTransaction
  exact KeepsX.mk (pred_ite (P := Keeps r) (State.spiRun_keeps ha6 ..) ha6)

theorem execSpiCsEarlyRise_keeps {r} {a6} (ha6 : Keeps r a6) (a1 a2 a3 a4 a5) :
    KeepsX r (execSpiCsEarlyRise a1 a2 a3 a4 a5 a6) := by
  unfold execSpiCsEarlyRise
  exact KeepsX.mk (pred_ite (P := Keeps r) (State.spiRun_keeps ha6 ..) ha6)

theorem State.ringEntries_keeps {r} {a1} (ha1 : Keeps r a1) (a2 a3 a4) : Keeps r (State.ringEntries a1 a2 a3 a4) := by
  unfold State.ringEntries
  extract_lets +onlyGivenNames _ s2
  have h2 : Keeps r s2 := pred_foldl (P := Keeps r) _ (fun _ h3 x4 => Keeps.ring h3 _ _) _ ha1
  exact State.setFld_keeps h2 ..

theorem State.ohiGram_keeps {r} {a1} (ha1 : Keeps r a1) (a2 a3 a4 a5 a6) : Keeps r (State.ohiGram a1 a2 a3 a4 a5 a6) := by
  unfold State.ohiGram
  extract_lets +onlyGivenNames _ _ _ _
  split
  · exact State.bump_keeps ha1 ..
  · refine pred_ite (P := Keeps r) (State.bump_keeps ha1 ..) ?_
    extract_lets +onlyGivenNames s5
    have h5 : Keeps r s5 := State.updSec_keeps ha1 ..
    refine pred_ite (P := Keeps r) (State.bump_keeps h5 ..) ?_
    refine pred_ite (P := Keeps r) h5 ?_
    refine pred_ite (P := Keeps r) (State.bump_keeps h5 ..) ?_
    extract_lets +onlyGivenNames _ _ s8
    have h8 : Keeps r s8 := Keeps.of h5 rfl
    exact State.pump_keeps (State.ringEntries_keeps h8 ..) ..

theorem execOhiDatagram_keeps {r} {a6} (ha6 : Keeps r a6) (a1 a2 a3 a4 a5) : KeepsX r (execOhiDatagram a1 a2 a3 a4 a5 a6) := by
  unfold execOhiDatagram
  exact KeepsX.mk (pred_ite (P := Keeps r) (State.ohiGram_keeps ha6 ..) ha6)

theorem State.mgmtFrame_keeps {r} {a1} (ha1 : Keeps r a1) (a2 a3) : Keeps r (State.mgmtFrame a1 a2 a3) := by
  unfold State.mgmtFrame
  extract_lets +onlyGivenNames _
  refine pred_ite (P := Keeps r) (State.arpReply_keeps ha1 ..) ?_
  refine pred_ite (P := Keeps r) ?_ ha1
  extract_lets +onlyGivenNames _
  exact pred_ite (P := Keeps r) (State.bump_keeps ha1 ..) (State.ohiGram_keeps ha1 ..)

theorem State.classify_keeps {r} {a1} (ha1 : Keeps r a1) (a2 a3 a4) : Keeps r (State.classify a1 a2 a3 a4) := by
  unfold State.classify
  extract_lets +onlyGivenNames _
  refine pred_ite (P := Keeps r) (State.bump_keeps ha1 ..) ?_
  refine pred_ite (P := Keeps r) (pred_ite (P := Keeps r) (State.ptpMessage_keeps ha1 ..) (pred_ite (P := Keeps r) ha1
      (State.bump_keeps ha1 ..))) ?_
  split
  · exact pred_ite (P := Keeps r) (State.mgmtFrame_keeps ha1 ..) (State.bump_keeps ha1 ..)
  · split
    · exact State.bump_keeps ha1 ..
    · exact pred_ite (P := Keeps r) (State.gooseIn_keeps ha1 ..) (pred_ite (P := Keeps r) (State.handoverIn_keeps ha1 ..)
          (State.bump_keeps ha1 ..))

theorem State.frameIn_keeps {r} {a1} (ha1 : Keeps r a1) (a2 a3 a4) : Keeps r (State.frameIn a1 a2 a3 a4) := by
  unfold State.frameIn
  extract_lets +onlyGivenNames _
  refine pred_ite (P := Keeps r) (State.bump_keeps ha1 ..) ?_
  refine pred_ite (P := Keeps r) (State.bump_keeps ha1 ..) ?_
  refine pred_ite (P := Keeps r) (State.bump_keeps ha1 ..) ?_
  refine pred_ite (P := Keeps r) (State.classify_keeps ha1 ..) ?_
  split
  · rename_i e2
    have h2 := Keeps2.out (r := r) e2 (State.prpIn_keeps ha1 ..)
    exact h2
  · rename_i e3
    have h3 := Keeps2.out (r := r) e3 (State.prpIn_keeps ha1 ..)
    exact State.classify_keeps h3 ..

theorem execHostFrameRx_keeps {r} {a5} (ha5 : Keeps r a5) (a1 a2 a3 a4) : KeepsX r (execHostFrameRx a1 a2 a3 a4 a5) := by
  unfold execHostFrameRx
  refine KeepsX.mk ?_
  refine pred_ite (P := Keeps r) ha5 ?_
  extract_lets +onlyGivenNames s1
  have h1 : Keeps r s1 := Keeps.of ha5 rfl
  exact pred_ite (P := Keeps r) (State.frameIn_keeps h1 ..) (State.bump_keeps h1 ..)

end Sys2Proof.Machine
end

