-- ==== Sys2Proof/Laws/PerInstr.lean ====
section
/-! SUPPORT. A family over every command: the ring entry of a well-formed one fits its place (R78). -/

namespace Sys2Proof.Laws.Entry

set_option Elab.async false
set_option linter.unusedSimpArgs false

open Sys2Proof Sys2Proof.Machine

/-- The arguments of a command's ring entry fit its 56 bytes, its issuer is one of 16 panels and its tag has 16 bits. -/
def Statement (i : Instr) : Prop :=
  i.wf = true → ∀ (c : Cmd) (op : Nat) (args : List Byte), instrEntry i = some (c, op, args) →
    args.length ≤ 56 ∧ c.pnl < 16 ∧ c.tag < 65536

theorem patternBegin (c : Cmd) (kind : Nat) (panel : Nat) : Statement (.patternBegin c kind panel) := by
  intro hw c' op' args' h
  simp only [instrEntry, Option.some.injEq, Prod.mk.injEq] at h
  obtain ⟨rfl, rfl, rfl⟩ := h
  simp [Instr.wf, cmdOk, under, fits, bytesOk, wordsOk, byteWords, length_words] at hw ⊢
  omega

theorem patternData (c : Cmd) (off : Nat) (data : List Byte) : Statement (.patternData c off data) := by
  intro hw c' op' args' h
  simp only [instrEntry, Option.some.injEq, Prod.mk.injEq] at h
  obtain ⟨rfl, rfl, rfl⟩ := h
  simp [Instr.wf, cmdOk, under, fits, bytesOk, wordsOk, byteWords, length_words] at hw ⊢
  omega

theorem patternCommit (c : Cmd) : Statement (.patternCommit c) := by
  intro hw c' op' args' h
  simp only [instrEntry, Option.some.injEq, Prod.mk.injEq] at h
  obtain ⟨rfl, rfl, rfl⟩ := h
  simp [Instr.wf, cmdOk, under, fits, bytesOk, wordsOk, byteWords, length_words] at hw ⊢
  omega

theorem patternAbort (c : Cmd) : Statement (.patternAbort c) := by
  intro hw c' op' args' h
  simp only [instrEntry, Option.some.injEq, Prod.mk.injEq] at h
  obtain ⟨rfl, rfl, rfl⟩ := h
  simp [Instr.wf, cmdOk, under, fits, bytesOk, wordsOk, byteWords, length_words] at hw ⊢
  omega

theorem patternStore (c : Cmd) (slot : Nat) : Statement (.patternStore c slot) := by
  intro hw c' op' args' h
  simp only [instrEntry, Option.some.injEq, Prod.mk.injEq] at h
  obtain ⟨rfl, rfl, rfl⟩ := h
  simp [Instr.wf, cmdOk, under, fits, bytesOk, wordsOk, byteWords, length_words] at hw ⊢
  omega

theorem featureAccept (c : Cmd) (w0 : Nat) (w1 : Nat) (w2 : Nat) (w3 : Nat) : Statement (.featureAccept c w0 w1 w2 w3) := by
  intro hw c' op' args' h
  simp only [instrEntry, Option.some.injEq, Prod.mk.injEq] at h
  obtain ⟨rfl, rfl, rfl⟩ := h
  simp [Instr.wf, cmdOk, under, fits, bytesOk, wordsOk, byteWords, length_words] at hw ⊢
  omega

theorem patternQuery (c : Cmd) : Statement (.patternQuery c) := by
  intro hw c' op' args' h
  simp only [instrEntry, Option.some.injEq, Prod.mk.injEq] at h
  obtain ⟨rfl, rfl, rfl⟩ := h
  simp [Instr.wf, cmdOk, under, fits, bytesOk, wordsOk, byteWords, length_words] at hw ⊢
  omega

theorem loaderVerifyDone : Statement .loaderVerifyDone :=
  fun _ _ _ _ h => nomatch h

theorem loaderCheckDone : Statement .loaderCheckDone :=
  fun _ _ _ _ h => nomatch h

theorem patternSeal : Statement .patternSeal :=
  fun _ _ _ _ h => nomatch h

theorem panelPatternEffect (panel : Nat) : Statement (.panelPatternEffect panel) :=
  fun _ _ _ _ h => nomatch h

theorem patternStoreDone (readBack : Bool) : Statement (.patternStoreDone readBack) :=
  fun _ _ _ _ h => nomatch h

theorem flashPatternLoad : Statement .flashPatternLoad :=
  fun _ _ _ _ h => nomatch h

theorem ringDoorbell (p : Nat) (word : Nat) : Statement (.ringDoorbell p word) :=
  fun _ _ _ _ h => nomatch h

theorem ohiDatagram (header : List Byte) (cipher : List Byte) (tag : List Byte) (srcIp : Nat) (srcPort : Nat)
    : Statement (.ohiDatagram header cipher tag srcIp srcPort) :=
  fun _ _ _ _ h => nomatch h

theorem spiTransaction (write : Bool) (p : Nat) (addr : Nat) (count : Nat) (words : List Nat)
    : Statement (.spiTransaction write p addr count words) :=
  fun _ _ _ _ h => nomatch h

theorem spiCsEarlyRise (write : Bool) (p : Nat) (addr : Nat) (words : List Nat) (partialBits : Nat)
    : Statement (.spiCsEarlyRise write p addr words partialBits) :=
  fun _ _ _ _ h => nomatch h

theorem registerWrite (p : Nat) (addr : Nat) (w : Nat) : Statement (.registerWrite p addr w) :=
  fun _ _ _ _ h => nomatch h

theorem groupRead (p : Nat) (addr : Nat) : Statement (.groupRead p addr) :=
  fun _ _ _ _ h => nomatch h

theorem rcFieldRead (p : Nat) (addr : Nat) (incs : List Nat) : Statement (.rcFieldRead p addr incs) :=
  fun _ _ _ _ h => nomatch h

theorem w1cWrite (p : Nat) (addr : Nat) (w : Nat) (hwSet : Nat) : Statement (.w1cWrite p addr w hwSet) :=
  fun _ _ _ _ h => nomatch h

theorem featAcceptWrite (p : Nat) (w0 : Nat) (w1 : Nat) (w2 : Nat) (w3 : Nat) : Statement (.featAcceptWrite p w0 w1 w2 w3) :=
  fun _ _ _ _ h => nomatch h

theorem evtPnlRdWrite (p : Nat) (target : Nat) (idx : Nat) : Statement (.evtPnlRdWrite p target idx) :=
  fun _ _ _ _ h => nomatch h

theorem telStatusRead (p : Nat) : Statement (.telStatusRead p) :=
  fun _ _ _ _ h => nomatch h

theorem serRxDataRead (p : Nat) (port : Nat) : Statement (.serRxDataRead p port) :=
  fun _ _ _ _ h => nomatch h

theorem serTxDataWrite (p : Nat) (port : Nat) (data : Nat) : Statement (.serTxDataWrite p port data) :=
  fun _ _ _ _ h => nomatch h

theorem serDivWrite (p : Nat) (port : Nat) (div : Nat) : Statement (.serDivWrite p port div) :=
  fun _ _ _ _ h => nomatch h

theorem chnStart (c : Cmd) (ch : Nat) : Statement (.chnStart c ch) := by
  intro hw c' op' args' h
  simp only [instrEntry, Option.some.injEq, Prod.mk.injEq] at h
  obtain ⟨rfl, rfl, rfl⟩ := h
  simp [Instr.wf, cmdOk, under, fits, bytesOk, wordsOk, byteWords, length_words] at hw ⊢
  omega

theorem chnStop (c : Cmd) (ch : Nat) : Statement (.chnStop c ch) := by
  intro hw c' op' args' h
  simp only [instrEntry, Option.some.injEq, Prod.mk.injEq] at h
  obtain ⟨rfl, rfl, rfl⟩ := h
  simp [Instr.wf, cmdOk, under, fits, bytesOk, wordsOk, byteWords, length_words] at hw ⊢
  omega

theorem chnQuiet (c : Cmd) (ch : Nat) : Statement (.chnQuiet c ch) := by
  intro hw c' op' args' h
  simp only [instrEntry, Option.some.injEq, Prod.mk.injEq] at h
  obtain ⟨rfl, rfl, rfl⟩ := h
  simp [Instr.wf, cmdOk, under, fits, bytesOk, wordsOk, byteWords, length_words] at hw ⊢
  omega

theorem chnResume (c : Cmd) (ch : Nat) : Statement (.chnResume c ch) := by
  intro hw c' op' args' h
  simp only [instrEntry, Option.some.injEq, Prod.mk.injEq] at h
  obtain ⟨rfl, rfl, rfl⟩ := h
  simp [Instr.wf, cmdOk, under, fits, bytesOk, wordsOk, byteWords, length_words] at hw ⊢
  omega

theorem chnRetrain (c : Cmd) (ch : Nat) : Statement (.chnRetrain c ch) := by
  intro hw c' op' args' h
  simp only [instrEntry, Option.some.injEq, Prod.mk.injEq] at h
  obtain ⟨rfl, rfl, rfl⟩ := h
  simp [Instr.wf, cmdOk, under, fits, bytesOk, wordsOk, byteWords, length_words] at hw ⊢
  omega

theorem chnSetCoupling (c : Cmd) (ch : Nat) (mode : Nat) : Statement (.chnSetCoupling c ch mode) := by
  intro hw c' op' args' h
  simp only [instrEntry, Option.some.injEq, Prod.mk.injEq] at h
  obtain ⟨rfl, rfl, rfl⟩ := h
  simp [Instr.wf, cmdOk, under, fits, bytesOk, wordsOk, byteWords, length_words] at hw ⊢
  omega

theorem chnSetRole (c : Cmd) (ch : Nat) (role : Nat) : Statement (.chnSetRole c ch role) := by
  intro hw c' op' args' h
  simp only [instrEntry, Option.some.injEq, Prod.mk.injEq] at h
  obtain ⟨rfl, rfl, rfl⟩ := h
  simp [Instr.wf, cmdOk, under, fits, bytesOk, wordsOk, byteWords, length_words] at hw ⊢
  omega

theorem chnQuery (c : Cmd) (ch : Nat) : Statement (.chnQuery c ch) := by
  intro hw c' op' args' h
  simp only [instrEntry, Option.some.injEq, Prod.mk.injEq] at h
  obtain ⟨rfl, rfl, rfl⟩ := h
  simp [Instr.wf, cmdOk, under, fits, bytesOk, wordsOk, byteWords, length_words] at hw ⊢
  omega

theorem trainTimeout (ch : Nat) : Statement (.trainTimeout ch) :=
  fun _ _ _ _ h => nomatch h

theorem faultAutoRearm (ch : Nat) : Statement (.faultAutoRearm ch) :=
  fun _ _ _ _ h => nomatch h

theorem gridSlotBoundary : Statement .gridSlotBoundary :=
  fun _ _ _ _ h => nomatch h

theorem hemBoundary : Statement .hemBoundary :=
  fun _ _ _ _ h => nomatch h

theorem hemMapFix : Statement .hemMapFix :=
  fun _ _ _ _ h => nomatch h

theorem mainsCrossing (gauge : Bool) (tick : Nat) : Statement (.mainsCrossing gauge tick) :=
  fun _ _ _ _ h => nomatch h

theorem sourceTimeout (gauge : Bool) : Statement (.sourceTimeout gauge) :=
  fun _ _ _ _ h => nomatch h

theorem transmitCommit : Statement .transmitCommit :=
  fun _ _ _ _ h => nomatch h

theorem contentionCycleEnd (ch : Nat) : Statement (.contentionCycleEnd ch) :=
  fun _ _ _ _ h => nomatch h

theorem frameLaunch (ch : Nat) : Statement (.frameLaunch ch) :=
  fun _ _ _ _ h => nomatch h

theorem ackMissing (ch : Nat) : Statement (.ackMissing ch) :=
  fun _ _ _ _ h => nomatch h

theorem liIdleFill (ch : Nat) : Statement (.liIdleFill ch) :=
  fun _ _ _ _ h => nomatch h

theorem energyTrigger (ch : Nat) (tick : Nat) : Statement (.energyTrigger ch tick) :=
  fun _ _ _ _ h => nomatch h

theorem qualifierPass (ch : Nat) (tick : Nat) : Statement (.qualifierPass ch tick) :=
  fun _ _ _ _ h => nomatch h

theorem qualFail (ch : Nat) : Statement (.qualFail ch) :=
  fun _ _ _ _ h => nomatch h

theorem syncPoint (ch : Nat) (tick : Nat) : Statement (.syncPoint ch tick) :=
  fun _ _ _ _ h => nomatch h

theorem detectorRearm (ch : Nat) : Statement (.detectorRearm ch) :=
  fun _ _ _ _ h => nomatch h

theorem frameControlRx (ch : Nat) (len : Nat) : Statement (.frameControlRx ch len) :=
  fun _ _ _ _ h => nomatch h

theorem symbolRx (ch : Nat) : Statement (.symbolRx ch) :=
  fun _ _ _ _ h => nomatch h

theorem stepRebaseEnd (ch : Nat) : Statement (.stepRebaseEnd ch) :=
  fun _ _ _ _ h => nomatch h

theorem decodeComplete (pool : Nat) (unit : Nat) : Statement (.decodeComplete pool unit) :=
  fun _ _ _ _ h => nomatch h

theorem decodeDrop : Statement .decodeDrop :=
  fun _ _ _ _ h => nomatch h

theorem dataFrameRx (ch : Nat) : Statement (.dataFrameRx ch) :=
  fun _ _ _ _ h => nomatch h

theorem ackSend (ch : Nat) : Statement (.ackSend ch) :=
  fun _ _ _ _ h => nomatch h

theorem ackRx (ch : Nat) : Statement (.ackRx ch) :=
  fun _ _ _ _ h => nomatch h

theorem floodFrameRx (ch : Nat) : Statement (.floodFrameRx ch) :=
  fun _ _ _ _ h => nomatch h

theorem beaconRx (ch : Nat) : Statement (.beaconRx ch) :=
  fun _ _ _ _ h => nomatch h

theorem soundRx (ch : Nat) : Statement (.soundRx ch) :=
  fun _ _ _ _ h => nomatch h

theorem mapRx (ch : Nat) (src : Nat) (msg : List Byte) : Statement (.mapRx ch src msg) :=
  fun _ _ _ _ h => nomatch h

theorem mapNakRx (ch : Nat) (src : Nat) (msg : List Byte) : Statement (.mapNakRx ch src msg) :=
  fun _ _ _ _ h => nomatch h

theorem soundReqRx (ch : Nat) (src : Nat) (msg : List Byte) : Statement (.soundReqRx ch src msg) :=
  fun _ _ _ _ h => nomatch h

theorem invalidateAllRx (ch : Nat) (src : Nat) (msg : List Byte) : Statement (.invalidateAllRx ch src msg) :=
  fun _ _ _ _ h => nomatch h

theorem fallbackRx (ch : Nat) (src : Nat) (msg : List Byte) : Statement (.fallbackRx ch src msg) :=
  fun _ _ _ _ h => nomatch h

theorem soundTimeout (ch : Nat) : Statement (.soundTimeout ch) :=
  fun _ _ _ _ h => nomatch h

theorem toneMapRetire (ch : Nat) : Statement (.toneMapRetire ch) :=
  fun _ _ _ _ h => nomatch h

theorem tmRefresh (ch : Nat) : Statement (.tmRefresh ch) :=
  fun _ _ _ _ h => nomatch h

theorem errorReportRx (ch : Nat) (msg : List Byte) : Statement (.errorReportRx ch msg) :=
  fun _ _ _ _ h => nomatch h

theorem errReportDeadline (ch : Nat) (t : Nat) : Statement (.errReportDeadline ch t) :=
  fun _ _ _ _ h => nomatch h

theorem pairHoldExpiry (cls : Nat) (victim : Nat) (slot : Nat) : Statement (.pairHoldExpiry cls victim slot) :=
  fun _ _ _ _ h => nomatch h

theorem olaPairQuery (c : Cmd) (cls : Nat) (v : Nat) (slot : Nat) : Statement (.olaPairQuery c cls v slot) := by
  intro hw c' op' args' h
  simp only [instrEntry, Option.some.injEq, Prod.mk.injEq] at h
  obtain ⟨rfl, rfl, rfl⟩ := h
  simp [Instr.wf, cmdOk, under, fits, bytesOk, wordsOk, byteWords, length_words] at hw ⊢
  omega

theorem olaVictimReset (c : Cmd) (cls : Nat) (v : Nat) : Statement (.olaVictimReset c cls v) := by
  intro hw c' op' args' h
  simp only [instrEntry, Option.some.injEq, Prod.mk.injEq] at h
  obtain ⟨rfl, rfl, rfl⟩ := h
  simp [Instr.wf, cmdOk, under, fits, bytesOk, wordsOk, byteWords, length_words] at hw ⊢
  omega

theorem olaCoefRead (c : Cmd) (cls : Nat) (v : Nat) (slot : Nat) (carrier : Nat) (count : Nat)
    : Statement (.olaCoefRead c cls v slot carrier count) := by
  intro hw c' op' args' h
  simp only [instrEntry, Option.some.injEq, Prod.mk.injEq] at h
  obtain ⟨rfl, rfl, rfl⟩ := h
  simp [Instr.wf, cmdOk, under, fits, bytesOk, wordsOk, byteWords, length_words] at hw ⊢
  omega

theorem olaCoefWrite (c : Cmd) (cls : Nat) (v : Nat) (slot : Nat) (carrier : Nat) (words : List Nat)
    : Statement (.olaCoefWrite c cls v slot carrier words) := by
  intro hw c' op' args' h
  simp only [instrEntry, Option.some.injEq, Prod.mk.injEq] at h
  obtain ⟨rfl, rfl, rfl⟩ := h
  simp [Instr.wf, cmdOk, under, fits, bytesOk, wordsOk, byteWords, length_words] at hw ⊢
  omega

theorem messageHandover (ch : Nat) : Statement (.messageHandover ch) :=
  fun _ _ _ _ h => nomatch h

theorem segmentDeadline (ch : Nat) : Statement (.segmentDeadline ch) :=
  fun _ _ _ _ h => nomatch h

theorem rxMessageDiscard : Statement .rxMessageDiscard :=
  fun _ _ _ _ h => nomatch h

theorem qAgeDrop (panel : Nat) (q : Nat) : Statement (.qAgeDrop panel q) :=
  fun _ _ _ _ h => nomatch h

theorem seenEntryExpiry : Statement .seenEntryExpiry :=
  fun _ _ _ _ h => nomatch h

theorem send (p : Nat) (q : Nat) (msg : List Byte) : Statement (.send p q msg) :=
  fun _ _ _ _ h => nomatch h

theorem flood (p : Nat) (q : Nat) (msg : List Byte) : Statement (.flood p q msg) :=
  fun _ _ _ _ h => nomatch h

theorem hostFrameRx (port : Nat) (frame : List Byte) (fcsOk : Bool) (tick : Nat)
    : Statement (.hostFrameRx port frame fcsOk tick) :=
  fun _ _ _ _ h => nomatch h

theorem arpRequest (port : Nat) (vid : Nat) (frame : List Byte) : Statement (.arpRequest port vid frame) :=
  fun _ _ _ _ h => nomatch h

theorem prpSupervisionRx (port : Nat) (frame : List Byte) : Statement (.prpSupervisionRx port frame) :=
  fun _ _ _ _ h => nomatch h

theorem prpSupervisionSend : Statement .prpSupervisionSend :=
  fun _ _ _ _ h => nomatch h

theorem hostLinkChange (port : Nat) (up : Bool) : Statement (.hostLinkChange port up) :=
  fun _ _ _ _ h => nomatch h

theorem ethernetEgress (port : Nat) : Statement (.ethernetEgress port) :=
  fun _ _ _ _ h => nomatch h

theorem launchTimeFrame (port : Nat) (tick : Nat) : Statement (.launchTimeFrame port tick) :=
  fun _ _ _ _ h => nomatch h

theorem sync (port : Nat) (msg : PtpMsg) (tIn : Nat) (suspect : Bool) : Statement (.sync port msg tIn suspect) :=
  fun _ _ _ _ h => nomatch h

theorem followUp (port : Nat) (msg : PtpMsg) (tIn : Nat) (suspect : Bool) : Statement (.followUp port msg tIn suspect) :=
  fun _ _ _ _ h => nomatch h

theorem pdelayReq (port : Nat) (msg : PtpMsg) (tIn : Nat) (suspect : Bool) : Statement (.pdelayReq port msg tIn suspect) :=
  fun _ _ _ _ h => nomatch h

theorem pdelayResp (port : Nat) (msg : PtpMsg) (tIn : Nat) (suspect : Bool) : Statement (.pdelayResp port msg tIn suspect) :=
  fun _ _ _ _ h => nomatch h

theorem pdelayRespFollowUp (port : Nat) (msg : PtpMsg) (tIn : Nat) (suspect : Bool)
    : Statement (.pdelayRespFollowUp port msg tIn suspect) :=
  fun _ _ _ _ h => nomatch h

theorem announce (port : Nat) (msg : PtpMsg) (tIn : Nat) (suspect : Bool) : Statement (.announce port msg tIn suspect) :=
  fun _ _ _ _ h => nomatch h

theorem signaling (port : Nat) (msg : PtpMsg) (tIn : Nat) (suspect : Bool) : Statement (.signaling port msg tIn suspect) :=
  fun _ _ _ _ h => nomatch h

theorem management (port : Nat) (msg : PtpMsg) (tIn : Nat) (suspect : Bool) : Statement (.management port msg tIn suspect) :=
  fun _ _ _ _ h => nomatch h

theorem pdelayInterval (port : Nat) : Statement (.pdelayInterval port) :=
  fun _ _ _ _ h => nomatch h

theorem heldCorrectionExpiry : Statement .heldCorrectionExpiry :=
  fun _ _ _ _ h => nomatch h

theorem ppsInEdge (tick16 : Nat) : Statement (.ppsInEdge tick16) :=
  fun _ _ _ _ h => nomatch h

theorem timebaseLossTimeout (k : Nat) : Statement (.timebaseLossTimeout k) :=
  fun _ _ _ _ h => nomatch h

theorem slewEnd (pair : Nat) : Statement (.slewEnd pair) :=
  fun _ _ _ _ h => nomatch h

theorem ppsOutEdge (tick : Nat) : Statement (.ppsOutEdge tick) :=
  fun _ _ _ _ h => nomatch h

theorem todTxLine : Statement .todTxLine :=
  fun _ _ _ _ h => nomatch h

theorem timQuery (c : Cmd) (tb : Nat) : Statement (.timQuery c tb) := by
  intro hw c' op' args' h
  simp only [instrEntry, Option.some.injEq, Prod.mk.injEq] at h
  obtain ⟨rfl, rfl, rfl⟩ := h
  simp [Instr.wf, cmdOk, under, fits, bytesOk, wordsOk, byteWords, length_words] at hw ⊢
  omega

theorem timSet (c : Cmd) (tb : Nat) (sec : Nat) (ns : Nat) (rate : Nat) : Statement (.timSet c tb sec ns rate) := by
  intro hw c' op' args' h
  simp only [instrEntry, Option.some.injEq, Prod.mk.injEq] at h
  obtain ⟨rfl, rfl, rfl⟩ := h
  simp [Instr.wf, cmdOk, under, fits, bytesOk, wordsOk, byteWords, length_words] at hw ⊢
  omega

theorem timFeed (c : Cmd) (tb : Nat) (off : Nat) : Statement (.timFeed c tb off) := by
  intro hw c' op' args' h
  simp only [instrEntry, Option.some.injEq, Prod.mk.injEq] at h
  obtain ⟨rfl, rfl, rfl⟩ := h
  simp [Instr.wf, cmdOk, under, fits, bytesOk, wordsOk, byteWords, length_words] at hw ⊢
  omega

theorem timPairSelect (c : Cmd) (tb : Nat) (which : Nat) : Statement (.timPairSelect c tb which) := by
  intro hw c' op' args' h
  simp only [instrEntry, Option.some.injEq, Prod.mk.injEq] at h
  obtain ⟨rfl, rfl, rfl⟩ := h
  simp [Instr.wf, cmdOk, under, fits, bytesOk, wordsOk, byteWords, length_words] at hw ⊢
  omega

theorem timAt (c : Cmd) (tb : Nat) (tick : Nat) : Statement (.timAt c tb tick) := by
  intro hw c' op' args' h
  simp only [instrEntry, Option.some.injEq, Prod.mk.injEq] at h
  obtain ⟨rfl, rfl, rfl⟩ := h
  simp [Instr.wf, cmdOk, under, fits, bytesOk, wordsOk, byteWords, length_words] at hw ⊢
  omega

theorem upstreamFrame (lane : Nat) (bits : BitVec 5600) : Statement (.upstreamFrame lane bits) :=
  fun _ _ _ _ h => nomatch h

theorem frameLock (lane : Nat) : Statement (.frameLock lane) :=
  fun _ _ _ _ h => nomatch h

theorem frameLockLost (lane : Nat) : Statement (.frameLockLost lane) :=
  fun _ _ _ _ h => nomatch h

theorem lossOfSignal (lane : Nat) : Statement (.lossOfSignal lane) :=
  fun _ _ _ _ h => nomatch h

theorem readRsp (lane : Nat) (tag : Nat) (addr : Nat) (data : Nat) : Statement (.readRsp lane tag addr data) :=
  fun _ _ _ _ h => nomatch h

theorem writeAck (lane : Nat) (tag : Nat) (addr : Nat) : Statement (.writeAck lane tag addr) :=
  fun _ _ _ _ h => nomatch h

theorem nak (lane : Nat) (tag : Nat) (cause : Nat) : Statement (.nak lane tag cause) :=
  fun _ _ _ _ h => nomatch h

theorem event (lane : Nat) (code : Nat) : Statement (.event lane code) :=
  fun _ _ _ _ h => nomatch h

theorem controlRepeat (lane : Nat) (tag : Nat) : Statement (.controlRepeat lane tag) :=
  fun _ _ _ _ h => nomatch h

theorem couplingTimeout (ch : Nat) : Statement (.couplingTimeout ch) :=
  fun _ _ _ _ h => nomatch h

theorem laneRecalculate (lane : Nat) (rtts : List Nat) : Statement (.laneRecalculate lane rtts) :=
  fun _ _ _ _ h => nomatch h

theorem alignmentDelayFix : Statement .alignmentDelayFix :=
  fun _ _ _ _ h => nomatch h

theorem laneFaultRetry (lane : Nat) : Statement (.laneFaultRetry lane) :=
  fun _ _ _ _ h => nomatch h

theorem hlkQuery (c : Cmd) (lane : Nat) : Statement (.hlkQuery c lane) := by
  intro hw c' op' args' h
  simp only [instrEntry, Option.some.injEq, Prod.mk.injEq] at h
  obtain ⟨rfl, rfl, rfl⟩ := h
  simp [Instr.wf, cmdOk, under, fits, bytesOk, wordsOk, byteWords, length_words] at hw ⊢
  omega

theorem hlkHeadRead (c : Cmd) (lane : Nat) (addr : Nat) : Statement (.hlkHeadRead c lane addr) := by
  intro hw c' op' args' h
  simp only [instrEntry, Option.some.injEq, Prod.mk.injEq] at h
  obtain ⟨rfl, rfl, rfl⟩ := h
  simp [Instr.wf, cmdOk, under, fits, bytesOk, wordsOk, byteWords, length_words] at hw ⊢
  omega

theorem hlkHeadWrite (c : Cmd) (lane : Nat) (addr : Nat) (data : Nat) : Statement (.hlkHeadWrite c lane addr data) := by
  intro hw c' op' args' h
  simp only [instrEntry, Option.some.injEq, Prod.mk.injEq] at h
  obtain ⟨rfl, rfl, rfl⟩ := h
  simp [Instr.wf, cmdOk, under, fits, bytesOk, wordsOk, byteWords, length_words] at hw ⊢
  omega

theorem hlkRealign (c : Cmd) (lane : Nat) : Statement (.hlkRealign c lane) := by
  intro hw c' op' args' h
  simp only [instrEntry, Option.some.injEq, Prod.mk.injEq] at h
  obtain ⟨rfl, rfl, rfl⟩ := h
  simp [Instr.wf, cmdOk, under, fits, bytesOk, wordsOk, byteWords, length_words] at hw ⊢
  omega

theorem gaugeSampleDeadline (ch : Nat) (path : Nat) (period : Nat) : Statement (.gaugeSampleDeadline ch path period) :=
  fun _ _ _ _ h => nomatch h

theorem chainOutput (ch : Nat) (chain : Nat) : Statement (.chainOutput ch chain) :=
  fun _ _ _ _ h => nomatch h

theorem excitationInterval (ch : Nat) (start : Bool) : Statement (.excitationInterval ch start) :=
  fun _ _ _ _ h => nomatch h

theorem checkDue (ch : Nat) : Statement (.checkDue ch) :=
  fun _ _ _ _ h => nomatch h

theorem gauQuery (c : Cmd) (ch : Nat) : Statement (.gauQuery c ch) := by
  intro hw c' op' args' h
  simp only [instrEntry, Option.some.injEq, Prod.mk.injEq] at h
  obtain ⟨rfl, rfl, rfl⟩ := h
  simp [Instr.wf, cmdOk, under, fits, bytesOk, wordsOk, byteWords, length_words] at hw ⊢
  omega

theorem gauCheck (c : Cmd) (ch : Nat) : Statement (.gauCheck c ch) := by
  intro hw c' op' args' h
  simp only [instrEntry, Option.some.injEq, Prod.mk.injEq] at h
  obtain ⟨rfl, rfl, rfl⟩ := h
  simp [Instr.wf, cmdOk, under, fits, bytesOk, wordsOk, byteWords, length_words] at hw ⊢
  omega

theorem gauCalibrate (c : Cmd) (ch : Nat) (args : List Nat) : Statement (.gauCalibrate c ch args) := by
  intro hw c' op' args' h
  simp only [instrEntry, Option.some.injEq, Prod.mk.injEq] at h
  obtain ⟨rfl, rfl, rfl⟩ := h
  simp [Instr.wf, cmdOk, under, fits, bytesOk, wordsOk, byteWords, length_words] at hw ⊢
  omega

theorem gauExcite (c : Cmd) (ch : Nat) (args : List Nat) : Statement (.gauExcite c ch args) := by
  intro hw c' op' args' h
  simp only [instrEntry, Option.some.injEq, Prod.mk.injEq] at h
  obtain ⟨rfl, rfl, rfl⟩ := h
  simp [Instr.wf, cmdOk, under, fits, bytesOk, wordsOk, byteWords, length_words] at hw ⊢
  omega

theorem blankEdge (i : Nat) (rising : Bool) (tick : Nat) : Statement (.blankEdge i rising tick) :=
  fun _ _ _ _ h => nomatch h

theorem blankExtensionEnd (i : Nat) : Statement (.blankExtensionEnd i) :=
  fun _ _ _ _ h => nomatch h

theorem armExpiry (ch : Nat) : Statement (.armExpiry ch) :=
  fun _ _ _ _ h => nomatch h

theorem wavefrontArrival (ch : Nat) (tick : Nat) : Statement (.wavefrontArrival ch tick) :=
  fun _ _ _ _ h => nomatch h

theorem deadTimeEnd (ch : Nat) : Statement (.deadTimeEnd ch) :=
  fun _ _ _ _ h => nomatch h

theorem regionCollected (r : Nat) : Statement (.regionCollected r) :=
  fun _ _ _ _ h => nomatch h

theorem exportMessage (r : Nat) : Statement (.exportMessage r) :=
  fun _ _ _ _ h => nomatch h

theorem srgQuery (c : Cmd) (r : Nat) : Statement (.srgQuery c r) := by
  intro hw c' op' args' h
  simp only [instrEntry, Option.some.injEq, Prod.mk.injEq] at h
  obtain ⟨rfl, rfl, rfl⟩ := h
  simp [Instr.wf, cmdOk, under, fits, bytesOk, wordsOk, byteWords, length_words] at hw ⊢
  omega

theorem srgFreeze (c : Cmd) (args : List Nat) : Statement (.srgFreeze c args) := by
  intro hw c' op' args' h
  simp only [instrEntry, Option.some.injEq, Prod.mk.injEq] at h
  obtain ⟨rfl, rfl, rfl⟩ := h
  simp [Instr.wf, cmdOk, under, fits, bytesOk, wordsOk, byteWords, length_words] at hw ⊢
  omega

theorem srgExport (c : Cmd) (args : List Nat) : Statement (.srgExport c args) := by
  intro hw c' op' args' h
  simp only [instrEntry, Option.some.injEq, Prod.mk.injEq] at h
  obtain ⟨rfl, rfl, rfl⟩ := h
  simp [Instr.wf, cmdOk, under, fits, bytesOk, wordsOk, byteWords, length_words] at hw ⊢
  omega

theorem srgRelease (c : Cmd) (r : Nat) : Statement (.srgRelease c r) := by
  intro hw c' op' args' h
  simp only [instrEntry, Option.some.injEq, Prod.mk.injEq] at h
  obtain ⟨rfl, rfl, rfl⟩ := h
  simp [Instr.wf, cmdOk, under, fits, bytesOk, wordsOk, byteWords, length_words] at hw ⊢
  omega

theorem srgArrivalRead (c : Cmd) (index : Nat) : Statement (.srgArrivalRead c index) := by
  intro hw c' op' args' h
  simp only [instrEntry, Option.some.injEq, Prod.mk.injEq] at h
  obtain ⟨rfl, rfl, rfl⟩ := h
  simp [Instr.wf, cmdOk, under, fits, bytesOk, wordsOk, byteWords, length_words] at hw ⊢
  omega

theorem serialCharacterRx (port : Nat) (data : Nat) (falseStart : Bool) (parityOk : Bool) (stopOk : Bool) (tick : Nat)
    : Statement (.serialCharacterRx port data falseStart parityOk stopOk tick) :=
  fun _ _ _ _ h => nomatch h

theorem framingRearm (port : Nat) : Statement (.framingRearm port) :=
  fun _ _ _ _ h => nomatch h

theorem serialGapClose (port : Nat) : Statement (.serialGapClose port) :=
  fun _ _ _ _ h => nomatch h

theorem serialCharacterTx (port : Nat) : Statement (.serialCharacterTx port) :=
  fun _ _ _ _ h => nomatch h

theorem deRelease (port : Nat) : Statement (.deRelease port) :=
  fun _ _ _ _ h => nomatch h

theorem oscStop (port : Nat) : Statement (.oscStop port) :=
  fun _ _ _ _ h => nomatch h

theorem serQuery (c : Cmd) (port : Nat) : Statement (.serQuery c port) := by
  intro hw c' op' args' h
  simp only [instrEntry, Option.some.injEq, Prod.mk.injEq] at h
  obtain ⟨rfl, rfl, rfl⟩ := h
  simp [Instr.wf, cmdOk, under, fits, bytesOk, wordsOk, byteWords, length_words] at hw ⊢
  omega

theorem serFlush (c : Cmd) (port : Nat) (which : Nat) : Statement (.serFlush c port which) := by
  intro hw c' op' args' h
  simp only [instrEntry, Option.some.injEq, Prod.mk.injEq] at h
  obtain ⟨rfl, rfl, rfl⟩ := h
  simp [Instr.wf, cmdOk, under, fits, bytesOk, wordsOk, byteWords, length_words] at hw ⊢
  omega

theorem contactChangeAccepted (i : Nat) : Statement (.contactChangeAccepted i) :=
  fun _ _ _ _ h => nomatch h

theorem commandRefresh (g : Nat) : Statement (.commandRefresh g) :=
  fun _ _ _ _ h => nomatch h

theorem commandMessage (g : Nat) (msg : List Byte) : Statement (.commandMessage g msg) :=
  fun _ _ _ _ h => nomatch h

theorem cmdWatch (i : Nat) : Statement (.cmdWatch i) :=
  fun _ _ _ _ h => nomatch h

theorem pulseEnd (i : Nat) : Statement (.pulseEnd i) :=
  fun _ _ _ _ h => nomatch h

theorem cmdForceEnd (i : Nat) : Statement (.cmdForceEnd i) :=
  fun _ _ _ _ h => nomatch h

theorem cmdQuery (c : Cmd) (i : Nat) : Statement (.cmdQuery c i) := by
  intro hw c' op' args' h
  simp only [instrEntry, Option.some.injEq, Prod.mk.injEq] at h
  obtain ⟨rfl, rfl, rfl⟩ := h
  simp [Instr.wf, cmdOk, under, fits, bytesOk, wordsOk, byteWords, length_words] at hw ⊢
  omega

theorem cmdForce (c : Cmd) (i : Nat) (state : Nat) (secs : Nat) : Statement (.cmdForce c i state secs) := by
  intro hw c' op' args' h
  simp only [instrEntry, Option.some.injEq, Prod.mk.injEq] at h
  obtain ⟨rfl, rfl, rfl⟩ := h
  simp [Instr.wf, cmdOk, under, fits, bytesOk, wordsOk, byteWords, length_words] at hw ⊢
  omega

theorem cmdRelease (c : Cmd) (i : Nat) : Statement (.cmdRelease c i) := by
  intro hw c' op' args' h
  simp only [instrEntry, Option.some.injEq, Prod.mk.injEq] at h
  obtain ⟨rfl, rfl, rfl⟩ := h
  simp [Instr.wf, cmdOk, under, fits, bytesOk, wordsOk, byteWords, length_words] at hw ⊢
  omega

theorem sleepReq (ch : Nat) (src : Nat) (msg : List Byte) : Statement (.sleepReq ch src msg) :=
  fun _ _ _ _ h => nomatch h

theorem syncingTimeout (r : Nat) : Statement (.syncingTimeout r) :=
  fun _ _ _ _ h => nomatch h

theorem wakeSyncRx (ch : Nat) : Statement (.wakeSyncRx ch) :=
  fun _ _ _ _ h => nomatch h

theorem wakeSyncReply (ch : Nat) : Statement (.wakeSyncReply ch) :=
  fun _ _ _ _ h => nomatch h

theorem listenWindowOpen (r : Nat) : Statement (.listenWindowOpen r) :=
  fun _ _ _ _ h => nomatch h

theorem listenWindowClose (r : Nat) : Statement (.listenWindowClose r) :=
  fun _ _ _ _ h => nomatch h

theorem wakeSequenceStart (r : Nat) : Statement (.wakeSequenceStart r) :=
  fun _ _ _ _ h => nomatch h

theorem wakeListenExpiry (r : Nat) : Statement (.wakeListenExpiry r) :=
  fun _ _ _ _ h => nomatch h

theorem awakeHoldExpiry (r : Nat) : Statement (.awakeHoldExpiry r) :=
  fun _ _ _ _ h => nomatch h

theorem drmQuery (c : Cmd) (r : Nat) : Statement (.drmQuery c r) := by
  intro hw c' op' args' h
  simp only [instrEntry, Option.some.injEq, Prod.mk.injEq] at h
  obtain ⟨rfl, rfl, rfl⟩ := h
  simp [Instr.wf, cmdOk, under, fits, bytesOk, wordsOk, byteWords, length_words] at hw ⊢
  omega

theorem drmWake (c : Cmd) (r : Nat) : Statement (.drmWake c r) := by
  intro hw c' op' args' h
  simp only [instrEntry, Option.some.injEq, Prod.mk.injEq] at h
  obtain ⟨rfl, rfl, rfl⟩ := h
  simp [Instr.wf, cmdOk, under, fits, bytesOk, wordsOk, byteWords, length_words] at hw ⊢
  omega

theorem drmRelease (c : Cmd) (r : Nat) : Statement (.drmRelease c r) := by
  intro hw c' op' args' h
  simp only [instrEntry, Option.some.injEq, Prod.mk.injEq] at h
  obtain ⟨rfl, rfl, rfl⟩ := h
  simp [Instr.wf, cmdOk, under, fits, bytesOk, wordsOk, byteWords, length_words] at hw ⊢
  omega

theorem pnlQuery (c : Cmd) (part : Nat) : Statement (.pnlQuery c part) := by
  intro hw c' op' args' h
  simp only [instrEntry, Option.some.injEq, Prod.mk.injEq] at h
  obtain ⟨rfl, rfl, rfl⟩ := h
  simp [Instr.wf, cmdOk, under, fits, bytesOk, wordsOk, byteWords, length_words] at hw ⊢
  omega

theorem regRead (c : Cmd) (addr : Nat) (count : Nat) : Statement (.regRead c addr count) := by
  intro hw c' op' args' h
  simp only [instrEntry, Option.some.injEq, Prod.mk.injEq] at h
  obtain ⟨rfl, rfl, rfl⟩ := h
  simp [Instr.wf, cmdOk, under, fits, bytesOk, wordsOk, byteWords, length_words] at hw ⊢
  omega

theorem regWrite (c : Cmd) (addr : Nat) (words : List Nat) : Statement (.regWrite c addr words) := by
  intro hw c' op' args' h
  simp only [instrEntry, Option.some.injEq, Prod.mk.injEq] at h
  obtain ⟨rfl, rfl, rfl⟩ := h
  simp [Instr.wf, cmdOk, under, fits, bytesOk, wordsOk, byteWords, length_words] at hw ⊢
  omega

theorem bobQuery (c : Cmd) (b : Nat) : Statement (.bobQuery c b) := by
  intro hw c' op' args' h
  simp only [instrEntry, Option.some.injEq, Prod.mk.injEq] at h
  obtain ⟨rfl, rfl, rfl⟩ := h
  simp [Instr.wf, cmdOk, under, fits, bytesOk, wordsOk, byteWords, length_words] at hw ⊢
  omega

theorem hbmQuery (c : Cmd) : Statement (.hbmQuery c) := by
  intro hw c' op' args' h
  simp only [instrEntry, Option.some.injEq, Prod.mk.injEq] at h
  obtain ⟨rfl, rfl, rfl⟩ := h
  simp [Instr.wf, cmdOk, under, fits, bytesOk, wordsOk, byteWords, length_words] at hw ⊢
  omega

theorem bobbinFault (b : Nat) (cause : Nat) : Statement (.bobbinFault b cause) :=
  fun _ _ _ _ h => nomatch h

theorem bobMove (b : Nat) : Statement (.bobMove b) :=
  fun _ _ _ _ h => nomatch h

theorem hbmUe (addr : Nat) (client : Nat) : Statement (.hbmUe addr client) :=
  fun _ _ _ _ h => nomatch h

theorem hbmRecalibration (pc : Nat) : Statement (.hbmRecalibration pc) :=
  fun _ _ _ _ h => nomatch h

theorem logFlashWrite (ok : Bool) : Statement (.logFlashWrite ok) :=
  fun _ _ _ _ h => nomatch h

theorem pipeFence (p : Nat) : Statement (.pipeFence p) :=
  fun _ _ _ _ h => nomatch h

theorem codUnitFenced (pool : Nat) (unit : Nat) : Statement (.codUnitFenced pool unit) :=
  fun _ _ _ _ h => nomatch h

theorem overlockFence : Statement .overlockFence :=
  fun _ _ _ _ h => nomatch h

theorem memFence : Statement .memFence :=
  fun _ _ _ _ h => nomatch h

theorem hostPortFail (port : Nat) : Statement (.hostPortFail port) :=
  fun _ _ _ _ h => nomatch h

theorem evtRead (c : Cmd) : Statement (.evtRead c) := by
  intro hw c' op' args' h
  simp only [instrEntry, Option.some.injEq, Prod.mk.injEq] at h
  obtain ⟨rfl, rfl, rfl⟩ := h
  simp [Instr.wf, cmdOk, under, fits, bytesOk, wordsOk, byteWords, length_words] at hw ⊢
  omega

theorem evtCfg (c : Cmd) (sevMin : Nat) (irqEn : Nat) : Statement (.evtCfg c sevMin irqEn) := by
  intro hw c' op' args' h
  simp only [instrEntry, Option.some.injEq, Prod.mk.injEq] at h
  obtain ⟨rfl, rfl, rfl⟩ := h
  simp [Instr.wf, cmdOk, under, fits, bytesOk, wordsOk, byteWords, length_words] at hw ⊢
  omega

theorem telSnap (c : Cmd) : Statement (.telSnap c) := by
  intro hw c' op' args' h
  simp only [instrEntry, Option.some.injEq, Prod.mk.injEq] at h
  obtain ⟨rfl, rfl, rfl⟩ := h
  simp [Instr.wf, cmdOk, under, fits, bytesOk, wordsOk, byteWords, length_words] at hw ⊢
  omega

theorem telRead (c : Cmd) (back : Nat) (word : Nat) (count : Nat) : Statement (.telRead c back word count) := by
  intro hw c' op' args' h
  simp only [instrEntry, Option.some.injEq, Prod.mk.injEq] at h
  obtain ⟨rfl, rfl, rfl⟩ := h
  simp [Instr.wf, cmdOk, under, fits, bytesOk, wordsOk, byteWords, length_words] at hw ⊢
  omega

theorem telemetrySnapshot : Statement .telemetrySnapshot :=
  fun _ _ _ _ h => nomatch h

theorem secQuery (c : Cmd) : Statement (.secQuery c) := by
  intro hw c' op' args' h
  simp only [instrEntry, Option.some.injEq, Prod.mk.injEq] at h
  obtain ⟨rfl, rfl, rfl⟩ := h
  simp [Instr.wf, cmdOk, under, fits, bytesOk, wordsOk, byteWords, length_words] at hw ⊢
  omega

theorem secStage (c : Cmd) (off : Nat) (data : List Byte) : Statement (.secStage c off data) := by
  intro hw c' op' args' h
  simp only [instrEntry, Option.some.injEq, Prod.mk.injEq] at h
  obtain ⟨rfl, rfl, rfl⟩ := h
  simp [Instr.wf, cmdOk, under, fits, bytesOk, wordsOk, byteWords, length_words] at hw ⊢
  omega

theorem secEnrol (c : Cmd) (args : List Byte) : Statement (.secEnrol c args) := by
  intro hw c' op' args' h
  simp only [instrEntry, Option.some.injEq, Prod.mk.injEq] at h
  obtain ⟨rfl, rfl, rfl⟩ := h
  simp [Instr.wf, cmdOk, under, fits, bytesOk, wordsOk, byteWords, length_words] at hw ⊢
  omega

theorem secFwWrite (c : Cmd) (args : List Byte) : Statement (.secFwWrite c args) := by
  intro hw c' op' args' h
  simp only [instrEntry, Option.some.injEq, Prod.mk.injEq] at h
  obtain ⟨rfl, rfl, rfl⟩ := h
  simp [Instr.wf, cmdOk, under, fits, bytesOk, wordsOk, byteWords, length_words] at hw ⊢
  omega

theorem secFwCommit (c : Cmd) (args : List Byte) : Statement (.secFwCommit c args) := by
  intro hw c' op' args' h
  simp only [instrEntry, Option.some.injEq, Prod.mk.injEq] at h
  obtain ⟨rfl, rfl, rfl⟩ := h
  simp [Instr.wf, cmdOk, under, fits, bytesOk, wordsOk, byteWords, length_words] at hw ⊢
  omega

theorem secRollbackAdvance (c : Cmd) (args : List Byte) : Statement (.secRollbackAdvance c args) := by
  intro hw c' op' args' h
  simp only [instrEntry, Option.some.injEq, Prod.mk.injEq] at h
  obtain ⟨rfl, rfl, rfl⟩ := h
  simp [Instr.wf, cmdOk, under, fits, bytesOk, wordsOk, byteWords, length_words] at hw ⊢
  omega

theorem secAttest (c : Cmd) (args : List Byte) : Statement (.secAttest c args) := by
  intro hw c' op' args' h
  simp only [instrEntry, Option.some.injEq, Prod.mk.injEq] at h
  obtain ⟨rfl, rfl, rfl⟩ := h
  simp [Instr.wf, cmdOk, under, fits, bytesOk, wordsOk, byteWords, length_words] at hw ⊢
  omega

theorem secRead (c : Cmd) (args : List Byte) : Statement (.secRead c args) := by
  intro hw c' op' args' h
  simp only [instrEntry, Option.some.injEq, Prod.mk.injEq] at h
  obtain ⟨rfl, rfl, rfl⟩ := h
  simp [Instr.wf, cmdOk, under, fits, bytesOk, wordsOk, byteWords, length_words] at hw ⊢
  omega

theorem secDebugChallenge (c : Cmd) (args : List Byte) : Statement (.secDebugChallenge c args) := by
  intro hw c' op' args' h
  simp only [instrEntry, Option.some.injEq, Prod.mk.injEq] at h
  obtain ⟨rfl, rfl, rfl⟩ := h
  simp [Instr.wf, cmdOk, under, fits, bytesOk, wordsOk, byteWords, length_words] at hw ⊢
  omega

theorem secDebugOpen (c : Cmd) (args : List Byte) : Statement (.secDebugOpen c args) := by
  intro hw c' op' args' h
  simp only [instrEntry, Option.some.injEq, Prod.mk.injEq] at h
  obtain ⟨rfl, rfl, rfl⟩ := h
  simp [Instr.wf, cmdOk, under, fits, bytesOk, wordsOk, byteWords, length_words] at hw ⊢
  omega

theorem debugClose : Statement .debugClose :=
  fun _ _ _ _ h => nomatch h

theorem secKeySet (c : Cmd) (args : List Byte) : Statement (.secKeySet c args) := by
  intro hw c' op' args' h
  simp only [instrEntry, Option.some.injEq, Prod.mk.injEq] at h
  obtain ⟨rfl, rfl, rfl⟩ := h
  simp [Instr.wf, cmdOk, under, fits, bytesOk, wordsOk, byteWords, length_words] at hw ⊢
  omega

theorem secKeyTx (c : Cmd) (args : List Byte) : Statement (.secKeyTx c args) := by
  intro hw c' op' args' h
  simp only [instrEntry, Option.some.injEq, Prod.mk.injEq] at h
  obtain ⟨rfl, rfl, rfl⟩ := h
  simp [Instr.wf, cmdOk, under, fits, bytesOk, wordsOk, byteWords, length_words] at hw ⊢
  omega

theorem secKeyClear (c : Cmd) (args : List Byte) : Statement (.secKeyClear c args) := by
  intro hw c' op' args' h
  simp only [instrEntry, Option.some.injEq, Prod.mk.injEq] at h
  obtain ⟨rfl, rfl, rfl⟩ := h
  simp [Instr.wf, cmdOk, under, fits, bytesOk, wordsOk, byteWords, length_words] at hw ⊢
  omega

theorem secOhiKey (c : Cmd) (args : List Byte) : Statement (.secOhiKey c args) := by
  intro hw c' op' args' h
  simp only [instrEntry, Option.some.injEq, Prod.mk.injEq] at h
  obtain ⟨rfl, rfl, rfl⟩ := h
  simp [Instr.wf, cmdOk, under, fits, bytesOk, wordsOk, byteWords, length_words] at hw ⊢
  omega

theorem secTamperClear (c : Cmd) (args : List Byte) : Statement (.secTamperClear c args) := by
  intro hw c' op' args' h
  simp only [instrEntry, Option.some.injEq, Prod.mk.injEq] at h
  obtain ⟨rfl, rfl, rfl⟩ := h
  simp [Instr.wf, cmdOk, under, fits, bytesOk, wordsOk, byteWords, length_words] at hw ⊢
  omega

theorem tamperOpen : Statement .tamperOpen :=
  fun _ _ _ _ h => nomatch h

theorem rstQuery (c : Cmd) : Statement (.rstQuery c) := by
  intro hw c' op' args' h
  simp only [instrEntry, Option.some.injEq, Prod.mk.injEq] at h
  obtain ⟨rfl, rfl, rfl⟩ := h
  simp [Instr.wf, cmdOk, under, fits, bytesOk, wordsOk, byteWords, length_words] at hw ⊢
  omega

theorem rstRequest (c : Cmd) (level : Nat) : Statement (.rstRequest c level) := by
  intro hw c' op' args' h
  simp only [instrEntry, Option.some.injEq, Prod.mk.injEq] at h
  obtain ⟨rfl, rfl, rfl⟩ := h
  simp [Instr.wf, cmdOk, under, fits, bytesOk, wordsOk, byteWords, length_words] at hw ⊢
  omega

theorem rstBlock (c : Cmd) (typ : Nat) (idx : Nat) : Statement (.rstBlock c typ idx) := by
  intro hw c' op' args' h
  simp only [instrEntry, Option.some.injEq, Prod.mk.injEq] at h
  obtain ⟨rfl, rfl, rfl⟩ := h
  simp [Instr.wf, cmdOk, under, fits, bytesOk, wordsOk, byteWords, length_words] at hw ⊢
  omega

theorem blockResetComplete (typ : Nat) (idx : Nat) (pass : Bool) : Statement (.blockResetComplete typ idx pass) :=
  fun _ _ _ _ h => nomatch h

theorem pwrQuery (c : Cmd) : Statement (.pwrQuery c) := by
  intro hw c' op' args' h
  simp only [instrEntry, Option.some.injEq, Prod.mk.injEq] at h
  obtain ⟨rfl, rfl, rfl⟩ := h
  simp [Instr.wf, cmdOk, under, fits, bytesOk, wordsOk, byteWords, length_words] at hw ⊢
  omega

theorem pwrKeep (c : Cmd) (args : List Byte) : Statement (.pwrKeep c args) := by
  intro hw c' op' args' h
  simp only [instrEntry, Option.some.injEq, Prod.mk.injEq] at h
  obtain ⟨rfl, rfl, rfl⟩ := h
  simp [Instr.wf, cmdOk, under, fits, bytesOk, wordsOk, byteWords, length_words] at hw ⊢
  omega

theorem powerOn (bootSel : Nat) (modAddr : Nat) : Statement (.powerOn bootSel modAddr) :=
  fun _ _ _ _ h => nomatch h

theorem brownOut : Statement .brownOut :=
  fun _ _ _ _ h => nomatch h

theorem resetNLow : Statement .resetNLow :=
  fun _ _ _ _ h => nomatch h

theorem watchdogExpiry (d : Nat) : Statement (.watchdogExpiry d) :=
  fun _ _ _ _ h => nomatch h

theorem dbgReqNLow : Statement .dbgReqNLow :=
  fun _ _ _ _ h => nomatch h

theorem clockFailure : Statement .clockFailure :=
  fun _ _ _ _ h => nomatch h

theorem lockUp : Statement .lockUp :=
  fun _ _ _ _ h => nomatch h

theorem resetRelease : Statement .resetRelease :=
  fun _ _ _ _ h => nomatch h

theorem firmwareVerified (ok : Bool) : Statement (.firmwareVerified ok) :=
  fun _ _ _ _ h => nomatch h

theorem memoryTrainingDone (ok : Bool) : Statement (.memoryTrainingDone ok) :=
  fun _ _ _ _ h => nomatch h

theorem inputLost (dc : Bool) (bulk : Nat) : Statement (.inputLost dc bulk) :=
  fun _ _ _ _ h => nomatch h

theorem inputReturn (bulk : Nat) : Statement (.inputReturn bulk) :=
  fun _ _ _ _ h => nomatch h

theorem gaspEntry : Statement .gaspEntry :=
  fun _ _ _ _ h => nomatch h

theorem keepEntry : Statement .keepEntry :=
  fun _ _ _ _ h => nomatch h

theorem blank0KeepWake (tick : Nat) : Statement (.blank0KeepWake tick) :=
  fun _ _ _ _ h => nomatch h

theorem aonStoresExhausted : Statement .aonStoresExhausted :=
  fun _ _ _ _ h => nomatch h

theorem refclkValid (mhz25 : Bool) (ofs : Nat) : Statement (.refclkValid mhz25 ofs) :=
  fun _ _ _ _ h => nomatch h

theorem clkRefLost : Statement .clkRefLost :=
  fun _ _ _ _ h => nomatch h

theorem clockSlewEnd : Statement .clockSlewEnd :=
  fun _ _ _ _ h => nomatch h

theorem pwrXtal : Statement .pwrXtal :=
  fun _ _ _ _ h => nomatch h

theorem pwrHot (temp : Nat) : Statement (.pwrHot temp) :=
  fun _ _ _ _ h => nomatch h

theorem signalAndSymbolLock (lane : Nat) : Statement (.signalAndSymbolLock lane) :=
  fun _ _ _ _ h => nomatch h

theorem softwareResetAssert : Statement .softwareResetAssert :=
  fun _ _ _ _ h => nomatch h

theorem tamperLoopClosed : Statement .tamperLoopClosed :=
  fun _ _ _ _ h => nomatch h

theorem ppsInTimeout : Statement .ppsInTimeout :=
  fun _ _ _ _ h => nomatch h

theorem vbatLevelChange (ok : Bool) : Statement (.vbatLevelChange ok) :=
  fun _ _ _ _ h => nomatch h

theorem contactInputEdge (i : Nat) (high : Bool) (tick : Nat) : Statement (.contactInputEdge i high tick) :=
  fun _ _ _ _ h => nomatch h

end Sys2Proof.Laws.Entry
end

