-- ==== Sys2Proof/Laws/Rings.lean ====
section
/-! SUPPORT. What serving the command rings does. -/

namespace Sys2Proof.Machine

theorem forAll_id {l : List Nat} {f : Nat → State → State} {s : State} (h : ∀ p ∈ l, f p s = s) : forAll l f s = s := by
  unfold forAll
  induction l with
  | nil => rfl
  | cons a l ih => 
    simp only [List.foldl_cons]; rw [h a (by simp)]; exact ih (fun p hp => h p (by simp [hp]))

theorem takeEntries_idle {s : State} {p n : Nat} (h : s.fld .PNL_RING_IDX_cmd_head p = s.fld .PNL_RING_IDX_cmd_tail p) :
    s.takeEntries p n = s := by
  cases n with
  | zero => rfl
  | succ n => simp [State.takeEntries, State.mayTake, h]

theorem sendOhi_idle {s : State} (h : s.host.ohiIn = []) : s.sendOhi = s := by
  simp only [State.sendOhi, h, List.filter_nil, List.foldl_nil]
  rw [← h]

/-- Where no ring offers an entry and no datagram waits, serving the rings changes nothing. -/
theorem pump_idle {s : State} (h : s.RingsIdle) : s.pump = s := by
  unfold State.pump
  rw [sendOhi_idle h.1]
  exact forAll_id (fun p hp => takeEntries_idle (h.2 p (by simpa using hp)))

/-- The entry at the head of a ring runs as the command it spells (R78, R79). -/
theorem takeEntry_spec {s : State} {p op tag : Nat} {args : List Byte} (ho : op < 65536) (ht : tag < 65536)
   (ha : args.length ≤ 56)
   (h : memBytes s.mgmt.ringRam (cmdAddr p (s.fld .PNL_RING_IDX_cmd_head p)) 64 = entryBytes op tag args) :
   s.takeEntry p = (ohi (s.setFld .PNL_RING_IDX_cmd_head p ((s.fld .PNL_RING_IDX_cmd_head p + 1) % 64)) ⟨p, tag⟩ op
     (cmdOp ⟨p, tag⟩ op args (s.setFld .PNL_RING_IDX_cmd_head p ((s.fld .PNL_RING_IDX_cmd_head p + 1) % 64)))).sendOhi := by
  unfold State.takeEntry
  simp only [h]
  have e1 : leAt (entryBytes op tag args) 0 2 = op := by
    simp only [entryBytes, List.append_assoc]; exact leAt_le 2 op _ ho
  have e2 : leAt (entryBytes op tag args) 2 2 = tag := by
    simp only [entryBytes, List.append_assoc]
    have := leAt_append (le 2 op) (le 2 tag ++ (le 2 args.length ++ ([0, 0] ++ (args ++ List.replicate (56 - args.length) 0)))) 0 2
    rw [length_le_bytes] at this
    rw [show (2:Nat) = 2 + 0 from rfl, this]; exact leAt_le 2 tag _ ht
  have e3 : leAt (entryBytes op tag args) 4 2 = args.length := by
    simp only [entryBytes, List.append_assoc]
    have := leAt_append (le 2 op ++ le 2 tag) (le 2 args.length ++ ([0, 0] ++ (args ++ List.replicate (56 - args.length) 0))) 0 2
    simp only [List.length_append, length_le_bytes, List.append_assoc] at this
    exact this.trans (leAt_le 2 _ _ (by omega))
  have e4 : slice (entryBytes op tag args) 8 args.length = args := by
    unfold entryBytes
    have e : le 2 op ++ le 2 tag ++ le 2 args.length ++ [0, 0] ++ args ++ List.replicate (56 - args.length) 0
      = (le 2 op ++ le 2 tag ++ le 2 args.length ++ [0, 0]) ++ (args ++ List.replicate (56 - args.length) 0) := by simp
    rw [e]
    have := slice_append (le 2 op ++ le 2 tag ++ le 2 args.length ++ [0, 0]) (args ++ List.replicate (56 - args.length) 0) args.length
    simp only [List.length_append, length_le_bytes, List.length_cons, List.length_nil] at this
    exact this.trans (by simp [slice])
  rw [e1, e2, e3, if_neg (by omega), e4]

end Sys2Proof.Machine
end

