-- ==== Sys2Proof/Tests/Slice0.lean ====
section
/-! SUPPORT. Tests: ill-formed commands that the check refuses, a witness for the hypotheses of every statement, and small
tests of meanings against values written out from the spec. -/

namespace Sys2Proof.Tests

set_option Elab.async false

open Sys2Proof Sys2Proof.Machine

/-- Two issuers of commands, a frame control, a PTP message and a serial item. -/
def c0 : Cmd := ⟨0, 7⟩
def c3 : Cmd := ⟨3, 9⟩
def fc0 : FC := ⟨0, 0, 0, 0x123, 5, 0, 0⟩
def ptp0 : PtpMsg := ⟨0, 2, 0, true, 0, 1, 1, 1, 0, 0, List.replicate 34 0⟩
def ser0 : SerItem := ⟨7, 0, 1, 1, 1748, 0, 0, 0, 0, 0, 0, 0, 0, 0, 0, 0, 0⟩

/-- Reset, and a module whose start-up is over. -/
def up : State :=
  let s := State.reset.setFlag .GLB_STATUS_boot 0 false
  { s with rst := { s.rst with boot := 0 } }

/-- With one event in its ring. -/
def ev1 : State := up.log 0x0101 0 0 5

/-- With an owner. -/
def owned : State :=
  { up with sec := { up.sec with owners := [⟨1, true, true, false⟩, {}, {}, {}], ownerPk := List.replicate 1793 0 } }

/-! Ill-formed commands, one for each check of `Instr.wf`. -/

theorem wf_refuses_panels : (Instr.panelPatternEffect 16).wf = false := by decide
theorem wf_refuses_wide_values : (Instr.chnStart c0 256).wf = false := by decide
theorem wf_refuses_tags : (Instr.patternQuery ⟨0, 65536⟩).wf = false := by decide
theorem wf_refuses_issuers : (Instr.patternQuery ⟨16, 0⟩).wf = false := by decide
theorem wf_refuses_long_data : (Instr.patternData c0 0 (List.replicate 53 0)).wf = false := by decide
theorem wf_refuses_wide_words : (Instr.spiTransaction true 0 0 1 [2 ^ 32]).wf = false := by decide
theorem wf_refuses_byte_words : (Instr.gauExcite c0 2 [256]).wf = false := by decide
theorem wf_refuses_long_frame_controls : (Instr.frameControlRx 0 65536).wf = false := by decide
theorem wf_refuses_short_ptp : (Instr.sync 0 { ptp0 with body := [] } 0 false).wf = false := by decide
theorem wf_accepts : (Instr.patternData ⟨15, 65535⟩ 16777215 (List.replicate 52 0)).wf = true := by decide

/-! Witnesses: for each statement with hypotheses, states and operands that meet them, clause by clause. -/

theorem witness_IdleStepCountsOneTick : up.pending = [] ∧ up.rst.off = false ∧ up.RingsIdle ∧
    ({ up with rst := { up.rst with off := true } } : State).rst.off = true := by decide +kernel

theorem witness_CommandsLeaveTheQueue : exec .tamperLoopClosed up = .next (up.setFlag .SEC_STATUS_loop_open 0 false) := rfl

/-- A state with a command to step. -/
def stepping : State := { State.reset with pending := [.tamperLoopClosed], tick := 1 }

theorem witness_EveryStepKeepsTheInvariant : stepping.Inv ∧ ∃ t : State, step stepping = .next t :=
  ⟨⟨List.Pairwise.nil, fun F i => F.resetAt_lt i, by decide⟩, _, rfl⟩

theorem witness_ResetValuesOfTheRegisterTables : Fld.HLK_CFG_drift_allow.info.rst = .val 20 ∧ Fld.HLK_CFG_drift_allow ≠ .GAU_CH_K_k := by
  decide +kernel

theorem witness_EventsMergeOrEnterTheRing :
    ev1.evNewest = some ⟨0x0101, evSev 0x0101, 0, 0, 0, 0, 5, 0⟩ ∧ ev1.grid.hem = 0 ∧ up.evNewest = none := by decide +kernel

theorem witness_RefusalsAreLogged : 0x0301 < 65536 ∧ up.evHead < 8192 ∧ (rsp .denied).res ≠ .ok ∧ (rsp .ok).res = .ok := by
  decide +kernel

theorem witness_SpiResponseEntersTheRing : up.inBand c3.pnl = false ∧ (rsp .ok).res = .ok ∧
    (let s := up.setFld .PNL_RING_IDX_cmd_head 3 1
     s.inBand c3.pnl = false ∧ s.fld .PNL_RING_IDX_cmd_head c3.pnl ≠ s.fld .PNL_RING_IDX_rsp_tail c3.pnl) := by decide +kernel

theorem witness_FullResponseRingStopsCommands : (up.setFld .PNL_RING_IDX_rsp_tail 3 32).inBand c3.pnl = false ∧
    (up.setFld .PNL_RING_IDX_rsp_tail 3 32).rspFull c3.pnl = true := by decide +kernel

/-- A command ring with the entry of a PATTERN_DATA. -/
def ringed : State :=
  { up with mgmt := { up.mgmt with ringRam := memStores [] (cmdAddr 0 0) (entryBytes 0x0302 7 (le 4 9 ++ [1, 2])) } }

theorem witness_RingEntriesRunTheirCommand : (Instr.patternData c0 9 [1, 2]).wf = true ∧
    instrEntry (.patternData c0 9 [1, 2]) = some (c0, 0x0302, le 4 9 ++ [1, 2]) ∧
    memBytes ringed.mgmt.ringRam (cmdAddr c0.pnl (ringed.fld .PNL_RING_IDX_cmd_head c0.pnl)) 64
      = entryBytes 0x0302 c0.tag (le 4 9 ++ [1, 2]) := by decide +kernel

theorem witness_FullLoadsBelongToPanelZero : up.Takes c3 ∧ c3.pnl ≠ 0 ∧ 1 < 2 ∧ 1 ≤ 15 ∧ 15 ≠ c3.pnl := by decide +kernel

/-- The loader RECEIVING a load of `kind` begun by PNL0, with `top` bytes staged. -/
def loading (kind top : Nat) : State :=
  let s := up.setFld .PAT_STATUS_loader_state 0 1
  { s with ldr := { s.ldr with kind := kind, top := top } }

theorem witness_PatternDataStagesBytes : (loading 2 0).Takes c0 ∧ (loading 2 0).loader = 1 ∧ (loading 2 0).ldr.by_ = c0.pnl ∧
    (loading 2 0).ldr.kind = 2 ∧ 1048524 + (List.replicate 52 (0 : Byte)).length ≤ 1048576 ∧
    1048576 < 1048525 + (List.replicate 52 (0 : Byte)).length ∧
    (loading 1 0).Takes c0 ∧ (loading 1 0).loader = 1 ∧ (loading 1 0).ldr.by_ = c0.pnl ∧
    16777215 + [(0 : Byte)].length ≤ 16777216 ∧ 16777216 < 16777216 + [(0 : Byte)].length := by decide +kernel

/-- An owned module, sealed, with feature 12 (Thimble) in force. -/
def sealed : State :=
  let s := (owned.setFlag .PAT_STATUS_sealed 0 true).setFld .GLB_FEAT_FORCE_force 0 (2 ^ 12)
  { s with full := some {}, ldr := { s.ldr with image := [1] } }

theorem witness_LoaderCommandsTakeEffect :
    (owned.Takes c0 ∧ owned.loader = 0 ∧ owned.recovery = false ∧ owned.owned = true ∧ c0.pnl = 0) ∧
    (sealed.Takes c3 ∧ sealed.loader = 0 ∧ sealed.recovery = false ∧ sealed.owned = true ∧ c3.pnl = 3 ∧
      sealed.inForce 12 = true) ∧
    ((loading 1 5).Takes c0 ∧ (loading 1 5).loader = 1 ∧ (loading 1 5).ldr.by_ = c0.pnl) ∧
    (sealed.Takes c0 ∧ sealed.loader < 2 ∧ sealed.ldr.storing = none ∧ sealed.isSealed = true) := by decide +kernel

theorem witness_AcceptedFeaturesAreOffered : up.acceptOpen = true ∧ up.mgmt.latches = [] ∧ up.Takes c0 ∧ up.loader < 2 ∧
    (∀ k : Nat, k < 4 → [0, 0, 0, 0].getD k 0 &&& up.fld .FEAT_OFFER_offer k = [0, 0, 0, 0].getD k 0) ∧
    (∃ k : Nat, k < 4 ∧ [0, 0, 0, 0xFFFFFFFF].getD k 0 &&& up.fld .FEAT_OFFER_offer k ≠ [0, 0, 0, 0xFFFFFFFF].getD k 0) ∧
    0xFFFFFFFF < 2 ^ 32 := by decide +kernel

theorem witness_LoadsAreVerifiedThenChecked : (up.setFld .PAT_STATUS_loader_state 0 2).loader = 2 ∧
    (loading 1 0).ldr.kind = 1 ∧ ((loading 1 0).setFld .PAT_STATUS_loader_state 0 3).loader = 3 ∧
    ((loading 1 0).setFld .PAT_STATUS_loader_state 0 3).ldr.kind = 1 := by decide +kernel

/-- A pattern checked, about to be sealed; and a panel's pattern that waits since tick 0. -/
def sealing : State :=
  let s := owned.setFld .PAT_STATUS_loader_state 0 4
  { s with ldr := { s.ldr with parsed := some {}, pend := [(3, ⟨{}, 0, [], none⟩)], storing := some 1 }
           grid := { s.grid with running := true } }

theorem witness_SealsPutPatternsIntoService :
    (sealing.loader = 4 ∧ sealing.ldr.parsed = some {}) ∧
    (tfind 3 sealing.ldr.pend = some ⟨{}, 0, [], none⟩ ∧ sealing.grid.running = true ∧ sealing.grid.b < 0 + 40000000 ∧
      (let s : State := { sealing with grid := { sealing.grid with b := 40000000, slot := 4300 } }
       s.atHemStart = true ∧ 0 + 40000000 ≤ s.grid.b) ∧
      ({ sealing with grid := { sealing.grid with b := 40000000, slot := 4302 } } : State).atHemStart = false) ∧
    (owned.loader = 0 ∧ owned.isSealed = false ∧ owned.recovery = false ∧ owned.owned = true) ∧
    sealing.ldr.storing = some 1 := by decide +kernel

theorem witness_WindowsAndSpansGuardRegisters : up.inAlias 3 0x700004 = false ∧ up.inAlias 15 0x3EF000 = true ∧
    up.RingsIdle ∧ up.inAlias 0 0x7FFFFC = true ∧ (blkOf 0x7FFFFC = none) ∧ up.inAlias 0 0x700005 = true ∧ 0x700005 % 4 ≠ 0 := by
  decide +kernel

theorem witness_RegisterAccessesFollowTheirCodes : up.RingsIdle ∧ 11 < 12 ∧ 0xFFFFFFFF < 2 ^ 32 ∧
    up.fld .RST_CAUSE_sources 0 < 4096 := by decide +kernel

/-- Serial port 7 of panel 3 in DIRECT, of class R or F, with `n` characters in each FIFO. -/
def direct (cls n : Nat) : State :=
  let s : State := { up with pat := { up.pat with panels := [{ panel := 3, ser := 0x80, cmd := 0x8002 }] } }
  s.setPort 7 { item := some { ser0 with cls := cls }, rx := List.replicate n 65, tx := List.replicate n 66 }

theorem witness_SerialRegistersOfDirectPorts : (direct 0 64).inAlias 3 (0x40000C + 0x100 * 7) = true ∧
    (direct 0 64).inAlias 3 (0x400010 + 0x100 * 7) = true ∧ (direct 0 64).inAlias 3 (0x400008 + 0x100 * 7) = true ∧
    ((direct 0 64).port 7).func = serDirect ∧ ((direct 0 64).port 7).rx = 65 :: List.replicate 63 65 ∧
    (direct 0 0).inAlias 3 (0x40000C + 0x100 * 7) = true ∧ (direct 0 0).inAlias 3 (0x400010 + 0x100 * 7) = true ∧
    (direct 0 0).inAlias 3 (0x400008 + 0x100 * 7) = true ∧ ((direct 0 0).port 7).func = serDirect ∧
    ((direct 0 0).port 7).rx = [] := by decide +kernel

theorem witness_OhiRegisterCommands : up.Takes c0 ∧ c0.pnl = 0 ∧ up.Takes c3 ∧ 6 < 7 ∧ 12 < (List.replicate 13 0).length ∧
    ((List.range 6).map (fun i => 0x700000 + 4 * i)).filter (fun x => !up.inAlias c3.pnl x) ≠ [] ∧
    ((List.range 12).map (fun i => 0x700000 + 4 * i)).filter (fun x => !up.inAlias c3.pnl x) ≠ [] := by decide +kernel

theorem witness_EarlyRiseKeepsCompletedWords : 15 < 16 ∧ 31 < 32 ∧ (List.replicate 63 1).length < 64 ∧ List.replicate 63 1 ≠ [] := by
  decide +kernel

theorem witness_ManagementPortTransactions : up.RingsIdle ∧ up.serving = true ∧ up.bootOnly = false ∧ up.full = none ∧
    up.inAlias 15 0x700004 = false ∧ (List.replicate 8 (0 : Byte)).length = 8 ∧ (List.replicate 16 (0 : Byte)).length = 16 ∧
    (tfind 2 up.sec.ohiKeys).getD [] = [] ∧
    (let s : State := { up with sec := { up.sec with ohiKeys := [(2, [1])] } }
     s.serving = true ∧ (tfind (beAt [2, 1, 0, 0, 9, 0, 0, 0] 0 1) s.sec.ohiKeys).getD [] ≠ [] ∧
       beAt [2, 1, 0, 0, 9, 0, 0, 0] 0 1 ≤ 15 ∧ tget 0 2 s.sec.ohiSeq < leAt [2, 1, 0, 0, 9, 0, 0, 0] 4 4 ∧
       (s.setFlag .PNL_STATUS_in_band 2 true).inBand 2 = true ∧ s.cmdWaiting 2 + 1 ≤ 32) := by decide +kernel

/-- Channel 2 of panel 3 (link 0x123, band 74 to 110) on head 0, in state `st`, its lane ALIGNED. -/
def chan (st : Nat) : State :=
  let s := ((up.setFld .CHN_STATUS_state 2 st).setFld .HLK_STATUS_state 0 4).setFld .CHN_CFG_link_id 2 0x123
  { s with pat := { s.pat with chans := [⟨2, 0, 0, 0, 0, 3, 0x123, 0, 0, 0, 0⟩], plans := [{ low := 74, high := 110 }] } }

theorem witness_ChannelCommandsFollowTheirStates :
    (up.Takes c0 ∧ up.mayName c0.pnl 191 = true ∧ up.chanItem 191 = none) ∧
    ((chan 0).Takes c3 ∧ (chan 0).mayName c3.pnl 3 = false ∧ (chan 0).mayName c3.pnl 2 = true ∧ (chan 0).chanItem 2 ≠ none ∧
      (chan 0).sec.tamperOff = false ∧ (chan 0).effState 2 = chOff ∧ (chan 0).mayStart 2 = true ∧
      (chan 4).effState 2 = chQuiet ∧ (chan 3).effState 2 = chLive) := by decide +kernel

theorem witness_ChannelTimersAskForArmed : (chan 2).effState 2 = chTraining ∧ (chan 2).sec.tamperOff = false ∧
    (let s := ((chan 5).setFld .CHN_CFG_auto_rearm 2 1)
     s.effState 2 = chFault ∧ s.fld .CHN_CFG_auto_rearm 2 = 1 ∧ s.faultCleared 2 = true) := by decide +kernel

theorem witness_SlotsAndHemsAdvance : up.grid.running = false ∧ sealing.grid.running = true := by decide +kernel

/-- The grid a slot past the middle of its Hem, with the gauge for its source and a crossing 200 ticks late. -/
def lateHem : State :=
  let s := sealing.setFld .HEM_STATUS_src_state 0 2
  { s with grid := { s.grid with p := 2, slot := 500, gaugeZ := [200] } }

theorem witness_NextHemLengthFollowsThePhaseError : sealing.grid.running = true ∧ sealing.grid.nxt = none ∧
    ({ sealing with grid := { sealing.grid with nxt := some 4000000 } } : State).grid.nxt ≠ none ∧
    ¬(2 * sealing.grid.b + sealing.grid.p ≤ 2 * sealing.slotTick sealing.grid.slot) ∧
    (lateHem.grid.running = true ∧ lateHem.grid.nxt = none ∧ lateHem.phaseErr = some 200 ∧
      2 * lateHem.grid.b + lateHem.grid.p ≤ 2 * lateHem.slotTick lateHem.grid.slot) ∧
    (let s := lateHem.setFld .HEM_STATUS_src_state 0 0
     s.grid.running = true ∧ s.grid.nxt = none ∧ s.phaseErr = none ∧
       2 * s.grid.b + s.grid.p ≤ 2 * s.slotTick s.grid.slot) := by decide +kernel

/-- A gauge source with 7 intervals behind it, its last crossing at tick 1,000. -/
def crossed : State := { up with grid := { up.grid with gauge := { run := 7, last := some 1000 } } }

theorem witness_MainsCrossingsFilterThePeriod : up.grid.gauge.last = none ∧ crossed.grid.gauge.last = some 1000 ∧
    1000 ≠ 1000 + pMin ∧ pMin ≤ 1000 + pMin - 1000 ∧ 1000 + pMin - 1000 ≤ pMax ∧ ¬(1000 + pMax + 1 - 1000 ≤ pMax) ∧
    (up.setFld .PWR_STATUS_input_dc 0 1).fld .PWR_STATUS_input_dc 0 = 1 := by decide +kernel

/-- A lane in state `st` with the messages `l` outstanding. -/
def lane (st : Nat) (l : List CtlMsg) : State :=
  ((up.setFld .HLK_STATUS_state 7 st).setFld .GLB_FEAT_FORCE_force 0 (2 ^ 13)).setFld .PNL_STATUS_rights 0 1 |>.setLane 7 { out := l }

theorem witness_HeadMessagesAreTaggedAndAnswered : up.Takes c0 ∧ up.Takes c3 ∧ c3.pnl ≠ 0 ∧
    (lane 3 []).laneState 7 = hlkCalibrating ∧ (lane 3 []).Takes c0 ∧
    (lane 4 []).laneState 7 = hlkAligned ∧ (lane 4 []).expertOk 0 = true ∧ (lane 4 []).Takes c0 ∧
    (lane 5 []).laneState 7 = hlkFault ∧ (lane 5 []).Takes c0 ∧ (lane 4 []).ctlMsg 7 255 = none ∧
    (lane 4 [⟨255, false, 0, 0, .host c0 0x0802, 3, 0⟩]).ctlMsg 7 255 = some ⟨255, false, 0, 0, .host c0 0x0802, 3, 0⟩ ∧
    (lane 4 [⟨0, true, 0x8000, 0, .host c0 0x0803, 0, 0⟩]).ctlMsg 7 0 = some ⟨0, true, 0x8000, 0, .host c0 0x0803, 0, 0⟩ := by
  decide +kernel

theorem witness_LanesLockCalibrateAndFail :
    (lane 1 []).laneState 7 = hlkDown ∧
    (let s := (lane 2 []).setLane 7 { good := 8 }
     s.laneState 7 = hlkLocking ∧ 8 ≤ (s.lane 7).good ∧ (s.lane 7).out = []) ∧
    (let s := (lane 3 []).setLane 7 { bad := 4 }
     4 ≤ (s.lane 7).bad ∧ s.laneState 7 = hlkCalibrating) ∧
    (let s := (lane 4 []).setLane 7 { bad := 4 }
     4 ≤ (s.lane 7).bad ∧ s.laneState 7 = hlkAligned) ∧
    (List.replicate 1024 5).length = 1024 ∧ ((lane 3 []).lane 7).readsDone = false ∧
    (let s := ((lane 4 []).setLane 7 { used := true }).setFlag .PAT_STATUS_sealed 0 true
     s.isSealed = true ∧ s.fld .HLK_ALIGN_a_valid 0 = 0 ∧ (List.range 8).filter s.laneUsed ≠ [] ∧
       ∀ j : Nat, j < 8 → s.laneUsed j = true → s.laneState j = hlkAligned) ∧
    (let s := (lane 5 []).setFld .HLK_STATUS_cause 7 4
     s.laneState 7 = hlkFault ∧ s.fld .HLK_STATUS_cause 7 = 4) ∧
    (let s := (lane 4 [⟨1, true, 0, 0, .coupling 191, 0, 0⟩]).setChan 191 { cplMode := some 3 }
     (s.lane (headOf 191)).out.any (fun x => x.why == .coupling 191) = true ∧ (s.chan 191).cplMode = some 3) := by decide +kernel

theorem witness_UpstreamFramesAreCounted : 7 ≤ 7 ∧ up.laneState 7 = hlkOff ∧ (lane 1 []).laneState 7 = hlkDown ∧
    (lane 2 []).laneState 7 = hlkLocking ∧ (lane 3 []).laneState 7 = hlkCalibrating := by
  decide +kernel

/-- One channel LIVE with an acknowledgement due in slot 3, in a QUIET window. -/
def owing : State :=
  let s := chan 3
  let s : State := { s with grid := { s.grid with running := true }
                            pat := { s.pat with windows := [⟨4, false, 0, 0xFFFF, 0, 2 ^ 2⟩] } }
  s.setChan 2 { acks := [⟨3, { fc0 with typ := 1 }⟩] }
def ackFrame : Frame :=
  { ch := 2, slot := 3, kind := .ack, fc := { fc0 with typ := 1 }, payload := [], len := 2, panel := 3, hem := owing.hemOf 3 }
/-- An acknowledgement committed to the running slot. -/
def committed : State := { owing with grid := { owing.grid with committed := [{ ackFrame with slot := 0 }] } }
/-- A contention cycle of class 2, and cells left in the interleaver's line. -/
def contending : State := up.setChan 2 { cont := some ⟨0, 2, false⟩, bc := [none, none, some 3] }
def filling : State := (up.setFld .CHN_CODE_STATUS_li_tx_on 2 1).setChan 2 { liTxLeft := 1, liIdleHems := 255 }

theorem witness_TransmissionsAreCommittedAndLaunched :
    (owing.grid.running = true ∧ owing.pat.chans = [⟨2, 0, 0, 0, 0, 3, 0x123, 0, 0, 0, 0⟩] ∧
      (owing.chan 2).acks = [⟨3, { fc0 with typ := 1 }⟩] ∧ owing.commitSlot = 3 ∧ owing.chState 2 ≠ chQuiet ∧
      owing.maySend 2 false = true ∧ owing.winType 2 3 = wtQuiet ∧ (owing.chan 2).bcnSent = false ∧ owing.rst.gaspSent = [] ∧
      owing.owner 2 = some 3 ∧ owing.maskedFor 2 (owing.airSet ackFrame) 0 = false ∧ owing.duplexHeld 2 3 2 = false) ∧
    (owing.grid.slot < 3 ∧ ∀ f ∈ owing.grid.committed, ¬(f.ch = 2 ∧ f.kind = .ack ∧ f.slot = owing.grid.slot)) ∧
    (committed.grid.committed.filter (fun x => x.ch == 2 && x.slot == committed.grid.slot) = [{ ackFrame with slot := 0 }] ∧
      committed.maySend 2 false = true) ∧
    ((contending.chan 2).cont = some ⟨0, 2, false⟩ ∧ (contending.chan 2).bc.length = 3 ∧ (contending.chan 2).bc.getD 2 none = some 3) ∧
    (filling.fld .CHN_CODE_STATUS_li_tx_on 2 = 1 ∧ 0 < (filling.chan 2).liTxLeft ∧
       filling.fld .CHN_CODE_CFG_li_idle 2 ≤ (filling.chan 2).liIdleHems) := by decide +kernel

/-- The channel in phase `d` of its detector, over the samples `xs` from tick 0 on. -/
def sampled (d : DetPhase) (xs : List Int) : State := (chan 3).setChan 2 { det := d, rx := ⟨0, xs⟩, floor := some 0, agcGain := 4 }
/-- A preamble: a constant, inverted from sample 2,000 on. -/
def inverting : List Int := List.replicate 2000 1 ++ List.replicate 1100 (-1)
/-- In a frame, with a decoded frame control word. -/
def controlled (w : Nat) : State := (chan 3).setChan 2 { det := .inFrame, fcWord := some w }
def badFc : Nat := 1
def foreignFc : Nat := fcPack { fc0 with typ := 7 }
def ackFc : Nat := fcPack { fc0 with typ := 1 }

theorem witness_DetectorFollowsTheFrame :
    (let s := sampled .armed (List.replicate 256 100)
     (s.chan 2).rx.last 255 256 = some (List.replicate 256 100) ∧ (s.chan 2).det = .armed ∧ s.listens 2 = true ∧
       s.deaf 2 (s.slotAt 255) = false ∧
       triggered ((energy (List.replicate 256 100) : Nat) : Rat) (s.floorOf 2).1 (s.fld .CHN_DET_CFG_det_thr 2) = true) ∧
    (let s := sampled .triggered (List.replicate 3072 1)
     (s.chan 2).det = .triggered ∧ (s.chan 2).cont = none ∧ 3071 ≤ (s.chan 2).trigAt + 9216 ∧ 1024 ≤ 3071 ∧
       (s.chan 2).rx.point (s.fld .CHN_DET_CFG_qual_thr 2) 3071 = true ∧
       (s.chan 2).rx.point (s.fld .CHN_DET_CFG_qual_thr 2) 2047 = true ∧ agcSettled (s.agcGains 2 3071) = true) ∧
    ((sampled .qualified []).chan 2).det = .qualified ∧
    ((controlled badFc).listens 2 = true ∧ ((controlled badFc).chan 2).det = .inFrame ∧ ((controlled badFc).chan 2).curFc = none ∧
      ((controlled badFc).chan 2).fcWord = some badFc ∧ fcsOk badFc = false ∧
      (fcsOk foreignFc = true ∧ (controlled foreignFc).fcForeign 2 (fcParse foreignFc) = true) ∧
      (fcsOk ackFc = true ∧ (controlled ackFc).fcForeign 2 (fcParse ackFc) = false ∧
        (controlled ackFc).peerOk 2 (fcParse ackFc).src = true ∧ (fcParse ackFc).typ = 1)) := by decide +kernel

/-- A window of 2 k samples over ones that turn to minus ones in its second half, and its correlation. -/
theorem window_of_step (n m k t : Nat) (h1 : 2 * k ≤ t + 1) (h2 : t + 1 ≤ n + m) (h3 : n ≤ t + 1) :
    (⟨0, List.replicate n 1 ++ List.replicate m (-1)⟩ : SampRun).last t (2 * k)
      = some (List.replicate (n + 2 * k - (t + 1)) 1 ++ List.replicate (t + 1 - n) (-1)) ∨ n + 2 * k < t + 1 := by
  by_cases h4 : t + 1 ≤ n + 2 * k
  · left
    unfold SampRun.last SampRun.span
    rw [if_pos h1, if_pos (by simp only [List.length_append, List.length_replicate]; omega)]
    simp only [Nat.sub_zero, List.drop_append, List.drop_replicate, List.take_append, List.take_replicate, List.length_replicate]
    rw [show min (2 * k) (n - (t + 1 - 2 * k)) = n + 2 * k - (t + 1) by omega,
      show min (2 * k - (n - (t + 1 - 2 * k))) (m - (t + 1 - 2 * k - n)) = t + 1 - n by omega]
  · right; omega

theorem correlation_of_step (a b k : Nat) (h : k ≤ a) (h2 : a + b = 2 * k) :
    (List.zipWith (· * ·) ((List.replicate a (1 : Int) ++ List.replicate b (-1)).take k)
      ((List.replicate a (1 : Int) ++ List.replicate b (-1)).drop k)).foldl (· + ·) 0 = (a : Int) - k - b := by
  simp only [List.drop_append, List.drop_replicate, List.take_append, List.take_replicate, List.length_replicate]
  rw [show min k a = (a - k) + b by omega, show min (k - a) b = 0 by omega, show b - (k - a) = b by omega, List.replicate_zero,
    List.append_nil, List.replicate_add, List.zipWith_append (by simp), List.zipWith_replicate, List.zipWith_replicate,
    ← List.sum_eq_foldl]
  simp only [min_self, mul_one, List.sum_append, List.sum_replicate, one_mul, nsmul_eq_mul]
  omega

theorem syncFrac_of (r : SampRun) (t : Nat) (h : ∀ i : Nat, i ≤ 256 →
    ((r.last (t + 511 + i) 2048).map correlation).getD 0 = -2 * (i : Int)) : r.syncFrac t = some 0 := by
  unfold SampRun.syncFrac
  extract_lets c
  have hc : ∀ i : Nat, i ≤ 256 → c i = -2 * (i : Int) := h
  clear_value c
  rw [if_pos]
  · rw [hc 0 (by omega)]; simp
  · refine ⟨by rw [hc 0 (by omega)]; simp, ?_⟩
    rw [List.all_eq_true]
    intro i hi
    have := List.mem_range.1 hi
    rw [hc (i + 1) (by omega), decide_eq_true_eq]
    omega

theorem witness_syncPoint :
    let s := sampled .qualified inverting
    (s.chan 2).rx.syncFrac 2000 = some 0 ∧ ((s.chan 2).rx.span 976 2048).isSome = true ∧ (s.chan 2).det = .qualified ∧
       2000 ≤ (s.chan 2).detAt + 2048 ∧ s.listens 2 = true ∧ (s.chan 2).cont = none ∧
       s.selfSync 2000 (2000 - s.slotTick (s.slotAt 2000)) 0 = false := by
  refine ⟨?_, by decide +kernel, by decide +kernel, by decide +kernel, by decide +kernel, by decide +kernel, by decide +kernel⟩
  have e : ((sampled .qualified inverting).chan 2).rx = ⟨0, inverting⟩ := by simp only [sampled, State.chan_setChan_same]
  have c (i : Nat) (hi : i ≤ 256) :
      ((((sampled .qualified inverting).chan 2).rx.last (2000 + 511 + i) 2048).map correlation).getD 0 = -2 * (i : Int) := by
    have w := window_of_step 2000 1100 1024 (2000 + 511 + i) (by omega) (by omega) (by omega)
    rcases w with w | w
    · have k := correlation_of_step (2000 + 2 * 1024 - (2000 + 511 + i + 1)) (2000 + 511 + i + 1 - 2000) 1024 (by omega) (by omega)
      rw [e]
      unfold inverting
      rw [show (2048 : Nat) = 2 * 1024 from rfl, w, Option.map_some, Option.getD_some]
      unfold correlation
      rw [k]; omega
    · omega
  exact syncFrac_of _ _ c

/-- Decoded frames held: an RxFrame of one block that carries the bytes `p`. -/
def rxFrame (fc : FC) (p : List Byte) : RxFrame :=
  { at_ := 0, fc := fc, blocks := [⟨0, 0, 8 * p.length, 0, true, some (scramble fc.link (bytesToBits p), false)⟩] }
/-- Work of both pools under way, for a frame of one block each, and one that waited 64 slots. -/
def busy : State :=
  let s := (up.setFld .COD_POOL_STATUS_vit_units 0 48).setFld .COD_POOL_STATUS_ldpc_units 0 32
  let s := s.setChan 2 { rxq := [{ at_ := 0, fc := fc0, blocks := [⟨0, 0, 0, 0, true, none⟩] }] }
  { s with grid := { s.grid with work := [⟨0, 2, 0, 3, 0, true, 0, 0⟩, ⟨1, 2, 0, 3, 0, true, 0, 0⟩, ⟨1, 2, 2, 3, 64, false, 0, 0⟩] } }

theorem witness_SymbolsAndDecoderWork :
    (let s := (chan 3).setChan 2 { det := .inFrame, rx := ⟨0, List.replicate 20000 0⟩ }
     s.symKind 2 s.grid.slot = some .fc ∧ s.bodyTick 2 s.grid.slot .fc + 8192 ≤ 20000 ∧ (s.chan 2).rx.start = 0) ∧
    (let s := (chan 3).setChan 2 { det := .inFrame, rx := ⟨0, List.replicate 40000 0⟩, curFc := some { fc0 with body := 2 ^ 43 } }
     s.symKind 2 s.grid.slot = some (.payload 0) ∧ s.bodyTick 2 s.grid.slot (.payload 0) + 8192 ≤ 40000 ∧ (s.chan 2).rx.start = 0) ∧
    (busy.fld .COD_POOL_STATUS_vit_units 0 ≠ 0 ∧ busy.fld .COD_POOL_STATUS_ldpc_units 0 ≠ 0 ∧ busy.isFenced blkVit 47 = false ∧
      busy.isFenced (blkVit + 1) 31 = false ∧
      busy.grid.work.find? (fun x => x.pool == 0 && x.served) = some ⟨0, 2, 0, 3, 0, true, 0, 0⟩ ∧
      busy.grid.work.find? (fun x => x.pool == 1 && x.served) = some ⟨1, 2, 0, 3, 0, true, 0, 0⟩ ∧
      ((busy.chan 2).rxq.find? (fun x => x.at_ == 0)).map (fun f => f.blocks[0]?.isSome) = some true) ∧
    busy.grid.work.find? (fun x => decide (64 ≤ x.age) && decide (x.prio < 3) && !x.served)
      = some ⟨1, 2, 2, 3, 64, false, 0, 0⟩ := by decide +kernel

/-- A channel that has received segment 0 of station 5, with a decoded frame held, and a DATA frame control that asks for an
acknowledgement. -/
def heard (st : Nat) (fr : RxFrame) : State :=
  let s := chan st
  let s : State := { s with dlv := { s.dlv with rxFlows := [⟨2, 5, false, 0, 1, [], []⟩], seen := [⟨1, 7, 9, 0, 10⟩] }
                            pat := { s.pat with doms := [⟨1, 2 ^ 2⟩] } }
  (s.setFld .GLB_FEAT_FORCE_force 0 (2 ^ 10)).setChan 2 { rxq := [fr] }
def fcData : FC := { fc0 with body := 2 ^ 36 }
def fcFl : FC := { fc0 with dst := 0xFFFF, body := 2 ^ 35 }
def dataFrame : RxFrame := rxFrame fcData (segBytes 1 0 3 [65])
/-- A flood header of origin 7 and sequence 9, with its CRC. -/
def floodHead : List Byte :=
  let h := be 2 0x0100 ++ be 2 7 ++ be 2 9
  h ++ be 2 (crc 16 0x1021 0xFFFF (bytesToBits h))
/-- A beacon of no windows. -/
def beacon : List Byte :=
  let b : List Byte := [1, 1, 0, 0, 0] ++ be 2 77 ++ List.replicate 17 0
  b ++ crc32Bytes b
def beaconFrame : RxFrame := rxFrame { fc0 with typ := 2 } beacon

theorem witness_FramesOfTheLinkAreTaken :
    ((chan 3).chan 2).rxq = [] ∧
    (let s := heard 3 dataFrame
     s.heard 2 (fun fc => (fc.typ == 0 || fc.typ == 3 || fc.typ == 5) && !fcFlood fc) = some dataFrame ∧ s.frameMine 2 fcData = true ∧
       s.chState 2 ≠ chQuiet ∧ fcAckReq fcData = true ∧ fcData.dst ≠ 0xFFFF ∧ fcEnc fcData = false ∧
       frameSegs fcData dataFrame.payload.1 dataFrame.payload.2 = [⟨0, 1, 1, 0, 3, (segBytes 1 0 3 [65]).take 8, [65], true⟩] ∧
       (RawSeg.mk 0 1 1 0 3 ((segBytes 1 0 3 [65]).take 8) [65] true).malformed = false ∧
       (s.rxFlow 2 fcData.src false).ch = 2 ∧ (s.rxFlow 2 fcData.src false).held = [] ∧
       (s.rxFlow 2 fcData.src false).pools = [] ∧ (s.rxFlow 2 fcData.src false).map.testBit 0 = true) ∧
    (let s := heard 3 (rxFrame fcFl floodHead)
     s.heard 2 (fun fc => (fc.typ == 0 || fc.typ == 3 || fc.typ == 5) && fcFlood fc) = some (rxFrame fcFl floodHead) ∧
       s.frameMine 2 fcFl = true ∧ (rxFrame fcFl floodHead).payload.1 = floodHead ∧ (rxFrame fcFl []).payload.1.length < 8 ∧
       8 ≤ floodHead.length ∧ crc 16 0x1021 0xFFFF (bytesToBits (slice floodHead 0 6)) = beAt floodHead 6 2 ∧
       s.floodDomain 2 = some 1 ∧
       ∃ e ∈ s.dlv.seen, e.domain = 1 ∧ e.origin = beAt floodHead 2 2 ∧ e.oseq = beAt floodHead 4 2) ∧
    (let s := heard 2 beaconFrame
     s.heard 2 (fun fc => fc.typ == 2) = some beaconFrame ∧ s.rxUp 2 = true ∧ s.chState 2 ≠ chLive ∧
       beaconFrame.fc.link = s.fld .CHN_CFG_link_id 2 ∧ s.fld .CHN_STATUS_role 2 = 0 ∧
       (s.setFld .CHN_STATUS_role 2 1).rxUp 2 = true ∧ (s.setFld .CHN_STATUS_role 2 1).chState 2 ≠ chLive ∧
       (s.setFld .CHN_STATUS_role 2 1).fld .CHN_STATUS_role 2 ≠ 0 ∧ beaconFrame.payload = (beacon, []) ∧ bcnOk beacon = true ∧
       (s.setFld .CHN_STATUS_role 2 1).peerOk 2 beaconFrame.fc.src = true) := by decide +kernel

/-- A frame of class 2 that waits for its ACK, and that ACK; a message from panel 3 to encrypt, with no key; one received, two
Hems old. -/
def waiting : Frame := { ackFrame with kind := .data, slot := 0, fc := { fc0 with prio := 2, src := 0, dst := 5 } }
def ackHeard : RxFrame := { at_ := 0, fc := { fc0 with typ := 1, prio := 2, src := 5, dst := 0 } }
def secret : QMsg := ⟨3, 0, 2, false, 2, 5, 1, false, true, [1], 0, none⟩
def oldMsg : RxMsg := ⟨1, 2, 5, 0, false, [1], none, 2⟩
def delivering : State :=
  let s := (chan 2).setChan 2 { await := [waiting], rxq := [ackHeard] }
  { s with dlv := { s.dlv with done := [oldMsg], seen := [⟨1, 7, 9, 0, 0⟩] }, host := { s.host with queues := [secret] }
           bob := { s.bob with bobs := [(0, { role := 1, owner := List.replicate 8 2 })] } }
/-- A frame that may leave port 1. -/
def leaving : State :=
  let s := up.setFlag .HST_PORT_STATUS_link_up 1 true
  { s with host := { s.host with egress := [⟨3, 3, 2, 0, [1], false⟩] } }

theorem witness_AcknowledgementsAndDeadlines :
    (let s := delivering.setChan 2 { rxq := [ackHeard] }
     s.heard 2 (fun fc => fc.typ == 1) = some ackHeard ∧ s.chState 2 = chTraining ∧ (s.chan 2).await = []) ∧
    (delivering.heard 2 (fun fc => fc.typ == 1) = some ackHeard ∧ delivering.chState 2 = chTraining ∧
      (delivering.chan 2).await.find? (fun x => x.fc.dst == 5 && x.fc.prio == 2) = some waiting ∧
      delivering.frameMine 2 ackHeard.fc = true ∧ delivering.dlv.segs = [] ∧ delivering.dlv.txMsgs = [] ∧
      waiting.mids = [] ∧ waiting.fc.prio < 3 ∧ (delivering.chan 2).cw.length = 3) ∧
    (delivering.chan 2).await = waiting :: [] ∧
    delivering.dlv.done.find? (fun x => decide (2 ≤ x.hems)) = some oldMsg ∧
    firstSeen delivering.dlv.seen = some ⟨1, 7, 9, 0, 0⟩ ∧
    (up.host.queues = [] ∧ up.pat.contacts.groups = [] ∧ up.pat.serial = []) ∧
    ((delivering.queueHeads 2).find? (fun x => x.prio == 3 && (delivering.takeMsg x).isSome) = none ∧
      delivering.sliceAt 2 = some 0 ∧ (delivering.queueHeads 2).filter (fun x => x.prio != 3) = secret :: [] ∧
      (delivering.reach 0).takeMsg secret = some ((delivering.dequeue secret).bump .SEC_CNT_enc_nokey 0) ∧
      ((delivering.dequeue secret).bump .SEC_CNT_enc_nokey 0).pat.contacts.groups = [] ∧
      ((delivering.dequeue secret).bump .SEC_CNT_enc_nokey 0).pat.serial = []) ∧
    (let m : QMsg := { secret with prio := 3 }
     let s : State := { delivering with host := { delivering.host with queues := [m] } }
     (s.queueHeads 2).find? (fun x => x.prio == 3 && (s.takeMsg x).isSome) = some m ∧ (s.takeMsg m).isSome = true) ∧
    (up.host.ohiIn = [] ∧ up.linkUp 1 = false) ∧
    (leaving.host.ohiIn = [] ∧ leaving.linkUp 1 = true ∧ leaving.host.egMs = leaving.tick / 200000 ∧
      (∀ o ∈ leaving.tim.out, o.port ≠ 1) ∧ leaving.nextEgress 1 = some ⟨3, 3, 2, 0, [1], false⟩ ∧ leaving.dlv.done = []) := by
  decide +kernel

/-- One bit on every data carrier of the channel, and its MAP. -/
def ones : List Nat := List.replicate ((chan 3).dCount 2) 1
def mapMsg : List Byte := tmBytes 1 7 1 0 0 0 0 ones.length ones.length 3 2 ones

theorem witness_ToneMapMessagesAreObeyed :
    (msgOp [0, 1] = 1 ∧ msgOp [0, 2] = 2 ∧ msgOp [0, 3] = 3 ∧ msgOp [0, 4] = 4 ∧ msgOp [0, 5] = 5 ∧
      ∀ op ∈ [1, 2, 3, 4, 5], tmRead 8 false [0, op] = .bad) ∧
    (msgOp mapMsg = 1 ∧ tmRead ((chan 3).dCount 2) ((chan 3).inForce 3) mapMsg
      = .ok 1 7 0 0 2 (some ⟨1, 0, 0, 0, ones.length, 3, 2, ones⟩)) ∧
    (msgOp (tmBytes 2 0 0 0 1 0 15 0 0 0 0 []) = 2 ∧ tmRead 8 false (tmBytes 2 0 0 0 1 0 15 0 0 0 0 []) = .ok 2 0 15 1 0 none) ∧
    (msgOp (tmBytes 3 0 0 0 1 0 0 0 0 0 0 []) = 3 ∧ tmRead 8 false (tmBytes 3 0 0 0 1 0 0 0 0 0 0 []) = .ok 3 0 0 1 0 none) ∧
    (msgOp (tmBytes 4 0 0 0 1 0 4 0 0 0 2 []) = 4 ∧ tmRead 8 false (tmBytes 4 0 0 0 1 0 4 0 0 0 2 []) = .ok 4 0 4 1 2 none) ∧
    (msgOp (tmBytes 5 7 0 0 1 0 0 0 0 0 0 []) = 5 ∧ tmRead 8 false (tmBytes 5 7 0 0 1 0 0 0 0 0 0 []) = .ok 5 7 0 1 0 none) := by
  decide +kernel

/-- A SOUND frame of 15 symbols received, in a step or not; and the end of a step. -/
def soundFrame (step : Bool) : RxFrame :=
  { at_ := 0, fc := { fc0 with typ := 4, dst := 0xFFFF, body := 15 * 2 ^ 43 }, cells := List.replicate 15 [], stepped := step }
def stepping3 : State := (chan 3).setFld .CHN_TM_STATUS_step_active 2 1
/-- A SOUND asked for and a map to retire. -/
def sounding : State := (chan 3).setChan 2 { soundOut := some 4, retire := [(7, 0)] }

theorem witness_SoundsRefreshTheEstimates :
    (∀ b : Bool, ∀ st ∈ [2, 3], (heard st (soundFrame b)).heard 2 (fun fc => fc.typ == 4) = some (soundFrame b) ∧
      ((heard st (soundFrame b)).chState 2 = chTraining ∨ (heard st (soundFrame b)).chState 2 = chLive) ∧
      4 ≤ (soundFrame b).cells.length ∧ (soundFrame b).cells.length ≤ 15 ∧
      (heard st (soundFrame b)).frameMine 2 (soundFrame b).fc = true ∧ (soundFrame b).stepped = b) ∧
    (stepping3.fld .CHN_TM_STATUS_step_active 2 = 1 ∧ stepping3.inPayload 2 = false ∧ stepping3.rxGeneralMap 2 = none) ∧
    ((sounding.chan 2).soundOut = some 4 ∧ (sounding.chan 2).retire = (7, 0) :: [] ∧ sounding.chState 2 = chLive) := by decide +kernel

/-- Overlock's class 0 in force on a channel LIVE, sync symbol 63 known, with one pair learning, active and held. -/
def overlock : State :=
  let s := ((chan 3).setFld .GLB_FEAT_FORCE_force 0 (1 + 2 ^ 13)).setFld .PNL_STATUS_rights 3 1
  { s with ola := { s.ola with dsync := [(2, 63)], pairs := [(pairKey 0 2 0, { st := .learn }), (pairKey 0 2 1, { st := .active }),
                                                             (pairKey 0 2 39, { st := .held, hold := 65535 })] } }
/-- The same with a list of one disturber: two slots of channel 2, its own and channel 5's, have a disturber. -/
def shortList : State :=
  { overlock with pat := { overlock.pat with types := [6], olaItems := [⟨0, 2, 0, [5]⟩] }, ola := { overlock.ola with pairs := [] } }
/-- An error report of sync symbol 63: empty, or a part. -/
def noErrors : List Byte := [0xE1, 1, 63, 0, 1, 0, 0, 0]
def part (n : Nat) : List Byte := [0xE1, 1, 63, 3, 0, byte n, 0, 0] ++ List.replicate 1024 0

theorem witness_OverlockReportsAndPairs :
    (beAt [0xE0] 0 1 ≠ 0xE1) ∧
    (beAt noErrors 0 1 = 0xE1 ∧ beAt noErrors 1 1 = 1 ∧ beAt noErrors 5 1 = 0 ∧ bit (beAt noErrors 4 1) 0 = true ∧
      noErrors.length = 8 ∧ overlock.ola.dsync.contains (2, beAt noErrors 2 1) = true ∧ overlock.reportLate (beAt noErrors 2 1) = false) ∧
    (beAt (part 1) 0 1 = 0xE1 ∧ beAt (part 1) 1 1 = 1 ∧ beAt (part 1) 5 1 ≤ 1 ∧ bit (beAt (part 1) 4 1) 0 = false ∧
      (part 1).length = 1032 ∧ overlock.ola.dsync.contains (2, beAt (part 1) 2 1) = true ∧ overlock.reportLate (beAt (part 1) 2 1) = false ∧
      overlock.ola.parts.find? (fun p => p.ch == 2 && p.t == beAt (part 1) 2 1) = none) ∧
    (overlock.reportLate 63 = false ∧ ({ overlock with grid := { overlock.grid with hem := 256 } } : State).reportLate 63 = true) ∧
    (overlock.victimIdx 0 2 = some 2 ∧ (overlock.pair 0 2 39).st = .held ∧
      (overlock.setFld .OLA_HOLD0_next_hold 0 0).holdTime 0 = 0 ∧
      (overlock.setFld .OLA_HOLD0_next_hold 0 9).holdTime 0 ≠ 0 ∧ (overlock.setFld .OLA_HOLD0_next_hold 0 9).holdTime 0 ≤ (overlock.pair 0 2 39).hold) ∧
    (overlock.Takes c3 ∧ overlock.mayName c3.pnl 2 = true ∧ overlock.olaForce 0 = true ∧ 39 < (overlock.olaClass 0).nd ∧ overlock.expertOk c3.pnl = true ∧
      74 + 5 ≤ 1098 ∧ 1086 + (List.replicate 12 0).length ≤ 1098 ∧ pairActive (overlock.pair 0 2 1) = true ∧ (overlock.pair 0 2 0).st = .learn ∧
      0 < (overlock.olaSlots 0 2).length ∧ (overlock.setFld .PNL_STATUS_rights 3 0).expertOk c3.pnl = false) ∧
    (shortList.Takes c3 ∧ shortList.mayName c3.pnl 2 = true ∧ shortList.olaForce 0 = true ∧ shortList.victimIdx 0 2 = some 0 ∧
      39 < (shortList.olaClass 0).nd ∧ shortList.expertOk c3.pnl = true ∧ pairActive (shortList.pair 0 0 39) = false ∧
      (shortList.olaSlots 0 2).length ≤ 39) ∧ sealing.grid.running = true := by decide +kernel

/-- A handover header: kind, class, target and endpoint, with one byte; and panel 3 with its channel 2 and 5 credits of queue 7. -/
def handed (kind prio target ep : Nat) : List Byte := (HoHdr.bytes ⟨1, kind, prio, 0, target, 0, ep, 0, 1, 0, 0, 0⟩) ++ [7]
def host3 : State :=
  let s := (chan 3).setFld .DLV_CFG_abandon_ms 0 2000
  { s with pat := { s.pat with panels := [{ panel := 3, mgmtVid := 7, ipv4 := 9, portCfg := 3 }] }
           host := { s.host with credits := [(8 * 3 + 7, 5)], queues := [{ secret with cls := 7 }] } }
/-- A gratuitous frame: an ARP request for address 9. -/
def arp : List Byte :=
  be 6 0xFFFFFFFFFFFF ++ be 6 1 ++ be 2 0x0806 ++ be 2 1 ++ be 2 0x0800 ++ [6, 4] ++ be 2 1 ++ be 6 1 ++ be 4 8 ++ be 6 0 ++ be 4 9

theorem witness_HostMessagesAreCheckedAndQueued :
    ((host3.panelItem 3).isSome = true ∧ (hoParse (handed 1 0 2 1)).kind ≠ 2 ∧ (hoParse (handed 2 0 0 1)).kind ≠ 1) ∧
    (hoBad (hoParse (handed 1 4 2 1)) (handed 1 4 2 1) = true) ∧
    (hoBad (hoParse (handed 1 0 3 1)) (handed 1 0 3 1) = false ∧ host3.hoDenied 3 (hoParse (handed 1 0 3 1)) = true) ∧
    (hoBad (hoParse (handed 1 3 2 1)) (handed 1 3 2 1) = false ∧ host3.hoDenied 3 (hoParse (handed 1 3 2 1)) = false ∧
      host3.hoNoRight 3 (hoParse (handed 1 3 2 1)) = true) ∧
    (hoBad (hoParse (handed 1 2 2 0xFEFF)) (handed 1 2 2 0xFEFF) = false ∧ host3.hoDenied 3 (hoParse (handed 1 2 2 0xFEFF)) = false ∧
      host3.hoNoRight 3 (hoParse (handed 1 2 2 0xFEFF)) = false ∧ (hoParse (handed 1 2 2 0xFEFF)).prio ≠ 3 ∧
      (hoParse (handed 1 2 2 0xFEFF)).hasLaunch = false ∧ host3.credit 3 0 = 0 ∧ host3.credit 3 7 ≠ 0 ∧ host3.protCount 3 < 64) ∧
    (host3.host.queues.find? (fun x => x.panel == 3 && (if 7 = 8 then x.prio == 3 else x.prio != 3 && x.cls == 7))
        = some { secret with cls := 7 } ∧ host3.tick < 0 + host3.queueAge { secret with cls := 7 } ∧
      0 + host3.queueAge { secret with cls := 7 } ≤ ({ host3 with tick := 400000000 } : State).tick) ∧
    (host3.linkUp 1 = false ∧ leaving.linkUp 1 = true ∧ (List.replicate 59 (0 : Byte)).length < 60) ∧
    (host3.mgmtPanel 7 = some { panel := 3, mgmtVid := 7, ipv4 := 9, portCfg := 3 } ∧ (ethParse arp).etype = 0x0806 ∧
      beAt (ethParse arp).body 6 2 = 1 ∧ beAt (ethParse arp).body 24 4 = 9 ∧ host3.prpOn = false) ∧
    (let s := up.setFlag .HST_STATUS_prp_on 0 true
     let s : State := { s with pat := { s.pat with ports := { s.pat.ports with prpLifeMs := 1 } } }
     s.prpOn = true ∧ 0 < s.pat.ports.prpLifeMs) ∧ up.Takes c3 := by decide +kernel

/-- Port 0 a transparent clock with port 1 beside it, or a port of PTP timebase 1, with a peer delay of port 0. -/
def clocked (tc : Bool) : State :=
  let s := (up.setFld .TIM_TB_CFG_role 1 2).setFld .TIM_TB_CFG_domain 1 4
  let s : State := { s with pat := { s.pat with tbs := { s.pat.tbs with tcOn := tc, tcEth0 := true, tcEth1 := true, tbs := [⟨1, 2, 4, if tc then 0 else 1, 0xFF, 0, 0, 0, 0, 0⟩] } } }
  { s with tim := { s.tim with pd := [(0, { seq := 5, t1 := some 1, t2 := some 2, d := none }), (1, { d := some 3 })] } }
def withD (s : State) : State := { s with tim := { s.tim with pd := [(0, { seq := 5, d := some 3 })] } }
def master : Gm := ⟨0, 1, 1, [], 0⟩
/-- An answer to port 0's peer delay request. -/
def answer (typ : Nat) (two : Bool) : PtpMsg :=
  ⟨typ, 2, 0, two, 0, 9, 1, 5, 0, 0, List.replicate 44 0 ++ be 8 up.clockId ++ be 2 1⟩

theorem witness_PtpMessagesAreForwardedAndAnswered :
    ({ ptp0 with ver := 1 }.ver ≠ 2 ∧ ptp0.ver = 2 ∧ ptp0.typ = 0) ∧
    ((up.pd 0).d = none ∧ ((withD (clocked true)).pd 0).d = some 3) ∧
    (let s := withD (clocked true)
     s.tcPort 0 = true ∧ s.ptpTbs 0 = [] ∧ s.tcPorts.filter (· != 0) = [1] ∧ s.tim.fwd = []) ∧
    (let s := withD (clocked true)
     let s : State := { s with tim := { s.tim with fwd := [⟨1, 1, 0, 0, 1, 0⟩] }, tick := 200000000 }
     s.tcPort 0 = true ∧ s.tim.fwd.any (fun x => x.srcId == ptp0.srcId && x.srcPort == ptp0.srcPort && x.domain == ptp0.domain
       && x.typ == 0 && x.seq == ptp0.seq && decide (s.tick ≤ x.tick + 200000000)) = true) ∧
    (let s := (withD (clocked false)).setTb 1 { gms := [master], wait := [⟨1, 1, 1, 0, 0, 0, 0⟩] }
     s.tcPort 0 = false ∧ s.ptpTbs 0 = [1] ∧ (s.tb 1).best = some master ∧ { ptp0 with domain := 4 }.domain = s.fld .TIM_TB_CFG_domain 1 ∧
       master.srcId = ptp0.srcId ∧ master.srcPort = ptp0.srcPort ∧ (s.tb 1).lastSync ≠ some (ptp0.srcId * 65536 + ptp0.srcPort, ptp0.seq) ∧
       ptp0.twoStep = true ∧ (s.tb 1).wait.find? (fun w => w.srcId == ptp0.srcId && w.srcPort == ptp0.srcPort && w.seq == ptp0.seq)
         = some ⟨1, 1, 1, 0, 0, 0, 0⟩) ∧
    (up.tcPort 0 = false ∧ up.ptpTbs 0 = [] ∧ up.pdPort 0 = false) ∧
    ((clocked true).pdPort 0 = true ∧ (clocked true).pdMine 0 ptp0 = false ∧ (clocked true).pdMine 0 (answer 3 true) = true ∧
      (clocked true).pdMine 0 (answer 3 false) = true ∧ (clocked true).pdMine 0 (answer 0xA true) = true ∧
      ((clocked true).pd 0).t1 = some 1 ∧ ((clocked true).pd 0).t2 = some 2 ∧ ((clocked true).pd 0).d = none) ∧
    (let o : PtpOut := ⟨1, ptp0, .plain, 0, 0, some 100⟩
     let s : State := { up with tim := { up.tim with out := [o] } }
     s.tim.out.find? (fun o => o.port == 1 && o.launch.isSome) = some o ∧ o.launch = some 100 ∧ 100 < max s.tick 101 ∧
       max s.tick 100 ≤ 100) := by decide +kernel

/-- Timebase 7 with role `r` in state `st`, with an anchor; and a pair whose output is timebase 4. -/
def timed (r st : Nat) : State :=
  let s := (up.setFld .TIM_TB_CFG_role 7 r).setFld .TIM_TB_STATUS_tb_state 7 st
  s.setTb 7 { anchors := [⟨0, 0, 0, 0, 0, true⟩] }
def paired : State :=
  let s := ((timed 1 2).setFld .TIM_TB_CFG_role 4 4).setFld .GLB_FEAT_FORCE_force 0 (2 ^ 8)
  let s : State := { s with pat := { s.pat with tbs := { s.pat.tbs with pairs := [⟨4, 7, 6, 100, 0⟩] } } }
  s.setTb 4 { anchors := [⟨0, 0, 0, 5, 200, false⟩] }

/-- The pair with nothing left to slew; and a timebase 0 that drives PPS, a second after tick 0. -/
def settled : State := paired.setTb 4 { anchors := [⟨0, 0, 0, 0, 0, false⟩] }
def turning : State := (up.setFld .TIM_TB_CFG_role 0 1).setTb 0 { anchors := [⟨0, 0, 0, 0, 0, false⟩] }

theorem witness_TimebasesFollowTheirOffsets :
    (7 < 8 ∧ (timed 2 0).pairs = [] ∧ (timed 2 0).fld .TIM_TB_STEP_step_ns 7 = 0 ∧ (timed 2 0).fld .TIM_TB_STATUS_tb_state 7 = 0) ∧
    (¬((timed 2 3).fld .TIM_TB_STATUS_tb_state 7 = 1 ∨ (timed 2 3).fld .TIM_TB_STATUS_tb_state 7 = 2) ∧
      (timed 2 2).fld .TIM_TB_STATUS_tb_state 7 = 2) ∧
    (paired.pairs.find? (fun q => q.2 == 0) = some (⟨4, 7, 6, 100, 0⟩, 0) ∧ (paired.lastAnchor 4).phi ≠ 0 ∧
      (paired.lastAnchor 4).slew ≠ 0 ∧ (settled.pairs.find? (fun q => q.2 == 0)).isSome = true ∧ (settled.lastAnchor 4).phi = 0) ∧
    ((∀ k : Nat, k < 8 → up.tbRole k ≠ 3) ∧ (timed 3 0).tbRole 7 = 3 ∧ ∀ j : Nat, j < 8 → j ≠ 7 → (timed 3 0).tbRole j ≠ 3) ∧
    ((up.setFld .TIM_TB_CFG_role 0 0).tbRole (up.setFld .TIM_TB_CFG_role 0 0).pat.tbs.ppsSrc = 0 ∧
      turning.tbRole turning.pat.tbs.ppsSrc ≠ 0 ∧
      turning.tbAt turning.pat.tbs.ppsSrc 200000000 / secUnits ≠ turning.tbAt turning.pat.tbs.ppsSrc 199999999 / secUnits ∧
      turning.tbAt turning.pat.tbs.ppsSrc 2 / secUnits = turning.tbAt turning.pat.tbs.ppsSrc 1 / secUnits) ∧
    ({ up with tim := { up.tim with todDue := some (1, 37, 2) } } : State).tim.todDue = some (1, 37, 2) ∧
    ((timed 5 0).Takes c0 ∧ c0.pnl = 0 ∧ (timed 5 0).tbRole 7 = 5 ∧ (timed 5 0).pairs = [] ∧ 999999999 ≤ 999999999 ∧
      (signed 32 51200000).natAbs ≤ 51200000 ∧ (timed 4 0).tbRole 7 = 4 ∧ (timed 1 0).tbRole 7 = 1) ∧
    (paired.inForce 8 = true ∧ paired.pairs.find? (fun q => q.1.out == 4) = some (⟨4, 7, 6, 100, 0⟩, 0) ∧ paired.tbRole 4 = 4 ∧ paired.tbQualified 6 = false ∧
      paired.tbQualified 7 = true ∧
      (paired.setFlag .TIM_PAIR_STATUS_on_secondary 0 true).pairSrc (⟨4, 7, 6, 100, 0⟩, 0) ≠ 7) ∧
    (((timed 1 2).tb 7).anchors.find? (fun a => a.tick ≤ 0) = some ⟨0, 0, 0, 0, 0, true⟩ ∧ 0 ≤ (timed 1 2).tick) := by decide +kernel

/-- Channel 2's gauge in state `g`, its lane ALIGNED, excitation by intervals, checks every minute. -/
def gauged (g : Nat) : State :=
  let s := ((chan 3).setFld .GAU_CH_STATUS_g_state 2 g).setFlag .GAU_CH_CFG_exc_on 2 true
  s.setGauge 2 { item := { channel := 2, flags := 2, chkInterval := 60 }, next := [none, some 4], chainI := { ready := [(5, 0, 1)] }
                 chainQ := { ready := [(5, 0, 1)] } }

theorem witness_GaugeSamplesExcitationAndChecks :
    (((gauged 0).gauge 2).next.getD 1 none ≠ some 3 ∧ ((gauged 0).gauge 2).next.getD 1 none = some 4 ∧ ((gauged 0).gauge 2).wait = [] ∧
      ((gauged 0).gauge 2).prev.length = 2) ∧
    (((gauged 0).gauge 2).item.flag 1 = true ∧ (gauged 0).gState 2 = gIdle ∧ (gauged 0).flag .GAU_CH_CFG_exc_on 2 = true ∧
      (gauged 0).laneAligned (headOf 2) = true ∧ ((gauged 1).gauge 2).item.flag 1 = true ∧ (gauged 1).gState 2 = gExciting) ∧
    (((gauged 0).gauge 2).item.chkInterval ≠ 0 ∧ (gauged 0).flag .GAU_CH_STATUS_no_gauge 2 = false ∧
      (gauged 1).laneAligned (headOf 2) = true ∧ (gauged 1).flag .GAU_CH_STATUS_no_gauge 2 = false) ∧
    (((gauged 0).gauge 2).chainI.ready = (5, 0, 1) :: [] ∧ ((gauged 0).gauge 2).chainQ.ready = (5, 0, 1) :: [] ∧
      ((gauged 0).gauge 2).chainI.outN + 1 ≠ ((gauged 0).gauge 2).chainQ.outN ∧
      ((gauged 0).gauge 2).chainQ.outN + 1 ≠ ((gauged 0).gauge 2).chainI.outN ∧ ((gauged 0).gauge 2).chainV.ready = []) ∧
    ((gauged 0).Takes c3 ∧ (gauged 0).mayName c3.pnl 2 = true ∧ up.Takes c0 ∧ up.mayName c0.pnl 191 = true ∧
      up.laneAligned (headOf 191) = false ∧ (gauged 2).Takes c3 ∧ (gauged 2).mayName c3.pnl 2 = true ∧
      (gauged 2).laneAligned (headOf 2) = true ∧ (gauged 2).flag .GAU_CH_STATUS_no_gauge 2 = false ∧ (gauged 2).gState 2 = gChecking) := by
  decide +kernel

/-- Cast on, channel 2 recording, with a region in state `st` of panel 3's export. -/
def cast (st : RegionSt) : State :=
  let s := ((chan 3).setFlag .SRG_STATUS_on 0 true).setFld .GLB_FEAT_FORCE_force 0 64
  let s : State := { s with pat := { s.pat with cast := { s.pat.cast with chans := 4, regions := 8 }, panels := [{ panel := 3 }] } }
  { s with gau := { s.gau with regions := [(0, { st := st, stop := 10, mask := 4, cmd := c3, cls := 7, expCh := 2 })]
                               blocks := [(2 * 16777216, { first := 0, gap := false, samples := [1, 2] })]
                               arrivals := [(4095, ⟨0, 0, 2, 0, 0, 9, 0, 0⟩)] } } |>.setChan 2 { rx := ⟨0, List.replicate 100 0 ++ List.replicate 201 3000⟩ }

theorem witness_CastRecordsArrivalsAndRegions :
    (up.rst.pwr ≠ .keep ∧ (tget {} 3 up.gau.blanks).high ≠ true ∧ (tget {} 3 up.gau.blanks).high = false ∧ up.armChans 3 = [] ∧
      up.castOn = false) ∧
    (tget {} 3 ({ up with gau := { up.gau with blanks := [(3, { high := true })] } } : State).gau.blanks).high = true ∧
    ((cast .held).castRecords 2 = true ∧
      (cast .held).inDead 2 100 = false ∧ (cast .held).waveD 2 99 = some 0 ∧ (cast .held).waveD 2 100 = some 3000 ∧
      absRat 0 < (cast .held).waveLimit 2 100 ∧ (cast .held).waveLimit 2 100 ≤ absRat 3000 ∧
      (∀ i : Nat, i < 200 → ((cast .held).waveD 2 (100 + 1 + i)).isSome = true) ∧
      ({ cast .held with gau := { (cast .held).gau with dead := [(2, 500)] } } : State).inDead 2 100 = true) ∧
    (((cast .collecting).region 0).st = .collecting ∧ up.flag .CHN_TM_STATUS_armed 2 = false ∧
      (up.setFlag .CHN_TM_STATUS_armed 2 true).flag .CHN_TM_STATUS_armed 2 = true) ∧
    (((cast .exporting).region 0).st = .exporting ∧ (cast .exporting).toHostRoom 3 7 = true ∧
      (cast .exporting).exportChan ((cast .exporting).region 0) 2 = some 2 ∧
      (cast .exporting).exportChan ((cast .exporting).region 0) 3 = none ∧
      exportPiece ((cast .exporting).heldBlocks ((cast .exporting).region 0) 2) 0 = some (0, [1, 2]) ∧
      (cast .exporting).panelItem 3 = some { panel := 3 } ∧ (cast .exporting).prpOn = false) ∧
    ((cast .held).Takes c0 ∧ (cast .held).Takes c3 ∧ (cast .held).inForce 6 = true ∧ 7 < (cast .held).pat.cast.regions ∧
      (∀ e ∈ (cast .held).gau.regions, e.2.st ≠ .collecting) ∧ ((cast .held).region 1).st = .free ∧
      (∀ q : Nat, q < 1 → ((cast .held).region q).st ≠ .free) ∧ ((cast .held).region 0).st = .held ∧
      (cast .exporting).Takes c0 ∧ (cast .exporting).inForce 6 = true ∧
      tfind 4095 (cast .held).gau.arrivals = some ⟨0, 0, 2, 0, 0, 9, 0, 0⟩) := by decide +kernel

/-- Serial port 7 of panel 3 with function `f` and class `cls`, `n` characters received and `m` to send. -/
def serial (f cls n m : Nat) : State :=
  (direct 0 0).setPort 7 { item := some { ser0 with function := f, cls := cls }, rx := List.replicate n 65, tx := List.replicate m 66 }

theorem witness_SerialPortsReceiveAndSend :
    ((up.port 7).item = none ∧ (({ (serial 1 0 0 0).port 7 with armed := false }) : SerPort).armed = false) ∧
    (((serial 1 0 63 0).port 7).item = some { ser0 with function := 1 } ∧ ((serial 1 0 63 0).port 7).armed = true ∧
      ((serial 1 0 63 0).port 7).rxPend = false ∧ ((serial 1 0 63 0).port 7).ovrNext = false ∧ ser0.function = 1 ∧ ser0.cls ≠ 1 ∧
      bit ser0.fmt 4 = false ∧ bit ser0.fmt 5 = false ∧ bit ser0.fmt 0 = true ∧ ((serial 1 0 63 0).port 7).rx.length < 64 ∧
      64 ≤ ((serial 1 0 64 0).port 7).rx.length) ∧
    (((serial 1 0 0 0).port 7).messages = false ∧ ((serial 2 0 0 0).port 7).messages = true ∧ ((serial 2 0 0 0).port 7).rx = [] ∧
      ((serial 2 0 0 0).port 7).ready = [] ∧ [65].any badChar = false ∧ [65 + 1024].any badChar = true) ∧
    (((serial 1 0 0 1).port 7).tx = 66 :: [] ∧ ((serial 1 0 0 1).port 7).swap = none ∧ ((serial 1 0 0 1).port 7).txPend = false ∧
      (serial 1 0 0 1).dlv.done = [] ∧ ((serial 1 0 0 1).port 7).tx ≠ [] ∧ ((serial 1 1 0 0).port 7).tx = [] ∧
      ((serial 1 1 0 0).port 7).swap = none ∧ ((serial 1 1 0 0).port 7).classF = true ∧ ((serial 1 1 0 0).port 7).shift = none) ∧
    ((serial 1 0 0 0).Takes c3 ∧ (serial 1 0 0 0).portOwner 7 = c3.pnl ∧ ((serial 1 0 0 0).port 7).func ≠ 0 ∧
      (up.port 7).func = 0 ∧ up.Takes c0) := by decide +kernel

/-- Contact 1 an input of group 15, contact 15 an output of mode `m` of the same group. -/
def input1 : ContactItem := ⟨1, 1, 15, 0, 5, 0, false, 0, 0⟩
def output15 (m : Nat) : ContactItem := ⟨15, 2, 15, 15, 0, m, false, 0, 10⟩
def contacts (m : Nat) : State :=
  let s := (((direct 0 0).setFld .CMD_CT_CFG_debounce 1 5).setFld .GLB_FEAT_FORCE_force 0 (2 ^ 13)).setFld .PNL_STATUS_rights 3 1
  let s : State := { s with pat := { s.pat with contacts := ⟨[input1, output15 m], [⟨15, 1, 2, true, 5, 1, 10⟩]⟩ } }
  s.setGroup 15 { built := true, seen := true, rxSeq := none }
def cmdMsg (seq : Nat) : List Byte := [0xC1, 1] ++ be 2 seq ++ be 2 0x8000 ++ be 2 0x8000

theorem witness_ContactsDebounceAndFollowCommands :
    ((contacts 0).isInput 1 = true ∧ xor false (((contacts 0).contact 1).any (·.invert)) = (contacts 0).inputOn 1 ∧
      xor true (((contacts 0).contact 1).any (·.invert)) ≠ (contacts 0).inputOn 1 ∧ (contacts 0).fld .CMD_CT_CFG_debounce 1 ≠ 0) ∧
    ((contacts 0).contact 1 = some input1 ∧ input1.function = 1 ∧
      tfind 1 ({ contacts 0 with cmd := { (contacts 0).cmd with edges := [(1, (true, 0))] } } : State).cmd.edges = some (true, 0) ∧
      xor true input1.invert ≠ (contacts 0).inputOn 1 ∧ tfind 1 (contacts 0).cmd.edges = none) ∧
    ((contacts 0).groupItem 15 = some ⟨15, 1, 2, true, 5, 1, 10⟩ ∧ ((contacts 0).group 15).built = true ∧
      (GroupItem.mk 15 1 2 true 5 1 10).refreshMs ≠ 0) ∧
    ((List.replicate 7 (0 : Byte)).length ≠ 8 ∧ (cmdMsg 0).length = 8 ∧ beAt (cmdMsg 0) 0 1 = 0xC1 ∧ beAt (cmdMsg 0) 1 1 = 1 ∧
      (((contacts 0).setGroup 15 { rxSeq := some 32768 }).group 15).rxSeq = some 32768 ∧
      32768 ≤ (beAt (cmdMsg 0) 2 2 + 65536 - 32768) % 65536 ∧ ((contacts 0).group 15).rxSeq = none ∧
      (contacts 0).groupOutputs 15 = [output15 0] ∧ bit (beAt (cmdMsg 0) 4 2) 15 = true ∧ (output15 0).mode ≠ 1) ∧
    ((contacts 0).contact 15 = some (output15 0) ∧ (output15 0).function = 2 ∧ (output15 0).mode = 0 ∧ (output15 0).watchMs ≠ 0 ∧
      ((contacts 0).outPin 15).watched = false ∧ ((contacts 0).group 15).seen = true ∧ ((contacts 0).outPin 15).pulse = false ∧
      (((contacts 1).setOut 15 { pulse := true, forced := some true }).outPin 15).pulse = true ∧
      ((contacts 0).outPin 15).forced = none ∧
      (((contacts 1).setOut 15 { pulse := true, forced := some true }).outPin 15).forced ≠ none) ∧
    ((contacts 0).Takes c3 ∧ (contacts 0).contactOwner 15 = c3.pnl ∧ (contacts 0).expertOk c3.pnl = true ∧
      (contacts 0).isOutput 15 = true ∧ up.expertOk c0.pnl = false ∧ up.Takes c0) := by decide +kernel

/-- Dormant operation in force on channel 2, with record 0 of station 5 in state `st`. -/
def item2 : DormItem := ⟨2, 4, 0x8000, 1, 60, 1, 1, 1, 1⟩
def dormant (d : DrmRec) : State :=
  let s := ((chan 3).setFld .GLB_FEAT_FORCE_force 0 (2 ^ 9)).setFld .DRM_CFG_tone_tries 0 2
  { s with pat := { s.pat with dorm := [item2] }, drm := { s.drm with recs := [(0, { d with ch := 2, addr := 5 })] } }
def sleepMsg : List Byte := [1, 1, 0, 30, 0, 0, 0, 0]
/-- A WAKE_SYNC of station 5, of a wake kind. -/
def wake (kind : Nat) : FC := { fc0 with typ := 6, body := kind * 2 ^ 49 }

/-- A record SYNCING whose grant was acknowledged in slot 1; one DORMANT with a reference; one with its window open. -/
def syncing : State := dormant { st := .syncing, grantAck := some 1 }
def sleeping : State := dormant { st := .dormant, refs := [(0, 0)], period := 2 }
def listening : State := dormant { st := .dormant, winOpen := some (1, 2) }
/-- A channel in TRAINING that has decoded a WAKE_SYNC. -/
def woken (fc : FC) : State :=
  let s := (dormant { st := .dormant }).setFld .CHN_STATUS_state 2 2
  s.setChan 2 { rxq := [{ at_ := 0, fc := fc }] }
def replying : State := { dormant { st := .dormant } with drm := { (dormant { st := .dormant }).drm with owe := [⟨2, 5, 0, 0, 5, 9⟩] } }
/-- A record WAKING that waits for its sequence; and after a sequence unanswered, before the last and with the last. -/
def toneDue : State := dormant { st := .waking, toneWait := true, carrier := 4 }
def tried (n : Nat) : State := dormant { st := .waking, seqs := n }

theorem witness_DormantRecordsFollowTheirPartners :
    ((List.replicate 7 (0 : Byte)).length ≠ 8 ∧ sleepMsg.length = 8 ∧ beAt sleepMsg 0 1 = 1 ∧ beAt sleepMsg 1 1 = 1 ∧
      (dormant {}).dormItem 2 = some item2 ∧ (dormant {}).recOf 2 6 = none ∧ (dormant {}).firstFree = some 1 ∧
      (let s := (dormant {}).setFld .GLB_FEAT_FORCE_force 0 (2 ^ 14 + 2 ^ 9)
       let s : State := { s with drm := { s.drm with recs := (List.range 256).map (fun r => (r, { ch := 2, addr := 7 })) } }
       s.firstFree = none ∧ s.recOf 2 6 = none ∧ s.dormItem 2 = some item2)) ∧
    ((sleeping.drec 0).st ≠ .syncing ∧ (syncing.drec 0).st = .syncing ∧ (syncing.drec 0).grantAck = some 1 ∧
      (syncing.drec 0).wsSeen = false ∧ (sleeping.drec 0).st = .dormant ∧ (sleeping.listenWindow (sleeping.drec 0)).isSome = true ∧
      (sleeping.drec 0).winOpen = none ∧ (listening.drec 0).st = .dormant ∧ (listening.drec 0).winOpen = some (1, 2) ∧
      (listening.drec 0).closed = false ∧ (listening.drec 0).kept = false ∧
      ((dormant { st := .dormant, winOpen := some (1, 2), kept := true }).drec 0).kept = true) ∧
    ((woken { wake 0 with link := 1 }).heard 2 (fun fc => fc.typ == 6) = some { at_ := 0, fc := { wake 0 with link := 1 } } ∧
      (woken { wake 0 with link := 1 }).chState 2 ≠ chLive ∧ { wake 0 with link := 1 }.link ≠ (woken fc0).fld .CHN_CFG_link_id 2) ∧
    (∀ src ∈ [5, 6], (woken { wake 1 with src := src }).heard 2 (fun fc => fc.typ == 6) = some { at_ := 0, fc := { wake 1 with src := src } }) ∧
    ((wake 1).ver = 0 ∧ (wake 1).link = (woken fc0).fld .CHN_CFG_link_id 2 ∧ (wake 1).dst = (woken fc0).ownAddr 2 ∧
      wsDir (wake 1).body = 0 ∧ (woken fc0).fld .CHN_STATUS_role 2 = 0 ∧ (woken fc0).chState 2 ≠ chOff ∧
      (woken fc0).chState 2 ≠ chFault ∧ (woken fc0).isBanned 2 6 = false ∧ (woken fc0).isBanned 2 5 = false ∧ wsKind (wake 1).body ≠ 3 ∧
      (woken fc0).recOf 2 5 = some 0 ∧ (woken fc0).recOf 2 6 = none ∧ ((woken fc0).drec 0).st ≠ .syncing ∧
      wsKind (wake 1).body = 1) := by decide +kernel

theorem witness_DormantReplies :
    (replying.drm.owe.find? (fun w => w.ch == 2) = some ⟨2, 5, 0, 0, 5, 9⟩ ∧ replying.effState 2 = chLive ∧
      replying.replySlot ⟨2, 5, 0, 0, 5, 9⟩ = some 5) ∧
    ((toneDue.drec 0).st = .waking ∧ (toneDue.drec 0).toneWait = true ∧ toneDue.drm.tones.any (fun t => t.ch == 2) = false ∧
      toneDue.dlv.segs = [] ∧ toneDue.dlv.copies = [] ∧ toneDue.grid.committed = [] ∧ toneDue.effState 2 = chLive ∧
      toneDue.duplexHeld 2 (toneDue.grid.slot + toneDue.commitAhead)
        (ceilDiv (toneLen (((toneDue.dormItem 2).map (·.toneReps)).getD 1)) toneDue.ls) = false ∧
      toneDue.maskedFor 2 [toneCarrier 4] 0 = false) ∧
    (((tried 1).drec 0).st = .waking ∧ ((tried 1).drec 0).toneWait = false ∧ ((tried 1).drec 0).seqs ≠ 0 ∧
      (tried 1).drm.tones.any (fun t => t.rix == 0) = false ∧ ((tried 1).drec 0).seqs < (tried 1).fld .DRM_CFG_tone_tries 0) ∧
    (((tried 2).drec 0).st = .waking ∧ ((tried 2).drec 0).toneWait = false ∧ ((tried 2).drec 0).seqs ≠ 0 ∧
      (tried 2).drm.tones.any (fun t => t.rix == 0) = false ∧ (tried 2).fld .DRM_CFG_tone_tries 0 ≤ ((tried 2).drec 0).seqs) ∧
    (let s := dormant { st := .awake, hold := 1 }
     (s.drec 0).st = .awake ∧ s.grid.hem < (s.drec 0).since + (s.drec 0).hold) ∧
    (let s := dormant { st := .awake }
     (s.drec 0).st = .awake ∧ (s.drec 0).since + (s.drec 0).hold ≤ s.grid.hem ∧ s.Takes c0 ∧ 4095 < s.recLimit ∧ s.inForce 9 = true ∧
       (s.drec 4095).st = .free ∧ (s.drec 0).st ≠ .free) := by decide +kernel

/-- A channel LIVE while the grid runs. -/
def running : State := { chan 3 with grid := { (chan 3).grid with running := true } }
/-- Memory trained and up, Bobbin 254 failed and to move. -/
def worn : State :=
  let s := (up.setFld .HBM_STATUS_trained 0 15).setFld .GLB_FEAT_FORCE_force 0 (2 ^ 14)
  { s with bob := { s.bob with bobs := [(254, { role := 1, fault := true })], moves := [254] } }

theorem witness_FailedUnitsAreTakenAway :
    ((worn.bobbin 254).fault = true ∧ (worn.bobbin 255).fault = false) ∧
    (worn.bob.moves.contains 253 = false ∧ worn.bob.moves.contains 254 = true ∧ worn.spare = some 0 ∧ 0 ≠ 254) ∧
    (up.Takes c3 ∧ worn.Takes c0 ∧ worn.narrow = true ∧ up.Takes c0 ∧ up.narrow = false) ∧
    ((up.setFlag .HBM_STATUS_fenced 0 true).flag .HBM_STATUS_fenced 0 = true ∧ running.flag .HBM_STATUS_fenced 0 = false ∧
      running.grid.running = true ∧ running.host.failed.contains 1 = false ∧
      (chan 3).effState 2 ≠ chOff) ∧
    (up.memUp = false ∧ worn.memUp = true ∧ worn.hbm.ueHem < 15) ∧
    (up.hbm.staged.length < logChunk ∧ up.ldr.storing = none) ∧
    (24 > 23 ∧ (chan 3).effState 2 ≠ chOff ∧ ((chan 3).chanItem 2).isSome = true) ∧
    (up.host.failed.contains 1 = false ∧
      ({ up with host := { up.host with failed := [1] } } : State).host.failed.contains 1 = true) := by decide +kernel

theorem witness_logFlashWrite : ({ up with hbm := { up.hbm with staged := List.replicate 10922 ⟨0, 0, 0, 0, 0, 0, 0, 0⟩ } } : State).ldr.storing
    = none ∧ logChunk ≤ (List.replicate 10922 (Ev.mk 0 0 0 0 0 0 0 0)).length := by
  constructor
  · rfl
  · rw [List.length_replicate]; decide

/-- An event of panel 3 in the ring; a snapshot kept, and one being written when the next is asked for. -/
def ev3 : State := up.log 0x0101 3 0 5
def snapped : State :=
  let s := up.setFlag .PAT_STATUS_sealed 0 true
  let x : Snap := ⟨0, 0, 0, []⟩
  { s with mgmt := { s.mgmt with snapPend := true, snaps := [x], snapWr := some (x, 1) }, grid := { s.grid with running := true } }

theorem witness_EventsAndSnapshotsAreRead :
    (ev3.Takes c3 ∧ (ev3.evFrom (ev3.fld .EVT_PNL_RD_rd c3.pnl)).find? (fun e => evFor c3.pnl e.2)
      = some (0, ⟨0x0101, evSev 0x0101, 3, 0, 0, 0, 5, 0⟩)) ∧
    (ev1.Takes c3 ∧ (ev1.evFrom (ev1.fld .EVT_PNL_RD_rd c3.pnl)).find? (fun e => evFor c3.pnl e.2) = none) ∧
    (snapped.Takes c0 ∧ snapped.mgmt.snapPend = true ∧ up.mgmt.snapPend = false ∧ snapped.narrow = false ∧
      snapped.mgmt.snaps[0]? = some ⟨0, 0, 0, []⟩ ∧ telWords - 6 + 6 ≤ telWords) ∧
    (({ up with grid := { up.grid with hem := 1 } } : State).snapDue = false ∧ snapped.snapDue = true ∧ snapped.isSealed = true ∧ snapped.grid.running = true ∧
      snapped.narrow = false) := by decide +kernel

/-- An owner-enrolment object staged; and panel 3 with the encryption right, a key in slot 3 that channel 2 may select. -/
def enrolling : State :=
  { up with sec := { up.sec with stage := memStores [] 0 (be 4 0x47575945 ++ [1, 0, 0, 0] ++ be 8 up.fuseId), stageLen := 1812 } }
def keyed : State :=
  let s := (chan 3).setFld .PNL_STATUS_rights 3 16
  { s with sec := { s.sec with keys := [(4 * 3 + 3, ⟨List.replicate 32 0, 0⟩)], stageLen := 48 } }

theorem witness_SecurityCommandsKeepImagesAndKeys :
    (up.Takes c0 ∧ up.Takes c3 ∧ (List.replicate 52 (0 : Byte)).length ≤ 52 ∧ 65484 + (List.replicate 52 (0 : Byte)).length ≤ 65536 ∧
      up.sec.report = false) ∧
    (enrolling.Takes c0 ∧ enrolling.inBand 0 = false ∧ enrolling.sec.owners.length = 4 ∧ memBe enrolling.sec.stage 0 4 = 0x47575945 ∧
      memBe enrolling.sec.stage 4 1 = 1 ∧ memBe enrolling.sec.stage 5 3 = 0 ∧ memBe enrolling.sec.stage 1809 3 = 0 ∧
      memBe enrolling.sec.stage 8 8 = enrolling.fuseId ∧ enrolling.owned = false ∧ enrolling.freeOwner 0 = some 0 ∧
      owned.owned = true) ∧
    (5 ≤ (List.replicate 56 (0 : Byte)).length ∧ leAt (List.replicate 56 0) 0 4 + (56 - 4) ≤ 2 ^ 26 ∧ memBe up.fwImage 16 4 ≤ 64 ∧
      (List.replicate 32 (0 : Byte)).length = 32) ∧
    (keyed.Takes c3 ∧ 1 ≤ leAt [24, 0, 24] 2 1 ∧ leAt [24, 0, 24] 2 1 ≤ 24 ∧ leAt [24, 0, 24] 0 2 + leAt [24, 0, 24] 2 1 ≤ keyed.sec.stageLen) ∧
    ((3 :: List.replicate 32 (0 : Byte)).length = 33 ∧ leAt (3 :: List.replicate 32 0) 0 1 ≤ 3 ∧ up.right c3.pnl 4 = false ∧
      keyed.right c3.pnl 4 = true ∧ keyed.slotInUse c3.pnl 3 = false ∧
      ({ keyed with sec := { keyed.sec with txSel := [(2, 4)] } } : State).slotInUse c3.pnl 3 = true) ∧
    (leAt [2, 0xFF] 0 1 ≤ 191 ∧ keyed.mayName c3.pnl (leAt [2, 0xFF] 0 1) = true ∧ leAt [2, 0xFF] 1 1 = 0xFF ∧
      leAt [2, 3] 1 1 ≤ 3 ∧ keyed.owner 2 = some 3 ∧ (keyed.linkKey 3 3).isSome = true) ∧
    (leAt (15 :: List.replicate 32 0) 0 1 ≤ 15 ∧ leAt (15 :: List.replicate 32 0) 0 1 ≠ c3.pnl ∧ c3.pnl ≠ 0 ∧
      leAt (3 :: List.replicate 32 0) 0 1 = c3.pnl) := by decide +kernel

theorem witness_TamperAndDebugFollowTheirRules :
    (let s := up.setFlag .SEC_STATUS_loop_open 0 true
     s.flag .SEC_STATUS_loop_open 0 = true ∧ s.Takes c0) ∧
    (up.flag .SEC_STATUS_loop_open 0 = false ∧ (up.setFld .SEC_CFG_tamper_mode 0 1).flag .SEC_STATUS_loop_open 0 = false ∧
      (up.setFld .SEC_CFG_tamper_mode 0 1).fld .SEC_CFG_tamper_mode 0 = 1) ∧
    (up.flag .SEC_STATUS_debug_open 0 = false ∧ (up.setFlag .SEC_STATUS_debug_open 0 true).flag .SEC_STATUS_debug_open 0 = true) ∧
    (up.Takes c0 ∧ up.owned = false ∧ owned.Takes c0 ∧ owned.flag .SEC_STATUS_debug_lock 0 = false ∧ owned.owned = true) := by
  decide +kernel

/-- Source `i` mapped to level `v`, with the loader at rest or APPLYING. -/
def mapped (i v ldr : Nat) : State := (up.setFld .RST_MAP_map 0 (v * 2 ^ (2 * i - 2))).setFld .PAT_STATUS_loader_state 0 ldr
def kept (inOk : Bool) : State :=
  let s := up.setFlag .PWR_STATUS_input_ok 0 inOk
  { s with rst := { s.rst with pwr := .keep } }

theorem witness_ResetSourcesActAtTheirLevel :
    ((kept true).rst.pwr = .keep) ∧
    (∀ i ∈ [1, 2, 3, 7, 9, 0xA, 0xB], (mapped i 0 0).rst.pwr ≠ .keep ∧ (mapped i 0 0).rst.off = false ∧ (mapped i 0 0).mapOf i = 0 ∧
      (mapped i 1 4).mapOf i = 1 ∧ (mapped i 1 4).resetLevel = 0 ∧ (mapped i 1 4).loader = 4 ∧ (mapped i 1 0).mapOf i = 1 ∧
      (mapped i 1 0).resetLevel = 0 ∧ (mapped i 1 0).loader ≠ 4 ∧ (mapped i 2 0).mapOf i = 2 ∧ (mapped i 2 0).resetLevel < 2 ∧
      (mapped i 3 0).mapOf i = 3 ∧ (mapped i 3 0).resetLevel < 3) ∧
    (let s : State := { mapped 1 1 0 with rst := { (mapped 1 1 0).rst with level := some 3 } }
     0 < s.mapOf 1 ∧ s.mapOf 1 ≤ s.resetLevel) ∧
    (let s := (up.setFlag .SEC_STATUS_debug_open 0 true).setFld .SEC_STATUS_scope 0 1
     s.flag .SEC_STATUS_debug_open 0 = true ∧ bit (s.fld .SEC_STATUS_scope 0) 0 = true) ∧
    (up.flag .SEC_STATUS_debug_open 0 = false ∧ up.rst.soft = none) ∧
    (let s : State := { up with rst := { up.rst with soft := some (3, 0) } }
     s.rst.soft = some (3, 0) ∧ s.rst.pwr ≠ .keep ∧ s.rst.off = false ∧ s.resetLevel < 3) ∧
    (up.Takes c0 ∧ up.Takes c3 ∧ c3.pnl ≠ 0 ∧ (mapped 8 3 0).Takes c0 ∧ 3 ≤ (mapped 8 3 0).mapOf 8 ∧ (mapped 8 3 0).rst.soft = none ∧
      (mapped 8 0 0).mapOf 8 < 1 ∧ 23 < blkCount 0 ∧ 31 < blkCount 6 ∧ up.loader < 2 ∧
      up.rst.blocks.any (fun e => e.1 == 0 && e.2.1 == 23) = false ∧ up.blkIdle 0 23 = true ∧ (chan 3).blkIdle 0 0 = false ∧
      (chan 3).Takes c0) := by decide +kernel

/-- A reset of level `l` in force, at boot step `b`. -/
def held (l : Option Nat) (b : Nat) : State := { up with rst := { up.rst with level := l, boot := b, heat := false } }

theorem witness_ReleaseAndStartUp :
    (({ up with rst := { up.rst with off := true } } : State).heldReset = true ∧ up.rst.level = none) ∧
    ((held (some 1) 0).heldReset = false ∧ (held (some 1) 0).rst.level = some 1 ∧ (held (some 3) 0).heldReset = false ∧
      (held (some 3) 0).rst.level = some 3 ∧ (held (some 2) 0).rst.level = some 2) ∧
    (up.rst.boot ≠ 1 ∧ up.rst.boot ≠ 2 ∧ (held none 1).rst.level = none ∧ (held none 1).rst.boot = 1 ∧ (held none 1).rst.off = false ∧
      (held none 2).rst.level = none ∧ (held none 2).rst.boot = 2) ∧
    (let s : State := { up with rst := { up.rst with blocks := [(6, 31, c0), (0, 23, c0)], fenced := [(6, 31)] }
                                grid := { up.grid with running := true } }
     s.rst.blocks.find? (fun e => e.1 == 6 && e.2.1 == 31) = some (6, 31, c0) ∧ s.isFenced 6 31 = true ∧ s.grid.running = true ∧
       s.rst.blocks.find? (fun e => e.1 == 0 && e.2.1 == 23) = some (0, 23, c0) ∧
       s.rst.blocks.find? (fun e => e.1 == 0 && e.2.1 == 22) = none) := by decide +kernel

theorem witness_PowerStatesFollowTheSupply :
    (up.Takes c0 ∧ (chan 3).Takes c0 ∧ (chan 3).effState 2 = chLive ∧
      (let s := up.setFlag .PWR_STATUS_input_ok 0 true
       s.Takes c0 ∧ s.rst.pwr = .run ∧ s.flag .PWR_STATUS_input_ok 0 = true ∧ ∀ ch : Nat, ch < 192 → s.effState ch ≠ chLive)) ∧
    (let s := up.setFlag .PWR_STATUS_input_ok 0 false
     let g : State := { s with rst := { s.rst with pwr := .gasp, lostAt := some 9 } }
     s.flag .PWR_STATUS_input_ok 0 = false ∧ s.rst.pwr = .run ∧ g.flag .PWR_STATUS_input_ok 0 = false ∧ g.rst.pwr = .gasp ∧
       g.rst.byKeep = false) ∧
    (up.rst.lostAt = none ∧
      (let s : State := { up with rst := { up.rst with lostAt := some 9 } }
       s.rst.lostAt = some 9 ∧ s.rst.pwr = .run ∧ s.mgmtUp = true)) ∧
    (up.rst.pwr ≠ .gasp ∧ up.rst.pwr ≠ .keep ∧ (kept true).rst.pwr = .keep ∧ (kept true).rst.off = false ∧
      (kept true).flag .PWR_STATUS_input_ok 0 = true ∧ (kept false).flag .PWR_STATUS_input_ok 0 = false) ∧
    ((kept true).mgmtUp = false ∧ up.mgmtUp = true ∧ (up.setFlag .PWR_CLK_STATUS_refclk_valid 0 true).mgmtUp = true ∧
      (up.setFlag .PWR_CLK_STATUS_refclk_valid 0 true).flag .PWR_CLK_STATUS_refclk_valid 0 = true ∧
      up.fld .PWR_CLK_STATUS_ref_sel 0 ≠ 2 ∧ up.fld .PWR_CLK_STATUS_slewing 0 = 0 ∧
      (up.setFlag .PWR_CLK_STATUS_slewing 0 true).fld .PWR_CLK_STATUS_slewing 0 = 1) ∧
    (up.rst.heat = false ∧ 85 ≤ signed 8 85 ∧ signed 8 99 < 100 ∧ up.flag .PWR_THERMAL_hot 0 = false ∧ signed 8 79 < 80 ∧
      signed 8 255 < 80 ∧ (up.setFlag .PWR_THERMAL_hot 0 true).flag .PWR_THERMAL_hot 0 = true) := by decide +kernel

/-- A flood frame in transit: a fresh number, one segment of no endpoint here, another channel of the domain LIVE. -/
def transitHead : List Byte :=
  let h := be 2 0x2100 ++ be 2 7 ++ be 2 9
  h ++ be 2 (crc 16 0x1021 0xFFFF (bytesToBits h))
def transitFrame : RxFrame := rxFrame fcFl (transitHead ++ segBytes 1 0 3 [65])
def transit : State :=
  let s := (heard 3 transitFrame).setFld .CHN_STATUS_state 5 3
  { s with dlv := { s.dlv with seen := [], descShared := 1 }
           pat := { s.pat with doms := [⟨1, 2 ^ 2 + 2 ^ 5⟩], chans := s.pat.chans ++ [⟨5, 0, 0, 0, 0, 3, 0x124, 0, 0, 0, 0⟩] } }

/-- The hypotheses of the other clauses are among those of the statements named here. -/
theorem witness_ReceptionAndDeliveryRowsComplete :
    type_of% witness_AcceptedFeaturesAreOffered ∧ type_of% witness_DetectorFollowsTheFrame ∧ type_of% witness_syncPoint ∧
    type_of% witness_SymbolsAndDecoderWork ∧ type_of% witness_FramesOfTheLinkAreTaken ∧
    type_of% witness_TransmissionsAreCommittedAndLaunched ∧ type_of% witness_AcknowledgementsAndDeadlines ∧
    type_of% witness_ToneMapMessagesAreObeyed ∧ type_of% witness_SoundsRefreshTheEstimates ∧
    type_of% witness_OverlockReportsAndPairs ∧
    (transit.heard 2 (fun fc => (fc.typ == 0 || fc.typ == 3 || fc.typ == 5) && fcFlood fc) = some transitFrame ∧
      transit.frameMine 2 fcFl = true ∧ transitFrame.payload.1 = transitHead ++ segBytes 1 0 3 [65] ∧
      8 ≤ (transitHead ++ segBytes 1 0 3 [65]).length ∧
      crc 16 0x1021 0xFFFF (bytesToBits (slice transitHead 0 6)) = beAt transitHead 6 2 ∧ transit.floodDomain 2 = some 1 ∧
      transit.dlv.seen = [] ∧ transit.dlv.seen.length < transit.seenLimit ∧
      frameSegs fcFl transitFrame.payload.1 transitFrame.payload.2 = [⟨8, 1, 1, 0, 3, (segBytes 1 0 3 [65]).take 8, [65], true⟩] ∧
      (RawSeg.mk 8 1 1 0 3 ((segBytes 1 0 3 [65]).take 8) [65] true).malformed = false ∧ fcEnc fcFl = false ∧
      transit.epDrop 2 fcFl.typ 1 ≠ none ∧ 16 ≤ beAt transitHead 0 1 ∧ transit.refloodTo 1 2 false = [5] ∧
      (transit.takeDesc fcFl.prio (transit.rxPanel 2)).isSome = true) :=
  ⟨witness_AcceptedFeaturesAreOffered, witness_DetectorFollowsTheFrame, witness_syncPoint, witness_SymbolsAndDecoderWork,
    witness_FramesOfTheLinkAreTaken, witness_TransmissionsAreCommittedAndLaunched, witness_AcknowledgementsAndDeadlines,
    witness_ToneMapMessagesAreObeyed, witness_SoundsRefreshTheEstimates, witness_OverlockReportsAndPairs, by decide +kernel⟩

/-- Port 1 with its link up, and panel 3 with a data VLAN: a handover frame for it. -/
def hosting : State :=
  let s := host3.setFlag .HST_PORT_STATUS_link_up 1 true
  { s with pat := { s.pat with panels := [{ panel := 3, mgmtVid := 7, ipv4 := 9, portCfg := 3, dataVid := 8 }] } }
def handedFrame : List Byte := be 6 up.macAddr ++ be 6 1 ++ be 2 0x8100 ++ be 2 8 ++ be 2 0x88B5 ++ handed 1 0 2 1 ++ List.replicate 60 0

theorem witness_HostTimeLaneAndGaugeRowsComplete :
    type_of% witness_HostMessagesAreCheckedAndQueued ∧ type_of% witness_AcknowledgementsAndDeadlines ∧
    type_of% witness_PtpMessagesAreForwardedAndAnswered ∧ type_of% witness_TimebasesFollowTheirOffsets ∧
    type_of% witness_UpstreamFramesAreCounted ∧ type_of% witness_LanesLockCalibrateAndFail ∧
    type_of% witness_HeadMessagesAreTaggedAndAnswered ∧ type_of% witness_GaugeSamplesExcitationAndChecks ∧
    type_of% witness_CastRecordsArrivalsAndRegions ∧
    (hosting.linkUp 1 = true ∧ 60 ≤ handedFrame.length ∧ handedFrame.length ≤ 16444 ∧ (ethParse handedFrame).etype = 0x88B5 ∧
      hosting.macTaken (ethParse handedFrame).dst = true ∧ hosting.prpOn = false ∧ (ethParse handedFrame).vid = 8 ∧
      hosting.mgmtPanel 8 = none ∧ (hosting.dataPanel 8).isSome = true) ∧
    (up.fld .HST_PORT_STATUS_mode 1 ≠ 0xF ∧ up.host.failed.contains 1 = false) ∧
    ((hoParse (handed 2 2 2 1)).kind = 2 ∧ (hoParse (handed 1 2 2 0xFEFF)).kind = 1) ∧
    ({ ptp0 with typ := 8 }.typ = 8 ∧ { ptp0 with typ := 0xB }.typ = 0xB ∧ { ptp0 with typ := 0xC }.typ = 0xC ∧
      { ptp0 with typ := 0xD }.typ = 0xD) :=
  ⟨witness_HostMessagesAreCheckedAndQueued, witness_AcknowledgementsAndDeadlines, witness_PtpMessagesAreForwardedAndAnswered,
    witness_TimebasesFollowTheirOffsets, witness_UpstreamFramesAreCounted, witness_LanesLockCalibrateAndFail,
    witness_HeadMessagesAreTaggedAndAnswered, witness_GaugeSamplesExcitationAndChecks, witness_CastRecordsArrivalsAndRegions,
    by decide +kernel⟩

theorem witness_FieldAndServiceRowsComplete :
    type_of% witness_SerialPortsReceiveAndSend ∧ type_of% witness_ContactsDebounceAndFollowCommands ∧
    type_of% witness_DormantRecordsFollowTheirPartners ∧ type_of% witness_DormantReplies ∧ type_of% witness_FailedUnitsAreTakenAway ∧
    type_of% witness_logFlashWrite ∧ type_of% witness_EventsAndSnapshotsAreRead ∧
    type_of% witness_SecurityCommandsKeepImagesAndKeys ∧ type_of% witness_TamperAndDebugFollowTheirRules ∧
    type_of% witness_ResetSourcesActAtTheirLevel ∧ type_of% witness_ReleaseAndStartUp ∧ type_of% witness_PowerStatesFollowTheSupply ∧
    (2 ≤ (mapped 1 2 0).mapOf 1 ∧ (mapped 1 2 0).resetLevel < (mapped 1 2 0).mapOf 1) ∧
    (let s : State := { up with sec := { up.sec with parts := [(up.sec.fwRun, ⟨memStores [] 16 [0, 0, 0, 5], true⟩)] } }
     memBe s.fwImage 16 4 ≤ 64 ∧ s.fld .SEC_ROLLBACK_fw_level 0 < memBe s.fwImage 16 4) ∧
    (∀ i : Nat, i < 12 → up.inAlias c0.pnl (0x700000 + 4 * i) = true) :=
  ⟨witness_SerialPortsReceiveAndSend, witness_ContactsDebounceAndFollowCommands, witness_DormantRecordsFollowTheirPartners,
    witness_DormantReplies, witness_FailedUnitsAreTakenAway, witness_logFlashWrite, witness_EventsAndSnapshotsAreRead,
    witness_SecurityCommandsKeepImagesAndKeys, witness_TamperAndDebugFollowTheirRules, witness_ResetSourcesActAtTheirLevel,
    witness_ReleaseAndStartUp, witness_PowerStatesFollowTheSupply, by decide +kernel⟩

/-! Small tests. Expected values come from the spec's worked examples and tables, or are reckoned by hand from its rules. -/

/-- The result of a command, where it answers a next state. -/
def after (i : Instr) (s : State) : State :=
  match exec i s with
  | .next t => t
  | _ => s

/-- Chapter 1: channel 137 sits at slot 17 of lane 5 and in pipe 17. -/
theorem test_channel_137 : headOf 137 = 5 ∧ slotOf 137 = 17 ∧ pipeOf 137 = 17 := by decide

/-- Chapter 3: the three guards, and slots of 8,748, 9,304 and 10,416 samples. -/
theorem test_slot_samples : slotSamples 0 = 8748 ∧ slotSamples 1 = 9304 ∧ slotSamples 2 = 10416 := by decide

/-- Chapter 3's placement of cell 0 of a frame control under three notches. -/
theorem test_fc_placement :
    let data := dataOf (fcSet { notches := [(287, 300), (574, 590), (860, 880)] })
    data.length = 932 ∧ ((repLayout 932 134 6).zip data).filterMap (fun e => if e.1 = some 0 then some e.2 else none)
      = [75, 237, 414, 593, 756, 940] := by decide +kernel

/-- Chapter 4: 12,000 bits at LDPC rate 2/3 on 490 carriers of 6 bits take 18,240 coded bits and 7 symbols; position 100 is
delayed by 1,408 link symbols at W = 2,048. -/
theorem test_narrow_frame : codedLen 5 12000 = 18240 ∧ symBits (List.replicate 490 6) = 2940 ∧
    symBitsFirst (List.replicate 490 6) = 2652 ∧ nSymOf 18240 2940 2652 = 7 ∧ liDelay 2048 100 = 1408 := by decide +kernel

/-- Chapter 6: disturber 130 is slot 13 of victim 137 in the FEXT class; its coefficient of carrier 500 and the stored word. -/
theorem test_fext_coefficient : (up.olaSlots 1 137)[13]? = some 130 ∧ up.entryOf 1 137 13 500 = 10683818 ∧
    entryWord ⟨9537 / 1000000, -3815 / 1000000⟩ = 0x64E23830 := by decide +kernel

/-- Chapter 7: the ledger capacity of 512 carriers over 60 s at the default guard. -/
theorem test_ledger_capacity : up.ledgerUse ⟨2, 0, 74, 585, 60, 100, 80, false⟩ = (0, 660373504) := by decide +kernel

/-- Chapter 9: the listen windows of X (k = 1) and Y (k = 2), in ticks. -/
theorem test_listen_windows :
    let s := dormant {}
    let s : State := { s with pat := { s.pat with dorm := [{ item2 with margin := 200 }] } }
    let x : DrmRec := { st := .dormant, ch := 2, period := 300, drift := 12 * 65536, bound := 2 * 65536, refs := [(0, 0)] }
    let y : DrmRec := { x with drift := -5 * 65536, refs := [(200000000, 0)], misses := 1 }
    s.listenWindow x = some (60000560000, 60002089520) ∧ s.listenWindow y = some (120199080000, 120200929520) := by decide +kernel

/-- Chapter 10: the residence of a Sync from port 0 to channel 137, in 2^-16 ns. -/
theorem test_residence :
    let s := ((up.setFld .TIM_TB_CFG_role 2 2).setFld .TIM_TB_CFG_domain 2 4).setTb 2 { anchors := [⟨0, 0, 350 * 256, 0, 0, false⟩] }
    s.residence (796 / 10) (18611875 / 100) (51225 * 65536 / 100) 4 = 12225836818 := by decide +kernel

/-- Chapters 10 and 20: φ of 1,800 ns at 1,000 ppb is 1,300 ns after 0.5 s and none after 1.8 s. -/
theorem test_slew : phiAfter (1800 * 65536) 1000 100000000 = 1300 * 65536 ∧ phiAfter (1800 * 65536) 1000 360000000 = 0 := by decide

/-- Chapter 11: a lane's delay advance, alignment and trim from R = 18,702.5 ns; the trim of the later R. -/
theorem test_lane_calibration :
    let s := (lane 3 []).setFld .HLK_HEAD_LAT_h_dn 7 3200 |>.setFld .HLK_HEAD_LAT_h_loop 7 7680
    let t := s.laneCalibrate 7 (187025 / 10)
    t.fld .HLK_DELAY_d_adv 7 = 1868 ∧ t.fld .HLK_DELAY_u_cal 7 = 1893 ∧ t.fld .HLK_TRIM_p_target 7 = 496 ∧
      trimFor 1868 (905445 / 100) 250 = 455 := by decide +kernel

/-- Chapter 12: the run of two samples interpolated, and the blocks of a 64 GiB ring. -/
theorem test_rc_interpolation : (interpolate 6000 [⟨15050, 2 ^ fRc⟩, ⟨23200, 2 ^ fRc⟩, ⟨33600, 0⟩]).map (·.x) = [15200, 24400, 33600] ∧
    castBlocks 64 192 = 5460 := by decide +kernel

/-- Chapter 16: the nonce of a segment. -/
theorem test_link_nonce : linkNonce 0x0123 0x2A5 1 0x102 = [0x01, 0x23, 0x02, 0xA5, 1, 0, 0, 0, 0, 0, 1, 2] := by decide

/-- Chapter 19: what a module offers whose stacked memory failed, and how word 0x7FA9 fares both ways. -/
theorem test_offer_without_memory :
    let s := after (.memoryTrainingDone false) (held none 2)
    let t := after (.featAcceptWrite 0 0x7FA9 0 0 0) s
    s.fld .FEAT_OFFER_offer 0 = 0x7FA8 ∧ t.fld .FEAT_ACCEPT_accept 0 = 0x7FA8 ∧ t.fld .GLB_FEAT_DROP_CNT_count 0 = 1 := by decide +kernel

theorem test_feature_accept_refused :
    let s := (after (.memoryTrainingDone false) (held none 2)).setFlag .GLB_STATUS_boot 0 false
    let t := after (.featureAccept c0 0x7FA9 0 0 0) s
    memBytes t.mgmt.ringRam 0xC00 8 = [7, 0, 6, 3, 6, 0, 0, 0] ∧ t.fld .FEAT_ACCEPT_accept 0 = 0 := by decide +kernel

/-- R31 and R116: CHN_START asks for ARMED, which the next slot boundary brings. -/
theorem test_chn_start :
    let s := after (.chnStart c3 2) (chan 0)
    s.chState 2 = chOff ∧ s.grid.changes = [.state 2 chArmed 0] := by decide +kernel

/-- R56: another panel's full load is DENIED. -/
theorem test_pattern_begin_denied : memBytes (after (.patternBegin c3 1 0) owned).mgmt.ringRam 0x3C00 8 = [9, 0, 1, 3, 5, 0, 0, 0] := by
  decide +kernel

/-- R61: bytes staged at an offset. -/
theorem test_pattern_data : memBytes (after (.patternData c0 2 [7, 8]) (loading 1 0)).ldr.stage 0 5 = [0, 0, 7, 8, 0] := by
  decide +kernel

/-- R421: the next character goes to the shifter with DE on. -/
theorem test_serial_tx :
    let t := after (.serialCharacterTx 7) (serial 1 0 0 1)
    (t.port 7).shift = some 66 ∧ t.fld .SER_STATUS_de 7 = 1 := by decide +kernel

/-- R417: a stop bit of 0 after zeros stores the character with `frame` and `brk` and disarms the receiver. -/
theorem test_serial_break :
    let t := after (.serialCharacterRx 7 0 false true false 9) (serial 1 0 0 0)
    (t.port 7).rx = [1024 + 2048] ∧ (t.port 7).armed = false ∧ t.fld .SER_CNT_frm_err 7 = 1 := by decide +kernel

/-- R433: a command message sets the output it names. -/
theorem test_command_message :
    let t := after (.commandMessage 15 (cmdMsg 1)) (contacts 0)
    t.fld .CMD_OUT_STATE_active 0 = 0x8000 ∧ (t.group 15).rxSeq = some 1 := by decide +kernel

/-- R478: in mode 1 an opened loop clears the keys. -/
theorem test_tamper :
    let t := after .tamperOpen (keyed.setFld .SEC_CFG_tamper_mode 0 1)
    t.sec.keys = [] ∧ t.fld .GLB_STATUS_tamper 0 = 1 := by decide +kernel

/-- R490: the input is lost, and GASP follows 25 ms later (5,000,000 ticks). -/
theorem test_gasp :
    let s := after (.inputLost false 0) (up.setFlag .PWR_STATUS_input_ok 0 true)
    let t := after .gaspEntry s
    s.fld .PWR_CNT_loss 0 = 1 ∧ t.rst.pwr = .gasp ∧ t.tick = 5000000 := by decide +kernel

/-- R520: power-on samples the straps and records source 0 at COLD. -/
theorem test_power_on :
    let t := after (.powerOn 2 9) up
    t.fld .PWR_STRAPS_boot_sel 0 = 2 ∧ t.fld .PWR_STRAPS_mod_addr 0 = 9 ∧ t.fld .RST_CAUSE_level 0 = 3 := by decide +kernel

/-- R532: a panel reads its own event and moves past it. -/
theorem test_evt_read : (after (.evtRead c3) ev3).fld .EVT_PNL_RD_rd 3 = 1 := by decide +kernel

/-- R444: a SPARE takes the item of the failed Bobbin 254. -/
theorem test_bob_move :
    let t := after (.bobMove 254) worn
    (t.bobbin 0).role = 1 ∧ (t.bobbin 254).role = 0 ∧ t.bob.moves = [] := by decide +kernel

/-- R240: a contention cycle ends with 8 taken from the backoff. -/
theorem test_backoff :
    ((after (.contentionCycleEnd 2) (up.setChan 2 { cont := some ⟨4, 2, false⟩, bc := [none, none, some 11] })).chan 2).bc
      = [none, none, some 3] := by decide +kernel

end Sys2Proof.Tests
end

section
/-! SUPPORT. A step keeps the invariant: every command does, and so does the idle step. -/

namespace Sys2Proof.Machine

/-- Every command leaves the commands waiting and keeps the invariant; each row by the law of its own meaning. -/
theorem exec_keeps {r s : State} (h : Keeps r s) (i : Instr) : KeepsX r (exec i s) := by
  cases i with
  | patternBegin => exact execPatternBegin_keeps h ..
  | patternData => exact execPatternData_keeps h ..
  | patternCommit => exact execPatternCommit_keeps h ..
  | patternAbort => exact execPatternAbort_keeps h ..
  | patternStore => exact execPatternStore_keeps h ..
  | featureAccept => exact execFeatureAccept_keeps h ..
  | patternQuery => exact execPatternQuery_keeps h ..
  | loaderVerifyDone => exact execLoaderVerifyDone_keeps h
  | loaderCheckDone => exact execLoaderCheckDone_keeps h
  | patternSeal => exact execPatternSeal_keeps h
  | panelPatternEffect => exact execPanelPatternEffect_keeps h ..
  | patternStoreDone => exact execPatternStoreDone_keeps h ..
  | flashPatternLoad => exact execFlashPatternLoad_keeps h
  | ringDoorbell => exact execRingDoorbell_keeps h ..
  | ohiDatagram => exact execOhiDatagram_keeps h ..
  | spiTransaction => exact execSpiTransaction_keeps h ..
  | spiCsEarlyRise => exact execSpiCsEarlyRise_keeps h ..
  | registerWrite => exact execRegisterWrite_keeps h ..
  | groupRead => exact execGroupRead_keeps h ..
  | rcFieldRead => exact execRcFieldRead_keeps h ..
  | w1cWrite => exact execW1cWrite_keeps h ..
  | featAcceptWrite => exact execFeatAcceptWrite_keeps h ..
  | evtPnlRdWrite => exact execEvtPnlRdWrite_keeps h ..
  | telStatusRead => exact execTelStatusRead_keeps h ..
  | serRxDataRead => exact execSerRxDataRead_keeps h ..
  | serTxDataWrite => exact execSerTxDataWrite_keeps h ..
  | serDivWrite => exact execSerDivWrite_keeps h ..
  | chnStart => exact execChnStart_keeps h ..
  | chnStop => exact execChnStop_keeps h ..
  | chnQuiet => exact execChnQuiet_keeps h ..
  | chnResume => exact execChnResume_keeps h ..
  | chnRetrain => exact execChnRetrain_keeps h ..
  | chnSetCoupling => exact execChnSetCoupling_keeps h ..
  | chnSetRole => exact execChnSetRole_keeps h ..
  | chnQuery => exact execChnQuery_keeps h ..
  | trainTimeout => exact execTrainTimeout_keeps h ..
  | faultAutoRearm => exact execFaultAutoRearm_keeps h ..
  | gridSlotBoundary => exact execGridSlotBoundary_keeps h
  | hemBoundary => exact execHemBoundary_keeps h
  | hemMapFix => exact execHemMapFix_keeps h
  | mainsCrossing => exact execMainsCrossing_keeps h ..
  | sourceTimeout => exact execSourceTimeout_keeps h ..
  | transmitCommit => exact execTransmitCommit_keeps h
  | contentionCycleEnd => exact execContentionCycleEnd_keeps h ..
  | frameLaunch => exact execFrameLaunch_keeps h ..
  | ackMissing => exact execAckMissing_keeps h ..
  | liIdleFill => exact execLiIdleFill_keeps h ..
  | energyTrigger => exact execEnergyTrigger_keeps h ..
  | qualifierPass => exact execQualifierPass_keeps h ..
  | qualFail => exact execQualFail_keeps h ..
  | syncPoint ch tick => exact execSyncPoint_keeps h ch tick
  | detectorRearm => exact execDetectorRearm_keeps h ..
  | frameControlRx => exact execFrameControlRx_keeps h ..
  | symbolRx => exact execSymbolRx_keeps h ..
  | stepRebaseEnd => exact execStepRebaseEnd_keeps h ..
  | decodeComplete => exact execDecodeComplete_keeps h ..
  | decodeDrop => exact execDecodeDrop_keeps h
  | dataFrameRx => exact execDataFrameRx_keeps h ..
  | ackSend => exact execAckSend_keeps h ..
  | ackRx => exact execAckRx_keeps h ..
  | floodFrameRx => exact execFloodFrameRx_keeps h ..
  | beaconRx => exact execBeaconRx_keeps h ..
  | soundRx => exact execSoundRx_keeps h ..
  | mapRx => exact execMapRx_keeps h ..
  | mapNakRx => exact execMapNakRx_keeps h ..
  | soundReqRx => exact execSoundReqRx_keeps h ..
  | invalidateAllRx => exact execInvalidateAllRx_keeps h ..
  | fallbackRx => exact execFallbackRx_keeps h ..
  | soundTimeout => exact execSoundTimeout_keeps h ..
  | toneMapRetire => exact execToneMapRetire_keeps h ..
  | tmRefresh => exact execTmRefresh_keeps h ..
  | errorReportRx => exact execErrorReportRx_keeps h ..
  | errReportDeadline => exact execErrReportDeadline_keeps h ..
  | pairHoldExpiry => exact execPairHoldExpiry_keeps h ..
  | olaPairQuery => exact execOlaPairQuery_keeps h ..
  | olaVictimReset => exact execOlaVictimReset_keeps h ..
  | olaCoefRead => exact execOlaCoefRead_keeps h ..
  | olaCoefWrite => exact execOlaCoefWrite_keeps h ..
  | messageHandover => exact execMessageHandover_keeps h ..
  | segmentDeadline => exact execSegmentDeadline_keeps h ..
  | rxMessageDiscard => exact execRxMessageDiscard_keeps h
  | qAgeDrop => exact execQAgeDrop_keeps h ..
  | seenEntryExpiry => exact execSeenEntryExpiry_keeps h
  | send => exact execSend_keeps h ..
  | flood => exact execFlood_keeps h ..
  | hostFrameRx => exact execHostFrameRx_keeps h ..
  | arpRequest => exact execArpRequest_keeps h ..
  | prpSupervisionRx port frame => exact execPrpSupervisionRx_keeps h port frame
  | prpSupervisionSend => exact execPrpSupervisionSend_keeps h
  | hostLinkChange => exact execHostLinkChange_keeps h ..
  | ethernetEgress => exact execEthernetEgress_keeps h ..
  | launchTimeFrame => exact execLaunchTimeFrame_keeps h ..
  | sync => exact execSync_keeps h ..
  | followUp => exact execFollowUp_keeps h ..
  | pdelayReq => exact execPdelayReq_keeps h ..
  | pdelayResp => exact execPdelayResp_keeps h ..
  | pdelayRespFollowUp => exact execPdelayRespFollowUp_keeps h ..
  | announce => exact execAnnounce_keeps h ..
  | signaling => exact execSignaling_keeps h ..
  | management => exact execManagement_keeps h ..
  | pdelayInterval => exact execPdelayInterval_keeps h ..
  | heldCorrectionExpiry => exact execHeldCorrectionExpiry_keeps h
  | ppsInEdge => exact execPpsInEdge_keeps h ..
  | timebaseLossTimeout => exact execTimebaseLossTimeout_keeps h ..
  | slewEnd => exact execSlewEnd_keeps h ..
  | ppsOutEdge => exact execPpsOutEdge_keeps h ..
  | todTxLine => exact execTodTxLine_keeps h
  | timQuery => exact execTimQuery_keeps h ..
  | timSet => exact execTimSet_keeps h ..
  | timFeed => exact execTimFeed_keeps h ..
  | timPairSelect => exact execTimPairSelect_keeps h ..
  | timAt => exact execTimAt_keeps h ..
  | upstreamFrame lane bits => exact execUpstreamFrame_keeps h lane bits
  | frameLock => exact execFrameLock_keeps h ..
  | frameLockLost => exact execFrameLockLost_keeps h ..
  | lossOfSignal => exact execLossOfSignal_keeps h ..
  | readRsp lane tag addr data => exact execReadRsp_keeps h lane tag addr data
  | writeAck lane tag addr => exact execWriteAck_keeps h lane tag addr
  | nak => exact execNak_keeps h ..
  | event => exact execEvent_keeps h ..
  | controlRepeat => exact execControlRepeat_keeps h ..
  | couplingTimeout => exact execCouplingTimeout_keeps h ..
  | laneRecalculate => exact execLaneRecalculate_keeps h ..
  | alignmentDelayFix => exact execAlignmentDelayFix_keeps h
  | laneFaultRetry => exact execLaneFaultRetry_keeps h ..
  | hlkQuery => exact execHlkQuery_keeps h ..
  | hlkHeadRead => exact execHlkHeadRead_keeps h ..
  | hlkHeadWrite => exact execHlkHeadWrite_keeps h ..
  | hlkRealign => exact execHlkRealign_keeps h ..
  | gaugeSampleDeadline => exact execGaugeSampleDeadline_keeps h ..
  | chainOutput => exact execChainOutput_keeps h ..
  | excitationInterval => exact execExcitationInterval_keeps h ..
  | checkDue => exact execCheckDue_keeps h ..
  | gauQuery => exact execGauQuery_keeps h ..
  | gauCheck => exact execGauCheck_keeps h ..
  | gauCalibrate => exact execGauCalibrate_keeps h ..
  | gauExcite => exact execGauExcite_keeps h ..
  | blankEdge => exact execBlankEdge_keeps h ..
  | blankExtensionEnd => exact execBlankExtensionEnd_keeps h ..
  | armExpiry => exact execArmExpiry_keeps h ..
  | wavefrontArrival => exact execWavefrontArrival_keeps h ..
  | deadTimeEnd => exact execDeadTimeEnd_keeps h ..
  | regionCollected => exact execRegionCollected_keeps h ..
  | exportMessage => exact execExportMessage_keeps h ..
  | srgQuery => exact execSrgQuery_keeps h ..
  | srgFreeze => exact execSrgFreeze_keeps h ..
  | srgExport => exact execSrgExport_keeps h ..
  | srgRelease => exact execSrgRelease_keeps h ..
  | srgArrivalRead => exact execSrgArrivalRead_keeps h ..
  | serialCharacterRx => exact execSerialCharacterRx_keeps h ..
  | framingRearm => exact execFramingRearm_keeps h ..
  | serialGapClose => exact execSerialGapClose_keeps h ..
  | serialCharacterTx => exact execSerialCharacterTx_keeps h ..
  | deRelease => exact execDeRelease_keeps h ..
  | oscStop => exact execOscStop_keeps h ..
  | serQuery => exact execSerQuery_keeps h ..
  | serFlush => exact execSerFlush_keeps h ..
  | contactChangeAccepted => exact execContactChangeAccepted_keeps h ..
  | commandRefresh => exact execCommandRefresh_keeps h ..
  | commandMessage => exact execCommandMessage_keeps h ..
  | cmdWatch => exact execCmdWatch_keeps h ..
  | pulseEnd => exact execPulseEnd_keeps h ..
  | cmdForceEnd => exact execCmdForceEnd_keeps h ..
  | cmdQuery => exact execCmdQuery_keeps h ..
  | cmdForce => exact execCmdForce_keeps h ..
  | cmdRelease => exact execCmdRelease_keeps h ..
  | sleepReq => exact execSleepReq_keeps h ..
  | syncingTimeout => exact execSyncingTimeout_keeps h ..
  | wakeSyncRx => exact execWakeSyncRx_keeps h ..
  | wakeSyncReply => exact execWakeSyncReply_keeps h ..
  | listenWindowOpen => exact execListenWindowOpen_keeps h ..
  | listenWindowClose => exact execListenWindowClose_keeps h ..
  | wakeSequenceStart => exact execWakeSequenceStart_keeps h ..
  | wakeListenExpiry => exact execWakeListenExpiry_keeps h ..
  | awakeHoldExpiry => exact execAwakeHoldExpiry_keeps h ..
  | drmQuery => exact execDrmQuery_keeps h ..
  | drmWake => exact execDrmWake_keeps h ..
  | drmRelease => exact execDrmRelease_keeps h ..
  | pnlQuery => exact execPnlQuery_keeps h ..
  | regRead => exact execRegRead_keeps h ..
  | regWrite => exact execRegWrite_keeps h ..
  | bobQuery => exact execBobQuery_keeps h ..
  | hbmQuery => exact execHbmQuery_keeps h ..
  | bobbinFault => exact execBobbinFault_keeps h ..
  | bobMove => exact execBobMove_keeps h ..
  | hbmUe => exact execHbmUe_keeps h ..
  | hbmRecalibration => exact execHbmRecalibration_keeps h ..
  | logFlashWrite => exact execLogFlashWrite_keeps h ..
  | pipeFence => exact execPipeFence_keeps h ..
  | codUnitFenced => exact execCodUnitFenced_keeps h ..
  | overlockFence => exact execOverlockFence_keeps h
  | memFence => exact execMemFence_keeps h
  | hostPortFail => exact execHostPortFail_keeps h ..
  | evtRead => exact execEvtRead_keeps h ..
  | evtCfg => exact execEvtCfg_keeps h ..
  | telSnap => exact execTelSnap_keeps h ..
  | telRead => exact execTelRead_keeps h ..
  | telemetrySnapshot => exact execTelemetrySnapshot_keeps h
  | secQuery => exact execSecQuery_keeps h ..
  | secStage => exact execSecStage_keeps h ..
  | secEnrol => exact execSecEnrol_keeps h ..
  | secFwWrite => exact execSecFwWrite_keeps h ..
  | secFwCommit => exact execSecFwCommit_keeps h ..
  | secRollbackAdvance => exact execSecRollbackAdvance_keeps h ..
  | secAttest => exact execSecAttest_keeps h ..
  | secRead => exact execSecRead_keeps h ..
  | secDebugChallenge => exact execSecDebugChallenge_keeps h ..
  | secDebugOpen => exact execSecDebugOpen_keeps h ..
  | debugClose => exact execDebugClose_keeps h
  | secKeySet => exact execSecKeySet_keeps h ..
  | secKeyTx => exact execSecKeyTx_keeps h ..
  | secKeyClear => exact execSecKeyClear_keeps h ..
  | secOhiKey => exact execSecOhiKey_keeps h ..
  | secTamperClear => exact execSecTamperClear_keeps h ..
  | tamperOpen => exact execTamperOpen_keeps h
  | rstQuery => exact execRstQuery_keeps h ..
  | rstRequest => exact execRstRequest_keeps h ..
  | rstBlock => exact execRstBlock_keeps h ..
  | blockResetComplete => exact execBlockResetComplete_keeps h ..
  | pwrQuery => exact execPwrQuery_keeps h ..
  | pwrKeep => exact execPwrKeep_keeps h ..
  | powerOn => exact execPowerOn_keeps h ..
  | brownOut => exact execBrownOut_keeps h
  | resetNLow => exact execResetNLow_keeps h
  | watchdogExpiry => exact execWatchdogExpiry_keeps h ..
  | dbgReqNLow => exact execDbgReqNLow_keeps h
  | clockFailure => exact execClockFailure_keeps h
  | lockUp => exact execLockUp_keeps h
  | resetRelease => exact execResetRelease_keeps h
  | firmwareVerified => exact execFirmwareVerified_keeps h ..
  | memoryTrainingDone => exact execMemoryTrainingDone_keeps h ..
  | inputLost => exact execInputLost_keeps h ..
  | inputReturn => exact execInputReturn_keeps h ..
  | gaspEntry => exact execGaspEntry_keeps h
  | keepEntry => exact execKeepEntry_keeps h
  | blank0KeepWake => exact execBlank0KeepWake_keeps h ..
  | aonStoresExhausted => exact execAonStoresExhausted_keeps h
  | refclkValid => exact execRefclkValid_keeps h ..
  | clkRefLost => exact execClkRefLost_keeps h
  | clockSlewEnd => exact execClockSlewEnd_keeps h
  | pwrXtal => exact execPwrXtal_keeps h
  | pwrHot => exact execPwrHot_keeps h ..
  | signalAndSymbolLock => exact execSignalAndSymbolLock_keeps h ..
  | softwareResetAssert => exact execSoftwareResetAssert_keeps h
  | tamperLoopClosed => exact execTamperLoopClosed_keeps h
  | ppsInTimeout => exact execPpsInTimeout_keeps h
  | vbatLevelChange => exact execVbatLevelChange_keeps h ..
  | contactInputEdge => exact execContactInputEdge_keeps h ..

/-- An idle step, or a command run on the queue's rest, which the invariant does not speak of. -/
theorem step_keeps_inv {s t : State} (h : s.Inv) (e : step s = .next t) : t.Inv := by
  unfold step at e
  split at e
  · obtain rfl := Host.Outcome.next.inj e
    exact (State.idle_keeps (Keeps.refl s)).inv h
  · exact ((exec_keeps (Keeps.refl _) _).all t e).inv (h.congr rfl rfl)

/-- Settles O5, command by command. -/
theorem everyStepKeepsTheInvariant : Obligations.EveryStepKeepsTheInvariant :=
  fun _ _ => step_keeps_inv

/-- Settles O6: nothing is listed at reset, and every reset value fits its field. -/
theorem resetMeetsTheInvariant : Obligations.ResetMeetsTheInvariant :=
  ⟨⟨List.Pairwise.nil, Fld.resetAt_lt, memory_wf_nil⟩, rfl⟩

end Sys2Proof.Machine
end

section
/-! SUPPORT. Register fields and counters: what a counter that wraps reads, the telemetry accumulators (R534), the values after
reset. -/

namespace Sys2Proof.Machine

theorem State.fld_bumpWrapN (s : State) (F G : Fld) (i j n : Nat) :
    (s.bumpWrapN F i n).fld G j = if G = F ∧ j = i then (s.fld F i + n) % 2 ^ F.width else s.fld G j :=
  s.fld_setFld F G i j (s.fld F i + n)

theorem FldsKept.bumpWrapN {fs : List (Fld × Nat)} {s t : State} (h : FldsKept fs s t) {F : Fld} {i : Nat} (n : Nat)
    (hm : (F, i) ∈ fs) : FldsKept fs s (t.bumpWrapN F i n) :=
  (h.setFld (t.fld F i + n) hm).congr rfl

/-- A table after one key is written: the value written there, what was there elsewhere. -/
theorem tget_tput {α : Type} [DecidableEq α] (d v : α) (k j : Nat) (t : Tbl α) :
    tget d j (tput d k v t) = if j = k then v else tget d j t := by
  split
  · next h => subst h; exact tget_tput_same ..
  · next h => exact tget_tput_ne h ..

theorem State.tel_bumpN (s : State) (F : Fld) (i n key : Nat) :
    tget 0 key (s.bumpN F i n).tel
      = if key = F.key i then (tget 0 key s.tel + n) % 2 ^ 32 else tget 0 key s.tel := by
  refine (tget_tput ..).trans ?_
  split
  · next h => rw [h]; rfl
  · rfl

/-- Both kinds of counter count the same in the accumulators. -/
theorem State.tel_bumpWrapN_eq (s : State) (F : Fld) (i n : Nat) : (s.bumpWrapN F i n).tel = (s.bumpN F i n).tel := rfl

/-- At reset no field is listed: each reads its reset value. -/
theorem State.fld_reset (F : Fld) (i : Nat) : State.reset.fld F i = F.resetAt i := rfl

theorem Fld.resetAt_val {F : Fld} {n : Nat} (h : F.info.rst = .val n) (hk : F ≠ .GAU_CH_K_k) (i : Nat) : F.resetAt i = n := by
  unfold Fld.resetAt
  split
  · next m e =>
    rw [if_neg hk]
    exact Rst.val.inj (e.symm.trans h)
  all_goals next e => cases e.symm.trans h

/-- The two words of a channel's K reset to 1.0 and 0. -/
theorem Fld.resetAt_GAU_CH_K (i : Nat) : Fld.GAU_CH_K_k.resetAt i = if i % 2 = 0 then 0x10000 else 0 := rfl

/-- Settles O8: fields and instances have keys of their own. -/
theorem writtenFieldReadsBack : Obligations.WrittenFieldReadsBack := by
  intro s F G i j v
  refine ⟨?_, rfl⟩
  rw [State.fld_setFld]
  simp only [eq_comm]

/-- Settles O9, from what each kind of counter reads and what its accumulator holds. -/
theorem countersSaturateOrWrap : Obligations.CountersSaturateOrWrap := by
  intro s F i n
  have kept := FldsKept.refl [(F, i)] s
  have hm : (F, i) ∈ [(F, i)] := List.mem_singleton_self _
  refine ⟨?_, ?_, kept.bumpN n hm, kept.bumpWrapN n hm, s.tel_bumpN F i n, fun key => ?_⟩
  · rw [State.fld_bumpN, if_pos ⟨rfl, rfl⟩]
  · rw [State.fld_bumpWrapN, if_pos ⟨rfl, rfl⟩]
  · rw [State.tel_bumpWrapN_eq]; exact s.tel_bumpN F i n key

/-- Settles O7: each field reads its reset value. -/
theorem resetValuesOfTheRegisterTables : Obligations.ResetValuesOfTheRegisterTables := by
  refine ⟨fun F i n h hk => Fld.resetAt_val h hk i, fun ch => ⟨?_, ?_⟩,
    rfl, rfl, rfl, fun _ => rfl, rfl, rfl, rfl, rfl⟩
  · rw [State.fld_reset, Fld.resetAt_GAU_CH_K, if_pos (by omega)]
  · rw [State.fld_reset, Fld.resetAt_GAU_CH_K, if_neg (by omega)]

end Sys2Proof.Machine
end

section
/-! SUPPORT. The register interface at one word: the address a panel may not reach, the word whose fields no guard protects, and
what serving the rings leaves of a register write. -/

namespace Sys2Proof.Machine

/-- Rings that offer nothing go on offering nothing where the ring indices and the datagrams stay. -/
theorem State.RingsIdle.kept {s t : State} (h : s.RingsIdle) (hh : t.host = s.host)
    (hf : ∀ p : Nat, t.fld .PNL_RING_IDX_cmd_head p = s.fld .PNL_RING_IDX_cmd_head p ∧
      t.fld .PNL_RING_IDX_cmd_tail p = s.fld .PNL_RING_IDX_cmd_tail p) : t.RingsIdle := by
  obtain ⟨hd, hi⟩ := h
  refine ⟨hh ▸ hd, fun p hp => ?_⟩
  obtain ⟨h1, h2⟩ := hf p
  rw [h1, h2]; exact hi p hp

theorem State.RingsIdle.setFld {s : State} (h : s.RingsIdle) {F : Fld} (i v : Nat) (h1 : .PNL_RING_IDX_cmd_head ≠ F)
    (h2 : .PNL_RING_IDX_cmd_tail ≠ F) : (s.setFld F i v).RingsIdle :=
  h.kept rfl fun _ => ⟨s.fld_setFld_ne v fun e => h1 e.1, s.fld_setFld_ne v fun e => h2 e.1⟩

theorem State.RingsIdle.bump {s : State} (h : s.RingsIdle) {F : Fld} (i : Nat) (h1 : .PNL_RING_IDX_cmd_head ≠ F)
    (h2 : .PNL_RING_IDX_cmd_tail ≠ F) : (s.bump F i).RingsIdle :=
  (h.setFld i (min (s.fld F i + 1) (2 ^ F.width - 1)) h1 h2).kept rfl fun _ => ⟨rfl, rfl⟩

/-- R20: a write outside the panel's window only counts. -/
theorem State.regWrite_outside {s : State} {p a : Nat} (h : s.inAlias p a = false) (w : Nat) :
    s.regWrite p a w = s.bump .PNL_ALIAS_FAULT_CNT_count p := by
  simp [State.regWrite, h]

/-- R523: inside the window, a write outside every span or misaligned only counts. -/
theorem State.regWrite_unmapped {s : State} {p a : Nat} (h : s.inAlias p a = true) (hu : blkOf a = none ∨ a % 4 ≠ 0) (w : Nat) :
    s.regWrite p a w = s.bump .GLB_UNMAPPED_CNT_count 0 := by
  simp [State.regWrite, h, hu]

theorem State.regRead_outside {s : State} {p a : Nat} (h : s.inAlias p a = false) (incs : List Nat) :
    s.regRead p a incs = (0, s.bump .PNL_ALIAS_FAULT_CNT_count p) := by
  simp [State.regRead, h]

theorem State.regRead_unmapped {s : State} {p a : Nat} (h : s.inAlias p a = true) (hu : blkOf a = none ∨ a % 4 ≠ 0)
    (incs : List Nat) : s.regRead p a incs = (0, s.bump .GLB_UNMAPPED_CNT_count 0) := by
  simp [State.regRead, h, hu]

/-- REGISTER_WRITE of a panel: the write, then the rings. -/
theorem exec_registerWrite {p : Nat} (hp : p < 16) (a w : Nat) (s : State) :
    exec (.registerWrite p a w) s = .next (s.regWrite p a w).pump := by
  show execRegisterWrite p a w s = _
  rw [execRegisterWrite, if_pos hp]

/-- A register write that leaves the rings offering nothing is the write alone. -/
theorem exec_registerWrite_idle {s t : State} {p a w : Nat} (hp : p < 16) (e : s.regWrite p a w = t) (h : t.RingsIdle) :
    exec (.registerWrite p a w) s = .next t := by
  rw [exec_registerWrite hp, e, pump_idle h]

/-- RC_FIELD_READ of a panel drives out the word it reads. -/
theorem exec_rcFieldRead {s t : State} {p a w : Nat} {incs : List Nat} (hp : p < 16) (e : s.regRead p a incs = (w, t)) :
    exec (.rcFieldRead p a incs) s = .next (t.spi (le 4 w)) := by
  show execRcFieldRead p a incs s = _
  rw [execRcFieldRead, if_pos hp, State.readOut, e]

/-- Settles O21: the window is judged first, then the span. -/
theorem windowsAndSpansGuardRegisters : Obligations.WindowsAndSpansGuardRegisters := by
  intro s p a w hp
  refine ⟨fun h => ⟨fun hi => ?_, ?_⟩, fun h hu => ⟨fun hi => ?_, ?_⟩⟩
  · exact exec_registerWrite_idle hp (State.regWrite_outside h w) (hi.bump p (by decide) (by decide))
  · exact exec_rcFieldRead hp (State.regRead_outside h [])
  · exact exec_registerWrite_idle hp (State.regWrite_unmapped h hu w) (hi.bump 0 (by decide) (by decide))
  · exact exec_rcFieldRead hp (State.regRead_unmapped h hu [])

/-- A field whose write no rule guards or counts (R18, R72, R74) and that asks nothing more of its block (R367). -/
abbrev Fld.Unguarded (F : Fld) : Prop :=
  F.info.acc ≠ .rwp ∧ F.info.expert = false ∧ fldFeats F = [] ∧ F ∉ [.GAU_CH_CFG_exc_on, .GAU_CH_CFG_amp, .GAU_CH_FTW_ftw]

/-- A word of registers alone: in a span and aligned, of no area and no multi-register value, not `PNL_RING_IDX`, and none of its
fields guarded. -/
abbrev PlainWord (a : Nat) : Prop :=
  (blkOf a).isSome = true ∧ a % 4 = 0 ∧ ringPlace a = none ∧ groupOf a = none ∧ ¬(0x3E0000 ≤ a ∧ a < 0x3F0000) ∧
    ¬(0x610000 ≤ a ∧ a < 0x640000) ∧ ¬(0x710000 ≤ a ∧ a < 0x750000) ∧ ∀ e ∈ fldsAt a, e.1.Unguarded

theorem State.countWrite_unguarded {s : State} {loader : Bool} {p w : Nat} {fs : List (Fld × Nat)}
    (h : ∀ e ∈ fs, e.1.Unguarded) : s.countWrite loader p fs w = s := by
  have rwp : fs.any (fun e => e.1.info.acc == .rwp && bits w e.1.info.lo e.1.width != s.fld e.1 e.2) = false :=
    List.any_eq_false.mpr fun e he => by simp [(h e he).1]
  have expert : fs.any (fun e => e.1.info.expert && bits w e.1.info.lo e.1.width != s.fld e.1 e.2) = false :=
    List.any_eq_false.mpr fun e he => by simp [(h e he).2.1]
  have feat : fs.any (fun e => s.fldShut e.1) = false :=
    List.any_eq_false.mpr fun e he => by simp [State.fldShut, (h e he).2.2.1]
  simp [State.countWrite, rwp, expert, feat]

theorem State.afterWrite_unguarded {s old : State} {fs : List (Fld × Nat)} (h : ∀ e ∈ fs, e.1.Unguarded) :
    s.afterWrite old fs = s := by
  unfold State.afterWrite
  refine List.foldlRecOn fs _ (motive := fun t => t = s) rfl fun t ht e he => ?_
  obtain ⟨-, -, -, hg⟩ := h e he
  subst ht
  split
  · rfl
  · split <;> simp_all

/-- The fields of an unguarded word are written one after the other. -/
theorem State.writeReg_unguarded {s : State} {a : Nat} (h : ∀ e ∈ fldsAt a, e.1.Unguarded) (loader : Bool) (p w : Nat) :
    s.writeReg loader p a w = (fldsAt a).foldl (fun (s : State) e => s.writeFld loader p e.1 e.2 w) s := by
  simp only [State.writeReg]
  rw [State.countWrite_unguarded h, State.afterWrite_unguarded h]

theorem State.regWrite_plain {s : State} {p a : Nat} (ha : PlainWord a) (h : s.inAlias p a = true) (w : Nat) :
    s.regWrite p a w = (fldsAt a).foldl (fun (s : State) e => s.writeFld false p e.1 e.2 (w % 2 ^ 32)) s := by
  obtain ⟨hb, h4, hr, hg, hi, -, -, hu⟩ := ha
  have hm : ¬((blkOf a).isNone = true ∨ a % 4 ≠ 0) := by simp [h4, Option.isSome_iff_ne_none.mp hb]
  have hx : ¬(0x3E0000 ≤ a ∧ a < 0x3F0000 ∧ (a - 0x3E0000) % 0x1000 = 0x20) := by omega
  simp only [State.regWrite, h, if_neg hm, hr, if_neg hx, hg]
  exact State.writeReg_unguarded hu false p _

theorem State.regRead_plain {s : State} {p a : Nat} (ha : PlainWord a) (h : s.inAlias p a = true) (incs : List Nat) :
    s.regRead p a incs = ((if a = 0x700008 then s.telMove else s).regWord a,
      (if a = 0x700008 then s.telMove else s).afterRead a incs) := by
  obtain ⟨hb, h4, hr, hg, -, he, ht, -⟩ := ha
  have hm : ¬((blkOf a).isNone = true ∨ a % 4 ≠ 0) := by simp [h4, Option.isSome_iff_ne_none.mp hb]
  have harea : s.areaWord a = none := by
    rw [State.areaWord, hr, if_neg (by simp), if_neg (by omega), if_neg (by omega)]
  simp only [State.regRead, h, if_neg hm, harea, State.readLive, hg]
  rfl

end Sys2Proof.Machine
end

section
/-! SUPPORT. The registers whose access codes R13 to R17 are stated by: where they lie, and what a write or a read of each does. -/

namespace Sys2Proof.Machine

/-- A field of a word is the same read from the word's low 32 bits. -/
theorem bits_mod_word {lo n : Nat} (h : lo + n ≤ 32) (w : Nat) : bits (w % 2 ^ 32) lo n = bits w lo n := by
  unfold bits
  obtain ⟨k, hk⟩ := Nat.exists_eq_add_of_le h
  rw [hk, Nat.add_assoc, Nat.pow_add, Nat.mod_mul_right_div_self, Nat.pow_add, Nat.mod_mul_right_mod]

/-- PNL0 reaches every address (R406). -/
@[simp] theorem State.inAlias_zero (s : State) (a : Nat) : s.inAlias 0 a = true := rfl

@[simp] theorem State.fld_spi (s : State) (b : List Byte) (F : Fld) (i : Nat) : (s.spi b).fld F i = s.fld F i := rfl

/-! `TEL_CFG` (R15, RW). -/

theorem fldsAt_telCfg : fldsAt 0x700004 = [(.TEL_CFG_tel_on, 0), (.TEL_CFG_tel_period, 0)] := by decide

/-- Both fields are stored, the period held to 1. -/
theorem State.regWrite_telCfg (s : State) (w : Nat) : s.regWrite 0 0x700004 w
    = (s.setFld .TEL_CFG_tel_on 0 (w % 2)).setFld .TEL_CFG_tel_period 0 (max 1 (w / 256 % 256)) := by
  rw [State.regWrite_plain (by decide) (s.inAlias_zero _), fldsAt_telCfg]
  show (s.setFld .TEL_CFG_tel_on 0 (bits (w % 2 ^ 32) 0 1)).setFld .TEL_CFG_tel_period 0 (max 1 (bits (w % 2 ^ 32) 8 8)) = _
  rw [bits_mod_word (by decide), bits_mod_word (by decide)]
  simp [bits]

/-! `PAT_REJECT_CNT` (R15, R17, RC). -/

theorem fldsAt_patRejectCnt : fldsAt 0x30014 = [(.PAT_REJECT_CNT_rejects, 0), (.PAT_REJECT_CNT_skips, 0)] := by decide

/-- An RC field read keeps the events of the same cycle alone. -/
theorem State.fld_clearRc (s : State) (F G : Fld) (i j n : Nat) :
    ((s.setFld F i 0).bumpN F i n).fld G j = if G = F ∧ j = i then min n (2 ^ F.width - 1) else s.fld G j := by
  rw [State.fld_bumpN, State.fld_setFld_same]
  split
  · simp
  · next h => exact s.fld_setFld_ne 0 h

theorem State.regRead_patRejectCnt (s : State) (m n : Nat) : s.regRead 0 0x30014 [m, n]
    = (s.fld .PAT_REJECT_CNT_rejects 0 + 65536 * s.fld .PAT_REJECT_CNT_skips 0,
      (((s.setFld .PAT_REJECT_CNT_rejects 0 0).bumpN .PAT_REJECT_CNT_rejects 0 m).setFld .PAT_REJECT_CNT_skips 0 0).bumpN
        .PAT_REJECT_CNT_skips 0 n) := by
  rw [State.regRead_plain (by decide) (s.inAlias_zero _), if_neg (by decide), State.regWord, State.afterRead, fldsAt_patRejectCnt]
  refine Prod.ext ?_ rfl
  show 0 + 2 ^ 0 * s.fld .PAT_REJECT_CNT_rejects 0 + 2 ^ 16 * s.fld .PAT_REJECT_CNT_skips 0 = _
  omega

/-! `RST_CAUSE` (R15, R17, W1C). -/

theorem fldsAt_rstCause : fldsAt 0x10004 = [(.RST_CAUSE_sources, 0), (.RST_CAUSE_level, 0), (.RST_CAUSE_from_keep, 0)] := by decide

/-- W1C_WRITE of `RST_CAUSE` stores the sources alone: those left by the write, and those hardware sets. -/
theorem exec_w1cWrite_rstCause (s : State) (w h : Nat) :
    let left := s.fld .RST_CAUSE_sources 0 - (s.fld .RST_CAUSE_sources 0 &&& bits w 0 12)
    exec (.w1cWrite 0 0x10004 w h) s = .next ((s.setFld .RST_CAUSE_sources 0 left).setFld .RST_CAUSE_sources 0
      (left % 2 ^ 12 ||| bits h 0 12)) := by
  intro left
  show execW1cWrite 0 0x10004 w h s = _
  have e : s.regWrite 0 0x10004 w = s.setFld .RST_CAUSE_sources 0 left := by
    simp only [left]
    rw [State.regWrite_plain (by decide) (s.inAlias_zero _), fldsAt_rstCause, ← bits_mod_word (w := w) (by decide : 0 + 12 ≤ 32)]
    rfl
  rw [execW1cWrite, if_neg (by decide), e, fldsAt_rstCause]
  show Host.Outcome.next (State.setFld _ .RST_CAUSE_sources 0 (State.fld _ .RST_CAUSE_sources 0 ||| bits h 0 12)) = _
  rw [State.fld_setFld_same]
  rfl

/-- Taking from a number the bits it shares with another clears those bits. -/
theorem testBit_sub_and (x v b : Nat) : (x - (x &&& v)).testBit b = (x.testBit b && !v.testBit b) := by
  have hle : x &&& v ≤ x := Nat.and_le_left
  have hdiv : (x &&& v) / 2 = x / 2 &&& v / 2 := Nat.and_div_two
  have hbit : (x &&& v) % 2 = 1 ↔ x % 2 = 1 ∧ v % 2 = 1 := Nat.and_mod_two_eq_one
  induction b generalizing x v with
  | zero =>
    rw [Bool.eq_iff_iff]
    simp only [Nat.testBit_zero, Bool.and_eq_true, Bool.not_eq_true', decide_eq_true_eq, decide_eq_false_iff_not]
    omega
  | succ b ih =>
    have half : (x - (x &&& v)) / 2 = x / 2 - (x / 2 &&& v / 2) := by omega
    rw [Nat.testBit_succ, Nat.testBit_succ, Nat.testBit_succ, half]
    exact ih _ _ Nat.and_le_left Nat.and_div_two Nat.and_mod_two_eq_one

/-- Bit by bit, R17: hardware's set wins over the bit written, which wins over the bit held. -/
theorem testBit_w1c {b : Nat} (hb : b < 12) (x w h : Nat) :
    (((x - (x &&& bits w 0 12)) % 2 ^ 12 ||| bits h 0 12) % 2 ^ 12).testBit b
      = ((x.testBit b && !w.testBit b) || h.testBit b) := by
  simp only [bits, pow_zero, Nat.div_one, Nat.testBit_mod_two_pow, Nat.testBit_or, testBit_sub_and, hb, decide_true, Bool.true_and]

/-! `TIM_TICK` (R13): a value of two words. -/

theorem fldsAt_timTick (k : Nat) (hk : k < 2) : fldsAt (0x340008 + 4 * k) = [(.TIM_TICK_tick, k)] := by
  revert k; decide

theorem State.regWord_timTick (s : State) (k : Nat) (hk : k < 2) : s.regWord (0x340008 + 4 * k) = s.tick / 2 ^ (32 * k) % 2 ^ 32 := by
  rw [State.regWord, fldsAt_timTick k hk]
  show 0 + 2 ^ 0 * bits (bits s.tick (32 * (k % 2)) 32) 0 32 = _
  rw [Nat.mod_eq_of_lt hk]
  simp [bits]

/-- The read of the low word latches the high one. -/
theorem State.regRead_timTick (s : State) : s.regRead 0 0x340008 [] = (s.tick % 2 ^ 32,
    { s with mgmt := { s.mgmt with
      shadows := ⟨0, 0x340008, [(0x34000C, s.tick / 2 ^ 32 % 2 ^ 32)]⟩
        :: s.mgmt.shadows.filter (fun x => !(x.panel == 0 && x.start == 0x340008)) } }) := by
  have e0 : s.regWord 0x340008 = s.tick % 2 ^ 32 := by simpa using s.regWord_timTick 0 (by decide)
  have e1 : s.regWord 0x34000C = s.tick / 2 ^ 32 % 2 ^ 32 := s.regWord_timTick 1 (by decide)
  rw [← e0, ← e1]
  rfl

theorem exec_groupRead_timTick (s : State) :
    exec (.groupRead 0 0x340008) s = .next ((s.regRead 0 0x340008 []).2.spi (le 4 (s.tick % 2 ^ 32))) := by
  show execGroupRead 0 0x340008 s = _
  rw [execGroupRead, if_pos (by decide), State.readOut, State.regRead_timTick]

/-! `TEL_STATUS` (R535). -/

theorem fldsAt_telStatus : fldsAt 0x700008 = [(.TEL_STATUS_tel_seq, 0), (.TEL_STATUS_tel_words, 0)] := by decide

/-- The words of a snapshot fit the field that tells them. -/
theorem State.regRead_telStatus (s : State) : s.regRead 0 0x700008 []
    = ((((s.mgmt.snaps.head?.map (·.seq)).getD 0) % 65536 + 65536 * (if s.isSealed then telWords else 0)) % 2 ^ 32, s.telMove) := by
  rw [State.regRead_plain (by decide) (s.inAlias_zero _), if_pos rfl, State.regWord, State.afterRead, fldsAt_telStatus]
  refine Prod.ext ?_ rfl
  show 0 + 2 ^ 0 * bits (((s.mgmt.snaps.head?.map (·.seq)).getD 0) % 65536 + 65536 * (if s.isSealed then telWords else 0)) 0 16
    + 2 ^ 16 * bits (((s.mgmt.snaps.head?.map (·.seq)).getD 0) % 65536 + 65536 * (if s.isSealed then telWords else 0)) 16 16 = _
  generalize ((s.mgmt.snaps.head?.map (·.seq)).getD 0) % 65536 + 65536 * (if s.isSealed then telWords else 0) = x
  simp only [bits]
  omega

theorem exec_telStatusRead (s : State) : exec (.telStatusRead 0) s = .next (s.telMove.spi
    (le 4 ((((s.mgmt.snaps.head?.map (·.seq)).getD 0) % 65536 + 65536 * (if s.isSealed then telWords else 0)) % 2 ^ 32))) := by
  show execTelStatusRead 0 s = _
  rw [execTelStatusRead, if_pos (by decide), State.readOut, State.regRead_telStatus]

/-- Four bytes of a number are those of its low 32 bits. -/
theorem le_mod_word (n : Nat) : le 4 (n % 2 ^ 32) = le 4 n := by
  simp only [le, byte, List.cons.injEq, and_true]
  refine ⟨?_, ?_, ?_, ?_⟩ <;> apply BitVec.eq_of_toNat_eq <;> simp only [BitVec.toNat_ofNat] <;> omega

/-! `EVT_PNL_RD` (R532). -/

theorem fldsAt_evtPnlRd (q : Nat) (hq : q < 16) : fldsAt (0x600100 + 0x10 * q) = [(.EVT_PNL_RD_rd, q)] := by
  revert q; decide

theorem plainWord_evtPnlRd (q : Nat) (hq : q < 16) : PlainWord (0x600100 + 0x10 * q) := by
  revert q; decide

/-- A write takes the index where it is live, else the oldest live entry. -/
theorem State.regWrite_evtPnlRd (s : State) {q : Nat} (hq : q < 16) (w : Nat) : s.regWrite 0 (0x600100 + 0x10 * q) w
    = s.setFld .EVT_PNL_RD_rd q
        (if w % 8192 = s.evHead ∨ (w % 8192 + 8192 - s.evOldest) % 8192 < s.mgmt.live then w % 8192 else s.evOldest) := by
  rw [State.regWrite_plain (plainWord_evtPnlRd q hq) (s.inAlias_zero _), fldsAt_evtPnlRd q hq]
  show s.setEvRd q (bits (w % 2 ^ 32) 0 13) = _
  rw [bits_mod_word (by decide), State.setEvRd]
  simp [bits]

/-- Settles O22, register by register. -/
theorem registerAccessesFollowTheirCodes : Obligations.RegisterAccessesFollowTheirCodes := by
  refine ⟨fun s w hi => ?_, fun s m n => ?_, fun s w h => ?_, fun s => ?_, fun s => ?_, fun s q w hq => ?_⟩
  · exact exec_registerWrite_idle (by decide) (s.regWrite_telCfg w)
      ((hi.setFld 0 _ (by decide) (by decide)).setFld 0 _ (by decide) (by decide))
  · have kept := FldsKept.refl [(Fld.PAT_REJECT_CNT_rejects, 0), (.PAT_REJECT_CNT_skips, 0)] s
    refine ⟨_, exec_rcFieldRead (by decide) (s.regRead_patRejectCnt m n), rfl, ?_, ?_, ?_⟩
    · rw [State.fld_spi, State.fld_clearRc, if_neg (by decide), State.fld_clearRc, if_pos ⟨rfl, rfl⟩]; rfl
    · rw [State.fld_spi, State.fld_clearRc, if_pos ⟨rfl, rfl⟩]; rfl
    · exact ((((kept.setFld 0 (by simp)).bumpN m (by simp)).setFld 0 (by simp)).bumpN n (by simp)).congr rfl
  · refine ⟨_, exec_w1cWrite_rstCause s w h, fun b hb _ _ => ?_, ?_, rfl⟩
    · rw [State.fld_setFld_same]; exact testBit_w1c hb _ w h
    · exact ((FldsKept.refl _ s).setFld _ (by simp)).setFld _ (by simp)
  · refine ⟨_, exec_groupRead_timTick s, rfl, ?_, ?_⟩ <;> rw [State.regRead_timTick]
    · exact List.mem_cons_self
    · rfl
  · exact ⟨_, exec_telStatusRead s, rfl, le_mod_word _, rfl⟩
  · show execEvtPnlRdWrite 0 q w s = _
    rw [execEvtPnlRdWrite, if_pos ⟨by decide, hq⟩, s.regWrite_evtPnlRd hq]

end Sys2Proof.Machine
end

section
/-! SUPPORT. The serial registers of a port in DIRECT (R418, R419, R422). -/

namespace Sys2Proof.Machine

theorem fldsAt_serRxData (n : Nat) (hn : n < 8) : fldsAt (0x40000C + 0x100 * n)
    = [(.SER_RX_DATA_data, n), (.SER_RX_DATA_parity, n), (.SER_RX_DATA_frame, n), (.SER_RX_DATA_brk, n), (.SER_RX_DATA_ovr, n),
       (.SER_RX_DATA_valid, n)] := by
  revert n; decide

theorem fldsAt_serTxData (n : Nat) (hn : n < 8) : fldsAt (0x400010 + 0x100 * n) = [(.SER_TX_DATA_data, n)] := by
  revert n; decide

theorem fldsAt_serDiv (n : Nat) (hn : n < 8) : fldsAt (0x400008 + 0x100 * n) = [(.SER_DIV_div, n)] := by
  revert n; decide

theorem plainWord_serRxData (n : Nat) (hn : n < 8) : PlainWord (0x40000C + 0x100 * n) := by
  revert n; decide

theorem plainWord_serTxData (n : Nat) (hn : n < 8) : PlainWord (0x400010 + 0x100 * n) := by
  revert n; decide

theorem plainWord_serDiv (n : Nat) (hn : n < 8) : PlainWord (0x400008 + 0x100 * n) := by
  revert n; decide

theorem State.readRxData_nil {s : State} {n : Nat} (h : (s.port n).rx = []) : s.readRxData n = (0, s) := by
  simp [State.readRxData, h]

theorem State.readRxData_cons {s : State} {n x : Nat} {rest : List Nat} (hf : (s.port n).func = serDirect)
    (h : (s.port n).rx = x :: rest) : s.readRxData n = (x % 8192 + 8192, s.setPort n { s.port n with rx := rest }) := by
  simp [State.readRxData, hf, h]

/-- A character with its flags and `valid` fills 14 bits. -/
theorem State.readRxData_lt (s : State) (n : Nat) : (s.readRxData n).1 < 2 ^ 14 := by
  unfold State.readRxData
  dsimp only
  split
  · split
    · exact Nat.two_pow_pos _
    · dsimp only; omega
  · exact Nat.two_pow_pos _

/-- The fields of `SER_RX_DATA` make up its whole word, and its read takes the character out. -/
theorem State.regRead_serRxData {s : State} {p n : Nat} (hn : n < 8) (h : s.inAlias p (0x40000C + 0x100 * n) = true) :
    s.regRead p (0x40000C + 0x100 * n) [] = s.readRxData n := by
  rw [State.regRead_plain (plainWord_serRxData n hn) h, if_neg (by omega), State.regWord, State.afterRead, fldsAt_serRxData n hn]
  refine Prod.ext ?_ rfl
  have hlt := s.readRxData_lt n
  show 0 + 2 ^ 0 * bits (s.readRxData n).1 0 9 + 2 ^ 9 * bits (s.readRxData n).1 9 1 + 2 ^ 10 * bits (s.readRxData n).1 10 1
    + 2 ^ 11 * bits (s.readRxData n).1 11 1 + 2 ^ 12 * bits (s.readRxData n).1 12 1 + 2 ^ 13 * bits (s.readRxData n).1 13 1 = _
  generalize (s.readRxData n).1 = x at hlt
  simp only [bits]
  omega

theorem State.regWrite_serTxData {s : State} {p n : Nat} (hn : n < 8) (h : s.inAlias p (0x400010 + 0x100 * n) = true) (d : Nat) :
    s.regWrite p (0x400010 + 0x100 * n) d = s.writeTxData n (bits d 0 9) := by
  rw [State.regWrite_plain (plainWord_serTxData n hn) h, fldsAt_serTxData n hn, ← bits_mod_word (w := d) (by decide : 0 + 9 ≤ 32)]
  rfl

theorem State.regWrite_serDiv {s : State} {p n : Nat} (hn : n < 8) (h : s.inAlias p (0x400008 + 0x100 * n) = true) (d : Nat) :
    s.regWrite p (0x400008 + 0x100 * n) d = s.writeDiv n (bits d 0 24) := by
  rw [State.regWrite_plain (plainWord_serDiv n hn) h, fldsAt_serDiv n hn, ← bits_mod_word (w := d) (by decide : 0 + 24 ≤ 32)]
  rfl

/-- SER_RX_DATA_READ drives out the word of the receive FIFO. -/
theorem exec_serRxDataRead {s t : State} {p n w : Nat} (hp : p < 16) (hn : n < 8)
    (h : s.inAlias p (0x40000C + 0x100 * n) = true) (e : s.readRxData n = (w, t)) :
    exec (.serRxDataRead p n) s = .next (t.spi (le 4 w)) := by
  show execSerRxDataRead p n s = _
  rw [execSerRxDataRead, if_pos ⟨hp, hn⟩, State.readOut, State.regRead_serRxData hn h, e]

/-- A port in DIRECT takes a character where its transmit FIFO has room (R422). -/
theorem State.writeTxData_direct {s : State} {n : Nat} (hf : (s.port n).func = serDirect) (d : Nat) :
    s.writeTxData n d = if (s.port n).tx.length < 64 then s.setPort n { s.port n with tx := (s.port n).tx ++ [d % 512] }
      else s.bump .SER_CNT2_tx_ovf n := by
  simp only [State.writeTxData, hf, if_true]
  by_cases hl : (s.port n).tx.length < 64
  · rw [if_pos hl, if_neg (by omega)]
  · rw [if_neg hl, if_pos (by omega)]

/-- Settles O23: the port's word is read and written whole. -/
theorem serialRegistersOfDirectPorts : Obligations.SerialRegistersOfDirectPorts := by
  intro s p n hp hn hrx htx hdiv hf
  refine ⟨fun x rest h => ?_, fun h => ?_, fun d => ?_, fun d => ?_⟩
  · exact exec_serRxDataRead hp hn hrx (State.readRxData_cons hf h)
  · exact exec_serRxDataRead hp hn hrx (State.readRxData_nil h)
  · show execSerTxDataWrite p n d s = _
    rw [execSerTxDataWrite, if_pos ⟨hp, hn⟩, State.regWrite_serTxData hn htx, State.writeTxData_direct hf]
    simp [bits]
  · show execSerDivWrite p n d s = _
    rw [execSerDivWrite, if_pos ⟨hp, hn⟩, State.regWrite_serDiv hn hdiv]
    simp [State.writeDiv, clampDiv, bits]

end Sys2Proof.Machine
end

section
/-! SUPPORT. The accept words (R70, R71): one value of four words, taken with the last of them (R14). -/

namespace Sys2Proof.Machine

/-- Instances of one field set one after the other, from values that do not depend on that field: each reads its value, every
other field is kept. -/
theorem State.fld_foldl_setFld {F : Fld} {g : State → Nat → Nat} (hg : ∀ (s : State) (k v j : Nat), g (s.setFld F k v) j = g s j)
    (l : List Nat) (s : State) (G : Fld) (j : Nat) :
    (l.foldl (fun (s : State) k => s.setFld F k (g s k)) s).fld G j
      = if G = F ∧ j ∈ l then g s j % 2 ^ F.width else s.fld G j := by
  induction l generalizing s with
  | nil => simp
  | cons k l ih =>
    rw [List.foldl_cons, ih, hg, State.fld_setFld]
    by_cases hl : G = F ∧ j ∈ l
    · simp [hl]
    · rw [if_neg hl]
      by_cases hk : G = F ∧ j = k
      · obtain ⟨rfl, rfl⟩ := hk; simp
      · rw [if_neg hk, if_neg]
        rintro ⟨hG, hj⟩
        rcases List.mem_cons.mp hj with hj | hj
        · exact hk ⟨hG, hj⟩
        · exact hl ⟨hG, hj⟩

/-- The fields of the accept words. -/
def acceptFlds : List (Fld × Nat) :=
  [(.FEAT_ACCEPT_accept, 0), (.FEAT_ACCEPT_accept, 1), (.FEAT_ACCEPT_accept, 2), (.FEAT_ACCEPT_accept, 3)]

theorem mem_acceptFlds {k : Nat} (h : k < 4) : (Fld.FEAT_ACCEPT_accept, k) ∈ acceptFlds := by
  revert k; decide

/-- Four words ask for a bit that is not offered (R70). -/
def State.asksBeyond (s : State) (ws : List Nat) : Bool :=
  (List.range 4).any (fun k => ws.getD k 0 % 2 ^ 32 != ws.getD k 0 % 2 ^ 32 &&& s.fld .FEAT_OFFER_offer k)

theorem State.asksBeyond_iff {s : State} {ws : List Nat} (hw : ∀ k, ws.getD k 0 < 2 ^ 32) :
    s.asksBeyond ws = true ↔ ∃ k, k < 4 ∧ ws.getD k 0 &&& s.fld .FEAT_OFFER_offer k ≠ ws.getD k 0 := by
  simp only [State.asksBeyond, List.any_eq_true, List.mem_range, bne_iff_ne, Nat.mod_eq_of_lt (hw _), ne_comm]

/-- The accept words while they may be written. -/
theorem State.writeAccept_open {s : State} (h : s.acceptOpen = true) (ws : List Nat) :
    s.writeAccept ws = (List.range 4).foldl
      (fun (s : State) k => s.setFld .FEAT_ACCEPT_accept k (ws.getD k 0 % 2 ^ 32 &&& s.fld .FEAT_OFFER_offer k))
      (if s.asksBeyond ws then s.bump .GLB_FEAT_DROP_CNT_count 0 else s) := by
  simp [State.writeAccept, h, State.asksBeyond]

/-- The value the accept words take is that of the offer, which their writing leaves. -/
theorem offered_setFld_accept (ws : List Nat) (s : State) (k v j : Nat) :
    ws.getD j 0 % 2 ^ 32 &&& (s.setFld .FEAT_ACCEPT_accept k v).fld .FEAT_OFFER_offer j
      = ws.getD j 0 % 2 ^ 32 &&& s.fld .FEAT_OFFER_offer j := by
  rw [s.fld_setFld_ne v (by simp)]

/-- R70: where any bit not offered was 1, one is counted. -/
theorem State.fld_dropCount (s : State) (ws : List Nat) (G : Fld) (j : Nat) :
    (if s.asksBeyond ws then s.bump .GLB_FEAT_DROP_CNT_count 0 else s).fld G j
      = if s.asksBeyond ws = true ∧ G = .GLB_FEAT_DROP_CNT_count ∧ j = 0 then min (s.fld .GLB_FEAT_DROP_CNT_count 0 + 1) 65535
        else s.fld G j := by
  by_cases h : s.asksBeyond ws = true
  · rw [if_pos h, State.fld_bump]; simp only [h, true_and]; rfl
  · rw [if_neg h, if_neg fun x => h x.1]

/-- R70, R71: the words stored, the count, and nothing else. -/
theorem State.fld_writeAccept {s : State} (h : s.acceptOpen = true) (ws : List Nat) (G : Fld) (j : Nat) :
    (s.writeAccept ws).fld G j
      = if G = .FEAT_ACCEPT_accept ∧ j < 4 then (ws.getD j 0 % 2 ^ 32 &&& s.fld .FEAT_OFFER_offer j) % 2 ^ 32
        else if s.asksBeyond ws = true ∧ G = .GLB_FEAT_DROP_CNT_count ∧ j = 0 then min (s.fld .GLB_FEAT_DROP_CNT_count 0 + 1) 65535
        else s.fld G j := by
  rw [State.writeAccept_open h, State.fld_foldl_setFld (offered_setFld_accept ws), State.fld_dropCount, State.fld_dropCount]
  simp only [List.mem_range, reduceCtorEq, false_and, and_false, if_false]
  rfl

/-- PNL0's words of the accept value latched so far (R14). -/
def State.latchAccept (s : State) (ws : List Nat) : State :=
  { s with mgmt := { s.mgmt with
      latches := ⟨0, 0x20, ws⟩ :: s.mgmt.latches.filter (fun x => !(x.panel == 0 && x.start == 0x20)) } }

/-- The latch of the accept value given up. -/
def State.unlatchAccept (s : State) : State :=
  { s with mgmt := { s.mgmt with latches := s.mgmt.latches.filter (fun x => !(x.panel == 0 && x.start == 0x20)) } }

/-- Latching again replaces the words latched. -/
theorem State.latchAccept_latchAccept (s : State) (ws vs : List Nat) : (s.latchAccept ws).latchAccept vs = s.latchAccept vs := by
  simp [State.latchAccept, List.filter_filter]

theorem State.unlatchAccept_latchAccept (s : State) (ws : List Nat) : (s.latchAccept ws).unlatchAccept = s.unlatchAccept := by
  simp [State.latchAccept, State.unlatchAccept, List.filter_filter]

/-- The lowest word begins the value. -/
theorem State.regWrite_accept_first (s : State) (w : Nat) : s.regWrite 0 0x20 w = s.latchAccept [w % 2 ^ 32] := rfl

/-- The words between are latched behind those before them. -/
theorem State.regWrite_accept_second (s : State) (a w : Nat) :
    (s.latchAccept [a]).regWrite 0 0x24 w = (s.latchAccept [a]).latchAccept [a, w % 2 ^ 32] := rfl

theorem State.regWrite_accept_third (s : State) (a b w : Nat) :
    (s.latchAccept [a, b]).regWrite 0 0x28 w = (s.latchAccept [a, b]).latchAccept [a, b, w % 2 ^ 32] := rfl

/-- The last word makes the value take effect. -/
theorem State.regWrite_accept_last (s : State) (a b c w : Nat) :
    (s.latchAccept [a, b, c]).regWrite 0 0x2C w = (s.latchAccept [a, b, c]).unlatchAccept.writeAccept [a, b, c, w % 2 ^ 32] := rfl

/-- FEAT_ACCEPT_WRITE of PNL0 stores the four words as one value. -/
theorem exec_featAcceptWrite_zero (s : State) (w0 w1 w2 w3 : Nat) : exec (.featAcceptWrite 0 w0 w1 w2 w3) s
    = .next (s.unlatchAccept.writeAccept [w0 % 2 ^ 32, w1 % 2 ^ 32, w2 % 2 ^ 32, w3 % 2 ^ 32]) := by
  show execFeatAcceptWrite 0 w0 w1 w2 w3 s = _
  rw [execFeatAcceptWrite, if_pos (by decide), State.regWrite_accept_first, State.regWrite_accept_second,
    State.latchAccept_latchAccept, State.regWrite_accept_third, State.latchAccept_latchAccept, State.regWrite_accept_last,
    State.unlatchAccept_latchAccept]

/-- Every panel reaches the accept words, each of which is handled as part of its value. -/
theorem State.regWrite_accept (s : State) (p : Nat) {k : Nat} (hk : k < 4) (w : Nat) :
    s.regWrite p (0x20 + 4 * k) w = s.writeGroup false p 0x20 4 (0x20 + 4 * k) (w % 2 ^ 32) := by
  have place : ∀ k < 4, blkOf (0x20 + 4 * k) = some 0 ∧ (0x20 + 4 * k) % 4 = 0 ∧ ringPlace (0x20 + 4 * k) = none ∧
      groupOf (0x20 + 4 * k) = some (0x20, 4) := by decide
  obtain ⟨hb, h4, hr, hg⟩ := place k hk
  have ha : s.inAlias p (0x20 + 4 * k) = true := by
    have : 0x20 + 4 * k < 0x1000 := by omega
    simp [State.inAlias, this]
  have hi : ¬(0x3E0000 ≤ 0x20 + 4 * k ∧ 0x20 + 4 * k < 0x3F0000 ∧ (0x20 + 4 * k - 0x3E0000) % 0x1000 = 0x20) := by omega
  simp [State.regWrite, ha, hb, h4, hr, hg, if_neg hi]

/-- The last word alone, with nothing latched, stores nothing. -/
theorem State.regWrite_accept_alone {s : State} (h : s.mgmt.latches = []) (w : Nat) : s.regWrite 0 0x2C w = s := by
  have hm : { s.mgmt with latches := [] } = s.mgmt := by rw [← h]
  have e : s.regWrite 0 0x2C w = { s with mgmt := { s.mgmt with latches := [] } } := by
    rw [s.regWrite_accept 0 (k := 3) (by decide)]
    simp [State.writeGroup, h]
  rw [e, hm]

/-- Another panel's write of an accept word has no effect (R70). -/
theorem State.regWrite_accept_other {s : State} {p k : Nat} (hp : 0 < p) (hk : k < 4) (w : Nat) :
    s.regWrite p (0x20 + 4 * k) w = s := by
  rw [s.regWrite_accept p hk, State.writeGroup, if_pos ⟨rfl, by omega⟩]

theorem exec_featAcceptWrite_other {s : State} {p : Nat} (hp : 0 < p) (hp' : p < 16) (w0 w1 w2 w3 : Nat) :
    exec (.featAcceptWrite p w0 w1 w2 w3) s = .next s := by
  have h0 := s.regWrite_accept_other hp (k := 0) (by decide) w0
  have h1 := s.regWrite_accept_other hp (k := 1) (by decide) w1
  have h2 := s.regWrite_accept_other hp (k := 2) (by decide) w2
  have h3 := s.regWrite_accept_other hp (k := 3) (by decide) w3
  show execFeatAcceptWrite p w0 w1 w2 w3 s = _
  rw [execFeatAcceptWrite, if_pos hp', h0, h1, h2, h3]

/-- Words of 32 bits, and zero beyond them. -/
theorem getD_words_lt {w0 w1 w2 w3 : Nat} (h0 : w0 < 2 ^ 32) (h1 : w1 < 2 ^ 32) (h2 : w2 < 2 ^ 32) (h3 : w3 < 2 ^ 32) (k : Nat) :
    [w0, w1, w2, w3].getD k 0 < 2 ^ 32 := by
  match k with
  | 0 => exact h0
  | 1 => exact h1
  | 2 => exact h2
  | 3 => exact h3
  | _ + 4 => exact Nat.two_pow_pos 32

/-- FEATURE_ACCEPT of PNL0 while the accept words may be written and the loader is not at work: the words are stored where all
their bits are offered. -/
theorem opFeatureAccept_open {s : State} {ws : List Nat} (hl : s.loader < 2) (ha : s.acceptOpen = true) : opFeatureAccept 0 ws s
    = if s.asksBeyond ws then refuse s .notNegotiated
      else ((List.range 4).foldl (fun (s : State) k => s.setFld .FEAT_ACCEPT_accept k (ws.getD k 0)) s, some (rsp .ok)) := by
  have hb : ¬2 ≤ s.loader := by omega
  simp [opFeatureAccept, hb, ha, State.asksBeyond]

/-- Settles O18: the register path by the latch of R14, the command by its own check. -/
theorem acceptedFeaturesAreOffered : Obligations.AcceptedFeaturesAreOffered := by
  refine ⟨fun s w0 w1 w2 w3 ha h0 h1 h2 h3 => ?_, fun s w h => ?_, fun s p w0 w1 w2 w3 hp hp' => ?_,
    fun s c w0 w1 w2 w3 hc hp hl ha h0 h1 h2 h3 => ?_⟩
  · have hw := getD_words_lt h0 h1 h2 h3
    have fld := State.fld_writeAccept (s := s.unlatchAccept) ha [w0, w1, w2, w3]
    refine ⟨s.unlatchAccept.writeAccept [w0, w1, w2, w3], ?_, fun k hk => ?_, ?_, fun F i hn => ?_⟩
    · rw [exec_featAcceptWrite_zero, Nat.mod_eq_of_lt h0, Nat.mod_eq_of_lt h1, Nat.mod_eq_of_lt h2, Nat.mod_eq_of_lt h3]
    · rw [fld, if_pos ⟨rfl, hk⟩, Nat.mod_eq_of_lt (hw k)]; rfl
    · rw [fld, if_neg (by simp)]
      simp only [and_true, State.asksBeyond_iff hw]; rfl
    · rw [fld, if_neg, if_neg]
      · rfl
      · rintro ⟨-, rfl, rfl⟩; exact hn List.mem_cons_self
      · rintro ⟨rfl, hi⟩; exact hn (List.mem_cons_of_mem _ (mem_acceptFlds hi))
  · rw [exec_registerWrite (by decide), State.regWrite_accept_alone h]
  · exact exec_featAcceptWrite_other hp hp' w0 w1 w2 w3
  · have hw := getD_words_lt h0 h1 h2 h3
    have op := opFeatureAccept_open (ws := [w0, w1, w2, w3]) hl ha
    have run : exec (.featureAccept c w0 w1 w2 w3) s = .next (ohi s c 0x0306 (opFeatureAccept 0 [w0, w1, w2, w3] s)) := by
      rw [← hp]; rfl
    have fld := State.fld_foldl_setFld (F := .FEAT_ACCEPT_accept) (g := fun _ k => [w0, w1, w2, w3].getD k 0) (fun _ _ _ _ => rfl)
      (List.range 4) s
    refine ⟨fun hok => ?_, fun hex => ?_⟩
    · have hno : s.asksBeyond [w0, w1, w2, w3] ≠ true := by
        rw [ne_eq, State.asksBeyond_iff hw]
        rintro ⟨k, hk, hne⟩
        exact hne (hok k hk)
      refine ⟨_, by rw [run, op, if_neg hno, ohi_takes hc], fun k hk => ?_, fun F i hn => ?_, ?_⟩
      · rw [fld, if_pos ⟨rfl, List.mem_range.mpr hk⟩]; exact Nat.mod_eq_of_lt (hw k)
      · rw [fld, if_neg]
        rintro ⟨rfl, hi⟩; exact hn (mem_acceptFlds (List.mem_range.mp hi))
      · rfl
    · rw [run, op, if_pos ((State.asksBeyond_iff hw).mpr hex)]
      exact congrArg Host.Outcome.next (ohi_takes hc)

end Sys2Proof.Machine
end

section
/-! SUPPORT. The CHN commands (R116): the checks they share and what each answers of a channel that passes them. -/

namespace Sys2Proof.Machine

/-- The checks every channel command shares: the number first. -/
theorem chnCmd_badArg {s : State} {p ch : Nat} (h : 191 < ch) (k : State × Option Resp) : chnCmd s p ch k = refuse s .badArg :=
  if_pos h

/-- Then the right to name the channel. -/
theorem chnCmd_denied {s : State} {p ch : Nat} (h : ch ≤ 191) (hn : s.mayName p ch = false) (k : State × Option Resp) :
    chnCmd s p ch k = refuse s .denied := by
  simp [chnCmd, Nat.not_lt.mpr h, hn]

/-- Then the CHANNEL_MAP item. -/
theorem chnCmd_notPresent {s : State} {p ch : Nat} (h : ch ≤ 191) (hn : s.mayName p ch = true) (hi : s.chanItem ch = none)
    (k : State × Option Resp) : chnCmd s p ch k = refuse s .notPresent := by
  simp [chnCmd, Nat.not_lt.mpr h, hn, hi]

/-- A channel that passes all three is the command's own. -/
theorem chnCmd_passes {s : State} {p ch : Nat} (h : ch ≤ 191) (hn : s.mayName p ch = true) (hi : s.chanItem ch ≠ none)
    (k : State × Option Resp) : chnCmd s p ch k = k := by
  simp [chnCmd, Nat.not_lt.mpr h, hn, hi]

/-- A refusal is answered and changes nothing else. -/
theorem ohi_refuse {s : State} {c : Cmd} {op : Nat} {r : Res} (h : s.Takes c) : ohi s c op (refuse s r) = s.answer c op (rsp r) :=
  ohi_takes h

/-- A command that chooses between two operations answers as the one it chooses. -/
theorem ohi_ite (s : State) (c : Cmd) (op : Nat) (P : Prop) [Decidable P] (a b : State × Option Resp) :
    ohi s c op (if P then a else b) = if P then ohi s c op a else ohi s c op b := apply_ite ..

/-- R117 of a channel that is QUIET with no change waiting. -/
theorem State.resumesLive_quiet {s : State} {ch : Nat} (hc : s.grid.changes = []) (hq : s.effState ch = chQuiet) :
    s.resumesLive ch = true ↔ (s.chan ch).quietOk = true ∧ (s.chan ch).quietHems ≤ 256 := by
  have hst : s.chState ch = chQuiet := by simpa [State.effState, hc] using hq
  simp [State.resumesLive, hc, hst]

/-- Settles O27: the shared checks in their order, then each command by the state the channel is to have. -/
theorem channelCommandsFollowTheirStates : Obligations.ChannelCommandsFollowTheirStates := by
  intro s c ch hc st
  have answered {s' : State} {op : Nat} {a : Resp} : ohi s c op (s', some a) = s'.answer c op a := ohi_takes hc
  have refused {op : Nat} {r : Res} : ohi s c op (refuse s r) = s.answer c op (rsp r) := ohi_refuse hc
  have run {x y : State} (h : x = y) : Host.Outcome.next (φ := Fault) (ρ := Refusal) x = .next y := congrArg _ h
  refine ⟨fun h => ⟨run ?_, run ?_⟩, fun h hn => ⟨run ?_, run ?_⟩, fun h hn hi => ⟨run ?_, run ?_⟩, fun h hn => run ?_,
    fun h hn hi => ?_⟩
  · rw [opChnStart, chnCmd_badArg h, refused]
  · rw [opChnQuery, if_pos h, refused]
  · rw [opChnStart, chnCmd_denied h hn, refused]
  · rw [opChnRetrain, chnCmd_denied h hn, refused]
  · rw [opChnStart, chnCmd_notPresent h hn hi, refused]
  · rw [opChnQuiet, chnCmd_notPresent h hn hi, refused]
  · rw [opChnQuery, if_neg (Nat.not_lt.mpr h), if_neg (by simp [hn]), answered]
  · have passes := chnCmd_passes h hn hi
    refine ⟨fun ht => run ?_, run ?_, run ?_, run ?_, State.resumesLive_quiet, run ?_, fun mode hm => run ?_,
      fun role hr => run ?_⟩
    · rw [opChnStart, passes, if_neg (by simp [ht])]
      simp only [ohi_ite, refused, answered, st]
    · rw [opChnStop, if_neg (by simp [hi]), passes, answered]
    · simp only [opChnQuiet, passes, ohi_ite, refused, answered, st]
    · rw [opChnResume, passes]
      simp only [ohi_ite, refused, answered, st, ite_not]
    · simp only [opChnRetrain, passes, ohi_ite, refused, answered, st]
    · rw [opChnSetCoupling, if_neg (Nat.not_lt.mpr hm), passes]
      simp only [ohi_ite, refused, answered, st]
    · rw [opChnSetRole, if_neg (Nat.not_lt.mpr hr), passes]
      simp only [ohi_ite, refused, answered, st]

end Sys2Proof.Machine
end

section
/-! SUPPORT. Release of a reset and start-up (R69, R463, R485, R489): the lanes that leave OFF, the offer by its bits, what the boot
events leave, and the block a self-test was run for. -/

namespace Sys2Proof.Machine

/-- A lane's new state is its own. -/
theorem State.laneState_setLaneState (s : State) (i j st cause : Nat) :
    (s.setLaneState i st cause).laneState j = if j = i then st % 8 else s.laneState j := by
  unfold State.setLaneState State.laneState
  dsimp only
  split <;> simp only [State.fld_setFlag, State.fld_setFld, reduceCtorEq, false_and, if_false, true_and] <;> rfl

@[simp] theorem State.setLaneState_hlk (s : State) (j st cause : Nat) : (s.setLaneState j st cause).hlk = s.hlk := by
  unfold State.setLaneState; dsimp only; split <;> rfl

@[simp] theorem State.setLaneState_rst (s : State) (j st cause : Nat) : (s.setLaneState j st cause).rst = s.rst := by
  unfold State.setLaneState; dsimp only; split <;> rfl

/-- A lane the release lets go: in use, OFF and not fenced off (R352). -/
def State.leavesOff (s : State) (j : Nat) : Bool := s.laneUsed j && s.laneState j == hlkOff && !s.isFenced blkLane j

/-- Lanes go DOWN one after the other; one that went stays. -/
theorem laneState_forAll_release {j : Nat} (l : List Nat) {s : State} (hu : s.laneUsed j = true) (hf : s.isFenced blkLane j = false)
    (h : s.laneState j = hlkOff ∧ j ∈ l ∨ s.laneState j = hlkDown) :
    (forAll l (fun i s => if s.leavesOff i then s.setLaneState i hlkDown 0 else s) s).laneState j = hlkDown := by
  induction l generalizing s with
  | nil => exact h.resolve_left fun h => List.not_mem_nil h.2
  | cons i l ih =>
    show (forAll l _ (if s.leavesOff i = true then s.setLaneState i hlkDown 0 else s)).laneState j = hlkDown
    split
    · next hi =>
      refine ih ?_ ?_ ?_
      · rw [State.laneUsed, State.lane, State.setLaneState_hlk]; exact hu
      · rw [State.isFenced, State.setLaneState_rst]; exact hf
      · rw [State.laneState_setLaneState]
        by_cases e : j = i
        · exact .inr (if_pos e)
        · simpa [e] using h
    · next hi =>
      refine ih hu hf ?_
      rcases h with ⟨h0, hm⟩ | h
      · have e : j ≠ i := by rintro rfl; exact hi (by simp [State.leavesOff, hu, hf, h0])
        exact .inl ⟨h0, (List.mem_cons.mp hm).resolve_left e⟩
      · exact .inr h

theorem State.laneState_releaseLanes {s : State} {j : Nat} (hj : j < 8) (hu : s.laneUsed j = true) (h0 : s.laneState j = hlkOff)
    (hf : s.isFenced blkLane j = false) : s.releaseLanes.laneState j = hlkDown :=
  laneState_forAll_release (List.range 8) hu hf (.inl ⟨h0, List.mem_range.mpr hj⟩)

theorem State.releaseLanes_rst (s : State) : s.releaseLanes.rst = s.rst := by
  unfold State.releaseLanes forAll
  refine List.foldlRecOn (motive := fun t : State => t.rst = s.rst) _ _ rfl fun t ht i _ => ?_
  dsimp only
  split
  · exact (t.setLaneState_rst ..).trans ht
  · exact ht

/-- A release while a reset is held, or with none asserted. -/
theorem exec_resetRelease_held {s : State} (h : s.heldReset = true ∨ s.rst.level = none) : exec .resetRelease s = .next s := by
  show execResetRelease s = _
  unfold execResetRelease
  rcases h with h | h
  · rw [if_pos h]
  · rw [h, ite_self]

/-- The release of a PLANE reset (R485). -/
theorem exec_resetRelease_plane {s : State} (hh : s.heldReset = false) (hl : s.rst.level = some 1) :
    exec .resetRelease s = .next (s.updRst (fun r => { r with level := none })).releaseLanes := by
  show execResetRelease s = _
  rw [execResetRelease, if_neg (by simp [hh]), hl]
  rfl

/-- The release of a WARM or COLD reset (R485): ticks at 0, the boot ROM to run. -/
def State.released (s : State) (l : Nat) : State :=
  ({ s with tick := 0, drm := { s.drm with zero := 0 } }).updRst (fun r => { r with level := none, boot := 1, bootLevel := l, pwr := .run })

theorem exec_resetRelease_boot {s : State} {l : Nat} (hh : s.heldReset = false) (hl : s.rst.level = some l) (h : l = 2 ∨ l = 3) :
    exec .resetRelease s = .next (if l = 3 then (s.released l).setFlag .PWR_STRAPS_straps_valid 0 true else s.released l) := by
  show execResetRelease s = _
  rw [execResetRelease, if_neg (by simp [hh]), hl]
  rcases h with rfl | rfl <;> rfl

/-- FIRMWARE_VERIFIED while the boot ROM runs. -/
theorem exec_firmwareVerified {s : State} (hl : s.rst.level = none) (hb : s.rst.boot = 1) (ho : s.rst.off = false) (ok : Bool) :
    exec (.firmwareVerified ok) s = .next (
      if ok then (s.updSec (fun x => { x with fwRun := s.bootPart, fwErased := false })).updRst (fun r => { r with boot := 2 })
      else (s.setFlag .GLB_STATUS_boot 0 true).updRst (fun r => { r with boot := 0 })) := by
  show execFirmwareVerified ok s = _
  rw [execFirmwareVerified, if_neg (by simp [hl, hb, ho])]

/-- A sum of the powers of two a list of bits picks has those bits. -/
theorem testBit_sumBits (l : List Bool) (k m i : Nat) (hm : m < 2 ^ k) :
    ((l.zipIdx k).foldl (fun (n : Nat) (e : Bool × Nat) => n + 2 ^ e.2 * b2n e.1) m).testBit i
      = if i < k then m.testBit i else l.getD (i - k) false := by
  induction l generalizing k m with
  | nil =>
    split
    · rfl
    · next h => simpa using Nat.testBit_lt_two_pow (hm.trans_le (Nat.pow_le_pow_right (by decide) (Nat.le_of_not_lt h)))
  | cons b l ih =>
    have hb : m + 2 ^ k * b2n b < 2 ^ (k + 1) := by
      rw [Nat.pow_succ]; cases b <;> simp [b2n] <;> omega
    rw [List.zipIdx_cons, List.foldl_cons, ih _ _ hb, Nat.add_comm m, Nat.testBit_two_pow_mul_add _ hm]
    by_cases h1 : i < k
    · rw [if_pos (by omega), if_pos h1, if_pos h1]
    · rw [if_neg h1]
      obtain ⟨d, rfl⟩ := Nat.exists_eq_add_of_le (Nat.le_of_not_lt h1)
      cases d with
      | zero => cases b <;> simp [b2n]
      | succ d => rw [if_neg (by omega)]; simp [show k + (d + 1) - (k + 1) = d by omega]

/-- Bits of the offer (R69): bit 4 and bit 14 follow stacked memory, bit 5 is always offered. -/
theorem State.testBit_offerNow (s : State) : s.offerNow.testBit 4 = s.memTrained ∧ s.offerNow.testBit 5 = true ∧
    s.offerNow.testBit 14 = !s.memTrained := by
  unfold State.offerNow
  dsimp only
  refine ⟨?_, ?_, ?_⟩ <;> rw [testBit_sumBits _ 0 0 _ (by decide)] <;> rfl

/-- What MEMORY_TRAINING_DONE shows of stacked memory and Bobbins. -/
def State.memoryShown (s : State) (ok : Bool) : State :=
  let t := (s.drawFree.2.setFld .HBM_STATUS_trained 0 (if ok then 15 else 0)).setFlag .HBM_STATUS_fenced 0 (!ok)
  (if ok then t.setFld .HBM_STATUS_temp_max 0 s.drawFree.1 else t).showBobs

/-- The offer follows, and start-up ends. -/
def State.afterTraining (s : State) (ok : Bool) : State :=
  ((s.memoryShown ok).setFld .FEAT_OFFER_offer 0 (s.memoryShown ok).offerNow).updRst (fun r => { r with boot := 0 })

/-- The boot is logged, with what KEEP recorded (R478, R491). -/
def State.bootEvents (s : State) : State :=
  let s := s.log 0x0001 noPanel noInst (s.rst.bootLevel + 256 * s.fld .RST_CAUSE_sources 0)
  let s := if s.flag .RST_CAUSE_from_keep 0 then
      (s.log 0x0203 noPanel noInst s.rst.blankRing.length).updRst (fun r => { r with blankRing := [] }) else s
  if s.sec.tamperLog then
    (s.log 0x0402 noPanel noInst (s.fld .SEC_CFG_tamper_mode 0)).updSec (fun x => { x with tamperLog := false }) else s

theorem exec_memoryTrainingDone {s : State} (hl : s.rst.level = none) (hb : s.rst.boot = 2) (ok : Bool) :
    exec (.memoryTrainingDone ok) s
      = .next (let t := (s.afterTraining ok).bootEvents; t.updLdr (fun l => { l with sources := t.bootSources })) := by
  show execMemoryTrainingDone ok s = _
  rw [execMemoryTrainingDone, if_neg (by simp [hl, hb])]
  rfl

/-- What the boot events keep: the fields but the log's, the step of start-up and the owners. -/
structure BootKept (s t : State) : Prop where
  flds : FldsKept logFlds s t
  boot : t.rst.boot = s.rst.boot
  owners : t.sec.owners = s.sec.owners

theorem BootKept.log {s t : State} (h : BootKept s t) (code panel inst data : Nat) : BootKept s (t.log code panel inst data) :=
  ⟨h.flds.trans (t.log_kept ..).flds, by rw [State.log_rst]; exact h.boot, by rw [State.log_sec]; exact h.owners⟩

theorem State.bootEvents_kept (s : State) : BootKept s s.bootEvents := by
  unfold State.bootEvents
  extract_lets t u
  have ht : BootKept s t := BootKept.log ⟨FldsKept.refl _ s, rfl, rfl⟩ ..
  have hu : BootKept s u := by
    show BootKept s (if _ then _ else t)
    split
    · obtain ⟨hf, hb, ho⟩ := ht.log 0x0203 noPanel noInst t.rst.blankRing.length
      exact ⟨hf.congr rfl, hb, ho⟩
    · exact ht
  split
  · obtain ⟨hf, hb, ho⟩ := hu.log 0x0402 noPanel noInst (u.fld .SEC_CFG_tamper_mode 0)
    exact ⟨hf.congr rfl, hb, ho⟩
  · exact hu

/-- The sources to try follow the owners and the straps. -/
theorem State.bootSources_congr {s t : State} (ho : t.sec.owners = s.sec.owners)
    (hb : t.fld .PWR_STRAPS_boot_sel 0 = s.fld .PWR_STRAPS_boot_sel 0) : t.bootSources = s.bootSources := by
  simp only [State.bootSources, State.owned, State.ownerSlot, ho, hb]
  rfl

/-- The fields training shows. -/
def trainFlds : List (Fld × Nat) :=
  [(.HBM_STATUS_trained, 0), (.HBM_STATUS_fenced, 0), (.HBM_STATUS_temp_max, 0), (.FEAT_OFFER_offer, 0), (.BOB_STATUS_working, 0),
    (.BOB_STATUS_spares, 0)]

theorem State.showBobs_flds (s : State) : FldsKept [(.BOB_STATUS_working, 0), (.BOB_STATUS_spares, 0)] s s.showBobs :=
  ((FldsKept.refl _ s).setFld _ (by simp)).setFld _ (by simp)

/-- What showing stacked memory reads back: each field but the Bobbins'. -/
theorem State.fld_memoryShown (s : State) (ok : Bool) {F : Fld} (h : F ∉ [.BOB_STATUS_working, .BOB_STATUS_spares, .HBM_STATUS_temp_max])
    (i : Nat) : (s.memoryShown ok).fld F i
      = if F = .HBM_STATUS_fenced ∧ i = 0 then (if ok then 0 else 1)
        else if F = .HBM_STATUS_trained ∧ i = 0 then (if ok then 15 else 0) else s.fld F i := by
  simp only [List.mem_cons, List.not_mem_nil, or_false, not_or] at h
  obtain ⟨hw, hs, ht⟩ := h
  unfold State.memoryShown
  rw [State.showBobs_flds _ F i (by simp [hw, hs])]
  cases ok <;> simp [State.fld_setFlag, State.fld_setFld, ht, b2n] <;> rfl

/-- Stacked memory serves where it was trained. -/
theorem State.memTrained_memoryShown (s : State) (ok : Bool) : (s.memoryShown ok).memTrained = ok := by
  rw [State.memTrained, State.flag, s.fld_memoryShown ok (by decide), s.fld_memoryShown ok (by decide)]
  cases ok <;> rfl

theorem State.memoryShown_flds (s : State) (ok : Bool) : FldsKept trainFlds s (s.memoryShown ok) := by
  unfold State.memoryShown
  extract_lets t
  have kt : FldsKept trainFlds s t := by
    have k0 : FldsKept trainFlds s s.drawFree.2 := (FldsKept.refl _ s).congr rfl
    exact (k0.setFld (F := .HBM_STATUS_trained) _ (by simp [trainFlds])).setFlag _ (by simp [trainFlds])
  have bobs (u : State) : FldsKept trainFlds u u.showBobs := u.showBobs_flds.mono (by simp [trainFlds])
  split
  · exact (kt.setFld _ (by simp [trainFlds])).trans (bobs _)
  · exact kt.trans (bobs t)

/-- Training changes the fields it shows alone. -/
theorem State.afterTraining_flds (s : State) (ok : Bool) : FldsKept trainFlds s (s.afterTraining ok) :=
  ((s.memoryShown_flds ok).setFld (F := .FEAT_OFFER_offer) _ (by simp [trainFlds])).congr rfl

/-- The word of the offer has the bits of `offerNow`. -/
theorem State.bit_offer (s : State) (ok : Bool) {i : Nat} (h : i < 32) :
    bit ((s.afterTraining ok).fld .FEAT_OFFER_offer 0) i = (s.memoryShown ok).offerNow.testBit i := by
  have e : (s.afterTraining ok).fld .FEAT_OFFER_offer 0 = (s.memoryShown ok).offerNow % 2 ^ 32 := State.fld_setFld_same ..
  rw [e, bit, Nat.testBit_mod_two_pow, decide_eq_true h, Bool.true_and]

/-- The offer leaves every other field as training showed it. -/
theorem State.fld_afterTraining (s : State) (ok : Bool) {F : Fld} (h : F ≠ .FEAT_OFFER_offer) (i : Nat) :
    (s.afterTraining ok).fld F i = (s.memoryShown ok).fld F i :=
  State.fld_setFld_ne _ _ fun e => h e.1

theorem State.afterTraining_owners (s : State) (ok : Bool) : (s.afterTraining ok).sec.owners = s.sec.owners := by
  unfold State.afterTraining State.memoryShown
  cases ok <;> rfl

/-- BLOCK_RESET_COMPLETE of a block whose reset is under way. -/
theorem exec_blockResetComplete {s : State} {typ idx : Nat} {e : Nat × Nat × Cmd}
    (he : s.rst.blocks.find? (fun e => e.1 == typ && e.2.1 == idx) = some e) (pass : Bool) :
    exec (.blockResetComplete typ idx pass) s
      = .next (let u := (s.updRst (fun r => { r with blocks := r.blocks.erase e })).bump .RST_CNT_block_cnt 0
          (if pass then u.blkPass typ idx else u.blkFail typ idx).completeCmd e.2.2 0x0103 (rsp (if pass then .ok else .fault))) := by
  show execBlockResetComplete typ idx pass s = _
  rw [execBlockResetComplete, he]

/-- A decoder unit that passes rejoins its pool at the next slot boundary (R489). -/
theorem State.blkPass_unit {s : State} {typ idx : Nat} (ht : typ = 5 ∨ typ = 6) (hf : s.isFenced typ idx = true)
    (hr : s.grid.running = true) : s.blkPass typ idx = s.request (.decBack (typ - 5) idx) := by
  rcases ht with rfl | rfl <;> simp [State.blkPass, hf, hr, blkVit]

/-- Settles O56: release by the level, start-up by its step, and a self-test by the block's type. -/
theorem releaseAndStartUp : Obligations.ReleaseAndStartUp := by
  refine ⟨fun s => ⟨exec_resetRelease_held, fun hh hl => ?_, fun l hh hl h => ?_⟩, fun s ok => ⟨fun hb => ?_, fun hl hb ho => ?_⟩,
    fun s ok => ⟨fun hb => ?_, fun hl hb => ?_⟩, fun s typ idx e he => ⟨fun ht hf hr => ?_, fun ht => ?_⟩,
    fun s typ idx pass he => ?_⟩
  · refine ⟨_, exec_resetRelease_plane hh hl, ?_, fun j hj hu h0 hf => State.laneState_releaseLanes hj hu h0 hf⟩
    rw [State.releaseLanes_rst]; rfl
  · refine ⟨_, exec_resetRelease_boot hh hl h, ?_⟩
    have kept : FldsKept [(.PWR_STRAPS_straps_valid, 0)] s (s.released l) := (FldsKept.refl _ s).congr rfl
    split
    · next h3 =>
      exact ⟨rfl, rfl, rfl, rfl, kept.setFlag _ (by simp), fun _ => State.fld_setFld_same ..⟩
    · next h3 => exact ⟨rfl, rfl, rfl, rfl, kept, fun h => absurd h h3⟩
  · show execFirmwareVerified ok s = _
    rw [execFirmwareVerified, if_pos (.inr (.inl hb))]
  · refine ⟨_, exec_firmwareVerified hl hb ho ok, ?_⟩
    have kept : FldsKept [(.GLB_STATUS_boot, 0)] s (s.setFlag .GLB_STATUS_boot 0 true) := (FldsKept.refl _ s).setFlag _ (by simp)
    cases ok
    · exact ⟨nofun, fun _ => ⟨rfl, s.fld_setFld_same .GLB_STATUS_boot 0 1, kept.congr rfl⟩⟩
    · exact ⟨fun _ => ⟨rfl, rfl, rfl⟩, nofun⟩
  · show execMemoryTrainingDone ok s = _
    rw [execMemoryTrainingDone, if_pos (.inr hb)]
  · refine ⟨_, exec_memoryTrainingDone hl hb ok, ?_⟩
    obtain ⟨hlog, hboot, hown⟩ := (s.afterTraining ok).bootEvents_kept
    generalize (s.afterTraining ok).bootEvents = t at hlog hboot hown ⊢
    have train := s.afterTraining_flds ok
    have fld {F : Fld} (h : (F, 0) ∉ logFlds) := hlog F 0 h
    obtain ⟨h4, h5, h14⟩ := (s.memoryShown ok).testBit_offerNow
    rw [s.memTrained_memoryShown] at h4 h14
    have offer := fld (F := .FEAT_OFFER_offer) (by decide)
    refine ⟨hboot, ?_, ?_, ?_, ?_, ?_, ?_, ?_⟩
    · refine (fld (by decide)).trans ?_
      rw [s.fld_afterTraining ok (by decide), s.fld_memoryShown ok (by decide)]; rfl
    · refine (fld (by decide)).trans ?_
      rw [s.fld_afterTraining ok (by decide), s.fld_memoryShown ok (by decide)]; rfl
    · exact (congrArg (bit · 4) offer).trans ((s.bit_offer ok (by decide)).trans h4)
    · exact (congrArg (bit · 14) offer).trans ((s.bit_offer ok (by decide)).trans h14)
    · exact (congrArg (bit · 5) offer).trans ((s.bit_offer ok (by decide)).trans h5)
    · exact State.bootSources_congr (hown.trans (s.afterTraining_owners ok))
        ((fld (by decide)).trans (train _ 0 (by simp [trainFlds])))
    · exact ((train.mono fun x hx => List.mem_append_left _ hx).trans (hlog.mono fun x hx => List.mem_append_right _ hx)).congr rfl
  · rw [exec_blockResetComplete he]
    exact congrArg (fun x : State => Host.Outcome.next (x.completeCmd e.2.2 0x0103 (rsp .ok))) (State.blkPass_unit ht hf hr)
  · subst ht; rw [exec_blockResetComplete he]; rfl
  · show execBlockResetComplete typ idx pass s = _
    rw [execBlockResetComplete, he]

end Sys2Proof.Machine
end

section
/-! SUPPORT. Transmissions (R36, R243, R246): the acknowledgement committed to its slot, the slot whose window sends nothing else,
and what a launch leaves of the committed and the launched frames. -/

namespace Sys2Proof.Machine

/-- What a channel holds and an update of it keeps. -/
theorem State.chan_updChan_congr {β : Type} (g : Chan → β) {f : Chan → Chan} (hg : ∀ c, g (f c) = g c) (s : State) (ch x : Nat) :
    g ((s.updChan ch f).chan x) = g (s.chan x) := by
  by_cases h : x = ch
  · subst h; rw [State.updChan, State.chan_setChan_same, hg]
  · rw [State.updChan, State.chan_setChan_ne _ _ h]

/-- The acknowledgement leaves those a channel owes. -/
def State.ackTaken (s : State) (ch : Nat) (a : AckDue) : State := s.updChan ch (fun c => { c with acks := c.acks.erase a })

theorem State.chan_ackTaken {β : Type} (g : Chan → β) (hg : ∀ c l, g { c with acks := l } = g c) (s : State) (ch : Nat) (a : AckDue)
    (x : Nat) : g ((s.ackTaken ch a).chan x) = g (s.chan x) :=
  State.chan_updChan_congr g (fun c => hg c _) s ch x

/-- The windows, the right to send and Duplex do not read the acknowledgements owed. -/
theorem State.winType_ackTaken (s : State) (ch : Nat) (a : AckDue) (x k : Nat) :
    (s.ackTaken ch a).winType x k = s.winType x k := by
  have hm := s.chan_ackTaken (·.map) (fun _ _ => rfl) ch a x
  have hn := s.chan_ackTaken (·.nextMap) (fun _ _ => rfl) ch a x
  have hl := s.chan_ackTaken (·.layout) (fun _ _ => rfl) ch a x
  have ht := s.chan_ackTaken (·.bcnTheta) (fun _ _ => rfl) ch a x
  have wins : (s.ackTaken ch a).windowsOf x = s.windowsOf x := by
    unfold State.windowsOf; rw [hl]; rfl
  have live : (s.ackTaken ch a).liveMap x = s.liveMap x := by
    unfold State.liveMap; rw [wins, ht]; rfl
  have mapAt (t : Nat) : (s.ackTaken ch a).mapAt x t = s.mapAt x t := by
    unfold State.mapAt; rw [hm, hn, live]; rfl
  unfold State.winType State.windowAt State.rulingPhase
  dsimp only
  simp only [mapAt]
  rfl

theorem State.winType_committed (s : State) (l : List Frame) (ch k : Nat) :
    ({ s with grid := { s.grid with committed := l } } : State).winType ch k = s.winType ch k := rfl

theorem State.maySend_ackTaken (s : State) (ch : Nat) (a : AckDue) (x : Nat) (all : Bool) :
    (s.ackTaken ch a).maySend x all = s.maySend x all := by
  unfold State.maySend
  rw [s.chan_ackTaken (·.bcnLost) (fun _ _ => rfl)]
  rfl

theorem State.duplexHeld_ackTaken (s : State) (ch : Nat) (a : AckDue) (d k n : Nat) :
    (s.ackTaken ch a).duplexHeld d k n = s.duplexHeld d k n := by
  unfold State.duplexHeld
  simp only [s.chan_ackTaken (·.await) (fun _ _ => rfl)]
  rfl

/-- The frame of an acknowledgement due. -/
def State.ackFrame (s : State) (ch : Nat) (a : AckDue) : Frame :=
  { ch := ch, slot := a.slot, kind := .ack, fc := a.fc, payload := [], len := 2, panel := (s.owner ch).getD 0, hem := s.hemOf a.slot }

/-- An acknowledgement joins the committed frames. -/
def State.ackCommitted (s : State) (ch : Nat) (a : AckDue) : State :=
  let t := s.ackTaken ch a
  { t with grid := { t.grid with committed := s.grid.committed ++ [s.ackFrame ch a] } }

/-- An acknowledgement that nothing holds back is committed (R243). -/
theorem State.commitAck_sends {s : State} {ch : Nat} {a : AckDue} (hq : s.chState ch ≠ chQuiet) (hs : s.maySend ch false = true)
    (hm : s.maskedFor ch (s.airSet (s.ackFrame ch a)) a.fc.prio = false) (hd : s.duplexHeld ch a.slot 2 = false) :
    s.commitAck ch a = s.ackCommitted ch a := by
  have hs' := (s.maySend_ackTaken ch a ch false).trans hs
  have hd' := (s.duplexHeld_ackTaken ch a ch a.slot 2).trans hd
  show (if (s.ackTaken ch a).chState ch = chQuiet ∨ (s.ackTaken ch a).maySend ch false = false then _ else
    if (s.ackTaken ch a).maskedFor ch ((s.ackTaken ch a).airSet (s.ackFrame ch a)) a.fc.prio then _ else
    if a.fc.prio < 3 ∧ (s.ackTaken ch a).duplexHeld ch a.slot 2 = true then _ else _) = _
  have hq' : (s.ackTaken ch a).chState ch ≠ chQuiet := hq
  have hm' : (s.ackTaken ch a).maskedFor ch ((s.ackTaken ch a).airSet (s.ackFrame ch a)) a.fc.prio = false := hm
  rw [if_neg (by simp [hq', hs']), if_neg (by simp [hm']), if_neg (by simp [hd'])]
  rfl

theorem State.acks_ackCommitted {s : State} {ch : Nat} {a : AckDue} (h : (s.chan ch).acks = [a]) :
    ((s.ackCommitted ch a).chan ch).acks = [] := by
  have e : (s.ackCommitted ch a).chan ch = { s.chan ch with acks := (s.chan ch).acks.erase a } := s.chan_setChan_same ch _
  rw [e, h, List.erase_cons_head]

/-- In a QUIET window a channel commits the acknowledgement due and nothing else (R234). -/
theorem State.commitChan_quiet {s : State} {ch : Nat} {a : AckDue} (ha : (s.chan ch).acks = [a]) (hq : s.chState ch ≠ chQuiet)
    (hs : s.maySend ch false = true) (hm : s.maskedFor ch (s.airSet (s.ackFrame ch a)) a.fc.prio = false)
    (hd : s.duplexHeld ch a.slot 2 = false) (hw : s.winType ch a.slot = wtQuiet) (hb : (s.chan ch).bcnSent = false)
    (hg : s.rst.gaspSent = []) : s.commitChan ch a.slot = s.ackCommitted ch a := by
  have hw' : (s.ackCommitted ch a).winType ch a.slot = wtQuiet :=
    (State.winType_committed (s.ackTaken ch a) _ ch a.slot).trans ((s.winType_ackTaken ch a ch a.slot).trans hw)
  have hb' : ((s.ackCommitted ch a).chan ch).bcnSent = false := (s.chan_ackTaken (·.bcnSent) (fun _ _ => rfl) ch a ch).trans hb
  have hg' : (s.ackCommitted ch a).rst.gaspSent = [] := hg
  unfold State.commitChan
  extract_lets due s1 t s2 _ s3
  have e1 : s1 = s.ackCommitted ch a := by
    simp only [s1, due, ha, List.filter_cons, List.filter_nil, beq_self_eq_true, if_true, List.foldl_cons, List.foldl_nil]
    exact State.commitAck_sends hq hs hm hd
  have et : t = wtQuiet := by simp only [t, e1, hw']
  have e2 : s2 = s.ackCommitted ch a := by simp only [s2, e1, hb', Bool.false_eq_true, and_false, if_false]
  have e3 : s3 = s.ackCommitted ch a := by simp only [s3, e2, hg', tget_nil, Nat.zero_ne_one, and_false, if_false]
  rw [et, e3]
  simp only [wtQuiet, wtBeacon, wtProtect, OfNat.ofNat_ne_zero, if_false, or_true, if_true, Nat.reduceEqDiff, ite_self]

/-- A fold in which one element of a list without repeats acts alone. -/
theorem foldl_range_single {f : State → Nat → State} {s t : State} {n k : Nat} (hk : k < n) (hs : ∀ j, j ≠ k → f s j = s)
    (ht : ∀ j, j ≠ k → f t j = t) (h : f s k = t) : (List.range n).foldl f s = t := by
  obtain ⟨l, r, hl⟩ := List.append_of_mem (List.mem_range.mpr hk)
  have nd : (l ++ k :: r).Nodup := hl ▸ List.nodup_range
  rw [List.nodup_append, List.nodup_cons] at nd
  obtain ⟨-, ⟨hr, -⟩, hd⟩ := nd
  have before : l.foldl f s = s :=
    forAll_id (f := fun j s => f s j) fun j hj => hs j (hd j hj k List.mem_cons_self)
  have after : r.foldl f t = t :=
    forAll_id (f := fun j s => f s j) fun j hj => ht j (fun e => hr (e ▸ hj))
  rw [hl, List.foldl_append, before, List.foldl_cons, h, after]

/-- The item of a channel in a pattern with one. -/
theorem State.chanItem_single {s : State} {i : ChanItem} (h : s.pat.chans = [i]) (ch : Nat) :
    s.chanItem ch = if i.channel = ch then some i else none := by
  unfold State.chanItem
  rw [h, List.find?_singleton]
  simp only [beq_iff_eq]

/-- At the commit point of a station with one channel, that channel commits. -/
theorem exec_transmitCommit_single {s t : State} {ch : Nat} {i : ChanItem} (hi : s.pat.chans = [i]) (hc : i.channel = ch) (h : ch < 192)
    (hr : s.grid.running = true) (e : s.commitChan ch s.commitSlot = t) (hp : t.pat = s.pat) :
    exec .transmitCommit s = .next t := by
  have only {u : State} (hu : u.pat = s.pat) {x : Nat} (hx : x ≠ ch) : (u.chanItem x).isSome = false := by
    rw [State.chanItem_single (hu ▸ hi), if_neg (hc ▸ hx.symm)]; rfl
  show execTransmitCommit s = _
  rw [execTransmitCommit, if_neg (by simp [hr])]
  refine congrArg Host.Outcome.next (foldl_range_single h (fun x hx => ?_) (fun x hx => ?_) ?_)
  · rw [if_neg (by simp [only rfl hx])]
  · rw [if_neg (by simp [only hp hx])]
  · rw [if_pos (by rw [State.chanItem_single hi, if_pos hc]; rfl), e]

/-! What the samples of a slot leave. -/

@[simp] theorem State.fillDown_regs (s : State) (j : Nat) : (s.fillDown j).regs = s.regs := by
  unfold State.fillDown; split <;> rfl

@[simp] theorem State.fillDown_grid (s : State) (j : Nat) : (s.fillDown j).grid = s.grid := by
  unfold State.fillDown; split <;> rfl

@[simp] theorem State.fillDown_chans (s : State) (j : Nat) : (s.fillDown j).chans = s.chans := by
  unfold State.fillDown; split <;> rfl

/-- ACK_SEND ahead of the slot commits the acknowledgement; nothing launches. -/
theorem exec_ackSend_ahead {s : State} {ch : Nat} {a : AckDue} (ha : (s.chan ch).acks = [a]) (hq : s.chState ch ≠ chQuiet)
    (hs : s.maySend ch false = true) (hm : s.maskedFor ch (s.airSet (s.ackFrame ch a)) a.fc.prio = false)
    (hd : s.duplexHeld ch a.slot 2 = false) (hk : s.grid.slot < a.slot)
    (hn : ∀ x ∈ s.grid.committed, ¬(x.ch = ch ∧ x.kind = .ack ∧ x.slot = s.grid.slot)) :
    exec (.ackSend ch) s = .next ((s.ackCommitted ch a).fillDown (headOf ch)) := by
  have none_launches : (s.ackCommitted ch a).grid.committed.filter
      (fun f => f.ch == ch && f.kind == .ack && f.slot == (s.ackCommitted ch a).grid.slot) = [] := by
    rw [List.filter_eq_nil_iff]
    intro x hx
    have hx' : x ∈ s.grid.committed ++ [s.ackFrame ch a] := hx
    have hslot : (s.ackCommitted ch a).grid.slot = s.grid.slot := rfl
    rw [hslot]
    rcases List.mem_append.mp hx' with hx | hx
    · simpa [and_assoc] using hn x hx
    · obtain rfl := List.mem_singleton.mp hx
      have : a.slot ≠ s.grid.slot := by omega
      simp [State.ackFrame, this]
  show execAckSend ch s = _
  unfold execAckSend
  rw [ha]
  dsimp only
  rw [if_pos hk.le, State.commitAck_sends hq hs hm hd, none_launches, List.foldl_nil]

/-! What a launch leaves of the committed and the launched frames. -/

/-- The frames committed and those launched. -/
def State.frames (s : State) : List Frame × List Frame := (s.grid.committed, s.grid.launched)

theorem State.frames_congr {s t : State} (h : t.grid = s.grid) : t.frames = s.frames := by unfold State.frames; rw [h]

/-- A fold of steps that keep the frames keeps them. -/
theorem State.frames_foldl {α : Type} {f : State → α → State} (hf : ∀ s x, (f s x).frames = s.frames) (l : List α) (s : State) :
    (l.foldl f s).frames = s.frames :=
  List.foldlRecOn (motive := fun t : State => t.frames = s.frames) l f rfl fun t ht x _ => (hf t x).trans ht

theorem State.frames_ite {P : Prop} [Decidable P] {s a b : State} (ha : a.frames = s.frames) (hb : b.frames = s.frames) :
    (if P then a else b).frames = s.frames := by split <;> assumption

@[simp] theorem State.frames_setFld (s : State) (F : Fld) (i v : Nat) : (s.setFld F i v).frames = s.frames := rfl
@[simp] theorem State.frames_setFlag (s : State) (F : Fld) (i : Nat) (b : Bool) : (s.setFlag F i b).frames = s.frames := rfl
@[simp] theorem State.frames_bump (s : State) (F : Fld) (i : Nat) : (s.bump F i).frames = s.frames := rfl
@[simp] theorem State.frames_setChan (s : State) (ch : Nat) (c : Chan) : (s.setChan ch c).frames = s.frames := rfl
@[simp] theorem State.frames_updChan (s : State) (ch : Nat) (f : Chan → Chan) : (s.updChan ch f).frames = s.frames := rfl
@[simp] theorem State.frames_resetRx (s : State) (ch : Nat) : (s.resetRx ch).frames = s.frames := rfl
@[simp] theorem State.frames_addRamp (s : State) (ch a b : Nat) : (s.addRamp ch a b).frames = s.frames := rfl
@[simp] theorem State.frames_fillDown (s : State) (j : Nat) : (s.fillDown j).frames = s.frames :=
  State.frames_congr (s.fillDown_grid j)

@[simp] theorem State.frames_buildAir (s : State) (f : Frame) : (s.buildAir f).2.frames = s.frames := by
  unfold State.buildAir State.payCells
  dsimp only
  split <;> rfl

@[simp] theorem State.frames_chargeSlot (s : State) (ch k : Nat) : (s.chargeSlot ch k).frames = s.frames := by
  unfold State.chargeSlot
  extract_lets +onlyGivenNames e
  clear_value e
  split
  · rfl
  · refine State.frames_foldl (fun _ _ => ?_) _ s
    rfl

@[simp] theorem State.frames_checkLive (s : State) (ch : Nat) : (s.checkLive ch).frames = s.frames := by
  unfold State.checkLive
  exact State.frames_ite rfl rfl

@[simp] theorem State.frames_useMap (s : State) (ch i : Nat) (m : ToneMap) : (s.useMap ch i m).frames = s.frames := by
  unfold State.useMap
  simp only [State.frames_checkLive]
  exact State.frames_ite rfl rfl

@[simp] theorem State.frames_tmSent (s : State) (ch k : Nat) : (s.tmSent ch k).frames = s.frames := by
  unfold State.tmSent
  refine State.frames_foldl (fun t d => ?_) _ _
  unfold State.takeUp
  split
  · exact t.frames_useMap ..
  · rfl

@[simp] theorem State.frames_giveDesc (s : State) (p : Pool) : (s.giveDesc p).frames = s.frames := by
  cases p <;> rfl

@[simp] theorem State.frames_launchSegs (s : State) (f : Frame) : (s.launchSegs f).frames = s.frames := by
  have give (l : List TxMsg) (t : State) : (l.foldl (fun s m => s.giveDesc m.pool) t).frames = t.frames :=
    State.frames_foldl (fun u m => u.frames_giveDesc _) l t
  unfold State.launchSegs
  split
  · extract_lets +onlyGivenNames left
    clear_value left
    split
    · rfl
    · exact give _ s
    · rfl
  · split
    · rfl
    · exact give _ _

@[simp] theorem State.frames_exchangeOk (s : State) (ch cls : Nat) (acked : Bool) : (s.exchangeOk ch cls acked).frames = s.frames := by
  unfold State.exchangeOk
  refine State.frames_ite rfl ?_
  cases acked <;> exact State.frames_ite rfl rfl

/-- The frame as it launches: one that carries interleaved cells takes the line's position (R147). -/
def State.launchedAs (s : State) (f : Frame) : Frame := { f with liPos := f.liPos.map (fun _ => (s.chan f.ch).liTxLeft) }

/-- Abandoning a reception leaves the line. -/
theorem State.liTxLeft_resetRx (s : State) (ch x : Nat) : ((s.resetRx ch).chan x).liTxLeft = (s.chan x).liTxLeft := by
  unfold State.resetRx State.rearm
  rw [State.chan_setFlag, State.chan_updChan_congr (·.liTxLeft) (by exact fun _ => rfl),
    State.chan_updChan_congr (·.liTxLeft) (by exact fun _ => rfl)]
  rfl

/-- A frame of a channel that may send moves from the committed frames to the launched ones (R36). -/
theorem State.frames_launch {s : State} {f : Frame} (h : s.maySend f.ch (f.kind == .beacon || f.kind == .wakeReply) = true) :
    (s.launch f).frames = (s.grid.committed.erase f, s.grid.launched ++ [s.launchedAs f]) := by
  unfold State.launch
  extract_lets +onlyGivenNames may
  rw [if_neg (by simp [may, h])]
  extract_lets +onlyGivenNames s1 _ s2 g _ s3
  have e1 : s1.frames = s.frames := State.frames_ite rfl rfl
  have l1 : (s1.chan f.ch).liTxLeft = (s.chan f.ch).liTxLeft := by
    simp only [s1]; split
    · rfl
    · exact s.liTxLeft_resetRx f.ch f.ch
  have hg : g = s.launchedAs f := by rw [State.launchedAs, ← l1]; rfl
  have e3 : s3.frames = (s.grid.committed.erase f, s.grid.launched ++ [s.launchedAs f]) := by
    obtain ⟨hc, hl⟩ := Prod.mk.inj e1
    rw [← hg, ← hc, ← hl]; rfl
  rw [← e3]
  clear_value s3 g
  split
  rename_i a s4 h4
  have e4 : s4.frames = s3.frames := by
    rw [← show _ = s4 from congrArg Prod.snd h4]
    split
    · rfl
    · exact s3.frames_buildAir g
  extract_lets +onlyGivenNames _ s5 t stop s6
  have e6 : s6.frames = s3.frames := (State.frames_chargeSlot ..).trans e4
  refine State.frames_ite e6 ?_
  extract_lets +onlyGivenNames s7 s8 s9
  have e7 : s7.frames = s3.frames := State.frames_ite e6 e6
  have e8 : s8.frames = s3.frames := State.frames_ite ((s7.frames_tmSent ..).trans e7) e7
  have e9 : s9.frames = s3.frames := (s8.frames_launchSegs g).trans e8
  exact State.frames_ite ((s9.frames_exchangeOk ..).trans e9) e9

/-- FRAME_LAUNCH of the one frame committed to the running slot. -/
theorem exec_frameLaunch_single {s : State} {ch : Nat} {f : Frame}
    (h : s.grid.committed.filter (fun x => x.ch == ch && x.slot == s.grid.slot) = [f]) :
    exec (.frameLaunch ch) s = .next ((s.launch f).fillDown (headOf ch)) := by
  show execFrameLaunch ch s = _
  rw [execFrameLaunch, h]
  rfl

/-- The end of a contention cycle in which the class that heads the channel holds a backoff count (R247). -/
def State.cycleEnded (s : State) (ch b : Nat) (c : Cont) : State :=
  (if c.withdrawn then s else s.setBc ch c.cls (some (b - 8))).updChan ch
    (fun x => { x with cont := none, idleSlot := max x.idleSlot (c.prio + 37) })

theorem exec_contentionCycleEnd {s : State} {ch b : Nat} {c : Cont} (hc : (s.chan ch).cont = some c) (h3 : c.cls < 3)
    (hb : (s.chan ch).bc.getD c.cls none = some b) : exec (.contentionCycleEnd ch) s = .next (s.cycleEnded ch b c) := by
  show execContentionCycleEnd ch s = _
  unfold execContentionCycleEnd
  rw [hc]
  dsimp only
  rw [hb]
  cases hw : c.withdrawn <;> simp [State.cycleEnded, h3, hw]

/-- What the channel holds then. -/
theorem State.chan_cycleEnded (s : State) (ch b : Nat) (c : Cont) : (s.cycleEnded ch b c).chan ch = { s.chan ch with
    cont := none, idleSlot := max (s.chan ch).idleSlot (c.prio + 37)
    bc := if c.withdrawn then (s.chan ch).bc else (s.chan ch).bc.set c.cls (some (b - 8)) } := by
  unfold State.cycleEnded State.setBc State.updChan
  cases c.withdrawn <;> simp

theorem State.chan_cycleEnded_ne (s : State) {ch x : Nat} (b : Nat) (c : Cont) (h : x ≠ ch) : (s.cycleEnded ch b c).chan x = s.chan x := by
  unfold State.cycleEnded State.setBc State.updChan
  rw [State.chan_setChan_ne _ _ h]
  split
  · rfl
  · exact State.chan_setChan_ne _ _ h

theorem State.regs_cycleEnded (s : State) (ch b : Nat) (c : Cont) : (s.cycleEnded ch b c).regs = s.regs := by
  unfold State.cycleEnded
  cases c.withdrawn <;> rfl

/-- Settles O35: the acknowledgement alone in its window, the frames of a launch, the channel after a cycle. -/
theorem transmissionsAreCommittedAndLaunched : Obligations.TransmissionsAreCommittedAndLaunched := by
  refine ⟨fun s ch a ha hq hs hm hd => ⟨fun i hi hc h hr hslot hw hb hg => ?_, fun hk hn => ?_⟩, fun s ch f hf hs => ?_,
    fun s ch b c hc h3 hlen hb => ?_, fun s ch hon hleft hidle => ?_⟩
  · refine ⟨s.ackCommitted ch a, exec_transmitCommit_single hi hc h hr ?_ rfl, State.acks_ackCommitted ha, rfl, rfl⟩
    rw [← hslot]
    exact State.commitChan_quiet ha hq hs hm hd hw hb hg
  · refine ⟨_, exec_ackSend_ahead ha hq hs hm hd hk hn, ?_, State.fillDown_regs .., ?_⟩
    · rw [State.chan, State.fillDown_chans]; exact State.acks_ackCommitted ha
    · rw [State.fillDown_grid]; rfl
  · have hch : f.ch = ch := by
      have : f ∈ s.grid.committed.filter (fun x => x.ch == ch && x.slot == s.grid.slot) := hf ▸ List.mem_singleton_self f
      simp only [List.mem_filter, Bool.and_eq_true, beq_iff_eq] at this
      exact this.2.1
    obtain ⟨hcom, hlau⟩ := Prod.mk.inj ((State.frames_fillDown (s.launch f) (headOf ch)).trans (State.frames_launch (hch ▸ hs)))
    refine ⟨_, exec_frameLaunch_single hf, hcom, ?_⟩
    rw [hlau, State.launchedAs, hch]
  · refine ⟨_, exec_contentionCycleEnd hc h3 hb, ?_, ?_, ?_, s.regs_cycleEnded ch b c, fun x hx => s.chan_cycleEnded_ne b c hx⟩
    · rw [State.chan_cycleEnded]
    · rw [State.chan_cycleEnded]
    · rw [State.chan_cycleEnded]
      cases c.withdrawn
      · simp [List.getD_eq_getElem?_getD, hlen, h3]
      · exact hb
  · show execLiIdleFill ch s = _
    rw [execLiIdleFill, if_pos ⟨by simp [State.flag, hon], hleft, hidle⟩]
    rfl

end Sys2Proof.Machine
end

section
/-! SUPPORT. A symbol of the pipe and the decoder pools' work (R41, R150, R151, R175). -/

namespace Sys2Proof.Machine

/-- From `s` to `t` only events were counted, in the fields `fs`. -/
structure Counted (fs : List (Fld × Nat)) (s t : State) : Prop where
  grid : t.grid = s.grid
  chans : t.chans = s.chans
  flds : FldsKept fs s t

theorem Counted.bump {fs : List (Fld × Nat)} {s t : State} (h : Counted fs s t) {F : Fld} {i : Nat} (hm : (F, i) ∈ fs) :
    Counted fs s (t.bump F i) := ⟨h.grid, h.chans, h.flds.bump hm⟩

theorem Counted.ite {fs : List (Fld × Nat)} {s t u : State} {P : Prop} [Decidable P] (ht : Counted fs s t) (hu : Counted fs s u) :
    Counted fs s (if P then t else u) := by split <;> assumption

/-- The fields a received symbol may count in. -/
def symFlds (ch : Nat) : List (Fld × Nat) :=
  [(.CHN_CHISEL_CNT_sym_erased, ch), (.CHN_CHISEL_CNT_blanked, ch), (.OLA_LOSS_CNT_loss_erase, 0), (.OLA_LOSS_CNT_next_unsafe, 0)]

/-- A payload symbol moves the frame's symbol count on. -/
def nextSymIdx (kind : SymKind) (n : Nat) : Nat :=
  match kind with
  | .payload _ => n + 1
  | _ => n

/-- What the pipe makes of a symbol: one symbol of the channel in place of any earlier one, a payload symbol counted on in its
frame, and losses counted. -/
theorem State.pipeSymbol_spec (s : State) (ch k : Nat) (kind : SymKind) (x : List Int) :
    (∃ y : RxSym, (s.pipeSymbol ch k kind x).grid.symbols = s.grid.symbols.filter (fun z => z.ch != ch) ++ [y] ∧ y.ch = ch ∧
      y.slot = k ∧ y.kind = kind) ∧
    ((s.pipeSymbol ch k kind x).chan ch).symIdx = nextSymIdx kind (s.chan ch).symIdx ∧
    FldsKept (symFlds ch) s (s.pipeSymbol ch k kind x) := by
  unfold State.pipeSymbol
  extract_lets c t zeros post imp mask nz kept q s1 tooMany s2 blank lost erased s3 risky s4 d16 on y z1 extra power sym
  have k1 : Counted (symFlds ch) s1 s1 := ⟨rfl, rfl, FldsKept.refl _ s1⟩
  have k2 : Counted (symFlds ch) s1 s2 := (k1.bump (by simp [symFlds])).ite ((k1.bump (by simp [symFlds])).ite k1)
  have k3 : Counted (symFlds ch) s1 s3 := (k2.bump (by simp [symFlds])).ite k2
  have k4 : Counted (symFlds ch) s1 s4 := (k3.bump (by simp [symFlds])).ite k3
  obtain ⟨hgrid, hchans, hflds⟩ := k4
  refine ⟨⟨sym, ?_, rfl, rfl, rfl⟩, ?_, ?_⟩
  · show s4.grid.symbols.filter _ ++ [sym] = _
    rw [hgrid]; rfl
  · show (tget {} ch s4.chans).symIdx = _
    rw [hchans]
    refine (congrArg Chan.symIdx (s.chan_setChan_same ch _)).trans ?_
    cases kind <;> rfl
  · exact ((FldsKept.refl _ s).congr (u := s1) rfl).trans (hflds.congr rfl)

/-- SYMBOL_RX of a channel with a symbol to receive and its body samples there. -/
theorem exec_symbolRx {s : State} {ch : Nat} {x : List Int} {k : SymKind} (hc : ch < 192) (hk : s.symKind ch s.grid.slot = some k)
    (hx : (s.chan ch).rx.span (s.bodyTick ch s.grid.slot k) 8192 = some x) : exec (.symbolRx ch) s
      = .next ((s.release (s.bodyTick ch s.grid.slot k + 8191)).pipeSymbol ch s.grid.slot k (scaled (s.chan ch).agcGain x)) := by
  show execSymbolRx ch s = _
  unfold execSymbolRx
  rw [hk]
  dsimp only
  rw [hx]
  exact congrArg Host.Outcome.next (if_pos hc)

/-! The decoder pools' work. -/

/-- The first element that satisfies a predicate is the one replaced. -/
theorem mem_updFirst {α : Type} {p : α → Bool} {l : List α} {a : α} (h : l.find? p = some a) (f : α → α) : f a ∈ updFirst p f l := by
  induction l with
  | nil => cases h
  | cons b l ih =>
    rw [List.find?_cons] at h
    unfold updFirst
    cases hb : p b
    · rw [hb] at h
      exact List.mem_cons_of_mem _ (ih h)
    · rw [hb] at h
      obtain rfl := Option.some.inj h
      exact List.mem_cons_self

/-- The decoded bits of a block stand in its frame. -/
theorem State.blockOut_spec {s : State} {ch at_ i : Nat} {f : RxFrame} {b : RxBlock} (hf : (s.chan ch).rxq.find? (fun x => x.at_ == at_) = some f)
    (hb : f.blocks[i]? = some b) (out : List Bool × Bool) :
    ∃ g ∈ ((s.blockOut ch at_ i out).chan ch).rxq, g.at_ = at_ ∧ (g.blocks[i]?).map (·.out) = some (some out) := by
  have hat : f.at_ = at_ := by simpa using List.find?_some hf
  unfold State.blockOut State.updFrame State.updChan
  rw [State.chan_setChan_same]
  refine ⟨_, mem_updFirst hf _, hat, ?_⟩
  simp [List.getElem?_zipIdx, hb]

/-- DECODE_COMPLETE of a working unit, with the frame and the block of the work there. -/
theorem exec_decodeComplete {s : State} {pool unit : Nat} {w : Work} {f : RxFrame} {b : RxBlock} (hp : pool < 2)
    (hu : unit < (if pool = 0 then 48 else 32))
    (h0 : s.fld (if pool = 0 then .COD_POOL_STATUS_vit_units else .COD_POOL_STATUS_ldpc_units) 0 ≠ 0)
    (hn : s.isFenced (blkVit + pool) unit = false) (hw : s.grid.work.find? (fun x => x.pool == pool && x.served) = some w)
    (hf : (s.chan w.ch).rxq.find? (fun x => x.at_ == w.frame) = some f) (hb : f.blocks[w.block]? = some b) :
    exec (.decodeComplete pool unit) s = .next (
      let t := { s with grid := { s.grid with work := s.grid.work.erase w } }.blockOut w.ch w.frame w.block (s.decodeOf w.ch f b)
      if (s.decodeOf w.ch f b).2 then t.bump .CHN_CODE_CNT_cw_fail w.ch else t) := by
  have busy : ¬(1 < pool ∨ s.fld (if pool = 0 then .COD_POOL_STATUS_vit_units else .COD_POOL_STATUS_ldpc_units) 0 = 0
      ∨ (if pool = 0 then 48 else 32) ≤ unit ∨ s.isFenced (blkVit + pool) unit = true) := by
    rintro (h | h | h | h)
    · omega
    · exact h0 h
    · omega
    · simp [hn] at h
  show execDecodeComplete pool unit s = _
  unfold execDecodeComplete
  rw [hw]
  dsimp only
  rw [if_neg busy]
  show Host.Outcome.next (match (s.chan w.ch).rxq.find? (fun x => x.at_ == w.frame) with
    | none => _
    | some f => match f.blocks[w.block]? with
      | none => _
      | some b => _) = _
  rw [hf]
  dsimp only
  rw [hb]
  rfl

/-- DECODE_DROP with a work that has waited. -/
theorem exec_decodeDrop {s : State} {w : Work}
    (hw : s.grid.work.find? (fun x => decide (64 ≤ x.age) && decide (x.prio < 3) && !x.served) = some w) :
    ∃ n : Nat, exec .decodeDrop s = .next
      (((({ s with grid := { s.grid with work := s.grid.work.erase w } } : State).bump .COD_DEFER_CNT_drop 0).blockOut w.ch w.frame w.block
        (List.replicate n false, true)).bump .CHN_CODE_CNT_cw_fail w.ch) := by
  show ∃ n, execDecodeDrop s = _
  unfold execDecodeDrop
  rw [hw]
  exact ⟨_, rfl⟩

/-- Settles O37: the symbol, the work that completed and the work given up. -/
theorem symbolsAndDecoderWork : Obligations.SymbolsAndDecoderWork := by
  refine ⟨fun s ch x k hc hk hx => ?_, fun s pool unit w f b hp hu h0 hn hw hf hb => ?_, fun s w hw => ?_⟩
  · obtain ⟨⟨y, hy, hch, hslot, hkind⟩, hidx, hflds⟩ :=
      (s.release (s.bodyTick ch s.grid.slot k + 8191)).pipeSymbol_spec ch s.grid.slot k (scaled (s.chan ch).agcGain x)
    exact ⟨_, y, exec_symbolRx hc hk hx, hy, hch, hslot, hkind, hidx, hflds⟩
  · refine ⟨_, exec_decodeComplete hp hu h0 hn hw hf hb, ?_⟩
    have out := State.blockOut_spec (s := { s with grid := { s.grid with work := s.grid.work.erase w } }) hf hb (s.decodeOf w.ch f b)
    generalize s.decodeOf w.ch f b = o at out
    have kept : FldsKept [(.CHN_CODE_CNT_cw_fail, w.ch)] s
      (({ s with grid := { s.grid with work := s.grid.work.erase w } } : State).blockOut w.ch w.frame w.block o) := (FldsKept.refl _ s).congr rfl
    dsimp only
    split
    · exact ⟨rfl, out, (State.fld_bump ..).trans (if_pos ⟨rfl, rfl⟩), kept.bump (by simp)⟩
    · exact ⟨rfl, out, rfl, kept⟩
  · obtain ⟨n, hn⟩ := exec_decodeDrop hw
    refine ⟨_, hn, rfl, ?_, ?_, ?_⟩
    · rw [State.fld_bump, if_neg (by simp)]
      exact (State.fld_bump ..).trans (if_pos ⟨rfl, rfl⟩)
    · rw [State.fld_bump, if_pos ⟨rfl, rfl⟩]
      refine congrArg (fun m => min (m + 1) _) ((State.fld_bump ..).trans (if_neg (by simp)))
    · have drop : FldsKept [(.COD_DEFER_CNT_drop, 0), (.CHN_CODE_CNT_cw_fail, w.ch)] s
        (({ s with grid := { s.grid with work := s.grid.work.erase w } } : State).bump .COD_DEFER_CNT_drop 0) :=
        ((FldsKept.refl _ s).congr rfl).bump (by simp)
      exact (drop.congr rfl).bump (by simp)

end Sys2Proof.Machine
end

section
/-! SUPPORT. The clocks of the station grid and the sealed pattern: nothing a slot or a Hem does moves them but the boundary itself. -/

namespace Sys2Proof.Machine

/-- The slot and the Hem in force, the tick of the Hem's boundary and its length, and the full pattern sealed. -/
def State.clock (s : State) : Nat × Nat × Nat × Nat × Option Pat := (s.grid.slot, s.grid.hem, s.grid.b, s.grid.p, s.full)

/-- A change of any other field, the rest of the grid's state included. -/
@[simp] theorem State.clock_mk (pending regs tel tick free mgmt pat full grid chans ola dlv host drm tim hlk gau ser cmd bob hbm sec rst ldr) :
    (State.mk pending regs tel tick free mgmt pat full grid chans ola dlv host drm tim hlk gau ser cmd bob hbm sec rst ldr).clock
      = (grid.slot, grid.hem, grid.b, grid.p, full) := rfl

@[simp] theorem State.clock_components (s : State) : (s.grid.slot, s.grid.hem, s.grid.b, s.grid.p, s.full) = s.clock := rfl

@[simp] theorem State.clock_ite (P : Prop) [Decidable P] (s t : State) :
    (if P then s else t).clock = if P then s.clock else t.clock := apply_ite ..

/-- A fold of steps that keep the clocks keeps them. -/
@[simp] theorem State.clock_foldl {α : Type} {f : State → α → State} (hf : ∀ s x, (f s x).clock = s.clock) (l : List α) (s : State) :
    (l.foldl f s).clock = s.clock :=
  List.foldlRecOn (motive := fun t : State => t.clock = s.clock) l f rfl fun t ht x _ => (hf t x).trans ht

/-! Registers, events and requests. -/

@[simp] theorem State.clock_setFld (s : State) (F : Fld) (i v : Nat) : (s.setFld F i v).clock = s.clock := by
  simp [State.setFld]

@[simp] theorem State.clock_setFlag (s : State) (F : Fld) (i : Nat) (b : Bool) : (s.setFlag F i b).clock = s.clock := by
  simp [State.setFlag]

@[simp] theorem State.clock_bumpN (s : State) (F : Fld) (i n : Nat) : (s.bumpN F i n).clock = s.clock := by
  simp [State.bumpN]

@[simp] theorem State.clock_bump (s : State) (F : Fld) (i : Nat) : (s.bump F i).clock = s.clock := by
  simp [State.bump]

@[simp] theorem State.clock_drawFree (s : State) : s.drawFree.2.clock = s.clock := by
  simp [State.drawFree]

@[simp] theorem evPush_clock (old nxt : Nat) (e : Option Ev) (l : List Nat) (s : State) : (evPush old nxt e l s).clock = s.clock := by
  induction l generalizing s with
  | nil => rfl
  | cons p ps ih => simp [evPush, ih]

@[simp] theorem State.clock_stageLog (s : State) (e : Ev) : (s.stageLog e).clock = s.clock := by
  simp [State.stageLog]

@[simp] theorem State.clock_evWrite (s : State) (e : Ev) : (s.evWrite e).clock = s.clock := by
  simp [State.evWrite]

@[simp] theorem State.clock_log (s : State) (code panel inst data : Nat) : (s.log code panel inst data).clock = s.clock := by
  unfold State.log
  split <;> simp

@[simp] theorem State.clock_setChan (s : State) (ch : Nat) (c : Chan) : (s.setChan ch c).clock = s.clock := by
  simp [State.setChan]

@[simp] theorem State.clock_updChan (s : State) (ch : Nat) (f : Chan → Chan) : (s.updChan ch f).clock = s.clock := by
  simp [State.updChan]

@[simp] theorem State.clock_request (s : State) (c : SlotChange) : (s.request c).clock = s.clock := by
  simp [State.request]

@[simp] theorem State.clock_requestState (s : State) (ch st cause : Nat) : (s.requestState ch st cause).clock = s.clock := by
  simp [State.requestState]

@[simp] theorem clock_forAll {f : Nat → State → State} (hf : ∀ i s, (f i s).clock = s.clock) (l : List Nat) (s : State) :
    (forAll l f s).clock = s.clock :=
  State.clock_foldl (fun s i => hf i s) l s

/-! Delivery: descriptors, messages, committed frames. -/

theorem State.clock_takeDesc {s : State} {prio panel : Nat} {x : Pool × State} (h : s.takeDesc prio panel = some x) :
    x.2.clock = s.clock := by
  unfold State.takeDesc at h
  dsimp only at h
  split at h
  case isTrue =>
    split at h
    · cases h; rfl
    · split at h <;> cases h; rfl
  case isFalse =>
    split at h
    · split at h <;> cases h; rfl
    · split at h <;> cases h; rfl

@[simp] theorem State.clock_giveDesc (s : State) (p : Pool) : (s.giveDesc p).clock = s.clock := by
  unfold State.giveDesc
  split <;> simp

@[simp] theorem State.clock_giveIf (s : State) (p : Option Pool) : (s.giveIf p).clock = s.clock := by
  unfold State.giveIf
  split <;> simp

@[simp] theorem State.clock_enqueue (s : State) (panel ch peer prio : Nat) (ackReq enc : Bool) (ep : Nat) (data : List Byte)
    (pool : Pool) (tm : Option TmMsg) (launch : Option Nat) :
    (s.enqueue panel ch peer prio ackReq enc ep data pool tm launch).clock = s.clock := by
  simp [State.enqueue]

theorem State.clock_handover {s t : State} {panel ch peer prio : Nat} {ackReq enc : Bool} {ep : Nat} {data : List Byte}
    {tm : Option TmMsg} {launch : Option Nat} (h : s.handover panel ch peer prio ackReq enc ep data tm launch = some t) :
    t.clock = s.clock := by
  unfold State.handover at h
  split at h
  · cases h
  · split at h
    · cases h
    next pool u hd =>
      cases h
      simpa using State.clock_takeDesc hd

@[simp] theorem State.clock_sendDevice (s : State) (ch peer : Nat) (ackReq : Bool) (ep : Nat) (data : List Byte) (tm : Option TmMsg) :
    (s.sendDevice ch peer ackReq ep data tm).clock = s.clock := by
  unfold State.sendDevice
  dsimp only
  split
  · rfl
  · cases h : s.handover ((s.owner ch).getD 0) ch peer 2 ackReq false ep data tm with
    | none => rfl
    | some t => exact State.clock_handover h

@[simp] theorem State.clock_serveDev (s : State) : s.serveDev.clock = s.clock := by
  simp [State.serveDev]

@[simp] theorem State.clock_sweepTx (s : State) : s.sweepTx.clock = s.clock := by
  simp [State.sweepTx]

@[simp] theorem State.clock_abandonSegs (s : State) (pick : Seg → Bool) : (s.abandonSegs pick).clock = s.clock := by
  unfold State.abandonSegs
  extract_lets mids gone late d kept given told
  have hgiven : given.clock = s.clock := State.clock_foldl (by simp) gone kept
  have htold : told.clock = given.clock := State.clock_foldl (fun s m => by split <;> simp) mids.dedup given
  rw [State.clock_sweepTx, htold, hgiven]

@[simp] theorem State.clock_unbuild (s : State) (f : Frame) : (s.unbuild f).clock = s.clock := by
  simp [State.unbuild]

@[simp] theorem State.clock_refundAir (s : State) (f : Frame) : (s.refundAir f).clock = s.clock := by
  simp [State.refundAir]

@[simp] theorem State.clock_unsendLi (s : State) (f : Frame) : (s.unsendLi f).clock = s.clock := by
  unfold State.unsendLi
  split <;> simp

@[simp] theorem State.clock_addRamp (s : State) (ch a b : Nat) : (s.addRamp ch a b).clock = s.clock := by
  simp [State.addRamp]

@[simp] theorem State.clock_cutRamp (s : State) (ch t : Nat) : (s.cutRamp ch t).clock = s.clock := by
  simp [State.cutRamp]

@[simp] theorem State.clock_endExchange (s : State) (ch slot : Nat) : (s.endExchange ch slot).clock = s.clock := by
  simp [State.endExchange]

@[simp] theorem State.clock_discardFrame (s : State) (f : Frame) : (s.discardFrame f).clock = s.clock := by
  simp [State.discardFrame]

@[simp] theorem State.clock_discardFrames (s : State) (ch : Nat) : (s.discardFrames ch).clock = s.clock := by
  simp [State.discardFrames]

@[simp] theorem State.clock_dropRxFlows (s : State) (pick : RxFlow → Bool) : (s.dropRxFlows pick).clock = s.clock := by
  simp [State.dropRxFlows]

@[simp] theorem State.clock_dropCopies (s : State) (ch : Nat) : (s.dropCopies ch).clock = s.clock := by
  simp [State.dropCopies]

@[simp] theorem State.clock_channelLeaves (s : State) (ch : Nat) : (s.channelLeaves ch).clock = s.clock := by
  simp [State.channelLeaves]

@[simp] theorem State.clock_restartFlows (s : State) (ch : Nat) : (s.restartFlows ch).clock = s.clock := by
  simp [State.restartFlows]

/-! Tone maps and the interleaver. -/

@[simp] theorem State.clock_syncMaps (s : State) (ch : Nat) : (s.syncMaps ch).clock = s.clock := by
  simp [State.syncMaps]

@[simp] theorem State.clock_restartLi (s : State) (ch : Nat) (tx rx : Bool) : (s.restartLi ch tx rx).clock = s.clock := by
  unfold State.restartLi
  extract_lets c s1 s2 s3
  have h1 : s1.clock = s.clock := by simp [s1]
  have h3 : s3.clock = s.clock := by
    unfold s3 s2
    split
    · split <;> simp [h1]
    · exact h1
  split <;> simp [h3]

@[simp] theorem State.clock_clearMaps (s : State) (ch : Nat) : (s.clearMaps ch).clock = s.clock := by
  simp [State.clearMaps]

@[simp] theorem State.clock_chooseImpulse (s : State) (ch : Nat) : (s.chooseImpulse ch).clock = s.clock := by
  simp [State.chooseImpulse]

@[simp] theorem State.clock_sendTm (s : State) (ch : Nat) (m : TmMsg) : (s.sendTm ch m).clock = s.clock := by
  simp [State.sendTm]

@[simp] theorem State.clock_askSound (s : State) (ch : Nat) : (s.askSound ch).clock = s.clock := by
  simp [State.askSound]

@[simp] theorem State.clock_startTraining (s : State) (ch : Nat) : (s.startTraining ch).clock = s.clock := by
  simp [State.startTraining]

@[simp] theorem State.clock_invalidate (s : State) (ch trig : Nat) (tell : Bool) :
    (s.invalidate ch trig tell).clock = s.clock := by
  simp [State.invalidate]

@[simp] theorem State.clock_waitMap (s : State) (ch use : Nat) : (s.waitMap ch use).clock = s.clock := by
  simp [State.waitMap]

@[simp] theorem State.clock_sendMap (s : State) (ch use : Nat) : (s.sendMap ch use).clock = s.clock := by
  unfold State.sendMap
  split
  · simp
  · split <;> simp

@[simp] theorem State.clock_renewMap (s : State) (ch use : Nat) : (s.renewMap ch use).clock = s.clock := by
  simp [State.renewMap]

@[simp] theorem State.clock_serveMaps (s : State) (ch : Nat) : (s.serveMaps ch).clock = s.clock := by
  unfold State.serveMaps
  split <;> simp

/-! Overlock: pairs, duplex, coefficients. -/

@[simp] theorem State.clock_setPair (s : State) (cls vi slot : Nat) (dest : PairSt) :
    (s.setPair cls vi slot dest).clock = s.clock := by
  simp [State.setPair]

@[simp] theorem State.clock_mapPairs (s : State) (cls x : Nat) (f : PairSt → PairSt) : (s.mapPairs cls x f).clock = s.clock := by
  simp [State.mapPairs]

@[simp] theorem State.clock_olaEmpty (s : State) (x : Nat) : (s.olaEmpty x).clock = s.clock := by
  simp [State.olaEmpty]

@[simp] theorem State.clock_olaEmptyFar (s : State) (x : Nat) : (s.olaEmptyFar x).clock = s.clock := by
  simp [State.olaEmptyFar]

@[simp] theorem State.clock_olaDemote (s : State) (x : Nat) : (s.olaDemote x).clock = s.clock := by
  simp [State.olaDemote]

@[simp] theorem State.clock_olaHold (s : State) (x : Nat) : (s.olaHold x).clock = s.clock := by
  simp [State.olaHold]

@[simp] theorem State.clock_olaUnhold (s : State) (x : Nat) : (s.olaUnhold x).clock = s.clock := by
  simp [State.olaUnhold]

@[simp] theorem State.clock_dropResid (s : State) (x : Nat) : (s.dropResid x).clock = s.clock := by
  simp [State.dropResid]

@[simp] theorem State.clock_holdPairs (s : State) (cls x : Nat) : (s.holdPairs cls x).clock = s.clock := by
  simp [State.holdPairs]

@[simp] theorem State.clock_olaStateChange (s : State) (x old new : Nat) : (s.olaStateChange x old new).clock = s.clock := by
  simp [State.olaStateChange]

@[simp] theorem State.clock_handDuplex (s : State) : s.handDuplex.clock = s.clock := by
  simp [State.handDuplex]

@[simp] theorem State.clock_fallDuplex (s : State) : s.fallDuplex.clock = s.clock := by
  simp [State.fallDuplex]

@[simp] theorem State.clock_diverge (s : State) (cls v : Nat) : (s.diverge cls v).clock = s.clock := by
  unfold State.diverge
  split
  · rfl
  · dsimp only
    split <;> simp

@[simp] theorem State.clock_divGuard (s : State) (cls v : Nat) (worse : Bool) : (s.divGuard cls v worse).clock = s.clock := by
  simp [State.divGuard]

@[simp] theorem State.clock_countUpdate (s : State) (cls vi slot : Nat) (cis : List Nat) :
    (s.countUpdate cls vi slot cis).clock = s.clock := by
  unfold State.countUpdate
  extract_lets s1 p counts o s2 lim
  clear_value lim
  have h1 : s1.clock = s.clock := by
    unfold s1
    split <;> simp
  have h2 : s2.clock = s.clock := h1
  split <;> simp [h2]

@[simp] theorem State.clock_writeCoef (s : State) (entry word left : Nat) : (s.writeCoef entry word left).clock = s.clock := by
  simp [State.writeCoef]

@[simp] theorem State.clock_applyResid (s : State) (u : Nat) (r : Resid) : (s.applyResid u r).clock = s.clock := by
  unfold State.applyResid
  split <;> simp

@[simp] theorem State.clock_olaSlot (s : State) : s.olaSlot.clock = s.clock := by
  simp [State.olaSlot]

@[simp] theorem State.clock_noteSync (s : State) (ch : Nat) : (s.noteSync ch).clock = s.clock := by
  simp [State.noteSync]

@[simp] theorem State.clock_withdraw (s : State) (b : Nat) : (s.withdraw b).clock = s.clock := by
  simp [State.withdraw]

@[simp] theorem State.clock_olaShow (s : State) : s.olaShow.clock = s.clock := by
  simp [State.olaShow]

@[simp] theorem State.clock_olaAllEmpty (s : State) : s.olaAllEmpty.clock = s.clock := by
  simp [State.olaAllEmpty]

@[simp] theorem State.clock_olaStop (s : State) : s.olaStop.clock = s.clock := by
  simp [State.olaStop]

/-! Dormant records. -/

@[simp] theorem State.clock_setRec (s : State) (r : Nat) (d : DrmRec) : (s.setRec r d).clock = s.clock := by
  simp [State.setRec]

@[simp] theorem State.clock_freeRec (s : State) (r : Nat) : (s.freeRec r).clock = s.clock := by
  simp [State.freeRec]

@[simp] theorem State.clock_replySent (s : State) (f : Frame) : (s.replySent f).clock = s.clock := by
  unfold State.replySent
  split <;> simp

@[simp] theorem State.clock_drmSlot (s : State) : s.drmSlot.clock = s.clock := by
  simp [State.drmSlot]

@[simp] theorem State.clock_stopTones (s : State) (ch : Nat) : (s.stopTones ch).clock = s.clock := by
  simp [State.stopTones]

/-! Replay floors. -/

@[simp] theorem State.clock_raiseFloors (s : State) (ch : Nat) : (s.raiseFloors ch).clock = s.clock := by
  simp [State.raiseFloors]

@[simp] theorem State.clock_flowRestart (s : State) (ch : Nat) : (s.flowRestart ch).clock = s.clock := by
  simp [State.flowRestart]

/-! Delays. -/

@[simp] theorem State.clock_setPd (s : State) (p : Nat) (d : PdSt) : (s.setPd p d).clock = s.clock := by
  unfold State.setPd
  split <;> simp

@[simp] theorem State.clock_pdDrop (s : State) (ch : Nat) : (s.pdDrop ch).clock = s.clock := by
  simp [State.pdDrop]

/-! Credits and egress. -/

@[simp] theorem State.clock_setCredit (s : State) (p q v : Nat) : (s.setCredit p q v).clock = s.clock := by
  simp [State.setCredit]

@[simp] theorem State.clock_egressFrame (s : State) (f : EgFrame) : (s.egressFrame f).clock = s.clock := by
  simp [State.egressFrame]

@[simp] theorem State.clock_sendCredit (s : State) (p : Nat) : (s.sendCredit p).clock = s.clock := by
  unfold State.sendCredit
  split <;> simp

@[simp] theorem State.clock_creditReport (s : State) : s.creditReport.clock = s.clock := by
  simp [State.creditReport]

/-! Lanes. -/

@[simp] theorem State.clock_setLane (s : State) (j : Nat) (l : Lane) : (s.setLane j l).clock = s.clock := by
  simp [State.setLane]

@[simp] theorem State.clock_updLane (s : State) (j : Nat) (f : Lane → Lane) : (s.updLane j f).clock = s.clock := by
  simp [State.updLane]

@[simp] theorem State.clock_sendCtl (s : State) (j : Nat) (write : Bool) (addr data : Nat) (why : CtlWhy) :
    (s.sendCtl j write addr data why).clock = s.clock := by
  simp [State.sendCtl]

/-! Feeders. -/

@[simp] theorem State.clock_dropTheta (s : State) (ch : Nat) : (s.dropTheta ch).clock = s.clock := by
  simp [State.dropTheta]

@[simp] theorem State.clock_feederCheck (s : State) (ch : Nat) : (s.feederCheck ch).clock = s.clock := by
  simp [State.feederCheck]

/-! Cast. -/

@[simp] theorem State.clock_showRegion (s : State) (r : Nat) : (s.showRegion r).clock = s.clock := by
  simp [State.showRegion]

@[simp] theorem State.clock_setBlock (s : State) (ch i : Nat) (b : CastBlock) : (s.setBlock ch i b).clock = s.clock := by
  simp [State.setBlock]

theorem State.clock_castBlockFor {s : State} {ch n : Nat} {x : Nat × CastBlock × State} (h : s.castBlockFor ch n = some x) :
    x.2.2.clock = s.clock := by
  unfold State.castBlockFor at h
  extract_lets b g start at h
  have hstart : ∀ i, start i = some x → x.2.2.clock = s.clock := by
    intro i hi
    unfold start at hi
    split at hi
    · cases hi
    · cases hi; rfl
  split at h
  · exact hstart _ h
  · split at h
    · exact hstart _ h
    · split at h
      · cases h; rfl
      · exact hstart _ h

@[simp] theorem State.clock_castMay (s : State) : s.castMay.2.clock = s.clock := by
  unfold State.castMay
  extract_lets g
  split
  · rfl
  · split
    · rfl
    · split
      · dsimp only
        split <;> rfl
      · split <;> rfl

@[simp] theorem State.clock_castPut (s : State) (ch n : Nat) (x : Int) (gap : Bool) : (s.castPut ch n x gap).clock = s.clock := by
  unfold State.castPut
  split
  · rfl
  next i b t h =>
    have ht : t.clock = s.clock := State.clock_castBlockFor h
    split
    · exact ht
    · dsimp only
      split <;> simp [ht]

@[simp] theorem State.clock_castIn (s : State) (ch first : Nat) (xs : List Int) (gap : Bool) :
    (s.castIn ch first xs gap).clock = s.clock := by
  simp [State.castIn]

@[simp] theorem State.clock_castLostSlot (s : State) (first n : Nat) : (s.castLostSlot first n).clock = s.clock := by
  simp [State.castLostSlot]

@[simp] theorem State.clock_castRefill (s : State) (more : Nat) : (s.castRefill more).clock = s.clock := by
  simp [State.castRefill]

@[simp] theorem State.clock_armChannel (s : State) (ch : Nat) : (s.armChannel ch).clock = s.clock := by
  simp [State.armChannel]

/-! Coupling modes. -/

@[simp] theorem State.clock_sendCoupling (s : State) (ch mode : Nat) : (s.sendCoupling ch mode).clock = s.clock := by
  simp [State.sendCoupling]

@[simp] theorem State.clock_couplingOn (s : State) (ch : Nat) : (s.couplingOn ch).clock = s.clock := by
  unfold State.couplingOn
  split <;> simp

/-! Fences, Bobbins and the budgets of stacked memory. -/

@[simp] theorem State.clock_fence (s : State) (typ idx : Nat) : (s.fence typ idx).clock = s.clock := by
  simp [State.fence]

@[simp] theorem State.clock_showCap (s : State) : s.showCap.clock = s.clock := by
  simp [State.showCap]

@[simp] theorem State.clock_emptyNext (s : State) : s.emptyNext.clock = s.clock := by
  simp [State.emptyNext]

@[simp] theorem State.clock_stopFeature (s : State) (b : Nat) : (s.stopFeature b).clock = s.clock := by
  simp [State.stopFeature]

@[simp] theorem State.clock_dropFeature (s : State) (b : Nat) : (s.dropFeature b).clock = s.clock := by
  simp [State.dropFeature]

@[simp] theorem State.clock_showBobs (s : State) : s.showBobs.clock = s.clock := by
  simp [State.showBobs]

@[simp] theorem State.clock_setBob (s : State) (b : Nat) (x : Bob) : (s.setBob b x).clock = s.clock := by
  simp [State.setBob]

@[simp] theorem State.clock_fenceBob (s : State) (b cause : Nat) : (s.fenceBob b cause).clock = s.clock := by
  unfold State.fenceBob
  extract_lets x t
  have ht : t.clock = s.clock := by simp [t]
  split
  · exact ht
  · split
    · exact ht
    · split
      · simp [ht]
      · split <;> simp [ht]

@[simp] theorem State.clock_bobSlot (s : State) : s.bobSlot.clock = s.clock := by
  simp [State.bobSlot]

@[simp] theorem State.clock_snapSlot (s : State) : s.snapSlot.2.clock = s.clock := by
  unfold State.snapSlot
  split
  · rfl
  · split
    · rfl
    · dsimp only
      split <;> rfl

@[simp] theorem State.clock_scrubSlot (s : State) (used more : Nat) : (s.scrubSlot used more).clock = s.clock := by
  simp [State.scrubSlot]

@[simp] theorem State.clock_memSlot (s : State) (bg : Nat) : (s.memSlot bg).2.clock = s.clock := by
  simp [State.memSlot]

@[simp] theorem State.clock_fenceUnit (s : State) (pool unit : Nat) : (s.fenceUnit pool unit).clock = s.clock := by
  simp [State.fenceUnit]

@[simp] theorem State.clock_unfence (s : State) (typ idx : Nat) : (s.unfence typ idx).clock = s.clock := by
  simp [State.unfence]

@[simp] theorem State.clock_unfenceUnit (s : State) (pool unit : Nat) : (s.unfenceUnit pool unit).clock = s.clock := by
  simp [State.unfenceUnit]

/-! Channel states. -/

@[simp] theorem State.clock_showGates (s : State) (ch : Nat) : (s.showGates ch).clock = s.clock := by
  simp [State.showGates]

@[simp] theorem State.clock_rearm (s : State) (ch : Nat) : (s.rearm ch).clock = s.clock := by
  simp [State.rearm]

@[simp] theorem State.clock_resetRx (s : State) (ch : Nat) : (s.resetRx ch).clock = s.clock := by
  simp [State.resetRx]

@[simp] theorem State.clock_leaveState (s : State) (ch old new : Nat) : (s.leaveState ch old new).clock = s.clock := by
  simp [State.leaveState]

@[simp] theorem State.clock_enterState (s : State) (ch old new cause : Nat) :
    (s.enterState ch old new cause).clock = s.clock := by
  simp [State.enterState]

@[simp] theorem State.clock_applyState (s : State) (ch new cause : Nat) : (s.applyState ch new cause).clock = s.clock := by
  simp [State.applyState]

/-! What is on the air. -/

/-! What the lanes send. -/

@[simp] theorem State.clock_keepTails (s : State) (k : Nat) : (s.keepTails k).clock = s.clock := by
  simp [State.keepTails]

@[simp] theorem State.clock_fillDown (s : State) (j : Nat) : (s.fillDown j).clock = s.clock := by
  simp [State.fillDown]

@[simp] theorem State.clock_openDown (s : State) (j m n : Nat) : (s.openDown j m n).clock = s.clock := rfl

@[simp] theorem State.clock_sendSlot (s : State) : s.sendSlot.clock = s.clock := by
  simp [State.sendSlot]

/-! Symbols. -/

@[simp] theorem State.clock_guardSym (s : State) (x : RxSym) (z : Tbl Cx) : (s.guardSym x z).clock = s.clock := by
  simp [State.guardSym]

@[simp] theorem State.clock_learnNext (s : State) (x : RxSym) (z : Tbl Cx) : (s.learnNext x z).clock = s.clock := by
  unfold State.learnNext
  dsimp only
  split <;> simp

@[simp] theorem State.clock_stepCheck (s : State) (ch : Nat) (obs : List (Nat × Cx)) : (s.stepCheck ch obs).clock = s.clock := by
  unfold State.stepCheck
  extract_lets c rebase l armed run t detected counted rebased
  have hrebase (t : State) : (rebase t).clock = t.clock := State.clock_updChan ..
  have ht : t.clock = s.clock := State.clock_updChan ..
  have hcounted : counted.clock = s.clock := by simp [counted, detected, ht]
  have hrebased : rebased.clock = s.clock := by simp [rebased, hrebase, hcounted]
  split
  · exact hrebase s
  · split
    · rfl
    · split
      · exact (State.clock_log ..).trans hrebased
      · exact ht

@[simp] theorem State.clock_takeCells (s : State) (ch : Nat) (l : List (Nat × Cx × Cx)) : (s.takeCells ch l).clock = s.clock := by
  simp [State.takeCells]

@[simp] theorem State.clock_addWork (s : State) (l : List Work) : (s.addWork l).clock = s.clock := by
  simp [State.addWork]

@[simp] theorem State.clock_updFrame (s : State) (ch at_ : Nat) (g : RxFrame → RxFrame) :
    (s.updFrame ch at_ g).clock = s.clock := by
  simp [State.updFrame]

@[simp] theorem State.clock_takeStamp (s : State) (x : RxSym) (f : RxFrame) (t : Nat) (z : Tbl Cx) :
    (s.takeStamp x f t z).clock = s.clock := by
  simp [State.takeStamp]

@[simp] theorem State.clock_queueDue (s : State) (ch at_ n : Nat) (link : Option Nat) :
    (s.queueDue ch at_ n link).clock = s.clock := by
  simp [State.queueDue]

@[simp] theorem State.clock_trackWindow (s : State) (ch : Nat) (late : Rat) : (s.trackWindow ch late).clock = s.clock := by
  simp [State.trackWindow]

@[simp] theorem State.clock_takeControl (s : State) (x : RxSym) (z : Tbl Cx) : (s.takeControl x z).clock = s.clock := by
  simp [State.takeControl]

@[simp] theorem State.clock_takePayload (s : State) (x : RxSym) (f : RxFrame) (n : Nat) (z : Tbl Cx) :
    (s.takePayload x f n z).clock = s.clock := by
  unfold State.takePayload
  split <;> simp

@[simp] theorem State.clock_takeSymbol (s : State) (x : RxSym) (z : Tbl Cx) : (s.takeSymbol x z).clock = s.clock := by
  unfold State.takeSymbol
  dsimp only
  split
  · simp
  · split <;> simp
  · simp

@[simp] theorem State.clock_missSync (s : State) (cls ch : Nat) (part : Bool) : (s.missSync cls ch part).clock = s.clock := by
  simp [State.missSync]

@[simp] theorem State.clock_endUpSync (s : State) (k : Nat) (zs : List (RxSym × Tbl Cx)) :
    (s.endUpSync k zs).clock = s.clock := by
  simp [State.endUpSync]

@[simp] theorem State.clock_endDnSync (s : State) (k : Nat) : (s.endDnSync k).clock = s.clock := by
  simp [State.endDnSync]

@[simp] theorem State.clock_endSymbols (s : State) (k : Nat) : (s.endSymbols k).clock = s.clock := by
  simp [State.endSymbols]

/-! Decoder pools. -/

@[simp] theorem State.clock_grantPool (s : State) (pool : Nat) : (s.grantPool pool).clock = s.clock := by
  simp [State.grantPool]

@[simp] theorem State.clock_grantDecoders (s : State) : s.grantDecoders.clock = s.clock := by
  simp [State.grantDecoders]

/-! Ledgers. -/

@[simp] theorem State.clock_chargeSlot (s : State) (ch k : Nat) : (s.chargeSlot ch k).clock = s.clock := by
  unfold State.chargeSlot
  extract_lets energised
  clear_value energised
  split
  · rfl
  · refine State.clock_foldl (fun _ _ => ?_) _ s
    rfl

/-! The boundaries. -/

@[simp] theorem State.clock_changePair (s : State) (cls vi slot : Nat) (dest : PairSt) :
    (s.changePair cls vi slot dest).clock = s.clock := by
  simp [State.changePair]

@[simp] theorem State.clock_applyChange (s : State) (c : SlotChange) : (s.applyChange c).clock = s.clock := by
  unfold State.applyChange
  split <;> simp

@[simp] theorem State.clock_applyChanges (s : State) : s.applyChanges.clock = s.clock := by
  simp [State.applyChanges]

@[simp] theorem State.clock_passSlots (s : State) : s.passSlots.clock = s.clock := by
  unfold State.passSlots
  extract_lets n g passed t
  have hpassed : passed.clock = s.clock := by
    refine State.clock_foldl (fun _ _ => ?_) _ s
    dsimp only
    split <;> simp
  have ht : t.clock = s.clock := by
    simp only [State.clock, Prod.mk.injEq] at hpassed ⊢
    exact ⟨rfl, rfl, rfl, rfl, hpassed.2.2.2.2⟩
  exact (State.clock_foldl (fun s f => s.clock_discardFrame f) _ t).trans ht

@[simp] theorem State.clock_sendSync (s : State) : s.sendSync.clock = s.clock := by
  simp [State.sendSync]

@[simp] theorem State.clock_ledgerSlot (s : State) (l : Ledger) : (s.ledgerSlot l).clock = s.clock := by
  unfold State.ledgerSlot
  extract_lets key b now b' g t m set
  have ht : t.clock = s.clock := State.clock_mk ..
  have hset (on : Bool) : (set on).clock = s.clock := (State.clock_log ..).trans ((State.clock_setFld ..).trans ht)
  clear_value set t m
  generalize t.ledgerUse l = use
  obtain ⟨u, c⟩ := use
  dsimp only
  split
  · exact hset true
  · split
    · exact hset false
    · exact ht

@[simp] theorem State.clock_chargeSlots (s : State) : s.chargeSlots.clock = s.clock := by
  simp [State.chargeSlots]

@[simp] theorem State.clock_idleSlot (s : State) (ch : Nat) : (s.idleSlot ch).clock = s.clock := by
  unfold State.idleSlot
  dsimp only
  split
  · rfl
  · split <;> simp

@[simp] theorem State.clock_watchBeacons (s : State) (ch : Nat) : (s.watchBeacons ch).clock = s.clock := by
  unfold State.watchBeacons
  dsimp only
  split <;> simp

@[simp] theorem State.clock_fixHem (s : State) : s.fixHem.clock = s.clock := by
  unfold State.fixHem
  dsimp only
  split <;> simp

@[simp] theorem State.clock_chooseSource (s : State) : s.chooseSource.clock = s.clock := by
  simp [State.chooseSource]

@[simp] theorem State.clock_refillAir (s : State) : s.refillAir.clock = s.clock := by
  simp [State.refillAir]

@[simp] theorem State.clock_startChannel (s : State) (ch : Nat) : (s.startChannel ch).clock = s.clock := by
  unfold State.startChannel
  split <;> simp

@[simp] theorem State.clock_hemChan (s : State) (ch : Nat) : (s.hemChan ch).clock = s.clock := by
  simp [State.hemChan]

@[simp] theorem State.clock_leak (s : State) (code : Nat) (corr : Int) : (s.leak code corr).clock = s.clock := by
  simp [State.leak]

@[simp] theorem State.clock_checkPools (s : State) : s.checkPools.clock = s.clock := by
  simp [State.checkPools]

@[simp] theorem State.clock_checkBudgets (s : State) : s.checkBudgets.clock = s.clock := by
  unfold State.checkBudgets
  refine State.clock_foldl (fun s t => ?_) _ s
  extract_lets u used
  have hu : u.clock = s.clock := by
    refine State.clock_foldl (fun s q => ?_) _ s
    extract_lets free corr
    split <;> simp
  exact (State.clock_leak ..).trans hu

@[simp] theorem State.clock_offForApply (s : State) : s.offForApply.clock = s.clock := by
  simp [State.offForApply]

/-- The Hem number moves on by one, the boundary by the length of the Hem that ended. -/
theorem State.clock_nextHem (s : State) :
    ∃ p, s.nextHem.clock = (s.grid.slot, s.grid.hem + 1, s.grid.b + s.grid.p, p, s.full) := by
  unfold State.nextHem
  extract_lets t g p
  have ht : t.clock = s.clock := by
    unfold t
    split <;> simp
  refine ⟨p, (State.clock_foldl (by simp) _ _).trans ?_⟩
  simp only [State.clock, Prod.mk.injEq] at ht
  obtain ⟨hslot, hhem, hb, hp, hfull⟩ := ht
  change (t.grid.slot, t.grid.hem + 1, t.grid.b + t.grid.p, p, t.full) = _
  rw [hslot, hhem, hb, hp, hfull]

@[simp] theorem State.clock_startHem (s : State) : s.startHem.clock = s.clock := by
  simp [State.startHem]

@[simp] theorem State.clock_slotChan (s : State) (ch : Nat) : (s.slotChan ch).clock = s.clock := by
  simp [State.slotChan]

@[simp] theorem State.clock_countClips (s : State) (k : Nat) : (s.countClips k).clock = s.clock := by
  simp [State.countClips]

@[simp] theorem State.clock_castSlot (s : State) (k : Nat) : (s.castSlot k).clock = s.clock := by
  simp [State.castSlot]


/-! The statement. -/

/-- The slot number moves on by one; what is done before it and after it keeps the clocks. -/
theorem State.clock_gridSlotBoundary {s : State} (hrun : s.grid.running = true) : ∃ t : State, exec .gridSlotBoundary s = .next t ∧
    t.clock = (s.grid.slot + 1, s.grid.hem, s.grid.b, s.grid.p, s.full) := by
  have hexec : exec .gridSlotBoundary s = execGridSlotBoundary s := rfl
  rw [hexec]
  unfold execGridSlotBoundary
  rw [if_neg (by simp [hrun])]
  refine ⟨_, rfl, ?_⟩
  extract_lets k t g moved s1 s2 s3 s4
  have hmoved : moved.clock = (s.grid.slot + 1, s.grid.hem, s.grid.b, s.grid.p, s.full) := by
    have ht : t.clock = s.clock := by simp [t]
    simp only [State.clock, Prod.mk.injEq] at ht
    obtain ⟨-, hhem, hb, hp, hfull⟩ := ht
    exact (State.clock_mk ..).trans (by rw [hhem, hb, hp, hfull])
  have h2 : s2.clock = moved.clock := by simp [s2, s1]
  have h4 : s4.clock = s2.clock := by simp [s4, s3]
  generalize hmem : (s4.castSlot k).memSlot _ = mem
  obtain ⟨more, s5⟩ := mem
  have h5 : s5.clock = s4.clock := by simpa [hmem] using (s4.castSlot k).clock_memSlot (s4.fld .HBM_SCRUB_CFG_scrub_cap 0 * 4096)
  dsimp only
  generalize hsnap : s5.snapSlot = snap
  obtain ⟨used, s6⟩ := snap
  have h6 : s6.clock = s5.clock := by simpa [hsnap] using s5.clock_snapSlot
  dsimp only
  rw [State.clock_sendSlot, State.clock_foldl (fun s ch => s.clock_slotChan ch), State.clock_grantDecoders, State.clock_scrubSlot,
    h6, h5, h4, h2, hmoved]

theorem State.clock_hemBoundary {s : State} (hrun : s.grid.running = true) : ∃ (t : State) (p : Nat), exec .hemBoundary s = .next t ∧
    t.clock = (s.grid.slot, s.grid.hem + 1, s.grid.b + s.grid.p, p, s.full) := by
  have hexec : exec .hemBoundary s = execHemBoundary s := rfl
  rw [hexec]
  unfold execHemBoundary
  rw [if_neg (by simp [hrun])]
  obtain ⟨p, hnext⟩ := s.checkPools.checkBudgets.clock_nextHem
  have hkeep : s.checkPools.checkBudgets.clock = s.clock := by simp
  simp only [State.clock, Prod.mk.injEq] at hkeep
  obtain ⟨hslot, hhem, hb, hp, hfull⟩ := hkeep
  rw [hslot, hhem, hb, hp, hfull] at hnext
  exact ⟨_, p, rfl, by simp [hnext]⟩

theorem gridBoundaries_of_stopped {s : State} (h : s.grid.running = false) :
    exec .gridSlotBoundary s = .next s ∧ exec .hemBoundary s = .next s :=
  ⟨congrArg Host.Outcome.next (if_pos (by simp [h])), congrArg Host.Outcome.next (if_pos (by simp [h]))⟩

/-- Settles O29: every operation of a boundary keeps the clocks, except the one that moves the boundary's own count on. -/
theorem slotsAndHemsAdvance : Obligations.SlotsAndHemsAdvance := by
  unfold Obligations.SlotsAndHemsAdvance
  refine fun s => ⟨gridBoundaries_of_stopped, fun hrun => ⟨?slot, ?hem⟩⟩
  case slot =>
    obtain ⟨t, hexec, hclock⟩ := State.clock_gridSlotBoundary hrun
    simp only [State.clock, Prod.mk.injEq] at hclock
    obtain ⟨hslot, hhem, hb, -, hfull⟩ := hclock
    exact ⟨t, hexec, hslot, hhem, hb, hfull⟩
  case hem =>
    obtain ⟨t, p, hexec, hclock⟩ := State.clock_hemBoundary hrun
    simp only [State.clock, Prod.mk.injEq] at hclock
    obtain ⟨hslot, hhem, hb, -, hfull⟩ := hclock
    exact ⟨t, hexec, hhem, hb, hslot, hfull⟩

end Sys2Proof.Machine
end

section
/-! SUPPORT. A command ring's entries (R78, R79): the operands a well-formed command's entry carries read back, so that the entry
asks what the command does. -/

namespace Sys2Proof.Machine

theorem leAt_le_of_fits {n v : Nat} (h : fits n v = true) (l : List Byte) : leAt (le n v ++ l) 0 n = v :=
  leAt_le n v l (of_decide_eq_true h)

theorem leAt_le_only_of_fits {n v : Nat} (h : fits n v = true) : leAt (le n v) 0 n = v := by
  simpa using leAt_le_of_fits h []

theorem leAt_byte_of_fits {v : Nat} (h : fits 1 v = true) (l : List Byte) : leAt (byte v :: l) 0 1 = v :=
  leAt_le_of_fits h l

theorem drop_le_append (n v : Nat) (l : List Byte) : (le n v ++ l).drop n = l := List.drop_left' (length_le_bytes n v)

/-- Words of 32 bits one after the other read back. -/
theorem leAt_words {ws : List Nat} (hw : ws.all (fits 4) = true) :
    (List.range ws.length).map (fun k => leAt (ws.flatMap (le 4)) (4 * k) 4) = ws := by
  induction ws with
  | nil => rfl
  | cons w ws ih =>
    rw [List.all_cons, Bool.and_eq_true] at hw
    rw [List.length_cons, List.range_succ_eq_map, List.map_cons, List.map_map, List.flatMap_cons, Nat.mul_zero,
      leAt_le_of_fits hw.1]
    refine congrArg (w :: ·) (Eq.trans (List.map_congr_left fun k _ => ?_) (ih hw.2))
    exact leAt_skip_le4 w (4 * k) 4 (ws.flatMap (le 4))

/-- A number's bytes as a list of numbers spell the same number. -/
theorem ofLe_map_byte (l : List Nat) : ofLe (l.map byte) = natOfArgs l := by
  induction l with
  | nil => rfl
  | cons b l ih =>
    show (byte b).toNat + 256 * ofLe (l.map byte) = b % 256 + 256 * natOfArgs l
    rw [ih, byte, BitVec.toNat_ofNat]

/-- A command has the effect of OHI taking the entry that spells it. -/
def RunsAsEntry (i : Instr) (s : State) : Prop :=
  ∀ (c : Cmd) (op : Nat) (args : List Byte), instrEntry i = some (c, op, args) →
    op < 65536 ∧ exec i s = .next (ohi s c op (cmdOp c op args s))

theorem RunsAsEntry.of {i : Instr} {s : State} {c : Cmd} {op : Nat} {args : List Byte} {r : State × Option Resp}
    (he : instrEntry i = some (c, op, args)) (ho : op < 65536) (hx : exec i s = .next (ohi s c op r))
    (hr : cmdOp c op args s = r) : RunsAsEntry i s := by
  intro c' op' args' h
  obtain ⟨rfl, rfl, rfl⟩ : c = c' ∧ op = op' ∧ args = args' := by simpa [he] using h
  exact ⟨ho, hr ▸ hx⟩

/-- A chunk without data is malformed both ways. -/
theorem cmdOp_patternData {off : Nat} (h : fits 4 off = true) (c : Cmd) (data : List Byte) (s : State) :
    cmdOp c 0x0302 (le 4 off ++ data) s = opPatternData c.pnl off data s := by
  show (if (le 4 off ++ data).length < 5 then refuse s .badArg
    else opPatternData c.pnl (leAt (le 4 off ++ data) 0 4) ((le 4 off ++ data).drop 4) s) = _
  rw [leAt_le_of_fits h, drop_le_append, List.length_append, length_le_bytes]
  split
  · exact (if_pos (Or.inl (by omega))).symm
  · rfl

theorem cmdOp_secStage {off : Nat} (h : fits 4 off = true) (c : Cmd) (data : List Byte) (s : State) :
    cmdOp c 0x0402 (le 4 off ++ data) s = opSecStage c.pnl off data s := by
  show (if (le 4 off ++ data).length < 5 then refuse s .badArg
    else opSecStage c.pnl (leAt (le 4 off ++ data) 0 4) ((le 4 off ++ data).drop 4) s) = _
  rw [leAt_le_of_fits h, drop_le_append, List.length_append, length_le_bytes]
  split
  · exact (if_pos (Or.inl (by omega))).symm
  · rfl

/-- The words of OLA_COEF_WRITE follow its seven bytes. -/
theorem cmdOp_olaCoefWrite {cls v slot carrier : Nat} {ws : List Nat} (h1 : fits 1 cls = true) (h2 : fits 1 v = true)
    (h3 : fits 1 slot = true) (h4 : fits 2 carrier = true) (hl : ws.length ≤ 12) (hw : ws.all (fits 4) = true) (c : Cmd)
    (s : State) : cmdOp c 0x2404
      ([byte cls, byte v, byte slot, 0] ++ le 2 carrier ++ byte ws.length :: ws.flatMap (le 4)) s
      = opOlaCoefWrite c.pnl cls v slot carrier ws s := by
  have h5 : fits 1 ws.length = true := decide_eq_true (by omega)
  have words (k : Nat) : leAt ([byte cls, byte v, byte slot, 0] ++ le 2 carrier ++ byte ws.length :: ws.flatMap (le 4))
      (7 + 4 * k) 4 = leAt (ws.flatMap (le 4)) (4 * k) 4 := by
    have := leAt_append ([byte cls, byte v, byte slot, 0] ++ le 2 carrier ++ [byte ws.length]) (ws.flatMap (le 4)) (4 * k) 4
    simpa using this
  simp only [cmdOp, cmdLink, words]
  simp [argLen, leAt_cons, leAt_skip_le2, leAt_byte_of_fits, leAt_le_of_fits, h1, h2, h3, h4, h5, leAt_words hw]
  omega

/-- A command to the Gauge with the argument bytes it asks for, or malformed both ways. -/
theorem cmdOp_gauCalibrate {ch : Nat} (h : fits 1 ch = true) (c : Cmd) (args : List Nat) (s : State) :
    cmdOp c 0x3803 (byte ch :: args.map byte) s = if args = [] then opGauCalibrate c.pnl ch s else refuse s .badArg := by
  simp [cmdOp, cmdTime, argLen, leAt_byte_of_fits h]

theorem cmdOp_gauExcite {ch : Nat} (h : fits 1 ch = true) (c : Cmd) {args : List Nat} (ha : args.all (fits 1) = true) (s : State) :
    cmdOp c 0x3804 (byte ch :: args.map byte) s = opGauExcite c.pnl ch args s := by
  match args, ha with
  | [], _ => rfl
  | [v], ha =>
    have hv : fits 1 v = true := by simpa using ha
    simp [cmdOp, cmdTime, argLen, leAt_byte_of_fits h, leAt_cons, leAt_byte_of_fits hv]
  | v :: w :: l, _ => simp [cmdOp, cmdTime, argLen, opGauExcite]

theorem cmdOp_srgFreeze (c : Cmd) (args : List Nat) (s : State) :
    cmdOp c 0x3A02 (args.map byte) s = if args = [] then opSrgFreeze c.pnl s else refuse s .badArg := by
  simp [cmdOp, cmdTime, argLen]

theorem cmdOp_srgExport (c : Cmd) {args : List Nat} (ha : args.all (fits 1) = true) (s : State) :
    cmdOp c 0x3A03 (args.map byte) s
      = if args.length = 26 then opSrgExport c (args.getD 0 0) (args.getD 1 0) (natOfArgs (args.drop 2)) s
        else refuse s .badArg := by
  show argLen s (args.map byte) 26 _ = _
  unfold argLen
  rw [List.length_map]
  split
  · next h =>
    match args, ha, h with
    | r :: m :: l, ha, h =>
      simp only [List.all_cons, Bool.and_eq_true] at ha
      have hl : (l.map byte).length = 24 := by simpa using h
      have rest : leAt (l.map byte) 0 24 = natOfArgs l := by
        rw [leAt_zero _ _ (by omega), List.take_of_length_le (by omega), ofLe_map_byte]
      simp [leAt_cons, leAt_byte_of_fits, ha, rest]
  · rfl

/-- Every OHI command but REG_WRITE runs as the entry that spells it; each row by the places of its operands. -/
theorem runsAsEntry {i : Instr} (hw : i.wf = true) (hr : ∀ (d : Cmd) (a : Nat) (ws : List Nat), i ≠ .regWrite d a ws) (s : State) :
    RunsAsEntry i s := by
  cases i with
  | rstQuery | pwrQuery | patternCommit | patternAbort | patternQuery | secQuery | hbmQuery | evtRead | telSnap =>
    exact .of rfl (by decide) rfl rfl
  | pwrKeep | secEnrol | secFwWrite | secFwCommit | secRollbackAdvance | secAttest | secRead | secDebugChallenge | secDebugOpen
  | secKeySet | secKeyTx | secKeyClear | secOhiKey | secTamperClear =>
    exact .of rfl (by decide) rfl rfl
  | rstRequest | patternStore | hlkQuery | hlkRealign | chnStart | chnStop | chnQuiet | chnResume | chnRetrain | chnQuery
  | timQuery | gauQuery | gauCheck | srgQuery | srgRelease | pnlQuery | serQuery | cmdQuery | cmdRelease | bobQuery
  | rstBlock | patternBegin | chnSetCoupling | chnSetRole | olaVictimReset | timPairSelect | serFlush | evtCfg | olaPairQuery
  | drmQuery | drmWake | drmRelease | srgArrivalRead | hlkHeadRead | hlkHeadWrite | timFeed | timAt | timSet | cmdForce
  | regRead | telRead | olaCoefRead | featureAccept =>
    simp only [Instr.wf, Bool.and_eq_true] at hw
    refine .of rfl (by decide) rfl ?_
    simp [cmdOp, cmdPower, cmdPattern, cmdLink, cmdTime, cmdPanel, argLen, leAt_cons, leAt_skip_le2, leAt_skip_le4, leAt_skip_le6,
      leAt_byte_of_fits, leAt_le_of_fits, leAt_le_only_of_fits, hw]
  | patternData c off data =>
    simp only [Instr.wf, Bool.and_eq_true] at hw
    exact .of rfl (by decide) rfl (cmdOp_patternData hw.1.2 c data s)
  | secStage c off data =>
    simp only [Instr.wf, Bool.and_eq_true] at hw
    exact .of rfl (by decide) rfl (cmdOp_secStage hw.1.2 c data s)
  | olaCoefWrite c cls v slot carrier words =>
    simp only [Instr.wf, wordsOk, Bool.and_eq_true, decide_eq_true_eq] at hw
    obtain ⟨⟨⟨⟨⟨-, h1⟩, h2⟩, h3⟩, h4⟩, hl, hws⟩ := hw
    exact .of rfl (by decide) rfl (cmdOp_olaCoefWrite h1 h2 h3 h4 hl hws c s)
  | gauCalibrate c ch args =>
    simp only [Instr.wf, Bool.and_eq_true] at hw
    exact .of rfl (by decide) rfl (cmdOp_gauCalibrate hw.1.2 c args s)
  | gauExcite c ch args =>
    simp only [Instr.wf, byteWords, Bool.and_eq_true] at hw
    exact .of rfl (by decide) rfl (cmdOp_gauExcite hw.1.2 c hw.2.2 s)
  | srgFreeze c args => exact .of rfl (by decide) rfl (cmdOp_srgFreeze c args s)
  | srgExport c args =>
    simp only [Instr.wf, byteWords, Bool.and_eq_true] at hw
    exact .of rfl (by decide) rfl (cmdOp_srgExport c hw.2.2 s)
  | regWrite c a ws => exact absurd rfl (hr c a ws)
  | _ => exact fun _ _ _ h => nomatch h

/-- The ring entry of a well-formed command fits its place (R78); each row by its own law. -/
theorem instrEntry_fits (i : Instr) : Laws.Entry.Statement i := by
  cases i with
  | rstQuery => apply Laws.Entry.rstQuery
  | rstRequest => apply Laws.Entry.rstRequest
  | rstBlock => apply Laws.Entry.rstBlock
  | pwrQuery => apply Laws.Entry.pwrQuery
  | pwrKeep => apply Laws.Entry.pwrKeep
  | patternBegin => apply Laws.Entry.patternBegin
  | patternData => apply Laws.Entry.patternData
  | patternCommit => apply Laws.Entry.patternCommit
  | patternAbort => apply Laws.Entry.patternAbort
  | patternStore => apply Laws.Entry.patternStore
  | featureAccept => apply Laws.Entry.featureAccept
  | patternQuery => apply Laws.Entry.patternQuery
  | secQuery => apply Laws.Entry.secQuery
  | secStage => apply Laws.Entry.secStage
  | secEnrol => apply Laws.Entry.secEnrol
  | secFwWrite => apply Laws.Entry.secFwWrite
  | secFwCommit => apply Laws.Entry.secFwCommit
  | secRollbackAdvance => apply Laws.Entry.secRollbackAdvance
  | secAttest => apply Laws.Entry.secAttest
  | secRead => apply Laws.Entry.secRead
  | secDebugChallenge => apply Laws.Entry.secDebugChallenge
  | secDebugOpen => apply Laws.Entry.secDebugOpen
  | secKeySet => apply Laws.Entry.secKeySet
  | secKeyTx => apply Laws.Entry.secKeyTx
  | secKeyClear => apply Laws.Entry.secKeyClear
  | secOhiKey => apply Laws.Entry.secOhiKey
  | secTamperClear => apply Laws.Entry.secTamperClear
  | hlkQuery => apply Laws.Entry.hlkQuery
  | hlkHeadRead => apply Laws.Entry.hlkHeadRead
  | hlkHeadWrite => apply Laws.Entry.hlkHeadWrite
  | hlkRealign => apply Laws.Entry.hlkRealign
  | chnStart => apply Laws.Entry.chnStart
  | chnStop => apply Laws.Entry.chnStop
  | chnQuiet => apply Laws.Entry.chnQuiet
  | chnResume => apply Laws.Entry.chnResume
  | chnRetrain => apply Laws.Entry.chnRetrain
  | chnSetCoupling => apply Laws.Entry.chnSetCoupling
  | chnSetRole => apply Laws.Entry.chnSetRole
  | chnQuery => apply Laws.Entry.chnQuery
  | olaPairQuery => apply Laws.Entry.olaPairQuery
  | olaVictimReset => apply Laws.Entry.olaVictimReset
  | olaCoefRead => apply Laws.Entry.olaCoefRead
  | olaCoefWrite => apply Laws.Entry.olaCoefWrite
  | drmQuery => apply Laws.Entry.drmQuery
  | drmWake => apply Laws.Entry.drmWake
  | drmRelease => apply Laws.Entry.drmRelease
  | timQuery => apply Laws.Entry.timQuery
  | timSet => apply Laws.Entry.timSet
  | timFeed => apply Laws.Entry.timFeed
  | timPairSelect => apply Laws.Entry.timPairSelect
  | timAt => apply Laws.Entry.timAt
  | gauQuery => apply Laws.Entry.gauQuery
  | gauCheck => apply Laws.Entry.gauCheck
  | gauCalibrate => apply Laws.Entry.gauCalibrate
  | gauExcite => apply Laws.Entry.gauExcite
  | srgQuery => apply Laws.Entry.srgQuery
  | srgFreeze => apply Laws.Entry.srgFreeze
  | srgExport => apply Laws.Entry.srgExport
  | srgRelease => apply Laws.Entry.srgRelease
  | srgArrivalRead => apply Laws.Entry.srgArrivalRead
  | pnlQuery => apply Laws.Entry.pnlQuery
  | regRead => apply Laws.Entry.regRead
  | regWrite => apply Laws.Entry.regWrite
  | serQuery => apply Laws.Entry.serQuery
  | serFlush => apply Laws.Entry.serFlush
  | cmdQuery => apply Laws.Entry.cmdQuery
  | cmdForce => apply Laws.Entry.cmdForce
  | cmdRelease => apply Laws.Entry.cmdRelease
  | bobQuery => apply Laws.Entry.bobQuery
  | hbmQuery => apply Laws.Entry.hbmQuery
  | evtRead => apply Laws.Entry.evtRead
  | evtCfg => apply Laws.Entry.evtCfg
  | telSnap => apply Laws.Entry.telSnap
  | telRead => apply Laws.Entry.telRead
  | _ => exact fun _ _ _ _ h => nomatch h

/-- Settles O14: the entry's bytes read back as the command's opcode, tag and operands. -/
theorem ringEntriesRunTheirCommand : Obligations.RingEntriesRunTheirCommand := by
  intro i c op args s hw he hr h hm
  obtain ⟨hl, -, ht⟩ := instrEntry_fits i hw c op args he
  obtain ⟨ho, hx⟩ := runsAsEntry hw hr (s.setFld .PNL_RING_IDX_cmd_head c.pnl ((h + 1) % 64)) c op args he
  exact ⟨_, hx, takeEntry_spec ho ht hl hm⟩

end Sys2Proof.Machine
end

section
/-! SUPPORT. Responses (R76, R78, R81): the entry an answer over SPI leaves in the ring, and the commands a full ring keeps from
being taken. -/

namespace Sys2Proof.Machine

/-- Over SPI an answer logs a refusal and pushes the response. -/
theorem answer_spi {s : State} {c : Cmd} (h : s.inBand c.pnl = false) (op : Nat) (r : Resp) :
    s.answer c op r = (s.logRefuse c.pnl op r).pushRsp c.pnl c.tag op r := by
  rw [State.answer, h]; rfl

/-- Logging a refusal leaves the ring RAM and the ring indices. -/
theorem logRefuse_ringRam (s : State) (p op : Nat) (r : Resp) : (s.logRefuse p op r).mgmt.ringRam = s.mgmt.ringRam := by
  have h := congrArg MgmtSt.ringRam (logRefuse_kept s p op r).mgmt; exact h

theorem fld_logRefuse (s : State) (p op : Nat) (r : Resp) {F : Fld} {i : Nat} (h : (F, i) ∉ logFlds) :
    (s.logRefuse p op r).fld F i = s.fld F i := (logRefuse_kept s p op r).flds F i h

/-- An answer over SPI stores its entry at the ring's tail. -/
theorem answer_ringRam {s : State} {c : Cmd} (h : s.inBand c.pnl = false) (op : Nat) (r : Resp) :
    (s.answer c op r).mgmt.ringRam
      = memStores s.mgmt.ringRam (rspAddr c.pnl (s.fld .PNL_RING_IDX_rsp_tail c.pnl)) (rspEntry c.tag op r) := by
  rw [answer_spi h, pushRsp_ringRam, logRefuse_ringRam, fld_logRefuse _ _ _ _ (by simp [logFlds])]

theorem answer_rspTail {s : State} {c : Cmd} (h : s.inBand c.pnl = false) (op : Nat) (r : Resp) :
    (s.answer c op r).fld .PNL_RING_IDX_rsp_tail c.pnl = (s.fld .PNL_RING_IDX_rsp_tail c.pnl + 1) % 64 := by
  rw [answer_spi h, State.pushRsp, rspIndex_rspTail]
  exact congrArg (fun n => (n + 1) % 64) (fld_logRefuse _ _ _ _ (by simp [logFlds]))

/-- Taking the next index moves the tail alone where the ring has taken the command. -/
theorem rspIndex_taken {s : State} {p : Nat} (h : s.fld .PNL_RING_IDX_cmd_head p ≠ s.fld .PNL_RING_IDX_rsp_tail p) :
    s.rspIndex p = s.setFld .PNL_RING_IDX_rsp_tail p ((s.fld .PNL_RING_IDX_rsp_tail p + 1) % 64) := by
  simp [State.rspIndex, h]

/-- The indices an answer over SPI may move. -/
theorem rspIndex_moves (s : State) (p : Nat) :
    FldsKept [(.PNL_RING_IDX_rsp_tail, p), (.PNL_RING_IDX_cmd_head, p), (.PNL_RING_IDX_cmd_tail, p)] s (s.rspIndex p) := by
  intro F i hn
  by_cases hh : (F, i) = (.PNL_RING_IDX_rsp_head, p)
  · obtain ⟨rfl, rfl⟩ := Prod.mk.inj hh
    unfold State.rspIndex
    extract_lets t n h s1 s2
    have k1 : s1.fld .PNL_RING_IDX_rsp_head i = s.fld .PNL_RING_IDX_rsp_head i := by
      simp only [s1]; split
      · exact s.fld_setFld_ne n (by simp)
      · rfl
    have k2 : s2.fld .PNL_RING_IDX_rsp_head i = s1.fld .PNL_RING_IDX_rsp_head i := by
      simp only [s2]; split
      · exact s1.fld_setFld_ne n (by simp)
      · rfl
    exact (s2.fld_setFld_ne n (by simp)).trans (k2.trans k1)
  · refine rspIndex_flds s p F i fun hm => ?_
    simp only [ansFlds, List.mem_cons, List.not_mem_nil, or_false] at hm hn
    tauto

/-- The state with a response stored, its index not yet taken. -/
def State.storeRsp (s : State) (c : Cmd) (op : Nat) (r : Resp) : State :=
  { s with mgmt := { s.mgmt with
      ringRam := memStores s.mgmt.ringRam (rspAddr c.pnl (s.fld .PNL_RING_IDX_rsp_tail c.pnl)) (rspEntry c.tag op r) } }

/-- An answer of OK over SPI stores its entry and takes the next index. -/
theorem answer_spi_ok {s : State} {c : Cmd} (h : s.inBand c.pnl = false) (op : Nat) {r : Resp} (hr : r.res = .ok) :
    s.answer c op r = (s.storeRsp c op r).rspIndex c.pnl := by
  rw [answer_spi h, logRefuse_ok hr]; rfl

theorem storeRsp_flds (fs : List (Fld × Nat)) (s : State) (c : Cmd) (op : Nat) (r : Resp) : FldsKept fs s (s.storeRsp c op r) :=
  (FldsKept.refl fs s).congr rfl

/-- Settles O12: the entry is stored where the tail points, and the tail moves on. -/
theorem spiResponseEntersTheRing : Obligations.SpiResponseEntersTheRing := by
  intro s c op r hin a t
  have hram : t.mgmt.ringRam = memStores s.mgmt.ringRam a (rspEntry c.tag op r) := answer_ringRam hin op r
  refine ⟨?_, fun b hb => ?_, answer_rspTail hin op r, fun hr hne => ?_, fun hr => ?_⟩
  · rw [hram]
    exact (length_rspEntry c.tag op r) ▸ memBytes_memStores s.mgmt.ringRam a (rspEntry c.tag op r)
  · rw [hram, memByte_memStores, length_rspEntry, if_neg (by omega)]
  · show FldsKept _ s (s.answer c op r)
    rw [answer_spi_ok hin op hr, rspIndex_taken (s := s.storeRsp c op r) hne]
    exact (storeRsp_flds _ s c op r).setFld _ (by simp)
  · show FldsKept _ s (s.answer c op r)
    rw [answer_spi_ok hin op hr]
    exact (storeRsp_flds _ s c op r).trans (rspIndex_moves _ c.pnl)

/-- Settles O13: a full ring takes no command, and an index write is judged by the two distances. -/
theorem fullResponseRingStopsCommands : Obligations.FullResponseRingStopsCommands := by
  refine ⟨fun s c ch a n hin hfull => ?_, fun s q w hin => ?_⟩
  · have waits {op : Nat} {r : State × Option Resp} : ohi s c op r = s := ohi_waits (.inl ⟨hin, hfull⟩)
    exact ⟨congrArg Host.Outcome.next waits, congrArg Host.Outcome.next waits, congrArg Host.Outcome.next waits⟩
  · simp only [State.writeRingIdx, hin, bits, pow_zero, Nat.div_one]
    rfl

end Sys2Proof.Machine
end

section
/-! SUPPORT. The pattern loader's commands (R53 to R71): who may give them, and what each leaves. -/

namespace Sys2Proof.Machine

/-- PATTERN_BEGIN of a full load belongs to PNL0 (R56). -/
theorem opPatternBegin_full_denied {p : Nat} (hp : p ≠ 0) (s : State) : opPatternBegin p 1 0 s = refuse s .denied := by
  simp [opPatternBegin, hp]

/-- Another panel begins a load of its own panel's pattern alone (R56). -/
theorem opPatternBegin_panel_denied {p n : Nat} (hp : p ≠ 0) (h1 : 1 ≤ n) (h15 : n ≤ 15) (hn : n ≠ p) (s : State) :
    opPatternBegin p 2 n s = refuse s .denied := by
  simp [opPatternBegin, within, hp, h1, h15, hn.symm]

theorem opPatternStore_denied {p slot : Nat} (hp : p ≠ 0) (h : slot < 2) (s : State) : opPatternStore p slot s = refuse s .denied := by
  rw [opPatternStore, if_neg (by omega), if_pos hp]

theorem opFeatureAccept_denied {p : Nat} (hp : p ≠ 0) (ws : List Nat) (s : State) : opFeatureAccept p ws s = refuse s .denied :=
  if_pos hp

/-- Settles O15: each of the four operations refuses the panel before it looks at anything else. -/
theorem fullLoadsBelongToPanelZero : Obligations.FullLoadsBelongToPanelZero := by
  intro s c hc hp
  have denied {op : Nat} {r : State × Option Resp} (e : r = refuse s .denied) :
      Host.Outcome.next (φ := Fault) (ρ := Refusal) (ohi s c op r) = .next (s.answer c op (rsp .denied)) := by
    rw [e, ohi_refuse hc]
  exact ⟨denied (opPatternBegin_full_denied hp s), fun _ hs => denied (opPatternStore_denied hp hs s),
    fun _ _ _ _ => denied (opFeatureAccept_denied hp _ s), fun _ h1 h15 hn => denied (opPatternBegin_panel_denied hp h1 h15 hn s)⟩

/-- The panel that began the load gives its commands in RECEIVING (R55). -/
theorem receiving_issuer {s : State} {p : Nat} (hl : s.loader = 1) (hp : s.ldr.by_ = p) (later : Res) (k : State × Option Resp) :
    receiving s p later k = k := by
  simp [receiving, hl, hp]

/-- The state with bytes of the load staged (R61). -/
def State.stageBytes (s : State) (off : Nat) (data : List Byte) : State :=
  s.updLdr (fun l => { l with stage := memStores l.stage off data, top := max l.top (off + data.length) })

/-- PATTERN_DATA of the issuer in RECEIVING: the limit alone decides. -/
theorem opPatternData_issuer {s : State} {p off : Nat} {data : List Byte} (hl : s.loader = 1) (hp : s.ldr.by_ = p)
    (h1 : 1 ≤ data.length) (h52 : data.length ≤ 52) : opPatternData p off data s
      = if patMax s.ldr.kind < off + data.length then refuse s .badArg else (s.stageBytes off data, some (rsp .ok)) := by
  rw [opPatternData, if_neg (by omega), receiving_issuer hl hp]
  rfl

/-- Settles O16: the staging region is a memory whose unwritten bytes read 0, and the limit is checked before it is written. -/
theorem patternDataStagesBytes : Obligations.PatternDataStagesBytes := by
  refine ⟨fun _ => rfl, ?_⟩
  intro s c off data hc hl hby h1 h52 limit
  have op := opPatternData_issuer (off := off) hl hby h1 h52
  refine ⟨fun hle => ⟨s.stageBytes off data, ?_, fun a => memByte_memStores s.ldr.stage off a data, rfl⟩, fun hlt => ?_⟩
  · exact congrArg Host.Outcome.next ((congrArg (ohi s c 0x0302) (op.trans (if_neg (Nat.not_lt.mpr hle)))).trans (ohi_takes hc))
  · exact congrArg Host.Outcome.next ((congrArg (ohi s c 0x0302) (op.trans (if_pos hlt))).trans (ohi_refuse hc))

/-- Four words of a register value set from a number: each takes its 32 bits, every other field is kept. -/
theorem State.fld_setWords4 (s : State) (F G : Fld) (v j : Nat) :
    (s.setWords4 F v).fld G j = if G = F ∧ j < 4 then v / 2 ^ (32 * j) % 2 ^ 32 % 2 ^ F.width else s.fld G j := by
  rw [State.setWords4, State.fld_foldl_setFld (g := fun _ k => bits v (32 * k) 32) (fun _ _ _ _ => rfl)]
  simp only [List.mem_range]
  rfl

theorem State.setWords4_rest (s : State) (F : Fld) (v : Nat) : s.setWords4 F v = { s with regs := (s.setWords4 F v).regs } := rfl

theorem State.setWords4_accept_flds (s : State) (v : Nat) : FldsKept acceptFlds s (s.setWords4 .FEAT_ACCEPT_accept v) := by
  intro F i hn
  rw [State.fld_setWords4, if_neg]
  rintro ⟨rfl, hi⟩; exact hn (mem_acceptFlds hi)

/-- The loader's state goes where it is set. -/
theorem State.loader_setLoader (s : State) {n : Nat} (h : n < 8) : (s.setLoader n).loader = n := by
  rw [State.loader, State.setLoader, State.fld_setFld_same]
  exact Nat.mod_eq_of_lt h

/-- The fields that the end of a load may change. -/
def loadFlds : List (Fld × Nat) := (.PAT_STATUS_loader_state, 0) :: acceptFlds

/-- The accept words after a load: those in force before a full one (R71). -/
def State.restoreAccept (s : State) : State :=
  if s.ldr.kind = 1 then s.setWords4 .FEAT_ACCEPT_accept s.ldr.accept else s

/-- Ending a load: the accept words restored, what the loader held of it dropped, the loader IDLE. -/
theorem State.endLoad_eq (s : State) : s.endLoad = (s.restoreAccept.updLdr (fun l =>
    { l with stage := [], top := 0, cmd := none, flash := none, parsed := none })).setLoader 0 := rfl

theorem State.restoreAccept_rest (s : State) : s.restoreAccept = { s with regs := s.restoreAccept.regs } := by
  unfold State.restoreAccept; split
  · exact s.setWords4_rest _ _
  · rfl

@[simp] theorem State.endLoad_ldr (s : State) :
    s.endLoad.ldr = { s.ldr with stage := [], top := 0, cmd := none, flash := none, parsed := none } := by
  have h := congrArg State.ldr s.restoreAccept_rest
  show ({ s.restoreAccept.ldr with stage := [], top := 0, cmd := none, flash := none, parsed := none } : LdrSt) = _
  rw [h]

theorem State.endLoad_rest (s : State) : s.endLoad = { s with regs := s.endLoad.regs, ldr := s.endLoad.ldr } := by
  have h := congrArg (fun x : State => { x with regs := s.endLoad.regs, ldr := s.endLoad.ldr }) s.restoreAccept_rest
  exact h

theorem State.loader_endLoad (s : State) : s.endLoad.loader = 0 := State.loader_setLoader _ (by decide)

theorem State.fld_endLoad_accept (s : State) {k : Nat} (hk : k < 4) : s.endLoad.fld .FEAT_ACCEPT_accept k
    = if s.ldr.kind = 1 then s.ldr.accept / 2 ^ (32 * k) % 2 ^ 32 else s.fld .FEAT_ACCEPT_accept k := by
  rw [State.endLoad_eq, State.setLoader, State.fld_setFld_ne _ _ (by simp)]
  show s.restoreAccept.fld .FEAT_ACCEPT_accept k = _
  unfold State.restoreAccept
  split
  · rw [State.fld_setWords4, if_pos ⟨rfl, hk⟩]; exact Nat.mod_mod _ _
  · rfl

theorem State.endLoad_flds (s : State) : FldsKept loadFlds s s.endLoad := by
  have k : FldsKept loadFlds s s.restoreAccept := by
    unfold State.restoreAccept; split
    · exact (s.setWords4_accept_flds _).mono fun _ h => List.mem_cons_of_mem _ h
    · exact FldsKept.refl _ s
  rw [State.endLoad_eq]
  exact (k.congr (u := s.restoreAccept.updLdr _) rfl).setFld _ List.mem_cons_self

/-- The state a load begins in (R53, R55). -/
def State.beginLoad (s : State) (p kind panel : Nat) : State :=
  (s.updLdr (fun l => { l with
    stage := [], top := 0, kind := kind, panel := panel, by_ := p, flash := none, accept := s.acceptSet })).setLoader 1

/-- A permitted PATTERN_BEGIN in IDLE begins its load. -/
theorem opPatternBegin_idle {s : State} {p kind panel : Nat} (hl : s.loader = 0) (hr : s.recovery = false) (ho : s.owned = true)
    (h : kind = 1 ∧ panel = 0 ∧ p = 0 ∨ kind = 2 ∧ 1 ≤ panel ∧ panel ≤ 15 ∧ (p = 0 ∨ p = panel) ∧ s.inForce 12 = true) :
    opPatternBegin p kind panel s = (s.beginLoad p kind panel, some (rsp .ok)) := by
  rcases h with ⟨rfl, rfl, rfl⟩ | ⟨rfl, h1, h15, hp, hf⟩
  · simp [opPatternBegin, hl, hr, ho, State.beginLoad]
  · have may : ¬(p ≠ 0 ∧ p ≠ panel) := by tauto
    simp [opPatternBegin, hl, hr, ho, State.beginLoad, within, h1, h15, may, featGate, State.featRes, hf]

/-- Settles O17: each command's operation, then its frame. -/
theorem loaderCommandsTakeEffect : Obligations.LoaderCommandsTakeEffect := by
  intro s c hc
  have run {op : Nat} {r : State × Option Resp} {u v : State} {a : Option Resp} (e : r = (u, a)) (h : ohi s c op (u, a) = v) :
      Host.Outcome.next (φ := Fault) (ρ := Refusal) (ohi s c op r) = .next v := by rw [e, h]
  refine ⟨fun kind panel hl hr ho h => ?_, fun hl hp => ?_, fun hl hp => ?_, fun slot hs hp hl hst hsl => ?_, ?_⟩
  · refine ⟨s.beginLoad c.pnl kind panel, run (opPatternBegin_idle hl hr ho h) (ohi_takes hc),
      State.loader_setLoader _ (by decide), rfl, ?_, rfl⟩
    exact (FldsKept.refl _ s).setFld 1 List.mem_cons_self
  · refine ⟨_, run (receiving_issuer hl hp _ _) (ohi_deferred hc), State.loader_setLoader _ (n := 2) (by decide), rfl, rfl, ?_, rfl⟩
    exact (FldsKept.refl _ s).setFld 2 List.mem_cons_self
  · exact ⟨s.endLoad, run (receiving_issuer hl hp _ _) (ohi_takes hc), s.loader_endLoad,
      congrArg LdrSt.stage s.endLoad_ldr, congrArg LdrSt.top s.endLoad_ldr,
      fun k hk => s.fld_endLoad_accept hk, s.endLoad_flds, s.endLoad_rest⟩
  · have op : opPatternStore c.pnl slot s = (s.updLdr (fun l =>
        { l with slots := tput {} slot ⟨l.image, false⟩ l.slots, storing := some slot }), some (rsp .ok)) := by
      have h1 : ¬1 < slot := by omega
      have h2 : ¬2 ≤ s.loader := by omega
      simp [opPatternStore, h1, hp, h2, hst, hsl]
    exact ⟨_, run op (ohi_takes hc), tget_tput_same _ _ _ _, tget_tput_ne (by omega) _ _ _ _, rfl⟩
  · exact run rfl (ohi_takes hc)

end Sys2Proof.Machine
end

section
/-! SUPPORT. Loads verified, checked, rejected and sealed (R53 to R59, R66 to R71): a rejection leaves the pattern in service, and
the answer a load completes leaves the loader. -/

namespace Sys2Proof.Machine

/-- What answering a panel's command leaves: all but its ring indices and the log among the fields, and the parts that carry
responses and events. -/
structure AnswerKept (p : Nat) (s t : State) : Prop where
  flds : FldsKept (ansFlds p ++ logFlds) s t
  rest : { t with regs := s.regs, tel := s.tel, mgmt := s.mgmt, hbm := s.hbm, host := s.host } = s

theorem AnswerKept.refl (p : Nat) (s : State) : AnswerKept p s s := ⟨FldsKept.refl _ s, rfl⟩

theorem AnswerKept.ldr {p : Nat} {s t : State} (h : AnswerKept p s t) : t.ldr = s.ldr := by
  have e := congrArg State.ldr h.rest; exact e

theorem AnswerKept.pat {p : Nat} {s t : State} (h : AnswerKept p s t) : t.pat = s.pat := by
  have e := congrArg State.pat h.rest; exact e

theorem AnswerKept.full {p : Nat} {s t : State} (h : AnswerKept p s t) : t.full = s.full := by
  have e := congrArg State.full h.rest; exact e

/-- A field that is neither a ring index nor the log's is kept, whoever is answered. -/
theorem AnswerKept.fld {p : Nat} {s t : State} (h : AnswerKept p s t) {F : Fld} {i : Nat}
    (hr : F ∉ [.PNL_RING_IDX_rsp_tail, .PNL_RING_IDX_rsp_head, .PNL_RING_IDX_cmd_head, .PNL_RING_IDX_cmd_tail])
    (hl : (F, i) ∉ logFlds) : t.fld F i = s.fld F i := by
  refine h.flds F i fun hm => ?_
  rcases List.mem_append.mp hm with hm | hm
  · simp only [ansFlds, List.mem_cons, Prod.mk.injEq, List.not_mem_nil, or_false] at hm hr
    tauto
  · exact hl hm

theorem answerOn_kept (s : State) (b : Bool) (c : Cmd) (op : Nat) (r : Resp) : AnswerKept c.pnl s (s.answerOn b c op r) := by
  have k := logRefuse_kept s c.pnl op r
  have kf : FldsKept (ansFlds c.pnl ++ logFlds) s (s.logRefuse c.pnl op r) := k.flds.mono fun _ h => List.mem_append_right _ h
  have kr := congrArg (fun x : State => { x with host := s.host }) k.rest
  cases b with
  | true =>
    refine ⟨kf.trans ((answerInBand_flds s c op r).mono fun _ h => List.mem_append_left _ h), ?_⟩
    have h := congrArg (fun x : State => { x with tel := s.tel, mgmt := s.mgmt, hbm := s.hbm }) (answerInBand_rest s c op r)
    exact h.trans kr
  | false =>
    refine ⟨kf.trans ((pushRsp_flds _ c.pnl c.tag op r).mono fun _ h => List.mem_append_left _ h), ?_⟩
    have h := congrArg (fun x : State => { x with regs := s.regs, tel := s.tel, mgmt := s.mgmt, hbm := s.hbm, host := s.host })
      (pushRsp_rest (s.logRefuse c.pnl op r) c.pnl c.tag op r)
    exact h.trans kr

theorem completeCmd_kept (s : State) (c : Cmd) (op : Nat) (r : Resp) : AnswerKept c.pnl s (s.completeCmd c op r) := by
  unfold State.completeCmd
  split
  · exact AnswerKept.refl _ s
  · next d _ =>
    have k := answerOn_kept { s with mgmt := { s.mgmt with deferred := s.mgmt.deferred.erase d } } d.inBand c op r
    refine ⟨k.flds, ?_⟩
    have h := congrArg (fun x : State => { x with mgmt := s.mgmt }) k.rest
    exact h

/-- An answer of OK writes nothing in the event ring. -/
theorem completeCmd_ring (s : State) (c : Cmd) (op : Nat) {r : Resp} (hr : r.res = .ok) :
    (s.completeCmd c op r).mgmt.ring = s.mgmt.ring := by
  unfold State.completeCmd
  split
  · rfl
  · next d _ =>
    generalize hs : ({ s with mgmt := { s.mgmt with deferred := s.mgmt.deferred.erase d } } : State) = s'
    have hring : s'.mgmt.ring = s.mgmt.ring := by rw [← hs]
    rw [← hring]
    cases d.inBand with
    | true =>
      have h := congrArg (fun x : State => x.mgmt.ring) (answerInBand_rest s' c op r)
      rw [logRefuse_ok hr] at h; exact h
    | false =>
      show ((s'.logRefuse c.pnl op r).pushRsp c.pnl c.tag op r).mgmt.ring = _
      rw [logRefuse_ok hr, pushRsp_ring]

/-- What waits for an answer is answered; nothing waits otherwise. -/
def State.answerWaiting (s : State) (cmd : Option Cmd) (op : Nat) (r : Resp) : State :=
  match cmd with
  | some c => s.completeCmd c op r
  | none => s

theorem State.answerWaiting_kept (s : State) (cmd : Option Cmd) (op : Nat) (r : Resp) :
    ∃ p, AnswerKept p s (s.answerWaiting cmd op r) := by
  cases cmd with
  | some c => exact ⟨c.pnl, completeCmd_kept s c op r⟩
  | none => exact ⟨0, AnswerKept.refl 0 s⟩

theorem State.answerWaiting_ring (s : State) (cmd : Option Cmd) (op : Nat) {r : Resp} (hr : r.res = .ok) :
    (s.answerWaiting cmd op r).mgmt.ring = s.mgmt.ring := by
  cases cmd with
  | some c => exact completeCmd_ring s c op hr
  | none => rfl

/-- The registers that show a rejection, before it is logged. -/
def State.markReject (s : State) (code : Nat) (x : Conflict) : State :=
  ((((((s.setFld .PAT_STATUS_last_reject 0 code).setFld .PAT_STATUS_conflict_kind 0 x.kind).setFld .PAT_CONFLICT_A_item 0
    x.a).setFld .PAT_CONFLICT_A_section 0 (x.a / 65536)).setFld .PAT_CONFLICT_B_item 0 x.b).setFld .PAT_CONFLICT_B_section 0
    (x.b / 65536)).setFld .PAT_CONFLICT_UNIT_unit 0 x.unit

theorem State.showReject_eq (s : State) (code : Nat) (c : Option Conflict) : s.showReject code c
    = ((s.markReject code (c.getD ⟨0, 0, 0, 0⟩)).bump .PAT_REJECT_CNT_rejects 0).log 0x0302 noPanel noInst
        (code + 256 * (c.getD ⟨0, 0, 0, 0⟩).kind) := rfl

theorem State.showReject_rest (s : State) (code : Nat) (c : Option Conflict) :
    { s.showReject code c with regs := s.regs, tel := s.tel, mgmt := s.mgmt, hbm := s.hbm } = s := by
  have h := congrArg (fun x : State => { x with regs := s.regs, tel := s.tel, mgmt := s.mgmt, hbm := s.hbm })
    (((s.markReject code (c.getD ⟨0, 0, 0, 0⟩)).bump .PAT_REJECT_CNT_rejects 0).log_kept 0x0302 noPanel noInst
      (code + 256 * (c.getD ⟨0, 0, 0, 0⟩).kind)).rest
  exact h

theorem State.fld_showReject_lastReject (s : State) (code : Nat) (c : Option Conflict) :
    (s.showReject code c).fld .PAT_STATUS_last_reject 0 = code % 256 := by
  rw [State.showReject_eq, State.fld_log _ _ _ _ _ (by simp [logFlds]), State.fld_bump, if_neg (by simp)]
  simp only [State.markReject, State.fld_setFld, reduceCtorEq, false_and, and_self, if_false, if_true]
  rfl

theorem State.fld_showReject_rejects (s : State) (code : Nat) (c : Option Conflict) :
    (s.showReject code c).fld .PAT_REJECT_CNT_rejects 0 = min (s.fld .PAT_REJECT_CNT_rejects 0 + 1) 65535 := by
  have hm : (s.markReject code (c.getD ⟨0, 0, 0, 0⟩)).fld .PAT_REJECT_CNT_rejects 0 = s.fld .PAT_REJECT_CNT_rejects 0 := by
    simp only [State.markReject, State.fld_setFld, reduceCtorEq, false_and, if_false]
  rw [State.showReject_eq, State.fld_log _ _ _ _ _ (by simp [logFlds]), State.fld_bump, if_pos ⟨rfl, rfl⟩, hm]
  rfl

theorem State.reject_eq (s : State) (code : Nat) (c : Option Conflict) :
    s.reject code c = (s.showReject code c).endLoad.answerWaiting s.ldr.cmd 0x0303 (rejectResp code c) := by
  unfold State.reject State.answerWaiting
  cases s.ldr.cmd <;> rfl

/-- A rejection (R53, R54, R57): the pattern in service stays, the loader is IDLE with nothing staged, the code shown and
counted. -/
theorem State.reject_spec (s : State) (code : Nat) (c : Option Conflict) :
    (s.reject code c).pat = s.pat ∧ (s.reject code c).full = s.full ∧ (s.reject code c).loader = 0 ∧
      (s.reject code c).ldr.stage = [] ∧ (s.reject code c).ldr.top = 0 ∧
      (s.reject code c).fld .PAT_STATUS_last_reject 0 = code % 256 ∧
      (s.reject code c).fld .PAT_REJECT_CNT_rejects 0 = min (s.fld .PAT_REJECT_CNT_rejects 0 + 1) 65535 := by
  obtain ⟨p, k⟩ := (s.showReject code c).endLoad.answerWaiting_kept s.ldr.cmd 0x0303 (rejectResp code c)
  rw [← State.reject_eq] at k
  have kr := s.showReject_rest code c
  have er := (s.showReject code c).endLoad_rest
  have ef := (s.showReject code c).endLoad_flds
  refine ⟨?_, ?_, ?_, ?_, ?_, ?_, ?_⟩
  · have h1 := congrArg State.pat er
    have h2 := congrArg State.pat kr
    exact k.pat.trans (h1.trans h2)
  · have h1 := congrArg State.full er
    have h2 := congrArg State.full kr
    exact k.full.trans (h1.trans h2)
  · exact (k.fld (by simp) (by simp [logFlds])).trans (s.showReject code c).loader_endLoad
  · rw [k.ldr, State.endLoad_ldr]
  · rw [k.ldr, State.endLoad_ldr]
  · rw [k.fld (by simp) (by simp [logFlds]), ef _ _ (by simp [loadFlds, acceptFlds]), State.fld_showReject_lastReject]
  · rw [k.fld (by simp) (by simp [logFlds]), ef _ _ (by simp [loadFlds, acceptFlds]), State.fld_showReject_rejects]

/-- The checks of VERIFYING have the codes 1 to 5 (R57). -/
theorem State.verifyFail_lt {s : State} {code : Nat} (h : s.verifyFail = some code) : code < 256 := by
  unfold State.verifyFail at h
  dsimp only at h
  split at h
  · cases h; decide
  split at h
  · cases h; decide
  split at h
  · cases h; decide
  split at h
  · cases h; decide
  split at h
  · cases h; decide
  split at h
  · cases h
  · cases h; decide

theorem exec_loaderVerifyDone_passes {s : State} (hl : s.loader = 2) (hv : s.verifyFail = none) :
    exec .loaderVerifyDone s = .next (s.setLoader 3) := by
  show execLoaderVerifyDone s = _
  rw [execLoaderVerifyDone, if_neg (by simp [hl]), hv]

theorem exec_loaderVerifyDone_fails {s : State} {code : Nat} (hl : s.loader = 2) (hv : s.verifyFail = some code) :
    exec .loaderVerifyDone s = .next (s.reject code none) := by
  show execLoaderVerifyDone s = _
  rw [execLoaderVerifyDone, if_neg (by simp [hl]), hv]

/-- The state in which a load is checked: its skipped sections are counted (R49). -/
def State.checking (s : State) : State := s.bumpN .PAT_REJECT_CNT_skips 0 (sectionsOf s.staged).skips

theorem exec_loaderCheckDone_good {s : State} {p : Pat} (hl : s.loader = 3) (hk : s.ldr.kind = 1)
    (hc : s.checking.checkFull s.staged = .good p) :
    exec .loaderCheckDone s = .next ((s.checking.updLdr (fun l => { l with parsed := some p })).setLoader 4) := by
  show execLoaderCheckDone s = _
  have hk' : s.checking.ldr.kind = 1 := hk
  unfold State.checking at hk' hc ⊢
  simp only [execLoaderCheckDone, hl, hk', hc, ne_eq, not_true_eq_false, if_true, if_false]

theorem exec_loaderCheckDone_bad {s : State} {code : Nat} {c : Option Conflict} (hl : s.loader = 3) (hk : s.ldr.kind = 1)
    (hc : s.checking.checkFull s.staged = .bad code c) : exec .loaderCheckDone s = .next (s.checking.reject code c) := by
  show execLoaderCheckDone s = _
  have hk' : s.checking.ldr.kind = 1 := hk
  unfold State.checking at hk' hc ⊢
  simp only [execLoaderCheckDone, hl, hk', hc, ne_eq, not_true_eq_false, if_true, if_false]

/-- Settles O19: a load that passes goes on, one that fails is rejected. -/
theorem loadsAreVerifiedThenChecked : Obligations.LoadsAreVerifiedThenChecked := by
  refine ⟨fun s hl => ?_, fun s hl hk => ?_⟩
  · cases hv : s.verifyFail with
    | none => exact ⟨_, exec_loaderVerifyDone_passes hl hv, rfl, rfl, rfl, s.loader_setLoader (by decide)⟩
    | some code =>
      obtain ⟨hpat, hfull, hload, hstage, htop, hcode, hcnt⟩ := s.reject_spec code none
      exact ⟨_, exec_loaderVerifyDone_fails hl hv, hpat, hfull, hload,
        hcode.trans (Nat.mod_eq_of_lt (State.verifyFail_lt hv)), hstage, htop, hcnt⟩
  · show ∃ t : State, _ ∧ _ ∧ _ ∧ match s.checking.checkFull s.staged with
      | .good p => t.loader = 4 ∧ t.ldr = { s.ldr with parsed := some p }
      | .bad code _ => t.loader = 0 ∧ t.fld .PAT_STATUS_last_reject 0 = code % 256 ∧ t.ldr.stage = []
    cases hc : s.checking.checkFull s.staged with
    | good p => exact ⟨_, exec_loaderCheckDone_good hl hk hc, rfl, rfl, State.loader_setLoader _ (n := 4) (by decide), rfl⟩
    | bad code c =>
      obtain ⟨hpat, hfull, hload, hstage, -, hcode, -⟩ := s.checking.reject_spec code c
      exact ⟨_, exec_loaderCheckDone_bad hl hk hc, hpat, hfull, hload, hcode, hstage⟩

/-- An event raised stands in the ring, as a new entry or as a repeat of the newest (R529, R530). -/
theorem State.log_listed (s : State) (code panel inst data : Nat) :
    ∃ (k : Nat) (e : Ev), tfind k (s.log code panel inst data).mgmt.ring = some e ∧ e.code = code ∧ e.data = data % 2 ^ 64 := by
  by_cases hm : ∃ e : Ev, s.evNewest = some e ∧ e.code = code ∧ e.panel = panel ∧ e.inst = inst ∧ e.data = data % 2 ^ 64 ∧
      e.hem = s.grid.hem
  · obtain ⟨e, hn, h⟩ := hm
    rw [State.log_repeats hn h]
    exact ⟨_, _, tfind_tset_same _ _ _, h.1, h.2.2.2.1⟩
  · rw [State.log_writes fun e he hh => hm ⟨e, he, hh⟩]
    exact ⟨s.evHead, _, (congrArg (tfind s.evHead) (evWrite_spec s _).1).trans (tfind_tset_same _ _ _), rfl, rfl⟩

/-- The source a seal shows: the flash slot loaded, or 3 for a driver's load (R66). -/
def State.sealSource (s : State) : Nat :=
  match s.ldr.flash with
  | some k => k + 1
  | none => 3

/-- The pattern sealed and shown, its load forgotten, before the event and the answer. -/
def State.sealShown (s : State) (p : Pat) : State :=
  (((((s.offForApply.dropPending (fun _ => true)).applyFull p).updLdr (fun l =>
    { l with stage := [], top := 0, cmd := none, flash := none, parsed := none, sources := [] })).setFlag .PAT_STATUS_sealed 0
      true).setFld .PAT_STATUS_source 0 s.sealSource).setLoader 0

/-- The state a seal leaves before what waited for it runs. -/
def State.sealedAs (s : State) (p : Pat) : State :=
  ((s.sealShown p).log 0x0301 noPanel noInst p.hdr.serial).answerWaiting s.ldr.cmd 0x0303 (rsp .ok)

theorem exec_patternSeal {s : State} {p : Pat} (hl : s.loader = 4) (hp : s.ldr.parsed = some p) :
    exec .patternSeal s = .next (s.sealedAs p).runWaiting := by
  show execPatternSeal s = _
  simp only [execPatternSeal, hl, if_true, hp]
  unfold State.sealedAs State.sealShown State.sealSource State.answerWaiting
  cases s.ldr.cmd <;> rfl

/-- Neither the event nor the answer touches the loader's registers. -/
theorem State.fld_sealedAs (s : State) (p : Pat) {F : Fld} {i : Nat}
    (hr : F ∉ [.PNL_RING_IDX_rsp_tail, .PNL_RING_IDX_rsp_head, .PNL_RING_IDX_cmd_head, .PNL_RING_IDX_cmd_tail])
    (hl : (F, i) ∉ logFlds) : (s.sealedAs p).fld F i = (s.sealShown p).fld F i := by
  obtain ⟨_, k⟩ := ((s.sealShown p).log 0x0301 noPanel noInst p.hdr.serial).answerWaiting_kept s.ldr.cmd 0x0303 (rsp .ok)
  exact (k.fld hr hl).trans (State.fld_log _ _ _ _ _ hl)

theorem State.log_ldr (s : State) (code panel inst data : Nat) : (s.log code panel inst data).ldr = s.ldr := by
  have h := congrArg State.ldr (s.log_kept code panel inst data).rest; exact h

theorem State.sealedAs_ldr (s : State) (p : Pat) : (s.sealedAs p).ldr = (s.sealShown p).ldr := by
  obtain ⟨_, k⟩ := ((s.sealShown p).log 0x0301 noPanel noInst p.hdr.serial).answerWaiting_kept s.ldr.cmd 0x0303 (rsp .ok)
  exact k.ldr.trans (State.log_ldr _ _ _ _ _)

theorem State.sealedAs_listed (s : State) (p : Pat) :
    ∃ (k : Nat) (e : Ev), tfind k (s.sealedAs p).mgmt.ring = some e ∧ e.code = 0x0301 ∧ e.data = p.hdr.serial % 2 ^ 64 := by
  rw [State.sealedAs, State.answerWaiting_ring _ _ _ rfl]
  exact State.log_listed _ _ _ _ _

theorem State.fld_sealedAs_source (s : State) (p : Pat) : (s.sealedAs p).fld .PAT_STATUS_source 0 = s.sealSource % 4 := by
  rw [State.fld_sealedAs _ _ (by simp) (by simp [logFlds]), State.sealShown, State.setLoader, State.fld_setFld_ne _ _ (by simp),
    State.fld_setFld_same]
  rfl

theorem State.isSealed_sealedAs (s : State) (p : Pat) : (s.sealedAs p).isSealed = true := by
  rw [State.isSealed, State.flag, State.fld_sealedAs _ _ (by simp) (by simp [logFlds]), State.sealShown, State.setLoader,
    State.fld_setFld_ne _ _ (by simp), State.fld_setFld_ne _ _ (by simp), State.setFlag, State.fld_setFld_same]
  rfl

theorem State.loader_sealedAs (s : State) (p : Pat) : (s.sealedAs p).loader = 0 :=
  (s.fld_sealedAs p (by simp) (by simp [logFlds])).trans (State.loader_setLoader _ (by decide))

/-- A panel pattern in effect, its serial recorded (R59). -/
def State.panelInEffect (s : State) (n : Nat) (e : PanelPat) : State :=
  (s.applyPanel n e.pat).updLdr (fun l => { l with
    pend := tdel n l.pend, inEffect := tset n { e with cmd := none } l.inEffect, serials := tset n e.pat.hdr.serial l.serials })

theorem exec_panelPatternEffect_early {s : State} {n : Nat} {e : PanelPat} (hp : tfind n s.ldr.pend = some e)
    (h : s.grid.b < e.tick + 40000000 ∨ s.atHemStart = false) : exec (.panelPatternEffect n) s = .next s := by
  show execPanelPatternEffect n s = _
  have hearly : s.grid.running = false ∨ s.atHemStart = false ∨ s.grid.b < e.tick + msTicks 200 := .inr h.symm
  simp only [execPanelPatternEffect, hp, if_pos hearly]

theorem exec_panelPatternEffect_due {s : State} {n : Nat} {e : PanelPat} (hp : tfind n s.ldr.pend = some e)
    (hrun : s.grid.running = true) (hs : s.atHemStart = true) (hb : e.tick + 40000000 ≤ s.grid.b) :
    exec (.panelPatternEffect n) s
      = .next (((s.panelInEffect n e).log 0x0301 n n e.pat.hdr.serial).answerWaiting e.cmd 0x0303 (rsp .ok)) := by
  show execPanelPatternEffect n s = _
  have hdue : ¬(s.grid.running = false ∨ s.atHemStart = false ∨ s.grid.b < e.tick + msTicks 200) := by
    simpa [hrun, hs, msTicks] using hb
  simp only [execPanelPatternEffect, hp, if_neg hdue]
  unfold State.panelInEffect State.answerWaiting
  cases e.cmd <;> rfl

/-- A load from flash staged, its features accepted (R66, R67). -/
def State.flashStaged (s : State) (k : Nat) (rest : List Nat) : State :=
  ((s.updLdr (fun l => { l with
    stage := memStores [] 0 (tget {} k s.ldr.slots).bytes, top := (tget {} k s.ldr.slots).bytes.length, kind := 1, panel := 0, by_ := 0
    cmd := none, commitAt := s.tick, flash := some k, sources := rest, accept := s.acceptSet })).setWords4 .FEAT_ACCEPT_accept
      (parseHdr (tget {} k s.ldr.slots).bytes).features).setLoader 2

theorem exec_flashPatternLoad {s : State} (hl : s.loader = 0) (hs : s.isSealed = false) (hr : s.recovery = false)
    (ho : s.owned = true) : exec .flashPatternLoad s = .next (match nextFlash s.ldr.slots s.ldr.sources with
      | none => s.updLdr (fun l => { l with sources := [] })
      | some (k, rest) => s.flashStaged k rest) := by
  show execFlashPatternLoad s = _
  rw [execFlashPatternLoad, if_neg (by simp [hl, hs, hr, ho])]
  rfl

theorem State.fld_flashStaged_accept (s : State) (k : Nat) (rest : List Nat) {j : Nat} (hj : j < 4) :
    (s.flashStaged k rest).fld .FEAT_ACCEPT_accept j
      = (parseHdr (tget {} k s.ldr.slots).bytes).features / 2 ^ (32 * j) % 2 ^ 32 := by
  rw [State.flashStaged, State.setLoader, State.fld_setFld_ne _ _ (by simp), State.fld_setWords4, if_pos ⟨rfl, hj⟩]
  exact Nat.mod_mod _ _

theorem State.flashStaged_flds (s : State) (k : Nat) (rest : List Nat) : FldsKept loadFlds s (s.flashStaged k rest) := by
  refine FldsKept.setFld ?_ 2 List.mem_cons_self
  exact ((FldsKept.refl loadFlds s).congr (u := s.updLdr _) rfl).trans
    ((State.setWords4_accept_flds _ _).mono fun _ h => List.mem_cons_of_mem _ h)

/-- Settles O20: the seal, a panel pattern's boundary, the next flash slot and the slot written. -/
theorem sealsPutPatternsIntoService : Obligations.SealsPutPatternsIntoService := by
  refine ⟨fun s p hl hp => ?_, fun s n e hp hrun => ⟨exec_panelPatternEffect_early hp, fun hs hb => ?_⟩, fun s hl hs hr ho => ?_,
    fun s k ok hk => ?_⟩
  · have hldr := s.sealedAs_ldr p
    refine ⟨s.sealedAs p, exec_patternSeal hl hp, s.loader_sealedAs p, s.isSealed_sealedAs p, (s.fld_sealedAs_source p).trans ?_,
      s.sealedAs_listed p, congrArg LdrSt.parsed hldr, congrArg LdrSt.stage hldr, congrArg LdrSt.sources hldr⟩
    unfold State.sealSource
    cases s.ldr.flash <;> rfl
  · obtain ⟨_, k⟩ := ((s.panelInEffect n e).log 0x0301 n n e.pat.hdr.serial).answerWaiting_kept e.cmd 0x0303 (rsp .ok)
    have hldr := k.ldr.trans (State.log_ldr _ _ _ _ _)
    refine ⟨_, exec_panelPatternEffect_due hp hrun hs hb, ?_⟩
    rw [hldr]
    exact ⟨tfind_tdel_same _ _, tfind_tset_same _ _ _, tfind_tset_same _ _ _⟩
  · refine ⟨_, exec_flashPatternLoad hl hs hr ho, ?_⟩
    rcases nextFlash s.ldr.slots s.ldr.sources with _ | ⟨k, rest⟩
    · rfl
    · exact ⟨State.loader_setLoader _ (n := 2) (by decide), rfl, rfl, rfl, rfl, fun j hj => s.fld_flashStaged_accept k rest hj,
        s.flashStaged_flds k rest, rfl⟩
  · refine ⟨s.updLdr (fun l => { l with slots := tput {} k { tget {} k l.slots with valid := ok } l.slots, storing := none }), ?_,
      tget_tput_same _ _ _ _, fun j hj => tget_tput_ne hj _ _ _ _, rfl⟩
    show execPatternStoreDone ok s = _
    rw [execPatternStoreDone, hk]

end Sys2Proof.Machine
end

section
/-! SUPPORT. The management port (R76, R77, R81, R475, R512, R513): one transaction of one word, the doorbell, and datagrams. -/

namespace Sys2Proof.Machine

/-- The word of `TEL_CFG` is its two fields. -/
theorem State.regRead_telCfg (s : State) : s.regRead 0 0x700004 []
    = (s.fld .TEL_CFG_tel_on 0 + 256 * s.fld .TEL_CFG_tel_period 0, s) := by
  rw [State.regRead_plain (by decide) (s.inAlias_zero _), if_neg (by decide), State.regWord, State.afterRead, fldsAt_telCfg]
  refine Prod.ext ?_ rfl
  show 0 + 2 ^ 0 * s.fld .TEL_CFG_tel_on 0 + 2 ^ 8 * s.fld .TEL_CFG_tel_period 0 = _
  omega

/-- Before a pattern PNL0's transactions alone are accepted (R513). -/
theorem State.spiOk_unsealed {s : State} (hf : s.full = none) (hb : s.bootOnly = false) (p : Nat) (l : List Nat) :
    s.spiOk p l = (p == 0) := by
  simp [State.spiOk, hf, hb]

theorem State.spiStatus_accepted {s : State} (hf : s.full = none) (hb : s.bootOnly = false) (l : List Nat) : s.spiStatus 0 l = 1 := by
  rw [State.spiStatus, State.spiOk_unsealed hf hb, State.inAlias_zero, hb]; rfl

/-- A refused transaction that names no address of the panel's window. -/
theorem State.spiStatus_refused {s : State} (hf : s.full = none) (hb : s.bootOnly = false) {p : Nat} {l : List Nat}
    (hp : 0 < p) (ha : s.inAlias p (l.headD 0) = false) : s.spiStatus p l = 2 := by
  have h0 : (p == 0) = false := beq_false_of_ne (Nat.ne_of_gt hp)
  rw [State.spiStatus, State.spiOk_unsealed hf hb, h0, ha, hb]; rfl

theorem spiAddrs_one {a : Nat} (h : a < 2 ^ 24) : spiAddrs a 1 = [a] := by
  simpa [spiAddrs] using h

/-- A transaction of one word within its limits. -/
theorem exec_spiTransaction_one {wr : Bool} {p a : Nat} {words : List Nat} (hp : p < 16) (hw : wr = false ∨ words.length = 1)
    (s : State) : exec (.spiTransaction wr p a 1 words) s = .next (s.spiRun wr p a 1 words) := by
  show execSpiTransaction wr p a 1 words s = _
  rw [execSpiTransaction, if_pos ⟨hp, by decide, by decide, hw⟩]

/-- An accepted read of one word drives it out after the status. -/
theorem State.spiRun_read {s t : State} {a w : Nat} (hs : s.serving = true) (hb : s.bootOnly = false) (hf : s.full = none)
    (ha : a < 2 ^ 24) (e : s.regRead 0 a [] = (w, t)) : s.spiRun false 0 a 1 [] = t.spi ([0, 0, 0, 0, 0, 1] ++ le 4 w) := by
  simp only [State.spiRun, hs, spiAddrs_one ha, State.spiOk_unsealed hf hb, State.spiStatus_accepted hf hb, List.foldl_cons,
    List.foldl_nil, e]
  rfl

/-- An accepted write of one word stores it, drives out zeros and serves the rings. -/
theorem State.spiRun_write {s : State} {a w : Nat} (hs : s.serving = true) (hb : s.bootOnly = false) (hf : s.full = none)
    (ha : a < 2 ^ 24) : s.spiRun true 0 a 1 [w] = ((s.regWrite 0 a w).spi [0, 0, 0, 0, 0, 1, 0, 0, 0, 0]).pump := by
  simp only [State.spiRun, hs, spiAddrs_one ha, State.spiOk_unsealed hf hb, State.spiStatus_accepted hf hb]
  rfl

/-- A transaction not accepted counts and drives out zeros (R513). -/
theorem State.spiRun_refused {s : State} (wr : Bool) {p a : Nat} (words : List Nat) (hs : s.serving = true)
    (hb : s.bootOnly = false) (hf : s.full = none) (hp : 0 < p) (ha : a < 2 ^ 24) (hn : s.inAlias p a = false) :
    s.spiRun wr p a 1 words = (s.bump .PNL_OHI_WRONG_CNT_count p).spi [0, 0, 0, 0, 0, 2, 0, 0, 0, 0] := by
  have h0 : (p == 0) = false := beq_false_of_ne (Nat.ne_of_gt hp)
  simp only [State.spiRun, hs, spiAddrs_one ha, State.spiOk_unsealed hf hb, h0, State.spiStatus_refused hf hb (l := [a]) hp hn]
  rfl

/-- A panel reaches its own `PNL_RING_IDX`, whose write is its index write (R76, R81). -/
theorem State.regWrite_ringIdx (s : State) {p : Nat} (hp : p < 16) (w : Nat) :
    s.regWrite p (ringIdxAddr p) w = s.writeRingIdx p (w % 2 ^ 32) := by
  have place : ∀ p < 16, spanHas 0x3E0000 16 0x1000 p (ringIdxAddr p) = true ∧ blkOf (ringIdxAddr p) = some 0x3E ∧
      ringIdxAddr p % 4 = 0 ∧ ringPlace (ringIdxAddr p) = none ∧ 0x3E0000 ≤ ringIdxAddr p ∧ ringIdxAddr p < 0x3F0000 ∧
      (ringIdxAddr p - 0x3E0000) % 0x1000 = 0x20 ∧ (ringIdxAddr p - 0x3E0000) / 0x1000 = p := by decide
  obtain ⟨hspan, hblk, h4, hram, hlo, hhi, hoff, hq⟩ := place p hp
  have ha : s.inAlias p (ringIdxAddr p) = true := by simp [State.inAlias, hspan]
  simp [State.regWrite, ha, hblk, h4, hram, hlo, hhi, hoff, hq]

theorem exec_ringDoorbell {p : Nat} (hp : p < 16) (w : Nat) (s : State) :
    exec (.ringDoorbell p w) s = .next (s.writeRingIdx p (w % 2 ^ 32)).pump := by
  show execRingDoorbell p w s = _
  rw [execRingDoorbell, if_pos hp, s.regWrite_ringIdx hp]

/-- The key of the panel a datagram names. -/
def State.gramKey (s : State) (header : List Byte) : List Byte := (tfind (beAt header 0 1) s.sec.ohiKeys).getD []

/-- What a datagram opens to under that key (R475). -/
def State.gramOpen (s : State) (header cipher tag : List Byte) : Option (List Byte) :=
  Config.gcmOpen (s.gramKey header) (ohiNonce (beAt header 0 1) 0 (leAt header 4 4)) header (cipher ++ tag)

/-- A panel without a key, or none at all: the tag cannot be checked. -/
theorem State.ohiGram_keyless {s : State} {header : List Byte} (h : s.gramKey header = [] ∨ 15 < beAt header 0 1)
    (cipher tag : List Byte) (ip port : Nat) : s.ohiGram header cipher tag ip port = s.bump .SEC_CNT2_ohi_auth 0 := by
  unfold State.gramKey at h
  simp only [State.ohiGram, if_pos h]

/-- The opening of a datagram to a panel with a key decides. -/
theorem State.ohiGram_keyed {s : State} {header : List Byte} (hk : s.gramKey header ≠ []) (hp : beAt header 0 1 ≤ 15)
    (cipher tag : List Byte) (ip port : Nat) : s.ohiGram header cipher tag ip port
      = match s.gramOpen header cipher tag with
        | none => s.bump .SEC_CNT2_ohi_auth 0
        | some entries =>
          if leAt header 4 4 ≤ tget 0 (beAt header 0 1) s.sec.ohiSeq then s.bump .SEC_CNT2_ohi_replay 0
          else
            let s := s.updSec (fun x => { x with ohiSeq := tput 0 (beAt header 0 1) (leAt header 4 4) x.ohiSeq })
            if s.inBand (beAt header 0 1) = false then s.bump .PNL_OHI_WRONG_CNT_count (beAt header 0 1)
            else if beAt header 1 1 = 0 ∨ 32 < beAt header 1 1 ∨ entries.length ≠ 64 * beAt header 1 1 then s
            else if 32 < s.cmdWaiting (beAt header 0 1) + beAt header 1 1 then s.bump .PNL_CMD_OVF_CNT_count (beAt header 0 1)
            else
              (({ s with host := { s.host with ohiIn := s.host.ohiIn ++ [⟨beAt header 0 1, ip, port, leAt header 4 4,
                s.gramKey header, beAt header 1 1, []⟩] } } : State).ringEntries (beAt header 0 1) entries (beAt header 1 1)).pump := by
  have h : ¬((tfind (beAt header 0 1) s.sec.ohiKeys).getD [] = [] ∨ 15 < beAt header 0 1) := by
    rintro (h | h)
    · exact hk h
    · omega
  simp only [State.ohiGram, if_neg h]
  rfl

/-- The state with another ring RAM. -/
def State.withRam (s : State) (ram : Memory) : State := { s with mgmt := { s.mgmt with ringRam := ram } }

/-- The `i`-th entry of a datagram stored from the tail `t` on. -/
def storeEntry (p t : Nat) (entries : List Byte) (s : State) (i : Nat) : State :=
  s.withRam (memStores s.mgmt.ringRam (cmdAddr p (t + i)) (slice entries (64 * i) 64))

theorem foldl_storeEntry (p t : Nat) (entries : List Byte) (l : List Nat) (s : State) :
    ∃ ram : Memory, l.foldl (storeEntry p t entries) s = s.withRam ram := by
  induction l generalizing s with
  | nil => exact ⟨s.mgmt.ringRam, rfl⟩
  | cons i l ih => obtain ⟨ram, h⟩ := ih (storeEntry p t entries s i); exact ⟨ram, h⟩

/-- Entries stored in a panel's ring change the ring RAM and the tail alone. -/
theorem State.ringEntries_eq (s : State) (p : Nat) (entries : List Byte) (n : Nat) : ∃ ram : Memory,
    s.ringEntries p entries n
      = (s.withRam ram).setFld .PNL_RING_IDX_cmd_tail p ((s.fld .PNL_RING_IDX_cmd_tail p + n) % 64) := by
  obtain ⟨ram, h⟩ := foldl_storeEntry p (s.fld .PNL_RING_IDX_cmd_tail p) entries (List.range n) s
  exact ⟨ram, congrArg (fun t : State => t.setFld .PNL_RING_IDX_cmd_tail p ((s.fld .PNL_RING_IDX_cmd_tail p + n) % 64)) h⟩

/-- A datagram taken: its sequence the last one, its entries at the ring's tail, its responses awaited. -/
def State.gramTaken (s : State) (header entries : List Byte) (ip port : Nat) : State :=
  ({ s.updSec (fun x => { x with ohiSeq := tput 0 (beAt header 0 1) (leAt header 4 4) x.ohiSeq }) with
    host := { s.host with ohiIn := s.host.ohiIn ++ [⟨beAt header 0 1, ip, port, leAt header 4 4, s.gramKey header,
      beAt header 1 1, []⟩] } } : State).ringEntries (beAt header 0 1) entries (beAt header 1 1)

theorem State.gramTaken_spec (s : State) (header entries : List Byte) (ip port : Nat) :
    let u := s.gramTaken header entries ip port
    let p := beAt header 0 1
    tget 0 p u.sec.ohiSeq = leAt header 4 4 ∧
      u.fld .PNL_RING_IDX_cmd_tail p = (s.fld .PNL_RING_IDX_cmd_tail p + beAt header 1 1) % 64 ∧
      u.host.ohiIn = s.host.ohiIn ++ [⟨p, ip, port, leAt header 4 4, s.gramKey header, beAt header 1 1, []⟩] ∧
      FldsKept [(.PNL_RING_IDX_cmd_tail, p)] s u := by
  intro u p
  obtain ⟨ram, hu⟩ : ∃ ram : Memory, u = _ := State.ringEntries_eq _ p entries (beAt header 1 1)
  rw [hu]
  refine ⟨tget_tput_same _ _ _ _, ?_, rfl, ?_⟩
  · rw [State.fld_setFld_same]; exact Nat.mod_mod _ 64
  · exact ((FldsKept.refl _ s).congr rfl).setFld _ (by simp)

/-- Settles O26: a transaction of `TEL_CFG` each way and one refused, the doorbell, and a datagram by what it opens to. -/
theorem managementPortTransactions : Obligations.ManagementPortTransactions := by
  refine ⟨fun s w hi hs hb hf => ⟨?_, ?_, fun p wr hp hp' ha => ⟨_, ?_, rfl⟩⟩, fun s p w hp => exec_ringDoorbell hp w s, ?_⟩
  · rw [exec_spiTransaction_one (by decide) (.inl rfl), State.spiRun_read hs hb hf (by decide) s.regRead_telCfg]
  · have idle := ((hi.setFld 0 (w % 2) (F := .TEL_CFG_tel_on) (by decide) (by decide)).setFld 0 (max 1 (w / 256 % 256))
      (F := .TEL_CFG_tel_period) (by decide) (by decide))
    rw [exec_spiTransaction_one (by decide) (.inr rfl), State.spiRun_write hs hb hf (by decide), s.regWrite_telCfg, pump_idle]
    exact idle.kept rfl fun _ => ⟨rfl, rfl⟩
  · rw [exec_spiTransaction_one hp' (.inr rfl), State.spiRun_refused wr [w] hs hb hf hp (by decide) ha]
  · intro s header cipher tag ip port hs hh ht p n seq key
    refine ⟨s.ohiGram header cipher tag ip port, ?_, fun h => State.ohiGram_keyless h cipher tag ip port, fun hk hp => ?_⟩
    · show execOhiDatagram header cipher tag ip port s = _
      rw [execOhiDatagram, if_pos ⟨hs, hh, ht⟩]
    · rw [State.ohiGram_keyed hk hp]
      show match s.gramOpen header cipher tag with
        | none => _
        | some entries => _
      cases s.gramOpen header cipher tag with
      | none => rfl
      | some entries =>
        refine ⟨fun h => if_pos h, fun hseq hin h1 h32 hlen hfit => ⟨s.gramTaken header entries ip port, ?_,
          s.gramTaken_spec header entries ip port⟩⟩
        have hin' : ¬(s.updSec (fun x => { x with ohiSeq := tput 0 p seq x.ohiSeq })).inBand p = false := by
          rw [Bool.not_eq_false]; exact hin
        have hn : ¬(n = 0 ∨ 32 < n ∨ entries.length ≠ 64 * n) := by omega
        have hw : ¬32 < (s.updSec (fun x => { x with ohiSeq := tput 0 p seq x.ohiSeq })).cmdWaiting p + n := Nat.not_lt.mpr hfit
        exact (if_neg (Nat.not_le.mpr hseq)).trans ((if_neg hin').trans ((if_neg hn).trans (if_neg hw)))

end Sys2Proof.Machine
end

section
/-! SUPPORT. A counterexample to the DATA_FRAME_RX clause of `Obligations.ReceptionAndDeliveryRowsComplete` (O58): a frame that
announces more segments than it holds counts as failed (R170, R257), and the third of a row invalidates the link's maps, which
restarts the interleaver and drops the frames being received through it (R144) with the frame taken. -/

namespace Sys2Proof.Machine

/-- A DATA frame that announces two segments and holds one: number 4,095, which a flow that starts at 0 drops as a duplicate. -/
def shortFrame : RxFrame :=
  let fc : FC := { typ := 0, ver := 0, prio := 0, link := 0, src := 5, dst := 0, body := 2 ^ 36 + 2 ^ 14 }
  let p := segBytes 1 4095 3 [65]
  { at_ := 0, fc := fc, stepped := true, blocks := [⟨0, 0, 8 * p.length, 0, true, some (scramble fc.link (bytesToBits p), false)⟩] }

/-- The segment it holds. -/
def shortFrameSeg : RawSeg := ⟨0, 1, 1, 4095, 3, (segBytes 1 4095 3 [65]).take 8, [65], true⟩

/-- A later frame of the interleaver's stream. -/
def linkFrame : RxFrame := { shortFrame with at_ := 1, li := some 0 }

/-- Channel 0 in LIVE after two failed frames in a row, both frames held. A message of the device waits on the channel for a
descriptor, so the INVALIDATE_ALL waits behind it. -/
def twiceFailed : State :=
  let s := (({} : State).setFld .CHN_STATUS_state 0 chLive).setChan 0 { failRuns := 2, rxq := [shortFrame, linkFrame] }
  { s with dlv := { s.dlv with devQ := [⟨0, 5, true, 0xFFE0, [], none⟩] } }

/-- What DATA_FRAME_RX does with the frame it finds. -/
theorem exec_dataFrameRx {s : State} {ch : Nat} {f : RxFrame}
    (h : s.heard ch (fun fc => (fc.typ == 0 || fc.typ == 3 || fc.typ == 5) && !fcFlood fc) = some f) :
    exec (.dataFrameRx ch) s = .next ((s.takeHeard ch f).takeData ch f) := by
  show execDataFrameRx ch s = _
  rw [execDataFrameRx, h]

theorem twiceFailed_heard :
    twiceFailed.heard 0 (fun fc => (fc.typ == 0 || fc.typ == 3 || fc.typ == 5) && !fcFlood fc) = some shortFrame := by decide +kernel

theorem frameSegs_shortFrame :
    frameSegs shortFrame.fc shortFrame.payload.1 shortFrame.payload.2 = [shortFrameSeg] := by decide +kernel

/-- The frame is the third to fail: no frame is held after it. -/
theorem twiceFailed_drops_linkFrame : (((twiceFailed.takeHeard 0 shortFrame).takeData 0 shortFrame).chan 0).rxq = [] := by decide +kernel

theorem twiceFailed_rest : (twiceFailed.chan 0).rxq.erase shortFrame = [linkFrame] := by decide +kernel

/-- Refutes O58: its DATA_FRAME_RX clause says that the frame taken is all that leaves the frames held. In `twiceFailed` the frame
taken is the third in a row to count as failed, and the frame of the interleaver's stream goes with it. -/
theorem not_receptionAndDeliveryRowsComplete : ¬ Obligations.ReceptionAndDeliveryRowsComplete := by
  unfold Obligations.ReceptionAndDeliveryRowsComplete
  rintro ⟨-, -, -, -, -, -, -, -, -, -, -, dataFrame, -⟩
  obtain ⟨t, a, ht, hrxq, -⟩ := dataFrame twiceFailed 0 shortFrame shortFrameSeg twiceFailed_heard (by decide +kernel) (by decide +kernel)
    rfl (by decide) (by decide) (by decide) frameSegs_shortFrame rfl (by decide) (by decide +kernel)
  rw [exec_dataFrameRx twiceFailed_heard] at ht
  injection ht with ht
  rw [← ht, twiceFailed_drops_linkFrame, twiceFailed_rest] at hrxq
  simp at hrxq

end Sys2Proof.Machine
end

section
/-! SUPPORT. The two time-driven exits of a channel (R115). -/

namespace Sys2Proof.Machine

/-- Without a tamper that holds its channels, FAULT_AUTO_REARM turns on the channel's state, its setting and its cause. -/
theorem exec_faultAutoRearm {s : State} (ht : s.sec.tamperOff = false) (ch : Nat) : exec (.faultAutoRearm ch) s = .next (
    if s.effState ch = chFault ∧ s.fld .CHN_CFG_auto_rearm ch = 1 ∧ s.faultCleared ch = true then s.requestState ch chArmed 0 else s) :=
  congrArg Host.Outcome.next (if_congr (by simp [State.flag, ht]) rfl rfl)

/-- Settles O28: the first is the timer's own condition, the second is its condition without a tamper. -/
theorem channelTimersAskForArmed : Obligations.ChannelTimersAskForArmed :=
  fun _ ch => ⟨rfl, fun ht => exec_faultAutoRearm ht ch⟩

end Sys2Proof.Machine
end

section
/-! SUPPORT. The detector (R97, R100 to R107, R194): what arming it again leaves of the channel, and each of its events as the
operation it is. -/

namespace Sys2Proof.Machine

/-- A channel changed by a function. -/
@[simp] theorem State.chan_updChan_same (s : State) (ch : Nat) (f : Chan → Chan) : (s.updChan ch f).chan ch = f (s.chan ch) :=
  s.chan_setChan_same ch _

/-! Arming the detector. -/

/-- A channel whose detector is armed again. -/
def Chan.rearmed (c : Chan) : Chan := { c with det := .armed, agcFrozen := false, curFc := none, fcWord := none, symIdx := 0 }

theorem State.chan_rearm (s : State) (ch : Nat) : (s.rearm ch).chan ch = (s.chan ch).rearmed :=
  (State.chan_setFlag ..).trans (s.chan_updChan_same ch _)

theorem State.fld_rearm (s : State) (ch : Nat) (F : Fld) (i : Nat) :
    (s.rearm ch).fld F i = if F = .CHN_STATUS_rx_busy ∧ i = ch then 0 else s.fld F i := by
  unfold State.rearm
  rw [State.fld_setFlag]
  exact if_congr Iff.rfl (Nat.zero_mod _) rfl

/-- An abandoned reception arms the detector, with some of the frames held dropped. -/
theorem State.chan_resetRx (s : State) (ch : Nat) : ∃ q, (s.resetRx ch).chan ch = { s.chan ch with rxq := q }.rearmed := by
  unfold State.resetRx
  rw [State.chan_rearm, State.chan_updChan_same]
  exact ⟨_, rfl⟩

theorem State.fld_resetRx (s : State) (ch : Nat) (F : Fld) (i : Nat) :
    (s.resetRx ch).fld F i = if F = .CHN_STATUS_rx_busy ∧ i = ch then 0 else s.fld F i := State.fld_rearm ..

theorem State.det_resetRx (s : State) (ch : Nat) : ((s.resetRx ch).chan ch).det = .armed := by
  obtain ⟨q, h⟩ := s.chan_resetRx ch
  rw [h]; rfl

theorem State.curFc_resetRx (s : State) (ch : Nat) : ((s.resetRx ch).chan ch).curFc = none := by
  obtain ⟨q, h⟩ := s.chan_resetRx ch
  rw [h]; rfl

theorem State.noPrs_resetRx (s : State) (ch : Nat) : ((s.resetRx ch).chan ch).noPrs = (s.chan ch).noPrs := by
  obtain ⟨q, h⟩ := s.chan_resetRx ch
  rw [h]; rfl

/-- Fields that read as before the detector was armed, `rx_busy` apart. -/
theorem FldsKept.of_rearmed {s t : State} {ch : Nat}
    (h : ∀ F i, t.fld F i = if F = .CHN_STATUS_rx_busy ∧ i = ch then 0 else s.fld F i) : FldsKept [(.CHN_STATUS_rx_busy, ch)] s t :=
  fun F i hn => (h F i).trans (if_neg (by simpa using hn))

/-- A reception abandoned and counted: the detector armed, one event counted, nothing else in the registers but `rx_busy`. -/
theorem State.abandoned_spec (s : State) (ch : Nat) {F : Fld} (hF : F ≠ .CHN_STATUS_rx_busy) :
    (((s.resetRx ch).bump F ch).chan ch).det = .armed ∧ ((s.resetRx ch).bump F ch).fld .CHN_STATUS_rx_busy ch = 0 ∧
    ((s.resetRx ch).bump F ch).fld F ch = min (s.fld F ch + 1) (2 ^ F.width - 1) ∧
    FldsKept [(.CHN_STATUS_rx_busy, ch), (F, ch)] s ((s.resetRx ch).bump F ch) := by
  refine ⟨s.det_resetRx ch, ?_, ?_, ?_⟩
  · rw [State.fld_bump, if_neg (fun h => hF h.1.symm), State.fld_resetRx, if_pos ⟨rfl, rfl⟩]
  · rw [State.fld_bump, if_pos ⟨rfl, rfl⟩, State.fld_resetRx, if_neg (fun h => hF h.1)]
  · exact ((FldsKept.of_rearmed (s.fld_resetRx ch)).mono (by simp)).bump (by simp)

/-! ENERGY_TRIGGER. -/

/-- The noise floor, read or drawn, leaves all but the free values. -/
theorem State.floorOf_kept (s : State) (ch : Nat) :
    (s.floorOf ch).2.regs = s.regs ∧ (s.floorOf ch).2.chans = s.chans ∧ (s.floorOf ch).2.tick = s.tick := by
  unfold State.floorOf
  split <;> exact ⟨rfl, rfl, rfl⟩

/-- The noise floor does not turn on the time. -/
theorem State.floorOf_release (s : State) (t ch : Nat) : ((s.release t).floorOf ch).1 = (s.floorOf ch).1 := by
  unfold State.floorOf
  rw [show (s.release t).chan ch = s.chan ch from rfl]
  cases (s.chan ch).floor <;> rfl

/-- A detection at a tick (R101, R106). -/
def State.detect (s : State) (ch tick : Nat) : State :=
  let s := s.updChan ch (fun c => { c with det := .triggered, trigAt := tick, detAt := tick, agcFrozen := false })
  ((s.setFlag .CHN_RSSI_rssi_valid ch false).setFlag .CHN_STATUS_rx_busy ch true).bump .CHN_RX_DET_CNT_detections ch

theorem State.chan_detect (s : State) (ch tick : Nat) : (s.detect ch tick).chan ch
    = { s.chan ch with det := .triggered, trigAt := tick, detAt := tick, agcFrozen := false } := by
  unfold State.detect
  rw [State.chan_bump, State.chan_setFlag, State.chan_setFlag, State.chan_updChan_same]

theorem State.detect_flds (s : State) (ch tick : Nat) :
    (s.detect ch tick).fld .CHN_STATUS_rx_busy ch = 1 ∧ (s.detect ch tick).fld .CHN_RSSI_rssi_valid ch = 0 ∧
    (s.detect ch tick).fld .CHN_RX_DET_CNT_detections ch
      = min (s.fld .CHN_RX_DET_CNT_detections ch + 1) (2 ^ Fld.width .CHN_RX_DET_CNT_detections - 1) ∧
    FldsKept [(.CHN_STATUS_rx_busy, ch), (.CHN_RSSI_rssi_valid, ch), (.CHN_RX_DET_CNT_detections, ch)] s (s.detect ch tick) := by
  refine ⟨?_, ?_, ?_, ((((FldsKept.refl _ s).congr rfl).setFlag _ (by simp)).setFlag _ (by simp)).bump (by simp)⟩
  · simp [State.detect, State.fld_bump, State.fld_setFlag]; rfl
  · simp [State.detect, State.fld_bump, State.fld_setFlag]; rfl
  · simp [State.detect, State.fld_bump, State.fld_setFlag]

theorem exec_energyTrigger {s : State} {ch tick : Nat} {w : List Int} (hw : (s.chan ch).rx.last tick 256 = some w)
    (ha : (s.chan ch).det = .armed) (hl : s.listens ch = true) (hd : s.deaf ch (s.slotAt tick) = false)
    (ht : triggered ((energy w : Nat) : Rat) (s.floorOf ch).1 (s.fld .CHN_DET_CFG_det_thr ch) = true) :
    exec (.energyTrigger ch tick) s = .next (((s.release tick).floorOf ch).2.detect ch tick) := by
  have ready : ¬((s.chan ch).det ≠ .armed ∨ s.listens ch = false ∨ s.deaf ch (s.slotAt tick) = true) := by simp [ha, hl, hd]
  have reached : ¬triggered ((energy w : Nat) : Rat) ((s.release tick).floorOf ch).1
      (((s.release tick).floorOf ch).2.fld .CHN_DET_CFG_det_thr ch) = false := by
    rw [s.floorOf_release, State.fld_congr ((s.release tick).floorOf_kept ch).1]
    exact ne_false_of_eq_true ht
  show execEnergyTrigger ch tick s = _
  unfold execEnergyTrigger
  extract_lets +onlyGivenNames u
  rw [show (u.chan ch).rx.last tick 256 = some w from hw]
  exact congrArg Host.Outcome.next ((if_neg ready).trans (if_neg reached))

/-! QUALIFIER_PASS. -/

/-- Without a contention no PRS is heard. -/
theorem State.hearPrs_none {s : State} {ch : Nat} (h : (s.chan ch).cont = none) (tick : Nat) : s.hearPrs ch tick = s := by
  unfold State.hearPrs
  rw [h]

theorem State.freezeAgc_chan (s : State) (ch : Nat) (gain : Int) : ∃ (g : Int) (n : Nat) (x : Rat),
    (s.freezeAgc ch gain).chan ch = { s.chan ch with agcFrozen := true, agcGain := g, chiselRun := n, chisel2 := x } :=
  ⟨_, _, _, s.chan_updChan_same ch _⟩

theorem exec_qualifierPass {s : State} {ch tick : Nat}
    (hdet : (s.chan ch).det = .triggered ∧ tick ≤ (s.chan ch).trigAt + 9216 ∨ (s.chan ch).det = .qualified)
    (hc : (s.chan ch).cont = none) (hk : 1024 ≤ tick)
    (hp : ∀ t ∈ [tick, tick - 1024], (s.chan ch).rx.point (s.fld .CHN_DET_CFG_qual_thr ch) t = true) :
    exec (.qualifierPass ch tick) s = .next (
      let t := (s.release tick).updChan ch (fun c => { c with det := .qualified, detAt := tick })
      if agcSettled (s.agcGains ch tick) = true ∧ (s.chan ch).agcFrozen = false then t.freezeAgc ch ((s.agcGains ch tick).headD 0)
      else t) := by
  have looked : ¬((decide ((s.chan ch).det = .triggered) && decide (tick ≤ (s.chan ch).trigAt + 9216)
      || (s.chan ch).det == .qualified) = false ∨ (s.chan ch).rx.point (s.fld .CHN_DET_CFG_qual_thr ch) tick = false) := by
    have := hp tick (by simp)
    rcases hdet with ⟨h, hn⟩ | h <;> simp [*]
  have again : ¬(tick < 1024 ∨ (s.chan ch).rx.point (s.fld .CHN_DET_CFG_qual_thr ch) (tick - 1024) = false) := by
    simp [hp (tick - 1024) (by simp), hk]
  show execQualifierPass ch tick s = _
  unfold execQualifierPass
  refine congrArg Host.Outcome.next ((if_neg looked).trans ?_)
  rw [State.hearPrs_none (s := s.release tick) hc]
  exact if_neg again

/-! QUAL_FAIL. -/

theorem exec_qualFail {s : State} {ch : Nat} (h : (s.chan ch).det = .triggered ∨ (s.chan ch).det = .qualified) :
    ∃ n, exec (.qualFail ch) s = .next (((s.release n).resetRx ch).bump .CHN_RX_DET_CNT_qual_fail ch) := by
  by_cases ht : (s.chan ch).det = .triggered
  · exact ⟨_, congrArg Host.Outcome.next (if_pos ht)⟩
  · exact ⟨_, congrArg Host.Outcome.next ((if_neg ht).trans (if_pos (h.resolve_left ht)))⟩

/-! SYNC_POINT. -/

/-- The registers a sync point sets. -/
def syncFlds (ch : Nat) : List (Fld × Nat) :=
  [(.CHN_RSSI_rssi, ch), (.CHN_RSSI_rssi_valid, ch), (.CHN_SYNC_sync_offset, ch), (.CHN_SYNC_sync_frac, ch),
    (.CHN_SYNC_sync_valid, ch), (.CHN_FREQ_sco_ppm, ch), (.CHN_FREQ_sco_valid, ch)]

/-- A sync point shown (R105, R106, R110). -/
def State.showSync (s : State) (ch rssi idx frac sco : Nat) : State :=
  let s := (s.setFld .CHN_RSSI_rssi ch rssi).setFlag .CHN_RSSI_rssi_valid ch true
  let s := (s.setFld .CHN_SYNC_sync_offset ch idx).setFld .CHN_SYNC_sync_frac ch frac
  ((s.setFlag .CHN_SYNC_sync_valid ch true).setFld .CHN_FREQ_sco_ppm ch sco).setFlag .CHN_FREQ_sco_valid ch true

theorem State.showSync_kept (s : State) (ch rssi idx frac sco : Nat) : FldsKept (syncFlds ch) s (s.showSync ch rssi idx frac sco) :=
  (((((((FldsKept.refl _ s).setFld _ (by simp [syncFlds])).setFlag _ (by simp [syncFlds])).setFld _ (by simp [syncFlds])).setFld _
    (by simp [syncFlds])).setFlag _ (by simp [syncFlds])).setFld _ (by simp [syncFlds])).setFlag _ (by simp [syncFlds])

theorem State.fld_showSync (s : State) (ch rssi idx frac sco : Nat) :
    let t := s.showSync ch rssi idx frac sco
    t.fld .CHN_SYNC_sync_offset ch = idx % 2 ^ Fld.width .CHN_SYNC_sync_offset ∧
    t.fld .CHN_SYNC_sync_frac ch = frac % 2 ^ Fld.width .CHN_SYNC_sync_frac ∧
    t.fld .CHN_SYNC_sync_valid ch = 1 ∧ t.fld .CHN_FREQ_sco_valid ch = 1 ∧ t.fld .CHN_RSSI_rssi_valid ch = 1 := by
  refine ⟨?_, ?_, ?_, ?_, ?_⟩ <;> simp [State.showSync, State.fld_setFld, State.fld_setFlag] <;> rfl

theorem State.chan_showSync (s : State) (ch rssi idx frac sco x : Nat) : (s.showSync ch rssi idx frac sco).chan x = s.chan x := by
  unfold State.showSync
  simp only [State.chan_setFld, State.chan_setFlag]

/-- Without a contention a frame ends none. -/
theorem State.hearFrame_none {s : State} {ch : Nat} (h : (s.chan ch).cont = none) (t : Nat) : s.hearFrame ch t = s := by
  unfold State.hearFrame
  rw [h]

/-- A sync point entered (R95, R105). -/
def State.enterFrame (s : State) (ch at_ : Nat) : State :=
  s.updChan ch (fun c => { c with det := .inFrame, curFc := none, fcWord := none, symIdx := 0, winMove := 0, syncAt := at_ })

/-- The gain frozen at a sync point where it was not before (R104). -/
def State.lateFreeze (s : State) (ch tick : Nat) : State :=
  if (!(s.chan ch).agcFrozen) = true then s.freezeAgc ch ((s.agcGains ch tick).headD 0) else s

theorem State.fld_enterFrame (s : State) (ch at_ : Nat) (F : Fld) (i : Nat) : (s.enterFrame ch at_).fld F i = s.fld F i := rfl

theorem State.regs_lateFreeze (s : State) (ch tick : Nat) : (s.lateFreeze ch tick).regs = s.regs := by
  unfold State.lateFreeze
  split <;> rfl

theorem State.cont_lateFreeze (s : State) (ch tick : Nat) : ((s.lateFreeze ch tick).chan ch).cont = (s.chan ch).cont := by
  unfold State.lateFreeze
  split
  · obtain ⟨g, n, x, e⟩ := s.freezeAgc_chan ch ((s.agcGains ch tick).headD 0)
    rw [e]
  · rfl

/-- A sync point in time enters the frame, with its place shown. -/
theorem exec_syncPoint {s : State} {ch tick frac : Nat} {span : List Int} (hf : (s.chan ch).rx.syncFrac tick = some frac)
    (hs : (s.chan ch).rx.span (tick - 1024) 2048 = some span) (hd : (s.chan ch).det = .qualified)
    (ht : tick ≤ (s.chan ch).detAt + 2048) (hl : s.listens ch = true) (hc : (s.chan ch).cont = none)
    (hself : s.selfSync tick (tick - s.slotTick (s.slotAt tick)) frac = false) :
    ∃ rssi sco at_ : Nat, exec (.syncPoint ch tick) s = .next ((((s.release (tick + 1023)).lateFreeze ch tick).showSync ch rssi
      (tick - s.slotTick (s.slotAt tick)) frac sco).enterFrame ch at_) := by
  show ∃ rssi sco at_, execSyncPoint ch tick s = _
  unfold execSyncPoint
  generalize hv : s.release (tick + 1023) = v
  have hchan : v.chan ch = s.chan ch := by rw [← hv]; rfl
  have hlis : v.listens ch = true := by rw [← hv]; exact hl
  have hidx : v.slotTick (v.slotAt tick) = s.slotTick (s.slotAt tick) := by rw [← hv]; rfl
  have hnot : v.selfSync tick (tick - s.slotTick (s.slotAt tick)) frac = false := by rw [← hv]; exact hself
  have ready : ¬((v.chan ch).det ≠ .qualified ∨ (v.chan ch).detAt + 2048 < tick ∨ v.listens ch = false) := by
    simp [hchan, hd, hlis, ht]
  clear hv
  rw [← hchan] at hf hs hc
  extract_lets +onlyGivenNames _ c
  rw [show c.rx.syncFrac tick = some frac from hf, show c.rx.span (tick - 1024) 2048 = some span from hs]
  dsimp -zeta only
  extract_lets +onlyGivenNames idx
  rw [if_neg ready, if_neg (show ¬v.selfSync tick idx frac = true by rw [← hidx] at hnot; exact ne_true_of_eq_false hnot)]
  extract_lets +onlyGivenNames late u rssi u1 u2 sco u3 u4 t16 bad u5
  have hcont : (u5.chan ch).cont = none := by
    rw [State.chan_updChan_same, show u4 = (v.lateFreeze ch tick).showSync ch rssi idx frac (unsigned 16 sco) from rfl,
      State.chan_showSync]
    exact (v.cont_lateFreeze ch tick).trans hc
  rw [State.hearFrame_none hcont, ← hidx]
  exact ⟨rssi, unsigned 16 sco, 2 * t16 + b2n bad, rfl⟩

/-! FRAME_CONTROL_RX. -/

/-- A frame control in hand: no frame is received yet, and the channel listens. -/
structure State.FcWaits (s : State) (ch w : Nat) : Prop where
  word : (s.chan ch).fcWord = some w
  det : (s.chan ch).det = .inFrame
  cur : (s.chan ch).curFc = none
  listens : s.listens ch = true

/-- The idle point and the carrier sense of a channel follow a frame control that passes (R100, R244). -/
def State.senseFc (s : State) (ch idle : Nat) (sense : Option (Nat × Nat)) : State :=
  s.updChan ch (fun c => { c with idleSlot := idle, noPrs := false, sense := sense })

theorem State.chan_senseFc (s : State) (ch idle : Nat) (sense : Option (Nat × Nat)) :
    (s.senseFc ch idle sense).chan ch = { s.chan ch with idleSlot := idle, noPrs := false, sense := sense } := s.chan_updChan_same ch _

/-- Whose frames are taken turns on the channel's peers, on who is banned, and on the time. -/
theorem State.peerOk_congr {s t : State} {ch : Nat} (hp : (t.chan ch).peers = (s.chan ch).peers)
    (hb : (t.chan ch).banned = (s.chan ch).banned) (hg : t.grid = s.grid) (ht : t.tick = s.tick) (a : Nat) : t.peerOk ch a = s.peerOk ch a := by
  unfold State.peerOk State.isBanned
  rw [hp, hb, hg, ht]

theorem State.peerOk_senseFc (s : State) (ch idle : Nat) (sense : Option (Nat × Nat)) (a : Nat) :
    (s.senseFc ch idle sense).peerOk ch a = s.peerOk ch a := by
  have h := s.chan_senseFc ch idle sense
  exact State.peerOk_congr (s := s) (t := s.senseFc ch idle sense) (by rw [h]) (by rw [h]) rfl rfl a

theorem State.fcForeign_senseFc (s : State) (ch idle : Nat) (sense : Option (Nat × Nat)) (fc : FC) :
    (s.senseFc ch idle sense).fcForeign ch fc = s.fcForeign ch fc := by
  unfold State.fcForeign State.isBanned
  rw [State.chan_senseFc]
  rfl

/-- A failed frame control (R97): the reception is abandoned and the next priority signal not waited for. -/
theorem exec_frameControlRx_failed {s : State} {ch w : Nat} (h : s.FcWaits ch w) (hw : fcsOk w = false) (len : Nat) :
    ∃ i, exec (.frameControlRx ch len) s
      = .next (((s.updChan ch (fun c => { c with idleSlot := i, noPrs := true })).resetRx ch).bump .CHN_RX_FC_CNT_fc_crc_err ch) := by
  obtain ⟨hword, hdet, hcur, hlis⟩ := h
  show ∃ i, execFrameControlRx ch len s = _
  unfold execFrameControlRx
  dsimp only
  rw [hword]
  exact ⟨_, congrArg Host.Outcome.next ((if_neg (by simp [hdet, hcur, hlis])).trans (if_pos hw))⟩

/-- A frame control that passes: it is sensed, then it is foreign or taken (R100). -/
theorem exec_frameControlRx_passed {s : State} {ch w : Nat} (h : s.FcWaits ch w) (hw : fcsOk w = true) (len : Nat) :
    ∃ idle sense, exec (.frameControlRx ch len) s = .next (if s.fcForeign ch (fcParse w) = true then
      ((s.senseFc ch idle sense).resetRx ch).bump .CHN_RX_FC_CNT_fc_foreign ch
      else (s.senseFc ch idle sense).takeFc ch (fcParse w) len) := by
  obtain ⟨hword, hdet, hcur, hlis⟩ := h
  have foreign := fun idle sense => s.fcForeign_senseFc ch idle sense (fcParse w)
  unfold State.senseFc at foreign ⊢
  show ∃ idle sense, execFrameControlRx ch len s = _
  unfold execFrameControlRx
  dsimp only
  rw [hword]
  dsimp only
  rw [if_neg (by simp [hdet, hcur, hlis]), if_neg (by simp [hw]), foreign]
  exact ⟨_, _, rfl⟩

/-- The frame of a frame control is being received, its sender is among the peers, and the lock shows. -/
structure State.Receives (s : State) (ch : Nat) (fc : FC) : Prop where
  cur : (s.chan ch).curFc = some fc
  det : (s.chan ch).det = .inFrame
  idx : (s.chan ch).symIdx = 0
  peer : ∃ p ∈ (s.chan ch).peers, p.addr = fc.src
  lock : s.fld .CHN_OLA_LOCK_lock_valid ch = 1

/-- A lock that follows a frame shows (R194), and of the channel only the Hems since the last are counted anew. -/
theorem State.setLock_spec (s : State) (ch : Nat) (d : Int) : (s.setLock ch d).chan ch = { s.chan ch with lockHems := 0 } ∧
    (s.setLock ch d).fld .CHN_OLA_LOCK_lock_valid ch = 1 ∧ (s.setLock ch d).grid = s.grid ∧ (s.setLock ch d).tick = s.tick := by
  unfold State.setLock
  extract_lets +onlyGivenNames ok u v
  have hc : v.chan ch = { s.chan ch with lockHems := 0 } := State.chan_updChan_same ..
  have hf : v.fld .CHN_OLA_LOCK_lock_valid ch = 1 :=
    (State.fld_updChan ..).trans ((State.fld_setFlag ..).trans (if_pos ⟨rfl, rfl⟩))
  split
  · exact ⟨hc, hf, rfl, rfl⟩
  · exact ⟨hc, (State.fld_bump ..).trans ((if_neg (by simp)).trans hf), rfl, rfl⟩

theorem State.not_isBanned_of_peerOk {s : State} {ch a : Nat} (h : s.peerOk ch a = true) : s.isBanned ch a = false := by
  unfold State.peerOk at h
  simp only [Bool.and_eq_true, Bool.not_eq_true'] at h
  exact h.1

/-- A link that is established may ask for a state; registers and channels stay. -/
theorem State.establish_kept (s : State) (ch a : Nat) : (s.establish ch a).regs = s.regs ∧ (s.establish ch a).chans = s.chans := by
  unfold State.establish
  split <;> exact ⟨rfl, rfl⟩

/-- What a change of the first element that satisfies a predicate leaves of every element. -/
theorem map_updFirst {α β : Type} {f : α → α} {g : α → β} (h : ∀ a, g (f a) = g a) (p : α → Bool) (l : List α) :
    (updFirst p f l).map g = l.map g := by
  induction l with
  | nil => rfl
  | cons a l ih =>
    unfold updFirst
    split
    · simp [h]
    · simp [ih]

/-- The station heard is among the channel's peers. -/
theorem State.chan_notePeer (s : State) (ch a : Nat) : ∃ ps p, (s.notePeer ch a).chan ch
    = { s.chan ch with peers := ps ++ [p], rxHems := 0 } ∧ p.addr = a := by
  refine ⟨_, _, s.chan_updChan_same ch _, ?_⟩
  cases h : (s.chan ch).peers.find? (fun p => p.addr == a) with
  | none => rfl
  | some p => simpa using List.find?_some h

/-- A frame without a map of its own joins those being received. -/
theorem State.addFrame_unmapped (s : State) (ch : Nat) {fc : FC} (h : fcMapped fc = false) (len : Nat) :
    ∃ f, s.addFrame ch fc len = s.updChan ch (fun c => { c with rxq := c.rxq ++ [f] }) := by
  unfold State.addFrame
  simp only [h, Bool.false_and]
  exact ⟨_, rfl⟩

theorem State.Receives.joinFrame {s : State} {ch : Nat} {fc : FC} (h : s.Receives ch fc) (f : RxFrame) :
    (s.updChan ch (fun c => { c with rxq := c.rxq ++ [f] })).Receives ch fc := by
  obtain ⟨hcur, hdet, hidx, hpeer, hlock⟩ := h
  constructor
  case lock => exact hlock
  all_goals rw [State.chan_updChan_same]; assumption

/-- An ACK of a station whose frames are taken is received from then on. -/
theorem State.receives_takeFc_ack {s : State} {ch : Nat} {fc : FC} (hdet : (s.chan ch).det = .inFrame)
    (hp : s.peerOk ch fc.src = true) (ht : fc.typ = 1) (len : Nat) : (s.takeFc ch fc len).Receives ch fc := by
  have unmapped : fcMapped fc = false := by simp [fcMapped, ht]
  unfold State.takeFc
  extract_lets t d s1 s2 s3 s4 s5
  obtain ⟨hchan, hlock, hgrid, htick⟩ := s.setLock_spec ch d
  have e2 : s2 = s1 := if_neg (by simp [ht])
  have hs3 : s3.chan ch = { s.chan ch with lockHems := 0, curFc := some fc, fcWord := none, symIdx := 0 } := by
    show (s2.updChan ch _).chan ch = _
    rw [e2, State.chan_updChan_same, hchan]
  have ok : s3.peerOk ch fc.src = true := by
    refine (State.peerOk_congr (by rw [hs3]) (by rw [hs3]) ?_ ?_ _).trans hp
    · exact (congrArg State.grid e2).trans hgrid
    · exact (congrArg State.tick e2).trans htick
  obtain ⟨ps, p, hnote, haddr⟩ := s3.chan_notePeer ch fc.src
  obtain ⟨eregs, echans⟩ := (s3.notePeer ch fc.src).establish_kept ch fc.src
  have hs4 : s4.chan ch = { s3.chan ch with peers := ps ++ [p], rxHems := 0 } := by
    rw [State.chan, show s4.chans = _ from echans]
    exact hnote
  have r5 : s5.Receives ch fc := by
    constructor
    case lock =>
      have hregs : s2.regs = s1.regs := congrArg State.regs e2
      exact (State.fld_congr (eregs.trans hregs) _ _).trans hlock
    all_goals rw [State.chan_updChan_same, hs4, hs3]
    case det => exact hdet
    case peer =>
      have hm : fc.src ∈ (ps ++ [p]).map (·.addr) := by simp [haddr]
      rw [← map_updFirst (f := fun p => { p with delta := unsigned 18 d }) (fun _ => rfl) (fun p => p.addr == fc.src)] at hm
      obtain ⟨q, hq, e⟩ := List.mem_map.mp hm
      exact ⟨q, hq, e⟩
  rw [if_neg (by simp [State.not_isBanned_of_peerOk ok]), if_neg (by simp [ok])]
  split
  · exact r5
  · rw [if_neg (by simp [unmapped])]
    obtain ⟨f, hf⟩ := s5.addFrame_unmapped ch unmapped len
    rw [hf]
    exact r5.joinFrame f

/-! DETECTOR_REARM. -/

/-- The end of a frame, taken or dropped, arms the detector. -/
theorem exec_detectorRearm {s : State} {ch : Nat} (hd : (s.chan ch).det = .inFrame) :
    let u := s.reach (s.frameEnd ((s.chan ch).syncAt / 32) (((s.chan ch).curFc.map fcPayload).getD 0))
    ∃ t, exec (.detectorRearm ch) s = .next t ∧ (t = u.rearm ch ∨ t = u.resetRx ch) := by
  show ∃ t, execDetectorRearm ch s = .next t ∧ _
  unfold execDetectorRearm
  dsimp only
  rw [if_neg (by simp [hd])]
  cases h : (s.chan ch).curFc with
  | none => exact ⟨_, rfl, .inr rfl⟩
  | some fc => exact ⟨_, rfl, .inl rfl⟩

/-- Either way it is armed, with no frame in hand, and only `rx_busy` of the registers cleared. -/
theorem State.armed_spec {u t : State} {ch : Nat} (h : t = u.rearm ch ∨ t = u.resetRx ch) : (t.chan ch).det = .armed ∧
    (t.chan ch).curFc = none ∧ t.tick = u.tick ∧ t.fld .CHN_STATUS_rx_busy ch = 0 ∧ FldsKept [(.CHN_STATUS_rx_busy, ch)] u t := by
  rcases h with rfl | rfl
  · exact ⟨by rw [State.chan_rearm]; rfl, by rw [State.chan_rearm]; rfl, rfl, (u.fld_rearm ch _ _).trans (if_pos ⟨rfl, rfl⟩),
      FldsKept.of_rearmed (u.fld_rearm ch)⟩
  · exact ⟨u.det_resetRx ch, u.curFc_resetRx ch, rfl, (u.fld_resetRx ch _ _).trans (if_pos ⟨rfl, rfl⟩),
      FldsKept.of_rearmed (u.fld_resetRx ch)⟩

/-- Settles O36: each event as the operation it is, then what that leaves of the channel and of the registers. -/
theorem detectorFollowsTheFrame : Obligations.DetectorFollowsTheFrame := by
  unfold Obligations.DetectorFollowsTheFrame
  refine ⟨fun s ch tick w hw ha hl hd ht => ?trigger, fun s ch tick hdet hc hk hp => ?qualify, fun s ch h => ?fail,
    fun s ch tick frac span hf hs hd ht hl hc hself => ?sync, fun s ch w len hword hdet hcur hlis => ⟨?failed, ?foreign, ?ack⟩,
    fun s ch hd => ?rearm⟩
  case trigger =>
    obtain ⟨hregs, -, htick⟩ := (s.release tick).floorOf_kept ch
    obtain ⟨hbusy, hvalid, hcount, hkept⟩ := ((s.release tick).floorOf ch).2.detect_flds ch tick
    refine ⟨_, exec_energyTrigger hw ha hl hd ht, ?_, ?_, hbusy, hvalid, ?_, ?_, htick⟩
    · rw [State.chan_detect]
    · rw [State.chan_detect]
    · rw [hcount, State.fld_congr hregs]; rfl
    · exact ((FldsKept.refl _ s).congr hregs).trans hkept
  case qualify =>
    refine ⟨_, exec_qualifierPass hdet hc hk hp, ?_⟩
    dsimp only
    split
    · next h =>
      obtain ⟨g, n, x, e⟩ := State.freezeAgc_chan ((s.release tick).updChan ch (fun c => { c with det := .qualified, detAt := tick })) ch
        ((s.agcGains ch tick).headD 0)
      rw [e, State.chan_updChan_same]
      exact ⟨rfl, rfl, fun _ => rfl, rfl⟩
    · next h =>
      rw [State.chan_updChan_same]
      exact ⟨rfl, rfl, fun settled => Bool.eq_true_of_not_eq_false fun hz => h ⟨settled, hz⟩, rfl⟩
  case fail =>
    obtain ⟨n, hn⟩ := exec_qualFail h
    exact ⟨_, hn, (s.release n).abandoned_spec ch (by decide)⟩
  case sync =>
    obtain ⟨rssi, sco, at_, hexec⟩ := exec_syncPoint hf hs hd ht hl hc hself
    have hregs := (s.release (tick + 1023)).regs_lateFreeze ch tick
    generalize (s.release (tick + 1023)).lateFreeze ch tick = u at hexec hregs
    obtain ⟨hoff, hfrac, hsync, hsco, hrssi⟩ := u.fld_showSync ch rssi (tick - s.slotTick (s.slotAt tick)) frac sco
    refine ⟨_, hexec, ?_, ?_, ?_⟩
    · rw [State.enterFrame, State.chan_updChan_same]
    · rw [State.enterFrame, State.chan_updChan_same]
    · simp only [State.fld_enterFrame]
      exact ⟨hoff, hfrac, hsync, hsco, hrssi, (((FldsKept.refl _ s).congr hregs).trans (u.showSync_kept ch _ _ _ _)).congr rfl⟩
  case failed =>
    intro hw
    obtain ⟨i, hi⟩ := exec_frameControlRx_failed ⟨hword, hdet, hcur, hlis⟩ hw len
    obtain ⟨harmed, -, hcount, -⟩ := State.abandoned_spec (s.updChan ch (fun c => { c with idleSlot := i, noPrs := true })) ch
      (F := .CHN_RX_FC_CNT_fc_crc_err) (by decide)
    refine ⟨_, hi, harmed, ?_, hcount⟩
    rw [State.chan_bump, State.noPrs_resetRx, State.chan_updChan_same]
  case foreign =>
    intro hw hforeign
    obtain ⟨i, x, hi⟩ := exec_frameControlRx_passed ⟨hword, hdet, hcur, hlis⟩ hw len
    obtain ⟨harmed, -, hcount, -⟩ := (s.senseFc ch i x).abandoned_spec ch (F := .CHN_RX_FC_CNT_fc_foreign) (by decide)
    exact ⟨_, hi.trans (congrArg _ (if_pos hforeign)), harmed, hcount⟩
  case ack =>
    intro hw hforeign hpeer htyp
    obtain ⟨i, x, hi⟩ := exec_frameControlRx_passed ⟨hword, hdet, hcur, hlis⟩ hw len
    obtain ⟨rcur, rdet, ridx, rpeer, rlock⟩ := State.receives_takeFc_ack (s := s.senseFc ch i x) (by rw [State.chan_senseFc]; exact hdet)
      ((s.peerOk_senseFc ..).trans hpeer) htyp len
    exact ⟨_, hi.trans (congrArg _ (if_neg (by simp [hforeign]))), rcur, rdet, ridx, rpeer, rlock⟩
  case rearm =>
    obtain ⟨t, hexec, ht⟩ := exec_detectorRearm hd
    obtain ⟨harmed, hcur, htick, hbusy, hkept⟩ := State.armed_spec ht
    exact ⟨t, hexec, harmed, hcur, htick, hbusy, ((FldsKept.refl _ s).congr rfl).trans hkept⟩

end Sys2Proof.Machine
end

section
/-! SUPPORT. Failures of Bobbins, memory, pipes, decoder units and host ports (R120, R152, R404, R444, R447, R455, R457, R458,
R537). -/

namespace Sys2Proof.Machine

/-! Changes asked for. -/

/-- Changes asked for at the next slot boundary, in order. -/
def State.askAll (s : State) (l : List SlotChange) : State := { s with grid := { s.grid with changes := s.grid.changes ++ l } }

theorem State.askAll_nil (s : State) : s.askAll [] = s := by
  unfold State.askAll
  rw [List.append_nil]

theorem State.askAll_request (s : State) (c : SlotChange) (l : List SlotChange) : (s.request c).askAll l = s.askAll (c :: l) := by
  unfold State.askAll State.request
  simp

/-- What a state asked for of one channel means for the state another is to have: nothing. -/
theorem State.effState_requestState_ne (s : State) {x ch : Nat} (h : x ≠ ch) (st cause : Nat) :
    (s.requestState x st cause).effState ch = s.effState ch := by
  unfold State.requestState State.request State.effState
  rw [List.foldl_append]
  exact if_neg h

/-- Features asked for mean nothing for the state a channel is to have. -/
theorem State.effState_offers (s : State) (l : List Nat) (ch : Nat) : (s.askAll (l.map .offer)).effState ch = s.effState ch := by
  unfold State.askAll State.effState
  rw [List.foldl_append, List.foldl_map]
  induction l with
  | nil => rfl
  | cons b l ih => exact ih

/-- A state asked for of every channel that is not passed over: each of these is among the changes. -/
theorem foldl_requestState {skip : State → Nat → Prop} [∀ s ch, Decidable (skip s ch)] {st cause : Nat}
    (hskip : ∀ (s : State) (x ch : Nat), x ≠ ch → (skip (s.requestState x st cause) ch ↔ skip s ch)) (l : List Nat) (s : State) :
    ∃ cs : List SlotChange, l.foldl (fun s ch => if skip s ch then s else s.requestState ch st cause) s = s.askAll cs ∧
      ∀ ch ∈ l, ¬skip s ch → .state ch st cause ∈ cs := by
  induction l generalizing s with
  | nil => exact ⟨[], s.askAll_nil.symm, by simp⟩
  | cons x l ih =>
    rw [List.foldl_cons]
    by_cases hx : skip s x
    · obtain ⟨cs, hfold, hcs⟩ := ih s
      refine ⟨cs, by rw [if_pos hx, hfold], fun ch hch hn => hcs ch ((List.mem_cons.mp hch).resolve_left ?_) hn⟩
      rintro rfl
      exact hn hx
    · obtain ⟨cs, hfold, hcs⟩ := ih (s.requestState x st cause)
      refine ⟨.state x st cause :: cs, by rw [if_neg hx, hfold]; exact s.askAll_request .., fun ch hch hn => ?_⟩
      by_cases hxc : x = ch
      · rw [hxc]; exact List.mem_cons_self
      · exact List.mem_cons_of_mem _ (hcs ch ((List.mem_cons.mp hch).resolve_left (Ne.symm hxc)) (mt (hskip s x ch hxc).mp hn))

/-! Fences and events. -/

/-- Fencing a unit off leaves the registers, the grid, the pattern and the host's state. -/
theorem State.fence_kept (s : State) (typ idx : Nat) : (s.fence typ idx).regs = s.regs ∧ (s.fence typ idx).grid = s.grid ∧
    (s.fence typ idx).pat = s.pat ∧ (s.fence typ idx).host = s.host := by
  unfold State.fence
  split <;> exact ⟨rfl, rfl, rfl, rfl⟩

theorem State.log_bob (s : State) (code panel inst data : Nat) : (s.log code panel inst data).bob = s.bob := by
  have h := congrArg State.bob (s.log_kept code panel inst data).rest; simpa using h

/-- An event may stage an entry; the Hem's count of reads, the spare blocks and the flash stay. -/
theorem State.log_hbm (s : State) (code panel inst data : Nat) : (s.log code panel inst data).hbm.ueHem = s.hbm.ueHem ∧
    (s.log code panel inst data).hbm.spares = s.hbm.spares ∧ (s.log code panel inst data).hbm.flash = s.hbm.flash := by
  rw [← (s.log_kept code panel inst data).hbm]
  exact ⟨rfl, rfl, rfl⟩

/-- An event raised changes fields of the log. -/
theorem FldsKept.log {fs : List (Fld × Nat)} {s t : State} (h : FldsKept (fs ++ logFlds) s t) (code panel inst data : Nat) :
    FldsKept (fs ++ logFlds) s (t.log code panel inst data) :=
  h.trans ((t.log_kept code panel inst data).flds.mono fun _ hx => List.mem_append_right fs hx)

/-! Bobbins. -/

theorem State.bobbin_setBob (s : State) (b x : Nat) (y : Bob) : (s.setBob b y).bobbin x = if x = b then y else s.bobbin x := by
  show tget {} x (tput {} b y s.bob.bobs) = _
  split
  · next h => rw [h]; exact tget_tput_same ..
  · next h => exact tget_tput_ne h ..

theorem State.setBob_flds (s : State) (b : Nat) (x : Bob) :
    FldsKept [(.BOB_STATUS_working, 0), (.BOB_STATUS_spares, 0)] s (s.setBob b x) :=
  ((FldsKept.refl _ s).congr rfl).trans (State.showBobs_flds _)

theorem exec_bobbinFault {s : State} {b : Nat} (hb : b ≤ 255) (h : (s.bobbin b).fault = false) (cause : Nat) :
    exec (.bobbinFault b cause) s = .next (s.setBob b { s.bobbin b with fencing := some cause }) :=
  congrArg Host.Outcome.next (if_neg (by simp [h, hb]))

/-- The move of a Bobbin's item is taken up. -/
def State.takeMove (s : State) (b : Nat) : State := { s with bob := { s.bob with moves := s.bob.moves.erase b } }

theorem exec_bobMove {s : State} {b n : Nat} (hm : s.bob.moves.contains b = true) (hn : s.spare = some n) :
    exec (.bobMove b) s = .next ((((s.takeMove b).setBob n
      { s.bobbin n with role := (s.bobbin b).role, share := (s.bobbin b).share, owner := (s.bobbin b).owner }).setBob b
      { s.bobbin b with role := 0, share := false, owner := [] }).log 0x4202 noPanel b n) := by
  show execBobMove b s = _
  unfold execBobMove
  rw [if_pos hm]
  extract_lets +onlyGivenNames x _ u
  rw [show u.spare = some n from hn]
  rfl

/-! Queries. -/

theorem exec_hbmQuery {s : State} {c : Cmd} {r : Resp} (h : s.Takes c) (hr : opHbmQuery c.pnl s = (s, some r)) :
    exec (.hbmQuery c) s = .next (s.answer c 0x5001 r) := by
  show Host.Outcome.next (ohi s c 0x5001 (opHbmQuery c.pnl s)) = _
  rw [hr, ohi_takes h]

theorem exec_bobQuery {s : State} {c : Cmd} {b : Nat} (h : s.Takes c) (hb : b ≤ 255) :
    exec (.bobQuery c b) s = .next (s.answer c 0x4201 (if c.pnl = 0 then ⟨.ok, le 4 (s.bobWord b)⟩ else rsp .denied)) := by
  show Host.Outcome.next (ohi s c 0x4201 (opBobQuery c.pnl b s)) = _
  unfold opBobQuery
  rw [if_neg (by omega), ite_not]
  split
  · rw [ohi_takes h]
  · exact congrArg _ (ohi_takes h)

/-! Stacked memory. -/

/-- Stacked memory fenced off, narrow service offered (R537). -/
def State.memLost (s : State) : State :=
  (s.setFlag .HBM_STATUS_fenced 0 true).setFld .FEAT_OFFER_offer 0 (setBit (s.fld .FEAT_OFFER_offer 0) 14 true)

theorem State.memLost_flds (s : State) : s.memLost.fld .HBM_STATUS_fenced 0 = 1 ∧ bit (s.memLost.fld .FEAT_OFFER_offer 0) 14 = true ∧
    FldsKept [(.HBM_STATUS_fenced, 0), (.FEAT_OFFER_offer, 0)] s s.memLost := by
  refine ⟨?_, ?_, ((FldsKept.refl _ s).setFlag _ (by simp)).setFld _ (by simp)⟩
  · rw [State.memLost, State.fld_setFld_ne _ _ (by simp), State.fld_setFlag, if_pos ⟨rfl, rfl⟩]; rfl
  · rw [State.memLost, State.fld_setFld_same, bit, Nat.testBit_mod_two_pow, setBit, if_pos rfl, Nat.testBit_or, Nat.testBit_two_pow_self,
      Bool.or_true, Bool.and_true]
    exact decide_eq_true (by decide)

theorem foldl_offers {s : State} (h : s.grid.running = true) (l : List Nat) :
    l.foldl (fun s b => if s.grid.running then s.request (.offer b) else s.dropFeature b) s = s.askAll (l.map .offer) := by
  induction l generalizing s with
  | nil => exact s.askAll_nil.symm
  | cons b l ih =>
    rw [List.foldl_cons, if_pos h, ih (s := s.request (.offer b)) h]
    exact s.askAll_request ..

theorem State.effState_memLost (s : State) (ch : Nat) : s.memLost.effState ch = s.effState ch := by
  have h : s.memLost.chState ch = s.chState ch := s.memLost_flds.2.2 _ _ (by simp)
  unfold State.effState
  rw [h]; rfl

/-- MEM_FENCE while the grid runs: the features go, and every channel that is not OFF is asked to go there. -/
theorem exec_memFence {s : State} (hf : s.flag .HBM_STATUS_fenced 0 = false) (hr : s.grid.running = true) :
    ∃ l : List SlotChange, exec .memFence s = .next ((s.memLost.askAll (memFeatures.map .offer)).askAll l) ∧
      ∀ ch : Nat, ch < 192 → s.effState ch ≠ chOff → .state ch chOff 0 ∈ l := by
  obtain ⟨l, hfold, hl⟩ := foldl_requestState (skip := fun s ch => s.effState ch = chOff) (st := chOff) (cause := 0)
    (fun s x ch h => by rw [s.effState_requestState_ne h]) (List.range 192) (s.memLost.askAll (memFeatures.map .offer))
  refine ⟨l, ?_, fun ch hch hne => hl ch (List.mem_range.mpr hch) ?_⟩
  · show Host.Outcome.next s.memFail = _
    unfold State.memFail
    rw [if_neg (by simp [hf])]
    refine congrArg Host.Outcome.next (Eq.trans ?_ hfold)
    exact congrArg (forAll (List.range 192) _) (foldl_offers (s := s.memLost) hr memFeatures)
  · rwa [State.effState_offers, State.effState_memLost]

/-- An uncorrectable read of the endpoint table that is not the 16th of its Hem (R447). -/
theorem exec_hbmUe_endpoint {s : State} (hm : s.memUp = true) (hn : s.hbm.ueHem < 15) (a : Nat) :
    let u := (s.bump .HBM_ECC_CNT_ue 0).log 0x5001 noPanel noInst a
    exec (.hbmUe a 2) s = .next (({ u with hbm := { u.hbm with ueHem := u.hbm.ueHem + 1 } } : State).bump .DLV_EP_CNT_ep_unknown 0) ∧
      u.hbm.ueHem = s.hbm.ueHem := by
  intro u
  have hu : u.hbm.ueHem = s.hbm.ueHem := (State.log_hbm (s.bump .HBM_ECC_CNT_ue 0) ..).1
  exact ⟨congrArg Host.Outcome.next ((if_neg (by simp [hm])).trans (if_neg (show ¬16 ≤ u.hbm.ueHem + 1 by omega))), hu⟩

/-- A pseudo-channel stamped with the time of its recalibration. -/
def State.stampCal (s : State) (pc : Nat) : State := { s with hbm := { s.hbm with calAt := tput 0 pc s.tick s.hbm.calAt } }

/-- A recalibration is late two periods after the one before (R455). -/
abbrev State.calLate (s : State) (pc : Nat) : Prop := tget 0 pc s.hbm.calAt + 2 * s.fld .HBM_SCRUB_CFG_cal_s 0 * 200000000 < s.tick

theorem exec_hbmRecalibration {s : State} {pc : Nat} (hp : pc ≤ 127) (hm : s.memUp = true) :
    exec (.hbmRecalibration pc) s
      = .next (if s.calLate pc then (s.stampCal pc).bump .HBM_MISC_CNT_cal_late 0 else s.stampCal pc) := by
  show execHbmRecalibration pc s = _
  rw [execHbmRecalibration, if_neg (by simp [hp, hm])]
  rfl

/-- What a recalibration leaves: the stamp, and one more late one where it was late. -/
theorem hbmRecalibration_spec {s : State} {pc : Nat} (hp : pc ≤ 127) (hm : s.memUp = true) :
    ∃ t : State, exec (.hbmRecalibration pc) s = .next t ∧ tget 0 pc t.hbm.calAt = s.tick ∧
      t.fld .HBM_MISC_CNT_cal_late 0
        = (if s.calLate pc then min (s.fld .HBM_MISC_CNT_cal_late 0 + 1) 255 else s.fld .HBM_MISC_CNT_cal_late 0) ∧
      FldsKept [(.HBM_MISC_CNT_cal_late, 0)] s t := by
  have kept : FldsKept [(.HBM_MISC_CNT_cal_late, 0)] s (s.stampCal pc) := (FldsKept.refl _ s).congr rfl
  refine ⟨_, exec_hbmRecalibration hp hm, ?_⟩
  by_cases late : s.calLate pc
  · rw [if_pos late, if_pos late]
    exact ⟨tget_tput_same .., (State.fld_bump ..).trans (if_pos ⟨rfl, rfl⟩), kept.bump (by simp)⟩
  · rw [if_neg late, if_neg late]
    exact ⟨tget_tput_same .., rfl, kept⟩

theorem exec_logFlashWrite_short {s : State} (h : s.hbm.staged.length < logChunk) (ok : Bool) : exec (.logFlashWrite ok) s = .next s :=
  congrArg Host.Outcome.next (if_pos (.inr h))

theorem exec_logFlashWrite {s : State} (hs : s.ldr.storing = none) (h : logChunk ≤ s.hbm.staged.length) (ok : Bool) :
    exec (.logFlashWrite ok) s = .next (s.flashLog logChunk ok) := by
  show execLogFlashWrite ok s = _
  rw [execLogFlashWrite, if_neg (not_or.mpr ⟨by simp [hs], Nat.not_lt.mpr h⟩)]

/-- A flash write moves staged entries behind those in flash, the oldest of which go (R456, R457). -/
theorem State.flashLog_written (s : State) (n : Nat) : ∃ k : Nat, (s.flashLog n true).hbm.staged = s.hbm.staged.drop n ∧
    (s.flashLog n true).hbm.flash = (s.hbm.flash ++ s.hbm.staged.take n).drop k ∧
    (s.flashLog n true).hbm.erases = s.hbm.erases + 1 ∧ (s.flashLog n true).regs = s.regs := by
  unfold State.flashLog
  rw [if_pos rfl]
  dsimp only
  exact ⟨_, rfl, rfl, rfl, rfl⟩

/-- A flash write that fails retires its block (R456, R457). -/
theorem State.flashLog_failed (s : State) (n : Nat) : (s.flashLog n false).hbm.spares = s.hbm.spares + 1 ∧
    (s.flashLog n false).hbm.flash = s.hbm.flash ∧
    (s.flashLog n false).fld .HBM_MISC_CNT_retired 0 = min 4095 (s.fld .HBM_MISC_CNT_retired 0 + 1) ∧
    FldsKept ((.HBM_MISC_CNT_retired, 0) :: logFlds) s (s.flashLog n false) := by
  unfold State.flashLog
  rw [if_neg Bool.false_ne_true]
  refine ⟨(State.log_hbm ..).2.1, (State.log_hbm ..).2.2, ?_, ?_⟩
  · refine (State.fld_log _ _ _ _ _ (by decide)).trans ((State.fld_setFld_same ..).trans (Nat.mod_eq_of_lt ?_))
    show min 4095 _ < 4096
    omega
  · refine FldsKept.log (fs := [(.HBM_MISC_CNT_retired, 0)]) (FldsKept.setFld ?_ _ (by simp)) _ _ _ _
    exact (FldsKept.refl _ s).congr rfl

/-! Pipes. -/

/-- PIPE_FENCE: the pipe shows as fenced, and its channels with an item that are not OFF are asked to go to FAULT. -/
theorem exec_pipeFence {s : State} {p : Nat} (hp : p ≤ 23) :
    ∃ l : List SlotChange, exec (.pipeFence p) s = .next (((s.setFlag .PIPE_STATUS_fenced p true).fence blkPipe p).askAll l) ∧
      ∀ ch : Nat, 8 * p ≤ ch → ch < 8 * p + 8 → s.effState ch ≠ chOff → (s.chanItem ch).isSome = true → .state ch chFault 5 ∈ l := by
  obtain ⟨hregs, hgrid, hpat, -⟩ := (s.setFlag .PIPE_STATUS_fenced p true).fence_kept blkPipe p
  obtain ⟨l, hfold, hl⟩ := foldl_requestState (skip := fun s ch => s.effState ch = chOff ∨ (s.chanItem ch).isNone = true)
    (st := chFault) (cause := 5) (fun s x ch h => by rw [s.effState_requestState_ne h]; rfl) ((List.range 8).map (· + 8 * p))
    ((s.setFlag .PIPE_STATUS_fenced p true).fence blkPipe p)
  refine ⟨l, congrArg Host.Outcome.next ((if_neg (by omega)).trans hfold), fun ch hlo hhi hne hitem => hl ch ?_ ?_⟩
  · exact List.mem_map.mpr ⟨ch - 8 * p, List.mem_range.mpr (by omega), by omega⟩
  · have heff : ((s.setFlag .PIPE_STATUS_fenced p true).fence blkPipe p).effState ch = s.effState ch := by
      unfold State.effState State.chState
      rw [State.fld_congr hregs, hgrid, State.fld_setFlag, if_neg (by simp)]
      rfl
    have hsame : ((s.setFlag .PIPE_STATUS_fenced p true).fence blkPipe p).chanItem ch = s.chanItem ch := by
      unfold State.chanItem
      rw [hpat]
      rfl
    rw [heff, hsame]
    exact not_or.mpr ⟨hne, ne_true_of_eq_false (Option.isNone_eq_false_iff.mpr hitem)⟩

/-! Host ports. -/

/-- A port listed as failed. -/
def State.failPort (s : State) (p : Nat) : State := { s with host := { s.host with failed := s.host.failed ++ [p] } }

/-- A port shown without link (R404). -/
def State.portDown (s : State) (p : Nat) : State :=
  ((s.setFlag .HST_PORT_STATUS_link_up p false).setFlag .HST_PORT_STATUS_fec_lock p false).setFlag .HST_PORT_STATUS_an_done p false

theorem State.portDown_flds (s : State) (p : Nat) : (s.portDown p).linkUp p = false ∧
    FldsKept [(.HST_PORT_STATUS_link_up, p), (.HST_PORT_STATUS_fec_lock, p), (.HST_PORT_STATUS_an_done, p)] s (s.portDown p) := by
  refine ⟨?_, (((FldsKept.refl _ s).setFlag _ (by simp)).setFlag _ (by simp)).setFlag _ (by simp)⟩
  simp [State.portDown, State.linkUp, State.flag, State.fld_setFlag, b2n]

/-- HOST_PORT_FAIL of a port that works, while the grid runs. -/
theorem exec_hostPortFail {s : State} {p : Nat} (hp : p ≤ 1) (hf : s.host.failed.contains p = false) (hr : s.grid.running = true) :
    exec (.hostPortFail p) s = .next ((((s.failPort p).fence blkHost p).portDown p).request (.offer 11)) := by
  refine congrArg Host.Outcome.next ((if_neg (not_or.mpr ⟨Nat.not_lt.mpr hp, ne_true_of_eq_false hf⟩)).trans (if_pos ?_))
  show (State.fence _ blkHost p).grid.running = true
  rw [(State.fence_kept _ blkHost p).2.1]
  exact hr

/-- Settles O51: each command as the operation it is, then that operation's frame. -/
theorem failedUnitsAreTakenAway : Obligations.FailedUnitsAreTakenAway := by
  unfold Obligations.FailedUnitsAreTakenAway
  refine ⟨fun s b cause => ⟨fun h => congrArg Host.Outcome.next (if_pos (.inr h)), fun hb h => ?fault⟩,
    fun s b => ⟨fun h => congrArg Host.Outcome.next (if_neg (ne_true_of_eq_false h)), fun n hm hn hne => ?move⟩,
    fun s c h => ⟨fun hp => exec_hbmQuery h (if_pos hp), fun hp hn => exec_hbmQuery h ((if_neg (not_not.mpr hp)).trans (if_pos hn)),
      fun hp hn => ?query, fun b hb => exec_bobQuery h hb⟩,
    fun s => ⟨fun h => congrArg Host.Outcome.next (if_pos h), fun hf hr => ?memory⟩,
    fun s a => ⟨fun h k => congrArg Host.Outcome.next (if_pos h), fun hm hn => ?read⟩, fun s pc hp hm => hbmRecalibration_spec hp hm,
    fun s => ⟨fun h ok => exec_logFlashWrite_short h ok, fun hs h => ⟨?written, ?retired⟩⟩,
    fun s p => ⟨fun hp => congrArg Host.Outcome.next (if_pos hp), fun hp => ?pipe⟩, fun s pool unit hp hu => ?decoder,
    fun s p hp => ⟨fun h => congrArg Host.Outcome.next (if_pos (.inr h)), fun hf hr => ?port⟩⟩
  case fault =>
    refine ⟨_, exec_bobbinFault hb h cause, ?_, fun x hx => ?_, s.setBob_flds b _⟩
    · rw [State.bobbin_setBob, if_pos rfl]
    · rw [State.bobbin_setBob, if_neg hx]
  case move =>
    refine ⟨_, exec_bobMove hm hn, ?_, ?_, ?_, ?_⟩
    · rw [State.bobbin, State.log_bob]
      exact (State.bobbin_setBob ..).trans ((if_neg hne).trans ((State.bobbin_setBob ..).trans (if_pos rfl)))
    · rw [State.bobbin, State.log_bob]
      exact (State.bobbin_setBob ..).trans (if_pos rfl)
    · rw [State.log_bob]; rfl
    · refine FldsKept.log (FldsKept.mono ?_ fun _ hx => List.mem_append_left logFlds hx) _ _ _ _
      exact ((FldsKept.refl _ s).congr rfl).trans ((State.setBob_flds _ n _).trans (State.setBob_flds _ b _))
  case query =>
    refine exec_hbmQuery h ((if_neg (not_not.mpr hp)).trans ((if_neg (ne_true_of_eq_false hn)).trans ?_))
    simp
  case memory =>
    obtain ⟨l, hexec, hl⟩ := exec_memFence hf hr
    obtain ⟨hfenced, hoffer, hflds⟩ := s.memLost_flds
    exact ⟨_, l, hexec, hfenced, hoffer, rfl, hl, hflds.congr rfl⟩
  case read =>
    obtain ⟨hexec, hue⟩ := exec_hbmUe_endpoint hm hn a
    refine ⟨_, hexec, congrArg (· + 1) hue, ?_, ?_, ?_⟩
    · rw [State.fld_bump, if_neg (by simp)]
      exact (State.fld_log _ _ _ _ _ (by decide)).trans ((State.fld_bump ..).trans (if_pos ⟨rfl, rfl⟩))
    · rw [State.fld_bump, if_pos ⟨rfl, rfl⟩]
      refine congrArg (fun m => min (m + 1) _) ((State.fld_log _ _ _ _ _ (by decide)).trans ?_)
      exact (State.fld_bump ..).trans (if_neg (by simp))
    · exact FldsKept.bump (FldsKept.congr (FldsKept.log (fs := [(.HBM_ECC_CNT_ue, 0), (.DLV_EP_CNT_ep_unknown, 0)])
        ((FldsKept.refl _ s).bump (by simp)) _ _ _ _) rfl) (by simp)
  case written =>
    obtain ⟨k, hstaged, hflash, herases, hregs⟩ := s.flashLog_written logChunk
    exact ⟨_, k, exec_logFlashWrite hs h true, hstaged, hflash, herases, hregs⟩
  case retired =>
    exact ⟨_, exec_logFlashWrite hs h false, s.flashLog_failed logChunk⟩
  case pipe =>
    obtain ⟨l, hexec, hl⟩ := exec_pipeFence (s := s) hp
    obtain ⟨hregs, hgrid, -, -⟩ := (s.setFlag .PIPE_STATUS_fenced p true).fence_kept blkPipe p
    refine ⟨_, l, hexec, ?_, congrArg (fun g : GridSt => g.changes ++ l) hgrid, hl, ((FldsKept.refl _ s).setFlag _ (by simp)).congr hregs⟩
    exact (State.fld_congr (t := State.askAll _ l) hregs _ _).trans ((State.fld_setFlag ..).trans (if_pos ⟨rfl, rfl⟩))
  case decoder =>
    refine congrArg Host.Outcome.next ?_
    by_cases hf : s.isFenced (blkVit + pool) unit = true
    · rw [if_pos (.inr (.inr hf)), if_pos hf]
    · rw [if_neg (not_or.mpr ⟨Nat.not_lt.mpr hp, not_or.mpr ⟨Nat.not_lt.mpr hu, hf⟩⟩), if_neg hf]
  case port =>
    obtain ⟨hregs, hgrid, -, hhost⟩ := (s.failPort p).fence_kept blkHost p
    obtain ⟨hlink, hflds⟩ := ((s.failPort p).fence blkHost p).portDown_flds p
    exact ⟨_, exec_hostPortFail hp hf hr, hlink, congrArg HostSt.failed hhost,
      congrArg (fun g : GridSt => g.changes ++ [.offer 11]) hgrid, ((FldsKept.refl _ s).congr hregs).trans hflds⟩

end Sys2Proof.Machine
end

section
/-! SUPPORT. The TONEMAP messages received (R163 to R170): what each does once it is read. -/

namespace Sys2Proof.Machine

/-! The row of an operation takes the messages of that operation. -/

theorem exec_mapRx {m : List Byte} (h : msgOp m = 1) (ch src : Nat) (s : State) :
    exec (.mapRx ch src m) s = .next (s.tmMessage ch src m) := congrArg Host.Outcome.next (if_pos h)

theorem exec_soundReqRx {m : List Byte} (h : msgOp m = 2) (ch src : Nat) (s : State) :
    exec (.soundReqRx ch src m) s = .next (s.tmMessage ch src m) := congrArg Host.Outcome.next (if_pos h)

theorem exec_invalidateAllRx {m : List Byte} (h : msgOp m = 3) (ch src : Nat) (s : State) :
    exec (.invalidateAllRx ch src m) s = .next (s.tmMessage ch src m) := congrArg Host.Outcome.next (if_pos h)

theorem exec_fallbackRx {m : List Byte} (h : msgOp m = 4) (ch src : Nat) (s : State) :
    exec (.fallbackRx ch src m) s = .next (s.tmMessage ch src m) := congrArg Host.Outcome.next (if_pos h)

theorem exec_mapNakRx {m : List Byte} (h : msgOp m = 5) (ch src : Nat) (s : State) :
    exec (.mapNakRx ch src m) s = .next (s.tmMessage ch src m) := congrArg Host.Outcome.next (if_pos h)

/-! What a message read does. -/

section
variable {s : State} {ch : Nat} {m : List Byte} {i n caps robo : Nat} {x : Option ToneMap}

/-- A message that fails its checks is counted. -/
theorem State.tmMessage_bad (h : tmRead (s.dCount ch) (s.inForce 3) m = .bad) (src : Nat) :
    s.tmMessage ch src m = s.bump .CHN_TM_CNT_tm_reject ch := by
  unfold State.tmMessage
  rw [h]

theorem State.tmMessage_map {y : ToneMap} (h : tmRead (s.dCount ch) (s.inForce 3) m = .ok 1 i n caps robo (some y)) (src : Nat) :
    s.tmMessage ch src m = s.acceptMap ch i y := by
  unfold State.tmMessage
  rw [h]
  rfl

theorem State.tmMessage_soundReq (h : tmRead (s.dCount ch) (s.inForce 3) m = .ok 2 i n caps robo x) (src : Nat) :
    s.tmMessage ch src m = s.setChan ch { s.chan ch with soundOwe := some n, partnerCaps := caps } := by
  unfold State.tmMessage
  rw [h]
  rfl

theorem State.tmMessage_invalidateAll (h : tmRead (s.dCount ch) (s.inForce 3) m = .ok 3 i n caps robo x) (src : Nat) :
    s.tmMessage ch src m = s.invalidate ch 2 false := by
  unfold State.tmMessage
  rw [h]
  rfl

theorem State.tmMessage_fallback (h : tmRead (s.dCount ch) (s.inForce 3) m = .ok 4 i n caps robo x) (src : Nat) :
    s.tmMessage ch src m = s.setChan ch { s.chan ch with
      tmDue := (s.chan ch).tmDue ++ [{ slot := s.boundaryAfter (s.chan ch).rxEnd 8, robo := robo }]
      soundOwe := some n, partnerCaps := caps } := by
  unfold State.tmMessage
  rw [h]
  rfl

/-- A receive map is dropped, and the valid maps are shown without it. -/
def State.dropRxMap (s : State) (ch i : Nat) : State :=
  (s.updChan ch (fun c => { c with rxMaps := tdel i c.rxMaps })).syncMaps ch

theorem State.tmMessage_mapNak (h : tmRead (s.dCount ch) (s.inForce 3) m = .ok 5 i n caps robo x) (src : Nat) :
    s.tmMessage ch src m = ((s.dropRxMap ch i).bump .CHN_TM_CNT_tm_reject ch).renewMap ch
      (((tfind i (s.chan ch).rxMaps).map (·.use)).getD 0) := by
  unfold State.tmMessage
  rw [h]
  rfl

end

/-! Showing the valid maps. -/

/-- The fields that show the valid maps. -/
def mapFlds (ch : Nat) : List (Fld × Nat) := [(.CHN_TM_STATUS_rx_valid, ch), (.CHN_TM_STATUS_tx_valid, ch)]

@[simp] theorem State.chan_syncMaps (s : State) (ch x : Nat) : (s.syncMaps ch).chan x = s.chan x := rfl

theorem State.syncMaps_flds (s : State) (ch : Nat) : FldsKept (mapFlds ch) s (s.syncMaps ch) :=
  ((FldsKept.refl _ s).setFld _ (by simp [mapFlds])).setFld _ (by simp [mapFlds])

theorem State.chan_dropRxMap (s : State) (ch i : Nat) :
    (s.dropRxMap ch i).chan ch = { s.chan ch with rxMaps := tdel i (s.chan ch).rxMaps } := by
  rw [State.dropRxMap, State.chan_syncMaps, State.chan_updChan_same]

theorem State.dropRxMap_flds (s : State) (ch i : Nat) : FldsKept (mapFlds ch) s (s.dropRxMap ch i) :=
  ((FldsKept.refl _ s).congr rfl).trans (State.syncMaps_flds _ ch)

/-- Settles O40: the row of each operation runs the message, and the message does what it was read as. -/
theorem toneMapMessagesAreObeyed : Obligations.ToneMapMessagesAreObeyed := by
  intro s ch src m r k
  refine ⟨fun h => ⟨fun ho => ?_, fun ho => ?_, fun ho => ?_, fun ho => ?_, fun ho => ?_⟩, fun i n caps robo x ho h => ?map,
    fun i n caps robo x ho h => ?soundReq, fun i n caps robo x ho h => ?invalidateAll, fun i n caps robo x ho h => ?fallback,
    fun i n caps robo x ho h => ?mapNak⟩
  · rw [exec_mapRx ho, State.tmMessage_bad h]
  · rw [exec_soundReqRx ho, State.tmMessage_bad h]
  · rw [exec_invalidateAllRx ho, State.tmMessage_bad h]
  · rw [exec_fallbackRx ho, State.tmMessage_bad h]
  · rw [exec_mapNakRx ho, State.tmMessage_bad h]
  case map => rw [exec_mapRx ho, State.tmMessage_map h]; rfl
  case soundReq => rw [exec_soundReqRx ho, State.tmMessage_soundReq h]
  case invalidateAll => rw [exec_invalidateAllRx ho, State.tmMessage_invalidateAll h]
  case fallback => rw [exec_fallbackRx ho, State.tmMessage_fallback h]
  case mapNak =>
    have dropped := s.dropRxMap_flds ch i
    refine ⟨(s.dropRxMap ch i).bump .CHN_TM_CNT_tm_reject ch, ?_, ?_, ?_, ?_⟩
    · rw [exec_mapNakRx ho, State.tmMessage_mapNak h]
    · rw [State.chan_bump, State.chan_dropRxMap]
    · rw [State.fld_bump, if_pos ⟨rfl, rfl⟩, dropped _ _ (by simp [mapFlds])]
    · exact (dropped.mono (by simp [mapFlds])).bump (by simp)

end Sys2Proof.Machine
end

section
/-! SUPPORT. SOUND frames received, the figures they give and their timers (R154, R155, R165, R166, R168), and the end of a step
(R179, R180). -/

namespace Sys2Proof.Machine

/-! The SNR figures shown (R156, R158). -/

/-- The fields that show a channel's SNR figures. -/
def snrFlds (ch : Nat) : List (Fld × Nat) := [(.CHN_SNR_snr_mean, ch), (.CHN_SNR_snr_valid, ch), (.CHN_SNR_min_margin, ch)]

@[simp] theorem State.chan_showSnr (s : State) (ch x : Nat) : (s.showSnr ch).chan x = s.chan x := rfl

theorem State.showSnr_flds (s : State) (ch : Nat) : FldsKept (snrFlds ch) s (s.showSnr ch) :=
  (((FldsKept.refl _ s).setFld _ (by simp [snrFlds])).setFlag _ (by simp [snrFlds])).setFld _ (by simp [snrFlds])

theorem State.snrValid_showSnr (s : State) (ch : Nat) : (s.showSnr ch).fld .CHN_SNR_snr_valid ch = 1 := by
  unfold State.showSnr
  rw [State.fld_setFld_ne _ _ (by simp), State.fld_setFlag, if_pos ⟨rfl, rfl⟩]
  rfl

@[simp] theorem State.chan_refreshSnr (s : State) (ch x : Nat) : (s.refreshSnr ch).chan x = s.chan x := by
  unfold State.refreshSnr
  split <;> rfl

theorem State.refreshSnr_flds (s : State) (ch : Nat) : FldsKept (snrFlds ch) s (s.refreshSnr ch) := by
  unfold State.refreshSnr
  split
  · exact s.showSnr_flds ch
  · exact FldsKept.refl _ s

/-! SOUND_RX. -/

theorem exec_soundRx {s : State} {ch : Nat} {f : RxFrame} (h : s.heard ch (fun fc => fc.typ == 4) = some f) :
    exec (.soundRx ch) s = .next ((s.takeHeard ch f).takeSound ch f) := by
  show execSoundRx ch s = _
  rw [execSoundRx, h]

theorem State.chan_takeHeard (s : State) (ch : Nat) (f : RxFrame) : (s.takeHeard ch f).chan ch = { s.chan ch with
    rxq := (s.chan ch).rxq.erase f, trigTick := f.at_, rxEnd := s.frameEnd (f.at_ / 32) (fcPayload f.fc) } := s.chan_updChan_same ch _

/-- Taking a frame from the pipe changes nothing of whose frames are the channel's. -/
theorem State.frameMine_takeHeard (s : State) (ch : Nat) (f : RxFrame) (fc : FC) :
    (s.takeHeard ch f).frameMine ch fc = s.frameMine ch fc := by
  have h := s.chan_takeHeard ch f
  have ok : (s.takeHeard ch f).peerOk ch fc.src = s.peerOk ch fc.src :=
    State.peerOk_congr (s := s) (t := s.takeHeard ch f) (by rw [h]) (by rw [h]) rfl rfl fc.src
  exact congrArg (s.rxUp ch && fc.link == s.fld .CHN_CFG_link_id ch && s.frameTo ch fc && ·) ok

/-- A frame that SOUND_RX judges: of a channel in TRAINING or LIVE, 4 to 15 symbols long, and the channel's own. -/
structure State.Sounds (s : State) (ch : Nat) (f : RxFrame) : Prop where
  state : s.chState ch = chTraining ∨ s.chState ch = chLive
  least : 4 ≤ f.cells.length
  most : f.cells.length ≤ 15
  mine : s.frameMine ch f.fc = true

theorem State.Sounds.takeHeard {s : State} {ch : Nat} {f : RxFrame} (h : s.Sounds ch f) : (s.takeHeard ch f).Sounds ch f :=
  ⟨h.state, h.least, h.most, (s.frameMine_takeHeard ch f f.fc).trans h.mine⟩

theorem State.Sounds.judged {s : State} {ch : Nat} {f : RxFrame} (h : s.Sounds ch f) :
    ¬(¬(s.chState ch = chTraining ∨ s.chState ch = chLive) ∨ f.cells.length < 4 ∨ 15 < f.cells.length ∨
      s.frameMine ch f.fc = false) := by
  obtain ⟨hst, hle, hge, hmine⟩ := h
  simp [hst, hmine, hle, hge]

/-- The estimates of a SOUND frame are taken, and it is counted (R154, R155). -/
def State.sounded (s : State) (ch : Nat) (f : RxFrame) : State :=
  let s := s.notePeer ch f.fc.src
  (s.updChan ch (fun c => { c with est := s.soundTable ch f, soundOut := none, soundHems := 0 })).bump .CHN_SOUND_CNT_sound_rx ch

/-- The figures follow (R156). -/
def State.measured (s : State) (ch : Nat) (f : RxFrame) : State := (s.sounded ch f).showSnr ch

/-- A frame with a step in it is asked for again (R180). -/
theorem State.takeSound_stepped {s : State} {ch : Nat} {f : RxFrame} (h : s.Sounds ch f) (hs : f.stepped = true) :
    s.takeSound ch f = (s.notePeer ch f.fc.src).askSound ch := by
  unfold State.takeSound
  exact (if_neg h.judged).trans (if_pos hs)

/-- Any other frame is measured, and the maps are renewed, in LIVE the PROTECT map too (log 174). -/
theorem State.takeSound_measured {s : State} {ch : Nat} {f : RxFrame} (h : s.Sounds ch f) (hs : f.stepped = false) :
    s.takeSound ch f = if s.chState ch = chLive then ((s.measured ch f).renewMap ch 0).renewMap ch 1
      else (s.measured ch f).renewMap ch 0 := by
  unfold State.takeSound
  exact (if_neg h.judged).trans (if_neg (ne_true_of_eq_false hs))

theorem State.chan_measured (s : State) (ch : Nat) (f : RxFrame) : ((s.measured ch f).chan ch).rxq = (s.chan ch).rxq ∧
    ((s.measured ch f).chan ch).soundOut = none ∧ ((s.measured ch f).chan ch).soundHems = 0 := by
  obtain ⟨ps, p, hnote, -⟩ := s.chan_notePeer ch f.fc.src
  unfold State.measured State.sounded
  rw [State.chan_showSnr, State.chan_bump, State.chan_updChan_same, hnote]
  exact ⟨rfl, rfl, rfl⟩

theorem State.fld_sounded (s : State) (ch : Nat) (f : RxFrame) (F : Fld) (i : Nat) : (s.sounded ch f).fld F i
    = if F = .CHN_SOUND_CNT_sound_rx ∧ i = ch then min (s.fld .CHN_SOUND_CNT_sound_rx ch + 1) (2 ^ Fld.width .CHN_SOUND_CNT_sound_rx - 1)
      else s.fld F i := State.fld_bump ..

theorem State.measured_flds (s : State) (ch : Nat) (f : RxFrame) :
    (s.measured ch f).fld .CHN_SOUND_CNT_sound_rx ch
      = min (s.fld .CHN_SOUND_CNT_sound_rx ch + 1) (2 ^ Fld.width .CHN_SOUND_CNT_sound_rx - 1) ∧
    (s.measured ch f).fld .CHN_SNR_snr_valid ch = 1 ∧
    FldsKept ((.CHN_SOUND_CNT_sound_rx, ch) :: snrFlds ch) s (s.measured ch f) := by
  have shown := (s.sounded ch f).showSnr_flds ch
  refine ⟨?_, State.snrValid_showSnr _ ch, fun F i hn => ?_⟩
  · exact (shown _ _ (by simp [snrFlds])).trans ((State.fld_sounded ..).trans (if_pos ⟨rfl, rfl⟩))
  · rw [List.mem_cons, not_or] at hn
    exact (shown F i hn.2).trans ((State.fld_sounded ..).trans (if_neg (by simpa using hn.1)))

/-! The timers. -/

theorem exec_soundTimeout {s : State} {ch n : Nat} (h : (s.chan ch).soundOut = some n) : exec (.soundTimeout ch) s
    = .next (if n < 4 then s else (s.askSound ch).bump .CHN_SOUND_CNT_sound_timeout ch) := by
  show execSoundTimeout ch s = _
  rw [execSoundTimeout, h]

/-- The map longest awaiting retirement leaves the receive maps. -/
def State.retireMap (s : State) (ch i : Nat) (l : List (Nat × Nat)) : State :=
  (s.updChan ch (fun c => { c with retire := l, rxMaps := tdel i c.rxMaps })).syncMaps ch

theorem exec_toneMapRetire {s : State} {ch i : Nat} {l : List (Nat × Nat)} (h : (s.chan ch).retire = (i, 0) :: l) :
    exec (.toneMapRetire ch) s = .next ((s.retireMap ch i l).serveMaps ch) := by
  show execToneMapRetire ch s = _
  rw [execToneMapRetire, h]
  rfl

theorem State.chan_retireMap (s : State) (ch i : Nat) (l : List (Nat × Nat)) :
    (s.retireMap ch i l).chan ch = { s.chan ch with retire := l, rxMaps := tdel i (s.chan ch).rxMaps } := by
  rw [State.retireMap, State.chan_syncMaps, State.chan_updChan_same]

theorem State.retireMap_flds (s : State) (ch i : Nat) (l : List (Nat × Nat)) : FldsKept (mapFlds ch) s (s.retireMap ch i l) :=
  ((FldsKept.refl _ s).congr rfl).trans (State.syncMaps_flds _ ch)

/-- TM_REFRESH of a LIVE channel turns on its period alone. -/
theorem exec_tmRefresh {s : State} {ch : Nat} (h : s.chState ch = chLive) : exec (.tmRefresh ch) s = .next (
    if s.fld .CHN_ADAPT_CFG2_tm_refresh ch ≠ 0 ∧ s.fld .CHN_ADAPT_CFG2_tm_refresh ch ≤ (s.chan ch).soundHems then s.askSound ch
    else s) := by
  refine congrArg Host.Outcome.next ?_
  rw [← ite_not]
  exact if_congr (by simp [h, not_or]) rfl rfl

/-! STEP_REBASE_END. -/

/-- The estimates with H replaced where a frame of a step rebased it (R179, R180). -/
def Chan.rebasedEst (c : Chan) : Tbl Est := c.est.map (fun (e : Nat × Est) => (e.1, { e.2 with h := tget e.2.h e.1 c.rebased }))

/-- The step of a channel is over (R180). -/
def State.endStep (s : State) (ch : Nat) : State :=
  ((s.setChan ch { s.chan ch with est := (s.chan ch).rebasedEst, rebased := [], stepRuns := 0, stepMap := true }).setFlag
    .CHN_TM_STATUS_step_active ch false).refreshSnr ch

theorem State.chan_endStep (s : State) (ch : Nat) : (s.endStep ch).chan ch
    = { s.chan ch with est := (s.chan ch).rebasedEst, rebased := [], stepRuns := 0, stepMap := true } := by
  rw [State.endStep, State.chan_refreshSnr, State.chan_setFlag, State.chan_setChan_same]

theorem State.endStep_flds (s : State) (ch : Nat) : (s.endStep ch).fld .CHN_TM_STATUS_step_active ch = 0 ∧
    FldsKept ((.CHN_TM_STATUS_step_active, ch) :: snrFlds ch) s (s.endStep ch) := by
  refine ⟨?_, FldsKept.trans ?_ ((State.refreshSnr_flds _ ch).mono fun _ => List.mem_cons_of_mem _)⟩
  · exact (State.refreshSnr_flds _ ch _ _ (by simp [snrFlds])).trans ((State.fld_setFlag ..).trans (if_pos ⟨rfl, rfl⟩))
  · exact ((FldsKept.refl _ s).congr rfl).setFlag _ List.mem_cons_self

/-- After the frame in progress the step is over; with no GENERAL map to compare, SOUND is asked for. -/
theorem exec_stepRebaseEnd {s : State} {ch : Nat} (ha : s.fld .CHN_TM_STATUS_step_active ch = 1) (hp : s.inPayload ch = false)
    (hm : s.rxGeneralMap ch = none) : exec (.stepRebaseEnd ch) s = .next ((s.endStep ch).askSound ch) := by
  have ended : ¬(s.flag .CHN_TM_STATUS_step_active ch = false ∨ s.inPayload ch = true) := by simp [State.flag, ha, hp]
  have unmapped : (s.endStep ch).rxGeneralMap ch = none := by
    unfold State.rxGeneralMap at hm ⊢
    rw [State.chan_endStep]
    exact hm
  have compared : (if (s.endStep ch).effState ch = chTraining then none else (s.endStep ch).rxGeneralMap ch) = none := by
    rw [unmapped, ite_self]
  show execStepRebaseEnd ch s = _
  unfold execStepRebaseEnd
  refine congrArg Host.Outcome.next ((if_neg ended).trans ?_)
  extract_lets _ _ _ u
  rw [show (if u.effState ch = chTraining then none else u.rxGeneralMap ch) = none from compared]
  rfl

/-- Settles O41: each event as the operation it is, then what that leaves of the channel and of the registers. -/
theorem soundsRefreshTheEstimates : Obligations.SoundsRefreshTheEstimates := by
  refine ⟨fun s ch f hf hst hle hge hmine => ?sound, fun s ch n h => exec_soundTimeout h, fun s ch i l h => ?retire,
    fun s ch h => exec_tmRefresh h, fun s ch ha hp hm => ?step⟩
  case sound =>
    have sounds := State.Sounds.takeHeard ⟨hst, hle, hge, hmine⟩
    refine ⟨fun hs => ?_, fun hs => ⟨(s.takeHeard ch f).measured ch f, ?_, ?_⟩⟩
    · rw [exec_soundRx hf, State.takeSound_stepped sounds hs]
    · rw [exec_soundRx hf, State.takeSound_measured sounds hs]
      rfl
    · obtain ⟨hrxq, hout, hhems⟩ := (s.takeHeard ch f).chan_measured ch f
      obtain ⟨hcount, hvalid, hkept⟩ := (s.takeHeard ch f).measured_flds ch f
      exact ⟨hcount, hrxq.trans (by rw [State.chan_takeHeard]), hout, hhems, hvalid, ((FldsKept.refl _ s).congr rfl).trans hkept⟩
  case retire => exact ⟨_, exec_toneMapRetire h, s.chan_retireMap ch i l, s.retireMap_flds ch i l⟩
  case step =>
    obtain ⟨hactive, hkept⟩ := s.endStep_flds ch
    refine ⟨_, exec_stepRebaseEnd ha hp hm, hactive, ?_, ?_, ?_, hkept⟩ <;> rw [State.chan_endStep]
    · exact List.map_map
    · exact List.map_map

end Sys2Proof.Machine
end

section
/-! SUPPORT. Cast (R181, R376, R381 to R385, R389): the BLANK inputs bit by bit, arrivals, and the freeze regions through their states. -/

namespace Sys2Proof.Machine

/-! BLANK inputs. -/

/-- A bit set to a value has it, and the others stay. -/
theorem bit_setBit (v i j : Nat) (b : Bool) : bit (setBit v i b) j = if j = i then b else bit v j := by
  unfold bit
  cases b with
  | true =>
    rw [setBit, if_pos rfl, Nat.testBit_or, Nat.testBit_two_pow]
    by_cases h : j = i <;> simp [h, Ne.symm]
  | false =>
    have masked : (if v.testBit i then 2 ^ i else 0) = v &&& 2 ^ i := by
      rw [Nat.and_two_pow]
      cases v.testBit i <;> simp
    rw [setBit, if_neg Bool.false_ne_true, masked, testBit_sub_and, Nat.testBit_two_pow]
    by_cases h : j = i <;> simp [h, Ne.symm]

/-- The same of a field whose bit is written. -/
theorem State.bit_setFld_setBit (s : State) {F : Fld} {j : Nat} (h : j < F.width) (k v i : Nat) (b : Bool) :
    bit ((s.setFld F k (setBit v i b)).fld F k) j = if j = i then b else bit v j := by
  rw [State.fld_setFld_same, ← bit_setBit]
  unfold bit
  rw [Nat.testBit_mod_two_pow, decide_eq_true h, Bool.true_and]

/-- A BLANK input at a level. -/
def State.setBlank (s : State) (i : Nat) (b : BlankIn) : State :=
  { s with gau := { s.gau with blanks := tput {} i b s.gau.blanks } }

/-- The bit of an input in a field of `GAU_BLANK_STATUS`. -/
def State.showBlank (s : State) (F : Fld) (i : Nat) (b : Bool) : State := s.setFld F 0 (setBit (s.fld F 0) i b)

theorem State.bit_showBlank (s : State) {F : Fld} {j : Nat} (h : j < F.width) (i : Nat) (b : Bool) :
    bit ((s.showBlank F i b).fld F 0) j = if j = i then b else bit (s.fld F 0) j := s.bit_setFld_setBit h 0 _ i b

theorem State.fld_showBlank_ne (s : State) {F G : Fld} (h : G ≠ F) (i : Nat) (b : Bool) (j : Nat) :
    (s.showBlank F i b).fld G j = s.fld G j := s.fld_setFld_ne _ (fun e => h e.1)

theorem FldsKept.showBlank {fs : List (Fld × Nat)} {s t : State} (h : FldsKept fs s t) {F : Fld} (i : Nat) (b : Bool)
    (hm : (F, 0) ∈ fs) : FldsKept fs s (t.showBlank F i b) := h.setFld _ hm

/-- What an edge leaves where no channel is armed by it and Cast is off: the input at its level, its pin, and its assertion where
the edge decides it. -/
structure State.BlankEdge (s t : State) (i : Nat) (up : Bool) : Prop where
  high : (tget {} i t.gau.blanks).high = up
  pin : ∀ j < 4, bit (t.fld .GAU_BLANK_STATUS_pin 0) j = if j = i then up else bit (s.fld .GAU_BLANK_STATUS_pin 0) j
  asserted : up = true → bit (t.fld .GAU_BLANK_STATUS_asserted 0) i = true
  flds : FldsKept [(.GAU_BLANK_STATUS_pin, 0), (.GAU_BLANK_STATUS_asserted, 0)] s t

/-- The input and its pin at a level. -/
theorem State.pinned_edge (s : State) (i : Nat) (up : Bool) (spans : List (Nat × Option Nat)) :
    let t := (s.setBlank i ⟨up, spans⟩).showBlank .GAU_BLANK_STATUS_pin i up
    (tget {} i t.gau.blanks).high = up ∧
    (∀ j < 4, bit (t.fld .GAU_BLANK_STATUS_pin 0) j = if j = i then up else bit (s.fld .GAU_BLANK_STATUS_pin 0) j) ∧
    FldsKept [(.GAU_BLANK_STATUS_pin, 0), (.GAU_BLANK_STATUS_asserted, 0)] s t := by
  refine ⟨?_, fun j hj => State.bit_showBlank _ hj i up, ((FldsKept.refl _ s).congr rfl).showBlank i up (by simp)⟩
  exact congrArg BlankIn.high (tget_tput_same ..)

theorem State.edge_asserted {s : State} {i : Nat} (hi : i < 4) {up : Bool} (spans : List (Nat × Option Nat)) :
    s.BlankEdge (((s.setBlank i ⟨up, spans⟩).showBlank .GAU_BLANK_STATUS_pin i up).showBlank .GAU_BLANK_STATUS_asserted i up) i up := by
  obtain ⟨hhigh, hpin, hflds⟩ := s.pinned_edge i up spans
  refine ⟨hhigh, fun j hj => ?_, fun h => ?_, hflds.showBlank i up (by simp)⟩
  · rw [State.fld_showBlank_ne _ (by simp)]
    exact hpin j hj
  · rw [State.bit_showBlank _ hi, if_pos rfl, h]

/-- A rise, with no channel to arm and no freeze to trigger. -/
theorem State.blankRise_quiet {s : State} {i : Nat} (hi : i < 4) (harm : s.armChans i = []) (hc : s.castOn = false) (tick : Nat) :
    s.BlankEdge (s.blankRise i tick) i true := by
  unfold State.blankRise
  extract_lets b _ _ _ w x
  have shown := State.edge_asserted (s := s) hi (up := true) (s.keepSpans ((tick, none) :: b.spans))
  have hw : FldsKept [(.GAU_BLANK_STATUS_pin, 0), (.GAU_BLANK_STATUS_asserted, 0)] s w := shown.flds
  have none_armed : w.armChans i = [] := by
    rw [← harm]
    unfold State.armChans
    simp only [hw _ _ (show (Fld.CHN_STEP_CFG_blank_arm, _) ∉ _ by simp)]
  have hx : x = w := congrArg (List.foldl _ w) none_armed
  have off : x.castOn = false := by
    rw [hx, ← hc]
    unfold State.castOn State.flag
    rw [hw _ _ (by simp)]
  rw [if_neg (by simp [off]), hx]
  exact shown

/-- A fall ends the assertion at once where no extension is set. -/
theorem State.blankFall_edge (s : State) {i : Nat} (hi : i < 4) (tick : Nat) : s.BlankEdge (s.blankFall i tick) i false := by
  unfold State.blankFall
  extract_lets b spans u v
  split
  · exact State.edge_asserted hi spans
  · obtain ⟨hhigh, hpin, hflds⟩ := s.pinned_edge i false spans
    exact ⟨hhigh, hpin, by simp, hflds⟩

theorem exec_blankEdge_same {s : State} (hk : s.rst.pwr ≠ .keep) {i : Nat} {up : Bool} (h : (tget {} i s.gau.blanks).high = up)
    (tick : Nat) : exec (.blankEdge i up tick) s = .next (s.reach tick) :=
  congrArg Host.Outcome.next ((if_neg hk).trans (if_pos (.inr h)))

theorem exec_blankEdge {s : State} (hk : s.rst.pwr ≠ .keep) {i : Nat} (hi : i < 4) {up : Bool}
    (h : (tget {} i s.gau.blanks).high ≠ up) (tick : Nat) : exec (.blankEdge i up tick) s
      = .next (if up then (s.reach tick).blankRise i tick else (s.reach tick).blankFall i tick) :=
  congrArg Host.Outcome.next ((if_neg hk).trans (if_neg (not_or.mpr ⟨by omega, h⟩)))

/-- An edge to the other level, as a rise or a fall. -/
theorem exec_blankEdge_spec {s : State} (hk : s.rst.pwr ≠ .keep) {i : Nat} (hi : i < 4) {up : Bool}
    (h : (tget {} i s.gau.blanks).high ≠ up) (harm : s.armChans i = []) (hc : s.castOn = false) (tick : Nat) :
    ∃ t : State, exec (.blankEdge i up tick) s = .next t ∧ (s.reach tick).BlankEdge t i up := by
  refine ⟨_, exec_blankEdge hk hi h tick, ?_⟩
  cases up with
  | true => exact State.blankRise_quiet (s := s.reach tick) hi harm hc tick
  | false => exact (s.reach tick).blankFall_edge hi tick

theorem State.reach_self (s : State) : s.reach s.tick = s := by
  unfold State.reach
  rw [max_self]

/-- The end of the extension of a low input clears its assertion, time first reaching it. -/
theorem exec_blankExtensionEnd {s : State} {i : Nat} (hi : i < 4) (h : (tget {} i s.gau.blanks).high = false) :
    ∃ n, exec (.blankExtensionEnd i) s = .next ((s.reach n).showBlank .GAU_BLANK_STATUS_asserted i false) := by
  show ∃ n, execBlankExtensionEnd i s = _
  unfold execBlankExtensionEnd
  rw [if_pos ⟨hi, h⟩]
  cases ((tget {} i s.gau.blanks).spans.head?).bind (fun e => e.2) with
  | some f => exact ⟨_, rfl⟩
  | none => exact ⟨s.tick, by rw [State.reach_self]; rfl⟩

/-! Freeze regions. -/

theorem State.region_setRegion (s : State) (r : Nat) (g : Region) (q : Nat) :
    (s.setRegion r g).region q = if q = r then g else s.region q := tget_tput ..

/-- The fields that show a region. -/
def regionFlds (r : Nat) : List (Fld × Nat) := [(.SRG_REGION_state, r), (.SRG_REGION_short, r), (.SRG_REGION_gap, r),
  (.SRG_REGION_trigger, r), (.SRG_STATUS_regions_free, 0)]

theorem State.showRegion_flds (s : State) (r : Nat) : FldsKept (regionFlds r) s (s.showRegion r) :=
  (((((FldsKept.refl _ s).setFld _ (by simp [regionFlds])).setFlag _ (by simp [regionFlds])).setFlag _ (by simp [regionFlds])).setFld _
    (by simp [regionFlds])).setFld _ (by simp [regionFlds])

theorem State.setRegion_flds (s : State) (r : Nat) (g : Region) : FldsKept (regionFlds r) s (s.setRegion r g) :=
  ((FldsKept.refl _ s).congr rfl).trans (State.showRegion_flds _ r)

theorem RegionSt.code_lt (x : RegionSt) : x.code < 2 ^ Fld.width .SRG_REGION_state := by cases x <;> decide

/-- A region stored shows its state. -/
theorem State.fld_setRegion_state (s : State) (r : Nat) (g : Region) : (s.setRegion r g).fld .SRG_REGION_state r = g.st.code := by
  have stored : ({ s with gau := { s.gau with regions := tput {} r g s.gau.regions } } : State).region r = g := tget_tput_same ..
  unfold State.setRegion State.showRegion
  rw [State.fld_setFld_ne _ _ (by simp), State.fld_setFld_ne _ _ (by simp), State.fld_setFlag, if_neg (by simp), State.fld_setFlag,
    if_neg (by simp), State.fld_setFld_same, stored, Nat.mod_eq_of_lt g.st.code_lt]

theorem State.log_gau (s : State) (code panel inst data : Nat) : (s.log code panel inst data).gau = s.gau := by
  have h := congrArg State.gau (s.log_kept code panel inst data).rest; simpa using h

theorem State.region_log (s : State) (code panel inst data r : Nat) : (s.log code panel inst data).region r = s.region r := by
  rw [State.region, State.log_gau]
  rfl

theorem exec_regionCollected {s : State} {r : Nat} (h : (s.region r).st = .collecting) : exec (.regionCollected r) s
    = .next (((s.reach (s.region r).stop).setRegion r { s.region r with st := .held }).log 0x3A02 noPanel r
        (r + 256 * (s.region r).kind)) := congrArg Host.Outcome.next (if_pos h)

/-- A trigger outside every region being collected takes the lowest FREE region (R383; log 58). -/
theorem State.freeze_takes {s : State} {r t : Nat} (hc : ∀ e ∈ s.gau.regions, e.2.st ≠ .collecting) (hr : r < s.pat.cast.regions)
    (hf : (s.region r).st = .free) (hl : ∀ q < r, (s.region q).st ≠ .free) (kind : Nat) :
    s.freeze t kind = (true, s.takeRegion r t kind) := by
  have apart : s.gau.regions.any (fun e => e.2.st == .collecting && decide (e.2.start ≤ t) && decide (t ≤ e.2.stop)) = false :=
    List.any_eq_false.mpr fun e he => by simp [hc e he]
  have lowest : (List.range s.pat.cast.regions).find? (fun q => (s.region q).st == .free) = some r :=
    List.find?_range_eq_some.mpr ⟨by simp [hf], List.mem_range.mpr hr, fun q hq => by simpa using hl q hq⟩
  unfold State.freeze
  rw [if_neg (by simp [apart]), lowest]

/-- What a region taken by a trigger is to hold. -/
theorem State.region_takeRegion (s : State) (r t kind : Nat) : (s.takeRegion r t kind).region r
      = { st := .collecting, trig := t, kind := kind, start := t - msTicks s.pat.cast.preMs, stop := t + msTicks s.pat.cast.postMs
          order := s.gau.order, era := s.gau.era } ∧
    ∀ q : Nat, q ≠ r → (s.takeRegion r t kind).region q = s.region q :=
  ⟨(State.region_setRegion ..).trans (if_pos rfl), fun _ hq => (State.region_setRegion ..).trans (if_neg hq)⟩

/-! The EXPORT messages. -/

theorem exec_exportMessage_ends {s : State} {r : Nat} (hst : (s.region r).st = .exporting)
    (hroom : s.toHostRoom (s.region r).cmd.pnl (s.region r).cls = true) (h : s.exportChan (s.region r) (s.region r).expCh = none) :
    exec (.exportMessage r) s = .next (s.setRegion r { s.region r with st := .held }) := by
  show execExportMessage r s = _
  unfold execExportMessage
  refine congrArg Host.Outcome.next ((if_neg (by simp [hst, hroom])).trans ?_)
  rw [h]

/-- The bytes of an EXPORT message (R385). -/
def exportBytes (r ch fl t : Nat) (xs : List Nat) (trig : Nat) : List Byte :=
  [byte r, byte ch] ++ be 2 fl ++ be 4 0 ++ be 8 t ++ be 4 xs.length ++ be 8 trig ++ be 4 0 ++ xs.flatMap (be 2)

/-- The next piece of what is exported is queued, and its region is stored anew. -/
theorem exec_exportMessage_piece {s : State} {r ch t : Nat} {xs : List Nat} (hst : (s.region r).st = .exporting)
    (hroom : s.toHostRoom (s.region r).cmd.pnl (s.region r).cls = true)
    (h : s.exportChan (s.region r) (s.region r).expCh = some ch)
    (hp : exportPiece (s.heldBlocks (s.region r) ch) (if ch = (s.region r).expCh then (s.region r).expAt else 0) = some (t, xs)) :
    ∃ fl g, exec (.exportMessage r) s = .next ((s.sendExport (s.region r).cmd.pnl (s.region r).cls
      (exportBytes r ch fl t xs (s.region r).trig)).setRegion r g) := by
  show ∃ fl g, execExportMessage r s = _
  unfold execExportMessage
  extract_lets g
  rw [if_neg (show ¬(g.st ≠ .exporting ∨ s.toHostRoom g.cmd.pnl g.cls = false) by simp [g, hst, hroom]),
    show s.exportChan g g.expCh = some ch from h]
  dsimp -zeta only
  extract_lets k
  rw [show exportPiece (s.heldBlocks g ch) k = some (t, xs) from hp]
  dsimp -zeta only
  extract_lets last msg u g'
  exact ⟨_, _, congrArg Host.Outcome.next (apply_ite (u.setRegion r) _ _ _).symm⟩

/-- PRP off, a frame joins the egress queue as it is (R404). -/
theorem State.egressFrame_plain {s : State} (h : s.prpOn = false) (f : EgFrame) :
    s.egressFrame f = { s with host := { s.host with egress := s.host.egress ++ [f] } } := if_neg (ne_true_of_eq_false h)

/-- An EXPORT message to a panel with an item, PRP off, is one frame of order class 4 at the end of the egress queue (R393, R398). -/
theorem State.sendExport_queued {s : State} {p : Nat} {i : PanelItem} (hi : s.panelItem p = some i) (hprp : s.prpOn = false)
    (cls : Nat) (msg : List Byte) : ∃ (f : EgFrame) (h : List Byte), (s.sendExport p cls msg).host.egress = s.host.egress ++ [f] ∧
      f.order = 4 ∧ f.panel = p ∧ f.cls = cls ∧ f.bytes = h ++ msg := by
  unfold State.sendExport
  rw [hi]
  exact ⟨_, _, congrArg (·.host.egress) (State.egressFrame_plain (s := s.drawFree.2) hprp _), rfl, rfl, rfl, rfl⟩

/-! Arrivals. -/

/-! What the detector works on does not turn on the time. -/

theorem State.payCells_reach (s : State) (t : Nat) (f : Frame) :
    (s.reach t).payCells f = ((s.payCells f).1, (s.payCells f).2.reach t) := by
  unfold State.payCells
  rw [show (s.reach t).frameMap f = s.frameMap f from rfl]
  cases f.liPos <;> cases s.frameMap f <;> rfl

theorem State.buildAir_reach (s : State) (t : Nat) (f : Frame) : ((s.reach t).buildAir f).1 = (s.buildAir f).1 := by
  unfold State.buildAir
  rw [State.payCells_reach]
  rfl

theorem State.lostTerms_reach (s : State) (t v k c : Nat) : (s.reach t).lostTerms v k c = s.lostTerms v k c := by
  unfold State.lostTerms
  simp only [State.buildAir_reach]
  rfl

theorem State.sentCell_reach (s : State) (t v k c : Nat) : (s.reach t).sentCell v k c = s.sentCell v k c := by
  unfold State.sentCell State.precSum
  rw [State.lostTerms_reach]
  rfl

theorem State.nextRef_reach (s : State) (t d k c : Nat) : (s.reach t).nextRef d k c = s.nextRef d k c := by
  unfold State.nextRef
  rw [State.sentCell_reach]
  rfl

theorem State.echoAt_reach (s : State) (t ch n : Nat) : (s.reach t).echoAt ch n = s.echoAt ch n := by
  unfold State.echoAt
  simp only [State.nextRef_reach]
  rfl

theorem State.waveX_reach (s : State) (t ch n : Nat) : (s.reach t).waveX ch n = s.waveX ch n := by
  unfold State.waveX
  rw [State.echoAt_reach]
  rfl

theorem State.waveD_reach (s : State) (t ch n : Nat) : (s.reach t).waveD ch n = s.waveD ch n := by
  unfold State.waveD
  simp only [State.waveX_reach]
  rfl

/-- The time of the Cast timebase leaves all but the free values. -/
theorem State.castTime_kept (s : State) (t ns : Nat) : ∃ k, (s.castTime t ns).2.2 = { s with free := k } := by
  unfold State.castTime
  dsimp only
  split
  · exact ⟨_, rfl⟩
  · exact ⟨_, rfl⟩

/-- What a freeze leaves of the detectors: arrivals, dead times, and where the next arrival goes. -/
structure ArrivalsKept (s t : State) : Prop where
  arrivals : t.gau.arrivals = s.gau.arrivals
  dead : t.gau.dead = s.gau.dead
  head : t.fld .SRG_CNT2_arr_head 0 = s.fld .SRG_CNT2_arr_head 0
  count : t.fld .SRG_CNT_arrivals 0 = s.fld .SRG_CNT_arrivals 0

theorem ArrivalsKept.trans {s t u : State} (h : ArrivalsKept s t) (k : ArrivalsKept t u) : ArrivalsKept s u :=
  ⟨k.arrivals.trans h.arrivals, k.dead.trans h.dead, k.head.trans h.head, k.count.trans h.count⟩

theorem State.takeRegion_arrivals (s : State) (r t kind : Nat) : ArrivalsKept s (s.takeRegion r t kind) :=
  ⟨rfl, rfl, State.setRegion_flds _ r _ _ _ (by simp [regionFlds]), State.setRegion_flds _ r _ _ _ (by simp [regionFlds])⟩

theorem State.freeze_arrivals (s : State) (t kind : Nat) : ArrivalsKept s (s.freeze t kind).2 := by
  have counted (F : Fld) (h : F ∉ [.SRG_CNT2_arr_head, .SRG_CNT_arrivals]) : ArrivalsKept s (s.bump F 0) := by
    simp only [List.mem_cons, List.not_mem_nil, or_false, not_or] at h
    exact ⟨rfl, rfl, (State.fld_bump ..).trans (if_neg fun e => h.1 e.1.symm), (State.fld_bump ..).trans (if_neg fun e => h.2 e.1.symm)⟩
  unfold State.freeze
  split
  · exact counted _ (by decide)
  · split
    · exact s.takeRegion_arrivals ..
    · have full := counted .SRG_CNT_frz_full (by decide)
      dsimp only
      split
      · split
        · next r _ => exact full.trans (State.takeRegion_arrivals _ r t kind)
        · exact full
      · exact full

/-- An arrival recorded at the head, with the dead time it gives (R382). -/
structure State.Recorded (s t : State) (a : Arrival) (dead : Nat) : Prop where
  stored : tfind (s.fld .SRG_CNT2_arr_head 0) t.gau.arrivals = some a
  head : t.fld .SRG_CNT2_arr_head 0 = (s.fld .SRG_CNT2_arr_head 0 + 1) % 4096
  count : t.fld .SRG_CNT_arrivals 0 = (s.fld .SRG_CNT_arrivals 0 + 1) % 2 ^ Fld.width .SRG_CNT_arrivals
  dead : tfind a.ch t.gau.dead = some dead

theorem State.Recorded.kept {s t u : State} {a : Arrival} {d : Nat} (h : s.Recorded t a d) (k : ArrivalsKept t u) : s.Recorded u a d :=
  ⟨k.arrivals ▸ h.stored, k.head.trans h.head, k.count.trans h.count, k.dead ▸ h.dead⟩

/-- An arrival is recorded, whether its group triggers a freeze or not. -/
theorem State.arrive_recorded (s : State) (ch n : Nat) (neg : Bool) (ta : Int) (peak : Nat) (gapNear : Bool) :
    ∃ a : Arrival, a.ch = ch ∧ a.tick = ta.toNat / 5 ∧
      s.Recorded (s.arrive ch n neg ta peak gapNear) a (n + (s.castItem ch).wfDead * 200) := by
  obtain ⟨k, hk⟩ := s.castTime_kept (ta.toNat / 5) (ta.toNat % 5)
  unfold State.arrive
  extract_lets t ns
  generalize s.castTime t ns = x at hk
  obtain ⟨sec, nn, v⟩ := x
  obtain rfl : v = { s with free := k } := hk
  dsimp -zeta only
  extract_lets fl i a win recent _ w y z
  have hz : s.Recorded z a (n + (s.castItem ch).wfDead * 200) := by
    refine ⟨?_, ?_, ?_, ?_⟩
    · rw [State.log_gau]
      exact tfind_tset_same ..
    · refine (State.fld_log _ _ _ _ _ (by decide)).trans ((State.fld_bumpWrap ..).trans ((if_neg (by simp)).trans ?_))
      exact State.fld_setFld_same ..
    · refine (State.fld_log _ _ _ _ _ (by decide)).trans ((State.fld_bumpWrap ..).trans ((if_pos ⟨rfl, rfl⟩).trans ?_))
      exact congrArg (fun m => (m + 1) % _) (State.fld_setFld_ne _ _ (by simp))
    · rw [State.log_gau]
      exact tfind_tset_same ..
  refine ⟨a, rfl, rfl, ?_⟩
  split
  · exact State.Recorded.kept (t := { z with gau := { z.gau with recent := [] } }) ⟨hz.stored, hz.head, hz.count, hz.dead⟩
      (State.freeze_arrivals _ _ _)
  · exact hz

/-- In dead time, or on a channel that is not recorded, there is no arrival. -/
theorem exec_wavefrontArrival_none {s : State} {ch n : Nat} (h : s.inDead ch n = true ∨ s.castRecords ch = false) :
    exec (.wavefrontArrival ch n) s = .next (s.reach n) := by
  show execWavefrontArrival ch n s = _
  unfold execWavefrontArrival
  extract_lets u tw after
  split
  · exact congrArg Host.Outcome.next (if_pos (h.elim (fun h => .inr (.inl h)) .inl))
  · rfl

/-- An arrival is where the limit is reached outside dead time, with the 200 samples that follow there; μ is as it stands
(log 175). -/
theorem exec_wavefrontArrival {s : State} {ch n : Nat} {d0 d1 : Rat} (hr : s.castRecords ch = true) (hd : s.inDead ch n = false)
    (h0 : s.waveD ch (n - 1) = some d0) (h1 : s.waveD ch n = some d1) (hlo : absRat d0 < s.waveLimit ch n)
    (hhi : s.waveLimit ch n ≤ absRat d1) (hafter : ∀ i < 200, (s.waveD ch (n + 1 + i)).isSome = true) :
    ∃ neg peak gap, exec (.wavefrontArrival ch n) s = .next ((s.reach n).arrive ch n neg
      (s.arrivalNs ch n (absRat d0) (absRat d1) (s.waveLimit ch n)) peak gap) := by
  show ∃ neg peak gap, execWavefrontArrival ch n s = _
  unfold execWavefrontArrival
  extract_lets u tw after
  have same (k : Nat) : u.waveD ch k = s.waveD ch k := s.waveD_reach n ch k
  have all_there : after.length = (List.range 200).length := by
    refine List.filterMap_length_eq_length.mpr fun i hi => ?_
    rw [same]
    exact hafter i (List.mem_range.mp hi)
  rw [List.length_range] at all_there
  have arrives : ¬(u.castRecords ch = false ∨ u.inDead ch n = true ∨ absRat d1 < tw ∨ tw ≤ absRat d0 ∨ after.length < 200) := by
    rw [show u.castRecords ch = s.castRecords ch from rfl, show u.inDead ch n = s.inDead ch n from rfl,
      show tw = s.waveLimit ch n from rfl]
    simp [hr, hd, all_there, not_lt.mpr hhi, not_le.mpr hlo]
  rw [same, same, h0, h1]
  exact ⟨_, _, _, congrArg Host.Outcome.next (if_neg arrives)⟩

/-- DEAD_TIME_END ends the dead time of its channel, if any. -/
theorem exec_deadTimeEnd (s : State) (ch : Nat) : ∃ t : State, exec (.deadTimeEnd ch) s = .next t ∧ tfind ch t.gau.dead = none ∧
    t.regs = s.regs := by
  show ∃ t, execDeadTimeEnd ch s = .next t ∧ _
  unfold execDeadTimeEnd
  split
  · next h => exact ⟨s, rfl, h, rfl⟩
  · exact ⟨_, rfl, tfind_tdel_same .., rfl⟩

/-! The commands. -/

theorem srgCmd_denied {s : State} {p : Nat} (h : p ≠ 0) (k : State × Option Resp) : srgCmd s p k = refuse s .denied := if_pos h

/-- Under feature 6 PNL0's command is the command's own. -/
theorem srgCmd_passes {s : State} {p : Nat} (h : p = 0) (hf : s.inForce 6 = true) (k : State × Option Resp) : srgCmd s p k = k := by
  rw [srgCmd, if_neg (not_not.mpr h), featGate, State.featRes, if_pos hf]

theorem opSrgArrivalRead_written {s : State} {p n : Nat} {a : Arrival} (h : p = 0) (hf : s.inForce 6 = true) (hn : n ≤ 4095)
    (ha : tfind n s.gau.arrivals = some a) : opSrgArrivalRead p n s = (s, some ⟨.ok, a.bytes⟩) := by
  rw [opSrgArrivalRead, srgCmd_passes h hf, if_neg (Nat.not_lt.mpr hn), ha]
  rfl

section
variable {s : State} {c : Cmd} {r : Nat} (h : c.pnl = 0) (hf : s.inForce 6 = true) (hr : r < s.pat.cast.regions)
include h hf hr

theorem opSrgQuery_region : opSrgQuery c.pnl r s = (s, some ⟨.ok, le 4 s.srgStatusWord ++ le 4 (s.srgRegionWord r)
    ++ le 8 (if (s.region r).st ≠ .free then (s.region r).trig else 0)
    ++ le 8 (if (s.region r).st ≠ .free then s.regionFirst (s.region r) else 0)⟩) := by
  rw [opSrgQuery, srgCmd_passes h hf, if_neg (Nat.not_le.mpr hr)]
  simp only [decide_eq_true_eq]

/-- A freeze now, of the lowest FREE region. -/
theorem opSrgFreeze_takes (hc : ∀ e ∈ s.gau.regions, e.2.st ≠ .collecting) (hfree : (s.region r).st = .free)
    (hl : ∀ q < r, (s.region q).st ≠ .free) : opSrgFreeze c.pnl s = (s.takeRegion r s.tick 2, some (rsp .ok)) := by
  rw [opSrgFreeze, srgCmd_passes h hf, State.freeze_takes hc hr hfree hl]

theorem opSrgExport_held {cls : Nat} (hcls : cls ≤ 7) (hst : (s.region r).st = .held) (mask : Nat) : opSrgExport c r cls mask s
    = (s.setRegion r { s.region r with st := .exporting, cmd := c, cls := cls, mask := mask, expCh := 0, expAt := 0 },
      some (rsp .ok)) := by
  rw [opSrgExport, srgCmd_passes h hf, if_neg (by omega)]
  dsimp only
  rw [hst]

theorem opSrgRelease_held (hst : (s.region r).st = .held) : opSrgRelease c.pnl r s = (s.setRegion r {}, some (rsp .ok)) := by
  rw [opSrgRelease, srgCmd_passes h hf, if_neg (Nat.not_le.mpr hr), hst]

theorem opSrgRelease_exporting (hst : (s.region r).st = .exporting) : opSrgRelease c.pnl r s = refuse s .busy := by
  rw [opSrgRelease, srgCmd_passes h hf, if_neg (Nat.not_le.mpr hr), hst]

end

/-- Settles O47: each event and command as the operation it is, then what that leaves of Cast and of the registers. -/
theorem castRecordsArrivalsAndRegions : Obligations.CastRecordsArrivalsAndRegions := by
  unfold Obligations.CastRecordsArrivalsAndRegions
  refine ⟨fun s i tick up hk hi => ⟨fun h => exec_blankEdge_same hk h tick, fun h harm hc => ?edge⟩,
    fun s i hi => ⟨fun h => ?high, fun h => ?low⟩, fun s ch => ⟨fun h => ?unarmed, fun h => ?armed⟩,
    fun s ch n h => exec_wavefrontArrival_none h, fun s ch n d0 d1 hr hd h0 h1 hlo hhi hafter => ?arrival,
    fun s ch => exec_deadTimeEnd s ch, fun s r hr h => ?collected, fun s r ch t0 xs i => ?exported,
    fun s c r hc => ⟨fun hp => ?denied, fun hp hf hr => ⟨?query, fun hcoll hfree hl => ?freeze,
      fun cls mask hcls hm hst => ?ship, fun hst => ?release, fun hst => ?busy⟩, fun hp hf n a hn ha => ?read⟩⟩
  case edge =>
    obtain ⟨t, hexec, hhigh, hpin, hasserted, hflds⟩ := exec_blankEdge_spec hk hi h harm hc tick
    exact ⟨t, hexec, hhigh, (hpin i hi).trans (if_pos rfl), hasserted, fun j hj hne => (hpin j hj).trans (if_neg hne),
      ((FldsKept.refl _ s).congr rfl).trans hflds⟩
  case high => exact congrArg Host.Outcome.next (if_neg (by simp [h]))
  case low =>
    obtain ⟨n, hn⟩ := exec_blankExtensionEnd hi h
    refine ⟨_, hn, (State.bit_showBlank _ hi i false).trans (if_pos rfl),
      fun j hj hne => (State.bit_showBlank _ hj i false).trans (if_neg hne), ((FldsKept.refl _ s).congr rfl).showBlank i false (by simp)⟩
  case unarmed => exact congrArg Host.Outcome.next (if_neg (ne_true_of_eq_false h))
  case armed => exact congrArg Host.Outcome.next (if_pos h)
  case arrival =>
    obtain ⟨neg, peak, gap, hexec⟩ := exec_wavefrontArrival hr hd h0 h1 hlo hhi hafter
    obtain ⟨a, hch, htick, hstored, hhead, hcount, hdead⟩ := (s.reach n).arrive_recorded ch n neg
      (s.arrivalNs ch n (absRat d0) (absRat d1) (s.waveLimit ch n)) peak gap
    exact ⟨_, a, hexec, hstored, hch, htick, hhead, hcount, hch ▸ hdead⟩
  case collected =>
    refine ⟨_, exec_regionCollected h, ?_, ?_, ?_, ?_⟩
    · rw [State.log_tick]; rfl
    · rw [State.region_log, State.region_setRegion, if_pos rfl]
    · rw [State.fld_log _ _ _ _ _ (by simp [logFlds]), State.fld_setRegion_state]; rfl
    · refine FldsKept.log (fs := regionFlds r) (FldsKept.mono ?_ fun _ => List.mem_append_left logFlds) _ _ _ _
      exact State.setRegion_flds (s.reach _) r _
  case exported =>
    intro g hst hroom
    refine ⟨fun h => ⟨_, exec_exportMessage_ends hst hroom h, by rw [State.region_setRegion, if_pos rfl]⟩, fun h hp hi hprp => ?_⟩
    obtain ⟨fl, g', hexec⟩ := exec_exportMessage_piece hst hroom h hp
    obtain ⟨f, head, hq, horder, hpanel, hcls, hbytes⟩ := State.sendExport_queued hi hprp g.cls (exportBytes r ch fl t0 xs g.trig)
    refine ⟨_, f, head, fl, hexec, hq, horder, hpanel, hcls, ?_⟩
    rw [hbytes, exportBytes]
    simp only [List.append_assoc]
  case denied =>
    refine ⟨congrArg Host.Outcome.next ?_, congrArg Host.Outcome.next ?_⟩
    · rw [opSrgQuery, srgCmd_denied hp, ohi_refuse hc]
    · rw [if_pos rfl, opSrgFreeze, srgCmd_denied hp, ohi_refuse hc]
  case query =>
    refine congrArg Host.Outcome.next ?_
    rw [opSrgQuery_region hp hf hr, ohi_takes hc]
  case freeze =>
    obtain ⟨htaken, hkept⟩ := s.region_takeRegion r s.tick 2
    refine ⟨s.takeRegion r s.tick 2, congrArg Host.Outcome.next ?_, ?_, ?_, ?_, ?_, hkept⟩
    · rw [if_pos rfl, opSrgFreeze_takes hp hf hr hcoll hfree hl, ohi_takes hc]
    all_goals rw [htaken]
  case ship =>
    refine ⟨s.setRegion r _, congrArg Host.Outcome.next ?_, (s.region_setRegion r _ r).trans (if_pos rfl),
      fun q hq => (s.region_setRegion r _ q).trans (if_neg hq)⟩
    rw [if_pos (by simp [hm]), ← ohi_takes hc]
    exact congrArg (ohi s c 0x3A03) (opSrgExport_held hp hf hr hcls hst _)
  case release =>
    refine ⟨s.setRegion r {}, congrArg Host.Outcome.next ?_, (s.region_setRegion r {} r).trans (if_pos rfl),
      fun q hq => (s.region_setRegion r {} q).trans (if_neg hq)⟩
    rw [opSrgRelease_held hp hf hr hst, ohi_takes hc]
  case busy =>
    refine congrArg Host.Outcome.next ?_
    rw [opSrgRelease_exporting hp hf hr hst, ohi_refuse hc]
  case read =>
    refine congrArg Host.Outcome.next ?_
    rw [opSrgArrivalRead_written hp hf hn ha, ohi_takes hc]

end Sys2Proof.Machine
end

section
/-! SUPPORT. Overlock (R185, R206, R212, R213, R220, R221): error reports and their parts, the expiry of a held pair, the commands of
the array, and its fence. -/

namespace Sys2Proof.Machine

/-! Error reports. -/

/-- A report that is malformed, of an unknown sync symbol or late is stale (R206). -/
theorem State.reportPart_stale {s : State} {ch : Nat} {l : List Byte} (h : beAt l 0 1 ≠ 0xE1 ∨ beAt l 1 1 ≠ 1 ∨ 1 < beAt l 5 1 ∨
    s.ola.dsync.contains (ch, beAt l 2 1) = false ∨ s.reportLate (beAt l 2 1) = true) :
    s.reportPart ch l = s.bump .OLA_ERR_CNT_err_stale 0 :=
  if_pos (h.imp_right (Or.imp_right (Or.imp_right Or.inr)))

section
variable {s : State} {ch : Nat} {l : List Byte} (hmark : beAt l 0 1 = 0xE1) (hver : beAt l 1 1 = 1)
  (hsync : s.ola.dsync.contains (ch, beAt l 2 1) = true) (hlate : s.reportLate (beAt l 2 1) = false)
include hmark hver hsync hlate

/-- An empty report is used at once: it brings no errors. -/
theorem State.reportPart_empty (hpart : beAt l 5 1 = 0) (hnone : bit (beAt l 4 1) 0 = true) (hlen : l.length = 8) :
    s.reportPart ch l = s.useReport ch (beAt l 2 1) 0 none := by
  unfold State.reportPart
  rw [if_neg (by simp [hmark, hver, hpart, hnone, hlen, hlate, List.contains_iff_mem.mp hsync]), if_pos (by simp [hnone, hpart])]

/-- A part of which the other has not come waits for it. -/
theorem State.reportPart_first (hpart : beAt l 5 1 ≤ 1) (hsome : bit (beAt l 4 1) 0 = false) (hlen : l.length = 1032)
    (hnone : s.ola.parts.find? (fun p => p.ch == ch && p.t == beAt l 2 1) = none) :
    s.reportPart ch l = { s with ola := { s.ola with
      parts := s.ola.parts ++ [⟨ch, beAt l 2 1, beAt l 5 1, beAt l 3 1, repErrs l⟩] } } := by
  have others : s.ola.parts.filter (fun p => !(p.ch == ch && p.t == beAt l 2 1 && p.part == beAt l 5 1)) = s.ola.parts :=
    List.filter_eq_self.mpr fun p hp => by
      have hother : (p.ch == ch && p.t == beAt l 2 1) = false := Bool.eq_false_iff.mpr (List.find?_eq_none.mp hnone p hp)
      rw [hother]; rfl
  unfold State.reportPart
  rw [if_neg (by simp [hmark, hver, hpart, hsome, hlen, hlate, List.contains_iff_mem.mp hsync]), if_neg (by simp [hsome])]
  simp only [others, hnone]

end

/-- A report without errors is counted and shown. -/
theorem State.useReport_none (s : State) (ch t scale : Nat) :
    s.useReport ch t scale none = (s.bump .OLA_ERR_CNT_err_used 0).setFlag .CHN_OLA_STATUS_err_rx ch true := by
  simp [State.useReport]

/-- The parts held of one report are let go. -/
def State.dropParts (s : State) (ch t : Nat) : State :=
  { s with ola := { s.ola with parts := s.ola.parts.filter (fun p => !(p.ch == ch && p.t == t)) } }

/-- Past its deadline what is held of a report is dropped, each part counted as stale (R206). -/
theorem exec_errReportDeadline_late {s : State} {t : Nat} (h : s.reportLate t = true) (ch : Nat) :
    exec (.errReportDeadline ch t) s = .next ((s.dropParts ch t).bumpN .OLA_ERR_CNT_err_stale 0
      (s.ola.parts.filter (fun p => p.ch == ch && p.t == t)).length) :=
  congrArg Host.Outcome.next (if_neg (by simp [h]))

/-! Held pairs. -/

theorem exec_pairHoldExpiry {s : State} {cls v vi : Nat} (hvi : s.victimIdx cls v = some vi) (slot : Nat) :
    exec (.pairHoldExpiry cls v slot) s = .next (
      if (s.pair cls vi slot).st = .held ∧ s.holdTime cls ≠ 0 ∧ s.holdTime cls ≤ (s.pair cls vi slot).hold then
        s.request (.pair cls vi slot .empty) else s) := by
  show execPairHoldExpiry cls v slot s = _
  rw [execPairHoldExpiry, hvi]

/-! The commands of the array. -/

/-- A command of a class in force on a slot of a victim the panel may name runs at the victim's index (R220). -/
theorem olaCmd_passes {s : State} {p cls v slot vi : Nat} (hcls : cls ≤ 2) (hv : v ≤ 191) (hname : s.mayName p v = true)
    (hforce : s.olaForce cls = true) (hvi : s.victimIdx cls v = some vi) (hslot : slot < (s.olaClass cls).nd)
    (k : Nat → State × Option Resp) : olaCmd s p cls v slot k = k vi := by
  simp [olaCmd, Nat.not_lt.mpr hcls, Nat.not_lt.mpr hv, hname, hforce, hvi, Nat.not_le.mpr hslot]

/-- One change asked for after the other, in order. -/
theorem State.foldl_request {α : Type} (f : α → SlotChange) (l : List α) (s : State) :
    l.foldl (fun s x => s.request (f x)) s = s.askAll (l.map f) := by
  induction l generalizing s with
  | nil => exact s.askAll_nil.symm
  | cons x l ih => rw [List.foldl_cons, ih, State.askAll_request, List.map_cons]

/-- Coefficient words on their way, behind those that are. -/
def State.queueWrites (s : State) (l : List CoefWr) : State :=
  { s with ola := { s.ola with writes := s.ola.writes ++ l } }

@[simp] theorem State.pair_queueWrites (s : State) (l : List CoefWr) (cls vi slot : Nat) :
    (s.queueWrites l).pair cls vi slot = s.pair cls vi slot := rfl

/-- Words scheduled one after the other queue in order; where a pair's entries lie does not turn on what is queued. -/
theorem State.foldl_writeCoef (cls vi slot ca : Nat) (l : List (Nat × Nat)) (s : State) :
    l.foldl (fun s (w : Nat × Nat) => s.writeCoef (s.entryOf cls vi slot (ca + w.2)) (w.1 % 2 ^ 32) 1) s
      = s.queueWrites (l.map fun w => ⟨s.entryOf cls vi slot (ca + w.2), w.1 % 2 ^ 32, 1⟩) := by
  induction l generalizing s with
  | nil => simp [State.queueWrites]
  | cons w l ih =>
    rw [List.foldl_cons, ih]
    simp [State.queueWrites, State.writeCoef, State.entryOf, State.olaClass]

/-! The fence. -/

/-- OVERLOCK_FENCE while the grid runs. -/
theorem exec_overlockFence {s : State} (h : s.grid.running = true) :
    exec .overlockFence s = .next (s.askAll [.olaFence, .offer 0, .offer 1, .offer 2]) := by
  refine congrArg Host.Outcome.next ((if_pos h).trans ?_)
  rw [State.foldl_request, State.askAll_request]
  rfl

/-- With every pair EMPTY no class counts one as active or learning. -/
theorem State.olaAllEmpty_counts (s : State) {c : Nat} (h : c < 3) :
    s.olaAllEmpty.fld .OLA_PAIRS_active c = 0 ∧ s.olaAllEmpty.fld .OLA_PAIRS_learning c = 0 := by
  have hc : c = 0 ∨ c = 1 ∨ c = 2 := by omega
  rcases hc with rfl | rfl | rfl <;> simp [State.olaAllEmpty, forAll, State.fld_setFld]

theorem State.olaAllEmpty_fenced (s : State) : s.olaAllEmpty.fld .OLA_STATUS_fenced 0 = s.fld .OLA_STATUS_fenced 0 := by
  simp only [State.olaAllEmpty, forAll, List.foldl_cons, List.foldl_nil, State.fld_setFld_ne, reduceCtorEq, false_and,
    not_false_eq_true]
  rfl

/-- The duplex bits handed over change one field. -/
theorem State.fld_handDuplex (s : State) {F : Fld} (h : F ≠ .CHN_OLA_STATUS_dup_ok) (i : Nat) :
    s.handDuplex.fld F i = s.fld F i :=
  (State.fld_foldl_setFld (g := fun _ v => (((s.olaSlots 0 v).filter (s.duplexBit v)).map (fun d => (v, d))).length)
    (fun _ _ _ _ => rfl) (s.olaVictims 0) s F i).trans (if_neg fun hF => h hF.1)

/-- The duplex bits handed over leave the pairs, their coefficients and the words on their way. -/
theorem State.ola_handDuplex (s : State) : s.handDuplex.ola = { s.ola with dup := s.handDuplex.ola.dup } := by
  have kept : ∀ (f : Nat → Nat) (l : List Nat),
      (l.foldl (fun (s : State) v => s.setFld .CHN_OLA_STATUS_dup_ok v (f v)) s).ola = s.ola := fun f l =>
    List.foldlRecOn (motive := fun t : State => t.ola = s.ola) l _ rfl fun _ ht _ _ => ht
  unfold State.handDuplex
  dsimp only
  rw [kept]

/-- Settles O42: each event and command as the operation it is, then what that leaves of the array. -/
theorem overlockReportsAndPairs : Obligations.OverlockReportsAndPairs := by
  unfold Obligations.OverlockReportsAndPairs
  refine ⟨fun s ch l h => congrArg Host.Outcome.next (State.reportPart_stale h),
    fun s ch l hmark hver hpart hnone hlen hsync hlate => congrArg Host.Outcome.next ?empty,
    fun s ch l hmark hver hpart hsome hlen hsync hlate hfirst =>
      congrArg Host.Outcome.next (State.reportPart_first hmark hver hsync hlate hpart hsome hlen hfirst),
    fun s ch t => ⟨fun h => congrArg Host.Outcome.next (if_pos h), fun h => ?deadline⟩,
    fun s cls v vi slot hvi hheld => ⟨fun h => ?unexpired, fun h0 h => ?expired⟩,
    fun s c cls v slot vi hc hcls hv hname hforce hvi hslot => ?commands,
    fun s h => exec_overlockFence h, fun s => ?fence⟩
  case empty => rw [State.reportPart_empty hmark hver hsync hlate hpart hnone hlen, State.useReport_none]
  case deadline =>
    exact ⟨_, exec_errReportDeadline_late h ch, rfl, (State.fld_bumpN ..).trans (if_pos ⟨rfl, rfl⟩),
      ((FldsKept.refl _ s).congr rfl).bumpN _ (by simp)⟩
  case unexpired => rw [exec_pairHoldExpiry hvi, if_neg (by omega)]
  case expired =>
    rw [exec_pairHoldExpiry hvi, if_pos ⟨hheld, h0, h⟩]
    rfl
  case commands =>
    have passes (k) := olaCmd_passes hcls hv hname hforce hvi hslot k
    refine ⟨congrArg Host.Outcome.next ?query, congrArg Host.Outcome.next ?reset,
      fun ca n hca hn0 hn5 hend => congrArg Host.Outcome.next ?read, fun ca ws hexpert => congrArg Host.Outcome.next ?denied,
      fun ca ws hexpert hca hws0 hws12 hend => ?write⟩
    case query => rw [opOlaPairQuery, passes, ohi_takes hc]
    case reset =>
      rw [opOlaVictimReset, olaCmd_passes hcls hv hname hforce hvi (Nat.zero_lt_of_lt hslot), State.foldl_request, ohi_takes hc]
      rfl
    case read => rw [opOlaCoefRead, passes, if_neg (by omega), ohi_takes hc, List.flatMap_def]
    case denied => rw [opOlaCoefWrite, passes, if_pos (by simp [hexpert]), ohi_refuse hc]
    case write =>
      have hrange : ¬(ca < 74 ∨ ws.length = 0 ∨ 12 < ws.length ∨ 1097 < ca + ws.length - 1) := by omega
      have hallowed : ¬(!s.expertOk c.pnl) = true := by simp [hexpert]
      refine ⟨fun hactive => congrArg Host.Outcome.next ?busy, fun hactive hlist => congrArg Host.Outcome.next ?unused,
        fun hlearn hlist hself => congrArg Host.Outcome.next ?queued⟩
      case busy => rw [opOlaCoefWrite, passes, if_neg hallowed, if_neg hrange, if_pos hactive, ohi_refuse hc]
      case unused =>
        rw [opOlaCoefWrite, passes, if_neg hallowed, if_neg hrange, if_neg (by simp [hactive]), if_pos (.inl hlist), ohi_refuse hc]
      case queued =>
        have hkept : ¬((s.olaSlots cls v).length ≤ slot ∨ (cls = 0 ∧ slot ≠ 0 ∧ s.inForce 0 = false)) :=
          not_or.mpr ⟨Nat.not_le.mpr hlist, fun ⟨h0, hother, hoff⟩ => by simp [h0, hother, hoff] at hself⟩
        rw [opOlaCoefWrite, passes, if_neg hallowed, if_neg hrange, if_neg (by simp [pairActive, hlearn]), if_neg hkept]
        dsimp only
        rw [State.foldl_writeCoef, State.pair_queueWrites, if_neg (by simp [hlearn]), ohi_takes hc]
        rfl
  case fence =>
    have hola := (s.setFlag .OLA_STATUS_fenced 0 true).olaAllEmpty.ola_handDuplex
    refine ⟨?_, congrArg OlaSt.pairs hola, congrArg OlaSt.coef hola, congrArg OlaSt.writes hola, fun c h => ?_⟩
    · refine (State.fld_handDuplex _ (by decide) 0).trans ((State.olaAllEmpty_fenced _).trans ?_)
      rw [State.fld_setFlag, if_pos ⟨rfl, rfl⟩]
      rfl
    · obtain ⟨hactive, hlearning⟩ := (s.setFlag .OLA_STATUS_fenced 0 true).olaAllEmpty_counts h
      exact ⟨(State.fld_handDuplex _ (by decide) c).trans hactive, (State.fld_handDuplex _ (by decide) c).trans hlearning⟩

end Sys2Proof.Machine
end

section
/-! SUPPORT. The crossings of the gauge (R223, R224, R226): its record and validity, the steering of Pf, and a crossing by the
interval it closes. -/

namespace Sys2Proof.Machine

/-! The gauge's record: stored, and lost. -/

theorem State.fld_setSource_gauge (s : State) (r : Source) (F : Fld) (i : Nat) : (s.setSource true r).fld F i
    = if F = .HEM_STATUS_gauge_valid ∧ i = 0 then (if 8 ≤ r.run then 1 else 0) else s.fld F i := by
  refine (State.fld_setFlag ..).trans (if_congr .rfl ?_ rfl)
  by_cases h : 8 ≤ r.run <;> simp [h] <;> rfl

theorem FldsKept.setSource_gauge {fs : List (Fld × Nat)} {s t : State} (h : FldsKept fs s t) (r : Source)
    (hm : (.HEM_STATUS_gauge_valid, 0) ∈ fs) : FldsKept fs s (t.setSource true r) :=
  FldsKept.setFlag (h.congr rfl) _ hm

theorem State.fld_srcLost_gauge (s : State) : (s.srcLost true).fld .HEM_SRC_CNT_src_loss 0
    = if 8 ≤ s.grid.gauge.run then min (s.fld .HEM_SRC_CNT_src_loss 0 + 1) (2 ^ Fld.width .HEM_SRC_CNT_src_loss - 1)
      else s.fld .HEM_SRC_CNT_src_loss 0 := by
  show (if 8 ≤ s.grid.gauge.run then s.bump .HEM_SRC_CNT_src_loss 0 else s).fld .HEM_SRC_CNT_src_loss 0 = _
  split
  · exact (State.fld_bump ..).trans (if_pos ⟨rfl, rfl⟩)
  · rfl

theorem State.srcLost_grid (s : State) (gauge : Bool) : (s.srcLost gauge).grid = s.grid := by
  unfold State.srcLost
  split <;> rfl

theorem State.srcLost_tick (s : State) (gauge : Bool) : (s.srcLost gauge).tick = s.tick := by
  unfold State.srcLost
  split <;> rfl

theorem FldsKept.srcLost {fs : List (Fld × Nat)} {s t : State} (h : FldsKept fs s t) (gauge : Bool)
    (hm : (.HEM_SRC_CNT_src_loss, 0) ∈ fs) : FldsKept fs s (t.srcLost gauge) := by
  unfold State.srcLost
  split
  · exact h.bump hm
  · exact h

/-- The gauge loses its validity, and its record is `r`. -/
def State.dropGauge (s : State) (r : Source) : State := (s.srcLost true).setSource true r

/-- With a run of less than eight the flag is clear, and the loss counts where the source was valid (R224). -/
theorem State.dropGauge_spec {s : State} {r : Source} (hr : r.run < 8) : (s.dropGauge r).grid = { s.grid with gauge := r } ∧
    (s.dropGauge r).tick = s.tick ∧ (s.dropGauge r).fld .HEM_STATUS_gauge_valid 0 = 0 ∧
    (s.dropGauge r).fld .HEM_SRC_CNT_src_loss 0 = (if 8 ≤ s.grid.gauge.run then
      min (s.fld .HEM_SRC_CNT_src_loss 0 + 1) (2 ^ Fld.width .HEM_SRC_CNT_src_loss - 1) else s.fld .HEM_SRC_CNT_src_loss 0) ∧
    FldsKept [(.HEM_STATUS_gauge_valid, 0), (.HEM_SRC_CNT_src_loss, 0)] s (s.dropGauge r) := by
  refine ⟨?_, s.srcLost_tick true, ?_, ?_, ((FldsKept.refl _ s).srcLost true (by simp)).setSource_gauge r (by simp)⟩
  · rw [← s.srcLost_grid true]; rfl
  · rw [State.dropGauge, State.fld_setSource_gauge, if_pos ⟨rfl, rfl⟩, if_neg (Nat.not_le.mpr hr)]
  · rw [State.dropGauge, State.fld_setSource_gauge, if_neg (by simp), State.fld_srcLost_gauge]

/-! Pf follows the source in use (R226). -/

/-- Pf moves by an eighth of its difference from an interval of the gauge, where the gauge is the source in use. -/
def State.steerPf (s : State) (n : Nat) : State :=
  if s.srcInUse = srcGauge then s.setPf ((s.grid.pf : Int) + roundDiv ((n : Int) - s.grid.pf) 8).toNat else s

theorem State.steerPf_gauge (s : State) (n : Nat) : (s.steerPf n).grid.gauge = s.grid.gauge := by
  unfold State.steerPf
  split <;> rfl

theorem State.steerPf_pf (s : State) (n : Nat) : (s.steerPf n).grid.pf = if s.fld .HEM_STATUS_src_state 0 = 2 then
    ((s.grid.pf : Int) + roundDiv ((n : Int) - s.grid.pf) 8).toNat else s.grid.pf := apply_ite (fun t : State => t.grid.pf) ..

theorem State.steerPf_flds (s : State) (n : Nat) : FldsKept [(.HEM_FILTER_pf, 0)] s (s.steerPf n) := by
  unfold State.steerPf
  split
  · exact ((FldsKept.refl _ s).congr rfl).setFld _ (by simp)
  · exact FldsKept.refl _ s

/-! A crossing of the gauge, by the interval it closes. -/

theorem goodInterval_iff {n : Nat} : goodInterval n = true ↔ pMin ≤ n ∧ n ≤ pMax := by simp [goodInterval]

/-- Time reaches a crossing of the gauge, which joins its newest. -/
def State.meetGauge (s : State) (z : Nat) : State :=
  { s with tick := max s.tick z, grid := { s.grid with gaugeZ := (z :: s.grid.gaugeZ).take 4 } }

theorem State.meetGauge_flds (s : State) (z : Nat) (fs : List (Fld × Nat)) : FldsKept fs s (s.meetGauge z) :=
  (FldsKept.refl _ s).congr rfl

theorem exec_mainsCrossing_first {s : State} (h : s.grid.gauge.last = none) (z : Nat) :
    exec (.mainsCrossing true z) s = .next ((s.meetGauge z).setSource true { run := 1, last := some z }) := by
  have hl : (({ s with tick := max s.tick z } : State).source true).last = none := h
  refine congrArg Host.Outcome.next ((if_pos rfl).trans ?_)
  dsimp only [State.crossing]
  rw [hl]
  rfl

section
variable {s : State} {z l : Nat} (h : s.grid.gauge.last = some l) (hne : l ≠ z)
include h hne

theorem exec_mainsCrossing_good (hg : goodInterval (z - l) = true) : exec (.mainsCrossing true z) s
    = .next (((s.meetGauge z).setSource true { run := s.grid.gauge.run + 1, last := some z }).steerPf (z - l)) := by
  have hl : (({ s with tick := max s.tick z } : State).source true).last = some l := h
  refine congrArg Host.Outcome.next ((if_pos rfl).trans ?_)
  dsimp only [State.crossing]
  rw [hl]
  exact (if_neg (by simpa using hne)).trans (if_pos hg)

theorem exec_mainsCrossing_bad (hg : ¬goodInterval (z - l) = true) : exec (.mainsCrossing true z) s
    = .next ((s.meetGauge z).dropGauge { run := 1, last := some z }) := by
  have hl : (({ s with tick := max s.tick z } : State).source true).last = some l := h
  refine congrArg Host.Outcome.next ((if_pos rfl).trans ?_)
  dsimp only [State.crossing]
  rw [hl]
  exact (if_neg (by simpa using hne)).trans (if_neg hg)

end

theorem exec_sourceTimeout_idle {s : State} (h : s.grid.gauge.last = none) : exec (.sourceTimeout true) s = .next s := by
  have hl : (s.source true).last = none := h
  show execSourceTimeout true s = _
  rw [execSourceTimeout, hl]

theorem exec_sourceTimeout {s : State} {l : Nat} (h : s.grid.gauge.last = some l) : exec (.sourceTimeout true) s
    = .next ((s.reach (l + s.grid.pf * 3 / 2)).dropGauge { s.grid.gauge with run := 0, last := none }) := by
  have hl : (s.source true).last = some l := h
  show execSourceTimeout true s = _
  rw [execSourceTimeout, hl]
  rfl

/-- Settles O31: a crossing by whether it is the first, closes a good interval or a bad one; the timeout as the loss it is. -/
theorem mainsCrossingsFilterThePeriod : Obligations.MainsCrossingsFilterThePeriod := by
  refine ⟨fun s z h => ?first, fun s z l h hne => ?next, fun s h => exec_sourceTimeout_idle h, fun s l h => ?timeout,
    fun s z h => ?direct⟩
  case first =>
    refine ⟨_, exec_mainsCrossing_first h z, rfl, ?_, rfl, rfl, (s.meetGauge_flds z _).setSource_gauge _ (by simp)⟩
    rw [State.fld_setSource_gauge, if_pos ⟨rfl, rfl⟩, if_neg (by simp)]
  case next =>
    by_cases hg : goodInterval (z - l) = true
    · refine ⟨_, exec_mainsCrossing_good h hne hg, ⟨fun _ => ⟨?gauge, ?valid, ?loss, ?pf⟩,
        fun hb => absurd (goodInterval_iff.mp hg) hb⟩, ?kept⟩
      case gauge => exact State.steerPf_gauge ..
      case valid =>
        rw [State.steerPf_flds _ _ _ _ (by simp), State.fld_setSource_gauge, if_pos ⟨rfl, rfl⟩]
        exact if_congr (by simp) rfl rfl
      case loss =>
        rw [State.steerPf_flds _ _ _ _ (by simp), State.fld_setSource_gauge, if_neg (by simp)]
        rfl
      case pf =>
        rw [State.steerPf_pf, State.fld_setSource_gauge, if_neg (c := _ ∧ _) (by simp)]
        rfl
      case kept =>
        exact ((s.meetGauge_flds z _).setSource_gauge _ (by simp)).trans (FldsKept.mono (State.steerPf_flds _ _) (by simp))
    · obtain ⟨hgrid, -, hvalid, hloss, hkept⟩ :=
        (s.meetGauge z).dropGauge_spec (r := { run := 1, last := some z }) (Nat.lt_add_left 6 (Nat.lt_add_one 1))
      exact ⟨_, exec_mainsCrossing_bad h hne hg, ⟨fun hb => absurd (goodInterval_iff.mpr hb) hg,
        fun _ => ⟨congrArg GridSt.gauge hgrid, hvalid, (congrArg GridSt.pf hgrid :), hloss⟩⟩,
        (s.meetGauge_flds z _).trans (hkept.mono (by simp))⟩
  case timeout =>
    obtain ⟨hgrid, htick, hvalid, hloss, hkept⟩ :=
      (s.reach (l + s.grid.pf * 3 / 2)).dropGauge_spec (r := { s.grid.gauge with run := 0, last := none }) (Nat.succ_pos 7)
    exact ⟨_, exec_sourceTimeout h, htick, congrArg GridSt.gauge hgrid, hvalid, hloss, ((FldsKept.refl _ s).congr rfl).trans hkept⟩
  case direct =>
    have dc : ({ s with tick := max s.tick z } : State).flag .PWR_STATUS_input_dc 0 = true := beq_iff_eq.mpr h
    exact congrArg Host.Outcome.next (if_pos dc)

end Sys2Proof.Machine
end

section
/-! SUPPORT. Delivery: what ends an exchange (R262 to R265), what abandons a segment (R265), messages not taken and entries that
expire (R269, R277), and the messages and frames handed on (R396, R404). -/

namespace Sys2Proof.Machine

/-! Descriptors and segments. -/

/-- A descriptor returned changes nothing but the counts of free ones. -/
theorem State.giveDesc_kept (s : State) (p : Pool) : ∃ a b q, s.giveDesc p
    = { s with dlv := { s.dlv with descProt := a, descShared := b, quotaFree := q } } := by
  cases p <;> exact ⟨_, _, _, rfl⟩

theorem State.giveRx_kept (s : State) (p : Option Pool) : (s.giveRx p).dlv.done = s.dlv.done ∧ (s.giveRx p).regs = s.regs := by
  cases p with
  | none => exact ⟨rfl, rfl⟩
  | some p =>
    obtain ⟨_, _, _, h⟩ := s.giveDesc_kept p
    rw [State.giveRx, h]
    exact ⟨rfl, rfl⟩

theorem State.giveIf_segs (s : State) (p : Option Pool) : (s.giveIf p).dlv.segs = s.dlv.segs := by
  unfold State.giveIf
  split <;> rfl

theorem State.log_segs (s : State) (code panel inst data : Nat) : (s.log code panel inst data).dlv.segs = s.dlv.segs :=
  congrArg (·.dlv.segs) (s.log_kept code panel inst data).rest

theorem State.foldl_segs {α : Type} {f : State → α → State} (hf : ∀ s x, (f s x).dlv.segs = s.dlv.segs) (l : List α) (s : State) :
    (l.foldl f s).dlv.segs = s.dlv.segs :=
  List.foldlRecOn (motive := fun t => t.dlv.segs = s.dlv.segs) l f rfl fun t h x _ => (hf t x).trans h

theorem State.sweepTx_segs (s : State) : s.sweepTx.dlv.segs = s.dlv.segs := by
  refine State.foldl_segs (fun t m => ?_) _ s
  obtain ⟨_, _, _, h⟩ := t.giveDesc_kept m.pool
  rw [h]

/-- The segments left are those of messages that the test picks none of (R265). -/
theorem State.abandonSegs_segs (s : State) (pick : Seg → Bool) : (s.abandonSegs pick).dlv.segs
    = s.dlv.segs.filter (fun g => !((s.dlv.segs.filter pick).map (·.mid)).contains g.mid) := by
  unfold State.abandonSegs
  extract_lets mids gone late d kept given told
  have hgiven : given.dlv.segs = kept.dlv.segs := State.foldl_segs (by exact fun t g => t.giveIf_segs g.slotOf) gone kept
  have htold : told.dlv.segs = given.dlv.segs :=
    State.foldl_segs (fun t m => by split; exacts [t.log_segs .., rfl]) mids.dedup given
  rw [State.sweepTx_segs, htold, hgiven]

theorem State.mem_abandonSegs {s : State} {pick : Seg → Bool} {g : Seg} (h : g ∈ (s.abandonSegs pick).dlv.segs) :
    g ∈ s.dlv.segs ∧ pick g = false := by
  rw [State.abandonSegs_segs, List.mem_filter] at h
  obtain ⟨hg, hmid⟩ := h
  refine ⟨hg, Bool.eq_false_iff.mpr fun hp => ?_⟩
  have : g.mid ∈ (s.dlv.segs.filter pick).map (·.mid) := List.mem_map_of_mem (List.mem_filter.mpr ⟨hg, hp⟩)
  simp [this] at hmid

/-! With no segment and no message held there is nothing to acknowledge, to lose or to return. -/

theorem State.sweepTx_empty {s : State} (hmsgs : s.dlv.txMsgs = []) : s.sweepTx = s := by
  simp only [State.sweepTx, hmsgs, List.filter_nil, List.foldl_nil]
  rw [← hmsgs]

section
variable {s : State} (hsegs : s.dlv.segs = []) (hmsgs : s.dlv.txMsgs = [])
include hsegs hmsgs

theorem State.abandonSegs_empty (pick : Seg → Bool) : s.abandonSegs pick = s := by
  simp only [State.abandonSegs, hsegs, List.filter_nil, List.map_nil, List.filterMap_nil, List.append_nil, List.foldl_nil,
    List.dedup_nil]
  rw [← hsegs]
  exact State.sweepTx_empty hmsgs

theorem State.ackSegs_empty (ch : Nat) (pick : Seg → Bool) : s.ackSegs ch pick = s := by
  simp only [State.ackSegs, hsegs, List.filter_nil, List.foldl_nil]
  rw [← hsegs]
  exact State.sweepTx_empty hmsgs

theorem State.loseSegs_empty (mids : List (Nat × Nat)) : s.loseSegs mids = s := by
  have lost : s.mapSegs mids (fun g => { g with state := .lost }) = s := by
    simp only [State.mapSegs, hsegs, List.map_nil]
    rw [← hsegs]
  unfold State.loseSegs
  rw [lost]
  exact State.abandonSegs_empty hsegs hmsgs _

end

/-! The end of an exchange (R247, R262 to R264). -/

/-- A frame no longer waits for its acknowledgement, and the abandoned segments the exchange names are settled (R265). -/
def State.endAwait (s : State) (ch : Nat) (f : Frame) (names : Nat → Bool) : State :=
  (s.updChan ch (fun c => { c with await := c.await.erase f })).lateAcks f names

theorem State.chan_endAwait (s : State) (ch : Nat) (f : Frame) (names : Nat → Bool) :
    (s.endAwait ch f names).chan ch = { s.chan ch with await := (s.chan ch).await.erase f } :=
  s.chan_updChan_same ch (fun c => { c with await := c.await.erase f })

theorem State.lateAcks_regs (s : State) (f : Frame) (names : Nat → Bool) :
    ∃ n, (s.lateAcks f names).regs = (s.bumpN .DLV_MISC_CNT_late_ack 0 n).regs := ⟨_, rfl⟩

theorem State.endAwait_flds (s : State) (ch : Nat) (f : Frame) (names : Nat → Bool) :
    FldsKept [(.DLV_MISC_CNT_late_ack, 0)] s (s.endAwait ch f names) :=  by
  obtain ⟨n, hn⟩ := (s.updChan ch (fun c => { c with await := c.await.erase f })).lateAcks_regs f names
  have waited : FldsKept [(.DLV_MISC_CNT_late_ack, 0)] s (s.updChan ch (fun c => { c with await := c.await.erase f })) :=
    (FldsKept.refl _ s).congr rfl
  exact (waited.bumpN n (by simp)).congr hn

theorem State.cwMin_kept {s t : State} (h : FldsKept [(.DLV_MISC_CNT_late_ack, 0)] s t) (ch cls : Nat) :
    t.cwMin ch cls = s.cwMin ch cls := by
  unfold State.cwMin
  split <;> rw [h _ _ (by simp)]

theorem State.await_setBc (s : State) (ch cls : Nat) (v : Option Nat) : ((s.setBc ch cls v).chan ch).await = (s.chan ch).await :=
  State.chan_updChan_congr (f := fun c => { c with bc := c.bc.set cls v }) (·.await) (fun _ => rfl) s ch ch

theorem State.cw_setBc (s : State) (ch cls : Nat) (v : Option Nat) : ((s.setBc ch cls v).chan ch).cw = (s.chan ch).cw :=
  State.chan_updChan_congr (f := fun c => { c with bc := c.bc.set cls v }) (·.cw) (fun _ => rfl) s ch ch

theorem State.await_setCw (s : State) (ch cls v : Nat) : ((s.setCw ch cls v).chan ch).await = (s.chan ch).await :=
  State.chan_updChan_congr (f := fun c => { c with cw := c.cw.set cls (some v) }) (·.await) (fun _ => rfl) s ch ch

theorem State.cw_setCw (s : State) (ch cls v : Nat) : ((s.setCw ch cls v).chan ch).cw = (s.chan ch).cw.set cls (some v) := by
  rw [State.setCw, State.chan_updChan_same]

/-- An acknowledged exchange restores the contention window of its class, and leaves the frames that wait. -/
theorem State.exchangeOk_spec {s : State} {ch cls : Nat} (h : cls < 3) :
    ((s.exchangeOk ch cls true).chan ch).await = (s.chan ch).await ∧
    ((s.exchangeOk ch cls true).chan ch).cw = (s.chan ch).cw.set cls (some (s.cwMin ch cls)) ∧
    (s.exchangeOk ch cls true).dlv = s.dlv ∧ (s.exchangeOk ch cls true).regs = s.regs := by
  unfold State.exchangeOk
  rw [if_neg (Nat.not_le.mpr h), if_pos rfl]
  dsimp only
  split
  · exact ⟨State.await_setCw .., State.cw_setCw .., rfl, rfl⟩
  · exact ⟨by rw [State.await_setBc, State.await_setCw], by rw [State.cw_setBc, State.cw_setCw], rfl, rfl⟩

theorem State.cwOf_exchangeOk {s : State} {ch cls : Nat} (h : cls < 3) (hlen : (s.chan ch).cw.length = 3) :
    (s.exchangeOk ch cls true).cwOf ch cls = s.cwMin ch cls := by
  obtain ⟨-, hcw, -⟩ := State.exchangeOk_spec (s := s) (ch := ch) h
  unfold State.cwOf
  rw [hcw]
  simp [List.getD_eq_getElem?_getD, hlen, h]

/-- A failed one is counted, and leaves the frames that wait. -/
theorem State.exchangeFailed_spec (s : State) (ch cls : Nat) : ((s.exchangeFailed ch cls).chan ch).await = (s.chan ch).await ∧
    (s.exchangeFailed ch cls).regs = (s.bump .CHN_ACCESS_CNT_no_ack ch).regs := by
  unfold State.exchangeFailed
  dsimp only
  split
  · exact ⟨rfl, rfl⟩
  · exact ⟨(State.await_setBc ..).trans (State.await_setCw ..), rfl⟩

theorem State.txFlow_key (s : State) (ch peer : Nat) (sp : Bool) :
    (s.txFlow ch peer sp).ch = ch ∧ (s.txFlow ch peer sp).peer = peer ∧ (s.txFlow ch peer sp).space3 = sp := by
  unfold State.txFlow
  cases h : s.dlv.txFlows.find? (fun f => f.ch == ch && f.peer == peer && f.space3 == sp) with
  | none => exact ⟨rfl, rfl, rfl⟩
  | some f => simpa [and_assoc] using List.find?_some h

theorem State.txFlow_congr {s t : State} (h : t.dlv = s.dlv) (ch peer : Nat) (sp : Bool) : t.txFlow ch peer sp = s.txFlow ch peer sp := by
  unfold State.txFlow
  rw [h]

/-- What an ACK says of its flow's receiver (R262). -/
def State.setRxFull (s : State) (ch peer : Nat) (sp full : Bool) : State := s.setTxFlow { s.txFlow ch peer sp with rxFull := full }

theorem State.txFlow_setRxFull (s : State) (ch peer : Nat) (sp full : Bool) :
    ((s.setRxFull ch peer sp full).txFlow ch peer sp).rxFull = full := by
  obtain ⟨hch, hpeer, hsp⟩ := s.txFlow_key ch peer sp
  unfold State.setRxFull
  generalize s.txFlow ch peer sp = flow at hch hpeer hsp ⊢
  simp [State.setTxFlow, State.txFlow, hch, hpeer, hsp]

theorem exec_ackRx {s : State} {ch : Nat} {a : RxFrame} (h : s.heard ch (fun fc => fc.typ == 1) = some a) :
    exec (.ackRx ch) s = .next (((s.takeHeard ch a).takeAck ch a.fc).reviewMaps ch) := by
  show execAckRx ch s = _
  rw [execAckRx, h]

theorem State.reviewMaps_training {s : State} {ch : Nat} (h : s.chState ch = chTraining) : s.reviewMaps ch = s :=
  if_pos (.inl (by rw [h]; decide))

theorem State.takeAck_unawaited {s : State} {ch : Nat} {fc : FC}
    (h : ∀ f ∈ (s.chan ch).await, ¬(f.fc.dst = fc.src ∧ f.fc.prio = fc.prio)) : s.takeAck ch fc = s := by
  have none : (s.chan ch).await.find? (fun f => f.fc.dst == fc.src && f.fc.prio == fc.prio) = none := by
    rw [List.find?_eq_none]
    simpa using h
  rw [State.takeAck, none]

/-- The ACK of the waiting frame `f` is taken: its sender heard, the wait over, its word on the receiver stored. -/
def State.acked (s : State) (ch : Nat) (fc : FC) (f : Frame) (names : Nat → Bool) : State :=
  ((s.notePeer ch fc.src).endAwait ch f names).setRxFull ch fc.src (f.fc.prio == 3) (bit fc.body 1)

theorem State.acked_spec (s : State) (ch : Nat) (fc : FC) (f : Frame) (names : Nat → Bool) :
    ((s.acked ch fc f names).chan ch).await = (s.chan ch).await.erase f ∧ ((s.acked ch fc f names).chan ch).cw = (s.chan ch).cw ∧
    FldsKept [(.DLV_MISC_CNT_late_ack, 0)] s (s.acked ch fc f names) := by
  have hchan : (s.acked ch fc f names).chan ch = ((s.notePeer ch fc.src).endAwait ch f names).chan ch := rfl
  obtain ⟨ps, p, hnote, -⟩ := s.chan_notePeer ch fc.src
  rw [hchan, State.chan_endAwait, hnote]
  exact ⟨rfl, rfl, ((FldsKept.refl _ s).congr rfl).trans (((s.notePeer ch fc.src).endAwait_flds ch f names).congr rfl)⟩

theorem State.txFlow_acked (s : State) (ch : Nat) (fc : FC) (f : Frame) (names : Nat → Bool) :
    ((s.acked ch fc f names).txFlow ch fc.src (f.fc.prio == 3)).rxFull = bit fc.body 1 := by
  unfold State.acked
  exact State.txFlow_setRxFull ..

section
variable {s : State} {ch : Nat} {fc : FC} {f : Frame}
  (h : (s.chan ch).await.find? (fun x => x.fc.dst == fc.src && x.fc.prio == fc.prio) = some f) (htyp : fc.typ = 1)
  (hmine : s.frameMine ch fc = true)
include h htyp hmine

/-- An ACK of a waiting exchange of the channel settles the segments it names and those it leaves out (R262, R263, R265). -/
theorem State.takeAck_awaited : ∃ names pick mids, s.takeAck ch fc
    = (((((s.notePeer ch fc.src).endAwait ch f names).ackSegs ch pick).loseSegs mids).setRxFull ch fc.src (f.fc.prio == 3)
        (bit fc.body 1)).exchangeOk ch f.fc.prio true := by
  unfold State.takeAck
  rw [h]
  exact ⟨_, _, _, if_neg (by simp [htyp, hmine])⟩

/-- With no segment held it ends the exchange and nothing more. -/
theorem State.takeAck_ends (hsegs : s.dlv.segs = []) (hmsgs : s.dlv.txMsgs = []) :
    ∃ names, s.takeAck ch fc = (s.acked ch fc f names).exchangeOk ch f.fc.prio true := by
  obtain ⟨names, pick, mids, hack⟩ := State.takeAck_awaited h htyp hmine
  rw [State.ackSegs_empty (s := (s.notePeer ch fc.src).endAwait ch f names) hsegs hmsgs,
    State.loseSegs_empty (s := (s.notePeer ch fc.src).endAwait ch f names) hsegs hmsgs] at hack
  exact ⟨names, hack⟩

end

theorem State.heard_pick {s : State} {ch : Nat} {pick : FC → Bool} {f : RxFrame} (h : s.heard ch pick = some f) : pick f.fc = true :=
  (Bool.and_eq_true_iff.mp (List.find?_some (p := fun f : RxFrame => f.done && pick f.fc) h)).2

/-- ACK_RX that ends an exchange, with no segment held, on a channel in TRAINING: the state, and what is left of the wait. -/
theorem exec_ackRx_ends {s : State} {ch : Nat} {a : RxFrame} {f : Frame} (ha : s.heard ch (fun fc => fc.typ == 1) = some a)
    (htr : s.chState ch = chTraining)
    (hf : (s.chan ch).await.find? (fun x => x.fc.dst == a.fc.src && x.fc.prio == a.fc.prio) = some f)
    (hmine : s.frameMine ch a.fc = true) (hsegs : s.dlv.segs = []) (hmsgs : s.dlv.txMsgs = []) (hprio : f.fc.prio < 3) :
    ∃ names, let t := (s.takeHeard ch a).acked ch a.fc f names
      exec (.ackRx ch) s = .next (t.exchangeOk ch f.fc.prio true) ∧ (t.chan ch).await = (s.chan ch).await.erase f ∧
      (t.chan ch).cw = (s.chan ch).cw ∧ FldsKept [(.DLV_MISC_CNT_late_ack, 0)] s t := by
  obtain ⟨names, hack⟩ := State.takeAck_ends (s := s.takeHeard ch a) (by rw [State.chan_takeHeard]; exact hf)
    (by simpa using State.heard_pick ha) ((s.frameMine_takeHeard ch a a.fc).trans hmine) hsegs hmsgs
  obtain ⟨hawait, hcw, hflds⟩ := (s.takeHeard ch a).acked_spec ch a.fc f names
  rw [State.chan_takeHeard] at hawait hcw
  have kept : FldsKept [(.DLV_MISC_CNT_late_ack, 0)] s ((s.takeHeard ch a).acked ch a.fc f names) :=
    ((FldsKept.refl _ s).congr rfl).trans hflds
  obtain ⟨-, -, -, hregs⟩ := State.exchangeOk_spec (s := (s.takeHeard ch a).acked ch a.fc f names) (ch := ch) hprio
  have training : (((s.takeHeard ch a).acked ch a.fc f names).exchangeOk ch f.fc.prio true).chState ch = chTraining :=
    (State.fld_congr hregs _ _).trans ((kept _ _ (by simp)).trans htr)
  exact ⟨names, by rw [exec_ackRx ha, hack, State.reviewMaps_training training], hawait, hcw, kept⟩

theorem exec_ackMissing {s : State} {ch : Nat} {f : Frame} {rest : List Frame} (h : (s.chan ch).await = f :: rest)
    (hsegs : s.dlv.segs = []) (hmsgs : s.dlv.txMsgs = []) :
    exec (.ackMissing ch) s = .next ((s.endAwait ch f (fun _ => false)).exchangeFailed ch f.fc.prio) := by
  show execAckMissing ch s = _
  rw [execAckMissing, h]
  show Host.Outcome.next (((s.endAwait ch f (fun _ => false)).loseSegs f.mids).exchangeFailed ch f.fc.prio) = _
  rw [State.loseSegs_empty (s := s.endAwait ch f (fun _ => false)) hsegs hmsgs]

/-! Messages not taken and entries that expire. -/

theorem exec_rxMessageDiscard {s : State} {m : RxMsg} (h : s.dlv.done.find? (fun x => decide (2 ≤ x.hems)) = some m) :
    exec .rxMessageDiscard s = .next ((({ s with dlv := { s.dlv with done := s.dlv.done.erase m } } : State).giveRx m.pool).bump
      .DLV_RX_CNT2_rx_drop 0) := by
  show execRxMessageDiscard s = _
  rw [execRxMessageDiscard, h]

theorem firstSeen_eq_none {l : List Seen} (h : firstSeen l = none) : l = [] := by
  cases l with
  | nil => rfl
  | cons y l =>
    unfold firstSeen at h
    split at h
    · split at h <;> cases h
    · cases h

theorem firstSeen_le {l : List Seen} {e : Seen} (h : firstSeen l = some e) : ∀ x ∈ l, e.due ≤ x.due := by
  induction l generalizing e with
  | nil => cases h
  | cons y l ih =>
    unfold firstSeen at h
    cases hl : firstSeen l with
    | none =>
      rw [hl] at h
      cases h
      simp [firstSeen_eq_none hl]
    | some d =>
      rw [hl] at h
      dsimp only at h
      split at h
      next hlt =>
        cases h
        exact List.forall_mem_cons.mpr ⟨hlt.le, ih hl⟩
      next hge =>
        cases h
        exact List.forall_mem_cons.mpr ⟨le_rfl, fun x hx => (not_lt.mp hge).trans (ih hl x hx)⟩

theorem exec_seenEntryExpiry {s : State} {e : Seen} (h : firstSeen s.dlv.seen = some e) : exec .seenEntryExpiry s
    = .next (({ s with tick := max s.tick e.due, dlv := { s.dlv with seen := s.dlv.seen.erase e } } : State).setFld
      .DLV_SEEN_seen_used 0 (s.dlv.seen.erase e).length) := by
  show execSeenEntryExpiry s = _
  rw [execSeenEntryExpiry, h]
  rfl

/-! MESSAGE_HANDOVER (R396). -/

theorem State.retryRoutes_none {s : State} (hg : s.pat.contacts.groups = []) (hp : s.pat.serial = []) (ch : Nat) :
    s.retryRoutes ch = s := by
  unfold State.retryRoutes
  rw [hg]
  dsimp only [List.filter_nil, List.foldl_nil]
  rw [hp]
  rfl

theorem exec_messageHandover {s u : State} {ch : Nat} (h : s.takeNext ch = u) (hg : u.pat.contacts.groups = [])
    (hp : u.pat.serial = []) : exec (.messageHandover ch) s = .next u :=
  congrArg Host.Outcome.next ((congrArg (·.retryRoutes ch) h).trans (State.retryRoutes_none hg hp ch))

theorem State.takeNext_empty {s : State} (h : s.host.queues = []) (ch : Nat) : s.takeNext ch = s := by
  have heads : s.queueHeads ch = [] := by simp [State.queueHeads, h]
  unfold State.takeNext
  rw [heads]
  dsimp only [List.find?_nil]
  split
  · rfl
  · rfl

theorem State.takeNext_urgent {s u : State} {ch : Nat} {m : QMsg}
    (h : (s.queueHeads ch).find? (fun x => x.prio == 3 && (s.takeMsg x).isSome) = some m) (hu : s.takeMsg m = some u) :
    s.takeNext ch = u := by
  rw [State.takeNext, h]
  exact congrArg (·.getD s) hu

theorem State.takeNext_sliced {s u : State} {ch k : Nat} {m : QMsg} {l : List QMsg}
    (h : (s.queueHeads ch).find? (fun x => x.prio == 3 && (s.takeMsg x).isSome) = none) (hk : s.sliceAt ch = some k)
    (hm : (s.queueHeads ch).filter (fun x => x.prio != 3) = m :: l) (hu : (s.reach k).takeMsg m = some u) : s.takeNext ch = u := by
  rw [State.takeNext, h, hk]
  dsimp only
  rw [hm, if_neg (List.cons_ne_nil m l), State.takeFirst, hu]
  rfl

/-! ETHERNET_EGRESS (R404). -/

theorem State.sendOhi_none {s : State} (h : s.host.ohiIn = []) : s.sendOhi = s := by
  unfold State.sendOhi
  simp only [h, List.filter_nil, List.foldl_nil]
  rw [← h]

theorem State.deliverDone_none {s : State} (h : s.dlv.done = []) : s.deliverDone = s := by
  unfold State.deliverDone
  simp only [h, List.foldl_nil]
  rw [← h]

/-- The bytes sent are counted in each millisecond anew (R404). -/
def State.startMs (s : State) : State :=
  if s.host.egMs = s.tick / 200000 then s else { s with host := { s.host with egMs := s.tick / 200000, egBytes := [] } }

theorem exec_ethernetEgress_down {s : State} {p : Nat} (ho : s.host.ohiIn = []) (hl : s.linkUp p = false) :
    exec (.ethernetEgress p) s = .next s.startMs := by
  have queued : s.startMs.host.ohiIn = [] := by unfold State.startMs; split <;> exact ho
  have down : s.startMs.linkUp p = false := by unfold State.startMs; split <;> exact hl
  show Host.Outcome.next (let u := s.startMs.sendOhi; if 2 ≤ p ∨ u.linkUp p = false then u else _) = _
  dsimp only
  rw [State.sendOhi_none queued, if_pos (.inr down)]

theorem exec_ethernetEgress_sends {s : State} {p : Nat} {f : EgFrame} (hp : p < 2) (ho : s.host.ohiIn = []) (hl : s.linkUp p = true)
    (hms : s.host.egMs = s.tick / 200000) (hout : ∀ o ∈ s.tim.out, o.port ≠ p) (hf : s.nextEgress p = some f)
    (hd : s.dlv.done = []) : exec (.ethernetEgress p) s = .next (s.sendEgress p f) := by
  have ptp : s.tim.out.find? (fun o => o.port == p && o.launch.isNone) = none :=
    List.find?_eq_none.mpr fun o ho => by simp [hout o ho]
  have delivered : (s.sendEgress p f).deliverDone = s.sendEgress p f := State.deliverDone_none hd
  show execEthernetEgress p s = _
  unfold execEthernetEgress
  dsimp only
  rw [if_pos hms, State.sendOhi_none ho, if_neg (by simp [hl, hp]), ptp]
  dsimp only
  rw [hf]
  exact congrArg Host.Outcome.next delivered

/-- Settles O39: each event as the operation it is, then what that leaves. -/
theorem acknowledgementsAndDeadlines : Obligations.AcknowledgementsAndDeadlines := by
  refine ⟨fun s ch a ha htr => ⟨fun h => ?unawaited, fun f hf hmine hsegs hmsgs hmids hprio hlen => ?ends⟩,
    fun s ch f rest h hsegs hmsgs => ?missing, fun s ch => ⟨_, rfl, fun g hg => ?deadline⟩, fun s m h => ?discard,
    fun s e h => ⟨firstSeen_le h, exec_seenEntryExpiry h⟩,
    fun s ch h hg hp => exec_messageHandover (State.takeNext_empty h ch) hg hp,
    fun s u ch m hg hp => ⟨fun h hu => exec_messageHandover (State.takeNext_urgent h hu) hg hp,
      fun l k h hk hm hu => exec_messageHandover (State.takeNext_sliced h hk hm hu) hg hp⟩,
    fun s p ho hl => ⟨_, exec_ethernetEgress_down ho hl, ?down⟩,
    fun s p f hp ho hl hms hout hf hd => ⟨_, exec_ethernetEgress_sends hp ho hl hms hout hf hd, rfl, rfl, rfl⟩⟩
  case unawaited =>
    have taken : (s.takeHeard ch a).takeAck ch a.fc = s.takeHeard ch a :=
      State.takeAck_unawaited (by rw [State.chan_takeHeard]; exact h)
    rw [exec_ackRx ha, taken, State.reviewMaps_training (s := s.takeHeard ch a) htr]
  case ends =>
    obtain ⟨names, hexec, hawait, hcw, hflds⟩ := exec_ackRx_ends ha htr hf hmine hsegs hmsgs hprio
    obtain ⟨hsame, -, hdlv, -⟩ := State.exchangeOk_spec (s := (s.takeHeard ch a).acked ch a.fc f names) (ch := ch) hprio
    refine ⟨_, hexec, hsame.trans hawait, ?_, ?_⟩
    · rw [State.cwOf_exchangeOk hprio (by rw [hcw]; exact hlen), State.cwMin_kept hflds]
    · rw [State.txFlow_congr hdlv]
      exact State.txFlow_acked ..
  case missing =>
    obtain ⟨hawait, hregs⟩ := (s.endAwait ch f (fun _ => false)).exchangeFailed_spec ch f.fc.prio
    refine ⟨_, exec_ackMissing h hsegs hmsgs, ?_, ?_⟩
    · rw [hawait, State.chan_endAwait, h]
      exact List.erase_cons_head ..
    · rw [State.fld_congr hregs, State.fld_bump, if_pos ⟨rfl, rfl⟩, s.endAwait_flds ch f _ _ _ (by simp)]
  case deadline =>
    obtain ⟨hmem, hpick⟩ := State.mem_abandonSegs hg
    exact ⟨hmem, by simpa using hpick⟩
  case discard =>
    obtain ⟨hdone, hregs⟩ := ({ s with dlv := { s.dlv with done := s.dlv.done.erase m } } : State).giveRx_kept m.pool
    refine ⟨_, exec_rxMessageDiscard h, hdone, ?_, ?_⟩
    · rw [State.fld_bump, if_pos ⟨rfl, rfl⟩, State.fld_congr hregs]
      rfl
    · exact ((FldsKept.refl _ s).congr hregs).bump (by simp)
  case down =>
    unfold State.startMs
    split
    next h => exact ⟨h, rfl, rfl⟩
    next => exact ⟨rfl, rfl, rfl⟩

end Sys2Proof.Machine
end

section
/-! SUPPORT. Dormant partners (R283 to R302): what a record written leaves, a message handed over, the rendezvous exchange, the wake
sequences and the DRM commands. -/

namespace Sys2Proof.Machine

/-! Records. -/

theorem State.drec_setRec (s : State) (r x : Nat) (d : DrmRec) : (s.setRec r d).drec x = if x = r then d else s.drec x :=
  tget_tput ..

@[simp] theorem State.drec_setRec_same (s : State) (r : Nat) (d : DrmRec) : (s.setRec r d).drec r = d :=
  (s.drec_setRec r r d).trans (if_pos rfl)

theorem State.drec_setRec_ne (s : State) {r x : Nat} (h : x ≠ r) (d : DrmRec) : (s.setRec r d).drec x = s.drec x :=
  (s.drec_setRec r x d).trans (if_neg h)

@[simp] theorem State.drec_bump (s : State) (F : Fld) (i r : Nat) : (s.bump F i).drec r = s.drec r := rfl

theorem State.drec_congr {s t : State} (h : t.drm.recs = s.drm.recs) (r : Nat) : t.drec r = s.drec r := by
  rw [State.drec, h, State.drec]

theorem State.recOf_congr {s t : State} (h : t.drm.recs = s.drm.recs) (ch a : Nat) : t.recOf ch a = s.recOf ch a := by
  rw [State.recOf, h, State.recOf]

theorem State.log_drm (s : State) (code panel inst data : Nat) : (s.log code panel inst data).drm = s.drm := by
  have h := congrArg State.drm (s.log_kept code panel inst data).rest; simpa using h

theorem State.setRec_flds (s : State) (r : Nat) (d : DrmRec) : FldsKept [(.DRM_STATUS_rec_used, 0)] s (s.setRec r d) :=
  ((FldsKept.refl _ s).congr rfl).setFld _ (by simp)

theorem State.fld_setRec (s : State) (r : Nat) (d : DrmRec) {F : Fld} (h : F ≠ .DRM_STATUS_rec_used) (i : Nat) :
    (s.setRec r d).fld F i = s.fld F i := s.setRec_flds r d F i (by simp [h])

theorem FldsKept.setRec {fs : List (Fld × Nat)} {s t : State} (h : FldsKept fs s t) (r : Nat) (d : DrmRec)
    (hm : (.DRM_STATUS_rec_used, 0) ∈ fs) : FldsKept fs s (t.setRec r d) :=
  h.trans ((t.setRec_flds r d).mono (by simpa using hm))

theorem FldsKept.reach {fs : List (Fld × Nat)} {s t : State} (h : FldsKept fs s t) (n : Nat) : FldsKept fs s (t.reach n) := h.congr rfl

/-! A message handed over changes the sender's books alone. -/

theorem State.takeDesc_dlv {s : State} {prio panel : Nat} {x : Pool × State} (h : s.takeDesc prio panel = some x) :
    ∃ d, x.2 = { s with dlv := d } := by
  unfold State.takeDesc at h
  dsimp only at h
  split at h
  · split at h
    · cases h; exact ⟨_, rfl⟩
    · split at h <;> cases h; exact ⟨_, rfl⟩
  · split at h
    · split at h <;> cases h; exact ⟨_, rfl⟩
    · split at h <;> cases h; exact ⟨_, rfl⟩

theorem State.handover_dlv {s t : State} {panel ch peer prio : Nat} {ackReq enc : Bool} {ep : Nat} {data : List Byte}
    {tm : Option TmMsg} {launch : Option Nat} (h : s.handover panel ch peer prio ackReq enc ep data tm launch = some t) :
    ∃ d, t = { s with dlv := d } := by
  unfold State.handover at h
  split at h
  · cases h
  · split at h
    · cases h
    next pool u hu =>
      obtain ⟨d, hd⟩ := State.takeDesc_dlv hu
      cases h
      exact ⟨_, by rw [State.enqueue, show u = { s with dlv := d } from hd]⟩

theorem State.sendDevice_dlv (s : State) (ch peer : Nat) (ackReq : Bool) (ep : Nat) (data : List Byte) (tm : Option TmMsg) :
    ∃ d, s.sendDevice ch peer ackReq ep data tm = { s with dlv := d } := by
  unfold State.sendDevice
  dsimp only
  split
  · exact ⟨_, rfl⟩
  · cases h : s.handover ((s.owner ch).getD 0) ch peer 2 ackReq false ep data tm with
    | none => exact ⟨_, rfl⟩
    | some t => exact State.handover_dlv h

/-! Sleep requests (R284 to R286). -/

theorem exec_sleepReq_bad {ch a : Nat} {m : List Byte} (h : m.length ≠ 8 ∨ beAt m 0 1 ≠ 1 ∨ beAt m 1 1 ≠ 1) (s : State) :
    exec (.sleepReq ch a m) s = .next (s.bump .DLV_EP_CNT_ep_unknown 0) :=
  congrArg Host.Outcome.next (if_pos h)

section
variable {s : State} {ch a r : Nat} {m : List Byte} {it : DormItem}
  (hm : ¬(m.length ≠ 8 ∨ beAt m 0 1 ≠ 1 ∨ beAt m 1 1 ≠ 1)) (hit : s.dormItem ch = some it) (hr : s.recOf ch a = none)
include hm hit hr

theorem exec_sleepReq_full (hf : s.firstFree = none) :
    ∃ d n, exec (.sleepReq ch a m) s = .next { s.bump .DRM_MISC_CNT_rec_full 0 with dlv := d, free := n } := by
  obtain ⟨d, hd⟩ := (s.bump .DRM_MISC_CNT_rec_full 0).drawFree.2.sendDevice_dlv ch a true 0xFFE2
    (sleepAns ((s.bump .DRM_MISC_CNT_rec_full 0).drawFree.1 % 65536) 1 ((s.bump .DRM_MISC_CNT_rec_full 0).drawFree.1 / 65536 % 16)
      ((s.bump .DRM_MISC_CNT_rec_full 0).drawFree.1 / 2 ^ 20 % 8)) none
  refine ⟨d, s.free + 1, ?_⟩
  show Host.Outcome.next (s.sleepMessage ch a m) = _
  rw [State.sleepMessage, if_neg hm, hr]
  dsimp only
  rw [hit, hf]
  exact congrArg _ hd

/-- The record of a request that is granted (R285). -/
def DormItem.grant (it : DormItem) (ch a group v : Nat) (m : List Byte) : DrmRec :=
  { st := .syncing, ch := ch, addr := a, group := group, carrier := it.carrier, period := min it.periodMax (max it.periodMin (beAt m 2 2))
    bound := beAt m 4 2 * 65536, tol := beAt m 4 2, lastCount := v % 4096 }

theorem exec_sleepReq_granted (hf : s.firstFree = some r) : ∃ d n v, exec (.sleepReq ch a m) s
    = .next { s.setRec r (it.grant ch a (s.pickGroup it.groups) v m) with dlv := d, free := n } := by
  obtain ⟨d, hd⟩ := (s.drawFree.2.setRec r (it.grant ch a (s.pickGroup it.groups) s.drawFree.1 m)).sendDevice_dlv ch a true 0xFFE2
    (sleepAns (min it.periodMax (max it.periodMin (beAt m 2 2))) 0 (s.pickGroup it.groups) it.carrier) none
  refine ⟨d, s.free + 1, s.drawFree.1, ?_⟩
  show Host.Outcome.next (s.sleepMessage ch a m) = _
  rw [State.sleepMessage, if_neg hm, hr]
  dsimp only
  rw [hit, hf]
  exact congrArg _ hd

end

/-! SYNCING. -/

theorem exec_syncingTimeout_idle {s : State} {r : Nat} (h : (s.drec r).st ≠ .syncing ∨ (s.drec r).grantAck = none ∨ (s.drec r).wsSeen = true) :
    exec (.syncingTimeout r) s = .next s := by
  show execSyncingTimeout r s = _
  unfold execSyncingTimeout
  split
  · rfl
  next k hk => exact congrArg _ (if_neg (by simpa [hk, imp_iff_not_or] using h))

theorem exec_syncingTimeout {s : State} {r k : Nat} (hs : (s.drec r).st = .syncing) (hk : (s.drec r).grantAck = some k)
    (hw : (s.drec r).wsSeen = false) : exec (.syncingTimeout r) s = .next ((s.reach (s.slotTick (k + 256))).freeRec r) := by
  show execSyncingTimeout r s = _
  rw [execSyncingTimeout, hk]
  exact congrArg _ (if_pos ⟨hs, hw⟩)

/-! Listen windows (R290, R291, R294). -/

theorem exec_listenWindowOpen {s : State} {r : Nat} {w : Nat × Nat} (hw : s.listenWindow (s.drec r) = some w)
    (hs : (s.drec r).st = .dormant) (ho : (s.drec r).winOpen = none ∨ (s.drec r).closed = true) : exec (.listenWindowOpen r) s
      = .next ((s.reach w.1).setRec r { s.drec r with winOpen := some w, kept := false, closed := false }) := by
  show execListenWindowOpen r s = _
  unfold execListenWindowOpen
  dsimp only
  rw [hw]
  exact congrArg _ (if_pos ⟨hs, ho⟩)

theorem exec_listenWindowClose_shut {s : State} {r : Nat} (h : (s.drec r).winOpen = none ∨ (s.drec r).closed = true) :
    exec (.listenWindowClose r) s = .next s := by
  show execListenWindowClose r s = _
  unfold execListenWindowClose
  dsimp only
  split
  · rfl
  next w hw => exact congrArg _ (if_pos (.inl (h.resolve_left (by simp [hw]))))

/-- A window closed without a rendezvous declares a miss (R291). -/
def State.declareMiss (s : State) (r : Nat) : State :=
  (s.setRec r { s.drec r with misses := (s.drec r).misses + 1, closed := true }).bump .DRM_RDV_CNT_rdv_miss 0

/-- The misses that wake a partner (R294). -/
def State.missLimit (s : State) (ch : Nat) : Nat := ((s.dormItem ch).map (·.missLimit)).getD 1

theorem exec_listenWindowClose {s : State} {r : Nat} {w : Nat × Nat} (hw : (s.drec r).winOpen = some w)
    (hs : (s.drec r).st = .dormant) (hc : (s.drec r).closed = false) : exec (.listenWindowClose r) s = .next (
      if (s.drec r).kept = true then (s.reach w.2).setRec r { s.drec r with closed := true }
      else if s.missLimit (s.drec r).ch ≤ (s.drec r).misses + 1 then ((s.reach w.2).declareMiss r).startWaking r
      else (s.reach w.2).declareMiss r) := by
  show execListenWindowClose r s = _
  unfold execListenWindowClose
  dsimp only
  split
  next h => exact absurd (hw.symm.trans h) nofun
  next x hx =>
    obtain rfl := Option.some.inj (hw.symm.trans hx)
    exact congrArg Host.Outcome.next (if_neg (not_or.mpr ⟨ne_true_of_eq_false hc, not_not.mpr hs⟩))

theorem State.startWaking_from {s : State} {r : Nat} (h : (s.drec r).st = .dormant ∨ (s.drec r).st = .awake) : s.startWaking r
    = (s.setRec r { s.drec r with st := .waking, seqs := 0, toneWait := true }).bump .DRM_TONE_CNT_tones 0 := if_pos h

/-- What a miss leaves: one more of them, and the partner woken where it was the last allowed. -/
theorem State.declareMiss_spec {s : State} {r : Nat} (hs : (s.drec r).st = .dormant) (n : Nat) (limit : Prop) [Decidable limit] :
    let t := if limit then ((s.reach n).declareMiss r).startWaking r else (s.reach n).declareMiss r
    t.tick = max s.tick n ∧ t.drec r = (if limit then
        { s.drec r with misses := (s.drec r).misses + 1, closed := true, st := .waking, seqs := 0, toneWait := true }
      else { s.drec r with misses := (s.drec r).misses + 1, closed := true }) ∧
    t.fld .DRM_RDV_CNT_rdv_miss 0 = min (s.fld .DRM_RDV_CNT_rdv_miss 0 + 1) (2 ^ Fld.width .DRM_RDV_CNT_rdv_miss - 1) ∧
    FldsKept [(.DRM_STATUS_rec_used, 0), (.DRM_RDV_CNT_rdv_miss, 0), (.DRM_TONE_CNT_tones, 0)] s t := by
  intro t
  have missed : ((s.reach n).declareMiss r).drec r = { s.drec r with misses := (s.drec r).misses + 1, closed := true } :=
    State.drec_setRec_same ..
  have counted : ((s.reach n).declareMiss r).fld .DRM_RDV_CNT_rdv_miss 0
      = min (s.fld .DRM_RDV_CNT_rdv_miss 0 + 1) (2 ^ Fld.width .DRM_RDV_CNT_rdv_miss - 1) := by
    rw [State.declareMiss, State.fld_bump, if_pos ⟨rfl, rfl⟩, State.fld_setRec _ _ _ (by decide)]
    rfl
  have kept : FldsKept [(.DRM_STATUS_rec_used, 0), (.DRM_RDV_CNT_rdv_miss, 0), (.DRM_TONE_CNT_tones, 0)] s
      ((s.reach n).declareMiss r) := by
    unfold State.declareMiss
    exact (((FldsKept.refl _ s).reach n).setRec r _ (by simp)).bump (by simp)
  by_cases hl : limit
  · have ht : t = (((s.reach n).declareMiss r).setRec r
        { ((s.reach n).declareMiss r).drec r with st := .waking, seqs := 0, toneWait := true }).bump .DRM_TONE_CNT_tones 0 :=
      (if_pos hl).trans (State.startWaking_from (.inl (by rw [missed]; exact hs)))
    rw [ht, if_pos hl, missed]
    refine ⟨rfl, State.drec_setRec_same .., ?_, (kept.setRec _ _ (by simp)).bump (by simp)⟩
    rw [State.fld_bump, if_neg (by simp), State.fld_setRec _ _ _ (by decide), counted]
  · have ht : t = (s.reach n).declareMiss r := if_neg hl
    rw [ht, if_neg hl]
    exact ⟨rfl, missed, counted, kept⟩

/-! WAKE_SYNC frames (R288 to R292, R299). -/

theorem State.learnDrift_flds (s : State) (r tArr count k : Nat) :
    FldsKept [(.DRM_STATUS_rec_used, 0)] s (s.learnDrift r tArr count k) := by
  unfold State.learnDrift
  dsimp only
  split
  · exact FldsKept.refl _ s
  · split <;> exact ((FldsKept.refl _ s).congr rfl).setRec r _ (by simp)

/-- A partner of the link is heard: the module owes it a reply, and the link may be established (R238, R288). -/
def State.meetPartner (s : State) (ch : Nat) (fc : FC) (tick : Nat) : State := (s.oweReply ch fc tick).establish ch fc.src

theorem State.meetPartner_kept (s : State) (ch : Nat) (fc : FC) (tick : Nat) :
    (s.meetPartner ch fc tick).regs = s.regs ∧ (s.meetPartner ch fc tick).drm.recs = s.drm.recs := by
  have owed : (s.oweReply ch fc tick).regs = s.regs ∧ (s.oweReply ch fc tick).drm.recs = s.drm.recs := by
    unfold State.oweReply
    dsimp only
    split <;> exact ⟨rfl, rfl⟩
  refine ⟨((s.oweReply ch fc tick).establish_kept ch fc.src).1.trans owed.1, Eq.trans ?_ owed.2⟩
  unfold State.meetPartner State.establish
  split <;> rfl

/-- A WAKE_SYNC that the channel passes over (R287, R288). -/
abbrev State.wakeForeign (s : State) (ch : Nat) (fc : FC) : Prop :=
  fc.typ ≠ 6 ∨ fc.ver ≠ 0 ∨ fc.link ≠ s.fld .CHN_CFG_link_id ch ∨ fc.dst ≠ s.ownAddr ch ∨ wsDir fc.body ≠ 0 ∨
    s.fld .CHN_STATUS_role ch ≠ 0 ∨ s.chState ch = chOff ∨ s.chState ch = chFault ∨ s.isBanned ch fc.src = true ∨ wsKind fc.body = 3

section
variable {s : State} {ch tick : Nat} {fc : FC}

theorem State.wakeSync_foreign (h : s.wakeForeign ch fc) : s.wakeSync ch fc tick = s := if_pos h

theorem State.wakeSync_unknown (h : ¬s.wakeForeign ch fc) (hr : s.recOf ch fc.src = none) :
    s.wakeSync ch fc tick = (s.meetPartner ch fc tick).bump .DRM_MISC_CNT_ws_unknown 0 := by
  refine (if_neg h).trans ?_
  have known := State.recOf_congr (s.meetPartner_kept ch fc tick).2 ch fc.src
  unfold State.meetPartner at known ⊢
  rw [known, hr]

/-- A partner of a record that is not SYNCING, woken by the tone (R299). -/
theorem State.wakeSync_toneWoken {r : Nat} (h : ¬s.wakeForeign ch fc) (hr : s.recOf ch fc.src = some r) (hs : (s.drec r).st ≠ .syncing)
    (hk : wsKind fc.body = 1) : s.wakeSync ch fc tick = ((s.meetPartner ch fc tick).setRec r
      { s.drec r with bound := (s.drec r).tol * 65536, misses := 0, seqs := 0, toneWait := false }).bump .DRM_TONE_CNT_tone_wake 0 := by
  refine (if_neg h).trans ?_
  obtain ⟨-, hrecs⟩ := s.meetPartner_kept ch fc tick
  have known := State.recOf_congr hrecs ch fc.src
  have same := State.drec_congr hrecs r
  unfold State.meetPartner at known same ⊢
  rw [known, hr]
  dsimp only
  rw [same, if_neg hs, if_neg (by simp [hk]), if_pos hk]

/-- The register fields a WAKE_SYNC may change. -/
theorem State.wakeSync_flds (s : State) (ch : Nat) (fc : FC) (tick : Nat) : FldsKept [(.DRM_STATUS_rec_used, 0),
    (.DRM_MISC_CNT_ws_unknown, 0), (.DRM_RDV_CNT_rdv_kept, 0), (.DRM_TONE_CNT_tone_wake, 0)] s (s.wakeSync ch fc tick) := by
  unfold State.wakeSync
  dsimp only
  split
  · exact FldsKept.refl _ s
  · have met : FldsKept [(.DRM_STATUS_rec_used, 0), (.DRM_MISC_CNT_ws_unknown, 0), (.DRM_RDV_CNT_rdv_kept, 0),
        (.DRM_TONE_CNT_tone_wake, 0)] s ((s.oweReply ch fc tick).establish ch fc.src) :=
      (FldsKept.refl _ s).congr (s.meetPartner_kept ch fc tick).1
    split
    · exact met.bump (by simp)
    · split
      · exact met.setRec _ _ (by simp)
      · split
        · refine FldsKept.trans ?_ (FldsKept.mono (State.learnDrift_flds _ _ _ _ _) (by simp))
          exact (met.setRec _ _ (by simp)).bump (by simp)
        · split
          · exact (met.setRec _ _ (by simp)).bump (by simp)
          · exact met

end

/-- Taking a frame from the pipe changes nothing of whose WAKE_SYNC frames the channel passes over. -/
theorem State.wakeForeign_takeHeard (s : State) (ch : Nat) (f : RxFrame) (fc : FC) :
    (s.takeHeard ch f).wakeForeign ch fc ↔ s.wakeForeign ch fc := by
  have banned : (s.takeHeard ch f).isBanned ch fc.src = s.isBanned ch fc.src := by
    unfold State.isBanned
    rw [State.chan_takeHeard]
    rfl
  unfold State.wakeForeign
  rw [banned]
  rfl

theorem State.reviewMaps_notLive {s : State} {ch : Nat} (h : s.chState ch ≠ chLive) : s.reviewMaps ch = s := if_pos (.inl h)

/-- WAKE_SYNC_RX of a channel that is not LIVE: no map is reviewed. -/
theorem exec_wakeSyncRx {s : State} {ch : Nat} {f : RxFrame} (hf : s.heard ch (fun fc => fc.typ == 6) = some f)
    (hl : s.chState ch ≠ chLive) : exec (.wakeSyncRx ch) s = .next ((s.takeHeard ch f).wakeSync ch f.fc (f.at_ / 32)) := by
  have same : ((s.takeHeard ch f).wakeSync ch f.fc (f.at_ / 32)).chState ch = s.chState ch :=
    State.wakeSync_flds _ _ _ _ .CHN_STATUS_state ch (by simp)
  show execWakeSyncRx ch s = _
  rw [execWakeSyncRx, hf]
  exact congrArg _ (State.reviewMaps_notLive (by rw [same]; exact hl))

section
variable {s : State} {ch : Nat} {f : RxFrame} (hf : s.heard ch (fun fc => fc.typ == 6) = some f) (hl : s.chState ch ≠ chLive)
  (hw : ¬s.wakeForeign ch f.fc)
include hf hl hw

theorem exec_wakeSyncRx_unknown (hr : s.recOf ch f.fc.src = none) : exec (.wakeSyncRx ch) s
    = .next (((s.takeHeard ch f).meetPartner ch f.fc (f.at_ / 32)).bump .DRM_MISC_CNT_ws_unknown 0) := by
  rw [exec_wakeSyncRx hf hl, State.wakeSync_unknown (mt (s.wakeForeign_takeHeard ch f f.fc).mp hw) hr]

theorem exec_wakeSyncRx_toneWoken {r : Nat} (hr : s.recOf ch f.fc.src = some r) (hs : (s.drec r).st ≠ .syncing)
    (hk : wsKind f.fc.body = 1) : exec (.wakeSyncRx ch) s = .next ((((s.takeHeard ch f).meetPartner ch f.fc (f.at_ / 32)).setRec r
      { s.drec r with bound := (s.drec r).tol * 65536, misses := 0, seqs := 0, toneWait := false }).bump .DRM_TONE_CNT_tone_wake 0) := by
  rw [exec_wakeSyncRx hf hl, State.wakeSync_toneWoken (mt (s.wakeForeign_takeHeard ch f f.fc).mp hw) hr hs hk]
  rfl

end

/-! Replies (R288). -/

theorem State.replyFor_free (s : State) (w : WakeOwe) : ∃ n, (s.replyFor w).2 = { s with free := n } := by
  unfold State.replyFor
  split <;> exact ⟨_, rfl⟩

/-- A reply is no longer owed. -/
def State.dropOwe (s : State) (w : WakeOwe) : State := { s with drm := { s.drm with owe := s.drm.owe.erase w } }

/-- The reply owed first is committed at the first slot it may take. -/
theorem exec_wakeSyncReply {s : State} {ch k : Nat} {w : WakeOwe} (hw : s.drm.owe.find? (fun w => w.ch == ch) = some w)
    (hs : s.effState ch = chArmed ∨ s.effState ch = chTraining ∨ s.effState ch = chLive) (hk : s.replySlot w = some k) :
    ∃ (t : State) (f : Frame), exec (.wakeSyncReply ch) s = .next t ∧ t.drm = (s.dropOwe w).drm ∧
      t.grid.committed = s.grid.committed ++ [f] ∧ f.ch = ch ∧ f.slot = k ∧ f.kind = .wakeReply ∧ f.fc.typ = 6 ∧ f.fc.dst = w.addr := by
  have asked : (s.dropOwe w).effState ch = s.effState ch := rfl
  have slot : (s.dropOwe w).replySlot w = some k := hk
  obtain ⟨n, hn⟩ := (s.dropOwe w).replyFor_free w
  show ∃ t f, execWakeSyncReply ch s = _ ∧ _
  unfold execWakeSyncReply
  rw [hw]
  dsimp only
  rw [← State.dropOwe, asked, if_neg (not_not.mpr hs), slot]
  dsimp only
  rw [hn]
  exact ⟨_, _, rfl, rfl, rfl, rfl, rfl, rfl, rfl, rfl⟩

/-! Wake sequences (R294, R295, R299) and the hold of an AWAKE record (R301). -/

/-- The first slot not yet committed. -/
abbrev State.freeSlot (s : State) : Nat := s.grid.slot + s.commitAhead

/-- Repetitions of the code in a sequence of a channel. -/
abbrev State.toneReps (s : State) (ch : Nat) : Nat := ((s.dormItem ch).map (·.toneReps)).getD 1

/-- The sequence a record starts. -/
def State.toneOf (s : State) (r : Nat) : Tone :=
  ⟨(s.drec r).ch, r, s.freeSlot, s.toneReps (s.drec r).ch, (s.drec r).carrier, (s.drec r).group⟩

theorem exec_wakeSequenceStart_spec {s : State} {r : Nat} (hs : (s.drec r).st = .waking) (hw : (s.drec r).toneWait = true)
    (ht : s.drm.tones.any (fun t => t.ch == (s.drec r).ch) = false) (hsegs : s.dlv.segs = []) (hcopies : s.dlv.copies = [])
    (hcom : s.grid.committed = []) (hl : s.effState (s.drec r).ch = chLive)
    (hd : s.duplexHeld (s.drec r).ch s.freeSlot (ceilDiv (toneLen (s.toneReps (s.drec r).ch)) s.ls) = false)
    (hm : s.maskedFor (s.drec r).ch [toneCarrier (s.drec r).carrier] 0 = false) : ∃ t : State, exec (.wakeSequenceStart r) s = .next t ∧
      (t.drec r).seqs = (s.drec r).seqs + 1 ∧ (t.drec r).toneWait = false ∧ t.drm.tones = s.drm.tones ++ [s.toneOf r] := by
  show ∃ t, execWakeSequenceStart r s = _ ∧ _
  unfold execWakeSequenceStart
  dsimp only
  rw [if_neg (by simp [hs, hw, ht, hsegs, hcopies, hcom, hl, hd]), if_neg (by simp [hm])]
  have same := s.drec_setRec_same r { s.drec r with seqs := (s.drec r).seqs + 1, toneWait := false }
  exact ⟨_, rfl, congrArg DrmRec.seqs same, congrArg DrmRec.toneWait same, rfl⟩

section
variable {s : State} {r : Nat} (hs : (s.drec r).st = .waking) (hw : (s.drec r).toneWait = false) (hq : (s.drec r).seqs ≠ 0)
  (ht : s.drm.tones.any (fun t => t.rix == r) = false)
include hs hw hq ht

/-- The last tick a channel listens for after its sequences. -/
def State.listenEnd (s : State) (ch : Nat) : Nat := ((s.drm.listens.filter (fun l => l.1 == ch)).map (·.2.2)).foldl max 0

theorem exec_wakeListenExpiry : exec (.wakeListenExpiry r) s = .next (
    let u := s.reach (s.listenEnd (s.drec r).ch)
    if (s.drec r).seqs < s.fld .DRM_CFG_tone_tries 0 then u.setRec r { s.drec r with toneWait := true }
    else ((u.freeRec r).bump .DRM_MISC_CNT_lost 0).log 0x3001 (s.evOwner (s.drec r).ch) (s.drec r).ch (r + 65536 * (s.drec r).addr)) :=
  congrArg Host.Outcome.next (if_neg (by simp [hs, hw, hq, ht]))

end

theorem exec_awakeHoldExpiry_holds {s : State} {r : Nat} (h : s.grid.hem < (s.drec r).since + (s.drec r).hold) :
    exec (.awakeHoldExpiry r) s = .next s := congrArg Host.Outcome.next (if_neg (by omega))

theorem exec_awakeHoldExpiry {s : State} {r : Nat} (hs : (s.drec r).st = .awake) (h : (s.drec r).since + (s.drec r).hold ≤ s.grid.hem) :
    exec (.awakeHoldExpiry r) s = .next (s.setRec r { s.drec r with st := .dormant, misses := 0, winOpen := none, kept := false }) :=
  congrArg Host.Outcome.next (if_pos ⟨hs, h⟩)

/-! The DRM commands (R302). -/

theorem featGate_inForce {s : State} {b : Nat} (h : s.inForce b = true) (k : State × Option Resp) : featGate s b k = k := by
  simp [featGate, State.featRes, h]

/-- What a DRM command of PNL0 answers, of a record in range with the feature in force. -/
theorem drmCmd_passes {s : State} {p r : Nat} (hr : r < s.recLimit) (hp : p = 0) (hf : s.inForce 9 = true)
    (k : DrmRec → State × Option Resp) : drmCmd s p r k = k (s.drec r) := by
  unfold drmCmd
  rw [if_neg (by omega), if_neg (by simp [hp]), featGate_inForce hf]

section
variable {s : State} {c : Cmd} {r : Nat} (ht : s.Takes c) (hr : r < s.recLimit) (hp : c.pnl = 0) (hf : s.inForce 9 = true)
include ht hr hp hf

theorem exec_drmQuery : exec (.drmQuery c r) s = .next (s.answer c 0x3001 ⟨.ok, ((recWords (s.drec r)).map (le 4)).flatten⟩) := by
  show execDrmQuery c r s = _
  rw [execDrmQuery, opDrmQuery, drmCmd_passes hr hp hf, ohi_takes ht]

theorem exec_drmWake_badState (h : (s.drec r).st = .free) : exec (.drmWake c r) s = .next (s.answer c 0x3002 (rsp .badState)) := by
  show execDrmWake c r s = _
  rw [execDrmWake, opDrmWake, drmCmd_passes hr hp hf, if_pos (.inl h), ohi_refuse ht]

theorem exec_drmWake (h : (s.drec r).st = .dormant ∨ (s.drec r).st = .awake) :
    exec (.drmWake c r) s = .next ((s.startWaking r).answer c 0x3002 (rsp .ok)) := by
  show execDrmWake c r s = _
  rw [execDrmWake, opDrmWake, drmCmd_passes hr hp hf, if_neg (by rcases h with h | h <;> simp [h]), ohi_takes ht]

theorem exec_drmRelease_badState (h : (s.drec r).st = .free) : exec (.drmRelease c r) s = .next (s.answer c 0x3003 (rsp .badState)) := by
  show execDrmRelease c r s = _
  rw [execDrmRelease, opDrmRelease, drmCmd_passes hr hp hf, if_pos h, ohi_refuse ht]

theorem exec_drmRelease (h : (s.drec r).st ≠ .free) : exec (.drmRelease c r) s = .next ((s.freeRec r).answer c 0x3003 (rsp .ok)) := by
  show execDrmRelease c r s = _
  rw [execDrmRelease, opDrmRelease, drmCmd_passes hr hp hf, if_neg h, ohi_takes ht]

end

/-- What waking a partner leaves. -/
theorem State.startWaking_spec {s : State} {r : Nat} (h : (s.drec r).st = .dormant ∨ (s.drec r).st = .awake) :
    (s.startWaking r).drec r = { s.drec r with st := .waking, seqs := 0, toneWait := true } ∧
      FldsKept [(.DRM_STATUS_rec_used, 0), (.DRM_TONE_CNT_tones, 0)] s (s.startWaking r) := by
  rw [State.startWaking_from h]
  exact ⟨State.drec_setRec_same .., ((FldsKept.refl _ s).setRec r _ (by simp)).bump (by simp)⟩

/-- What the end of a listen window leaves: closed, and a miss more where no rendezvous was kept. -/
theorem listenWindowClose_spec {s : State} {r : Nat} {w : Nat × Nat} (hw : (s.drec r).winOpen = some w)
    (hs : (s.drec r).st = .dormant) (hc : (s.drec r).closed = false) : ∃ t : State, exec (.listenWindowClose r) s = .next t ∧
      t.tick = max s.tick w.2 ∧ (t.drec r).closed = true ∧
      ((s.drec r).kept = true → (t.drec r).misses = (s.drec r).misses ∧ FldsKept [(.DRM_STATUS_rec_used, 0)] s t) ∧
      ((s.drec r).kept = false → (t.drec r).misses = (s.drec r).misses + 1 ∧
        (t.drec r).st = (if s.missLimit (s.drec r).ch ≤ (s.drec r).misses + 1 then .waking else .dormant) ∧
        t.fld .DRM_RDV_CNT_rdv_miss 0 = min (s.fld .DRM_RDV_CNT_rdv_miss 0 + 1) (2 ^ Fld.width .DRM_RDV_CNT_rdv_miss - 1) ∧
        FldsKept [(.DRM_STATUS_rec_used, 0), (.DRM_RDV_CNT_rdv_miss, 0), (.DRM_TONE_CNT_tones, 0)] s t) := by
  refine ⟨_, exec_listenWindowClose hw hs hc, ?_⟩
  by_cases hk : (s.drec r).kept = true
  · have same := (s.reach w.2).drec_setRec_same r { s.drec r with closed := true }
    rw [if_pos hk]
    exact ⟨rfl, congrArg DrmRec.closed same, fun _ => ⟨(congrArg DrmRec.misses same).trans rfl, ((FldsKept.refl _ s).reach w.2).setRec r _ (by simp)⟩,
      fun h => absurd (hk.symm.trans h) nofun⟩
  · obtain ⟨htick, hrec, hmiss, hkept⟩ := State.declareMiss_spec hs w.2 (s.missLimit (s.drec r).ch ≤ (s.drec r).misses + 1)
    rw [if_neg hk]
    refine ⟨htick, ?_, fun h => absurd h hk, fun _ => ⟨?_, ?_, hmiss, hkept⟩⟩
    · rw [hrec]; split <;> rfl
    · rw [hrec]; split <;> rfl
    · rw [hrec]; split
      · rfl
      · exact hs

theorem wakeListenExpiry_lost {s : State} {r : Nat} (hs : (s.drec r).st = .waking) (hw : (s.drec r).toneWait = false)
    (hq : (s.drec r).seqs ≠ 0) (ht : s.drm.tones.any (fun t => t.rix == r) = false)
    (hle : s.fld .DRM_CFG_tone_tries 0 ≤ (s.drec r).seqs) : ∃ t : State, exec (.wakeListenExpiry r) s = .next t ∧ t.drec r = {} ∧
      t.fld .DRM_MISC_CNT_lost 0 = min (s.fld .DRM_MISC_CNT_lost 0 + 1) (2 ^ Fld.width .DRM_MISC_CNT_lost - 1) ∧
      FldsKept ([(.DRM_STATUS_rec_used, 0), (.DRM_MISC_CNT_lost, 0)] ++ logFlds) s t := by
  refine ⟨_, exec_wakeListenExpiry hs hw hq ht, ?_⟩
  dsimp only
  rw [if_neg (Nat.not_lt.mpr hle)]
  refine ⟨?_, ?_, FldsKept.log (fs := [(.DRM_STATUS_rec_used, 0), (.DRM_MISC_CNT_lost, 0)]) ?_ _ _ _ _⟩
  · rw [State.drec_congr (congrArg DrmSt.recs (State.log_drm ..)), State.drec_bump]
    exact State.drec_setRec_same ..
  · rw [State.fld_log _ _ _ _ _ (by simp [logFlds]), State.fld_bump, if_pos ⟨rfl, rfl⟩, State.freeRec, State.fld_setRec _ _ _ (by decide)]
    rfl
  · exact (((FldsKept.refl _ s).reach _).setRec r {} (by simp)).bump (by simp)

/-- Settles O50: each row as the operation it is, then what that operation leaves of the records and the fields. -/
theorem dormantRecordsFollowTheirPartners : Obligations.DormantRecordsFollowTheirPartners := by
  refine ⟨fun s ch a m h => exec_sleepReq_bad h s,
    fun s ch a m it hlen h0 h1 hit hr => ⟨fun hf => ?full, fun r hf => ?granted⟩,
    fun s r => ⟨exec_syncingTimeout_idle, fun k hs hk hw => ⟨_, exec_syncingTimeout hs hk hw, ?released⟩⟩,
    fun s r w hs => ⟨fun hw ho => ⟨_, exec_listenWindowOpen hw hs ho, rfl, State.drec_setRec_same .., ?opens⟩,
      exec_listenWindowClose_shut, fun hw hc => listenWindowClose_spec hw hs hc⟩,
    fun s ch f hf hl => ⟨fun h => ?foreign, fun ht hv hlink hdst hdir hrole hoff hfault hban hk => ?mine⟩,
    fun s ch k w hw hs hk => ?reply,
    fun s r hs => ⟨exec_wakeSequenceStart_spec hs, fun hw hq ht hlt => ⟨_, exec_wakeListenExpiry hs hw hq ht, ?again⟩,
      wakeListenExpiry_lost hs⟩,
    fun s r hs => ⟨exec_awakeHoldExpiry_holds,
      fun h => ⟨_, exec_awakeHoldExpiry hs h, State.drec_setRec_same .., s.setRec_flds r _⟩⟩,
    fun s c r ht hr hp hf => ⟨exec_drmQuery ht hr hp hf,
      fun h => ⟨exec_drmWake_badState ht hr hp hf h, exec_drmRelease_badState ht hr hp hf h⟩,
      fun h => ⟨_, exec_drmRelease ht hr hp hf h, State.drec_setRec_same .., s.setRec_flds r _⟩,
      fun h => ⟨_, exec_drmWake ht hr hp hf h, ?wake⟩⟩⟩
  case full =>
    obtain ⟨d, n, hexec⟩ := exec_sleepReq_full (m := m) (by simp [hlen, h0, h1]) hit hr hf
    exact ⟨_, hexec, rfl, (State.fld_bump ..).trans (if_pos ⟨rfl, rfl⟩)⟩
  case granted =>
    obtain ⟨d, n, v, hexec⟩ := exec_sleepReq_granted (m := m) (by simp [hlen, h0, h1]) hit hr hf
    have same := s.drec_setRec_same r (it.grant ch a (s.pickGroup it.groups) v m)
    exact ⟨_, hexec, congrArg DrmRec.st same, congrArg DrmRec.ch same, congrArg DrmRec.addr same, congrArg DrmRec.carrier same,
      congrArg DrmRec.group same, congrArg DrmRec.period same, fun q hq => s.drec_setRec_ne hq _⟩
  case released =>
    exact ⟨State.drec_setRec_same .., rfl, fun q hq => State.drec_setRec_ne _ hq _, ((FldsKept.refl _ s).reach _).setRec r {} (by simp)⟩
  case opens => exact ((FldsKept.refl _ s).reach w.1).setRec r _ (by simp)
  case foreign =>
    rw [exec_wakeSyncRx hf hl, State.wakeSync_foreign]
    rw [State.wakeForeign_takeHeard]
    simp only [State.wakeForeign]
    tauto
  case mine =>
    have hw : ¬s.wakeForeign ch f.fc := by simp [State.wakeForeign, ht, hv, hlink, hdst, hdir, hrole, hoff, hfault, hban, hk]
    obtain ⟨hregs, hrecs⟩ := (s.takeHeard ch f).meetPartner_kept ch f.fc (f.at_ / 32)
    have kept (fs : List (Fld × Nat)) : FldsKept fs s ((s.takeHeard ch f).meetPartner ch f.fc (f.at_ / 32)) :=
      (FldsKept.refl fs s).congr hregs
    refine ⟨fun hr => ⟨_, exec_wakeSyncRx_unknown hf hl hw hr, hrecs, ?_, (kept _).bump (by simp)⟩,
      fun r hr hs hkind => ⟨_, exec_wakeSyncRx_toneWoken hf hl hw hr hs hkind, State.drec_setRec_same .., ?_⟩⟩
    · rw [State.fld_bump, if_pos ⟨rfl, rfl⟩, State.fld_congr hregs]
      rfl
    · exact ((kept _).setRec r _ (by simp)).bump (by simp)
  case reply =>
    obtain ⟨t, f, hexec, hdrm, hcom, hframe⟩ := exec_wakeSyncReply hw hs hk
    exact ⟨t, f, hexec, congrArg DrmSt.owe hdrm, (congrArg DrmSt.recs hdrm).trans rfl, hcom, hframe⟩
  case again =>
    dsimp only
    rw [if_pos hlt]
    exact State.drec_setRec_same ..
  case wake =>
    obtain ⟨hrec, hkept⟩ := State.startWaking_spec h
    exact ⟨congrArg DrmRec.st hrec, congrArg DrmRec.seqs hrec, congrArg DrmRec.toneWait hrec, hkept⟩

end Sys2Proof.Machine
end

section
/-! SUPPORT. Serial ports (R414 to R427, R436): what a port written leaves, characters stored and sent, messages closed, the serial
commands. -/

namespace Sys2Proof.Machine

/-! Ports. -/

@[simp] theorem State.port_setPort_same (s : State) (n : Nat) (p : SerPort) : (s.setPort n p).port n = p := tget_tput_same ..

@[simp] theorem State.port_updPort (s : State) (n : Nat) (f : SerPort → SerPort) : (s.updPort n f).port n = f (s.port n) :=
  s.port_setPort_same n _

@[simp] theorem State.port_bump (s : State) (F : Fld) (i n : Nat) : (s.bump F i).port n = s.port n := rfl
@[simp] theorem State.port_reach (s : State) (t n : Nat) : (s.reach t).port n = s.port n := rfl

/-- A flag set shows as 1. -/
theorem State.fld_setFlag_same (s : State) (F : Fld) (i : Nat) (b : Bool) (h : F.width = 1) : (s.setFlag F i b).fld F i = b2n b := by
  rw [State.fld_setFlag, if_pos ⟨rfl, rfl⟩, h]
  cases b <;> rfl

/-! Characters received (R415 to R421). -/

/-- A start edge with no divisor pending, of a port that is not of class F. -/
theorem State.startEdge_plain {s : State} {n : Nat} (hp : (s.port n).rxPend = false) (hc : (s.port n).classF = false) :
    s.startEdge n = s.setPort n (s.port n) := by
  unfold State.startEdge
  dsimp only
  rw [if_neg (by simp [hc]), if_neg (by simp [hp])]

theorem SerPort.messages_direct {p : SerPort} (h : p.func = 1) : p.messages = false := by simp [SerPort.messages, h, serTunnel]

theorem State.storeChar_direct {s : State} {n : Nat} (hf : (s.port n).func = 1) (ho : (s.port n).ovrNext = false)
    (hr : (s.port n).rx.length < 64) (c : Nat) :
    s.storeChar n c = s.setPort n { s.port n with rx := (s.port n).rx ++ [c], ovrNext := false } := by
  unfold State.storeChar
  dsimp only
  rw [if_neg (Nat.not_le.mpr hr), if_neg (by simp [SerPort.messages_direct hf]), if_neg (by simp [ho])]

/-- A good character of eight data bits, of a DIRECT port that is not of class F. -/
theorem exec_serialCharacterRx_direct {s : State} {n d tick : Nat} {i : SerItem} (hi : (s.port n).item = some i)
    (ha : (s.port n).armed = true) (hp : (s.port n).rxPend = false) (ho : (s.port n).ovrNext = false) (hf : i.function = 1)
    (hc : i.cls ≠ 1) (h4 : bit i.fmt 4 = false) (h5 : bit i.fmt 5 = false) (h0 : bit i.fmt 0 = true)
    (hr : (s.port n).rx.length < 64) : ∃ t : State, exec (.serialCharacterRx n d false true true tick) s = .next t ∧
      t.port n = { s.port n with rx := (s.port n).rx ++ [d % 256], rxEnd := max (s.port n).rxEnd tick } := by
  have plain : (s.port n).classF = false := by simp [SerPort.classF, hi, hc]
  have func : (s.port n).func = 1 := by simp [SerPort.func, hi, hf]
  have item : ({ s with tick := max s.tick tick } : State).port n = s.port n := rfl
  show ∃ t, execSerialCharacterRx n d false true true tick s = _ ∧ _
  unfold execSerialCharacterRx
  dsimp only
  rw [item, hi]
  dsimp only
  rw [if_neg (by simp [hf, ha, h5, serUnused]), if_neg Bool.false_ne_true, if_pos rfl, if_pos rfl, h4, h0]
  rw [State.startEdge_plain (by rw [item]; exact hp) (by rw [item]; exact plain), if_neg Bool.false_ne_true, State.storeChar_direct]
  · refine ⟨_, rfl, (State.port_setPort_same ..).trans ?_⟩
    simp [item, hi, ho, b2n]
  · rw [State.port_updPort, State.port_setPort_same]; exact func
  · simpa [item] using ho
  · simpa [item] using hr

theorem exec_framingRearm {s : State} {n : Nat} (h : (s.port n).armed = false) : exec (.framingRearm n) s
    = .next ((s.reach ((s.port n).rxEnd + (s.port n).chars (s.port n).rxDiv 1)).setPort n { s.port n with armed := true }) :=
  congrArg Host.Outcome.next (if_neg (by simp [h]))

/-! Messages (R423). -/

/-- A port without a closed message has none to hand over. -/
theorem State.giveSerial_none {s : State} {n : Nat} (h : (s.port n).ready = []) (fuel : Nat) : s.giveSerial fuel n = s := by
  cases fuel with
  | zero => rfl
  | succ k =>
    unfold State.giveSerial
    dsimp only
    split
    next hr => exact absurd (h.symm.trans hr) nofun
    next => rfl

/-- The tick a gap after the last character of a port ends at. -/
def SerPort.gapEnd (p : SerPort) : Nat := p.rxEnd + p.halfBits p.rxDiv 1 + p.chars p.rxDiv ((p.item.map (·.gap)).getD 0)

theorem exec_serialGapClose {s : State} {n : Nat} (hm : (s.port n).messages = true) (hr : (s.port n).run ≠ []) (hx : (s.port n).rx = []) :
    exec (.serialGapClose n) s = .next (((s.reach (s.port n).gapEnd).closePort n).giveSerial 64 n) := by
  have ended : (s.reach (s.port n).gapEnd).endMessage n = (s.reach (s.port n).gapEnd).closePort n := by
    unfold State.endMessage
    dsimp only
    rw [State.port_reach, hx]
    rfl
  rw [← ended]
  exact congrArg Host.Outcome.next (if_neg (by simp [hm, hr]))

section
variable {s : State} {n : Nat} (hr : (s.port n).run ≠ [])
include hr

theorem State.closePort_bad (hb : (s.port n).run.any badChar = true) :
    s.closePort n = (s.setPort n { s.port n with run := [] }).bump .SER_CNT2_msg_bad n := by
  rw [State.closePort, SerPort.close, if_neg hr, if_pos hb]
  rfl

theorem State.closePort_good (hb : (s.port n).run.any badChar = false) : s.closePort n
    = s.setPort n { s.port n with run := [], ready := (s.port n).ready ++ [(s.port n).run.map (fun c => byte c)] } := by
  rw [State.closePort, SerPort.close, if_neg hr, if_neg (by simp [hb])]
  rfl

end

/-! Characters sent (R418, R421, R424, R425). -/

theorem State.shiftDone_none {s : State} {n : Nat} (h : (s.port n).swap = none) :
    s.shiftDone n = s.setPort n { s.port n with shift := none } := by
  rw [State.shiftDone, h]
  rfl

/-- A port that takes a character into its shifter keeps it there whatever its FIFO takes behind it. -/
theorem SerPort.feed_shift (p : SerPort) : p.feed.shift = p.shift := rfl

/-- What the next character leaves: it is in the shifter, DE is held and no delivery is done. -/
theorem State.nextChar_spec {s : State} {n c : Nat} {l : List Nat} (ht : (s.port n).tx = c :: l) (hs : (s.port n).swap = none) :
    ((s.nextChar n).port n).shift = some c ∧ (s.nextChar n).fld .SER_STATUS_de n = 1 ∧ (s.nextChar n).dlv = s.dlv := by
  generalize hx : s.nextChar n = x
  unfold State.nextChar at hx
  extract_lets u v p p' lead start at hx
  have hu : u.port n = s.port n ∧ u.dlv = s.dlv := by
    unfold u
    split <;> exact ⟨rfl, rfl⟩
  have hv : v.port n = { s.port n with shift := none } ∧ v.dlv = s.dlv := by
    unfold v
    rw [State.shiftDone_none (by rw [hu.1]; exact hs), hu.1]
    exact ⟨State.port_setPort_same .., hu.2⟩
  clear_value u v
  obtain ⟨hport, hdlv⟩ := hv
  have hpp : p.tx = c :: l := by rw [show p = v.port n from rfl, hport]; exact ht
  clear_value p
  split at hx
  next h => exact absurd (hpp.symm.trans h) nofun
  next x t h =>
    obtain ⟨rfl, rfl⟩ := List.cons.inj (hpp.symm.trans h)
    extract_lets r w y at hx
    have hw : (w.port n).shift = some c ∧ w.dlv = s.dlv := by
      unfold w
      rw [State.port_setPort_same]
      refine ⟨?_, hdlv⟩
      split <;> exact SerPort.feed_shift _
    have hy : y.fld .SER_STATUS_de n = 1 := State.fld_setFlag_same w _ n true rfl
    have hyp : (y.port n).shift = some c ∧ y.dlv = s.dlv := hw
    clear_value w y p' lead start
    subst hx
    split
    · exact ⟨hyp.1, (State.fld_setFlag ..).trans ((if_neg (by simp)).trans hy), hyp.2⟩
    · exact ⟨hyp.1, hy, hyp.2⟩

theorem exec_serialCharacterTx {s : State} {n c : Nat} {l : List Nat} (ht : (s.port n).tx = c :: l) (hs : (s.port n).swap = none)
    (hd : s.dlv.done = []) : exec (.serialCharacterTx n) s = .next (s.nextChar n) :=
  congrArg Host.Outcome.next (State.deliverDone_none (by rw [(State.nextChar_spec ht hs).2.2]; exact hd))

theorem exec_deRelease {s : State} {n : Nat} (ht : (s.port n).tx = []) (hd : s.fld .SER_STATUS_de n = 1) :
    ∃ t : State, exec (.deRelease n) s = .next t ∧ t.fld .SER_STATUS_de n = 0 := by
  refine ⟨_, congrArg Host.Outcome.next (if_neg ?_), State.fld_setFlag_same _ _ n false rfl⟩
  simp [ht, State.flag, hd]

theorem exec_oscStop {s : State} {n : Nat} (hf : (s.port n).classF = true) (hs : (s.port n).shift = none) (ht : (s.port n).tx = [])
    (ho : s.fld .SER_STATUS_osc_on n = 1) : ∃ t : State, exec (.oscStop n) s = .next t ∧ t.fld .SER_STATUS_osc_on n = 0 := by
  refine ⟨_, congrArg Host.Outcome.next (if_pos ?_), State.fld_setFlag_same _ _ n false rfl⟩
  simp [hf, hs, ht, State.flag, ho]

/-! The serial commands (R436). -/

section
variable {c : Cmd} {s : State} {n : Nat} (hn : n ≤ 7) (ho : c.pnl = 0 ∨ s.portOwner n = c.pnl)
include hn ho

theorem serCmd_passes (k : State × Option Resp) : serCmd s c.pnl n k = k := by
  rw [serCmd, if_neg (Nat.not_lt.mpr hn), if_neg (by tauto)]

variable (ht : s.Takes c)
include ht

theorem exec_serQuery : exec (.serQuery c n) s = .next (s.answer c 0x4001 ⟨.ok, (s.serWords n).flatMap (le 4)⟩) := by
  rw [← ohi_takes ht]
  exact congrArg (fun x => Host.Outcome.next (ohi s c 0x4001 x)) (serCmd_passes hn ho _)

/-- Both halves of a used port flushed. -/
theorem exec_serFlush (hf : (s.port n).func ≠ 0) (hd : s.dlv.done = []) : ∃ t : State,
    exec (.serFlush c n 3) s = .next (t.answer c 0x4002 (rsp .ok)) ∧ (t.port n).rx = [] ∧ (t.port n).tx = [] := by
  have flush : ∃ t : State, opSerFlush c.pnl n 3 s = (t, some (rsp .ok)) ∧ t.dlv = s.dlv ∧ (t.port n).rx = [] ∧
      (t.port n).tx = [] := by
    refine ⟨_, ((if_neg (by simp)).trans (serCmd_passes hn ho _)).trans (if_neg hf), rfl, ?_⟩
    constructor <;> simp [show bit 3 0 = true from rfl, show bit 3 1 = true from rfl]
  obtain ⟨t, hop, hdlv, hrx, htx⟩ := flush
  refine ⟨t, ?_, hrx, htx⟩
  rw [← ohi_takes ht]
  refine congrArg (fun x => Host.Outcome.next (ohi s c 0x4002 x)) ?_
  rw [hop]
  exact congrArg (·, some (rsp .ok)) (State.deliverDone_none (by rw [hdlv]; exact hd))

end

end Sys2Proof.Machine
end

section
/-! SUPPORT. Command contacts (R428 to R436): what a group's message handed over leaves of the contacts, inputs accepted, outputs driven,
the contact commands. -/

namespace Sys2Proof.Machine

/-! A message handed over leaves the contacts as they are. -/

/-- What the device holds of the command contacts, and the levels and accepted states of its inputs. -/
def State.contacts (s : State) : CmdSt × Nat × Nat := (s.cmd, s.fld .CMD_IN_STATE_pin 0, s.fld .CMD_IN_STATE_asserted 0)

/-- An operation that writes none of the two fields and leaves the contacts' own state keeps them. -/
theorem FldsKept.contacts {fs : List (Fld × Nat)} {s t : State} (h : FldsKept fs s t) (hc : t.cmd = s.cmd)
    (hp : (.CMD_IN_STATE_pin, 0) ∉ fs) (ha : (.CMD_IN_STATE_asserted, 0) ∉ fs) : t.contacts = s.contacts := by
  rw [State.contacts, hc, h _ _ hp, h _ _ ha]
  rfl

theorem State.contacts_congr {s t : State} (hc : t.cmd = s.cmd) (hr : t.regs = s.regs) : t.contacts = s.contacts :=
  ((FldsKept.refl [] s).congr hr).contacts hc List.not_mem_nil List.not_mem_nil

theorem State.contacts_bump (s : State) {F : Fld} (i : Nat) (hp : F ≠ .CMD_IN_STATE_pin) (ha : F ≠ .CMD_IN_STATE_asserted) :
    (s.bump F i).contacts = s.contacts :=
  ((FldsKept.refl [(F, i)] s).bump (by simp)).contacts rfl (by simp [hp.symm]) (by simp [ha.symm])

theorem State.log_cmd (s : State) (code panel inst data : Nat) : (s.log code panel inst data).cmd = s.cmd := by
  have kept := congrArg State.cmd (s.log_kept code panel inst data).rest
  exact kept

theorem State.contacts_log (s : State) (code panel inst data : Nat) : (s.log code panel inst data).contacts = s.contacts :=
  (s.log_kept code panel inst data).flds.contacts (s.log_cmd ..) (by simp [logFlds]) (by simp [logFlds])

theorem State.contacts_startWaking (s : State) (r : Nat) : (s.startWaking r).contacts = s.contacts := by
  by_cases h : (s.drec r).st = .dormant ∨ (s.drec r).st = .awake
  · exact (State.startWaking_spec h).2.contacts (by rw [State.startWaking_from h]; rfl) (by simp) (by simp)
  · exact congrArg State.contacts (if_neg h)

theorem State.contacts_handoverWake {s t : State} {panel ch peer prio : Nat} {ackReq enc : Bool} {ep : Nat} {data : List Byte}
    {launch : Option Nat} (h : s.handoverWake panel ch peer prio ackReq enc ep data launch = some t) : t.contacts = s.contacts := by
  obtain ⟨u, hu, rfl⟩ := Option.map_eq_some_iff.mp h
  obtain ⟨d, rfl⟩ := State.handover_dlv hu
  split
  · unfold State.wakeFor
    split
    · exact State.contacts_startWaking ..
    · rfl
  · rfl

theorem State.contacts_enterSeen (s : State) (m origin oseq : Nat) : (s.enterSeen m origin oseq).contacts = s.contacts := by
  unfold State.enterSeen
  dsimp only
  split
  · refine FldsKept.contacts (fs := [(.DLV_SEEN_seen_used, 0)]) ?_ rfl (by simp) (by simp)
    exact FldsKept.setFld (FldsKept.congr (FldsKept.refl _ s) rfl) _ (by simp)
  · generalize hu : State.bump _ .DLV_FLOOD_CNT_seen_evict 0 = u
    have evicted : u.contacts = s.contacts := by
      rw [← hu, State.contacts_bump _ _ (by simp) (by simp)]
      exact State.contacts_congr rfl rfl
    split
    · exact evicted
    · exact (State.contacts_log ..).trans evicted

theorem State.contacts_addCopy (s : State) (panel prio ch ttl origin oseq : Nat) (segs : List Byte) (enc : Bool) :
    (s.addCopy panel prio ch ttl origin oseq segs enc).contacts = s.contacts := by
  unfold State.addCopy
  split
  · exact State.contacts_bump _ _ (by simp) (by simp)
  next pool t ht =>
    obtain ⟨d, hd⟩ := State.takeDesc_dlv ht
    subst hd
    rfl

theorem State.contacts_sealField {s : State} {ch sender dst link ep seq frag : Nat} {data : List Byte} {x : List Byte × State}
    (h : s.sealField ch sender dst link ep seq frag data = some x) : x.2.contacts = s.contacts := by
  unfold State.sealField at h
  split at h
  · split at h
    · cases h
    · split at h
      · cases h
      · cases h
        rfl
  · cases h

theorem State.contacts_originateOn (s : State) (m : QMsg) (oseq ttl ch : Nat) : (s.originateOn m oseq ttl ch).contacts = s.contacts := by
  have drawn : (s.enterSeen m.target (s.ownAddr ch) oseq).drawFree.2.contacts = s.contacts := State.contacts_enterSeen ..
  unfold State.originateOn
  dsimp only
  split
  · split
    · exact (State.contacts_bump _ _ (by simp) (by simp)).trans drawn
    next field t ht => exact (State.contacts_addCopy ..).trans ((State.contacts_sealField ht).trans drawn)
  · exact (State.contacts_addCopy ..).trans drawn

theorem State.contacts_originate (s : State) (m : QMsg) : (s.originate m).contacts = s.contacts :=
  List.foldlRecOn (motive := fun t : State => t.contacts = s.contacts) _ _ rfl fun t ht _ _ => (State.contacts_originateOn t ..).trans ht

theorem State.contacts_giveMsg {s t : State} {m : QMsg} (h : s.giveMsg m = some t) : t.contacts = s.contacts := by
  unfold State.giveMsg at h
  split at h
  · split at h
    · cases h
    · cases h
      exact State.contacts_originate ..
  · exact State.contacts_handoverWake h

/-! Groups (R430). -/

@[simp] theorem State.group_setGroup_same (s : State) (g : Nat) (c : CmdGroup) : (s.setGroup g c).group g = c := tget_tput_same ..

/-- What a message given to its route, or waiting, leaves: the tick it was sent at, and the inputs. -/
theorem State.giveGroup_spec (s : State) (g : Nat) : ((s.giveGroup g).group g).sentAt = (s.group g).sentAt ∧
    (s.giveGroup g).fld .CMD_IN_STATE_pin 0 = s.fld .CMD_IN_STATE_pin 0 ∧
    (s.giveGroup g).fld .CMD_IN_STATE_asserted 0 = s.fld .CMD_IN_STATE_asserted 0 := by
  unfold State.giveGroup
  split
  · exact ⟨rfl, rfl, rfl⟩
  · dsimp only
    split
    · exact ⟨by rw [State.group_setGroup_same], rfl, rfl⟩
    next u hu =>
      obtain ⟨hc, hf⟩ := Prod.mk.inj (State.contacts_giveMsg hu)
      obtain ⟨hp, ha⟩ := Prod.mk.inj hf
      exact ⟨by rw [State.group_setGroup_same]; exact congrArg (fun x => (tget {} g x.groups).sentAt) hc, hp, ha⟩

theorem State.contacts_replaceQueued (s : State) (g : Nat) (flood : Bool) (data : List Byte) :
    (s.replaceQueued g flood data).contacts = s.contacts := by
  unfold State.replaceQueued
  split
  · rfl
  · exact (apply_ite ..).trans ((ite_self _).trans (s.contacts_bump (F := .CMD_CNT_cmd_merge) 0 (by simp) (by simp)))

/-- What sending a group's message leaves: the tick it was sent at, and the inputs. -/
theorem State.sendGroup_spec (s : State) (g : Nat) :
    ((s.groupItem g).isSome = true → ((s.sendGroup g).group g).sentAt = s.tick) ∧
    (s.sendGroup g).fld .CMD_IN_STATE_pin 0 = s.fld .CMD_IN_STATE_pin 0 ∧
    (s.sendGroup g).fld .CMD_IN_STATE_asserted 0 = s.fld .CMD_IN_STATE_asserted 0 := by
  unfold State.sendGroup
  split
  next hn => exact ⟨fun hs => absurd hs (by simp [hn]), rfl, rfl⟩
  · extract_lets c u
    have sent : (u.group g).sentAt = s.tick := by rw [State.group_setGroup_same]
    have kept {t : State} (h : t.contacts = u.contacts) : (t.group g).sentAt = s.tick ∧
        t.fld .CMD_IN_STATE_pin 0 = s.fld .CMD_IN_STATE_pin 0 ∧ t.fld .CMD_IN_STATE_asserted 0 = s.fld .CMD_IN_STATE_asserted 0 := by
      obtain ⟨hc, hf⟩ := Prod.mk.inj h
      obtain ⟨hp, ha⟩ := Prod.mk.inj hf
      exact ⟨(congrArg (fun x => (tget {} g x.groups).sentAt) hc).trans sent, hp, ha⟩
    refine And.imp_left (fun h _ => h) ?_
    split
    · exact kept (u.contacts_bump (F := .CMD_CNT_cmd_merge) 0 (by simp) (by simp))
    · split
      · exact kept (State.contacts_replaceQueued ..)
      · obtain ⟨hs, hp, ha⟩ := u.giveGroup_spec g
        exact ⟨hs.trans sent, hp, ha⟩

/-! Inputs (R429). -/

/-- Accepting a change leaves the levels of the inputs. -/
theorem State.acceptInput_pin (s : State) (i : Nat) : (s.acceptInput i).fld .CMD_IN_STATE_pin 0 = s.fld .CMD_IN_STATE_pin 0 := by
  unfold State.acceptInput
  split
  · dsimp only
    split
    · rfl
    · exact (State.sendGroup_spec ..).2.1.trans (State.fld_setFld_ne _ _ (by simp))
  · rfl

/-- A change of an input accepted: the input is asserted by its level. -/
theorem State.acceptInput_on {s : State} {i tk : Nat} {h : Bool} {c : ContactItem} (hi : i ≤ 15) (hc : s.contact i = some c)
    (hf : c.function = 1) (he : tfind i s.cmd.edges = some (h, tk)) (hx : xor h c.invert ≠ s.inputOn i) :
    (s.acceptInput i).inputOn i = xor h c.invert := by
  unfold State.acceptInput
  rw [hc, he]
  dsimp only
  split
  next same => exact absurd same (not_or.mpr ⟨not_not.mpr hf, hx⟩)
  next =>
    refine (congrArg (bit · i) (State.sendGroup_spec ..).2.2).trans ?_
    exact (State.bit_setFld_setBit _ (by change i < 16; omega) ..).trans (if_pos rfl)

theorem exec_contactInputEdge {i : Nat} (hi : i ≤ 15) (s : State) (tick : Nat) (h : Bool) :
    ∃ t : State, exec (.contactInputEdge i h tick) s = .next t ∧ bit (t.fld .CMD_IN_STATE_pin 0) i = h := by
  refine ⟨_, congrArg Host.Outcome.next (if_neg (Nat.not_lt.mpr hi)), ?_⟩
  dsimp only
  generalize hu : State.setFld _ .CMD_IN_STATE_pin 0 _ = u
  have pin : bit (u.fld .CMD_IN_STATE_pin 0) i = h := by
    rw [← hu]
    exact (State.bit_setFld_setBit _ (by change i < 16; omega) ..).trans (if_pos rfl)
  split
  · split
    · exact pin
    · split
      · exact (congrArg (bit · i) (State.acceptInput_pin ..)).trans pin
      · exact pin
  · exact pin

theorem exec_contactChangeAccepted {s : State} {i tk : Nat} {h : Bool} (he : tfind i s.cmd.edges = some (h, tk)) :
    exec (.contactChangeAccepted i) s = .next ((s.reach (tk + 200 * s.fld .CMD_CT_CFG_debounce i)).acceptInput i) := by
  show execContactChangeAccepted i s = _
  rw [execContactChangeAccepted, he]

theorem exec_commandRefresh {s : State} {g : Nat} {i : GroupItem} (hi : s.groupItem g = some i) (hb : (s.group g).built = true)
    (hr : i.refreshMs ≠ 0) :
    exec (.commandRefresh g) s = .next ((s.reach ((s.group g).sentAt + msTicks i.refreshMs)).sendGroup g) := by
  show execCommandRefresh g s = _
  rw [execCommandRefresh, hi]
  exact congrArg Host.Outcome.next (if_pos ⟨hb, hr⟩)

/-! Outputs (R428, R432 to R434). -/

@[simp] theorem State.outPin_setOut_same (s : State) (i : Nat) (o : OutPin) : (s.setOut i o).outPin i = o := tget_tput_same ..
@[simp] theorem State.outPin_bump (s : State) (F : Fld) (k i : Nat) : (s.bump F k).outPin i = s.outPin i := rfl
@[simp] theorem State.outPin_log (s : State) (code panel inst data i : Nat) : (s.log code panel inst data).outPin i = s.outPin i := by
  rw [State.outPin, State.log_cmd]
  rfl

/-- A bit applied to an output that is not of mode PULSE is its level. -/
theorem OutPin.apply_active {mode : Nat} (h : mode ≠ 1) (o : OutPin) (b : Bool) (tick : Nat) : (o.apply mode b tick).active = b := by
  unfold OutPin.apply
  split
  · exact absurd rfl h
  · rfl

/-- The first message of a group with one output. -/
theorem exec_commandMessage_one {s : State} {i : Nat} {m : List Byte} {o : ContactItem} (hi : i ≤ 15) (hl : m.length = 8)
    (h0 : beAt m 0 1 = 0xC1) (h1 : beAt m 1 1 = 1) (hr : (s.group i).rxSeq = none) (ho : s.groupOutputs i = [o])
    (hv : bit (beAt m 4 2) o.bitpos = true) (hm : o.mode ≠ 1) :
    ∃ t : State, exec (.commandMessage i m) s = .next t ∧ (t.outPin o.contact).active = bit (beAt m 6 2) o.bitpos := by
  have taken : ∃ t, s.applyCommand i m = t ∧ (t.outPin o.contact).active = bit (beAt m 6 2) o.bitpos := by
    unfold State.applyCommand
    rw [if_neg (by simp [hl, h0, h1])]
    dsimp only
    rw [if_pos (.inl (by rw [hr]; rfl)), ho, List.filter_cons_of_pos (by exact hv), List.filter_nil]
    refine ⟨_, rfl, ?_⟩
    exact (congrArg OutPin.active (State.outPin_setOut_same ..)).trans (OutPin.apply_active hm ..)
  obtain ⟨t, ht, ha⟩ := taken
  exact ⟨t, congrArg Host.Outcome.next ((if_pos (by omega)).trans ht), ha⟩

theorem exec_cmdWatch {s : State} {i : Nat} {c : ContactItem} (hc : s.contact i = some c) (hf : c.function = 2) (hm : c.mode = 0)
    (hw : c.watchMs ≠ 0) (ho : (s.outPin i).watched = false) (hg : (s.group c.group).seen = true) :
    ∃ t : State, exec (.cmdWatch i) s = .next t ∧ t.outPin i = { s.outPin i with active := false, watched := true } := by
  show ∃ t, execCmdWatch i s = _ ∧ _
  unfold execCmdWatch
  rw [hc]
  dsimp only
  rw [if_neg (by simp [hf, hm, hw, ho, hg])]
  exact ⟨_, rfl, by rw [State.outPin_log, State.outPin_bump, State.outPin_setOut_same]⟩

theorem exec_pulseEnd {s : State} {i : Nat} (hp : (s.outPin i).pulse = true) :
    ∃ t : State, exec (.pulseEnd i) s = .next t ∧ t.outPin i = { s.outPin i with active := false, pulse := false } :=
  ⟨_, congrArg Host.Outcome.next (if_pos hp), State.outPin_setOut_same ..⟩

/-- The end of a forcing leaves the output unforced. -/
theorem State.endForce_forced {s : State} {i : Nat} (hf : (s.outPin i).forced ≠ none) : ((s.endForce i).outPin i).forced = none := by
  unfold State.endForce State.endForceAs
  dsimp only
  rw [if_neg (by simpa using hf), State.outPin_log, State.outPin_setOut_same]

theorem exec_cmdForceEnd {s : State} {i : Nat} (hf : (s.outPin i).forced ≠ none) :
    ∃ t : State, exec (.cmdForceEnd i) s = .next t ∧ (t.outPin i).forced = none :=
  ⟨_, congrArg Host.Outcome.next (if_neg (by simpa using hf)), State.endForce_forced hf⟩

/-! The contact commands (R436). -/

section
variable {c : Cmd} {s : State} {i : Nat} (hi : i ≤ 15) (ho : c.pnl = 0 ∨ s.contactOwner i = c.pnl)
include hi ho

theorem conCmd_passes (k : State × Option Resp) : conCmd s c.pnl i k = k := by
  rw [conCmd, if_neg (Nat.not_lt.mpr hi), if_neg (by tauto)]

variable (ht : s.Takes c)
include ht

theorem exec_cmdQuery : exec (.cmdQuery c i) s = .next (s.answer c 0x4101 ⟨.ok,
    le 4 (s.fld .CMD_IN_STATE_asserted 0 + 65536 * s.fld .CMD_IN_STATE_pin 0)
      ++ le 4 (s.fld .CMD_OUT_STATE_active 0 + 65536 * s.fld .CMD_OUT_STATE_forced 0) ++ le 4 (s.contactWord i)⟩) := by
  rw [← ohi_takes ht, List.append_assoc]
  exact congrArg (fun x => Host.Outcome.next (ohi s c 0x4101 x)) ((conCmd_passes hi ho _).trans (by simp))

theorem exec_cmdForce {lv ms : Nat} (hl : lv ≤ 1) (hm : 1 ≤ ms) (hs : ms ≤ 60000) (he : s.expertOk c.pnl = true)
    (hx : s.isOutput i = true) : ∃ t : State,
      exec (.cmdForce c i lv ms) s = .next (t.answer c 0x4102 (rsp .ok)) ∧ (t.outPin i).forced = some (lv == 1) := by
  refine ⟨s.setOut i { s.outPin i with forced := some (lv == 1), forceEnd := s.tick + msTicks ms }, ?_, ?_⟩
  · rw [← ohi_takes ht]
    refine congrArg (fun x => Host.Outcome.next (ohi s c 0x4102 x)) ?_
    rw [opCmdForce, if_neg (by omega), conCmd_passes hi ho, if_neg (by simp [he]), if_neg (by simp [hx])]
  · rw [State.outPin_setOut_same]

theorem exec_cmdRelease (hx : s.isOutput i = true) (hf : (s.outPin i).forced ≠ none) : ∃ t : State,
      exec (.cmdRelease c i) s = .next (t.answer c 0x4103 (rsp .ok)) ∧ (t.outPin i).forced = none := by
  refine ⟨s.endForce i, ?_, State.endForce_forced hf⟩
  rw [← ohi_takes ht]
  refine congrArg (fun x => Host.Outcome.next (ohi s c 0x4103 x)) ?_
  rw [opCmdRelease, conCmd_passes hi ho, if_neg (by simp [hx]), if_neg (by simpa using hf)]

end

end Sys2Proof.Machine
end

section
/-! SUPPORT. The commands that read and write registers, events and snapshots (R413, R532 to R536). -/

namespace Sys2Proof.Machine

/-! Registers by command (R413). -/

/-- A command whose words all stand in the panel's window passes. -/
theorem regCmd_passes {s : State} {p a n hi : Nat} (h1 : 1 ≤ n) (hn : n ≤ hi)
    (hw : ∀ i : Nat, i < n → s.inAlias p (a + 4 * i) = true) (k : State × Option Resp) : regCmd s p a n hi k = k := by
  have none_out : ((List.range n).map (fun i => a + 4 * i)).filter (fun x => !s.inAlias p x) = [] := by
    simp only [List.filter_eq_nil_iff, List.mem_map, List.mem_range]
    rintro x ⟨i, hi, rfl⟩
    simp [hw i hi]
  rw [regCmd, if_neg (by omega)]
  exact if_neg (not_not.mpr none_out)

section
variable {c : Cmd} {s : State} (ht : s.Takes c)
include ht

theorem exec_pnlQuery {part : Nat} (h : part ≤ 1) :
    exec (.pnlQuery c part) s = .next (s.answer c 0x3E01 ⟨.ok, (s.pnlWords c.pnl part).flatMap (le 4)⟩) := by
  rw [← ohi_takes ht]
  exact congrArg (fun x => Host.Outcome.next (ohi s c 0x3E01 x)) (if_neg (Nat.not_lt.mpr h))

/-- The words are read in turn, each in the state the reads before it leave. -/
theorem exec_regRead {a n : Nat} (h1 : 1 ≤ n) (hn : n ≤ 6) (hw : ∀ i : Nat, i < n → s.inAlias c.pnl (a + 4 * i) = true) :
    let r := (List.range n).foldl (fun (x : List Nat × State) i =>
      let (w, u) := x.2.regRead c.pnl (a + 4 * i) []
      (x.1 ++ [w], u)) ([], s)
    exec (.regRead c a n) s = .next (r.2.answer c 0x3E02 ⟨.ok, r.1.flatMap (le 4)⟩) := by
  intro r
  have read : opRegRead c.pnl a n s = (r.2, some ⟨.ok, (r.1.map (le 4)).flatten⟩) := regCmd_passes h1 hn hw _
  show Host.Outcome.next (ohi s c 0x3E02 (opRegRead c.pnl a n s)) = _
  rw [read, ohi_takes ht, List.flatMap_def]

theorem exec_regWrite {a : Nat} {ws : List Nat} (h1 : 1 ≤ ws.length) (hn : ws.length ≤ 12)
    (hw : ∀ i : Nat, i < ws.length → s.inAlias c.pnl (a + 4 * i) = true) : exec (.regWrite c a ws) s
      = .next ((ws.zipIdx.foldl (fun (u : State) e => u.regWrite c.pnl (a + 4 * e.2) e.1) s).answer c 0x3E03 (rsp .ok)).pump := by
  rw [← ohi_takes ht]
  exact congrArg (fun x => Host.Outcome.next (ohi s c 0x3E03 x).pump) (regCmd_passes h1 hn hw _)

/-! Events and telemetry (R532 to R536). -/

theorem exec_evtRead {i : Nat} {e : Ev}
    (h : (s.evFrom (s.fld .EVT_PNL_RD_rd c.pnl)).find? (fun e => evFor c.pnl e.2) = some (i, e)) :
    exec (.evtRead c) s = .next ((s.setFld .EVT_PNL_RD_rd c.pnl ((i + 1) % 8192)).answer c 0x6001 ⟨.ok, evBytes e⟩) := by
  show Host.Outcome.next (ohi s c 0x6001 (opEvtRead c.pnl s)) = _
  rw [opEvtRead, h]
  exact congrArg _ (ohi_takes ht)

theorem exec_evtCfg {sev irq : Nat} (hs : sev ≤ 3) (hq : irq ≤ 3) : ∃ t : State,
    exec (.evtCfg c sev irq) s = .next (t.answer c 0x6002 (rsp .ok)) ∧ t.fld .EVT_PNL_CFG_sev_min c.pnl = sev := by
  refine ⟨((s.setFld .EVT_PNL_CFG_sev_min c.pnl sev).setFlag .EVT_PNL_CFG_irq_ev c.pnl (bit irq 0)).setFlag .EVT_PNL_CFG_irq_rsp c.pnl
    (bit irq 1), ?_, ?_⟩
  · rw [← ohi_takes ht]
    exact congrArg (fun x => Host.Outcome.next (ohi s c 0x6002 x)) (if_neg (by omega))
  · rw [State.fld_setFlag, if_neg (by simp), State.fld_setFlag, if_neg (by simp), State.fld_setFld_same]
    exact Nat.mod_eq_of_lt (by change sev < 4; omega)

theorem exec_telSnap (hp : c.pnl = 0) (hs : s.mgmt.snapPend = false) : ∃ t : State,
    exec (.telSnap c) s = .next (t.answer c 0x7001 (rsp .ok)) ∧ t.mgmt.snapPend = true := by
  refine ⟨{ s with mgmt := { s.mgmt with snapPend := true } }, ?_, rfl⟩
  rw [← ohi_takes ht]
  refine congrArg (fun x => Host.Outcome.next (ohi s c 0x7001 x)) ?_
  rw [opTelSnap, if_neg (not_not.mpr hp), if_neg (ne_true_of_eq_false hs)]

theorem exec_telRead {back w n : Nat} {x : Snap} (hp : c.pnl = 0) (h1 : 1 ≤ n) (hn : n ≤ 6) (hs : s.narrow = false)
    (hx : s.mgmt.snaps[back]? = some x) (hw : w + n ≤ telWords) :
    exec (.telRead c back w n) s = .next (s.answer c 0x7002 ⟨.ok, (List.range n).flatMap (fun k => le 4 (snapWord x (w + k)))⟩) := by
  rw [← ohi_takes ht]
  refine congrArg (fun x => Host.Outcome.next (ohi s c 0x7002 x)) ?_
  rw [opTelRead, if_neg (by omega), if_neg (not_not.mpr hp), if_neg (by simp [hs]), hx]
  exact if_neg (Nat.not_lt.mpr hw)

end

/-- A snapshot due in a Hem is taken; stacked memory takes it word by word. -/
theorem exec_telemetrySnapshot {s : State} (hd : s.snapDue = true) (hs : s.isSealed = true) (hr : s.grid.running = true)
    (hn : s.narrow = false) : ∃ t : State, exec .telemetrySnapshot s = .next t ∧
      t.mgmt.snapWr = some (⟨s.mgmt.snapSeq, s.grid.hem, s.tick, s.tel⟩, 4 * telWords) := by
  have dropped : (if s.mgmt.snapWr.isSome then s.bump .TEL_CNT_tel_drop 0 else s).narrow = s.narrow := by
    split
    · exact congrArg (bit · 14) ((State.fld_bump ..).trans (if_neg (by simp)))
    · rfl
  refine ⟨_, congrArg Host.Outcome.next ((if_neg (by simp [hd, hs, hr])).trans (if_neg ?_)), rfl⟩
  exact ne_true_of_eq_false (dropped.trans hn)

end Sys2Proof.Machine
end

section
/-! SUPPORT. The security commands and the tamper loop (R460 to R479). -/

namespace Sys2Proof.Machine

/-- What a command its device takes answers, once its operation is known. -/
theorem ohi_answers {s t : State} {c : Cmd} {op : Nat} {r : State × Option Resp} {a : Resp} (ht : s.Takes c) (h : r = (t, some a)) :
    (.next (ohi s c op r) : Host.Outcome State Fault Refusal) = .next (t.answer c op a) := by
  rw [h, ohi_takes ht]

theorem pnl0_passes {s : State} {p : Nat} (h : p = 0) (k : State × Option Resp) : pnl0 s p k = k := if_pos h

@[simp] theorem State.fld_updSec (s : State) (f : SecSt → SecSt) (F : Fld) (i : Nat) : (s.updSec f).fld F i = s.fld F i := rfl

@[simp] theorem State.sec_updSec (s : State) (f : SecSt → SecSt) : (s.updSec f).sec = f s.sec := rfl

/-! Enrolment (R465, R466). -/

/-- A search whose test holds of one value alone finds it. -/
theorem find?_eq_some_of_unique {α : Type} {p : α → Bool} {l : List α} {a : α} (ha : a ∈ l) (hp : p a = true)
    (hu : ∀ b ∈ l, p b = true → b = a) : l.find? p = some a := by
  cases h : l.find? p with
  | none => exact absurd hp (List.find?_eq_none.mp h a ha)
  | some b => rw [hu b (List.mem_of_find?_eq_some h) (List.find?_some h)]

/-- An unused slot blown in a module without an owner is the slot in force. -/
theorem State.ownerSlot_blowOwner {s : State} {i : Nat} (hl : s.sec.owners.length = 4) (ho : s.owned = false)
    (hf : s.freeOwner 0 = some i) (pk : List Byte) : (s.blowOwner i pk).ownerSlot = some i := by
  have hi : i ∈ [0, 1, 2, 3] := List.mem_of_find?_eq_some hf
  have lt : i < s.sec.owners.length := by
    rw [hl]
    simp only [List.mem_cons, List.not_mem_nil, or_false] at hi
    omega
  have hmem : i ∈ [3, 2, 1, 0] := by
    simp only [List.mem_cons, List.not_mem_nil, or_false] at hi ⊢
    omega
  have dead : ∀ j ∈ [3, 2, 1, 0], (s.sec.owners.getD j {}).live = false := by
    have none_live : s.ownerSlot = none := by simpa [State.owned] using ho
    exact fun j hj => by simpa using List.find?_eq_none.mp none_live j hj
  refine find?_eq_some_of_unique hmem ?_ fun j hj hlive => ?_
  · show ((s.sec.owners.set i _).getD i {}).live = true
    rw [List.getD_eq_getElem?_getD, List.getElem?_set_self lt]
    have unused : (s.sec.owners.getD i {}).unused = true := by simpa using List.find?_some hf
    rfl
  · by_contra hne
    have same : (s.sec.owners.set i { digest := Config.shake256 pk, blown := true, valid := true }).getD j {} = s.sec.owners.getD j {} := by
      rw [List.getD_eq_getElem?_getD, List.getElem?_set_ne (Ne.symm hne), List.getD_eq_getElem?_getD]
    exact Bool.false_ne_true ((dead j hj).symm.trans ((congrArg OwnerSlot.live same).symm.trans hlive))

/-! Debug access (R476, R477). -/

theorem State.fld_closeDebug (s : State) : s.closeDebug.fld .SEC_STATUS_debug_open 0 = 0 := by
  rw [State.closeDebug, State.fld_updSec, State.fld_setFld_ne _ _ (by simp)]
  exact State.fld_setFlag_same _ _ 0 false rfl

theorem State.closeDebug_flds (s : State) : FldsKept [(.SEC_STATUS_debug_open, 0), (.SEC_STATUS_scope, 0)] s s.closeDebug :=
  (((FldsKept.refl _ s).setFlag (F := .SEC_STATUS_debug_open) (i := 0) false (by simp)).setFld (F := .SEC_STATUS_scope) (i := 0) 0
    (by simp)).congr rfl

/-- Debug opens with a scope, for a number of seconds. -/
def State.openDebug (s : State) (scope dur : Nat) : State :=
  ((s.setFlag .SEC_STATUS_debug_open 0 true).setFld .SEC_STATUS_scope 0 scope).updSec
    (fun x => { x with debugEnd := s.tick + secTicks dur })

theorem State.chal_openDebug (s : State) (scope dur : Nat) : (s.openDebug scope dur).sec.chal = s.sec.chal := by
  rw [State.openDebug, State.sec_updSec, State.setFld_sec, State.setFlag_sec]

theorem State.fld_openDebug (s : State) (scope dur : Nat) : (s.openDebug scope dur).fld .SEC_STATUS_debug_open 0 = 1 := by
  rw [State.openDebug, State.fld_updSec, State.fld_setFld_ne _ _ (by simp)]
  exact State.fld_setFlag_same _ _ 0 true rfl

/-- An attempt to open debug is good: the object's form, the module it names, a challenge still fresh and the owner's signature. -/
def State.debugGood (s : State) : Bool :=
  let m := s.sec.stage
  memBe m 0 4 == 0x47575944 && decide (memBe m 4 1 < 8) && memBe m 5 3 == 0 && decide (1 ≤ memBe m 8 4) &&
    decide (memBe m 8 4 ≤ 86400) && memBe m 12 8 == s.fuseId && !s.flag .SEC_STATUS_debug_lock 0 &&
    s.sec.chal.any (fun x => x.1 == memSlice m 20 24 && decide (s.tick ≤ x.2 + secTicks 60)) &&
    s.ownerKey.any (fun k => Config.falconVerify k (Config.shake256 (memSlice m 0 44)) (memSlice m 44 1280))

/-- A good attempt opens debug, a bad one does not; either uses the challenge up. -/
theorem opSecDebugOpen_spec (s : State) : ∃ t : State,
    opSecDebugOpen 0 [] s = (t, some (rsp (if s.debugGood then .ok else .denied))) ∧ t.sec.chal = none ∧
      t.fld .SEC_STATUS_debug_open 0 = (if s.debugGood then 1 else s.fld .SEC_STATUS_debug_open 0) := by
  unfold opSecDebugOpen
  extract_lets m scope dur fresh form sig good u v w
  rw [if_neg (by simp), pnl0_passes rfl]
  have hgood : good = s.debugGood :=
    have order (a b c d e : Bool) : (a && b && c && d && e) = (a && d && e && b && c) := by ac_rfl
    order form fresh sig _ _
  rw [← hgood]
  clear_value good
  cases good with
  | false => exact ⟨_, if_pos rfl, rfl, (State.fld_bump ..).trans (if_neg (by simp))⟩
  | true =>
    have chal : v.sec.chal = none := by
      unfold v
      split <;> rfl
    have opened : w = v.openDebug scope dur := rfl
    refine ⟨w.log 0x0401 noPanel noInst scope, if_neg Bool.false_ne_true, ?_, ?_⟩
    · rw [State.log_sec, opened, State.chal_openDebug, chal]
    · rw [State.fld_log _ _ _ _ _ (by simp [logFlds]), opened, State.fld_openDebug]
      rfl

/-! The security commands (R479). -/

section
variable {c : Cmd} {s : State} (ht : s.Takes c)
include ht

theorem exec_secAttest {l : List Byte} (hl : l.length = 32) : ∃ t : State,
    exec (.secAttest c l) s = .next (t.answer c 0x0407 (rsp .ok)) ∧ t.sec.report = true :=
  ⟨_, ohi_answers ht (if_neg (not_not.mpr hl)), rfl⟩

theorem exec_secRead {l : List Byte} (hl : l.length = 3) (h1 : 1 ≤ leAt l 2 1) (h24 : leAt l 2 1 ≤ 24)
    (hs : leAt l 0 2 + leAt l 2 1 ≤ s.sec.stageLen) :
    exec (.secRead c l) s = .next (s.answer c 0x0408 ⟨.ok, memSlice s.sec.stage (leAt l 0 2) (leAt l 2 1)⟩) :=
  ohi_answers ht (if_neg (by omega))

theorem exec_secKeySet {l : List Byte} (hl : l.length = 33) (hk : leAt l 0 1 ≤ 3) (hr : s.right c.pnl 4 = true)
    (hu : s.slotInUse c.pnl (leAt l 0 1) = false) : ∃ t : State, exec (.secKeySet c l) s = .next (t.answer c 0x040B (rsp .ok)) ∧
      t.linkKey c.pnl (leAt l 0 1) = some ⟨l.drop 1, 0⟩ := by
  refine ⟨s.updSec (fun x => { x with keys := tset (4 * c.pnl + leAt l 0 1) ⟨l.drop 1, 0⟩ x.keys }), ohi_answers ht ?_,
    tfind_tset_same ..⟩
  rw [opSecKeySet, if_neg (by omega), if_neg (by simp [hr]), if_neg (by simp [hu])]

theorem exec_secKeyClear {l : List Byte} (hl : l.length = 1) (hk : leAt l 0 1 ≤ 3) (hr : s.right c.pnl 4 = true)
    (hu : s.slotInUse c.pnl (leAt l 0 1) = false) : ∃ t : State, exec (.secKeyClear c l) s = .next (t.answer c 0x040D (rsp .ok)) ∧
      t.linkKey c.pnl (leAt l 0 1) = none := by
  refine ⟨s.updSec (fun x => { x with keys := tdel (4 * c.pnl + leAt l 0 1) x.keys }), ohi_answers ht ?_, tfind_tdel_same ..⟩
  rw [opSecKeyClear, if_neg (by omega), if_neg (by simp [hr]), if_neg (by simp [hu])]

theorem exec_secKeyTx {l : List Byte} {o : Nat} (hl : l.length = 2) (hc : leAt l 0 1 ≤ 191) (hm : s.mayName c.pnl (leAt l 0 1) = true)
    (hk : leAt l 1 1 ≤ 3) (ho : s.owner (leAt l 0 1) = some o) (hs : (s.linkKey o (leAt l 1 1)).isSome = true) : ∃ t : State,
      exec (.secKeyTx c l) s = .next (t.answer c 0x040C (rsp .ok)) ∧ t.txSlot (leAt l 0 1) = some (leAt l 1 1) := by
  refine ⟨s.updSec (fun x => { x with txSel := tput 0 (leAt l 0 1) (leAt l 1 1 + 1) x.txSel }), ohi_answers ht ?_, ?_⟩
  · rw [opSecKeyTx, if_neg (by omega), if_neg (by simp [hm]), if_neg (by omega), if_neg (by simp [ho, hs])]
  · simp [State.txSlot]

theorem exec_secOhiKey {l : List Byte} (hl : l.length = 33) (hq : leAt l 0 1 = c.pnl) (hp : c.pnl ≤ 15) : ∃ t : State,
    exec (.secOhiKey c l) s = .next (t.answer c 0x040E (rsp .ok)) ∧ tfind c.pnl t.sec.ohiKeys = some (l.drop 1) := by
  refine ⟨s.updSec (fun x => { x with ohiKeys := tset c.pnl (l.drop 1) x.ohiKeys, ohiSeq := tput 0 c.pnl 0 x.ohiSeq }),
    ohi_answers ht ?_, tfind_tset_same ..⟩
  rw [opSecOhiKey, hq, if_neg (by omega), if_neg (by simp)]

/-! The commands that only PNL0 may issue. -/

variable (hp : c.pnl = 0)
include hp

theorem exec_secStage {off : Nat} {l : List Byte} (h1 : 1 ≤ l.length) (hl : l.length ≤ 52) (ho : off + l.length ≤ 65536)
    (hr : s.sec.report = false) : ∃ t : State, exec (.secStage c off l) s = .next (t.answer c 0x0402 (rsp .ok)) ∧
      t.sec.stage = memStores s.sec.stage off l := by
  refine ⟨_, ohi_answers ht ((if_neg (by omega)).trans (pnl0_passes hp _)), ?_⟩
  show memStores (if s.sec.report then [] else s.sec.stage) off l = _
  rw [if_neg (ne_true_of_eq_false hr)]

theorem exec_secEnrol {i : Nat} (hb : s.inBand 0 = false) (hl : s.sec.owners.length = 4) (hm : memBe s.sec.stage 0 4 = 0x47575945)
    (hop : memBe s.sec.stage 4 1 = 1) (h5 : memBe s.sec.stage 5 3 = 0) (h9 : memBe s.sec.stage 1809 3 = 0)
    (hid : memBe s.sec.stage 8 8 = s.fuseId) (ho : s.owned = false) (hf : s.freeOwner 0 = some i) : ∃ t : State,
      exec (.secEnrol c []) s = .next (t.answer c 0x0403 (rsp .ok)) ∧ t.ownerSlot = some i := by
  refine ⟨_, ohi_answers ht (t := s.blowOwner i (memSlice s.sec.stage 16 1793)) ?_, State.ownerSlot_blowOwner hl ho hf _⟩
  rw [opSecEnrol, if_neg (by simp), pnl0_passes hp, if_neg (by simp [hm, hop, h5, h9]), if_neg (not_not.mpr hid), if_pos hop,
    if_neg (by simp [hp, hb]), if_neg (by simp [ho]), hf]

theorem exec_secFwWrite {l : List Byte} (h5 : 5 ≤ l.length) (hl : l.length ≤ 56) (ho : leAt l 0 4 + (l.length - 4) ≤ 2 ^ 26) :
    ∃ t : State, exec (.secFwWrite c l) s = .next (t.answer c 0x0404 (rsp .ok)) ∧ (tget {} s.fwOther t.sec.parts).valid = false := by
  refine ⟨_, ohi_answers ht ((if_neg ?_).trans (pnl0_passes hp _)), congrArg FwPart.valid (tget_tput_same ..)⟩
  rw [List.length_drop]
  omega

theorem exec_secFwCommit : ∃ t : State, exec (.secFwCommit c []) s = .next (t.answer c 0x0405
      (rsp (if s.imageOk (tget {} s.fwOther s.sec.parts).bytes then .ok else .denied))) ∧
    (tget {} s.fwOther t.sec.parts).valid = s.imageOk (tget {} s.fwOther s.sec.parts).bytes :=
  ⟨_, ohi_answers ht ((if_neg (by simp)).trans (pnl0_passes hp _)), congrArg FwPart.valid (tget_tput_same ..)⟩

theorem exec_secRollbackAdvance (h64 : memBe s.fwImage 16 4 ≤ 64) (hlt : s.fld .SEC_ROLLBACK_fw_level 0 < memBe s.fwImage 16 4) :
    ∃ t : State, exec (.secRollbackAdvance c [0]) s = .next (t.answer c 0x0406 (rsp .ok)) ∧
      t.fld .SEC_ROLLBACK_fw_level 0 = memBe s.fwImage 16 4 := by
  have zero : leAt [0] 0 1 = 0 := by decide
  refine ⟨s.setFld .SEC_ROLLBACK_fw_level 0 (memBe s.fwImage 16 4), ohi_answers ht ?_, ?_⟩
  · rw [opSecRollbackAdvance, zero, if_pos rfl, if_neg (by simp), pnl0_passes hp, if_neg (Nat.not_lt.mpr h64), if_pos rfl,
      if_neg (Nat.not_le.mpr hlt)]
  · rw [State.fld_setFld_same]
    exact Nat.mod_eq_of_lt (by change _ < 128; omega)

theorem exec_secDebugChallenge (hl : s.flag .SEC_STATUS_debug_lock 0 = false) (ho : s.owned = true) : ∃ (t : State) (x : List Byte),
    exec (.secDebugChallenge c []) s = .next (t.answer c 0x0409 ⟨.ok, x⟩) ∧ x.length = 24 ∧ t.sec.chal = some (x, s.tick) :=
  ⟨_, _, ohi_answers ht ((if_neg (by simp)).trans (if_neg (by simp [hp, hl, ho]))), length_be_bytes .., rfl⟩

theorem exec_secDebugOpen : ∃ t : State,
    exec (.secDebugOpen c []) s = .next (t.answer c 0x040A (rsp (if s.debugGood then .ok else .denied))) ∧ t.sec.chal = none ∧
      t.fld .SEC_STATUS_debug_open 0 = (if s.debugGood then 1 else s.fld .SEC_STATUS_debug_open 0) := by
  obtain ⟨t, hop, hkept⟩ := opSecDebugOpen_spec s
  exact ⟨t, ohi_answers ht ((congrArg (fun p => opSecDebugOpen p [] s) hp).trans hop), hkept⟩

theorem exec_secTamperClear (hl : s.flag .SEC_STATUS_loop_open 0 = false) : ∃ t : State,
    exec (.secTamperClear c []) s = .next (t.answer c 0x040F (rsp .ok)) ∧ t.fld .SEC_STATUS_tamper 0 = 0 := by
  refine ⟨_, ohi_answers ht ((if_neg (by simp)).trans ((pnl0_passes hp _).trans (if_neg (ne_true_of_eq_false hl)))), ?_⟩
  rw [State.fld_updSec, State.fld_setFlag, if_neg (by simp)]
  exact State.fld_setFlag_same _ _ 0 false rfl

end

/-! The tamper loop (R478). -/

/-- A loop opened with mode 1: the flag shows and the link keys are gone. -/
theorem exec_tamperOpen {s : State} (hl : s.flag .SEC_STATUS_loop_open 0 = false) (hm : s.fld .SEC_CFG_tamper_mode 0 = 1) :
    ∃ t : State, exec .tamperOpen s = .next t ∧ t.fld .SEC_STATUS_tamper 0 = 1 ∧ t.sec.keys = [] := by
  refine ⟨_, congrArg Host.Outcome.next (if_neg (ne_true_of_eq_false hl)), ?_⟩
  extract_lets u v
  have hu : u.fld .SEC_STATUS_tamper 0 = 1 ∧ u.fld .SEC_CFG_tamper_mode 0 = 1 := by
    refine ⟨(State.fld_setFlag ..).trans ((if_neg (by simp)).trans (State.fld_setFlag_same _ _ 0 true rfl)), ?_⟩
    rw [← hm]
    exact (((FldsKept.refl [(.SEC_STATUS_loop_open, 0), (.SEC_STATUS_tamper, 0), (.GLB_STATUS_tamper, 0)] s).setFlag true (by simp)).setFlag
      true (by simp)).setFlag true (by simp) _ _ (by simp)
  have hv : v.fld .SEC_STATUS_tamper 0 = 1 ∧ v.fld .SEC_CFG_tamper_mode 0 = 1 := by
    unfold v
    split
    · exact hu
    · exact ⟨(State.fld_log _ _ _ _ _ (by simp [logFlds])).trans hu.1, (State.fld_log _ _ _ _ _ (by simp [logFlds])).trans hu.2⟩
  obtain ⟨htamper, hmode⟩ := hv
  clear_value v
  rw [State.tamperAct, hmode]
  exact ⟨(State.closeDebug_flds _ _ _ (by simp)).trans htamper, rfl⟩

theorem exec_debugClose {s : State} (h : s.flag .SEC_STATUS_debug_open 0 = true) :
    ∃ t : State, exec .debugClose s = .next t ∧ t.fld .SEC_STATUS_debug_open 0 = 0 :=
  ⟨_, congrArg Host.Outcome.next (if_pos h), State.fld_closeDebug _⟩

end Sys2Proof.Machine
end

section
/-! SUPPORT. Reset sources (R480 to R484): the level they assert and what the machine starts afresh with, and the reset and power
commands. -/

namespace Sys2Proof.Machine

/-! A reset asserts its level over a machine without a pattern. -/

/-- Keeping register fields of the state before leaves the reset and power state and the sealed pattern. -/
theorem State.takeFlds_rst_full (s old : State) (pick : Fld → Bool) :
    (s.takeFlds old pick).rst = s.rst ∧ (s.takeFlds old pick).full = s.full :=
  List.foldlRecOn (motive := fun t : State => t.rst = s.rst ∧ t.full = s.full) _ _ ⟨rfl, rfl⟩ fun _ ht _ _ => ht

@[simp] theorem State.takeFlds_full (s old : State) (pick : Fld → Bool) : (s.takeFlds old pick).full = s.full :=
  (s.takeFlds_rst_full old pick).2

theorem State.showRegion_full (s : State) (r : Nat) : (s.showRegion r).full = s.full := rfl

theorem State.reborn_full (s : State) (keep : Fld → Bool) : (s.reborn keep).full = none := State.takeFlds_full ..

theorem State.keepMemory_full (n old : State) : (n.keepMemory old).full = n.full := by
  unfold State.keepMemory
  refine (List.foldlRecOn (motive := fun t : State => t.full = n.full) _ _ ?_ fun t ht r _ => (t.showRegion_full r).trans ht)
  rw [State.takeFlds_full]
  rfl

/-- The level a reset asserts, the start-up after it and the absence of a sealed pattern. -/
def State.InReset (s : State) (level : Nat) : Prop := s.rst.level = some level ∧ s.rst.boot = 1 ∧ s.full = none

theorem State.InReset.congr {s t : State} {level : Nat} (h : s.InReset level) (hr : t.rst = s.rst) (hf : t.full = s.full) :
    t.InReset level := by
  unfold State.InReset
  rw [hr, hf]
  exact h

theorem State.InReset.setFld {s : State} {level : Nat} (h : s.InReset level) (F : Fld) (i v : Nat) : (s.setFld F i v).InReset level :=
  h.congr (s.setFld_rst F i v) (s.setFld_full F i v)

theorem State.InReset.setFlag {s : State} {level : Nat} (h : s.InReset level) (F : Fld) (i : Nat) (b : Bool) :
    (s.setFlag F i b).InReset level := h.setFld ..

theorem State.InReset.bump {s : State} {level : Nat} (h : s.InReset level) (F : Fld) (i : Nat) : (s.bump F i).InReset level :=
  h.congr (s.bump_rst F i) (s.bump_full F i)

theorem State.InReset.updRst {s : State} {level : Nat} (h : s.InReset level) {f : RstSt → RstSt} (hl : (f s.rst).level = s.rst.level)
    (hb : (f s.rst).boot = s.rst.boot) : (s.updRst f).InReset level := ⟨hl.trans h.1, hb.trans h.2.1, h.2.2⟩

theorem State.inReset_asserted {s : State} (h : s.full = none) (level : Nat) : (s.asserted level).InReset level := by
  have begun : (s.updRst (fun r => { r with level := some level, boot := 1, bootLevel := level })).InReset level := ⟨rfl, rfl, h⟩
  exact begun.setFld ..

theorem State.inReset_coldReset (s : State) : s.coldReset.InReset 3 := State.inReset_asserted (s.reborn_full _) _

theorem State.inReset_warmReset (s : State) : s.warmReset.InReset 2 := by
  unfold State.warmReset
  extract_lets u n m k
  have hn : n.full = none := u.reborn_full _
  have hm : m.InReset 2 := by
    refine State.inReset_asserted (s := (n.keepMemory u).keepTamper u) ?_ lvWarm
    rw [State.keepTamper, State.updSec_full, State.keepMemory_full, hn]
  have hk : k.InReset 2 := hm.updRst (by rfl) (by rfl)
  exact (hk.setFlag ..).bump ..

/-- A source mapped to WARM or COLD over a lower level resets at its level. -/
theorem State.fireSource_inReset {s : State} {i level : Nat} (hp : s.rst.pwr ≠ .keep) (ho : s.rst.off = false) (h2 : 2 ≤ level)
    (h3 : level ≤ 3) (hl : s.resetLevel < level) : (s.fireSource i level).InReset level := by
  have marked : ¬level ≤ (s.markSource i).resetLevel := Nat.not_le.mpr hl
  unfold State.fireSource
  rw [if_neg (by simp [hp, ho])]
  dsimp only
  rw [if_neg (by omega), if_neg marked, if_neg (by unfold lvPlane; omega)]
  split
  next h =>
    rw [h]
    exact State.inReset_warmReset _
  next h =>
    rw [show level = 3 by unfold lvWarm at h; omega]
    exact (State.inReset_coldReset _).setFld ..

/-- The map has two bits for a source. -/
theorem State.mapOf_le (s : State) (i : Nat) : s.mapOf i ≤ 3 := by
  unfold State.mapOf
  split
  · exact Nat.le_refl 3
  · exact Nat.le_of_lt_succ (Nat.mod_lt _ (by decide))

/-- A COLD reset over a lower level: the machine starts afresh and the source is marked. -/
theorem State.fireSource_cold {s : State} (i : Nat) (hp : s.rst.pwr ≠ .keep) (ho : s.rst.off = false) (hl : s.resetLevel < 3) :
    s.fireSource i 3 = (s.markSource i).coldReset.markSource i := by
  have marked : ¬3 ≤ (s.markSource i).resetLevel := Nat.not_le.mpr hl
  unfold State.fireSource
  rw [if_neg (by simp [hp, ho])]
  dsimp only
  rw [if_neg (by decide), if_neg marked, if_neg (by decide), if_neg (by decide)]

/-- No software reset waits after a COLD reset. -/
theorem State.coldReset_soft (s : State) : s.coldReset.rst.soft = none := by
  rw [State.coldReset, State.asserted, State.setFld_rst]
  show (s.reborn fixedFld).rst.soft = none
  rw [State.reborn, (State.takeFlds_rst_full ..).1]

theorem exec_softwareResetAssert {s : State} {t0 : Nat} (hs : s.rst.soft = some (3, t0)) (hp : s.rst.pwr ≠ .keep) (ho : s.rst.off = false)
    (hl : s.resetLevel < 3) : ∃ t : State, exec .softwareResetAssert s = .next t ∧ t.rst.level = some 3 ∧ t.rst.soft = none := by
  let u : State := ({ s with tick := max s.tick t0 } : State).updRst (fun r => { r with soft := none })
  have fired : exec .softwareResetAssert s = .next (u.fireSource 8 3) := by
    show execSoftwareResetAssert s = _
    rw [execSoftwareResetAssert, hs]
  refine ⟨_, fired, ?_⟩
  rw [State.fireSource_cold 8 (by exact hp) (by exact ho) (by exact hl), State.markSource, State.setFld_rst]
  exact ⟨(State.inReset_coldReset _).1, State.coldReset_soft _⟩

/-- Power-on: a COLD reset, and the straps sampled. -/
theorem exec_powerOn (s : State) {b m : Nat} (hb : b < 4) (hm : m < 16) : ∃ t : State, exec (.powerOn b m) s = .next t ∧
    t.rst.level = some 3 ∧ t.fld .PWR_STRAPS_boot_sel 0 = b ∧ t.fld .PWR_STRAPS_mod_addr 0 = m := by
  refine ⟨_, rfl, ?_, ?_, ?_⟩
  · rw [State.setFlag_rst, State.setFld_rst, State.setFld_rst, State.markSource, State.setFld_rst]
    rfl
  · rw [State.fld_setFlag, if_neg (by simp), State.fld_setFld, if_neg (by simp), State.fld_setFld_same]
    exact Nat.mod_eq_of_lt hb
  · rw [State.fld_setFlag, if_neg (by simp), State.fld_setFld_same]
    exact Nat.mod_eq_of_lt hm

/-! The reset commands (R502). -/

section
variable {c : Cmd} {s : State} (ht : s.Takes c) (hp : c.pnl = 0)
include ht hp

theorem exec_rstQuery : exec (.rstQuery c) s = .next (s.answer c 0x0101 ⟨.ok, le 4 (s.regWord 0x10004) ++ le 4 (s.regWord 0x10040)⟩) :=
  ohi_answers ht (if_neg (not_not.mpr hp))

theorem exec_rstRequest {l : Nat} (h1 : 1 ≤ l) (h3 : l ≤ 3) (hm : l ≤ s.mapOf 8) (hs : s.rst.soft = none) : ∃ t : State,
    exec (.rstRequest c l) s = .next (t.answer c 0x0102 (rsp .ok)) ∧ t.rst.soft = some (l, s.tick + msTicks 1) := by
  refine ⟨s.updRst (fun r => { r with soft := some (l, s.tick + msTicks 1) }), ohi_answers ht ?_, rfl⟩
  rw [opRstRequest, if_neg (by unfold lvCold; omega), if_neg (by omega), hs]

theorem exec_rstBlock {typ idx : Nat} (hi : idx < blkCount typ) (hl : s.loader < 2)
    (hb : s.rst.blocks.any (fun e => e.1 == typ && e.2.1 == idx) = false) (hidle : s.blkIdle typ idx = true) :
    ∃ t : State, exec (.rstBlock c typ idx) s = .next t ∧ t.rst.blocks = s.rst.blocks ++ [(typ, idx, c)] := by
  have op : opRstBlock c typ idx s
      = (s.closeDebug.updRst (fun r => { r with blocks := r.blocks ++ [(typ, idx, c)] }), none) := by
    rw [opRstBlock, if_neg (Nat.not_le.mpr hi), if_neg (not_not.mpr hp), if_neg (by simp [hb]; omega), if_neg (by simp [hidle])]
  refine ⟨_, (congrArg (fun x => Host.Outcome.next (ohi s c 0x0103 x)) op).trans (congrArg Host.Outcome.next (ohi_deferred ht)), ?_⟩
  show s.closeDebug.rst.blocks ++ _ = _
  rw [State.closeDebug, State.updSec_rst, State.setFld_rst, State.setFlag_rst]

theorem exec_pwrQuery : exec (.pwrQuery c) s = .next (s.answer c 0x0201 ⟨.ok, le 4 (s.regWord 0x20004) ++ le 4 (s.regWord 0x20008)⟩) :=
  ohi_answers ht (if_neg (not_not.mpr hp))

/-- PWR_KEEP in RUN with the input present and no channel LIVE enters GASP. -/
theorem exec_pwrKeep (hr : s.rst.pwr = .run) (hi : s.flag .PWR_STATUS_input_ok 0 = true)
    (hl : ∀ ch : Nat, ch < 192 → s.effState ch ≠ chLive) :
    exec (.pwrKeep c []) s = .next ((s.enterGasp true).answer c 0x0202 (rsp .ok)) := by
  refine ohi_answers ht ?_
  rw [opPwrKeep, if_neg (by simp), if_neg (not_not.mpr hp), if_neg]
  simpa [hr, hi] using hl

end

/-! Power and clocks (R490 to R500, R520). -/

theorem State.note_flds (s : State) (code data : Nat) : FldsKept logFlds s (s.note code data) := by
  unfold State.note
  split
  · exact (s.log_kept ..).flds
  · exact FldsKept.refl _ s

theorem FldsKept.note {fs : List (Fld × Nat)} {s t : State} (h : FldsKept (fs ++ logFlds) s t) (code data : Nat) :
    FldsKept (fs ++ logFlds) s (t.note code data) :=
  h.trans ((t.note_flds code data).mono fun _ hx => List.mem_append_right fs hx)

theorem State.note_rst (s : State) (code data : Nat) : (s.note code data).rst = s.rst := by
  unfold State.note
  split
  · exact s.log_rst ..
  · rfl

theorem State.fld_note (s : State) (code data : Nat) {F : Fld} {i : Nat} (h : (F, i) ∉ logFlds) :
    (s.note code data).fld F i = s.fld F i := s.note_flds code data F i h

theorem exec_inputLost {s : State} (h : s.flag .PWR_STATUS_input_ok 0 = true) (dc : Bool) (bulk : Nat) : ∃ t : State,
    exec (.inputLost dc bulk) s = .next t ∧ t.fld .PWR_STATUS_input_ok 0 = 0 ∧ t.rst.lostAt = some s.tick := by
  refine ⟨_, congrArg Host.Outcome.next (if_neg (by simp [h])), ?_⟩
  extract_lets u v
  have hv : v.fld .PWR_STATUS_input_ok 0 = 0 ∧ v.rst.lostAt = some s.tick := by
    refine ⟨?_, rfl⟩
    show u.fld .PWR_STATUS_input_ok 0 = 0
    exact (State.fld_setFld_ne _ _ (by simp)).trans ((State.fld_setFlag ..).trans ((if_neg (by simp)).trans
      (State.fld_setFlag_same s .PWR_STATUS_input_ok 0 false rfl)))
  clear_value v
  split
  · rw [State.fld_note _ _ _ (by simp [logFlds]), State.note_rst, State.bump_rst, State.fld_bump, if_neg (by simp)]
    exact hv
  · exact hv

theorem exec_inputReturn {s : State} (h : s.flag .PWR_STATUS_input_ok 0 = false) (hr : s.rst.pwr = .run) (bulk : Nat) : ∃ t : State,
    exec (.inputReturn bulk) s = .next t ∧ t.fld .PWR_STATUS_input_ok 0 = 1 ∧ t.rst.lostAt = none := by
  let u := (s.setFlag .PWR_STATUS_input_ok 0 true).setFld .PWR_STATUS_bulk 0 bulk
  have hu : u.fld .PWR_STATUS_input_ok 0 = 1 :=
    (State.fld_setFld_ne _ _ (by simp)).trans (State.fld_setFlag_same s .PWR_STATUS_input_ok 0 true rfl)
  have returned : exec (.inputReturn bulk) s
      = .next ((u.note 0x0202 ((u.tick - u.rst.lostAt.getD u.tick) / 200000)).updRst (fun r => { r with lostAt := none })) := by
    show execInputReturn bulk s = _
    rw [execInputReturn, if_neg (ne_true_of_eq_false h)]
    dsimp only
    rw [State.setFld_rst, State.setFlag_rst, hr]
  exact ⟨_, returned, (State.fld_note u _ _ (by simp [logFlds])).trans hu, rfl⟩

/-- GASP is entered 25 ms after the input was lost. -/
theorem exec_gaspEntry {s : State} {t0 : Nat} (hl : s.rst.lostAt = some t0) (hr : s.rst.pwr = .run) (hm : s.mgmtUp = true) :
    exec .gaspEntry s = .next (({ s with tick := max s.tick (t0 + msTicks 25) } : State).enterGasp false) := by
  show execGaspEntry s = _
  rw [execGaspEntry, hl]
  exact congrArg Host.Outcome.next (if_neg (by simp [hr, hm]))

theorem exec_keepEntry {s : State} (h : s.rst.pwr = .gasp) : ∃ t : State, exec .keepEntry s = .next t ∧ t.rst.pwr = .keep :=
  ⟨_, congrArg Host.Outcome.next (if_neg (not_not.mpr h)), rfl⟩

/-- The return from KEEP is a WARM reset into RUN. -/
theorem State.leaveKeep_rst (s : State) : s.leaveKeep.rst.pwr = .run ∧ s.leaveKeep.rst.level = some 2 := by
  unfold State.leaveKeep
  rw [State.bump_rst, State.setFlag_rst, State.asserted, State.setFld_rst]
  exact ⟨rfl, rfl⟩

theorem exec_blank0KeepWake {s : State} (hk : s.rst.pwr = .keep) (ho : s.rst.off = false) (hi : s.flag .PWR_STATUS_input_ok 0 = true)
    (tick : Nat) : ∃ t : State, exec (.blank0KeepWake tick) s = .next t ∧ t.rst.pwr = .run ∧ t.rst.level = some 2 :=
  ⟨_, congrArg Host.Outcome.next ((if_neg (by simp [hk, ho])).trans (if_pos hi)), State.leaveKeep_rst _⟩

theorem exec_aonStoresExhausted {s : State} (hk : s.rst.pwr = .keep) (hi : s.flag .PWR_STATUS_input_ok 0 = false) :
    ∃ t : State, exec .aonStoresExhausted s = .next t ∧ t.rst.off = true :=
  ⟨_, congrArg Host.Outcome.next (if_neg (by simp [hk, hi])), rfl⟩

/-- A switch of the reference: the source selected, and the other fields but its own. -/
theorem State.refSwitch_flds (s : State) {sel : Nat} (hs : sel < 4) : (s.refSwitch sel).fld .PWR_CLK_STATUS_ref_sel 0 = sel ∧
    FldsKept ([(.PWR_CLK_STATUS_ref_sel, 0), (.PWR_CLK_STATUS_slewing, 0), (.PWR_CNT_ref_switch, 0)] ++ logFlds) s (s.refSwitch sel) := by
  unfold State.refSwitch
  dsimp only
  split
  next h => exact ⟨h, FldsKept.refl _ s⟩
  next h =>
    generalize hu : State.setFld (s.updRst _) .PWR_CLK_STATUS_ref_sel 0 sel = u
    have kept : FldsKept ([(.PWR_CLK_STATUS_ref_sel, 0), (.PWR_CLK_STATUS_slewing, 0), (.PWR_CNT_ref_switch, 0)] ++ logFlds) s u := by
      rw [← hu]
      exact FldsKept.setFld (FldsKept.congr (FldsKept.refl _ s) rfl) _ (by simp)
    have selected : u.fld .PWR_CLK_STATUS_ref_sel 0 = sel := by
      rw [← hu, State.fld_setFld_same]
      exact Nat.mod_eq_of_lt hs
    have counted := (kept.setFlag (F := .PWR_CLK_STATUS_slewing) (i := 0) true (by simp)).bump (F := .PWR_CNT_ref_switch) (i := 0) (by simp)
    refine ⟨?_, counted.note _ _⟩
    rw [State.fld_note _ _ _ (by simp [logFlds]), State.fld_bump, if_neg (by simp), State.fld_setFlag, if_neg (by simp), selected]

theorem exec_refclkValid {s : State} (h : s.mgmtUp = true) (m25 : Bool) (ofs : Nat) : ∃ t : State,
    exec (.refclkValid m25 ofs) s = .next t ∧ t.fld .PWR_CLK_STATUS_refclk_valid 0 = 1 ∧
      t.fld .PWR_CLK_STATUS_ref_sel 0 = (if m25 then 2 else 1) := by
  refine ⟨_, congrArg Host.Outcome.next (if_neg (by simp [h])), ?_⟩
  have small : (if m25 then 2 else 1) < 4 := by cases m25 <;> decide
  obtain ⟨hsel, hkept⟩ :=
    State.refSwitch_flds ((s.setFlag .PWR_CLK_STATUS_refclk_valid 0 true).setFld .PWR_CLK_STATUS_ref_ofs 0 ofs) small
  refine ⟨(hkept _ _ (by simp [logFlds])).trans ?_, hsel⟩
  rw [State.fld_setFld_ne _ _ (by simp)]
  exact State.fld_setFlag_same s .PWR_CLK_STATUS_refclk_valid 0 true rfl

theorem exec_clkRefLost {s : State} (h : s.mgmtUp = true) (hv : s.flag .PWR_CLK_STATUS_refclk_valid 0 = true) : ∃ t : State,
    exec .clkRefLost s = .next t ∧ t.fld .PWR_CLK_STATUS_refclk_valid 0 = 0 := by
  refine ⟨_, congrArg Host.Outcome.next (if_neg (by simp [h, hv])), ?_⟩
  rw [(State.refSwitch_flds _ (by decide)).2 _ _ (by simp [logFlds]), State.fld_note _ _ _ (by simp [logFlds]), State.fld_bump,
    if_neg (by simp)]
  exact State.fld_setFlag_same s .PWR_CLK_STATUS_refclk_valid 0 false rfl

theorem exec_clockSlewEnd {s : State} (h : s.fld .PWR_CLK_STATUS_slewing 0 = 1) : ∃ t : State,
    exec .clockSlewEnd s = .next t ∧ t.fld .PWR_CLK_STATUS_slewing 0 = 0 :=
  ⟨_, congrArg Host.Outcome.next (if_pos (by simp [State.flag, h])), State.fld_setFlag_same _ _ 0 false rfl⟩

theorem exec_pwrXtal (s : State) : ∃ t : State, exec .pwrXtal s = .next t ∧ t.fld .PWR_TOD_HI_tod_valid 0 = 0 :=
  ⟨_, rfl, (State.fld_note _ _ _ (by simp [logFlds])).trans (State.fld_setFlag_same s .PWR_TOD_HI_tod_valid 0 false rfl)⟩

/-- A baseplate at 85 °C or more, that was not hot, is hot. -/
theorem State.heatTemp_hot {s : State} {temp : Nat} (h85 : 85 ≤ signed 8 temp) (hh : s.flag .PWR_THERMAL_hot 0 = false) :
    (s.heatTemp temp).fld .PWR_THERMAL_hot 0 = 1 := by
  have cool : ((s.setFld .PWR_THERMAL_baseplate 0 temp).setFlag .PWR_THERMAL_t_valid 0 true).flag .PWR_THERMAL_hot 0 = false := by
    rw [← hh, State.flag, State.flag, State.fld_setFlag, if_neg (by simp), State.fld_setFld_ne _ _ (by simp)]
  unfold State.heatTemp
  dsimp only
  rw [if_pos ⟨h85, cool⟩, State.fld_note _ _ _ (by simp [logFlds]), State.fld_bump, if_neg (by simp)]
  exact State.fld_setFlag_same _ _ 0 true rfl

theorem exec_pwrHot {s : State} {temp : Nat} (hm : s.mgmtUp = true) (h85 : 85 ≤ signed 8 temp) (h100 : signed 8 temp < 100)
    (hh : s.flag .PWR_THERMAL_hot 0 = false) : ∃ t : State, exec (.pwrHot temp) s = .next t ∧ t.fld .PWR_THERMAL_hot 0 = 1 := by
  refine ⟨_, congrArg Host.Outcome.next (if_neg ?_), ?_⟩
  · exact fun h => absurd h.1 (not_le.mpr h100)
  · rw [if_pos hm]
    split
    · exact State.heatTemp_hot h85 hh
    · exact State.heatTemp_hot h85 hh

end Sys2Proof.Machine
end

section
/-! SUPPORT. The power state through a loader cut off, channels, lanes and pipes stopped and registers reset. -/

namespace Sys2Proof.Machine

/-- The power state, how GASP was entered, and the flag that shows it, of a reset and power state and a register table. -/
def supplyOf (rst : RstSt) (regs : Tbl Nat) : PwrState × Bool × Nat × Nat :=
  (rst.pwr, rst.byKeep, rst.gaspAt, tget (Fld.PWR_STATUS_gasp.resetAt 0) (Fld.PWR_STATUS_gasp.key 0) regs)

/-- What GASP entry sets and nothing it stops may change. -/
def State.supply (s : State) : PwrState × Bool × Nat × Nat := supplyOf s.rst s.regs

/-- A change of any other part of the state. -/
@[simp] theorem State.supply_mk
    (pending regs tel tick free mgmt pat full grid chans ola dlv host drm tim hlk gau ser cmd bob hbm sec rst ldr) :
    (State.mk pending regs tel tick free mgmt pat full grid chans ola dlv host drm tim hlk gau ser cmd bob hbm sec rst ldr).supply
      = supplyOf rst regs := rfl

@[simp] theorem State.supplyOf_components (s : State) : supplyOf s.rst s.regs = s.supply := rfl

@[simp] theorem State.supply_ite (P : Prop) [Decidable P] (s t : State) :
    (if P then s else t).supply = if P then s.supply else t.supply := apply_ite ..

/-- A fold of steps that keep it keeps it. -/
@[simp] theorem State.supply_foldl {α : Type} {f : State → α → State} (hf : ∀ s x, (f s x).supply = s.supply) (l : List α)
    (s : State) : (l.foldl f s).supply = s.supply :=
  List.foldlRecOn (motive := fun t : State => t.supply = s.supply) l f rfl fun t ht x _ => (hf t x).trans ht

/-! Registers, events and requests: of the registers only the GASP flag itself counts. -/

@[simp] theorem supplyOf_setFld (rst : RstSt) (s : State) {F : Fld} (h : F ≠ .PWR_STATUS_gasp) (i v : Nat) :
    supplyOf rst (s.setFld F i v).regs = supplyOf rst s.regs := by
  have kept : (s.setFld F i v).fld .PWR_STATUS_gasp 0 = s.fld .PWR_STATUS_gasp 0 := s.fld_setFld_ne v fun e => h e.1.symm
  exact congrArg (fun x => (rst.pwr, rst.byKeep, rst.gaspAt, x)) kept

@[simp] theorem State.supply_setFld (s : State) {F : Fld} (h : F ≠ .PWR_STATUS_gasp) (i v : Nat) : (s.setFld F i v).supply = s.supply :=
  supplyOf_setFld s.rst s h i v

@[simp] theorem supplyOf_setFlag (rst : RstSt) (s : State) {F : Fld} (h : F ≠ .PWR_STATUS_gasp) (i : Nat) (b : Bool) :
    supplyOf rst (s.setFlag F i b).regs = supplyOf rst s.regs := supplyOf_setFld rst s h ..

@[simp] theorem State.supply_setFlag (s : State) {F : Fld} (h : F ≠ .PWR_STATUS_gasp) (i : Nat) (b : Bool) :
    (s.setFlag F i b).supply = s.supply := by
  simp [State.setFlag, h]

@[simp] theorem State.supply_bumpN (s : State) {F : Fld} (h : F ≠ .PWR_STATUS_gasp) (i n : Nat) : (s.bumpN F i n).supply = s.supply :=
  State.supply_setFld s h ..

@[simp] theorem State.supply_bump (s : State) {F : Fld} (h : F ≠ .PWR_STATUS_gasp) (i : Nat) : (s.bump F i).supply = s.supply := by
  simp [State.bump, h]

@[simp] theorem State.supply_log (s : State) (code panel inst data : Nat) : (s.log code panel inst data).supply = s.supply := by
  have flag := s.fld_log code panel inst data (F := .PWR_STATUS_gasp) (i := 0) (by decide)
  show ((s.log code panel inst data).rst.pwr, (s.log code panel inst data).rst.byKeep, (s.log code panel inst data).rst.gaspAt,
    (s.log code panel inst data).fld .PWR_STATUS_gasp 0) = _
  rw [flag, State.log_rst]
  rfl

@[simp] theorem State.supply_setChan (s : State) (ch : Nat) (c : Chan) : (s.setChan ch c).supply = s.supply := by
  simp [State.setChan]

@[simp] theorem State.supply_updChan (s : State) (ch : Nat) (f : Chan → Chan) : (s.updChan ch f).supply = s.supply := by
  simp [State.updChan]

@[simp] theorem State.supply_request (s : State) (c : SlotChange) : (s.request c).supply = s.supply := by
  simp [State.request]

@[simp] theorem State.supply_requestState (s : State) (ch st cause : Nat) : (s.requestState ch st cause).supply = s.supply := by
  simp [State.requestState]

@[simp] theorem supply_forAll {f : Nat → State → State} (hf : ∀ i s, (f i s).supply = s.supply) (l : List Nat) (s : State) :
    (forAll l f s).supply = s.supply :=
  State.supply_foldl (fun s i => hf i s) l s

/-! Delivery: descriptors, messages, committed frames. -/

@[simp] theorem State.supply_giveDesc (s : State) (p : Pool) : (s.giveDesc p).supply = s.supply := by
  unfold State.giveDesc
  split <;> simp

@[simp] theorem State.supply_giveIf (s : State) (p : Option Pool) : (s.giveIf p).supply = s.supply := by
  unfold State.giveIf
  split <;> simp

@[simp] theorem State.supply_sendDevice (s : State) (ch peer : Nat) (ackReq : Bool) (ep : Nat) (data : List Byte) (tm : Option TmMsg) :
    (s.sendDevice ch peer ackReq ep data tm).supply = s.supply := by
  obtain ⟨d, hd⟩ := s.sendDevice_dlv ch peer ackReq ep data tm
  rw [hd]
  rfl

@[simp] theorem State.supply_sweepTx (s : State) : s.sweepTx.supply = s.supply := by
  simp [State.sweepTx]

@[simp] theorem State.supply_abandonSegs (s : State) (pick : Seg → Bool) : (s.abandonSegs pick).supply = s.supply := by
  unfold State.abandonSegs
  extract_lets mids gone late d kept given told
  have hgiven : given.supply = s.supply := State.supply_foldl (by simp) gone kept
  have htold : told.supply = given.supply := State.supply_foldl (fun s m => by split <;> simp) mids.dedup given
  rw [State.supply_sweepTx, htold, hgiven]

@[simp] theorem State.supply_unbuild (s : State) (f : Frame) : (s.unbuild f).supply = s.supply := by
  simp [State.unbuild]

@[simp] theorem State.supply_refundAir (s : State) (f : Frame) : (s.refundAir f).supply = s.supply := by
  simp [State.refundAir]

@[simp] theorem State.supply_unsendLi (s : State) (f : Frame) : (s.unsendLi f).supply = s.supply := by
  unfold State.unsendLi
  split <;> simp

@[simp] theorem State.supply_cutRamp (s : State) (ch t : Nat) : (s.cutRamp ch t).supply = s.supply := by
  simp [State.cutRamp]

@[simp] theorem State.supply_endExchange (s : State) (ch slot : Nat) : (s.endExchange ch slot).supply = s.supply := by
  simp [State.endExchange]

@[simp] theorem State.supply_discardFrame (s : State) (f : Frame) : (s.discardFrame f).supply = s.supply := by
  simp [State.discardFrame]

@[simp] theorem State.supply_discardFrames (s : State) (ch : Nat) : (s.discardFrames ch).supply = s.supply := by
  simp [State.discardFrames]

@[simp] theorem State.supply_dropRxFlows (s : State) (pick : RxFlow → Bool) : (s.dropRxFlows pick).supply = s.supply := by
  simp [State.dropRxFlows]

@[simp] theorem State.supply_dropCopies (s : State) (ch : Nat) : (s.dropCopies ch).supply = s.supply := by
  simp [State.dropCopies]

@[simp] theorem State.supply_channelLeaves (s : State) (ch : Nat) : (s.channelLeaves ch).supply = s.supply := by
  simp [State.channelLeaves]

@[simp] theorem State.supply_restartFlows (s : State) (ch : Nat) : (s.restartFlows ch).supply = s.supply := by
  simp [State.restartFlows]

/-! Tone maps and the interleaver. -/

@[simp] theorem State.supply_syncMaps (s : State) (ch : Nat) : (s.syncMaps ch).supply = s.supply := by
  simp [State.syncMaps]

@[simp] theorem State.supply_restartLi (s : State) (ch : Nat) (tx rx : Bool) : (s.restartLi ch tx rx).supply = s.supply := by
  unfold State.restartLi
  extract_lets c s1 s2 s3
  have h1 : s1.supply = s.supply := by simp [s1]
  have h3 : s3.supply = s.supply := by
    unfold s3 s2
    split
    · split <;> simp [h1]
    · exact h1
  split <;> simp [h3]

@[simp] theorem State.supply_clearMaps (s : State) (ch : Nat) : (s.clearMaps ch).supply = s.supply := by
  simp [State.clearMaps]

@[simp] theorem State.supply_chooseImpulse (s : State) (ch : Nat) : (s.chooseImpulse ch).supply = s.supply := by
  simp [State.chooseImpulse]

@[simp] theorem State.supply_sendTm (s : State) (ch : Nat) (m : TmMsg) : (s.sendTm ch m).supply = s.supply := by
  simp [State.sendTm]

@[simp] theorem State.supply_askSound (s : State) (ch : Nat) : (s.askSound ch).supply = s.supply := by
  simp [State.askSound]

@[simp] theorem State.supply_startTraining (s : State) (ch : Nat) : (s.startTraining ch).supply = s.supply := by
  simp [State.startTraining]

/-! Overlock: pairs and duplex. -/

@[simp] theorem State.supply_setPair (s : State) (cls vi slot : Nat) (dest : PairSt) :
    (s.setPair cls vi slot dest).supply = s.supply := by
  simp [State.setPair]

@[simp] theorem State.supply_mapPairs (s : State) (cls x : Nat) (f : PairSt → PairSt) : (s.mapPairs cls x f).supply = s.supply := by
  simp [State.mapPairs]

@[simp] theorem State.supply_olaEmpty (s : State) (x : Nat) : (s.olaEmpty x).supply = s.supply := by
  simp [State.olaEmpty]

@[simp] theorem State.supply_olaEmptyFar (s : State) (x : Nat) : (s.olaEmptyFar x).supply = s.supply := by
  simp [State.olaEmptyFar]

@[simp] theorem State.supply_olaDemote (s : State) (x : Nat) : (s.olaDemote x).supply = s.supply := by
  simp [State.olaDemote]

@[simp] theorem State.supply_olaHold (s : State) (x : Nat) : (s.olaHold x).supply = s.supply := by
  simp [State.olaHold]

@[simp] theorem State.supply_olaUnhold (s : State) (x : Nat) : (s.olaUnhold x).supply = s.supply := by
  simp [State.olaUnhold]

@[simp] theorem State.supply_dropResid (s : State) (x : Nat) : (s.dropResid x).supply = s.supply := by
  simp [State.dropResid]

@[simp] theorem State.supply_olaStateChange (s : State) (x old new : Nat) : (s.olaStateChange x old new).supply = s.supply := by
  simp [State.olaStateChange]

@[simp] theorem State.supply_handDuplex (s : State) : s.handDuplex.supply = s.supply := by
  simp [State.handDuplex]

@[simp] theorem State.supply_olaShow (s : State) : s.olaShow.supply = s.supply := by
  simp [State.olaShow]

/-! Dormant records, replay floors and delays. -/

@[simp] theorem State.supply_setRec (s : State) (r : Nat) (d : DrmRec) : (s.setRec r d).supply = s.supply := by
  simp [State.setRec]

@[simp] theorem State.supply_stopTones (s : State) (ch : Nat) : (s.stopTones ch).supply = s.supply := by
  simp [State.stopTones]

@[simp] theorem State.supply_raiseFloors (s : State) (ch : Nat) : (s.raiseFloors ch).supply = s.supply := by
  simp [State.raiseFloors]

@[simp] theorem State.supply_flowRestart (s : State) (ch : Nat) : (s.flowRestart ch).supply = s.supply := by
  simp [State.flowRestart]

@[simp] theorem State.supply_setPd (s : State) (p : Nat) (d : PdSt) : (s.setPd p d).supply = s.supply := by
  unfold State.setPd
  split <;> simp

@[simp] theorem State.supply_pdDrop (s : State) (ch : Nat) : (s.pdDrop ch).supply = s.supply := by
  simp [State.pdDrop]

/-! Lanes, feeders and Cast. -/

@[simp] theorem State.supply_setLane (s : State) (j : Nat) (l : Lane) : (s.setLane j l).supply = s.supply := by
  simp [State.setLane]

@[simp] theorem State.supply_updLane (s : State) (j : Nat) (f : Lane → Lane) : (s.updLane j f).supply = s.supply := by
  simp [State.updLane]

@[simp] theorem State.supply_sendCtl (s : State) (j : Nat) (write : Bool) (addr data : Nat) (why : CtlWhy) :
    (s.sendCtl j write addr data why).supply = s.supply := by
  simp [State.sendCtl]

@[simp] theorem State.supply_dropTheta (s : State) (ch : Nat) : (s.dropTheta ch).supply = s.supply := by
  simp [State.dropTheta]

@[simp] theorem State.supply_showRegion (s : State) (r : Nat) : (s.showRegion r).supply = s.supply := by
  simp [State.showRegion]

@[simp] theorem State.supply_showCap (s : State) : s.showCap.supply = s.supply := by
  simp [State.showCap]

/-! Channel states. -/

@[simp] theorem State.supply_showGates (s : State) (ch : Nat) : (s.showGates ch).supply = s.supply := by
  simp [State.showGates]

@[simp] theorem State.supply_rearm (s : State) (ch : Nat) : (s.rearm ch).supply = s.supply := by
  simp [State.rearm]

@[simp] theorem State.supply_resetRx (s : State) (ch : Nat) : (s.resetRx ch).supply = s.supply := by
  simp [State.resetRx]

@[simp] theorem State.supply_leaveState (s : State) (ch old new : Nat) : (s.leaveState ch old new).supply = s.supply := by
  simp [State.leaveState]

@[simp] theorem State.supply_enterState (s : State) (ch old new cause : Nat) :
    (s.enterState ch old new cause).supply = s.supply := by
  simp [State.enterState]

@[simp] theorem State.supply_applyState (s : State) (ch new cause : Nat) : (s.applyState ch new cause).supply = s.supply := by
  simp [State.applyState]

@[simp] theorem State.supply_offForApply (s : State) : s.offForApply.supply = s.supply := by
  simp [State.offForApply]


/-! Register writes and returns to reset values. -/

/-- A table whose filter keeps every entry of a key reads there as before. -/
theorem tget_filter_of_key {α : Type} (d : α) {k : Nat} {p : Nat × α → Bool} (h : ∀ v, p (k, v) = true) (t : Tbl α) :
    tget d k (t.filter p) = tget d k t := by
  induction t with
  | nil => rfl
  | cons e t ih =>
    obtain ⟨k', v⟩ := e
    by_cases hk : k = k'
    · subst hk
      rw [List.filter_cons_of_pos (h v)]
      simp [tget]
    · rw [List.filter_cons]
      split <;> simp [tget, hk, ih]

theorem fldOf_gasp : fldOf (Fld.PWR_STATUS_gasp.key 0) = some .PWR_STATUS_gasp := by decide

/-- Fields return to their reset values, but not the GASP flag. -/
theorem State.supply_clearFlds (s : State) {pick : Fld → Nat → Bool} (h : ∀ i, pick .PWR_STATUS_gasp i = false) :
    (s.clearFlds pick).supply = s.supply := by
  have kept : tget (Fld.PWR_STATUS_gasp.resetAt 0) (Fld.PWR_STATUS_gasp.key 0) (s.clearFlds pick).regs = _ :=
    tget_filter_of_key _ (fun v => by simp [fldOf_gasp, h]) s.regs
  exact congrArg (fun x => (s.rst.pwr, s.rst.byKeep, s.rst.gaspAt, x)) kept

theorem State.supply_putPat (s : State) {pick : Fld → Nat → Bool} (h : ∀ i, pick .PWR_STATUS_gasp i = false) :
    (s.putPat pick).supply = s.supply := by
  refine List.foldlRecOn (motive := fun t : State => t.supply = s.supply) _ _ rfl fun t ht e he => ?_
  have picked : pick e.1 e.2.1 = true := (List.mem_filter.mp he).2
  exact (State.supply_setFld t (fun hF => Bool.false_ne_true ((h e.2.1).symm.trans (hF ▸ picked))) ..).trans ht

@[simp] theorem State.supply_setPort (s : State) (n : Nat) (p : SerPort) : (s.setPort n p).supply = s.supply := by
  simp [State.setPort, State.showPort]

@[simp] theorem State.supply_writeRingIdx (s : State) (q w : Nat) : (s.writeRingIdx q w).supply = s.supply := by
  simp [State.writeRingIdx]

@[simp] theorem State.supply_writeAccept (s : State) (ws : List Nat) : (s.writeAccept ws).supply = s.supply := by
  simp [State.writeAccept]

theorem State.supply_storeFld (s : State) {F : Fld} (h : F ≠ .PWR_STATUS_gasp) (i v : Nat) : (s.storeFld F i v).supply = s.supply := by
  simp [State.storeFld, h]

/-- The GASP flag is read-only: no register write reaches it. -/
@[simp] theorem State.supply_writeFld (s : State) (loader : Bool) (p : Nat) (F : Fld) (i w : Nat) :
    (s.writeFld loader p F i w).supply = s.supply := by
  have writable (h : F.info.acc ≠ .ro) : F ≠ .PWR_STATUS_gasp := fun e => h (e ▸ rfl)
  unfold State.writeFld
  extract_lets v
  split
  · rfl
  · split
    next => rfl
    next => rfl
    next h => exact State.supply_setFld s (writable (by simp [h])) ..
    next h => exact State.supply_setFld s (writable (by simp [h])) ..
    next => simp [State.writeTxData]
    next h => split <;> simp [State.supply_storeFld, writable, h]
    next h =>
      split
      · simp [State.setEvRd]
      · simp [State.writeDiv]
      · exact State.supply_storeFld s (writable (by simp [h])) ..

/-! Gauges. -/

@[simp] theorem State.supply_updGauge (s : State) (ch : Nat) (f : GauCh → GauCh) : (s.updGauge ch f).supply = s.supply := rfl

@[simp] theorem State.supply_switchNco (s : State) (ch who phase ftw amp : Nat) : (s.switchNco ch who phase ftw amp).supply = s.supply := by
  simp [State.switchNco]

@[simp] theorem State.supply_gaugeIdle (s : State) (ch : Nat) : (s.gaugeIdle ch).supply = s.supply := by
  simp [State.gaugeIdle]

@[simp] theorem State.supply_gaugeExcite (s : State) (ch : Nat) : (s.gaugeExcite ch).supply = s.supply := by
  simp [State.gaugeExcite]

@[simp] theorem State.supply_abandonCheck (s : State) (ch : Nat) : (s.abandonCheck ch).supply = s.supply := by
  simp [State.abandonCheck]

@[simp] theorem State.supply_gaugeUpdate (s : State) (ch : Nat) : (s.gaugeUpdate ch).supply = s.supply := by
  simp [State.gaugeUpdate]

@[simp] theorem State.supply_gaugeRetune (s : State) (ch : Nat) : (s.gaugeRetune ch).supply = s.supply := by
  simp [State.gaugeRetune]

@[simp] theorem State.supply_gaugeLaneLost (s : State) (ch : Nat) : (s.gaugeLaneLost ch).supply = s.supply := by
  simp [State.gaugeLaneLost]

@[simp] theorem State.supply_startGauges (s : State) : s.startGauges.supply = s.supply := by
  simp [State.startGauges, State.setGauge]

/-! Registers under a pattern. -/

@[simp] theorem State.supply_afterWrite (s old : State) (fs : List (Fld × Nat)) : (s.afterWrite old fs).supply = s.supply := by
  refine State.supply_foldl (fun t e => ?_) fs s
  split
  · rfl
  · split <;> simp

@[simp] theorem State.supply_countWrite (s : State) (loader : Bool) (p : Nat) (fs : List (Fld × Nat)) (w : Nat) :
    (s.countWrite loader p fs w).supply = s.supply := by
  simp [State.countWrite]

@[simp] theorem State.supply_writeReg (s : State) (loader : Bool) (p a w : Nat) : (s.writeReg loader p a w).supply = s.supply := by
  simp [State.writeReg]

@[simp] theorem State.supply_writeGroup (s : State) (loader : Bool) (p b n a w : Nat) :
    (s.writeGroup loader p b n a w).supply = s.supply := by
  unfold State.writeGroup
  extract_lets accept plain who others done m u
  have hu : u.supply = s.supply := rfl
  clear_value done u
  split
  · rfl
  · split
    · simp
    · cases done with
      | none => rfl
      | some ws =>
        dsimp only
        split
        · rfl
        · split <;> simp [hu]

@[simp] theorem State.supply_initWrite (s : State) (loader : Bool) (p : Nat) (e : Nat × Nat) :
    (s.initWrite loader p e).supply = s.supply := by
  unfold State.initWrite
  split
  split
  · simp
  · split <;> simp

@[simp] theorem State.supply_initRegs (s : State) (pick : Nat → Bool) : (s.initRegs pick).supply = s.supply := by
  simp [State.initRegs]

theorem State.supply_resetRegs (s : State) {pick : Fld → Nat → Bool} (h : ∀ i, pick .PWR_STATUS_gasp i = false) :
    (s.resetRegs pick).supply = s.supply := by
  have mine (i : Nat) : (!fldStays .PWR_STATUS_gasp && pick .PWR_STATUS_gasp i) = false := by rw [h, Bool.and_false]
  exact (State.supply_initRegs ..).trans ((State.supply_putPat _ (pick := fun F i => !fldStays F && pick F i) mine).trans
    (State.supply_clearFlds s (pick := fun F i => !fldStays F && pick F i) mine))

@[simp] theorem State.supply_freshPools (s : State) : s.freshPools.supply = s.supply := rfl

@[simp] theorem State.supply_freshChans (s : State) : s.freshChans.supply = s.supply := by
  simp [State.freshChans]

@[simp] theorem State.supply_clearPipes (s : State) : s.clearPipes.supply = s.supply := rfl

@[simp] theorem State.supply_showAllGates (s : State) : s.showAllGates.supply = s.supply := by
  simp [State.showAllGates]

@[simp] theorem State.supply_closeDebug (s : State) : s.closeDebug.supply = s.supply := by
  simp [State.closeDebug, State.updSec]

/-! Commands answered. -/

@[simp] theorem State.supply_logRefuse (s : State) (p opcode : Nat) (r : Resp) : (s.logRefuse p opcode r).supply = s.supply := by
  simp [State.logRefuse]

@[simp] theorem State.supply_rspIndex (s : State) (p : Nat) : (s.rspIndex p).supply = s.supply := by
  simp [State.rspIndex]

@[simp] theorem State.supply_answerOn (s : State) (inBand : Bool) (c : Cmd) (opcode : Nat) (r : Resp) :
    (s.answerOn inBand c opcode r).supply = s.supply := by
  simp [State.answerOn, State.answerInBand, State.answerSpi, State.pushRsp]

@[simp] theorem State.supply_completeCmd (s : State) (c : Cmd) (opcode : Nat) (r : Resp) :
    (s.completeCmd c opcode r).supply = s.supply := by
  unfold State.completeCmd
  split <;> simp

/-! Lanes lost. -/

@[simp] theorem State.supply_setLaneState (s : State) (j st cause : Nat) : (s.setLaneState j st cause).supply = s.supply := by
  simp [State.setLaneState]

@[simp] theorem State.supply_dropCtl (s : State) (j : Nat) : (s.dropCtl j).supply = s.supply := by
  refine (State.supply_foldl (fun t m => ?_) _ _).trans (State.supply_setLane ..)
  split <;> simp

@[simp] theorem State.supply_laneFallBack (s : State) (j st cause : Nat) : (s.laneFallBack j st cause).supply = s.supply := by
  simp [State.laneFallBack]

@[simp] theorem State.supply_olaDropHead (s : State) (j : Nat) : (s.olaDropHead j).supply = s.supply := by
  simp [State.olaDropHead]

@[simp] theorem State.supply_keepTerms (s : State) (j : Nat) : (s.keepTerms j).supply = s.supply := rfl

@[simp] theorem State.supply_laneLost (s : State) (j st cause : Nat) : (s.laneLost j st cause).supply = s.supply := by
  simp [State.laneLost]

@[simp] theorem State.supply_laneLeave (s : State) (j st cause : Nat) : (s.laneLeave j st cause).supply = s.supply := by
  simp [State.laneLeave]

@[simp] theorem State.supply_laneReset (s : State) (j : Nat) : (s.laneReset j).supply = s.supply := by
  simp [State.laneReset]

/-! A PLANE reset, and the loader cut off. -/

/-- A change of the reset and power state that leaves the power state, and how GASP was entered. -/
theorem State.supply_updRst (s : State) {f : RstSt → RstSt} (hp : (f s.rst).pwr = s.rst.pwr) (hk : (f s.rst).byKeep = s.rst.byKeep)
    (hg : (f s.rst).gaspAt = s.rst.gaspAt) : (s.updRst f).supply = s.supply := by
  show ((f s.rst).pwr, (f s.rst).byKeep, (f s.rst).gaspAt, _) = _
  rw [hp, hk, hg]
  rfl

@[simp] theorem State.supply_planeReset (s : State) : s.planeReset.supply = s.supply := by
  unfold State.planeReset
  extract_lets u v w x hlk gau y z k
  have hu : u.supply = s.supply := by simp [u]
  have hv : v.supply = s.supply := (supply_forAll (fun ch t => t.supply_applyState ch chOff 0) _ u).trans hu
  clear_value v
  have hw : w.supply = s.supply := (supply_forAll (fun j t => t.supply_laneReset j) (List.range 8) v).trans hv
  clear_value w
  have hy : y.supply = s.supply := (State.supply_clearPipes w).trans hw
  have hz : z.supply = s.supply := (State.supply_freshPools _).trans ((State.supply_resetRegs y fun _ => rfl).trans hy)
  clear_value z
  have hk : k.supply = s.supply := by simp [k, hz]
  clear_value k
  exact (State.supply_updRst k rfl rfl rfl).trans hk

theorem State.supply_flashLog (s : State) (n : Nat) (ok : Bool) : (s.flashLog n ok).supply = s.supply := by
  unfold State.flashLog
  split
  · rfl
  · exact (State.supply_log ..).trans (State.supply_setFld _ (by simp) ..)

@[simp] theorem State.supply_updLdr (s : State) (f : LdrSt → LdrSt) : (s.updLdr f).supply = s.supply := rfl

@[simp] theorem State.supply_runWaiting (s : State) : s.runWaiting.supply = s.supply := by
  unfold State.runWaiting
  split
  · rfl
  · have kept : (s.updRst (fun r => { r with waiting := [] })).supply = s.supply := State.supply_updRst s rfl rfl rfl
    dsimp only
    split
    · exact kept
    · exact (State.supply_planeReset _).trans kept

@[simp] theorem State.supply_showReject (s : State) (code : Nat) (c : Option Conflict) : (s.showReject code c).supply = s.supply := by
  simp [State.showReject]

@[simp] theorem State.supply_endLoad (s : State) : s.endLoad.supply = s.supply := by
  simp [State.endLoad, State.setWords4, State.setLoader]

@[simp] theorem State.supply_reject (s : State) (code : Nat) (c : Option Conflict) : (s.reject code c).supply = s.supply := by
  unfold State.reject
  dsimp only
  split <;> simp

@[simp] theorem State.supply_dropPending (s : State) (pick : Nat → Bool) : (s.dropPending pick).supply = s.supply := by
  refine (State.supply_foldl (fun t e => ?_) _ _).trans (State.supply_updLdr ..)
  dsimp only
  split <;> simp

@[simp] theorem State.supply_gaspLoader (s : State) : s.gaspLoader.supply = s.supply := by
  simp [State.gaspLoader]

/-! What GASP stops. -/

@[simp] theorem State.supply_gaspChans (s : State) : s.gaspChans.supply = s.supply := by
  simp [State.gaspChans]

@[simp] theorem State.supply_castCut (s : State) : s.castCut.supply = s.supply := by
  refine State.supply_foldl (fun t r => ?_) _ s
  dsimp only
  split <;> simp [State.setRegion]

@[simp] theorem State.supply_gaspEngines (s : State) : s.gaspEngines.supply = s.supply := by
  simp [State.gaspEngines]

@[simp] theorem State.supply_gaspLinks (s : State) : s.gaspLinks.supply = s.supply := by
  simp [State.gaspLinks]

@[simp] theorem State.supply_gaspHosts (s : State) : s.gaspHosts.supply = s.supply := by
  unfold State.gaspHosts
  dsimp only
  split
  · rfl
  · split
    · rfl
    · exact State.supply_foldl (by intro t i; rfl) _ s

/-- What GASP entry leaves: the power state, how and when it was entered, and the flag. -/
theorem State.supply_enterGasp (s : State) (byKeep : Bool) : (s.enterGasp byKeep).supply = (.gasp, byKeep, s.tick, 1) := by
  unfold State.enterGasp
  extract_lets u v w
  have shown : v.fld .PWR_STATUS_gasp 0 = 1 := by
    rw [State.fld_bump, if_neg (by simp)]
    exact State.fld_setFlag_same u _ 0 true rfl
  have hv : v.supply = (.gasp, byKeep, s.tick, 1) := by
    show (v.rst.pwr, v.rst.byKeep, v.rst.gaspAt, v.fld .PWR_STATUS_gasp 0) = _
    rw [shown, State.bump_rst, State.setFlag_rst]
    rfl
  clear_value v
  simp [State.supply_flashLog, w, hv]

theorem State.enterGasp_spec (s : State) (byKeep : Bool) : (s.enterGasp byKeep).rst.pwr = .gasp ∧
    (s.enterGasp byKeep).fld .PWR_STATUS_gasp 0 = 1 := by
  have entered := s.supply_enterGasp byKeep
  obtain ⟨hp, hrest⟩ := Prod.mk.inj entered
  obtain ⟨-, hrest⟩ := Prod.mk.inj hrest
  exact ⟨hp, (Prod.mk.inj hrest).2⟩

end Sys2Proof.Machine
end

section
/-! SUPPORT. The rows of chapters 9 and 14 to 20 that complete. -/

namespace Sys2Proof.Machine

/-- Settles O60: each row as the operation it is, then what that operation leaves. -/
theorem fieldAndServiceRowsComplete : Obligations.FieldAndServiceRowsComplete := by
  refine ⟨?serial, ?contacts, ?sleep, ?records, ?met, ?reply, ?commands, ?snapshot, ?bobbins, ?moves, ?memory, ?stores, ?pipes, ?decoders,
    ?busbar, ?fenced, ?ports, ?security, ?tamper, ?sources, ?soft, ?power, ?startUp, ?blocks, ?resets, ?supply⟩
  case serial =>
    intro s n
    refine ⟨fun d tick i hi ha hp ho hf hc h4 h5 h0 hr => ?_, fun ha => ⟨_, exec_framingRearm ha, by rw [State.port_setPort_same]⟩,
      fun hm hx hy hr hb => ⟨_, exec_serialGapClose hm hr hx, ?_⟩, fun hm hx hy hr hb => ⟨_, exec_serialGapClose hm hr hx, ?_⟩,
      fun c l ht hs _ hd => ?_, fun ht _ hd => exec_deRelease ht hd, fun hf hs ht ho => exec_oscStop hf hs ht ho,
      fun c ht hn ho => ⟨exec_serQuery hn ho ht, fun hf hd => exec_serFlush hn ho ht hf hd⟩⟩
    · obtain ⟨t, ht, hp⟩ := exec_serialCharacterRx_direct hi ha hp ho hf hc h4 h5 h0 hr
      exact ⟨t, ht, congrArg SerPort.rx hp⟩
    · rw [State.closePort_bad (by exact hr) (by exact hb), State.giveSerial_none] <;> rw [State.port_bump, State.port_setPort_same]
      exact hy
    · rw [State.closePort_good (by exact hr) (by exact hb), State.port_setPort_same]
      exact ⟨rfl, congrArg (· ++ _) hy⟩
    · obtain ⟨hc, hde, -⟩ := State.nextChar_spec ht hs
      exact ⟨_, exec_serialCharacterTx ht hs hd, hc, hde⟩
  case contacts =>
    intro s i hi
    refine ⟨exec_contactInputEdge hi s,
      fun tk h c hc hf he hx => ⟨_, exec_contactChangeAccepted he, State.acceptInput_on hi hc hf he hx⟩,
      fun g hg hb hr => ⟨_, exec_commandRefresh hg hb hr, (State.sendGroup_spec ..).1 (by exact Option.isSome_of_eq_some hg)⟩,
      fun m o hl h0 h1 hr ho hv hm _ => exec_commandMessage_one hi hl h0 h1 hr ho hv hm,
      fun c hc hf => ⟨fun hm hw ho hg => exec_cmdWatch hc hf hm hw ho hg, exec_pulseEnd, exec_cmdForceEnd⟩,
      fun c ht ho => ⟨exec_cmdQuery hi ho ht, fun lv ms hl hm hs he hx => exec_cmdForce hi ho ht hl hm hs he hx,
        exec_cmdRelease hi ho ht⟩⟩
  case sleep =>
    intro s ch a r m it hlen h0 h1 hit hr hf
    obtain ⟨d, n, v, hexec⟩ := exec_sleepReq_granted (m := m) (by simp [hlen, h0, h1]) hit hr hf
    have same := s.drec_setRec_same r (it.grant ch a (s.pickGroup it.groups) v m)
    exact ⟨_, hexec, congrArg DrmRec.st same, congrArg DrmRec.ch same, congrArg DrmRec.addr same⟩
  case records =>
    obtain ⟨-, -, timeout, window, -, -, waking, awake, -⟩ := dormantRecordsFollowTheirPartners
    intro s r
    refine ⟨fun k hs hk hw => ?_, fun w hs => ⟨fun hw ho => ?_, fun hw hc hk => ?_⟩,
      fun k hk hs ht hany hseg hcopy hcom hlive hdup hmask => ?_,
      fun hs hw hq ht hlt => ?_, fun hs h => ?_⟩
    · obtain ⟨t, ht, hrec, -⟩ := (timeout s r).2 k hs hk hw
      exact ⟨t, ht, hrec⟩
    · obtain ⟨t, ht, -, hrec, -⟩ := (window s r w hs).1 hw (.inl ho)
      exact ⟨t, ht, congrArg DrmRec.winOpen hrec⟩
    · obtain ⟨t, ht, -, hcl, -, hmiss⟩ := (window s r w hs).2.2 hw hc
      exact ⟨t, ht, hcl, (hmiss hk).1⟩
    · subst hk
      obtain ⟨t, hexec, hseq, hwait, -⟩ := (waking s r hs).1 ht hany hseg hcopy hcom hlive hdup hmask
      exact ⟨t, hexec, hseq, hwait⟩
    · obtain ⟨t, hexec, hrec⟩ := (waking s r hs).2.1 hw hq ht hlt
      exact ⟨t, hexec, congrArg DrmRec.toneWait hrec⟩
    · obtain ⟨t, hexec, hrec, -⟩ := (awake s r hs).2 h
      exact ⟨t, hexec, congrArg DrmRec.st hrec⟩
  case met =>
    intro s ch r f hf hst ht hv hlink hdst hdir hrole hban hr hs hk
    obtain ⟨-, -, -, -, met, -⟩ := dormantRecordsFollowTheirPartners
    have known := (met s ch f hf (by simp [hst, chTraining, chLive])).2 ht hv hlink hdst hdir hrole (by simp [hst, chTraining, chOff])
      (by simp [hst, chTraining, chFault]) hban (by simp [hk])
    obtain ⟨t, hexec, hrec, -⟩ := known.2 r hr hs hk
    exact ⟨t, hexec, congrArg DrmRec.misses hrec, congrArg DrmRec.seqs hrec⟩
  case reply =>
    intro s ch k w hw hs hk
    obtain ⟨-, -, -, -, -, owed, -⟩ := dormantRecordsFollowTheirPartners
    obtain ⟨t, f, hexec, howe, -, hcom, -, hslot, hkind, -⟩ := owed s ch k w hw (.inr (.inr hs)) hk
    exact ⟨t, f, hexec, howe, hcom, hslot, hkind⟩
  case commands =>
    intro s c ht
    obtain ⟨-, -, units, -⟩ := failedUnitsAreTakenAway
    refine ⟨fun r hr hp hf => ⟨exec_drmQuery ht hr hp hf, fun h => ⟨_, exec_drmRelease ht hr hp hf h, State.drec_setRec_same ..⟩,
        fun h => ⟨_, exec_drmWake ht hr hp hf (.inl h), congrArg DrmRec.st (State.startWaking_spec (.inl h)).1⟩⟩,
      fun part h => exec_pnlQuery ht h, fun a n h1 hn hw => exec_regRead ht h1 hn hw, fun a ws h1 hn hw => exec_regWrite ht h1 hn hw,
      fun hp => ⟨fun b hb => ?_, fun hn => ⟨_, (units s c ht).2.2.1 hp hn, by simp⟩⟩,
      fun i e he => ⟨_, exec_evtRead ht he, ?_⟩, fun sev irq hs hq => exec_evtCfg ht hs hq, exec_telSnap ht,
      fun back w n x hp h1 hn hs hx hw => exec_telRead ht hp h1 hn hs hx hw⟩
    · rw [exec_bobQuery ht hb, if_pos hp]
    · rw [State.fld_setFld_same]
      exact Nat.mod_eq_of_lt (Nat.mod_lt _ (by decide))
  case snapshot =>
    intro s hd hs hr hn
    obtain ⟨t, hexec, hx⟩ := exec_telemetrySnapshot hd hs hr hn
    exact ⟨t, _, _, hexec, hx, rfl, rfl, rfl⟩
  case bobbins =>
    intro s b cause hb h
    exact ⟨_, exec_bobbinFault hb h cause, by rw [State.bobbin_setBob, if_pos rfl]⟩
  case moves =>
    intro s b n hm hn hne
    obtain ⟨-, move, -⟩ := failedUnitsAreTakenAway
    obtain ⟨t, hexec, hto, hfrom, -⟩ := (move s b).2 n hm hn hne
    exact ⟨t, hexec, by rw [hto], by rw [hfrom]⟩
  case memory =>
    intro s a pc hm
    obtain ⟨-, -, -, -, read, calibrated, -⟩ := failedUnitsAreTakenAway
    refine ⟨fun hn => ?_, fun hp => ?_⟩
    · obtain ⟨t, hexec, -, hue, -⟩ := (read s a).2 hm hn
      exact ⟨t, hexec, hue⟩
    · obtain ⟨t, hexec, hat, -⟩ := calibrated s pc hp hm
      exact ⟨t, hexec, hat⟩
  case stores =>
    intro s hs h
    exact ⟨_, exec_logFlashWrite hs h true, (s.flashLog_written logChunk).choose_spec.1⟩
  case pipes =>
    intro s p hp
    obtain ⟨-, -, -, -, -, -, -, pipe, -⟩ := failedUnitsAreTakenAway
    obtain ⟨t, l, hexec, hfenced, -⟩ := (pipe s p).2 hp
    exact ⟨t, hexec, hfenced⟩
  case decoders =>
    intro s pool unit hp hu hf hr
    obtain ⟨-, -, -, -, -, -, -, -, decoder, -⟩ := failedUnitsAreTakenAway
    rw [decoder s pool unit hp hu, if_neg (ne_true_of_eq_false hf), if_pos hr]
  case busbar =>
    intro s hr
    exact ⟨_, exec_overlockFence hr, by simp [State.askAll]⟩
  case fenced =>
    intro s hf hr
    obtain ⟨-, -, -, memory, -⟩ := failedUnitsAreTakenAway
    obtain ⟨t, l, hexec, hfenced, -⟩ := (memory s).2 hf hr
    exact ⟨t, hexec, hfenced⟩
  case ports =>
    intro s p hp hf hr
    obtain ⟨-, -, -, -, -, -, -, -, -, port⟩ := failedUnitsAreTakenAway
    obtain ⟨t, hexec, hlink, hfailed, -⟩ := (port s p hp).2 hf hr
    exact ⟨t, hexec, hlink, hfailed⟩
  case security =>
    intro s c ht
    exact ⟨ohi_answers ht rfl, fun hp => ⟨fun off l h1 hl ho hr => exec_secStage ht hp h1 hl ho hr,
        fun i hb hl hm hop h5 h9 hid ho hf => exec_secEnrol ht hp hb hl hm hop h5 h9 hid ho hf,
        fun l h5 hl ho => exec_secFwWrite ht hp h5 hl ho, exec_secFwCommit ht hp, exec_secRollbackAdvance ht hp,
        exec_secDebugChallenge ht hp, exec_secDebugOpen ht hp, exec_secTamperClear ht hp⟩,
      fun l hl => exec_secAttest ht hl, fun l hl h1 h24 hs => exec_secRead ht hl h1 h24 hs,
      fun l hl hk hr hu => exec_secKeySet ht hl hk hr hu, fun l hl hk hr hu => exec_secKeyClear ht hl hk hr hu,
      fun l o hl hc hm hk ho hs => exec_secKeyTx ht hl hc hm hk ho hs, fun l hl hq hp => exec_secOhiKey ht hl hq hp⟩
  case tamper =>
    intro s
    exact ⟨exec_tamperOpen, ⟨_, rfl, State.fld_setFlag_same _ _ 0 false rfl⟩, exec_debugClose⟩
  case sources =>
    intro s i c hc hp ho h2 hl
    have fired : exec c s = .next (s.fireSource i (s.mapOf i)) := by
      rcases hc with ⟨rfl, rfl⟩ | ⟨rfl, rfl⟩ | ⟨d, hd, rfl, rfl⟩ | ⟨rfl, rfl⟩ | ⟨rfl, rfl⟩ | ⟨rfl, rfl, hopen, hscope⟩
      case inr.inr.inl => exact congrArg Host.Outcome.next (if_neg (Nat.not_lt.mpr hd))
      case inr.inr.inr.inr.inr => exact congrArg Host.Outcome.next (if_pos (by simp [hopen, hscope]))
      all_goals rfl
    obtain ⟨hlevel, hboot, hfull⟩ := State.fireSource_inReset (i := i) hp ho h2 (s.mapOf_le i) hl
    exact ⟨_, fired, hlevel, hboot, hfull⟩
  case soft =>
    intro s t0 hs hp ho hl
    exact exec_softwareResetAssert hs hp ho hl
  case power =>
    intro s b m hb hm
    exact exec_powerOn s hb hm
  case startUp =>
    obtain ⟨release, verified, trained, -⟩ := releaseAndStartUp
    refine fun s => ⟨fun hh hl => ?_, fun hl hb ho => ?_, fun hl hb => ?_⟩
    · obtain ⟨t, hexec, hlevel, -⟩ := (release s).2.2 3 hh hl (.inr rfl)
      exact ⟨t, hexec, hlevel⟩
    · obtain ⟨t, hexec, hok, -⟩ := (verified s true).2 hl hb ho
      exact ⟨t, hexec, (hok rfl).1⟩
    · obtain ⟨t, hexec, hboot, htrained, -⟩ := (trained s true).2 hl hb
      exact ⟨t, hexec, hboot, htrained⟩
  case blocks =>
    obtain ⟨-, -, -, tested, -⟩ := releaseAndStartUp
    exact tested
  case resets =>
    intro s c ht hp
    exact ⟨exec_rstQuery ht hp, fun l h1 h3 hm hs => exec_rstRequest ht hp h1 h3 hm hs,
      fun typ idx hi hl hb hidle => exec_rstBlock ht hp hi hl hb hidle, exec_pwrQuery ht hp,
      fun hr hi hl => ⟨_, exec_pwrKeep ht hp hr hi hl, (s.enterGasp_spec true).1⟩⟩
  case supply =>
    intro s
    exact ⟨fun dc bulk h => exec_inputLost h dc bulk, fun bulk h hr => exec_inputReturn h hr bulk,
      fun t0 hl hr hm => ⟨_, exec_gaspEntry hl hr hm, State.enterGasp_spec _ false⟩, exec_keepEntry,
      fun tick hk ho hi => exec_blank0KeepWake hk ho hi tick, exec_aonStoresExhausted, fun _ => rfl,
      fun m25 ofs h => exec_refclkValid h m25 ofs, exec_clkRefLost, exec_clockSlewEnd, exec_pwrXtal s,
      ⟨_, rfl, State.fld_setFlag_same _ _ 0 false rfl⟩, fun temp _ hm _ h85 h100 hh => exec_pwrHot hm h85 h100 hh⟩

end Sys2Proof.Machine
end

section
/-! SUPPORT. The idle step: a command queue that is empty leaves the tick counter and the rings. -/

namespace Sys2Proof.Machine

theorem step_empty {s : State} (h : s.pending = []) : step s = .next s.idle := by
  unfold step
  rw [h]

/-- Settles O2: an idle step of a powered module is one tick, and then rings that offer nothing. -/
theorem idleStepCountsOneTick : Obligations.IdleStepCountsOneTick := by
  intro s hpend
  rw [step_empty hpend]
  refine ⟨fun hoff => congrArg Host.Outcome.next (if_pos hoff), fun hon hgrams hrings => ?_⟩
  have ticked : State.RingsIdle { s with tick := s.tick + 1 } := ⟨hgrams, hrings⟩
  exact congrArg Host.Outcome.next ((if_neg (ne_true_of_eq_false hon)).trans (pump_idle ticked))

end Sys2Proof.Machine
end

section
/-! SUPPORT. PTP messages (R313 to R317): what each type does at a port, by what forwarding answers. -/

namespace Sys2Proof.Machine

variable {s : State} {p tIn : Nat} {m : PtpMsg}

/-! Forwarding (R315). -/

/-- The state in which a message has been forwarded to port `q` alone, none having been forwarded before. -/
def State.forwardedTo (s : State) (q : Nat) (m : PtpMsg) (need : PtpNeed) (nIn : Rat) (dIn : Int) : State :=
  { s with tim := { s.tim with
      fwd := [⟨m.srcId, m.srcPort, m.domain, m.typ, m.seq, s.tick⟩], out := s.tim.out ++ [⟨q, m, need, nIn, dIn, none⟩] } }

theorem State.ptpForward_end (h : s.tcPort p = false) (m : PtpMsg) (need : PtpNeed) (nIn : Rat) (dIn : Int) :
    s.ptpForward p m need nIn dIn = (true, s) := if_pos h

theorem State.ptpForward_repeat (h : s.tcPort p = true)
    (hseen : s.tim.fwd.any (fun x => x.srcId == m.srcId && x.srcPort == m.srcPort && x.domain == m.domain
      && x.typ == m.typ && x.seq == m.seq && decide (s.tick ≤ x.tick + 200000000)) = true) (need : PtpNeed) (nIn : Rat) (dIn : Int) :
    s.ptpForward p m need nIn dIn = (false, s.bump .TIM_PTP_CNT_loop_drop 0) :=
  (if_neg (by simp [h])).trans (if_pos hseen)

theorem State.ptpForward_single {q : Nat} (hp : p < 2) (h : s.tcPort p = true) (hq : s.tcPorts.filter (· != p) = [q])
    (hfwd : s.tim.fwd = []) (m : PtpMsg) (need : PtpNeed) (nIn : Rat) (dIn : Int) :
    s.ptpForward p m need nIn dIn = (true, s.forwardedTo q m need nIn dIn) := by
  have fresh : ∀ u : State, u.pat = s.pat → u.regs = s.regs → u.tcPorts = s.tcPorts := fun u hpat hregs => by
    unfold State.tcPorts State.tcPort State.inTc State.chState State.fld
    rw [hpat, hregs]
  have near : decide (2 ≤ p) = false := decide_eq_false (by omega)
  unfold State.ptpForward
  rw [if_neg (by simp [h])]
  dsimp only
  rw [hfwd, if_neg (by simp), fresh _ (by rfl) (by rfl), hq, near]
  rfl

/-! A message by its type (R313). -/

theorem State.ptpOf_self {typ : Nat} (h : m.typ = typ) (s : State) (p tIn : Nat) (sus : Bool) :
    s.ptpOf typ p m tIn sus = s.ptpMessage p m tIn sus := if_pos h

theorem State.ptpMessage_version (h : m.ver ≠ 2) (s : State) (p tIn : Nat) (sus : Bool) :
    s.ptpMessage p m tIn sus = s.bump .TIM_PTP_CNT2_unsupported 0 := if_pos h

/-- A message that is of version 2 and not suspect is taken by its type. -/
theorem State.ptpMessage_open {sus : Bool} (hv : m.ver = 2) (hs : sus = false ∨ m.typ ≠ 0 ∧ m.typ ≠ 2 ∧ m.typ ≠ 3) :
    ¬m.ver ≠ 2 ∧ ¬(sus = true ∧ 2 ≤ p ∧ (m.typ = 0 ∨ m.typ = 2 ∨ m.typ = 3)) := by
  refine ⟨not_not.mpr hv, ?_⟩
  rintro ⟨hsus, -, htyp⟩
  rcases hs with h | h
  · simp [h] at hsus
  · omega

theorem exec_sync_unmeasured (hv : m.ver = 2) (ht : m.typ = 0) (hd : (s.pd p).d = none) :
    exec (.sync p m tIn false) s = .next (s.bump .TIM_PTP_CNT2_no_pdelay 0) := by
  obtain ⟨h2, hsus⟩ := State.ptpMessage_open (p := p) (sus := false) hv (.inl rfl)
  refine congrArg Host.Outcome.next ((State.ptpOf_self ht s p tIn false).trans ?_)
  unfold State.ptpMessage
  rw [if_neg h2, if_neg hsus, ht]
  simp only [hd]

theorem exec_sync {d : Int} (hv : m.ver = 2) (ht : m.typ = 0) (hd : (s.pd p).d = some d) {go : Bool} {u : State}
    (hf : s.ptpForward p m (if m.twoStep then .hold else .residence) (s.ingressNs p tIn) d = (go, u)) :
    exec (.sync p m tIn false) s
      = .next (if go then (u.ptpTbs p).foldl (fun v k => v.syncTb m (s.ingressNs p tIn) d k) u else u) := by
  obtain ⟨h2, hsus⟩ := State.ptpMessage_open (p := p) (sus := false) hv (.inl rfl)
  refine congrArg Host.Outcome.next ((State.ptpOf_self ht s p tIn false).trans ?_)
  unfold State.ptpMessage
  rw [if_neg h2, if_neg hsus, ht]
  simp only [hd, hf]

theorem exec_followUp (hv : m.ver = 2) (ht : m.typ = 8) {go : Bool} {u : State}
    (hf : s.ptpForward p m .addHeld (s.ingressNs p tIn) 0 = (go, u)) (sus : Bool) :
    exec (.followUp p m tIn sus) s = .next (if go then (u.ptpTbs p).foldl (fun v k => v.followTb m k) u else u) := by
  obtain ⟨h2, hsus⟩ := State.ptpMessage_open (p := p) (sus := sus) hv (.inr (by omega))
  refine congrArg Host.Outcome.next ((State.ptpOf_self ht s p tIn sus).trans ?_)
  unfold State.ptpMessage
  rw [if_neg h2, if_neg hsus, ht]
  simp only [hf]

/-- The UTC offset an Announce tells is stored (R321). -/
def State.storeUtc (s : State) (m : PtpMsg) : State := { s with tim := { s.tim with utc := signed 16 (beAt m.body 44 2) } }

theorem exec_announce (hv : m.ver = 2) (ht : m.typ = 0xB) {go : Bool} {u : State}
    (hf : s.ptpForward p m .plain (s.ingressNs p tIn) 0 = (go, u)) (sus : Bool) : exec (.announce p m tIn sus) s
      = .next (if go then ((u.storeUtc m).ptpTbs p).foldl (fun v k => v.announceTb p m k) (u.storeUtc m) else u.storeUtc m) := by
  obtain ⟨h2, hsus⟩ := State.ptpMessage_open (p := p) (sus := sus) hv (.inr (by omega))
  refine congrArg Host.Outcome.next ((State.ptpOf_self ht s p tIn sus).trans ?_)
  unfold State.ptpMessage
  rw [if_neg h2, if_neg hsus, ht]
  simp only [hf]
  rfl

theorem State.ptpMessage_general (hv : m.ver = 2) (ht : m.typ = 0xC ∨ m.typ = 0xD) (s : State) (p tIn : Nat) (sus : Bool) :
    s.ptpMessage p m tIn sus = (s.ptpForward p m .plain (s.ingressNs p tIn) 0).2 := by
  obtain ⟨h2, hsus⟩ := State.ptpMessage_open (p := p) (sus := sus) hv (.inr (by omega))
  unfold State.ptpMessage
  rw [if_neg h2, if_neg hsus]
  rcases ht with ht | ht <;> simp only [ht]

theorem exec_signaling (hv : m.ver = 2) (ht : m.typ = 0xC) (s : State) (p tIn : Nat) (sus : Bool) :
    exec (.signaling p m tIn sus) s = .next (s.ptpForward p m .plain (s.ingressNs p tIn) 0).2 :=
  congrArg Host.Outcome.next ((State.ptpOf_self ht s p tIn sus).trans (State.ptpMessage_general hv (.inl ht) s p tIn sus))

theorem exec_management (hv : m.ver = 2) (ht : m.typ = 0xD) (s : State) (p tIn : Nat) (sus : Bool) :
    exec (.management p m tIn sus) s = .next (s.ptpForward p m .plain (s.ingressNs p tIn) 0).2 :=
  congrArg Host.Outcome.next ((State.ptpOf_self ht s p tIn sus).trans (State.ptpMessage_general hv (.inr ht) s p tIn sus))

end Sys2Proof.Machine
end

section
/-! SUPPORT. Peer delay (R317), held corrections (R316) and launch-time frames (R320); the PTP rows. -/

namespace Sys2Proof.Machine

variable {s : State} {p tIn : Nat} {m : PtpMsg}

/-! Storing the state of a port's initiator. -/

theorem State.setPd_rest (s : State) (p : Nat) (d : PdSt) :
    s.setPd p d = { s with regs := (s.setPd p d).regs, tim := { s.tim with pd := tput {} p d s.tim.pd } } := by
  unfold State.setPd
  dsimp only
  split <;> split <;> rfl

@[simp] theorem State.setPd_tim (s : State) (p : Nat) (d : PdSt) :
    (s.setPd p d).tim = { s.tim with pd := tput {} p d s.tim.pd } := congrArg State.tim (s.setPd_rest p d)

@[simp] theorem State.setPd_tick (s : State) (p : Nat) (d : PdSt) : (s.setPd p d).tick = s.tick := by
  have h := congrArg State.tick (s.setPd_rest p d)
  exact h

@[simp] theorem State.setPd_host (s : State) (p : Nat) (d : PdSt) : (s.setPd p d).host = s.host := by
  have h := congrArg State.host (s.setPd_rest p d)
  exact h

@[simp] theorem State.pd_setPd_same (s : State) (p : Nat) (d : PdSt) : (s.setPd p d).pd p = d := by
  unfold State.pd
  rw [State.setPd_tim]
  exact tget_tput_same _ _ _ _

/-! The exchange. -/

/-- The answer a Pdelay_Req gets: its turnaround is added at its departure. -/
def State.pdAnswer (s : State) (p tIn : Nat) (m : PtpMsg) : PtpOut :=
  { port := p, msg := s.ptpMake p 3 m.domain m.seq m.corr (List.replicate 10 0 ++ be 8 m.srcId ++ be 2 m.srcPort)
    need := .turnaround, nIn := s.ingressNs p tIn }

theorem exec_pdelayReq (hv : m.ver = 2) (ht : m.typ = 2) (hp : s.pdPort p = true) : exec (.pdelayReq p m tIn false) s
    = .next { s with tim := { s.tim with out := s.tim.out ++ [s.pdAnswer p tIn m] } } := by
  obtain ⟨h2, hsus⟩ := State.ptpMessage_open (p := p) (sus := false) hv (.inl rfl)
  refine congrArg Host.Outcome.next ((State.ptpOf_self ht s p tIn false).trans ?_)
  unfold State.ptpMessage
  rw [if_neg h2, if_neg hsus, ht]
  exact if_pos hp

theorem exec_pdelayResp (hv : m.ver = 2) (ht : m.typ = 3) (hp : s.pdPort p = true) : exec (.pdelayResp p m tIn false) s
    = .next (if s.pdMine p m then
        if m.twoStep then s.setPd p { s.pd p with t4 := s.ingressNs p tIn, c := m.corr, t2 := some m.origin }
        else s.pdDone p 0 m.corr (s.ingressNs p tIn)
      else s) := by
  obtain ⟨h2, hsus⟩ := State.ptpMessage_open (p := p) (sus := false) hv (.inl rfl)
  refine congrArg Host.Outcome.next ((State.ptpOf_self ht s p tIn false).trans ?_)
  unfold State.ptpMessage
  rw [if_neg h2, if_neg hsus, ht]
  simp only [hp, Bool.true_and]

theorem exec_pdelayRespFollowUp {t2 : Int} (hv : m.ver = 2) (ht : m.typ = 0xA) (hp : s.pdPort p = true) (hm : s.pdMine p m = true)
    (h : (s.pd p).t2 = some t2) : exec (.pdelayRespFollowUp p m tIn false) s
      = .next (s.pdDone p (m.origin - t2) ((s.pd p).c + m.corr) (s.pd p).t4) := by
  obtain ⟨h2, hsus⟩ := State.ptpMessage_open (p := p) (sus := false) hv (.inl rfl)
  refine congrArg Host.Outcome.next ((State.ptpOf_self ht s p tIn false).trans ?_)
  unfold State.ptpMessage
  rw [if_neg h2, if_neg hsus, ht]
  simp only [hp, hm, h, Bool.and_self, if_true]

/-- The first completed exchange stores its delay as it is (R317). -/
theorem State.pd_pdDone {t1 : Rat} (h1 : (s.pd p).t1 = some t1) (hd : (s.pd p).d = none) (turn c : Int) (t4 : Rat) :
    (s.pdDone p turn c t4).pd p = { s.pd p with
      t1 := none, t2 := none, missed := 0, d := some ((roundRat ((t4 - t1) * 65536) - turn - c) / 2) } := by
  unfold State.pdDone
  simp only [h1, hd]
  exact State.pd_setPd_same _ _ _

/-- A request goes out at `pdelay_ms` after the one before (R317). -/
def State.pdDue (s : State) (p : Nat) : Nat :=
  ((s.pd p).reqAt.map (fun k => max s.tick (k + s.pat.tbs.pdelayMs * 200000))).getD s.tick

/-- The requests of a port without a response when the next goes out. -/
def State.pdMissed (s : State) (p : Nat) : Nat := if (s.pd p).t1.isSome then (s.pd p).missed + 1 else (s.pd p).missed

/-- The state in which a port's next request is due. -/
def State.pdAsking (s : State) (p : Nat) : State :=
  ({ s with tick := s.pdDue p } : State).setPd p { s.pd p with
    reqAt := some (s.pdDue p), seq := ((s.pd p).seq + 1) % 65536, t1 := none, t2 := none, missed := s.pdMissed p
    d := if 3 ≤ s.pdMissed p then none else (s.pd p).d }

theorem State.pdAsking_spec (s : State) (p : Nat) : (s.pdAsking p).tick = s.pdDue p ∧ (s.pdAsking p).tim.out = s.tim.out := by
  unfold State.pdAsking
  rw [State.setPd_tick, State.setPd_tim]
  exact ⟨rfl, rfl⟩

/-- The request. -/
def State.pdRequest (s : State) (p : Nat) : PtpOut :=
  { port := p, msg := (s.pdAsking p).ptpMake p 2 0 (((s.pd p).seq + 1) % 65536) 0 (List.replicate 20 0), need := .request }

theorem exec_pdelayInterval_off (h : s.pdPort p = false) : exec (.pdelayInterval p) s = .next s :=
  congrArg Host.Outcome.next (if_pos h)

theorem exec_pdelayInterval (h : s.pdPort p = true) : exec (.pdelayInterval p) s
    = .next { s.pdAsking p with tim := { (s.pdAsking p).tim with out := (s.pdAsking p).tim.out ++ [s.pdRequest p] } } := by
  refine congrArg Host.Outcome.next ((if_neg (by simp [h])).trans ?_)
  unfold State.pdRequest State.pdAsking State.pdDue
  dsimp only
  cases (s.pd p).reqAt <;> rfl

theorem beAt_zero_byte (b : Nat) (l : List Byte) : beAt (byte b :: l) 0 1 = b % 256 := by
  simp [beAt, slice, byte, ofBe, ofLe]

/-- A message of the module is of the type it was made with. -/
theorem State.typ_ptpMake (s : State) (port : Nat) {typ : Nat} (h : typ < 16) (domain seq : Nat) (corr : Int) (rest : List Byte) :
    (s.ptpMake port typ domain seq corr rest).typ = typ := by
  show beAt _ 0 1 % 16 = typ
  simp only [List.cons_append, List.append_assoc]
  rw [beAt_zero_byte]
  omega

/-! Held corrections. -/

theorem exec_heldCorrectionExpiry_none (h : s.tim.held = []) : exec .heldCorrectionExpiry s = .next s := by
  refine congrArg Host.Outcome.next ?_
  rw [h]

/-- The corrections held for less than 1 s at a tick. -/
def heldAt (tick : Nat) (l : List HeldR) : List HeldR := l.filter (fun h => decide (tick < h.tick + 200000000))

theorem exec_heldCorrectionExpiry {x : HeldR} {l : List HeldR} (h : s.tim.held = x :: l) : exec .heldCorrectionExpiry s
    = .next { s with tick := max s.tick (x.tick + 200000000)
                     tim := { s.tim with held := heldAt (max s.tick (x.tick + 200000000)) l } } := by
  refine congrArg Host.Outcome.next ?_
  rw [h]
  dsimp only
  refine congrArg (fun k => { s.reach (x.tick + 200000000) with tim := { s.tim with held := k } }) ?_
  show List.filter _ s.tim.held = _
  rw [h]
  exact List.filter_cons_of_neg (by simp [State.reach])

/-! Launch-time frames. -/

/-- A departure writes the held corrections, the request's own time or nothing. -/
theorem State.ptpDepart_kept (s : State) (o : PtpOut) (nOut : Rat) : (s.ptpDepart o nOut).2.tick = s.tick ∧
    (s.ptpDepart o nOut).2.host = s.host ∧ (s.ptpDepart o nOut).2.tim.out = s.tim.out := by
  unfold State.ptpDepart
  cases o.need
  case addHeld =>
    dsimp only
    split <;> exact ⟨rfl, rfl, rfl⟩
  case request => exact ⟨State.setPd_tick _ _ _, State.setPd_host _ _ _, by simp⟩
  all_goals exact ⟨rfl, rfl, rfl⟩

theorem State.ptpLaunch_spec (s : State) (o : PtpOut) (nOut : Rat) : (s.ptpLaunch o nOut).tick = s.tick ∧
    (s.ptpLaunch o nOut).tim.out = s.tim.out.erase o ∧ ∃ b, (s.ptpLaunch o nOut).host.sent = s.host.sent ++ [(o.port, b)] := by
  let taken : State := { s with tim := { s.tim with out := s.tim.out.erase o } }
  obtain ⟨htick, hhost, hout⟩ := taken.ptpDepart_kept o nOut
  refine ⟨htick, hout, (taken.ptpDepart o nOut).2.ptpFrame (taken.ptpDepart o nOut).1, ?_⟩
  exact congrArg (fun h : HostSt => h.sent ++ [(o.port, (taken.ptpDepart o nOut).2.ptpFrame (taken.ptpDepart o nOut).1)]) hhost

/-- The first frame of a port's launch-time queue. -/
def State.firstLaunch (s : State) (p : Nat) : Option PtpOut := s.tim.out.find? (fun o => o.port == p && o.launch.isSome)

variable {o : PtpOut} {l tick : Nat}

theorem State.firstLaunch_port (h : s.firstLaunch p = some o) : o.port = p := by
  have := List.find?_some h
  simp only [Bool.and_eq_true, beq_iff_eq] at this
  exact this.1

theorem exec_launchTimeFrame_late (h : s.firstLaunch p = some o) (hl : o.launch = some l) (hlate : l < max s.tick tick) :
    exec (.launchTimeFrame p tick) s = .next { ({ s with tick := max s.tick tick } : State).bump .TIM_PTP_CNT2_late 0 with
      tim := { s.tim with out := s.tim.out.erase o } } := by
  unfold State.firstLaunch at h
  refine congrArg Host.Outcome.next ?_
  dsimp only
  rw [h]
  simp only [hl, Option.getD_some]
  exact if_pos hlate

theorem exec_launchTimeFrame (h : s.firstLaunch p = some o) (hl : o.launch = some l) (hdue : max s.tick tick ≤ l) :
    exec (.launchTimeFrame p tick) s = .next ((({ s with tick := max s.tick tick } : State).reach l).ptpLaunch o ((l * 5 : Nat) : Rat)) := by
  unfold State.firstLaunch at h
  refine congrArg Host.Outcome.next ?_
  dsimp only
  rw [h]
  simp only [hl, Option.getD_some]
  exact if_neg (Nat.not_lt.mpr hdue)

/-- What a frame that leaves at its launch time leaves. -/
theorem exec_launchTimeFrame_sent (h : s.firstLaunch p = some o) (hl : o.launch = some l) (hdue : max s.tick tick ≤ l) :
    ∃ (t : State) (b : List Byte), exec (.launchTimeFrame p tick) s = .next t ∧ t.tick = l ∧
      t.tim.out = s.tim.out.erase o ∧ t.host.sent = s.host.sent ++ [(p, b)] := by
  obtain ⟨htick, hout, b, hsent⟩ := State.ptpLaunch_spec (({ s with tick := max s.tick tick } : State).reach l) o ((l * 5 : Nat) : Rat)
  rw [State.firstLaunch_port h] at hsent
  exact ⟨_, b, exec_launchTimeFrame h hl hdue, htick.trans (Nat.max_eq_right hdue), hout, hsent⟩

/-! A Sync at a timebase (R321). -/

theorem State.tb_setTb_same (s : State) (k : Nat) (t : Tb) : (s.setTb k t).tb k = t := tget_tput_same _ _ _ _

/-- A new two-step Sync of the selected grandmaster waits for its Follow_Up. -/
theorem State.syncTb_waits {k : Nat} {g : Gm} (hg : (s.tb k).best = some g) (hdom : m.domain = s.fld .TIM_TB_CFG_domain k)
    (hid : g.srcId = m.srcId) (hport : g.srcPort = m.srcPort) (hnew : (s.tb k).lastSync ≠ some (m.srcId * 65536 + m.srcPort, m.seq))
    (htwo : m.twoStep = true) (nRx : Rat) (d : Int) : s.syncTb m nRx d k = s.setTb k { s.tb k with
      lastSync := some (m.srcId * 65536 + m.srcPort, m.seq)
      wait := [⟨m.srcId, m.srcPort, m.seq, s.tbAtNs k nRx, m.corr, d, s.tick⟩] } := by
  unfold State.syncTb
  simp only [hg]
  rw [if_neg (by simp [hdom, hid, hport, hnew]), if_pos htwo]

/-- Settles O44: each message as its type takes it, by what forwarding answers at its port. -/
theorem ptpMessagesAreForwardedAndAnswered : Obligations.PtpMessagesAreForwardedAndAnswered := by
  unfold Obligations.PtpMessagesAreForwardedAndAnswered
  refine ⟨?version, ?sync, ?follow, ?general, ?peer, ?interval, fun s => ⟨exec_heldCorrectionExpiry_none, fun x l h =>
    ⟨_, exec_heldCorrectionExpiry h, rfl, rfl, rfl⟩⟩, ?launch⟩
  case version =>
    intro s p tIn m sus c hv hc
    have taken : ∀ typ, m.typ = typ → Host.Outcome.next (s.ptpOf typ p m tIn sus) = (.next (s.bump .TIM_PTP_CNT2_unsupported 0) :
        Host.Outcome State Fault Refusal) := fun typ ht =>
      congrArg Host.Outcome.next ((State.ptpOf_self ht s p tIn sus).trans (State.ptpMessage_version hv s p tIn sus))
    rcases hc with ⟨rfl, ht⟩ | ⟨rfl, ht⟩ | ⟨rfl, ht⟩ | ⟨rfl, ht⟩ | ⟨rfl, ht⟩ <;> exact taken _ ht
  case sync =>
    intro s p tIn m hv ht
    refine ⟨exec_sync_unmeasured hv ht, fun d hd => ⟨fun htc hseen => ?_, fun q hp htc htbs hq hfwd => ?_,
      fun k g hend htbs hg hdom hid hport hnew htwo => ?_⟩⟩
    · exact exec_sync hv ht hd (State.ptpForward_repeat htc (by rw [ht]; exact hseen) _ _ _)
    · have sent := exec_sync (tIn := tIn) hv ht hd (State.ptpForward_single hp htc hq hfwd m _ _ d)
      rw [if_pos rfl] at sent
      refine ⟨_, sent.trans (congrArg (fun l => Host.Outcome.next (List.foldl _ _ l)) htbs), ?_, rfl, rfl⟩
      show [_] = [_]
      rw [ht]
    · have used := exec_sync (tIn := tIn) hv ht hd (State.ptpForward_end hend m _ _ d)
      rw [if_pos rfl, htbs] at used
      refine ⟨_, used.trans (congrArg Host.Outcome.next (State.syncTb_waits hg hdom hid hport hnew htwo _ d)), ?_, rfl⟩
      rw [State.tb_setTb_same]
  case follow =>
    intro s p tIn k m w hv ht hend htbs hw
    have used := exec_followUp (tIn := tIn) hv ht (State.ptpForward_end hend m _ _ 0) false
    rw [if_pos rfl, htbs] at used
    refine used.trans (congrArg Host.Outcome.next ?_)
    show s.followTb m k = _
    unfold State.followTb
    dsimp only
    rw [hw]
  case general =>
    intro s p tIn m sus hv hend
    have here : ∀ need, s.ptpForward p m need (s.ingressNs p tIn) 0 = (true, s) := fun need => State.ptpForward_end hend m need _ 0
    refine ⟨fun ht => ?_, fun ht => ?_, fun ht htbs => ?_⟩
    · rw [exec_signaling hv ht, here]
    · rw [exec_management hv ht, here]
    · rw [exec_announce hv ht (here _), if_pos rfl]
      exact congrArg (fun l => Host.Outcome.next (List.foldl _ _ l)) htbs
  case peer =>
    intro s p tIn m hv hp
    refine ⟨fun ht => ⟨_, exec_pdelayReq hv ht hp, rfl, rfl, rfl, rfl⟩, fun ht hm => ?_, fun ht hm htwo => ?_,
      fun t1 ht hm hone h1 hd => ?_, fun t1 t2 ht hm h1 h2 hd => ?_⟩
    · rw [exec_pdelayResp hv ht hp, hm]
      rfl
    · refine ⟨_, exec_pdelayResp hv ht hp, ?_⟩
      rw [if_pos hm, if_pos htwo, State.pd_setPd_same]
      exact ⟨rfl, rfl, rfl, rfl⟩
    · refine ⟨_, exec_pdelayResp hv ht hp, ?_⟩
      rw [if_pos hm, if_neg (ne_true_of_eq_false hone), State.pd_pdDone h1 hd, Int.sub_zero]
      exact ⟨rfl, rfl, rfl⟩
    · refine ⟨_, exec_pdelayRespFollowUp hv ht hp hm h2, ?_⟩
      rw [State.pd_pdDone h1 hd]
      exact ⟨rfl, rfl⟩
  case interval =>
    intro s p
    refine ⟨exec_pdelayInterval_off, fun h => ⟨_, s.pdRequest p, exec_pdelayInterval h, ?_, rfl, rfl,
      State.typ_ptpMake _ _ (by decide) _ _ _ _, ?_⟩⟩
    · exact congrArg (fun l => l ++ [s.pdRequest p]) (s.pdAsking_spec p).2
    · have asked : State.pd { s.pdAsking p with tim := { (s.pdAsking p).tim with
          out := (s.pdAsking p).tim.out ++ [s.pdRequest p] } } p = _ := State.pd_setPd_same { s with tick := s.pdDue p } p _
      rw [asked]
      exact ⟨rfl, (s.pdAsking_spec p).1, rfl, rfl⟩
  case launch =>
    intro s p tick l o h hl
    by_cases hlate : l < max s.tick tick
    · refine ⟨_, exec_launchTimeFrame_late h hl hlate, rfl, (Nat.max_eq_left (Nat.le_of_lt hlate)).symm, fun _ => ⟨rfl, ?_⟩,
        fun hdue => absurd hlate (Nat.not_lt.mpr hdue)⟩
      exact (State.fld_bump _ _ _ _ _).trans (if_pos ⟨rfl, rfl⟩)
    · have hdue := Nat.not_lt.mp hlate
      obtain ⟨t, b, hexec, htick, hout, hsent⟩ := exec_launchTimeFrame_sent h hl hdue
      exact ⟨t, hexec, hout, htick.trans (Nat.max_eq_right hdue).symm, fun h => absurd h hlate, fun _ => ⟨b, hsent⟩⟩

end Sys2Proof.Machine
end

section
/-! SUPPORT. Timebases (R304 to R330): what an anchor, a state change and an offset leave, where no pair follows. -/

namespace Sys2Proof.Machine

variable {s t : State} {k : Nat}

theorem unsigned_lt (w : Nat) (v : Int) : unsigned w v < 2 ^ w := by
  have hpos : (0 : Int) < (2 ^ w : Nat) := by exact_mod_cast Nat.two_pow_pos w
  have hlt := Int.emod_lt_of_pos v hpos
  have hnonneg := Int.emod_nonneg v (Int.ne_of_gt hpos)
  unfold unsigned
  omega

/-- A number of 32 bits, written into a field of that width, reads back. -/
theorem State.fld_setFld_unsigned {F : Fld} (hw : F.width = 32) (s : State) (i : Nat) (v : Int) :
    (s.setFld F i (unsigned 32 v)).fld F i = unsigned 32 v := by
  rw [State.fld_setFld_same, hw]
  exact Nat.mod_eq_of_lt (unsigned_lt 32 v)

theorem State.log_tim (s : State) (code panel inst data : Nat) : (s.log code panel inst data).tim = s.tim := by
  have h := congrArg State.tim (s.log_kept code panel inst data).rest
  exact h

theorem State.tb_congr (h : t.tim = s.tim) (k : Nat) : t.tb k = s.tb k := by
  unfold State.tb
  rw [h]

/-! Anchors (R545). -/

theorem State.tbAt_congr (h : (t.tb k).anchors = (s.tb k).anchors) (n : Nat) : t.tbAt k n = s.tbAt k n := by
  unfold State.tbAt
  rw [h]

/-- The newest anchor is kept. -/
theorem keepAnchors_cons (now : Nat) (a : Anchor) (l : List Anchor) : ∃ rest, keepAnchors now (a :: l) = a :: rest :=
  ⟨l.take 4095 ++ (l.drop 4095).filter _, rfl⟩

theorem State.tb_anchor_same (s : State) (k : Nat) (a : Anchor) :
    (s.anchor k a).tb k = { s.tb k with anchors := keepAnchors s.tick (a :: (s.tb k).anchors) } := State.tb_setTb_same s k _

theorem State.lastAnchor_of_anchors {now : Nat} {a : Anchor} {l : List Anchor} (h : (s.tb k).anchors = keepAnchors now (a :: l)) :
    s.lastAnchor k = a := by
  obtain ⟨rest, hrest⟩ := keepAnchors_cons now a l
  unfold State.lastAnchor
  rw [h, hrest]
  rfl

/-- From the newest anchor's tick on, the timebase goes by it. -/
theorem State.tbAt_of_anchors {now n : Nat} {a : Anchor} {l : List Anchor} (h : (s.tb k).anchors = keepAnchors now (a :: l))
    (hn : a.tick ≤ n) : s.tbAt k n = a.at n := by
  obtain ⟨rest, hrest⟩ := keepAnchors_cons now a l
  unfold State.tbAt
  rw [h, hrest, List.find?_cons_of_pos (by simpa using hn)]

theorem phiAfter_zero (phi : Int) (slew : Nat) : phiAfter phi slew 0 = phi := by
  unfold phiAfter
  dsimp only
  split <;> simp <;> omega

/-- At its own tick an anchor tells its value and its φ. -/
theorem Anchor.at_tick (a : Anchor) : a.at a.tick = a.val + a.phi := by
  simp [Anchor.at, advance, phiAfter_zero]

/-! Pairs. -/

theorem State.pairs_congr (h : t.pat = s.pat) : t.pairs = s.pairs := by
  unfold State.pairs
  rw [h]

theorem State.pairDecide_none (h : s.pairs = []) (k : Nat) : s.pairDecide k = s := by
  unfold State.pairDecide
  rw [h]
  rfl

/-- Where no output follows, a timebase alone takes its anchor. -/
theorem State.setTime_alone (h : s.pairs = []) (k n : Nat) (val rate step : Int) (jump : Bool) : s.setTime k n val rate step jump
    = (s.anchor k { tick := n, val := val, rate := rate, jump := jump }).setFld .TIM_TB_RATE_rate k (unsigned 32 rate) := by
  unfold State.setTime
  rw [h]
  rfl

/-- φ of 0 is shown as no slewing. -/
theorem State.showPhi_still {p : PairItem × Nat} (h : (s.lastAnchor p.1.out).phi = 0) (hs : (s.lastAnchor p.1.out).slew = 0) :
    s.showPhi p = (s.setFld .TIM_PAIR_PHI_phi p.2 0).setFlag .TIM_PAIR_STATUS_slewing p.2 false := by
  have still : ∀ n, phiAfter 0 0 n = 0 := fun n => by simp [phiAfter]
  unfold State.showPhi
  simp only [h, hs, still]
  rfl

/-! The state of a timebase (R324). -/

/-- The register fields of a timebase's state. -/
def tbStateFlds (k : Nat) : List (Fld × Nat) := [(.TIM_TB_STATUS_tb_state, k), (.TIM_TB_STATUS_qualified, k)]

/-- What a change of a timebase's state leaves: tick, pattern, the other fields, and of the timebase all but since when it is
qualified or in HOLDOVER. -/
structure State.TbMoved (s t : State) (k : Nat) : Prop where
  tick : t.tick = s.tick
  pat : t.pat = s.pat
  flds : FldsKept (tbStateFlds k ++ logFlds) s t
  tb : ∃ (q : Option Nat) (h : Nat), t.tb k = { s.tb k with qualFrom := q, hoTick := h }

theorem State.TbMoved.refl (s : State) (k : Nat) : s.TbMoved s k := ⟨rfl, rfl, FldsKept.refl _ s, _, _, rfl⟩

theorem State.TbMoved.trans {u : State} (h : s.TbMoved t k) (g : t.TbMoved u k) : s.TbMoved u k := by
  obtain ⟨q, o, hst⟩ := h.tb
  obtain ⟨q', o', htu⟩ := g.tb
  exact ⟨g.tick.trans h.tick, g.pat.trans h.pat, h.flds.trans g.flds, q', o', by rw [htu, hst]⟩

theorem State.TbMoved.anchors (h : s.TbMoved t k) : (t.tb k).anchors = (s.tb k).anchors := by
  obtain ⟨q, o, htb⟩ := h.tb
  rw [htb]

theorem State.showQualified_moved (s : State) (k : Nat) : s.TbMoved (s.showQualified k) k :=
  ⟨rfl, rfl, ((FldsKept.refl _ s).congr rfl).setFlag _ (by simp [tbStateFlds]), _, _, State.tb_setTb_same s k _⟩

theorem State.fld_showQualified (s : State) (k : Nat) :
    (s.showQualified k).fld .TIM_TB_STATUS_qualified k = b2n (s.tbQualified k) := by
  have bit : ∀ b, b2n b % 2 = b2n b := by decide
  exact (State.fld_setFld_same _ _ _ _).trans (bit _)

theorem State.tbState_showQualified (s : State) (k : Nat) :
    (s.showQualified k).fld .TIM_TB_STATUS_tb_state k = s.fld .TIM_TB_STATUS_tb_state k :=
  State.fld_setFld_ne _ _ (by simp)

/-- The state `st` set and logged; HOLDOVER takes its start. -/
def State.enterTb (s : State) (k st : Nat) : State :=
  let u := (s.setFld .TIM_TB_STATUS_tb_state k st).log 0x3402 noPanel k st
  if st = 3 then u.setTb k { u.tb k with hoTick := u.tick } else u

theorem State.setTbState_enters (h : s.pairs = []) {st : Nat} (hne : s.fld .TIM_TB_STATUS_tb_state k ≠ st) :
    s.setTbState k st = (s.enterTb k st).showQualified k := by
  refine (if_neg hne).trans (State.pairDecide_none ((State.pairs_congr (s := s) ?_).trans h) k)
  show (ite _ _ _ : State).pat = s.pat
  split <;> exact State.log_pat _ _ _ _ _

theorem State.enterTb_moved (s : State) (k st : Nat) : s.TbMoved (s.enterTb k st) k := by
  have logged : s.TbMoved ((s.setFld .TIM_TB_STATUS_tb_state k st).log 0x3402 noPanel k st) k :=
    ⟨State.log_tick .., State.log_pat .., ((FldsKept.refl (tbStateFlds k) s).setFld _ (by simp [tbStateFlds])).mono
      (fun _ => List.mem_append_left _) |>.log _ _ _ _, _, _, State.tb_congr (State.log_tim ..) k⟩
  unfold State.enterTb
  dsimp only
  split
  · exact logged.trans ⟨rfl, rfl, (FldsKept.refl _ _).congr rfl, _, _, State.tb_setTb_same _ k _⟩
  · exact logged

theorem State.fld_enterTb (s : State) (k : Nat) {st : Nat} (h : st < 8) : (s.enterTb k st).fld .TIM_TB_STATUS_tb_state k = st := by
  have set : ((s.setFld .TIM_TB_STATUS_tb_state k st).log 0x3402 noPanel k st).fld .TIM_TB_STATUS_tb_state k = st := by
    rw [State.fld_log _ _ _ _ _ (by simp [logFlds]), State.fld_setFld_same]
    exact Nat.mod_eq_of_lt h
  unfold State.enterTb
  dsimp only
  split <;> exact set

theorem State.hoTick_enterTb (s : State) (k : Nat) : ((s.enterTb k 3).tb k).hoTick = s.tick := by
  show ((State.setTb _ k _).tb k).hoTick = _
  rw [State.tb_setTb_same]
  exact State.log_tick ..

theorem State.tbQualified_other (h : s.fld .TIM_TB_STATUS_tb_state k ≠ 2) : s.tbQualified k = false := by
  simp [State.tbQualified, h]

/-- HOLDOVER begins at its tick, and ends being qualified. -/
theorem State.setTbState_holdover (h : s.pairs = []) (hne : s.fld .TIM_TB_STATUS_tb_state k ≠ 3) :
    (s.setTbState k 3).fld .TIM_TB_STATUS_qualified k = 0 ∧ ((s.setTbState k 3).tb k).hoTick = s.tick := by
  have unqualified : (s.enterTb k 3).tbQualified k = false :=
    State.tbQualified_other (by rw [State.fld_enterTb s k (by decide)]; decide)
  rw [State.setTbState_enters h hne]
  refine ⟨by rw [State.fld_showQualified, unqualified]; rfl, ?_⟩
  show ((State.setTb _ k _).tb k).hoTick = _
  rw [State.tb_setTb_same]
  exact s.hoTick_enterTb k

theorem State.setTbState_moved (h : s.pairs = []) (k st : Nat) : s.TbMoved (s.setTbState k st) k := by
  by_cases hsame : s.fld .TIM_TB_STATUS_tb_state k = st
  · have stays : s.setTbState k st = s := if_pos hsame
    rw [stays]
    exact State.TbMoved.refl s k
  · rw [State.setTbState_enters h hsame]
    exact (s.enterTb_moved k st).trans (State.showQualified_moved _ k)

theorem State.fld_setTbState (h : s.pairs = []) (k : Nat) {st : Nat} (hst : st < 8) :
    (s.setTbState k st).fld .TIM_TB_STATUS_tb_state k = st := by
  by_cases hsame : s.fld .TIM_TB_STATUS_tb_state k = st
  · have stays : s.setTbState k st = s := if_pos hsame
    rw [stays, hsame]
  · rw [State.setTbState_enters h hsame, State.tbState_showQualified, State.fld_enterTb s k hst]

/-! An offset below any step limit (R322). -/

/-- The servo's integral after an offset. -/
def State.servoInteg (s : State) (k : Nat) (th : Int) : Int :=
  clampInt (-(200000 * 2 ^ 32)) (200000 * 2 ^ 32) ((s.tb k).integ + s.fld .TIM_TB_SERVO_ki k * th)

/-- The anchor an offset writes. -/
def State.servoAnchor (s : State) (k : Nat) (th : Int) : Anchor :=
  { tick := s.tick + 1, val := s.tbAt k (s.tick + 1), rate := servoRate (s.fld .TIM_TB_SERVO_kp k) th (s.servoInteg k th) }

/-- θ as shown. -/
def thetaShown (th : Int) : Nat := unsigned 32 (clampInt (-2147483648) 2147483647 (roundDiv th 65536))

/-- The state after the servo has taken an offset, before the timebase's state moves. -/
def State.servoed (s : State) (k : Nat) (th : Int) (good : Nat) : State :=
  let a := s.servoAnchor k th
  let u := (s.setFld .TIM_TB_OFFSET_theta k (thetaShown th)).setTb k { s.tb k with
    offs := (s.tick :: (s.tb k).offs).take 9, good := good, integ := s.servoInteg k th }
  ((u.anchor k a).setFld .TIM_TB_RATE_rate k (unsigned 32 a.rate)).bumpWrap .TIM_TB_CNT_offsets k

theorem State.tb_servoed (s : State) (k : Nat) (th : Int) (good : Nat) : (s.servoed k th good).tb k = { s.tb k with
    offs := (s.tick :: (s.tb k).offs).take 9, good := good, integ := s.servoInteg k th
    anchors := keepAnchors s.tick (s.servoAnchor k th :: (s.tb k).anchors) } := by
  show (State.anchor _ k _).tb k = _
  rw [State.tb_anchor_same, State.tb_setTb_same]
  rfl

theorem State.servoed_flds (s : State) (k : Nat) (th : Int) (good : Nat) :
    (s.servoed k th good).fld .TIM_TB_OFFSET_theta k = thetaShown th ∧
    (s.servoed k th good).fld .TIM_TB_RATE_rate k = unsigned 32 (s.servoAnchor k th).rate ∧
    (s.servoed k th good).fld .TIM_TB_CNT_offsets k = (s.fld .TIM_TB_CNT_offsets k + 1) % 2 ^ Fld.width .TIM_TB_CNT_offsets ∧
    FldsKept [(.TIM_TB_OFFSET_theta, k), (.TIM_TB_RATE_rate, k), (.TIM_TB_CNT_offsets, k)] s (s.servoed k th good) := by
  refine ⟨?_, ?_, ?_, ?_⟩
  · refine (State.fld_bumpWrap _ _ _ _ _).trans ((if_neg (by simp)).trans ((State.fld_setFld_ne _ _ (by simp)).trans ?_))
    exact State.fld_setFld_unsigned rfl s k _
  · exact (State.fld_bumpWrap _ _ _ _ _).trans ((if_neg (by simp)).trans (State.fld_setFld_unsigned rfl _ k _))
  · refine (State.fld_bumpWrap _ _ _ _ _).trans ((if_pos ⟨rfl, rfl⟩).trans ?_)
    rw [State.fld_setFld_ne _ _ (by simp)]
    exact congrArg (fun n => (n + 1) % _) (State.fld_setFld_ne s _ (by simp))
  · exact (((((FldsKept.refl _ s).setFld _ (by simp)).congr rfl).setFld _ (by simp)).bumpWrapN 1 (by simp))

theorem State.tbOffset_servo (hpairs : s.pairs = []) (hstep : s.fld .TIM_TB_STEP_step_ns k = 0) (th : Int) :
    ∃ good next : Nat, (s.fld .TIM_TB_STATUS_tb_state k = 0 ∨ s.fld .TIM_TB_STATUS_tb_state k = 3 → next = 1) ∧
      s.tbOffset k th = ((s.servoed k th good).setTbState k next).showQualified k := by
  have kept : ∀ (F : Fld) (v : Nat), F ≠ .TIM_TB_OFFSET_theta → (s.setFld .TIM_TB_OFFSET_theta k v).fld F k = s.fld F k :=
    fun F v hne => s.fld_setFld_ne v (by simp [hne])
  have noStep : decide ((s.setFld .TIM_TB_OFFSET_theta k (thetaShown th)).fld .TIM_TB_STEP_step_ns k ≠ 0 ∧
      (s.setFld .TIM_TB_OFFSET_theta k (thetaShown th)).fld .TIM_TB_STEP_step_ns k * 65536 ≤ th.natAbs) = false := by
    rw [kept _ _ (by decide), hstep]
    simp
  unfold State.tbOffset
  extract_lets t shown s1 lock small st stepNs stepped good t1 n sStep integ sInteg rate s2 next s3
  have hnot : stepped = false := noStep
  have hinteg : integ = s.servoInteg k th := by
    show clampInt _ _ (_ + (s1.fld .TIM_TB_SERVO_ki k : Int) * th) = _
    rw [kept _ _ (by decide)]
    rfl
  have hkp : sInteg.fld .TIM_TB_SERVO_kp k = s.fld .TIM_TB_SERVO_kp k := kept _ _ (by decide)
  have hval : sInteg.tbAt k n = s.tbAt k (s.tick + 1) :=
    State.tbAt_congr (by show (State.tb (State.setTb _ k _) k).anchors = _; rw [State.tb_setTb_same]) _
  have hs2 : s2 = s.servoed k th good := by
    have alone : sInteg.pairs = [] := (State.pairs_congr (by rfl)).trans hpairs
    show (if stepped = true then _ else State.bumpWrap (State.setTime sInteg k n (sInteg.tbAt k n) (servoRate _ th integ) 0 false) _ _) = _
    rw [hnot, if_neg Bool.false_ne_true, State.setTime_alone alone, hval, hkp, hinteg]
    show State.bumpWrap (State.setFld (State.anchor (State.setTb s1 k { t1 with integ := integ }) k _) _ _ _) _ _ = _
    rw [hinteg]
    rfl
  have hst : st = s.fld .TIM_TB_STATUS_tb_state k := kept _ _ (by decide)
  have alone : (s3.showQualified k).pairs = [] := (State.pairs_congr ((State.showQualified_moved s3 k).pat.trans
    ((State.setTbState_moved ((State.pairs_congr (by rw [hs2]; rfl)).trans hpairs) k next).pat.trans (by rw [hs2]; rfl)))).trans hpairs
  refine ⟨good, next, fun h => if_pos (hst ▸ h), (State.pairDecide_none alone k).trans ?_⟩
  rw [← hs2]

/-- What an offset leaves of its timebase (R322, R324). -/
theorem State.tbOffset_spec (hpairs : s.pairs = []) (hstep : s.fld .TIM_TB_STEP_step_ns k = 0) (th : Int) :
    (s.tbOffset k th).fld .TIM_TB_OFFSET_theta k = thetaShown th ∧ ((s.tbOffset k th).tb k).integ = s.servoInteg k th ∧
    (s.tbOffset k th).fld .TIM_TB_RATE_rate k = unsigned 32 (s.servoAnchor k th).rate ∧
    (s.tbOffset k th).lastAnchor k = s.servoAnchor k th ∧
    (s.tbOffset k th).fld .TIM_TB_CNT_offsets k = (s.fld .TIM_TB_CNT_offsets k + 1) % 2 ^ Fld.width .TIM_TB_CNT_offsets ∧
    (s.fld .TIM_TB_STATUS_tb_state k = 0 ∨ s.fld .TIM_TB_STATUS_tb_state k = 3 →
      (s.tbOffset k th).fld .TIM_TB_STATUS_tb_state k = 1) ∧
    FldsKept ([(.TIM_TB_OFFSET_theta, k), (.TIM_TB_RATE_rate, k), (.TIM_TB_CNT_offsets, k), (.TIM_TB_STATUS_tb_state, k),
      (.TIM_TB_STATUS_qualified, k)] ++ logFlds) s (s.tbOffset k th) := by
  obtain ⟨good, next, hnext, heq⟩ := State.tbOffset_servo hpairs hstep th
  have alone : (s.servoed k th good).pairs = [] := (State.pairs_congr (by rfl)).trans hpairs
  have moved := (State.setTbState_moved alone k next).trans (State.showQualified_moved _ k)
  obtain ⟨htheta, hrate, hcnt, hflds⟩ := s.servoed_flds k th good
  have stays : ∀ F : Fld, (F, k) ∉ tbStateFlds k ++ logFlds → _ := fun F h => moved.flds F k h
  obtain ⟨q, o, htb⟩ := moved.tb
  rw [State.tb_servoed] at htb
  rw [heq]
  refine ⟨?_, by rw [htb], ?_, State.lastAnchor_of_anchors (by rw [htb]), ?_, fun h => ?_, ?_⟩
  · rw [stays _ (by simp [tbStateFlds, logFlds]), htheta]
  · rw [stays _ (by simp [tbStateFlds, logFlds]), hrate]
  · rw [stays _ (by simp [tbStateFlds, logFlds]), hcnt]
  · rw [State.tbState_showQualified, hnext h, State.fld_setTbState alone k (by decide)]
  · exact (hflds.mono (by simp +contextual)).trans (moved.flds.mono (by simp +contextual [tbStateFlds]))

/-! TIMEBASE_LOSS_TIMEOUT, SLEW_END. -/

theorem exec_timebaseLossTimeout_idle (h : 8 ≤ k ∨ ¬(s.fld .TIM_TB_STATUS_tb_state k = 1 ∨ s.fld .TIM_TB_STATUS_tb_state k = 2)) :
    exec (.timebaseLossTimeout k) s = .next s := congrArg Host.Outcome.next (if_pos h)

/-- HOLDOVER's rate, as R324 writes it (log 179). -/
def holdRate (t : Tb) : Int := clampInt (-51200000) 51200000 (roundDiv t.integ (2 ^ 24))

/-- The tick a timebase's time without an offset is over. -/
def State.lossDue (s : State) (k : Nat) : Nat := max s.tick ((s.tb k).offs.headD s.tick + lossTimeout (s.tb k))

/-- The anchor HOLDOVER begins with. -/
def State.holdAnchor (s : State) (k : Nat) : Anchor :=
  { tick := s.lossDue k + 1, val := s.tbAt k (s.lossDue k + 1), rate := holdRate (s.tb k) }

theorem exec_timebaseLossTimeout (hk : k < 8) (hpairs : s.pairs = [])
    (hst : s.fld .TIM_TB_STATUS_tb_state k = 1 ∨ s.fld .TIM_TB_STATUS_tb_state k = 2) :
    ∃ t : State, exec (.timebaseLossTimeout k) s = .next t ∧ t.fld .TIM_TB_STATUS_tb_state k = 3 ∧
      t.fld .TIM_TB_STATUS_qualified k = 0 ∧ (t.tb k).hoTick = t.tick ∧ t.tick = s.lossDue k ∧
      t.lastAnchor k = s.holdAnchor k ∧ t.fld .TIM_TB_RATE_rate k = unsigned 32 (holdRate (s.tb k)) ∧
      FldsKept ([(.TIM_TB_RATE_rate, k), (.TIM_TB_STATUS_tb_state, k), (.TIM_TB_STATUS_qualified, k)] ++ logFlds) s t := by
  let due : State := { s with tick := s.lossDue k }
  let u := (due.anchor k (s.holdAnchor k)).setFld .TIM_TB_RATE_rate k (unsigned 32 (holdRate (s.tb k)))
  have alone : u.pairs = [] := (State.pairs_congr (by rfl)).trans hpairs
  have ran : exec (.timebaseLossTimeout k) s = .next (u.setTbState k 3) := by
    have time := State.setTime_alone (s := due) ((State.pairs_congr (by rfl)).trans hpairs) k (s.lossDue k + 1)
      (s.tbAt k (s.lossDue k + 1)) (holdRate (s.tb k)) 0 false
    refine congrArg Host.Outcome.next ((if_neg (by omega)).trans (congrArg (State.setTbState · k 3) time))
  have live : u.fld .TIM_TB_STATUS_tb_state k = s.fld .TIM_TB_STATUS_tb_state k := State.fld_setFld_ne _ _ (by simp)
  obtain ⟨unqualified, since⟩ := State.setTbState_holdover alone (show u.fld .TIM_TB_STATUS_tb_state k ≠ 3 by omega)
  have moved := State.setTbState_moved alone k 3
  have state := State.fld_setTbState alone k (show 3 < 8 by decide)
  have anchors : (u.tb k).anchors = keepAnchors (s.lossDue k) (s.holdAnchor k :: (s.tb k).anchors) :=
    congrArg Tb.anchors (State.tb_anchor_same due k _)
  refine ⟨_, ran, state, unqualified, since.trans moved.tick.symm, moved.tick,
    State.lastAnchor_of_anchors (moved.anchors.trans anchors), ?_, ?_⟩
  · rw [moved.flds _ _ (by simp [tbStateFlds, logFlds])]
    exact State.fld_setFld_unsigned rfl _ k _
  · have anchored : FldsKept [(.TIM_TB_RATE_rate, k)] s u := ((FldsKept.refl _ s).congr rfl).setFld _ (by simp)
    exact (anchored.mono (by simp)).trans (moved.flds.mono (by simp +contextual [tbStateFlds]))

/-- What SLEW_END leaves of a pair that slews (R326). -/
theorem exec_slewEnd {n : Nat} {p : PairItem × Nat} (hp : s.pairs.find? (fun q => q.2 == n) = some p)
    (hphi : (s.lastAnchor p.1.out).phi ≠ 0) (hslew : (s.lastAnchor p.1.out).slew ≠ 0) :
    ∃ t : State, exec (.slewEnd n) s = .next t ∧ t.tick = max s.tick ((s.lastAnchor p.1.out).slewEnd - 1) ∧
      t.lastAnchor p.1.out = { tick := t.tick + 1, val := (s.lastAnchor p.1.out).at (t.tick + 1), rate := (s.lastAnchor p.1.out).rate } ∧
      t.fld .TIM_PAIR_PHI_phi p.2 = 0 ∧ t.fld .TIM_PAIR_STATUS_slewing p.2 = 0 ∧
      FldsKept [(.TIM_PAIR_PHI_phi, p.2), (.TIM_PAIR_STATUS_slewing, p.2)] s t := by
  let a := s.lastAnchor p.1.out
  let due := s.reach (a.slewEnd - 1)
  let b : Anchor := { tick := due.tick + 1, val := a.at (due.tick + 1), rate := a.rate }
  let u := due.anchor p.1.out b
  have last : u.lastAnchor p.1.out = b := State.lastAnchor_of_anchors (congrArg Tb.anchors (State.tb_anchor_same due p.1.out b))
  have ran : exec (.slewEnd n) s = .next (u.showPhi p) := by
    refine congrArg Host.Outcome.next ?_
    rw [hp]
    exact if_neg (not_or.mpr ⟨hphi, hslew⟩)
  have shown := State.showPhi_still (s := u) (p := p) (by rw [last]) (by rw [last])
  refine ⟨_, ran, rfl, last, ?_, ?_, ?_⟩ <;> rw [shown]
  · exact (State.fld_setFld_ne _ _ (by simp)).trans (State.fld_setFld_same _ _ _ _)
  · exact State.fld_setFld_same _ _ _ _
  · exact (((FldsKept.refl _ s).congr rfl).setFld _ (by simp)).setFlag _ (by simp)

theorem exec_slewEnd_still {n : Nat} {p : PairItem × Nat} (hp : s.pairs.find? (fun q => q.2 == n) = some p)
    (h : (s.lastAnchor p.1.out).phi = 0 ∨ (s.lastAnchor p.1.out).slew = 0) : exec (.slewEnd n) s = .next s := by
  refine congrArg Host.Outcome.next ?_
  rw [hp]
  exact if_pos h

/-! PPS (R321, R327, R496, R501). -/

/-- The state an edge of PPS_IN leaves before any timebase takes its offset (R501). -/
def State.ppsEdged (s : State) (x : Nat) : State :=
  ({ s with tick := max s.tick (x / 16), tim := { s.tim with ppsIn := some (x / 16) } } : State).setFlag .PWR_CLK_STATUS_pps_valid 0
    (s.tim.ppsIn.any (fun p => decide (199980000 ≤ x / 16 - p) && decide (x / 16 - p ≤ 200020000)))

theorem State.tbRole_ppsEdged (s : State) (x k : Nat) : (s.ppsEdged x).tbRole k = s.tbRole k := State.fld_setFld_ne _ _ (by simp)

theorem exec_ppsInEdge (s : State) (x : Nat) : exec (.ppsInEdge x) s = .next (forAll ((List.range 8).filter (fun k => s.tbRole k == 3))
    (fun k t => t.tbOffset k (wrapSecond (t.tbAt16 k x))) (s.ppsEdged x)) := by
  have roles : (fun k => (s.ppsEdged x).tbRole k == 3) = fun k => s.tbRole k == 3 := funext fun k => by rw [State.tbRole_ppsEdged]
  rw [← roles]
  rfl

theorem filter_range_none {n : Nat} {f : Nat → Bool} (h : ∀ k < n, f k = false) : (List.range n).filter f = [] :=
  List.filter_eq_nil_iff.mpr fun k hk => by simp [h k (List.mem_range.mp hk)]

theorem filter_range_single {n k : Nat} {f : Nat → Bool} (hk : k < n) (hf : f k = true) (h : ∀ j < n, j ≠ k → f j = false) :
    (List.range n).filter f = [k] := by
  have same : ∀ j ∈ List.range n, f j = (j == k) := fun j hj => by
    by_cases hjk : j = k
    · simp [hjk, hf]
    · simp [hjk, h j (List.mem_range.mp hj) hjk]
  rw [List.filter_congr same, List.filter_beq, List.count_eq_one_of_mem List.nodup_range (List.mem_range.mpr hk)]
  rfl

/-- The end of `pps_valid` (R501). -/
theorem exec_ppsInTimeout (s : State) : exec .ppsInTimeout s = .next (({ s with
    tick := (s.tim.ppsIn.map (fun p => max s.tick (p + 200020001))).getD s.tick
    tim := { s.tim with ppsIn := none } } : State).setFlag .PWR_CLK_STATUS_pps_valid 0 false) := by
  show execPpsInTimeout s = _
  unfold execPpsInTimeout
  dsimp only
  cases s.tim.ppsIn <;> rfl

/-- The AON time of day set (R496). -/
theorem State.setTod_flds (s : State) {sec : Nat} (h : sec < 2 ^ 48) : (s.setTod sec).fld .PWR_TOD_LO_tod_lo 0 = sec % 2 ^ 32 ∧
    (s.setTod sec).fld .PWR_TOD_HI_tod_hi 0 = sec / 2 ^ 32 ∧ (s.setTod sec).fld .PWR_TOD_HI_tod_valid 0 = 1 ∧
    FldsKept [(.PWR_TOD_LO_tod_lo, 0), (.PWR_TOD_HI_tod_hi, 0), (.PWR_TOD_HI_tod_valid, 0)] s (s.setTod sec) := by
  have lo : sec % 2 ^ 32 % 2 ^ Fld.width .PWR_TOD_LO_tod_lo = sec % 2 ^ 32 := Nat.mod_mod _ _
  have hi : sec / 2 ^ 32 % 2 ^ Fld.width .PWR_TOD_HI_tod_hi = sec / 2 ^ 32 := Nat.mod_eq_of_lt (Nat.div_lt_of_lt_mul h)
  unfold State.setTod
  refine ⟨?_, ?_, State.fld_setFld_same _ _ _ _,
    ((((FldsKept.refl _ s).congr rfl).setFld _ (by simp)).setFld _ (by simp)).setFlag _ (by simp)⟩
  · rw [State.fld_setFlag, if_neg (by simp), State.fld_setFld_ne _ _ (by simp), State.fld_setFld_same, lo]
  · rw [State.fld_setFlag, if_neg (by simp), State.fld_setFld_same, hi]

theorem tbParts_sec_lt (v : Int) : (tbParts v).1 < 2 ^ 48 := by
  have hlt := Int.emod_lt_of_pos v (show (0 : Int) < (2 ^ 48 * 1000000000 * 65536 : Nat) by norm_num)
  have hnonneg := Int.emod_nonneg v (show ((2 ^ 48 * 1000000000 * 65536 : Nat) : Int) ≠ 0 by norm_num)
  unfold tbParts
  dsimp only
  omega

theorem exec_ppsOutEdge_none {tick : Nat} (h : s.tbRole s.pat.tbs.ppsSrc = 0 ∨
      ¬s.tbAt s.pat.tbs.ppsSrc tick / secUnits ≠ s.tbAt s.pat.tbs.ppsSrc (tick - 1) / secUnits) :
    exec (.ppsOutEdge tick) s = .next s := congrArg Host.Outcome.next (if_pos (by rwa [not_not] at h))

theorem exec_ppsOutEdge {tick : Nat} (hrole : s.tbRole s.pat.tbs.ppsSrc ≠ 0)
    (hturn : s.tbAt s.pat.tbs.ppsSrc tick / secUnits ≠ s.tbAt s.pat.tbs.ppsSrc (tick - 1) / secUnits) :
    ∃ t : State, exec (.ppsOutEdge tick) s = .next t ∧ t.tim.ppsEdge = some tick ∧
      (let sec := (tbParts (s.tbAt s.pat.tbs.ppsSrc tick)).1
       t.tim.todDue = some (sec, s.tim.utc, s.fld .TIM_TB_STATUS_tb_state s.pat.tbs.ppsSrc) ∧
       t.fld .PWR_TOD_LO_tod_lo 0 = sec % 2 ^ 32 ∧ t.fld .PWR_TOD_HI_tod_hi 0 = sec / 2 ^ 32 ∧
       t.fld .PWR_TOD_HI_tod_valid 0 = 1) ∧
      FldsKept [(.PWR_TOD_LO_tod_lo, 0), (.PWR_TOD_HI_tod_hi, 0), (.PWR_TOD_HI_tod_valid, 0)] s t := by
  obtain ⟨hlo, hhi, hvalid, hkept⟩ := State.setTod_flds (s.reach tick) (tbParts_sec_lt (s.tbAt s.pat.tbs.ppsSrc tick))
  refine ⟨_, congrArg Host.Outcome.next (if_neg (not_or.mpr ⟨hrole, hturn⟩)), rfl, ⟨rfl, ?_, ?_, ?_⟩, ?_⟩
  · exact (State.fld_congr rfl _ _).trans hlo
  · exact (State.fld_congr rfl _ _).trans hhi
  · exact (State.fld_congr rfl _ _).trans hvalid
  · exact FldsKept.congr (t := (s.reach tick).setTod _) hkept rfl

theorem exec_todTxLine {sec q : Nat} {utc : Int} (h : s.tim.todDue = some (sec, utc, q)) : exec .todTxLine s
    = .next { s with tick := max s.tick (s.tim.ppsEdge.getD 0 + 2000000),
                     tim := { s.tim with todLine := gwtLine sec utc q, todDue := none } } := by
  refine congrArg Host.Outcome.next ?_
  rw [h]
  rfl

/-! The TIM commands (R329, R546). -/

variable {c : Cmd}

theorem timCmd_passes {p : Nat} (hp : p = 0) (hk : k ≤ 7) (hr : s.tbRole k ≠ 0) (f : State × Option Resp) : timCmd s p k f = f := by
  rw [timCmd, if_neg (Nat.not_lt.mpr hk), if_neg (not_not.mpr hp), if_neg (show ¬s.tbRole k = tbOff from hr)]

section
variable (h : s.Takes c) (hp : c.pnl = 0) (hk : k ≤ 7) (hr : s.tbRole k ≠ 0)
include h hp hk hr

theorem exec_timQuery : exec (.timQuery c k) s = .next (s.answer c 0x3401 ⟨.ok,
    ((s.tbWords k s.tick ++ [s.tbStatusWord k, s.fld .TIM_TB_RATE_rate k]).map (le 4)).flatten⟩) := by
  refine congrArg Host.Outcome.next ?_
  rw [opTimQuery, timCmd_passes hp hk hr]
  exact ohi_takes h

theorem exec_timSet_badState (hrole : s.tbRole k = 2 ∨ s.tbRole k = 4) (sec ns rate : Nat) :
    exec (.timSet c k sec ns rate) s = .next (s.answer c 0x3402 (rsp .badState)) := by
  refine congrArg Host.Outcome.next ?_
  rw [opTimSet, timCmd_passes hp hk hr, if_pos (show s.tbRole k = tbPtp ∨ s.tbRole k = tbOutput from hrole)]
  exact ohi_refuse h

/-- A FREE or DRIVER timebase takes value and rate at the next tick. -/
theorem exec_timSet {sec ns rate : Nat} (hrole : s.tbRole k = 1 ∨ s.tbRole k = 5) (hns : ns ≤ 999999999)
    (hrate : (signed 32 rate).natAbs ≤ 51200000) (hpairs : s.pairs = []) :
    ∃ t : State, exec (.timSet c k sec ns rate) s = .next (t.answer c 0x3402 (rsp .ok)) ∧
      t.lastAnchor k = { tick := s.tick + 1, val := tbVal sec ns 0, rate := signed 32 rate, jump := true } ∧
      FldsKept [(.TIM_TB_RATE_rate, k)] s t := by
  let a : Anchor := { tick := s.tick + 1, val := tbVal sec ns 0, rate := signed 32 rate, jump := true }
  have own : ¬(s.tbRole k = tbPtp ∨ s.tbRole k = tbOutput) := by unfold tbPtp tbOutput; omega
  have notPps : ¬s.tbRole k = tbPps := by unfold tbPps; omega
  refine ⟨(s.anchor k a).setFld .TIM_TB_RATE_rate k (unsigned 32 a.rate), ?_, ?_, ?_⟩
  · refine congrArg Host.Outcome.next ?_
    rw [opTimSet, timCmd_passes hp hk hr, if_neg own, if_neg (by omega)]
    simp only [if_neg notPps, State.setTime_alone hpairs]
    exact ohi_takes h
  · exact State.lastAnchor_of_anchors (congrArg Tb.anchors (State.tb_anchor_same s k a))
  · exact ((FldsKept.refl _ s).congr rfl).setFld _ (by simp)

theorem exec_timFeed (off : Nat) : exec (.timFeed c k off) s = .next (if s.tbRole k = 5 then
    (s.tbOffset k (signed 64 off)).answer c 0x3403 (rsp .ok) else s.answer c 0x3403 (rsp .badState)) := by
  refine congrArg Host.Outcome.next ?_
  rw [opTimFeed, timCmd_passes hp hk hr]
  by_cases hd : s.tbRole k = 5
  · rw [if_neg (show ¬s.tbRole k ≠ tbDriver from not_not.mpr hd), if_pos hd]
    exact ohi_takes h
  · rw [if_pos (show s.tbRole k ≠ tbDriver from hd), if_neg hd]
    exact ohi_refuse h

theorem exec_timAt {n : Nat} {a : Anchor} (ha : (s.tb k).anchors.find? (fun a => a.tick ≤ n) = some a) (hn : n ≤ s.tick) :
    exec (.timAt c k n) s = .next (s.answer c 0x3405 ⟨.ok, le 6 (tbParts (a.at n)).1 ++ le 4 (tbParts (a.at n)).2.1
      ++ le 2 (tbParts (a.at n)).2.2 ++ [byte (b2n ((s.tb k).anchors.any (fun b => b.jump && decide (n < b.tick)
        && decide (b.tick ≤ s.tick))))]⟩) := by
  refine congrArg Host.Outcome.next ?_
  rw [opTimAt, timCmd_passes hp hk hr]
  simp only [ha]
  rw [if_neg (Nat.not_lt.mpr hn)]
  exact ohi_takes h

/-- The member of a pair that TIM_PAIR_SELECT names. -/
def pairMember (w : Nat) (q : PairItem × Nat) : Nat := if w = 0 then q.1.primary else q.1.secondary

section
variable {w : Nat} {q : PairItem × Nat} (hw : w ≤ 1) (hf : s.inForce 8 = true)
  (hq : s.pairs.find? (fun q => q.1.out == k) = some q)
include hw hf hq

theorem exec_timPairSelect_badState (hm : s.tbQualified (pairMember w q) = false) :
    exec (.timPairSelect c k w) s = .next (s.answer c 0x3404 (rsp .badState)) := by
  refine congrArg Host.Outcome.next ?_
  rw [opTimPairSelect, if_neg (by omega), if_neg (not_not.mpr hp), featGate, State.featRes, if_pos hf, timCmd_passes hp hk hr]
  simp only [hq]
  rw [show (if w = 0 then q.1.primary else q.1.secondary) = pairMember w q from rfl, if_pos (.inr hm)]
  exact ohi_refuse h

theorem exec_timPairSelect (hrole : s.tbRole k = 4) (hm : s.tbQualified (pairMember w q) = true) (hsrc : s.pairSrc q ≠ pairMember w q) :
    exec (.timPairSelect c k w) s = .next ((s.pairSwitch q (w == 1) 1).answer c 0x3404 (rsp .ok)) := by
  refine congrArg Host.Outcome.next ?_
  rw [opTimPairSelect, if_neg (by omega), if_neg (not_not.mpr hp), featGate, State.featRes, if_pos hf, timCmd_passes hp hk hr]
  simp only [hq]
  rw [show (if w = 0 then q.1.primary else q.1.secondary) = pairMember w q from rfl, if_neg (by simp [hrole, tbOutput, hm]), if_neg hsrc]
  exact ohi_takes h

end
end

/-- A switched output goes on from its value, by the member named (R326). -/
theorem State.pairSwitch_spec (s : State) (q : PairItem × Nat) (b : Bool) (row : Nat) :
    (s.pairSwitch q b row).tbAt q.1.out (s.tick + 1) = s.tbAt q.1.out (s.tick + 1) ∧
    (s.pairSwitch q b row).fld .TIM_PAIR_STATUS_on_secondary q.2 = b2n b := by
  let new := if b then q.1.secondary else q.1.primary
  let a : Anchor := { tick := s.tick + 1, val := s.tbAt new (s.tick + 1), rate := (s.lastAnchor new).rate
                      phi := s.tbAt q.1.out (s.tick + 1) - s.tbAt new (s.tick + 1), slew := q.1.slewPpb, jump := true }
  constructor
  · have anchors : ((s.pairSwitch q b row).tb q.1.out).anchors = keepAnchors s.tick (a :: (s.tb q.1.out).anchors) := by
      unfold State.pairSwitch
      rw [State.tb_congr (State.log_tim ..)]
      exact congrArg Tb.anchors (State.tb_anchor_same s q.1.out a)
    rw [State.tbAt_of_anchors anchors (Nat.le_refl _)]
    refine a.at_tick.trans ?_
    show s.tbAt new (s.tick + 1) + (s.tbAt q.1.out (s.tick + 1) - s.tbAt new (s.tick + 1)) = _
    omega
  · unfold State.pairSwitch
    rw [State.fld_log _ _ _ _ _ (by simp [logFlds]), State.fld_bump, if_neg (by simp)]
    unfold State.showPhi
    rw [State.fld_setFlag, if_neg (by simp), State.fld_setFld_ne _ _ (by simp), State.fld_setFld_ne _ _ (by simp)]
    cases b <;> exact State.fld_setFld_same _ _ _ _

/-- Settles O45: each event and command as its operation, then what the operation leaves of its timebase and of the registers. -/
theorem timebasesFollowTheirOffsets : Obligations.TimebasesFollowTheirOffsets := by
  unfold Obligations.TimebasesFollowTheirOffsets
  refine ⟨fun s k th hk hpairs hstep => ?offset, fun s k => ⟨exec_timebaseLossTimeout_idle, fun hk hpairs hst => ?holdover⟩,
    fun s n p hp => ⟨exec_slewEnd_still hp, fun hphi hslew => exec_slewEnd hp hphi hslew⟩,
    fun s x => ?edge, fun s => ⟨_, exec_ppsInTimeout s, rfl, State.fld_setFld_same _ _ _ _, rfl, ?timeout⟩,
    fun s tick => ⟨exec_ppsOutEdge_none, exec_ppsOutEdge⟩, fun s sec q utc h => exec_todTxLine h,
    fun s c k h hp hk hr => ⟨exec_timQuery h hp hk hr, fun sec ns rate hrole => exec_timSet_badState h hp hk hr hrole sec ns rate,
      fun sec ns rate hrole hns hrate hpairs => exec_timSet h hp hk hr hrole hns hrate hpairs, exec_timFeed h hp hk hr,
      fun w q hw hf hq hrole => ?select, fun n a ha hn => exec_timAt h hp hk hr ha hn⟩⟩
  case offset =>
    obtain ⟨htheta, hinteg, hrate, hlast, hcnt, hstate, hflds⟩ := State.tbOffset_spec hpairs hstep th
    refine ⟨htheta, hinteg, hrate, ?_, ?_, hcnt, hstate, hflds⟩ <;> rw [hlast] <;> rfl
  case holdover =>
    obtain ⟨t, hexec, hstate, hqual, hsince, htick, hlast, hrate, hflds⟩ := exec_timebaseLossTimeout hk hpairs hst
    refine ⟨t, hexec, hstate, hqual, hsince, htick, ⟨?_, hrate⟩, hflds⟩
    rw [hlast, htick]
    rfl
  case edge =>
    refine ⟨fun hno => ?_, fun k hk hpps hother => ?_⟩ <;> rw [exec_ppsInEdge]
    · rw [filter_range_none fun k hk => by simp [hno k hk]]
      rfl
    · rw [filter_range_single hk (by simp [hpps]) fun j hj hne => by simp [hother j hj hne]]
      rfl
  case timeout => exact ((FldsKept.refl _ s).congr rfl).setFlag _ (by simp)
  case select =>
    have hout : q.1.out = k := by simpa using List.find?_some hq
    have flag : ∀ w ≤ 1, b2n (w == 1) = w := by decide
    obtain ⟨hkeeps, hsec⟩ := s.pairSwitch_spec q (w == 1) 1
    rw [hout] at hkeeps
    exact ⟨exec_timPairSelect_badState h hp hk hr hw hf hq, fun hm hsrc => ⟨_,
      exec_timPairSelect h hp hk hr hw hf hq hrole hm hsrc, hkeeps, hsec.trans (flag w hw)⟩⟩

end Sys2Proof.Machine
end

section
/-! SUPPORT. The host side (R390 to R404): queues, handover, frames from the hosts, PRP supervision and port links. -/

namespace Sys2Proof.Machine

variable {s : State}

/-! Queues. -/

theorem State.dequeue_queues (s : State) (m : QMsg) : (s.dequeue m).host.queues = s.host.queues.erase m := by
  unfold State.dequeue
  dsimp only
  split
  · rfl
  · rfl

theorem exec_qAgeDrop {p q : Nat} {m : QMsg} (hq : q < 8)
    (hm : s.host.queues.find? (fun x => x.panel == p && (x.prio != 3 && x.cls == q)) = some m) :
    exec (.qAgeDrop p q) s = .next (((s.reach (m.tickIn + s.queueAge m)).dequeue m).bump .PNL_HO_CNT_q_age_drop p) := by
  show execQAgeDrop p q s = _
  unfold execQAgeDrop
  simp only [if_neg (show ¬q = 8 by omega), hm]

/-- A message that finds room in its queue, or a credit of its class, is queued at the end. -/
theorem State.queueMsg_queues {m : QMsg} (h : m.prio = 3 → s.protCount m.panel < 64) :
    (s.queueMsg m).host.queues = s.host.queues ++ [m] := by
  unfold State.queueMsg
  by_cases h3 : m.prio = 3
  · rw [if_pos h3, if_neg (Nat.not_le.mpr (h h3))]
  · rw [if_neg h3]
    rfl

/-! Handover. -/

/-- The message that a handover without a launch time queues. -/
def State.handed (s : State) (p q : Nat) (m : List Byte) : QMsg :=
  let h := hoParse m
  { panel := p, cls := q, prio := h.prio, flood := h.kind == 2, target := h.target, dst := h.peer, ep := h.ep
    ackReq := h.ack, enc := h.enc, data := slice m 32 h.len, tickIn := s.tick, launch := none }

section
variable {p q : Nat} {m : List Byte} (hbad : hoBad (hoParse m) m = false) (hden : s.hoDenied p (hoParse m) = false)
  (hright : s.hoNoRight p (hoParse m) = false) (hlaunch : (hoParse m).hasLaunch = false)
  (hcredit : (hoParse m).prio ≠ 3 → s.credit p q ≠ 0)
include hbad hden hright hlaunch hcredit

/-- The checks of R394 passed, the message is queued. -/
theorem State.handoverIn_passes : s.handoverIn p q m = s.queueMsg (s.handed p q m) := by
  have launch : s.hoLaunch (hoParse m) = (some none, s) := if_pos hlaunch
  have credit : ¬((hoParse m).prio ≠ 3 ∧ s.credit p q = 0) := fun h => hcredit h.1 h.2
  unfold State.handoverIn
  dsimp only
  rw [if_neg (ne_true_of_eq_false hbad), if_neg (ne_true_of_eq_false hden), if_neg (ne_true_of_eq_false hright), if_neg credit,
    launch]
  rfl

theorem State.handoverIn_queues (hprot : (hoParse m).prio = 3 → s.protCount p < 64) :
    (s.handoverIn p q m).host.queues = s.host.queues ++ [s.handed p q m] :=
  (congrArg (fun t => t.host.queues) (State.handoverIn_passes hbad hden hright hlaunch hcredit)).trans (State.queueMsg_queues hprot)
end

theorem exec_send {p q : Nat} {m : List Byte} (hp : p < 16) (hq : q < 8) (hi : (s.panelItem p).isSome = true)
    (hk : (hoParse m).kind ≠ 2) : exec (.send p q m) s = .next (s.handoverIn p q m) :=
  congrArg Host.Outcome.next (if_pos ⟨hp, hq, hi, hk⟩)

theorem exec_flood {p q : Nat} {m : List Byte} (hp : p < 16) (hq : q < 8) (hi : (s.panelItem p).isSome = true)
    (hk : (hoParse m).kind ≠ 1) : exec (.flood p q m) s = .next (s.handoverIn p q m) :=
  congrArg Host.Outcome.next (if_pos ⟨hp, hq, hi, hk⟩)

/-! Frames from the hosts. -/

/-- A frame of the module's EtherType on a panel's data VLAN is a handover (R392). -/
theorem State.classify_handover {f : List Byte} {i : PanelItem} (het : (ethParse f).etype = 0x88B5) (hv : (ethParse f).vid ≠ 0)
    (hmgmt : s.mgmtPanel (ethParse f).vid = none) (hdata : s.dataPanel (ethParse f).vid = some i) (port tick : Nat) :
    s.classify port f tick = s.handoverIn i.panel (ethParse f).pcp (ethParse f).body := by
  unfold State.classify
  dsimp only
  rw [if_neg (by simp [het]), if_neg hv, hmgmt]
  dsimp only
  rw [hdata]
  dsimp only
  rw [if_neg (by simp [het]), if_pos het]

/-- Without PRP a frame that is accepted and is no PTP frame is classified as it is (R391, R403). -/
theorem State.frameIn_taken {f : List Byte} (hlo : 60 ≤ f.length) (hhi : f.length ≤ 16444) (het : (ethParse f).etype = 0x88B5)
    (hmac : s.macTaken (ethParse f).dst = true) (hprp : s.prpOn = false) (port tick : Nat) :
    s.frameIn port f tick = s.classify port f tick := by
  have plain : s.prpIn port f = (some f, s) := if_pos hprp
  unfold State.frameIn
  dsimp only
  rw [if_neg (by omega), if_neg (by simp [het]), if_neg (by simp [hmac]), if_neg (by simp [het]), plain]

theorem exec_hostFrameRx {port : Nat} (hp : port < 2) (hl : s.linkUp port = true) (f : List Byte) (tick : Nat) :
    exec (.hostFrameRx port f true tick) s = .next (({ s with tick := max s.tick (tick / 16) } : State).frameIn port f tick) :=
  congrArg Host.Outcome.next (if_neg (by simp [hl, hp]))

/-- The ARP reply of a panel (R392). -/
theorem exec_arpRequest {port vid : Nat} {f : List Byte} {i : PanelItem} (hi : s.mgmtPanel vid = some i) (hp : port < 2)
    (het : (ethParse f).etype = 0x0806) (hop : beAt (ethParse f).body 6 2 = 1) (hip : beAt (ethParse f).body 24 4 = i.ipv4)
    (hprp : s.prpOn = false) : ∃ e : EgFrame, exec (.arpRequest port vid f) s
      = .next { s with host := { s.host with egress := s.host.egress ++ [e] } } ∧ e.order = 3 ∧ e.panel = i.panel ∧ e.ports = i.ports := by
  have replied : ∃ bytes, s.arpReply i (ethParse f)
      = s.egressFrame { order := 3, panel := i.panel, ports := i.ports, cls := 8, bytes := bytes } := ⟨_, if_pos ⟨hop, hip⟩⟩
  obtain ⟨bytes, hreply⟩ := replied
  refine ⟨{ order := 3, panel := i.panel, ports := i.ports, cls := 8, bytes := bytes }, congrArg Host.Outcome.next ?_, rfl, rfl, rfl⟩
  rw [hi]
  dsimp only
  rw [if_pos ⟨hp, het⟩, hreply, State.egressFrame_plain hprp]

/-! PRP supervision and port links. -/

/-- Under PRP a frame leaves once on each port (R403). -/
theorem State.egressFrame_doubled (h : s.prpOn = true) (f : EgFrame) : ∃ a b : EgFrame,
    (s.egressFrame f).host.egress = s.host.egress ++ [a, b] ∧ a.ports = 1 ∧ b.ports = 2 := by
  have doubled : ∃ a b : EgFrame, s.egressFrame f
      = { s with host := { s.host with prpSeq := (s.host.prpSeq + 1) % 65536, egress := s.host.egress ++ [a, b] } } ∧
        a.ports = 1 ∧ b.ports = 2 := ⟨_, _, if_pos h, rfl, rfl⟩
  obtain ⟨a, b, he, ha, hb⟩ := doubled
  exact ⟨a, b, by rw [he], ha, hb⟩

theorem exec_prpSupervisionSend (h : s.prpOn = true) (hl : 0 < s.pat.ports.prpLifeMs) : ∃ (t : State) (a b : EgFrame),
    exec .prpSupervisionSend s = .next t ∧ t.host.egress = s.host.egress ++ [a, b] ∧ a.ports = 1 ∧ b.ports = 2 := by
  obtain ⟨a, b, he, ha, hb⟩ := State.egressFrame_doubled
    (s := s.reach (s.host.supAt + msTicks s.pat.ports.prpLifeMs)) h
    { order := 3, panel := noPanel, ports := 3, cls := 8, bytes := (s.reach (s.host.supAt + msTicks s.pat.ports.prpLifeMs)).supFrame }
  exact ⟨_, a, b, congrArg Host.Outcome.next (if_pos ⟨h, hl⟩), he, ha, hb⟩

theorem exec_hostLinkChange {port : Nat} (hp : port < 2) (hm : s.fld .HST_PORT_STATUS_mode port ≠ 0xF)
    (hf : s.host.failed.contains port = false) (up : Bool) :
    ∃ t : State, exec (.hostLinkChange port up) s = .next t ∧ t.linkUp port = up := by
  have mode : (s.fld .HST_PORT_STATUS_mode port != 0xF) = true := by simpa using hm
  refine ⟨_, congrArg Host.Outcome.next (if_neg (Nat.not_le.mpr hp)), ?_⟩
  rw [hf, mode, Bool.not_false, Bool.and_true, Bool.and_true]
  unfold State.linkUp State.flag
  rw [State.fld_setFlag, if_neg (by simp), State.fld_setFlag, if_neg (by simp), State.fld_setFlag, if_pos ⟨rfl, rfl⟩]
  cases up
  · rfl
  · rfl

end Sys2Proof.Machine
end

section
/-! SUPPORT. Lanes (R340 to R358): a lane's record, control messages, the changes of a lane that is not ALIGNED, and what a head
answers. -/

namespace Sys2Proof.Machine

variable {s : State} {j : Nat}

/-! A lane's record. -/

@[simp] theorem State.lane_updLane_same (s : State) (j : Nat) (f : Lane → Lane) : (s.updLane j f).lane j = f (s.lane j) :=
  tget_tput_same ..

/-! Control messages (R341). -/

/-- Sent with fewer than 16 outstanding, a message is outstanding and to be sent. -/
theorem State.lane_sendCtl (h : (s.lane j).out.length < 16) (write : Bool) (addr data : Nat) (why : CtlWhy) :
    ((s.sendCtl j write addr data why).lane j).toSend = (s.lane j).toSend ++ [(s.lane j).nextTag] ∧
    ∃ m : CtlMsg, ((s.sendCtl j write addr data why).lane j).out = (s.lane j).out ++ [m] ∧ m.write = write ∧ m.addr = addr := by
  unfold State.sendCtl
  rw [State.lane_updLane_same]
  dsimp only
  rw [if_pos h]
  exact ⟨rfl, _, rfl, rfl, rfl⟩

/-- Register reads sent together are outstanding in their order. -/
theorem State.sendReads_out (why : CtlWhy) (l : List Nat) : ∀ s : State, (s.lane j).out.length + l.length ≤ 16 →
    ((l.foldl (fun s a => s.sendCtl j false a 0 why) s).lane j).out.map (fun m => (m.write, m.addr))
      = (s.lane j).out.map (fun m => (m.write, m.addr)) ++ l.map (fun a => (false, a)) := by
  induction l with
  | nil => intro s _; simp
  | cons a l ih =>
    intro s h
    rw [List.length_cons] at h
    obtain ⟨-, m, hout, hw, ha⟩ := State.lane_sendCtl (s := s) (j := j) (by omega) false a 0 why
    rw [List.foldl_cons, ih _ (by rw [hout, List.length_append, List.length_singleton]; omega), hout]
    simp [hw, ha]

theorem State.sendReads_regs (why : CtlWhy) (l : List Nat) : ∀ s : State,
    (l.foldl (fun s a => s.sendCtl j false a 0 why) s).regs = s.regs := by
  induction l with
  | nil => exact fun _ => rfl
  | cons a l ih => exact fun s => ih _

/-- Losing a lane's messages changes ring indices and the log alone among the fields. -/
theorem State.fld_dropCtl (s : State) (j : Nat) {F : Fld} {i : Nat}
    (hr : F ∉ [.PNL_RING_IDX_rsp_tail, .PNL_RING_IDX_rsp_head, .PNL_RING_IDX_cmd_head, .PNL_RING_IDX_cmd_tail])
    (hl : (F, i) ∉ logFlds) : (s.dropCtl j).fld F i = s.fld F i := by
  unfold State.dropCtl
  dsimp only
  generalize (s.lane j).out ++ (s.lane j).queue = ms
  refine List.foldlRecOn (motive := fun t : State => t.fld F i = s.fld F i) ms _ (by rfl) fun t ht m _ => ?_
  cases hw : m.why with
  | host c op => exact ((completeCmd_kept t c op (rsp .fault)).fld hr hl).trans ht
  | _ => exact ht

/-! Changes of a lane that is not ALIGNED (R352, R353). -/

theorem State.fld_setLaneState_cause (s : State) (j st cause : Nat) : (s.setLaneState j st cause).fld .HLK_STATUS_cause j = cause % 16 := by
  unfold State.setLaneState
  dsimp only
  split <;> simp only [State.fld_setFlag, State.fld_setFld, reduceCtorEq, false_and, if_false, and_self, if_true] <;> rfl

/-- A lane that is not ALIGNED goes to the state with its cause. -/
theorem State.laneState_laneLeave (h : s.laneState j ≠ hlkAligned) {st : Nat} (hst : st < 8) (cause : Nat) :
    (s.laneLeave j st cause).laneState j = st := by
  unfold State.laneLeave State.laneFallBack
  rw [if_neg h]
  refine (State.fld_dropCtl _ j (by simp) (by simp [logFlds])).trans ((s.laneState_setLaneState j j st cause).trans ?_)
  rw [if_pos rfl, Nat.mod_eq_of_lt hst]

theorem State.laneCause_laneLeave (h : s.laneState j ≠ hlkAligned) (st : Nat) {cause : Nat} (hc : cause < 16) :
    (s.laneLeave j st cause).fld .HLK_STATUS_cause j = cause := by
  unfold State.laneLeave State.laneFallBack
  rw [if_neg h]
  refine (State.fld_dropCtl _ j (by simp) (by simp [logFlds])).trans ((s.fld_setLaneState_cause j st cause).trans ?_)
  exact Nat.mod_eq_of_lt hc

theorem State.laneState_updLane (s : State) (i : Nat) (f : Lane → Lane) (j : Nat) : (s.updLane i f).laneState j = s.laneState j := rfl

theorem State.laneLocked_calibrating (h : s.laneState j = hlkCalibrating) : s.laneLocked j = true := by simp [State.laneLocked, h]

theorem exec_signalAndSymbolLock (h : s.laneState j = hlkDown) :
    ∃ t : State, exec (.signalAndSymbolLock j) s = .next t ∧ t.laneState j = hlkLocking :=
  ⟨_, congrArg Host.Outcome.next (if_pos h),
    State.laneState_laneLeave (by rw [State.laneState_updLane, h]; decide) (by decide) _⟩

theorem exec_frameLockLost (h : s.laneState j = hlkCalibrating) (hb : 4 ≤ (s.lane j).bad) :
    ∃ t : State, exec (.frameLockLost j) s = .next t ∧ t.laneState j = hlkLocking ∧ t.fld .HLK_STATUS_cause j = 2 := by
  have apart : s.laneState j ≠ hlkAligned := by rw [h]; decide
  exact ⟨_, congrArg Host.Outcome.next (if_pos ⟨State.laneLocked_calibrating h, hb⟩),
    State.laneState_laneLeave apart (by decide) 2, State.laneCause_laneLeave apart _ (by decide)⟩

theorem exec_lossOfSignal (h : s.laneState j = hlkCalibrating) :
    ∃ t : State, exec (.lossOfSignal j) s = .next t ∧ t.laneState j = hlkDown ∧ t.fld .HLK_STATUS_cause j = 1 := by
  have apart : (s.updLane j (fun l => { l with signal := false })).laneState j ≠ hlkAligned := by
    rw [State.laneState_updLane, h]
    decide
  exact ⟨_, congrArg Host.Outcome.next (if_pos (.inl (State.laneLocked_calibrating h))),
    State.laneState_laneLeave apart (by decide) 1, State.laneCause_laneLeave apart _ (by decide)⟩

theorem exec_laneFaultRetry (h : s.laneState j = hlkFault) (hc : s.fld .HLK_STATUS_cause j = 4 ∨ s.fld .HLK_STATUS_cause j = 7) :
    ∃ t : State, exec (.laneFaultRetry j) s = .next t ∧ t.laneState j = hlkLocking := by
  have apart : ∀ n, (s.reach n).laneState j ≠ hlkAligned := fun n => by
    rw [show (s.reach n).laneState j = hlkFault from h]
    decide
  exact ⟨_, congrArg Host.Outcome.next (if_pos ⟨h, hc⟩), State.laneState_laneLeave (apart _) (by decide) _⟩

/-- Entering CALIBRATING asks the head for its four registers. -/
theorem State.startCalib_spec (h : (s.lane j).out = []) : (s.startCalib j).laneState j = hlkCalibrating ∧
    ((s.startCalib j).lane j).out.map (fun m => (m.write, m.addr)) = [(false, 0x0), (false, 0x4), (false, 0x8), (false, 0xC)] := by
  have kept : (s.setLaneState j hlkCalibrating (s.fld .HLK_STATUS_cause j)).lane j = s.lane j := by
    unfold State.lane
    rw [State.setLaneState_hlk]
  unfold State.startCalib
  constructor
  · refine (State.fld_congr (State.sendReads_regs ..) _ _).trans ((s.laneState_setLaneState j j _ _).trans ?_)
    rw [if_pos rfl]
    rfl
  · rw [State.sendReads_out _ _ _ (by rw [State.lane_updLane_same, kept, h]; simp), State.lane_updLane_same, kept, h]
    rfl

theorem exec_frameLock (h : s.laneState j = hlkLocking) (hg : 8 ≤ (s.lane j).good) :
    exec (.frameLock j) s = .next (s.startCalib j) := congrArg Host.Outcome.next (if_pos ⟨h, hg⟩)

/-- In CALIBRATING, with registers still to be read, the round trips are only recorded (R343). -/
theorem exec_laneRecalculate_early {rtts : List Nat} (hr : rtts.length = 1024) (h : s.laneState j = hlkCalibrating)
    (hd : (s.lane j).readsDone = false) : ∃ t : State, exec (.laneRecalculate j rtts) s = .next t ∧ t.fld .HLK_RTT_rtt_valid j = 1 := by
  have locked := State.laneLocked_calibrating h
  have state : ∀ n : Nat, ((s.setFld .HLK_RTT_rtt j n).setFlag .HLK_RTT_rtt_valid j true).laneState j = hlkCalibrating := fun n =>
    (State.fld_setFlag ..).trans ((if_neg (by simp)).trans ((State.fld_setFld_ne s n (by simp)).trans h))
  refine ⟨(s.setFld .HLK_RTT_rtt j (roundDiv ((rtts.foldl (· + ·) 0 : Nat) : Int) 1024).toNat).setFlag .HLK_RTT_rtt_valid j true,
    congrArg Host.Outcome.next ?_, State.fld_setFlag_same _ _ _ _ rfl⟩
  rw [if_neg (by simp [hr, locked])]
  dsimp only
  rw [if_neg (by rw [state]; decide), if_neg]
  rintro ⟨hread, -⟩
  exact Bool.false_ne_true (hd.symm.trans hread)

/-! What a head answers (R341, R349). -/

theorem length_updFirst {α : Type} (p : α → Bool) (f : α → α) (l : List α) : (updFirst p f l).length = l.length := by
  simpa using congrArg List.length (map_updFirst (g := fun _ : α => ()) (fun _ => rfl) (f := f) p l)

/-- The state in which an outstanding message has been sent once more. -/
def State.ctlAgain (s : State) (j tag : Nat) : State :=
  s.updLane j (fun l => { l with
    out := updFirst (fun x => x.tag == tag) (fun x => { x with repeats := x.repeats + 1, sentAt := s.tick }) l.out
    toSend := l.toSend ++ [tag] })

theorem State.lane_ctlAgain (s : State) (j tag : Nat) : ((s.ctlAgain j tag).lane j).toSend = (s.lane j).toSend ++ [tag] ∧
    ((s.ctlAgain j tag).lane j).out.length = (s.lane j).out.length := by
  unfold State.ctlAgain
  rw [State.lane_updLane_same]
  exact ⟨rfl, length_updFirst ..⟩

section
variable {tag : Nat} {m : CtlMsg} {c : Cmd} {op : Nat} (hm : s.ctlMsg j tag = some m) (hwhy : m.why = .host c op)
include hm hwhy

theorem exec_readRsp_host (hw : m.write = false) (a d : Nat) : exec (.readRsp j tag a d) s
    = .next ((s.setLane j ((s.lane j).answered tag s.tick)).completeCmd c op ⟨.ok, le 4 d⟩) := by
  show Host.Outcome.next (s.takeReadRsp j tag d) = _
  unfold State.takeReadRsp
  rw [hm]
  dsimp only
  rw [if_neg (by simp [hw]), hwhy]
  rfl

theorem exec_writeAck_host (hw : m.write = true) (a : Nat) : exec (.writeAck j tag a) s
    = .next ((s.setLane j ((s.lane j).answered tag s.tick)).completeCmd c op (rsp .ok)) := by
  show Host.Outcome.next (s.takeWriteAck j tag) = _
  unfold State.takeWriteAck
  rw [hm]
  dsimp only
  rw [if_neg (by simp [hw]), hwhy]
  rfl

theorem exec_nak_host (d : Nat) : exec (.nak j tag d) s
    = .next ((s.setLane j ((s.lane j).answered tag s.tick)).completeCmd c op ⟨.fault, [byte d]⟩) := by
  show Host.Outcome.next (s.takeNak j tag d) = _
  unfold State.takeNak
  rw [hm]
  dsimp only
  rw [hwhy]
  rfl

/-- A message without an answer is repeated up to three times. -/
theorem exec_controlRepeat_again (h3 : m.repeats < 3) :
    exec (.controlRepeat j tag) s = .next ((s.reach (m.sentAt + 1280)).ctlAgain j tag) := by
  have notCoupling : ¬m.why.isCoupling = true := by rw [hwhy]; exact Bool.false_ne_true
  refine congrArg Host.Outcome.next ?_
  rw [hm]
  dsimp only
  rw [if_neg notCoupling, if_pos h3]
  rfl
end

/-- A coupling mode that stays unanswered counts as refused (R114, R349). -/
theorem exec_couplingTimeout {ch mode : Nat} (hout : (s.lane (headOf ch)).out.any (fun x => x.why == .coupling ch) = true)
    (hm : (s.chan ch).cplMode = some mode) : ∃ t : State, exec (.couplingTimeout ch) s = .next t ∧
      t.fld .CHN_STATUS_coupling_pending ch = 0 ∧ t.grid.changes = s.grid.changes ++ [.state ch chFault 2] := by
  have failed : ∀ u : State, u.chans = s.chans → (u.couplingFailed ch).fld .CHN_STATUS_coupling_pending ch = 0 ∧
      (u.couplingFailed ch).grid.changes = u.grid.changes ++ [.state ch chFault 2] := fun u hu => by
    have mode : (u.chan ch).cplMode = some mode := by
      unfold State.chan
      rw [hu]
      exact hm
    unfold State.couplingFailed
    rw [mode]
    exact ⟨State.fld_setFlag_same u _ ch false rfl, rfl⟩
  have here : ((s.lane (headOf ch)).out.any (fun x => x.why == .coupling ch) ||
      (s.lane (headOf ch)).queue.any (fun x => x.why == .coupling ch)) = true := by simp [hout]
  exact ⟨_, congrArg Host.Outcome.next (if_pos here), failed _ rfl⟩

/-! The alignment delay (R344). -/

theorem State.fixAlign_a (s : State) (a : Nat) : (s.fixAlign a).grid.a = a := by
  unfold State.fixAlign forAll
  exact List.foldlRecOn (motive := fun t : State => t.grid.a = a) _ _ rfl fun t ht _ _ => ht

theorem State.fixAlign_valid (s : State) (a : Nat) : (s.fixAlign a).fld .HLK_ALIGN_a_valid 0 = 1 := by
  unfold State.fixAlign forAll
  rw [show List.range 8 = [0, 1, 2, 3, 4, 5, 6, 7] from rfl]
  simp [State.fld_setFlag, State.fld_setFld, b2n]
  decide

theorem le_foldl_max {l : List Nat} {n : Nat} (h : n ∈ l) (a : Nat) : n ≤ l.foldl max a := by
  rw [List.foldl_max, List.max?_eq_some_max (List.ne_nil_of_mem h)]
  exact (List.le_max_of_mem h).trans (Nat.le_max_right ..)

/-- With every used lane ALIGNED, A is the greatest of their delays. -/
theorem exec_alignmentDelayFix (hs : s.isSealed = true) (hv : s.fld .HLK_ALIGN_a_valid 0 = 0)
    (hne : (List.range 8).filter s.laneUsed ≠ []) (hal : ∀ j < 8, s.laneUsed j = true → s.laneState j = hlkAligned) :
    exec .alignmentDelayFix s = .next (s.fixAlign
      ((((List.range 8).filter s.laneUsed).map (fun j => s.fld .HLK_DELAY_u_cal j)).foldl max 0)) := by
  have up : ((List.range 8).filter s.laneUsed).filter s.laneAligned = (List.range 8).filter s.laneUsed := by
    refine List.filter_eq_self.mpr fun j hj => ?_
    obtain ⟨hlt, hu⟩ := List.mem_filter.mp hj
    exact beq_iff_eq.mpr (hal j (List.mem_range.mp hlt) hu)
  show execAlignmentDelayFix s = _
  unfold execAlignmentDelayFix
  dsimp only
  rw [up, if_neg (by simpa [hs, State.flag, hv] using hne), if_neg hne]

/-! Upstream frames in LOCKING (R336, R355). -/

theorem State.sendIdle_kept (s : State) (j : Nat) : (s.sendIdle j).regs = s.regs ∧ ((s.sendIdle j).lane j).bad = (s.lane j).bad := by
  unfold State.sendIdle
  split
  · exact ⟨rfl, rfl⟩
  · unfold State.openDown
    exact ⟨rfl, by rw [State.lane_updLane_same]⟩

theorem State.waveLane_down (h : s.laneAligned j = false) : s.waveLane j = s := by
  have idle : ∀ cs : List Nat, cs.foldl (fun s ch =>
      let r := (s.chan ch).rx
      let e := r.start + r.xs.length
      if s.castRecords ch ∧ s.laneAligned j then (List.range 10).foldl (fun s i => s.waveMean ch (e - 10 + i)) s else s) s = s :=
    List.foldl_fixed' fun ch => if_neg (by simp [h])
  exact idle _

theorem State.laneBad_down (h : s.laneState j ≠ hlkAligned) : s.laneBad j = s := if_neg h

theorem State.laneState_sendIdle (s : State) (j : Nat) : (s.sendIdle j).laneState j = s.laneState j :=
  State.fld_congr (s.sendIdle_kept j).1 ..

/-- What a lane in LOCKING makes of a frame: a run of good or bad frames goes on. -/
def State.frameCounted (s : State) (j : Nat) (fc : Option Nat) : State := (s.sendIdle j).updLane j (fun l => l.count fc)

theorem State.frameCounted_regs (s : State) (j : Nat) (fc : Option Nat) : (s.frameCounted j fc).regs = s.regs := (s.sendIdle_kept j).1

theorem State.frameCounted_bad (s : State) (j : Nat) : ((s.frameCounted j none).lane j).bad = (s.lane j).bad + 1 := by
  unfold State.frameCounted
  rw [State.lane_updLane_same]
  exact congrArg (· + 1) (s.sendIdle_kept j).2

theorem State.frameCounted_good (s : State) (j n : Nat) : ((s.frameCounted j (some n)).lane j).bad = 0 := by
  unfold State.frameCounted
  rw [State.lane_updLane_same]
  rfl

section
variable (hj : j ≤ 7) (h : s.laneState j = hlkLocking)
include h

theorem State.frameCounted_state (fc : Option Nat) : (s.frameCounted j fc).laneState j = hlkLocking :=
  (State.fld_congr (s.frameCounted_regs j fc) ..).trans h

/-- A bad frame brings a lane in LOCKING nothing else. -/
theorem State.frameCounted_passes : ((s.frameCounted j none).laneBad j).waveLane j = s.frameCounted j none := by
  have state := State.frameCounted_state h none
  rw [State.laneBad_down (by rw [state]; decide),
    State.waveLane_down (by unfold State.laneAligned; rw [show (s.frameCounted j none).fld .HLK_STATUS_state j = 2 from state]; rfl)]

include hj

theorem exec_upstreamFrame_undecoded {b : BitVec 5600} (hd : laneDecode (bitsMsb 5600 b.toNat) = none) :
    exec (.upstreamFrame j b) s = .next (s.frameCounted j none) := by
  refine congrArg Host.Outcome.next ?_
  rw [if_neg (by rw [h]; simp [hlkLocking, hlkOff, hlkDown]; omega), hd]
  dsimp only
  rw [State.laneState_sendIdle, h, if_neg (by decide)]
  exact State.frameCounted_passes h

theorem exec_upstreamFrame_decoded {b : BitVec 5600} {p : List Bool} {n : Nat} (hd : laneDecode (bitsMsb 5600 b.toNat) = some (p, n)) :
    exec (.upstreamFrame j b) s
      = .next (s.frameCounted j (if pf p 0 24 = 0xC29E5B then some (pf p 24 40) else none)) := by
  refine congrArg Host.Outcome.next ?_
  rw [if_neg (by rw [h]; simp [hlkLocking, hlkOff, hlkDown]; omega), hd]
  dsimp only
  rw [State.laneState_sendIdle, h, if_neg (show ¬(hlkLocking != hlkLocking) = true by decide)]
  by_cases hp : pf p 0 24 = 0xC29E5B
  · rw [if_pos hp, if_pos hp]
    refine if_neg ?_
    unfold State.laneLocked
    rw [show ((s.sendIdle j).updLane j (fun l => l.count (some (pf p 24 40)))).laneState j = hlkLocking
      from State.frameCounted_state h _]
    decide
  · rw [if_neg hp, if_neg hp]
    exact State.frameCounted_passes h
end

/-! The commands of a lane (R358). -/

section
variable {c : Cmd} (ht : s.Takes c) (hj : j ≤ 7) (hp : c.pnl = 0)

theorem hlkCmd_passes (hj : j ≤ 7) {p : Nat} (hp : p = 0) (k : State × Option Resp) : hlkCmd s p j k = k :=
  (if_neg (Nat.not_lt.mpr hj)).trans (if_neg (not_not_intro hp))

include ht hj hp

theorem exec_hlkQuery : exec (.hlkQuery c j) s = .next (s.answer c 0x0801 ⟨.ok, (s.hlkWords j).flatMap (le 4)⟩) :=
  ohi_answers ht (hlkCmd_passes hj hp _)

/-- A command that waits for the head's answer is remembered, its message sent. -/
theorem exec_hlkHeadRead (ha : s.laneState j = hlkAligned) (a : Nat) : exec (.hlkHeadRead c j a) s
    = .next (let t := s.sendCtl j false a 0 (.host c 0x0802)
      { t with mgmt := { t.mgmt with deferred := t.mgmt.deferred ++ [⟨0x0802, c, 0, s.inBand c.pnl⟩] } }) := by
  refine congrArg Host.Outcome.next ?_
  have op : opHlkHeadRead c j a s = (s.sendCtl j false a 0 (.host c 0x0802), none) :=
    (hlkCmd_passes hj hp _).trans (if_pos (.inl ha))
  rw [op, ohi_deferred ht]

theorem exec_hlkHeadWrite (ha : s.laneState j = hlkAligned) (he : s.expertOk 0 = true) {a : Nat} (hown : 0x8000 ≤ a) (d : Nat) :
    exec (.hlkHeadWrite c j a d) s = .next (let t := s.sendCtl j true a d (.host c 0x0803)
      { t with mgmt := { t.mgmt with deferred := t.mgmt.deferred ++ [⟨0x0803, c, 0, s.inBand c.pnl⟩] } }) := by
  refine congrArg Host.Outcome.next ?_
  have allowed : ¬(s.expertOk c.pnl = false ∨ a < 0x8000) := by
    rw [hp, he]
    simp [hown]
  have op : opHlkHeadWrite c j a d s = (s.sendCtl j true a d (.host c 0x0803), none) :=
    (hlkCmd_passes hj hp _).trans ((if_neg allowed).trans (if_pos ha))
  rw [op, ohi_deferred ht]

theorem exec_hlkRealign_fault (hf : s.laneState j = hlkFault) : exec (.hlkRealign c j) s
    = .next ((s.laneLeave j hlkLocking (s.fld .HLK_STATUS_cause j)).answer c 0x0804 (rsp .ok)) :=
  ohi_answers ht ((hlkCmd_passes hj hp _).trans ((if_neg (by rw [hf]; decide)).trans (if_pos hf)))
end

end Sys2Proof.Machine
end

section
/-! SUPPORT. Gauge (R359 to R374, R388): intake, a chain's output, excitation, checks and the commands of a channel that is IDLE. -/

namespace Sys2Proof.Machine

variable {s : State} {ch : Nat}

@[simp] theorem State.gauge_setGauge_same (s : State) (ch : Nat) (g : GauCh) : (s.setGauge ch g).gauge ch = g := tget_tput_same ..

@[simp] theorem State.gauge_updGauge_same (s : State) (ch : Nat) (f : GauCh → GauCh) : (s.updGauge ch f).gauge ch = f (s.gauge ch) :=
  tget_tput_same ..

@[simp] theorem State.gauge_setFlag (s : State) (F : Fld) (i : Nat) (b : Bool) (ch : Nat) : (s.setFlag F i b).gauge ch = s.gauge ch := rfl

/-! Intake (R359 to R362). -/

/-- What the intake of a channel holds: the periods it is to take next, the last inputs and the samples that wait. -/
def GauCh.intake (g : GauCh) : List (Option Nat) × List GaugeIn × List (Nat × Nat × GaugeIn) := (g.next, g.prev, g.wait)

theorem State.intake_applySwitches (s : State) (ch p : Nat) : ((s.applySwitches ch p).gauge ch).intake = (s.gauge ch).intake := by
  unfold State.applySwitches
  dsimp only
  split
  · rw [State.gauge_setFlag, State.gauge_setGauge_same]
    rfl
  · rfl

theorem State.intake_chainIn (s : State) (ch path p : Nat) (x : GaugeIn) :
    ((s.chainIn ch path p x).gauge ch).intake = (s.gauge ch).intake := by
  have switched : ((if path = 0 then s.applySwitches ch p else s).gauge ch).intake = (s.gauge ch).intake := by
    split
    · exact s.intake_applySwitches ch p
    · rfl
  unfold State.chainIn
  dsimp only
  split
  · rw [State.gauge_setGauge_same]
    exact switched
  · rw [State.gauge_setGauge_same]
    exact switched

theorem State.intake_rcStage (s : State) (ch path p : Nat) (x : GaugeIn) :
    ((s.rcStage ch path p x).gauge ch).intake = (s.gauge ch).intake := by
  have stored : ∀ (d : List (List GaugeIn)) (l : List GaugeIn),
      ((s.setGauge ch { s.gauge ch with delay := d, lastOut := l }).gauge ch).intake = (s.gauge ch).intake := fun d l => by
    rw [State.gauge_setGauge_same]
    rfl
  unfold State.rcStage
  dsimp only
  split
  · split
    · exact stored _ (s.gauge ch).lastOut
    · exact (State.intake_chainIn ..).trans (stored _ _)
  · refine (State.intake_chainIn ..).trans ?_
    exact List.foldlRecOn (motive := fun t : State => (t.gauge ch).intake = (s.gauge ch).intake) _ _ (stored _ _)
      fun t ht _ _ => (State.intake_chainIn ..).trans ht

/-- An input taken: its path is to take the next period, and holds the input with its flags, `blk` besides where it is blanked. -/
theorem State.takeInput_intake (s : State) (ch path p : Nat) (x : GaugeIn) : ∃ y : GaugeIn, (∀ f ≠ fBlk, bit y.flags f = bit x.flags f) ∧
    ((s.takeInput ch path p x).gauge ch).intake
      = ((s.gauge ch).next.set path (some (p + 1)), (s.gauge ch).prev.set path y, (s.gauge ch).wait) := by
  refine ⟨if s.gaugeBlanked ch p then { x with x := ((s.gauge ch).prev.getD path {}).x, flags := setBit x.flags fBlk true } else x,
    fun f hf => ?_, (State.intake_rcStage ..).trans (congrArg GauCh.intake (State.gauge_setGauge_same ..))⟩
  split
  · exact (bit_setBit x.flags fBlk f true).trans (if_neg hf)
  · rfl

/-- With no sample waiting, nothing more is taken. -/
theorem State.drainInputs_none (h : (s.gauge ch).wait = []) (fuel path : Nat) : s.drainInputs fuel ch path = s := by
  cases fuel with
  | zero => rfl
  | succ fuel =>
    unfold State.drainInputs
    dsimp only
    rw [h]
    cases (s.gauge ch).next.getD path none <;> rfl

/-- A sample that did not come is the previous input again, flagged `gap`. -/
theorem exec_gaugeSampleDeadline {path p : Nat} (hpath : path ≤ 1) (hn : (s.gauge ch).next.getD path none = some p)
    (hw : (s.gauge ch).wait = []) (hl : (s.gauge ch).prev.length = 2) (hg : s.fld .GAU_CH_STATUS_no_gauge ch = 0) : ∃ t : State,
    exec (.gaugeSampleDeadline ch path p) s = .next t ∧ (t.gauge ch).next.getD path none = some (p + 1) ∧
      bit ((t.gauge ch).prev.getD path {}).flags fGap = true := by
  obtain ⟨y, hy, hin⟩ := ((s.reach (128 * p + 170)).bump .GAU_CH_CNT_gap_cnt ch).takeInput_intake ch path p
    ⟨((s.gauge ch).prev.getD path {}).x, 2⟩
  obtain ⟨hnext, hprev, hwait⟩ : _ ∧ _ ∧ _ := ⟨congrArg (·.1) hin, congrArg (·.2.1) hin, congrArg (·.2.2) hin⟩
  have inNext : path < (s.gauge ch).next.length := by
    by_contra h
    rw [List.getD_eq_default _ _ (Nat.not_lt.mp h)] at hn
    exact absurd hn (by simp)
  have inPrev : path < (s.gauge ch).prev.length := by omega
  have due : ¬(1 < path ∨ (s.gauge ch).next.getD path none ≠ some p ∨ s.flag .GAU_CH_STATUS_no_gauge ch = true) := by
    rw [hn, State.flag, hg]
    simp [hpath]
  refine ⟨_, congrArg Host.Outcome.next ((if_neg due).trans (State.drainInputs_none (hwait.trans hw) 32 path)), ?_, ?_⟩
  · refine (congrArg (·.getD path none) hnext).trans ?_
    exact (List.getD_eq_getElem _ _ (by rw [List.length_set]; exact inNext)).trans (List.getElem_set_self _)
  · refine (congrArg (fun l : List GaugeIn => bit (l.getD path {}).flags fGap) hprev).trans ?_
    have held : ((s.gauge ch).prev.set path y).getD path {} = y :=
      (List.getD_eq_getElem _ _ (by rw [List.length_set]; exact inPrev)).trans (List.getElem_set_self _)
    exact (congrArg (fun z : GaugeIn => bit z.flags fGap) held).trans ((hy fGap (by decide)).trans (show bit 2 fGap = true by decide))

/-! A chain's output (R363). -/

theorem Chain.output_ready {c : Chain} {w fl p : Nat} {rest : List (Nat × Nat × Nat)} (h : c.ready = (w, fl, p) :: rest) (N D M : Nat) :
    ∃ c', c.output N D M = some c' ∧ c'.ready = rest ∧ c'.outN = c.outN + 1 := by
  unfold Chain.output
  rw [h]
  exact ⟨_, rfl, rfl, rfl⟩

/-- An output of chain I whose pair of chain Q has not come. -/
theorem exec_chainOutput_alone {w fl p : Nat} {rest : List (Nat × Nat × Nat)} (h : (s.gauge ch).chainI.ready = (w, fl, p) :: rest)
    (hq : (s.gauge ch).chainI.outN + 1 ≠ (s.gauge ch).chainQ.outN) : ∃ t : State, exec (.chainOutput ch 0) s = .next t ∧
      (t.gauge ch).chainI.ready = rest := by
  obtain ⟨c, hc, hready, hout⟩ := Chain.output_ready h (s.gauge ch).item.nIq (s.gauge ch).item.dIq (s.gauge ch).item.mIq
  refine ⟨s.setGauge ch { s.gauge ch with chainI := c }, congrArg Host.Outcome.next ?_, ?_⟩
  · dsimp only
    rw [hc]
    exact if_neg (by rwa [hout])
  · rw [State.gauge_setGauge_same]
    exact hready

/-! Excitation and checks (R366 to R374). -/

theorem State.fld_switchNco {F : Fld} (h : F ≠ .GAU_CH_STATUS_z_valid) (s : State) (ch who phase ftw amp i : Nat) :
    (s.switchNco ch who phase ftw amp).fld F i = s.fld F i := State.fld_setFld_ne _ _ fun e => h e.1

theorem State.gState_gaugeExcite (s : State) (ch : Nat) : (s.gaugeExcite ch).gState ch = gExciting :=
  (State.fld_switchNco (by decide) ..).trans (State.fld_setFld_same ..)

theorem State.gauge_gaugeExcite (s : State) (ch : Nat) : ((s.gaugeExcite ch).gauge ch).excDue = (s.gauge ch).excDue := by
  unfold State.gaugeExcite State.switchNco
  dsimp only
  rw [State.gauge_setFlag, State.gauge_updGauge_same]
  rfl

/-- From IDLE a channel starts its excitation where that is due. -/
theorem State.gaugeUpdate_idle (h : s.gState ch = gIdle) : s.gaugeUpdate ch = if s.excDue ch then s.gaugeExcite ch else s := by
  unfold State.gaugeUpdate
  rw [h]
  rfl

/-- The state in which the excitation is due since a tick. -/
def State.excOpened (s : State) (ch t : Nat) : State :=
  (s.reach t).updGauge ch (fun g => { g with excDue := true, excFrom := t })

theorem State.gauge_excOpened (s : State) (ch t : Nat) :
    (s.excOpened ch t).gauge ch = { s.gauge ch with excDue := true, excFrom := t } := State.gauge_updGauge_same ..

theorem State.excDue_excOpened (hon : s.flag .GAU_CH_CFG_exc_on ch = true) (hal : s.laneAligned (headOf ch) = true) (t : Nat) :
    (s.excOpened ch t).excDue ch = true := by
  unfold State.excDue
  rw [State.gauge_excOpened, show (s.excOpened ch t).flag .GAU_CH_CFG_exc_on ch = true from hon,
    show (s.excOpened ch t).laneAligned (headOf ch) = true from hal]
  simp

theorem exec_excitationInterval_start (hf : (s.gauge ch).item.flag 1 = true) (hd : (s.gauge ch).excDue = false) (hi : s.gState ch = gIdle)
    (hon : s.flag .GAU_CH_CFG_exc_on ch = true) (hal : s.laneAligned (headOf ch) = true) :
    exec (.excitationInterval ch true) s = .next ((s.excOpened ch (s.excStart ch)).gaugeExcite ch) := by
  refine congrArg Host.Outcome.next ?_
  rw [if_neg (by simp [hf, hd])]
  simp only [if_true]
  have idle : (s.excOpened ch (s.excStart ch)).gState ch = gIdle := hi
  exact (State.gaugeUpdate_idle idle).trans (if_pos (State.excDue_excOpened hon hal _))

theorem State.gauge_excBegun (s : State) (ch t : Nat) : (((s.excOpened ch t).gaugeExcite ch).gauge ch).excDue = true := by
  rw [State.gauge_gaugeExcite, State.gauge_excOpened]

theorem State.gState_startCheck (s : State) (ch : Nat) (cal : Bool) : (s.startCheck ch cal).gState ch = gChecking := by
  unfold State.startCheck
  refine (State.fld_switchNco (by decide) ..).trans ?_
  exact State.fld_setFld_same s _ ch gChecking

theorem exec_checkDue_idle (hc : (s.gauge ch).item.chkInterval ≠ 0) (hal : s.laneAligned (headOf ch) = true)
    (hg : s.flag .GAU_CH_STATUS_no_gauge ch = false) (hi : s.gState ch = gIdle) :
    ∃ t : State, exec (.checkDue ch) s = .next t ∧ t.gState ch = gChecking := by
  refine ⟨_, congrArg Host.Outcome.next ((if_neg ?_).trans ((if_neg ?_).trans (if_pos hi))), State.gState_startCheck ..⟩
  · simp [hc, hal, hg]
  · exact fun h => absurd (hi.symm.trans h) (by decide)

/-! The commands (R388). -/

section
variable {c : Cmd} (ht : s.Takes c) (hch : ch ≤ 191) (hm : s.mayName c.pnl ch = true) (hal : s.laneAligned (headOf ch) = true)
  (hg : s.flag .GAU_CH_STATUS_no_gauge ch = false)

include hch hm hal hg in
theorem gauCmd_passes (k : State × Option Resp) : gauCmd s c.pnl ch k = k :=
  (if_neg (Nat.not_lt.mpr hch)).trans ((if_neg (by simp [hm])).trans (if_neg (by simp [hal, hg])))

include ht hch hm hal hg

theorem exec_gauQuery : exec (.gauQuery c ch) s = .next (s.answer c 0x3801 ⟨.ok, le 4 (s.gauStatusWord ch)
    ++ le 4 (s.fld .GAU_CH_Z_z (2 * ch)) ++ le 4 (s.fld .GAU_CH_Z_z (2 * ch + 1))⟩) := by
  have words (a b d : Nat) : [a, b, d].flatMap (le 4) = le 4 a ++ le 4 b ++ le 4 d := by simp
  rw [← words]
  exact ohi_answers ht (gauCmd_passes hch hm hal hg _)

variable (hi : s.gState ch = gIdle)
include hi

theorem exec_gauCheck_idle : exec (.gauCheck c ch) s = .next ((s.startCheck ch false).answer c 0x3802 (rsp .ok)) :=
  ohi_answers ht ((gauCmd_passes hch hm hal hg _).trans ((if_neg (by rw [hi]; decide)).trans (if_neg (by rw [hi]; decide))))

theorem exec_gauCalibrate_idle : exec (.gauCalibrate c ch []) s = .next ((s.startCheck ch true).answer c 0x3803 (rsp .ok)) :=
  ohi_answers ht ((gauCmd_passes hch hm hal hg _).trans ((if_neg (by rw [hi]; decide)).trans (if_neg (by rw [hi]; decide))))

theorem exec_gauExcite_idle {v : Nat} (hv : v ≤ 1) : ∃ t : State,
    exec (.gauExcite c ch [v]) s = .next (t.answer c 0x3804 (rsp .ok)) ∧ t.fld .GAU_CH_CFG_exc_on ch = v := by
  have written : (s.setFld .GAU_CH_CFG_exc_on ch v).fld .GAU_CH_CFG_exc_on ch = v :=
    (State.fld_setFld_same ..).trans (Nat.mod_eq_of_lt (Nat.lt_succ_of_le hv))
  have idle : (s.setFld .GAU_CH_CFG_exc_on ch v).gState ch = gIdle := (State.fld_setFld_ne s v (by simp)).trans hi
  refine ⟨_, ohi_answers ht ((if_neg ?_).trans ((gauCmd_passes hch hm hal hg _).trans (if_neg (by rw [hi]; decide)))), ?_⟩
  · simp [hv]
  · rw [List.headD_cons, State.gaugeUpdate_idle idle]
    split
    · unfold State.gaugeExcite
      exact (State.fld_switchNco (by decide) ..).trans ((State.fld_setFld_ne _ gExciting (by simp)).trans written)
    · exact written
end

end Sys2Proof.Machine
end

section
/-! SUPPORT. The rows of the host side, time, lanes, Gauge and Cast together. -/

namespace Sys2Proof.Machine

variable {s : State}

/-- A forwarded Sync: with no timebase at the port it goes out and nothing else happens (R315). -/
theorem exec_sync_forwarded {p q tIn : Nat} {m : PtpMsg} {d : Int} (hv : m.ver = 2) (ht : m.typ = 0) (hd : (s.pd p).d = some d) (hp : p < 2)
    (htc : s.tcPort p = true) (htbs : s.ptpTbs p = []) (hq : s.tcPorts.filter (· != p) = [q]) (hfwd : s.tim.fwd = []) :
    exec (.sync p m tIn false) s
      = .next (s.forwardedTo q m (if m.twoStep then .hold else .residence) (s.ingressNs p tIn) d) :=
  (exec_sync hv ht hd (State.ptpForward_single hp htc hq hfwd m _ _ d)).trans
    (congrArg (fun l => Host.Outcome.next (List.foldl _ _ l)) htbs)

theorem exec_followUp_forwarded {p q tIn : Nat} {m : PtpMsg} (hv : m.ver = 2) (ht : m.typ = 8) (hp : p < 2)
    (htc : s.tcPort p = true) (htbs : s.ptpTbs p = []) (hq : s.tcPorts.filter (· != p) = [q]) (hfwd : s.tim.fwd = []) :
    exec (.followUp p m tIn false) s = .next (s.forwardedTo q m .addHeld (s.ingressNs p tIn) 0) :=
  (exec_followUp hv ht (State.ptpForward_single hp htc hq hfwd m _ _ 0) false).trans
    (congrArg (fun l => Host.Outcome.next (List.foldl _ _ l)) htbs)

theorem exec_announce_forwarded {p q tIn : Nat} {m : PtpMsg} (hv : m.ver = 2) (ht : m.typ = 0xB) (hp : p < 2)
    (htc : s.tcPort p = true) (htbs : s.ptpTbs p = []) (hq : s.tcPorts.filter (· != p) = [q]) (hfwd : s.tim.fwd = []) :
    exec (.announce p m tIn false) s = .next ((s.forwardedTo q m .plain (s.ingressNs p tIn) 0).storeUtc m) :=
  (exec_announce hv ht (State.ptpForward_single hp htc hq hfwd m _ _ 0) false).trans
    (congrArg (fun l => Host.Outcome.next (List.foldl _ _ l)) htbs)

/-- Settles O59: each row as the operation it is, by the lemmas of its chapter, then what that operation leaves. -/
theorem hostTimeLaneAndGaugeRowsComplete : Obligations.HostTimeLaneAndGaugeRowsComplete := by
  unfold Obligations.HostTimeLaneAndGaugeRowsComplete
  obtain ⟨-, -, -, -, peerMessages, pdelayInterval, heldExpiry, -⟩ := ptpMessagesAreForwardedAndAnswered
  obtain ⟨-, lossTimeout, -, ppsIn, -, ppsOut, todLine, timCommands⟩ := timebasesFollowTheirOffsets
  obtain ⟨blankEdge, blankEnd, armEnd, -, arrival, deadEnd, collected, exported, srgCommands⟩ := castRecordsArrivalsAndRegions
  refine ⟨?ageDrop, ?handover, ?hostFrame, ?arp, fun _ _ _ => rfl, fun s h hl => exec_prpSupervisionSend h hl,
    fun s port hp hm hf up => exec_hostLinkChange hp hm hf up, ?egress, ?launch, ?forward, ?peer, ?held, ?ppsIn, ?loss, ?slew, ?ppsOut,
    ?tod, ?tim, ?upstream, ?lanes, ?answers, fun _ _ _ => rfl, fun s ch m hout hm => exec_couplingTimeout hout hm, ?align, ?hlk,
    fun s ch path p hpath hn hw hl hg => exec_gaugeSampleDeadline hpath hn hw hl hg,
    fun s ch w fl p rest h hq => exec_chainOutput_alone h hq, ?excite,
    fun s ch hc hal hg hi => exec_checkDue_idle hc hal hg hi, ?gauge, ?blank, ?blankEnd, ?arm, ?arrival, ?dead, ?collected, ?exported,
    ?srg⟩
  case ageDrop =>
    intro s p q m hq hm
    exact ⟨_, exec_qAgeDrop hq hm, State.dequeue_queues _ m⟩
  case handover =>
    intro s p q k m c hp hq hi hc hk hbad hden hright hlaunch hcredit hprot
    have run : exec c s = .next (s.handoverIn p q m) := by
      rcases hc with ⟨rfl, rfl⟩ | ⟨rfl, rfl⟩
      · exact exec_send hp hq hi (by omega)
      · exact exec_flood hp hq hi (by omega)
    exact ⟨_, s.handed p q m, run, State.handoverIn_queues hbad hden hright hlaunch hcredit hprot, rfl, rfl,
      congrArg (· == 2) hk, rfl⟩
  case hostFrame =>
    intro s port tick f i hp hl hlo hhi het hmac hprp hv hmgmt hdata
    have taken := State.frameIn_taken (s := s.reach (tick / 16)) hlo hhi het hmac hprp port tick
    have handed := State.classify_handover (s := s.reach (tick / 16)) het hv hmgmt hdata port tick
    exact (exec_hostFrameRx hp hl f tick).trans (congrArg Host.Outcome.next (taken.trans handed))
  case arp =>
    intro s port vid f i hi hp het hop hip hprp
    obtain ⟨e, hexec, horder, hpanel, hports⟩ := exec_arpRequest hi hp het hop hip hprp
    exact ⟨_, e, hexec, rfl, horder, hpanel, hports⟩
  case egress =>
    intro s p f hp ho hl hms hout hf hd
    exact ⟨_, exec_ethernetEgress_sends hp ho hl hms hout hf hd, rfl, rfl⟩
  case launch =>
    intro s p tick l o h hl hdue
    obtain ⟨t, b, hexec, htick, hout, hsent⟩ := exec_launchTimeFrame_sent h hl hdue
    exact ⟨t, b, hexec, htick, hout, hsent⟩
  case forward =>
    intro s p q tIn m hv hp htc htbs hq hfwd sent
    have there : ∀ need : PtpNeed, (s.ptpForward p m need (s.ingressNs p tIn) 0).2 = s.forwardedTo q m need (s.ingressNs p tIn) 0 :=
      fun need => congrArg Prod.snd (State.ptpForward_single hp htc hq hfwd m need _ 0)
    refine ⟨fun d ht hd => ⟨_, exec_sync_forwarded hv ht hd hp htc htbs hq hfwd, rfl, rfl⟩,
      fun ht => ⟨_, exec_followUp_forwarded hv ht hp htc htbs hq hfwd, rfl, rfl⟩,
      fun ht => ⟨_, exec_announce_forwarded hv ht hp htc htbs hq hfwd, rfl, rfl⟩, fun ht => ?_, fun ht => ?_⟩
    · exact ⟨_, (exec_signaling hv ht s p tIn false).trans (congrArg _ (there .plain)), rfl, rfl⟩
    · exact ⟨_, (exec_management hv ht s p tIn false).trans (congrArg _ (there .plain)), rfl, rfl⟩
  case peer =>
    intro s p tIn m hv hp
    obtain ⟨-, -, responded, -, followed⟩ := peerMessages s p tIn m hv hp
    obtain ⟨t, o, hexec, hout, hport, -, htyp, -⟩ := (pdelayInterval s p).2 hp
    refine ⟨fun ht => ⟨_, _, exec_pdelayReq hv ht hp, rfl, rfl, State.typ_ptpMake _ _ (by decide) _ _ _ _, rfl⟩,
      fun ht hm htwo => ?_, fun t1 t2 ht hm h1 h2 hd => ?_, t, o, hexec, hout, hport, htyp⟩
    · obtain ⟨t, hexec, h2, h4, -⟩ := responded ht hm htwo
      exact ⟨t, hexec, h2, h4⟩
    · obtain ⟨t, hexec, -, hd⟩ := followed t1 t2 ht hm h1 h2 hd
      exact ⟨t, hexec, hd⟩
  case held =>
    intro s x l h
    obtain ⟨t, hexec, -, hheld, -⟩ := (heldExpiry s).2 x l h
    exact ⟨t, hexec, hheld⟩
  case ppsIn =>
    intro s x hno
    exact ⟨_, (ppsIn s x).1 hno, rfl, rfl⟩
  case loss =>
    intro s k hk hpairs hst
    obtain ⟨t, hexec, hstate, hqual, -⟩ := (lossTimeout s k).2 hk hpairs hst
    exact ⟨t, hexec, hstate, hqual⟩
  case slew =>
    intro s n p hp hphi hslew
    obtain ⟨t, hexec, -, hlast, hshown, hslewing, -⟩ := exec_slewEnd hp hphi hslew
    exact ⟨t, hexec, congrArg Anchor.phi hlast, hshown, hslewing⟩
  case ppsOut =>
    intro s tick hrole hturn
    obtain ⟨t, hexec, hedge, ⟨-, -, -, hvalid⟩, -⟩ := (ppsOut s tick).2 hrole hturn
    exact ⟨t, hexec, hedge, hvalid⟩
  case tod =>
    intro s sec q utc h
    exact ⟨_, todLine s sec q utc h, rfl, rfl⟩
  case tim =>
    intro s c k h hp hk hr
    obtain ⟨query, -, set, feed, select, at_⟩ := timCommands s c k h hp hk hr
    refine ⟨query, fun sec ns rate hrole hns hrate hpairs => ?_, fun off hrole => (feed off).trans ?_,
      fun w q hw hf hq hrole hm hsrc => ?_, fun n a ha hn => ⟨_, at_ n a ha hn⟩⟩
    · obtain ⟨t, hexec, hlast, -⟩ := set sec ns rate hrole hns hrate hpairs
      exact ⟨t, hexec, hlast⟩
    · rw [if_pos hrole]
    · obtain ⟨t, hexec, -, hsec⟩ := (select w q hw hf hq hrole).2 hm hsrc
      exact ⟨t, hexec, hsec⟩
  case upstream =>
    intro s j b hj h
    cases hd : laneDecode (bitsMsb 5600 b.toNat) with
    | none => exact ⟨_, exec_upstreamFrame_undecoded hj h hd, s.frameCounted_regs j none, s.frameCounted_bad j⟩
    | some e =>
      obtain ⟨p, n⟩ := e
      refine ⟨_, exec_upstreamFrame_decoded hj h hd, s.frameCounted_regs j _, ?_⟩
      dsimp only
      split
      · exact s.frameCounted_good j _
      · exact s.frameCounted_bad j
  case lanes =>
    intro s j
    exact ⟨exec_signalAndSymbolLock, fun h hg hout => ⟨_, exec_frameLock h hg, State.startCalib_spec hout⟩, exec_frameLockLost,
      exec_lossOfSignal, fun rtts hr h hd => exec_laneRecalculate_early hr h hd, exec_laneFaultRetry⟩
  case answers =>
    intro s j tag a d m c op hm hwhy u
    exact ⟨fun hw => exec_readRsp_host hm hwhy hw a d, fun hw => exec_writeAck_host hm hwhy hw a, exec_nak_host hm hwhy d,
      fun h3 => ⟨_, exec_controlRepeat_again hm hwhy h3, (s.reach _).lane_ctlAgain j tag⟩⟩
  case align =>
    intro s hs hv hne hal
    refine ⟨_, exec_alignmentDelayFix hs hv hne hal, fun j hj hu => ?_, State.fixAlign_valid ..⟩
    rw [State.fixAlign_a]
    refine le_foldl_max (List.mem_map_of_mem (List.mem_filter.mpr ⟨List.mem_range.mpr hj, hu⟩)) 0
  case hlk =>
    intro s c j a d ht hj hp
    have empty : (s.lane j).out = [] → (s.lane j).out.length < 16 := fun h => by simp [h]
    refine ⟨exec_hlkQuery ht hj hp, fun ha hout => ⟨⟨_, exec_hlkHeadRead ht hj hp ha a, ?_, ?_⟩,
      fun he hown => ⟨_, exec_hlkHeadWrite ht hj hp ha he hown d, ?_, ?_⟩⟩, fun hf => ⟨_, exec_hlkRealign_fault ht hj hp hf, ?_⟩⟩
    · exact (State.lane_sendCtl (empty hout) ..).1
    · rw [← hp]; rfl
    · exact (State.lane_sendCtl (empty hout) ..).1
    · rw [← hp]; rfl
    · exact State.laneState_laneLeave (by rw [hf]; decide) (by decide) _
  case excite =>
    intro s ch hf hd hi hon hal
    exact ⟨_, exec_excitationInterval_start hf hd hi hon hal, State.gState_gaugeExcite .., State.gauge_excBegun ..⟩
  case gauge =>
    intro s c ch ht hch hm hal hg
    exact ⟨exec_gauQuery ht hch hm hal hg, fun hi =>
      ⟨⟨_, exec_gauCheck_idle ht hch hm hal hg hi, State.gState_startCheck ..⟩,
        ⟨_, exec_gauCalibrate_idle ht hch hm hal hg hi, State.gState_startCheck ..⟩,
        fun v hv => exec_gauExcite_idle ht hch hm hal hg hi hv⟩⟩
  case blank =>
    intro s i tick up hk hi h harm hc
    obtain ⟨t, hexec, -, hpin, -⟩ := (blankEdge s i tick up hk hi).2 h harm hc
    exact ⟨t, hexec, hpin⟩
  case blankEnd =>
    intro s i hi h
    obtain ⟨t, hexec, hasserted, -⟩ := (blankEnd s i hi).2 h
    exact ⟨t, hexec, hasserted⟩
  case arm =>
    intro s ch h
    refine ⟨_, (armEnd s ch).2 h, ?_⟩
    unfold State.flag
    rw [State.fld_setFlag_same _ _ _ _ rfl]
    rfl
  case arrival =>
    intro s ch n d0 d1 hr hd h0 h1 hlo hhi hafter
    obtain ⟨t, a, hexec, -, -, -, hhead, -⟩ := arrival s ch n d0 d1 hr hd h0 h1 hlo hhi hafter
    exact ⟨t, hexec, hhead⟩
  case dead =>
    intro s ch
    obtain ⟨t, hexec, hdead, -⟩ := deadEnd s ch
    exact ⟨t, hexec, hdead⟩
  case collected =>
    intro s r hr h
    obtain ⟨t, hexec, -, hst, hshown, -⟩ := collected s r hr h
    exact ⟨t, hexec, hst, hshown⟩
  case exported =>
    intro s r ch t0 xs i hst hroom hch hpiece hi hprp
    obtain ⟨t, f, -, -, hexec, hq, horder, hpanel, hcls, -⟩ := (exported s r ch t0 xs i hst hroom).2 hch hpiece hi hprp
    exact ⟨t, f, hexec, hq, horder, hpanel, hcls⟩
  case srg =>
    intro s c r ht hp hf
    obtain ⟨-, owned, read⟩ := srgCommands s c r ht
    refine ⟨fun hr => ?_, read hp hf⟩
    obtain ⟨query, freeze, ship, release, -⟩ := owned hp hf hr
    refine ⟨query, fun hcoll hfree hl => ?_, fun cls mask hcls hm hst => ?_, fun hst => ?_⟩
    · obtain ⟨t, hexec, hst, -⟩ := freeze hcoll hfree hl
      exact ⟨t, hexec, hst⟩
    · obtain ⟨t, hexec, hregion, -⟩ := ship cls mask hcls hm hst
      exact ⟨t, hexec, congrArg Region.st hregion⟩
    · obtain ⟨t, hexec, hregion, -⟩ := release hst
      exact ⟨t, hexec, hregion⟩

end Sys2Proof.Machine
end

section
/-! SUPPORT. Lanes, the whole of their control channel and of an upstream frame short of ALIGNED (R336, R340, R341, R353, R358): a message
sent, a lane's messages lost, a message repeated or given up, the refusals of a lane's commands, and the runs a frame leaves. -/

namespace Sys2Proof.Machine

variable {s : State} {j : Nat}

/-! A message sent (R341). -/

theorem State.lane_updLane_ne (s : State) {j k : Nat} (h : k ≠ j) (f : Lane → Lane) : (s.updLane j f).lane k = s.lane k :=
  tget_tput_ne h ..

/-- What a lane holds once `m` is sent: while 16 messages are outstanding, `m` waits. -/
def Lane.sent (l : Lane) (m : CtlMsg) : Lane :=
  if l.out.length < 16 then { l with out := l.out ++ [m], nextTag := (l.nextTag + 1) % 256, toSend := l.toSend ++ [m.tag] }
  else { l with queue := l.queue ++ [m], nextTag := (l.nextTag + 1) % 256 }

theorem State.lane_sendCtl_eq (s : State) (j : Nat) (write : Bool) (addr data : Nat) (why : CtlWhy) :
    (s.sendCtl j write addr data why).lane j
      = (s.lane j).sent { tag := (s.lane j).nextTag, write := write, addr := addr, data := data, why := why, sentAt := s.tick } :=
  State.lane_updLane_same ..

theorem State.lane_sendCtl_ne (s : State) {j k : Nat} (h : k ≠ j) (write : Bool) (addr data : Nat) (why : CtlWhy) :
    (s.sendCtl j write addr data why).lane k = s.lane k := s.lane_updLane_ne h _

/-- A command that waits for the head: it is remembered, its message sent on its lane, and no register or other lane changes. -/
def State.Asked (s : State) (c : Cmd) (j : Nat) (m : CtlMsg) (op : Nat) (t : State) : Prop :=
  t.mgmt.deferred = s.mgmt.deferred ++ [⟨op, c, 0, s.inBand c.pnl⟩] ∧ t.regs = s.regs ∧ t.lane j = (s.lane j).sent m ∧
    ∀ k : Nat, k ≠ j → t.lane k = s.lane k

/-- The state in which a command waits for the answer to a message just sent. -/
def State.askHead (s : State) (c : Cmd) (j : Nat) (write : Bool) (addr data op : Nat) : State :=
  let t := s.sendCtl j write addr data (.host c op)
  { t with mgmt := { t.mgmt with deferred := t.mgmt.deferred ++ [⟨op, c, 0, s.inBand c.pnl⟩] } }

theorem State.askHead_asked (s : State) (c : Cmd) (j : Nat) (write : Bool) (addr data op : Nat) :
    s.Asked c j { tag := (s.lane j).nextTag, write := write, addr := addr, data := data, why := .host c op, sentAt := s.tick } op
      (s.askHead c j write addr data op) :=
  ⟨rfl, rfl, s.lane_sendCtl_eq .., fun _ h => s.lane_sendCtl_ne h ..⟩

/-! A lane's messages lost with its lock (R352). -/

theorem State.lane_completeCmd (s : State) (c : Cmd) (op : Nat) (r : Resp) (j : Nat) : (s.completeCmd c op r).lane j = s.lane j := by
  have h := congrArg (fun t : State => t.lane j) (completeCmd_kept s c op r).rest
  exact h

theorem State.lane_dropCtl (s : State) (j : Nat) : (s.dropCtl j).lane j = { s.lane j with out := [], queue := [], toSend := [] } := by
  unfold State.dropCtl
  dsimp only
  generalize (s.lane j).out ++ (s.lane j).queue = ms
  refine List.foldlRecOn (motive := fun t : State => t.lane j = _) ms _ (tget_tput_same ..) fun t ht m _ => ?_
  cases hw : m.why with
  | host c op => exact (t.lane_completeCmd c op (rsp .fault) j).trans ht
  | _ => exact ht

/-- A lane that is not ALIGNED leaves its state with no message outstanding or waiting. -/
theorem State.laneLeave_drops (h : s.laneState j ≠ hlkAligned) (st cause : Nat) :
    ((s.laneLeave j st cause).lane j).out = [] ∧ ((s.laneLeave j st cause).lane j).queue = [] := by
  unfold State.laneLeave State.laneFallBack
  rw [if_neg h, State.lane_updLane_same, State.lane_dropCtl]
  exact ⟨rfl, rfl⟩

/-- The cause it leaves with is shown, held to its field's width. -/
theorem State.laneCause_laneLeave_mod (h : s.laneState j ≠ hlkAligned) (st cause : Nat) :
    (s.laneLeave j st cause).fld .HLK_STATUS_cause j = cause % 16 := by
  unfold State.laneLeave State.laneFallBack
  rw [if_neg h]
  exact (State.fld_dropCtl _ j (by simp) (by simp [logFlds])).trans (s.fld_setLaneState_cause j st cause)

/-! Answers and repeats (R341). -/

/-- An answer to a message that is not outstanding, or its repeat, changes nothing. -/
theorem exec_answer_unasked {tag : Nat} (h : s.ctlMsg j tag = none) (a d : Nat) :
    exec (.readRsp j tag a d) s = .next s ∧ exec (.writeAck j tag a) s = .next s ∧ exec (.nak j tag d) s = .next s ∧
      exec (.controlRepeat j tag) s = .next s := by
  have read : s.takeReadRsp j tag d = s := by unfold State.takeReadRsp; rw [h]
  have ack : s.takeWriteAck j tag = s := by unfold State.takeWriteAck; rw [h]
  have nak : s.takeNak j tag d = s := by unfold State.takeNak; rw [h]
  refine ⟨congrArg _ read, congrArg _ ack, congrArg _ nak, congrArg Host.Outcome.next ?_⟩
  rw [h]

/-- A message 128 frames without an answer is sent again, and after its third repeat the lane is given up. -/
theorem exec_controlRepeat {tag : Nat} {m : CtlMsg} (hm : s.ctlMsg j tag = some m) (hc : m.why.isCoupling = false) :
    exec (.controlRepeat j tag) s = .next (if m.repeats < 3 then (s.reach (m.sentAt + 1280)).ctlAgain j tag
      else ((s.reach (m.sentAt + 1280)).bump .HLK_LOSS_CNT_ctl_timeout j).laneLeave j hlkLocking 3) := by
  refine congrArg Host.Outcome.next ?_
  rw [hm]
  dsimp only
  rw [if_neg (by rw [hc]; exact Bool.false_ne_true)]
  rfl

/-! The commands of a lane (R358). -/

theorem hlkCmd_beyond (hj : 7 < j) (p : Nat) (k : State × Option Resp) : hlkCmd s p j k = refuse s .badArg := if_pos hj

theorem hlkCmd_denied (hj : j ≤ 7) {p : Nat} (hp : p ≠ 0) (k : State × Option Resp) : hlkCmd s p j k = refuse s .denied :=
  (if_neg (Nat.not_lt.mpr hj)).trans (if_pos hp)

section
variable {c : Cmd} (ht : s.Takes c)
include ht

theorem exec_hlk_beyond (hj : 7 < j) : exec (.hlkQuery c j) s = .next (s.answer c 0x0801 (rsp .badArg)) ∧
    exec (.hlkRealign c j) s = .next (s.answer c 0x0804 (rsp .badArg)) :=
  ⟨ohi_answers ht (hlkCmd_beyond hj _ _), ohi_answers ht (hlkCmd_beyond hj _ _)⟩

variable (hj : j ≤ 7)
include hj

theorem exec_hlk_denied (hp : c.pnl ≠ 0) (a d : Nat) : exec (.hlkQuery c j) s = .next (s.answer c 0x0801 (rsp .denied)) ∧
    exec (.hlkHeadRead c j a) s = .next (s.answer c 0x0802 (rsp .denied)) ∧
    exec (.hlkHeadWrite c j a d) s = .next (s.answer c 0x0803 (rsp .denied)) ∧
    exec (.hlkRealign c j) s = .next (s.answer c 0x0804 (rsp .denied)) :=
  ⟨ohi_answers ht (hlkCmd_denied hj hp _), ohi_answers ht (hlkCmd_denied hj hp _), ohi_answers ht (hlkCmd_denied hj hp _),
    ohi_answers ht (hlkCmd_denied hj hp _)⟩

variable (hp : c.pnl = 0)
include hp

/-- A head's register is read on a lane that is ALIGNED or CALIBRATING. -/
theorem exec_hlkHeadRead_asks (hl : s.laneState j = hlkAligned ∨ s.laneState j = hlkCalibrating) (a : Nat) :
    exec (.hlkHeadRead c j a) s = .next (s.askHead c j false a 0 0x0802) := by
  have op : opHlkHeadRead c j a s = (s.sendCtl j false a 0 (.host c 0x0802), none) := (hlkCmd_passes hj hp _).trans (if_pos hl)
  refine congrArg Host.Outcome.next ?_
  rw [op, ohi_deferred ht]
  rfl

theorem exec_hlkRealign_aligned (hl : s.laneState j = hlkAligned) :
    exec (.hlkRealign c j) s = .next ((s.laneLeave j hlkLocking 8).answer c 0x0804 (rsp .ok)) :=
  ohi_answers ht ((hlkCmd_passes hj hp _).trans (if_pos hl))

/-- A lane in FAULT relocks with its cause shown, and no message is kept. -/
theorem exec_hlkRealign_relocks (hf : s.laneState j = hlkFault) : ∃ t : State,
    exec (.hlkRealign c j) s = .next (t.answer c 0x0804 (rsp .ok)) ∧ t.laneState j = hlkLocking ∧
      t.fld .HLK_STATUS_cause j = s.fld .HLK_STATUS_cause j % 16 ∧ (t.lane j).out = [] ∧ (t.lane j).queue = [] := by
  have apart : s.laneState j ≠ hlkAligned := by rw [hf]; decide
  exact ⟨_, exec_hlkRealign_fault ht hj hp hf, State.laneState_laneLeave apart (by decide) _, State.laneCause_laneLeave_mod apart _ _,
    State.laneLeave_drops apart _ _⟩
end

/-- Settles O32: each command of a lane by the check that decides it, each answer and repeat by the message it names. That the newest 16
event codes are kept is log 89. -/
theorem headMessagesAreTaggedAndAnswered : Obligations.HeadMessagesAreTaggedAndAnswered := by
  unfold Obligations.HeadMessagesAreTaggedAndAnswered
  refine ⟨?commands, fun s j tag a d h => exec_answer_unasked h a d, ?answers, fun s j tag m hm hc => exec_controlRepeat hm hc,
    fun _ _ _ => rfl⟩
  case commands =>
    intro s c j a d ht
    refine ⟨exec_hlk_beyond ht, fun hj hp => exec_hlk_denied ht hj hp a d, fun hj hp => ?_⟩
    refine ⟨exec_hlkQuery ht hj hp, fun hl => ?read, fun hl he ha => ?write, exec_hlkRealign_relocks ht hj hp,
      exec_hlkRealign_aligned ht hj hp⟩
    case read => exact ⟨_, exec_hlkHeadRead_asks ht hj hp hl a, s.askHead_asked c j false a 0 0x0802⟩
    case write => exact ⟨_, exec_hlkHeadWrite ht hj hp hl he ha d, s.askHead_asked c j true a d 0x0803⟩
  case answers =>
    intro s j tag a d m c op hm hwhy u
    exact ⟨fun hw => exec_readRsp_host hm hwhy hw a d, fun hw => exec_writeAck_host hm hwhy hw a, exec_nak_host hm hwhy d⟩

/-! Upstream frames short of ALIGNED (R336, R353). -/

theorem exec_upstreamFrame_offOrDown (h : s.laneState j = hlkOff ∨ s.laneState j = hlkDown) (b : BitVec 5600) :
    exec (.upstreamFrame j b) s = .next s :=
  congrArg Host.Outcome.next (if_pos (h.imp_right .inl))

/-- The downstream frame that goes out meanwhile leaves the runs of frames as they are. -/
theorem State.sendIdle_runs (s : State) (j : Nat) :
    ((s.sendIdle j).lane j).good = (s.lane j).good ∧ ((s.sendIdle j).lane j).lastCount = (s.lane j).lastCount := by
  unfold State.sendIdle
  split
  · exact ⟨rfl, rfl⟩
  · unfold State.openDown
    rw [State.lane_updLane_same]
    exact ⟨rfl, rfl⟩

/-- A bad frame ends the run of good ones and counts. -/
theorem State.frameCounted_fails (s : State) (j : Nat) :
    ((s.frameCounted j none).lane j).good = 0 ∧ ((s.frameCounted j none).lane j).bad = (s.lane j).bad + 1 :=
  ⟨by unfold State.frameCounted; rw [State.lane_updLane_same]; rfl, s.frameCounted_bad j⟩

/-- A counter follows the last one where there was none, or where it is one more modulo 2 to the power of 40. -/
theorem lastCount_follows_iff {l : Option Nat} {n : Nat} :
    l.all (fun k => (k + 1) % 2 ^ 40 == n) = true ↔ ∀ k : Nat, l = some k → (k + 1) % 2 ^ 40 = n := by
  cases l <;> simp

/-- A good frame adds to the run where its counter follows the last one, and else starts a run of one. -/
theorem State.frameCounted_runs (s : State) (j n : Nat) [Decidable (∀ k : Nat, (s.lane j).lastCount = some k → (k + 1) % 2 ^ 40 = n)] :
    ((s.frameCounted j (some n)).lane j).bad = 0 ∧ ((s.frameCounted j (some n)).lane j).lastCount = some n ∧
    ((s.frameCounted j (some n)).lane j).good
      = if ∀ k : Nat, (s.lane j).lastCount = some k → (k + 1) % 2 ^ 40 = n then (s.lane j).good + 1 else 1 := by
  obtain ⟨hgood, hlast⟩ := s.sendIdle_runs j
  unfold State.frameCounted
  rw [State.lane_updLane_same]
  refine ⟨rfl, rfl, ?_⟩
  unfold Lane.count
  dsimp only
  rw [hgood, hlast]
  exact if_congr lastCount_follows_iff rfl rfl

/-- On a lane that is not ALIGNED a failed frame brings neither samples nor a gap. -/
theorem State.failed_passes {t : State} (h : t.laneState j ≠ hlkAligned) : (t.laneBad j).waveLane j = t := by
  rw [State.laneBad_down h, State.waveLane_down (beq_eq_false_iff_ne.mpr h)]

/-- A frame that does not decode on a lane in CALIBRATING counts as bad and in `fec_fail` (log 86). -/
theorem exec_upstreamFrame_fails (hj : j ≤ 7) (h : s.laneState j = hlkCalibrating) {b : BitVec 5600}
    (hd : laneDecode (bitsMsb 5600 b.toNat) = none) :
    exec (.upstreamFrame j b) s = .next ((s.frameCounted j none).bump .HLK_FEC_CNT_fec_fail j) := by
  refine congrArg Host.Outcome.next ?_
  rw [if_neg (by rw [h]; simp [hlkCalibrating, hlkOff, hlkDown]; omega), hd]
  dsimp only
  rw [State.laneState_sendIdle, h, if_pos (by decide)]
  have state : ((s.frameCounted j none).bump .HLK_FEC_CNT_fec_fail j).laneState j = hlkCalibrating :=
    (State.fld_bump ..).trans ((if_neg (by simp)).trans ((State.fld_congr (s.frameCounted_regs j none) ..).trans h))
  exact State.failed_passes fun e => absurd (state.symm.trans e) (by decide)

/-- Settles O34: by the lane's state, then by what the frame decodes to. That `fec_fail` does not count in LOCKING is log 86, and that the
operand's most significant bit is the first bit sent is log 85. -/
theorem upstreamFramesAreCounted : Obligations.UpstreamFramesAreCounted := by
  unfold Obligations.UpstreamFramesAreCounted
  intro s j b hj
  refine ⟨fun h => exec_upstreamFrame_offOrDown h b, fun h => ?locking, fun h => ?calibrating⟩
  case locking =>
    cases hd : laneDecode (bitsMsb 5600 b.toNat) with
    | none => exact ⟨_, exec_upstreamFrame_undecoded hj h hd, s.frameCounted_regs j none, s.frameCounted_fails j⟩
    | some e =>
      obtain ⟨p, n⟩ := e
      refine ⟨_, exec_upstreamFrame_decoded hj h hd, s.frameCounted_regs j _, ?_⟩
      dsimp only
      by_cases hword : pf p 0 24 = 0xC29E5B
      · rw [if_pos hword, if_pos hword]
        exact s.frameCounted_runs j _
      · rw [if_neg hword, if_neg hword]
        exact s.frameCounted_fails j
  case calibrating =>
    cases hd : laneDecode (bitsMsb 5600 b.toNat) with
    | none =>
      obtain ⟨hgood, hbad⟩ := s.frameCounted_fails j
      have kept : FldsKept [(.HLK_FEC_CNT_fec_fail, j)] s (s.frameCounted j none) :=
        (FldsKept.refl _ s).congr (s.frameCounted_regs j none)
      refine ⟨_, exec_upstreamFrame_fails hj h hd, hgood, hbad, ?_, kept.bump (by simp)⟩
      rw [State.fld_bump, if_pos ⟨rfl, rfl⟩, State.fld_congr (s.frameCounted_regs j none)]
    | some e => exact ⟨_, rfl, trivial⟩

end Sys2Proof.Machine
end

section
/-! SUPPORT. Gauge beyond the rows of an IDLE channel (R359 to R374, R388): what intake leaves, where the NCO of an interval starts, a
chain's output whole, a check that falls due in any state, and the refusals of the commands. -/

namespace Sys2Proof.Machine

variable {s : State} {ch : Nat}

/-! What intake leaves (R359 to R365, R368). -/

/-- From `s` to `t` the time and every register field but the channel's flag `uns` are as they were. -/
def UnsOnly (ch : Nat) (s t : State) : Prop := t.tick = s.tick ∧ FldsKept [(.GAU_CH_STATUS_uns, ch)] s t

theorem UnsOnly.refl (ch : Nat) (s : State) : UnsOnly ch s s := ⟨rfl, FldsKept.refl _ s⟩

theorem UnsOnly.setGauge (ch : Nat) (s : State) (g : GauCh) : UnsOnly ch s (s.setGauge ch g) := ⟨rfl, (FldsKept.refl _ s).congr rfl⟩

theorem UnsOnly.trans {s t u : State} (h : UnsOnly ch s t) (k : UnsOnly ch t u) : UnsOnly ch s u :=
  ⟨k.1.trans h.1, h.2.trans k.2⟩

theorem State.applySwitches_unsOnly (s : State) (ch p : Nat) : UnsOnly ch s (s.applySwitches ch p) := by
  unfold State.applySwitches
  dsimp only
  split
  · obtain ⟨htick, hflds⟩ := UnsOnly.setGauge ch s _
    exact ⟨htick, hflds.setFlag true (by simp)⟩
  · exact UnsOnly.refl ch s

theorem State.chainIn_unsOnly (s : State) (ch path p : Nat) (x : GaugeIn) : UnsOnly ch s (s.chainIn ch path p x) := by
  have switched : UnsOnly ch s (if path = 0 then s.applySwitches ch p else s) := by
    split
    · exact s.applySwitches_unsOnly ch p
    · exact UnsOnly.refl ch s
  unfold State.chainIn
  dsimp only
  split
  · exact switched.trans (UnsOnly.setGauge ..)
  · exact switched.trans (UnsOnly.setGauge ..)

theorem State.rcStage_unsOnly (s : State) (ch path p : Nat) (x : GaugeIn) : UnsOnly ch s (s.rcStage ch path p x) := by
  unfold State.rcStage
  dsimp only
  split
  · split
    · exact UnsOnly.setGauge ..
    · exact (UnsOnly.setGauge ..).trans (State.chainIn_unsOnly ..)
  · refine UnsOnly.trans ?_ (State.chainIn_unsOnly ..)
    exact List.foldlRecOn (motive := UnsOnly ch s) _ _ (UnsOnly.setGauge ..) fun t ht _ _ => ht.trans (State.chainIn_unsOnly ..)

theorem State.takeInput_unsOnly (s : State) (ch path p : Nat) (x : GaugeIn) : UnsOnly ch s (s.takeInput ch path p x) :=
  (UnsOnly.setGauge ..).trans (State.rcStage_unsOnly ..)

/-- An input of the value the path had before leaves the path that value, blanked or not. -/
theorem State.takeInput_repeats {path : Nat} (h : path < (s.gauge ch).prev.length) (p flags : Nat) :
    (((s.takeInput ch path p ⟨((s.gauge ch).prev.getD path {}).x, flags⟩).gauge ch).prev.getD path {}).x
      = ((s.gauge ch).prev.getD path {}).x := by
  have stored (y : GaugeIn) : ((s.gauge ch).prev.set path y).getD path {} = y :=
    (List.getD_eq_getElem _ _ (by rw [List.length_set]; exact h)).trans (List.getElem_set_self _)
  have passed (t : State) (x : GaugeIn) : ((t.rcStage ch path p x).gauge ch).prev = (t.gauge ch).prev :=
    congrArg (fun i => i.2.1) (t.intake_rcStage ch path p x)
  unfold State.takeInput
  rw [passed, State.gauge_setGauge_same, stored]
  split <;> rfl

theorem exec_gaugeSampleDeadline_other {path p : Nat} (h : (s.gauge ch).next.getD path none ≠ some p) :
    exec (.gaugeSampleDeadline ch path p) s = .next s := congrArg Host.Outcome.next (if_pos (.inr (.inl h)))

/-- With no sample waiting, the deadline counts the gap and takes the previous input again, flagged. -/
theorem exec_gaugeSampleDeadline_due {path p : Nat} (hpath : path ≤ 1) (hn : (s.gauge ch).next.getD path none = some p)
    (hw : (s.gauge ch).wait = []) (hg : s.fld .GAU_CH_STATUS_no_gauge ch = 0) : exec (.gaugeSampleDeadline ch path p) s
      = .next (((s.reach (128 * p + 170)).bump .GAU_CH_CNT_gap_cnt ch).takeInput ch path p
          ⟨((s.gauge ch).prev.getD path {}).x, 2⟩) := by
  obtain ⟨_, -, hin⟩ := ((s.reach (128 * p + 170)).bump .GAU_CH_CNT_gap_cnt ch).takeInput_intake ch path p
    ⟨((s.gauge ch).prev.getD path {}).x, 2⟩
  have due : ¬(1 < path ∨ (s.gauge ch).next.getD path none ≠ some p ∨ s.flag .GAU_CH_STATUS_no_gauge ch = true) := by
    rw [hn, State.flag, hg]
    simp [hpath]
  exact congrArg Host.Outcome.next
    ((if_neg due).trans (State.drainInputs_none ((congrArg (fun i => i.2.2) hin).trans hw) 32 path))

/-- What the deadline's input leaves of the time, the fields and the path's last value. -/
theorem State.gapTaken_frame (s : State) (ch : Nat) {path : Nat} (p : Nat) (h : path < (s.gauge ch).prev.length) :
    let t := ((s.reach (128 * p + 170)).bump .GAU_CH_CNT_gap_cnt ch).takeInput ch path p ⟨((s.gauge ch).prev.getD path {}).x, 2⟩
    t.tick = max s.tick (128 * p + 170) ∧ ((t.gauge ch).prev.getD path {}).x = ((s.gauge ch).prev.getD path {}).x ∧
      t.fld .GAU_CH_CNT_gap_cnt ch = min (s.fld .GAU_CH_CNT_gap_cnt ch + 1) (2 ^ Fld.width .GAU_CH_CNT_gap_cnt - 1) ∧
      FldsKept [(.GAU_CH_CNT_gap_cnt, ch), (.GAU_CH_STATUS_uns, ch)] s t := by
  have counted : FldsKept [(.GAU_CH_CNT_gap_cnt, ch), (.GAU_CH_STATUS_uns, ch)] s
      ((s.reach (128 * p + 170)).bump .GAU_CH_CNT_gap_cnt ch) := ((FldsKept.refl _ s).reach _).bump (by simp)
  obtain ⟨htick, hflds⟩ := ((s.reach (128 * p + 170)).bump .GAU_CH_CNT_gap_cnt ch).takeInput_unsOnly ch path p
    ⟨((s.gauge ch).prev.getD path {}).x, 2⟩
  refine ⟨htick, State.takeInput_repeats (s := (s.reach (128 * p + 170)).bump .GAU_CH_CNT_gap_cnt ch) h p 2,
    (hflds _ _ (by simp)).trans ?_, counted.trans (hflds.mono (by simp))⟩
  exact (State.fld_bump ..).trans (if_pos ⟨rfl, rfl⟩)

/-! The NCO and the gauge's states (R366, R367, R374). -/

theorem State.gauge_switchNco (s : State) (ch who phase ftw amp : Nat) :
    (s.switchNco ch who phase ftw amp).gauge ch = { s.gauge ch with
      ncos := (⟨s.nextPeriod, who, phase, ftw, amp⟩ :: (s.gauge ch).ncos).take 8
      switches := (s.gauge ch).switches ++ [s.nextPeriod] } := by
  unfold State.switchNco
  rw [State.gauge_setFlag, State.gauge_updGauge_same]

theorem FldsKept.switchNco {fs : List (Fld × Nat)} {s t : State} (h : FldsKept fs s t) (hz : (.GAU_CH_STATUS_z_valid, ch) ∈ fs)
    (who phase ftw amp : Nat) : FldsKept fs s (t.switchNco ch who phase ftw amp) :=
  FldsKept.setFlag (t := t.updGauge ch _) (h.congr rfl) false hz

section
variable {fs : List (Fld × Nat)} {t : State} (h : FldsKept fs s t) (hg : (.GAU_CH_STATUS_g_state, ch) ∈ fs)
  (hz : (.GAU_CH_STATUS_z_valid, ch) ∈ fs)
include h hg hz

theorem FldsKept.gaugeExcite : FldsKept fs s (t.gaugeExcite ch) := (h.setFld _ hg).switchNco hz _ _ _ _

theorem FldsKept.gaugeIdle : FldsKept fs s (t.gaugeIdle ch) := (h.setFld _ hg).switchNco hz _ _ _ _

/-- No check to abandon, a channel only enters EXCITING or IDLE, or stays as it is. -/
theorem FldsKept.gaugeUpdate (hc : t.gState ch ≠ gChecking) : FldsKept fs s (t.gaugeUpdate ch) := by
  unfold State.gaugeUpdate
  split
  · split
    · exact h
    · exact h.gaugeExcite hg hz
  · split
    · exact h.gaugeIdle hg hz
    · exact h

theorem FldsKept.startCheck (cal : Bool) : FldsKept fs s (t.startCheck ch cal) := by
  have chosen : FldsKept fs s ((t.setFld .GAU_CH_STATUS_g_state ch gChecking).updGauge ch fun g =>
      { g with chkRef := false, chkCal := cal, chkZ := [], chkOuts := 0 }) := (h.setFld gChecking hg).congr rfl
  exact (chosen.switchNco hz 0 0 0 0).congr rfl
end

theorem State.gState_gaugeIdle (s : State) (ch : Nat) : (s.gaugeIdle ch).gState ch = gIdle :=
  (State.fld_switchNco (by decide) ..).trans (State.fld_setFld_same ..)

theorem State.gauge_gaugeIdle (s : State) (ch : Nat) :
    ((s.gaugeIdle ch).gauge ch).ncos.head? = some ⟨s.nextPeriod, 0, 0, 0, 0⟩ := by
  unfold State.gaugeIdle
  rw [State.gauge_switchNco]
  rfl

/-- The NCO of the interval that opens starts at phase 0 in the next period, its start remembered. -/
theorem State.excBegun_nco (s : State) (ch t : Nat) : let u := (s.excOpened ch t).gaugeExcite ch
    (u.gauge ch).excFrom = t ∧
      (u.gauge ch).ncos.head? = some ⟨u.nextPeriod, 1, 0, s.fld .GAU_CH_FTW_ftw ch, s.fld .GAU_CH_CFG_amp ch⟩ := by
  dsimp only
  unfold State.gaugeExcite
  rw [State.gauge_switchNco]
  exact ⟨congrArg GauCh.excFrom (s.gauge_excOpened ch t), rfl⟩

theorem exec_excitationInterval_kept {b : Bool} (h : (s.gauge ch).item.flag 1 = false ∨ (s.gauge ch).excDue = b) :
    exec (.excitationInterval ch b) s = .next s := congrArg Host.Outcome.next (if_pos h)

/-- The state in which an interval has lasted its `exc_len`. -/
def State.excClosed (s : State) (ch : Nat) : State :=
  (s.reach ((s.gauge ch).excFrom + (s.gauge ch).item.excLen * 200000)).updGauge ch fun g => { g with excDue := false }

/-- In interval mode the end of an interval is the end of the excitation. -/
theorem exec_excitationInterval_end (hf : (s.gauge ch).item.flag 1 = true) (hd : (s.gauge ch).excDue = true)
    (he : s.gState ch = gExciting) : exec (.excitationInterval ch false) s = .next ((s.excClosed ch).gaugeIdle ch) := by
  have closed : (s.excClosed ch).gauge ch = { s.gauge ch with excDue := false } := State.gauge_updGauge_same ..
  have undue : ¬(s.excClosed ch).excDue ch = true := by
    unfold State.excDue
    rw [closed]
    simp [hf]
  have ended : (s.excClosed ch).gaugeUpdate ch = (s.excClosed ch).gaugeIdle ch := (if_neg undue).trans (if_pos he)
  exact congrArg Host.Outcome.next ((if_neg (by simp [hf, hd])).trans ended)

/-! Checks (R371, R372). -/

theorem State.gauge_startCheck (s : State) (ch : Nat) (cal : Bool) : let g := (s.startCheck ch cal).gauge ch
    g.chkRef = false ∧ g.chkCal = cal ∧ g.chkAt = (s.gauge ch).chkAt := by
  have begun : (s.startCheck ch cal).gauge ch = (((s.setFld .GAU_CH_STATUS_g_state ch gChecking).updGauge ch fun g =>
      { g with chkRef := false, chkCal := cal, chkZ := [], chkOuts := 0 }).switchNco ch 0 0 0 0).gauge ch := rfl
  rw [begun, State.gauge_switchNco, State.gauge_updGauge_same]
  exact ⟨rfl, rfl, rfl⟩

/-- The state in which a check has fallen due. -/
def State.checkOpened (s : State) (ch : Nat) : State :=
  (s.reach (s.checkTime ch)).updGauge ch fun g => { g with chkAt := s.checkTime ch }

theorem State.chkAt_checkOpened (s : State) (ch : Nat) : ((s.checkOpened ch).gauge ch).chkAt = s.checkTime ch :=
  congrArg GauCh.chkAt (State.gauge_updGauge_same ..)

theorem State.checkOpened_kept (fs : List (Fld × Nat)) (s : State) (ch : Nat) : FldsKept fs s (s.checkOpened ch) :=
  (FldsKept.refl fs s).congr rfl

theorem exec_checkDue (hc : (s.gauge ch).item.chkInterval ≠ 0) (hal : s.laneAligned (headOf ch) = true)
    (hg : s.flag .GAU_CH_STATUS_no_gauge ch = false) : exec (.checkDue ch) s
      = .next (if s.gState ch = gExciting then (s.checkOpened ch).bump .GAU_CH_CNT_chk_skip ch
          else if s.gState ch = gIdle then (s.checkOpened ch).startCheck ch false else s.checkOpened ch) :=
  congrArg Host.Outcome.next (if_neg (by simp [hc, hal, hg]))

/-! A chain's output (R363). -/

theorem Chain.output_last {c c' : Chain} {w fl p : Nat} {rest : List (Nat × Nat × Nat)} (h : c.ready = (w, fl, p) :: rest) {N D M : Nat}
    (hc : c.output N D M = some c') : c'.last = roundDiv (signed 84 (comb c.combs w).1 * 2 ^ 13) (2 ^ chainS N D M) := by
  unfold Chain.output at hc
  rw [h] at hc
  obtain rfl := Option.some.inj hc
  rfl

section
variable {w fl p : Nat} {rest : List (Nat × Nat × Nat)}

/-- An output of chain I that completes no pair is all that changes. -/
theorem exec_chainOutput_I (h : (s.gauge ch).chainI.ready = (w, fl, p) :: rest)
    (hq : (s.gauge ch).chainI.outN + 1 ≠ (s.gauge ch).chainQ.outN) : ∃ c : Chain,
    exec (.chainOutput ch 0) s = .next (s.setGauge ch { s.gauge ch with chainI := c }) ∧ c.ready = rest ∧
      c.last = roundDiv (signed 84 (comb (s.gauge ch).chainI.combs w).1 * 2 ^ 13)
        (2 ^ chainS (s.gauge ch).item.nIq (s.gauge ch).item.dIq (s.gauge ch).item.mIq) := by
  obtain ⟨c, hc, hready, hout⟩ := Chain.output_ready h (s.gauge ch).item.nIq (s.gauge ch).item.dIq (s.gauge ch).item.mIq
  refine ⟨c, congrArg Host.Outcome.next ?_, hready, Chain.output_last h hc⟩
  dsimp only
  rw [hc]
  exact if_neg (by rwa [hout])

/-- An output of chain Q that completes no pair is all that changes. -/
theorem exec_chainOutput_Q (h : (s.gauge ch).chainQ.ready = (w, fl, p) :: rest)
    (hi : (s.gauge ch).chainQ.outN + 1 ≠ (s.gauge ch).chainI.outN) : ∃ c : Chain,
    exec (.chainOutput ch 1) s = .next (s.setGauge ch { s.gauge ch with chainQ := c }) ∧ c.ready = rest ∧
      c.last = roundDiv (signed 84 (comb (s.gauge ch).chainQ.combs w).1 * 2 ^ 13)
        (2 ^ chainS (s.gauge ch).item.nIq (s.gauge ch).item.dIq (s.gauge ch).item.mIq) := by
  obtain ⟨c, hc, hready, hout⟩ := Chain.output_ready h (s.gauge ch).item.nIq (s.gauge ch).item.dIq (s.gauge ch).item.mIq
  refine ⟨c, congrArg Host.Outcome.next ?_, hready, Chain.output_last h hc⟩
  dsimp only
  rw [hc]
  exact if_neg (by rwa [hout])
end

theorem exec_chainOutput_empty (h : (s.gauge ch).chainV.ready = []) : exec (.chainOutput ch 2) s = .next s := by
  have noOutput : (s.gauge ch).chainV.output (s.gauge ch).item.nV (s.gauge ch).item.dV (s.gauge ch).item.mV = none := by
    unfold Chain.output
    rw [h]
  refine congrArg Host.Outcome.next ?_
  dsimp only
  rw [noOutput]
  rfl

/-! The commands (R388). -/

section
variable {c : Cmd} (ht : s.Takes c) (hch : ch ≤ 191) (hm : s.mayName c.pnl ch = true)
include hch hm

theorem gauCmd_notPresent (hal : s.laneAligned (headOf ch) = false) (k : State × Option Resp) :
    gauCmd s c.pnl ch k = refuse s .notPresent :=
  (if_neg (Nat.not_lt.mpr hch)).trans ((if_neg (by simp [hm])).trans (if_pos (.inl hal)))

include ht

/-- Without its lane a channel's gauge is not present. -/
theorem exec_gau_notPresent (hal : s.laneAligned (headOf ch) = false) :
    exec (.gauQuery c ch) s = .next (s.answer c 0x3801 (rsp .notPresent)) ∧
    exec (.gauCheck c ch) s = .next (s.answer c 0x3802 (rsp .notPresent)) :=
  ⟨ohi_answers ht (gauCmd_notPresent hch hm hal _), ohi_answers ht (gauCmd_notPresent hch hm hal _)⟩

variable (hal : s.laneAligned (headOf ch) = true) (hg : s.flag .GAU_CH_STATUS_no_gauge ch = false)
include hal hg

/-- While EXCITING no check starts. -/
theorem exec_gauCheck_exciting (he : s.gState ch = gExciting) : exec (.gauCheck c ch) s = .next (s.answer c 0x3802 (rsp .badState)) ∧
    exec (.gauCalibrate c ch []) s = .next (s.answer c 0x3803 (rsp .badState)) :=
  ⟨ohi_answers ht ((gauCmd_passes hch hm hal hg _).trans (if_pos he)),
    ohi_answers ht ((gauCmd_passes hch hm hal hg _).trans (if_pos he))⟩

theorem exec_gauExcite_checking (hc : s.gState ch = gChecking) {v : Nat} (hv : v ≤ 1) :
    exec (.gauExcite c ch [v]) s = .next (s.answer c 0x3804 (rsp .badState)) :=
  ohi_answers ht ((if_neg (by simp [hv])).trans ((gauCmd_passes hch hm hal hg _).trans (if_pos hc)))

theorem exec_gauExcite (hc : s.gState ch ≠ gChecking) {v : Nat} (hv : v ≤ 1) :
    exec (.gauExcite c ch [v]) s = .next (((s.setFld .GAU_CH_CFG_exc_on ch v).gaugeUpdate ch).answer c 0x3804 (rsp .ok)) :=
  ohi_answers ht ((if_neg (by simp [hv])).trans ((gauCmd_passes hch hm hal hg _).trans (if_neg hc)))
end

/-- Switching the excitation writes `exc_on` and brings the gauge's state to it. -/
theorem State.excSwitched_frame (hc : s.gState ch ≠ gChecking) {v : Nat} (hv : v ≤ 1) :
    let t := (s.setFld .GAU_CH_CFG_exc_on ch v).gaugeUpdate ch
    t.fld .GAU_CH_CFG_exc_on ch = v ∧
      FldsKept [(.GAU_CH_CFG_exc_on, ch), (.GAU_CH_STATUS_g_state, ch), (.GAU_CH_STATUS_z_valid, ch)] s t := by
  have state : (s.setFld .GAU_CH_CFG_exc_on ch v).gState ch ≠ gChecking := fun h => hc ((State.fld_setFld_ne s v (by simp)).symm.trans h)
  have written : (s.setFld .GAU_CH_CFG_exc_on ch v).fld .GAU_CH_CFG_exc_on ch = v :=
    (State.fld_setFld_same ..).trans (Nat.mod_eq_of_lt (Nat.lt_succ_of_le hv))
  have updated : FldsKept [(.GAU_CH_STATUS_g_state, ch), (.GAU_CH_STATUS_z_valid, ch)] (s.setFld .GAU_CH_CFG_exc_on ch v)
      ((s.setFld .GAU_CH_CFG_exc_on ch v).gaugeUpdate ch) := (FldsKept.refl _ _).gaugeUpdate (by simp) (by simp) state
  exact ⟨(updated _ _ (by simp)).trans written, ((FldsKept.refl _ s).setFld v (by simp)).gaugeUpdate (by simp) (by simp) state⟩

/-- Settles O46: each event and command as the operation it is, then what that leaves of the channel and of the registers. The times
at which an interval starts and a check falls due are those of log 180. -/
theorem gaugeSamplesExcitationAndChecks : Obligations.GaugeSamplesExcitationAndChecks := by
  unfold Obligations.GaugeSamplesExcitationAndChecks
  refine ⟨fun s ch path p hpath => ⟨exec_gaugeSampleDeadline_other, ?gap⟩, fun s ch b h => exec_excitationInterval_kept h,
    fun s ch hf => ⟨?start, ?stop⟩, ?check, fun s ch w fl p rest => ⟨?chainI, ?chainQ, exec_chainOutput_empty⟩,
    fun s c ch ht hch hm => ⟨exec_gau_notPresent ht hch hm, ?commands⟩⟩
  case gap =>
    intro hn hw hl hg
    obtain ⟨t, ht, hnext, hgap⟩ := exec_gaugeSampleDeadline hpath hn hw hl hg
    obtain rfl := Host.Outcome.next.inj ((exec_gaugeSampleDeadline_due hpath hn hw hg).symm.trans ht)
    obtain ⟨htick, hx, hcount, hkept⟩ := s.gapTaken_frame ch (path := path) p (by omega)
    exact ⟨_, ht, htick, hnext, hx, hgap, hcount, hkept⟩
  case start =>
    intro hd hi hon hal
    obtain ⟨hfrom, hnco⟩ := s.excBegun_nco ch (s.excStart ch)
    have opened : FldsKept [(.GAU_CH_STATUS_g_state, ch), (.GAU_CH_STATUS_z_valid, ch)] s (s.excOpened ch (s.excStart ch)) :=
      (FldsKept.refl _ s).congr rfl
    exact ⟨_, exec_excitationInterval_start hf hd hi hon hal, State.gState_gaugeExcite .., s.gauge_excBegun .., rfl, hfrom, hnco,
      opened.gaugeExcite (by simp) (by simp)⟩
  case stop =>
    intro hd he
    have closed : FldsKept [(.GAU_CH_STATUS_g_state, ch), (.GAU_CH_STATUS_z_valid, ch)] s (s.excClosed ch) :=
      (FldsKept.refl _ s).congr rfl
    exact ⟨_, exec_excitationInterval_end hf hd he, State.gState_gaugeIdle .., rfl, State.gauge_gaugeIdle ..,
      closed.gaugeIdle (by simp) (by simp)⟩
  case check =>
    intro s ch hc hal hg
    rw [exec_checkDue hc hal hg]
    by_cases he : s.gState ch = gExciting
    · rw [if_pos he]
      refine ⟨_, rfl, rfl, s.chkAt_checkOpened ch, fun _ => ⟨(s.checkOpened_kept _ ch).bump (by simp), ?_⟩,
        fun hi => absurd (hi.symm.trans he) (by decide)⟩
      exact (State.fld_bump ..).trans (if_pos ⟨rfl, rfl⟩)
    · rw [if_neg he]
      by_cases hi : s.gState ch = gIdle
      · rw [if_pos hi]
        obtain ⟨href, hcal, hat⟩ := (s.checkOpened ch).gauge_startCheck ch false
        exact ⟨_, rfl, rfl, hat.trans (s.chkAt_checkOpened ch), fun h => absurd h he, fun _ => ⟨State.gState_startCheck .., href, hcal,
          (s.checkOpened_kept _ ch).startCheck (by simp) (by simp) false⟩⟩
      · rw [if_neg hi]
        exact ⟨_, rfl, rfl, s.chkAt_checkOpened ch, fun h => absurd h he, fun h => absurd h hi⟩
  case chainI =>
    intro h hq
    obtain ⟨c, hexec, hready, hlast⟩ := exec_chainOutput_I h hq
    refine ⟨_, hexec, ?_⟩
    rw [State.gauge_setGauge_same]
    exact ⟨hlast, hready, rfl, rfl, rfl⟩
  case chainQ =>
    intro h hi
    obtain ⟨c, hexec, hready, hlast⟩ := exec_chainOutput_Q h hi
    refine ⟨_, hexec, ?_⟩
    rw [State.gauge_setGauge_same]
    exact ⟨hlast, hready, rfl, rfl, rfl⟩
  case commands =>
    intro hal hg
    refine ⟨exec_gauQuery ht hch hm hal hg, exec_gauCheck_exciting ht hch hm hal hg, fun hi => ?idle,
      fun hc => exec_gauExcite_checking ht hch hm hal hg hc le_rfl,
      fun v hv hc => ⟨_, exec_gauExcite ht hch hm hal hg hc hv, State.excSwitched_frame hc hv⟩⟩
    case idle =>
      obtain ⟨-, checks, -⟩ := s.gauge_startCheck ch false
      obtain ⟨-, calibrates, -⟩ := s.gauge_startCheck ch true
      exact ⟨_, _, exec_gauCheck_idle ht hch hm hal hg hi, exec_gauCalibrate_idle ht hch hm hal hg hi, State.gState_startCheck ..,
        State.gState_startCheck .., checks, calibrates, (FldsKept.refl _ s).startCheck (by simp) (by simp) false, rfl⟩

end Sys2Proof.Machine
end

section
/-! SUPPORT. The queue and the step: every command answers a next state and leaves the commands waiting (logs 40 and 41). -/

namespace Sys2Proof.Machine

/-- Every row of the table has an arm of its own that answers a next state, whatever its operands. -/
theorem exec_completes (c : Instr) (s : State) : Completes c s := by
  cases c <;> exact ⟨_, rfl⟩

theorem exec_pending {c : Instr} {s t : State} (h : exec c s = .next t) : t.pending = s.pending :=
  ((exec_keeps (Keeps.refl s) c).all t h).pend

/-- An idle step, or the command at the front. -/
theorem step_completes (s : State) : ∃ t : State, step s = .next t := by
  unfold step
  split
  · exact ⟨_, rfl⟩
  · next c rest _ => exact exec_completes c { s with pending := rest }

/-- Settles O4, by what each command keeps. -/
theorem commandsLeaveTheQueue : Obligations.CommandsLeaveTheQueue := fun _ _ _ => exec_pending

/-- Settles O1: the second arm of the step. -/
theorem stepRunsTheFrontCommand : Obligations.StepRunsTheFrontCommand := fun _ _ => rfl

/-- Settles O3, command by command. -/
theorem everyCommandCompletes : Obligations.EveryCommandCompletes := ⟨exec_completes, step_completes⟩

end Sys2Proof.Machine
end

section
/-! SUPPORT. Events merged and written (R529, R530), and the refusals logged with them (R528). -/

namespace Sys2Proof.Machine

/-- The state with the newest entry of the event ring replaced. -/
def State.setNewest (s : State) (e : Ev) : State :=
  { s with mgmt := { s.mgmt with ring := tset ((s.evHead + 8191) % 8192) e s.mgmt.ring } }

theorem State.evNewest_setNewest {s : State} {o : Ev} (h : s.evNewest = some o) (e : Ev) : (s.setNewest e).evNewest = some e := by
  have live : s.mgmt.live ≠ 0 := fun h0 => by simp [State.evNewest, h0] at h
  exact (if_neg live).trans (tfind_tset_same ..)

/-- Settles O10: a repeat replaces the newest entry, any other event is written at the head. -/
theorem eventsMergeOrEnterTheRing : Obligations.EventsMergeOrEnterTheRing := by
  intro s code panel inst data
  refine ⟨fun e he h1 h2 h3 h4 h5 => ?repeats, fun h => ?writes⟩
  case repeats =>
    have merged : s.log code panel inst data = s.setNewest { e with rep := min (e.rep + 1) 65535 } :=
      State.log_repeats he ⟨h1, h2, h3, h4, h5⟩
    rw [merged]
    exact ⟨rfl, State.evNewest_setNewest he _, fun k hk => tfind_tset_ne hk _ _⟩
  case writes =>
    rw [State.log_writes h]
    obtain ⟨ring, head, -⟩ := evWrite_spec s ⟨code, evSev code, panel, inst, 0, s.tick, data % 2 ^ 64, s.grid.hem⟩
    rw [ring]
    exact ⟨tfind_tset_same .., head, fun k hk => tfind_tset_ne hk _ _⟩

theorem logRefuse_refused {r : Resp} (h : r.res ≠ .ok) (s : State) (p op : Nat) :
    s.logRefuse p op r = s.log 0x6001 p noInst (op + 65536 * r.res.code) := if_neg h

/-- Settles O11: answering writes the event ring as logging the refusal does, and an opcode of 16 bits and a result code below 10
fit the data of an event. -/
theorem refusalsAreLogged : Obligations.RefusalsAreLogged := by
  intro s c op r hop hhead
  obtain ⟨ring, head, -⟩ := answer_ev s c op r
  rw [answer_newest, ring, head]
  refine ⟨fun h => ?refused, fun h => by rw [logRefuse_ok h]; exact ⟨rfl, rfl⟩⟩
  rw [logRefuse_refused h]
  obtain ⟨e, newest, hcode, hpanel, -, hdata, merged⟩ := s.log_newest 0x6001 c.pnl noInst (op + 65536 * r.res.code) hhead
  have := r.res.code_lt
  exact ⟨e, newest, hcode, hpanel, by omega, by omega, merged⟩

end Sys2Proof.Machine
end

section
/-! SUPPORT. Transactions cut short (R514), and the register commands whose words stand outside the window (R413). -/

namespace Sys2Proof.Machine

/-- Settles O25: the words completed run as a transaction of theirs, the bits beyond them do not count. -/
theorem earlyRiseKeepsCompletedWords : Obligations.EarlyRiseKeepsCompletedWords := by
  intro s write p a k words hp hk hw
  refine ⟨fun hne => ?_, congrArg Host.Outcome.next (if_neg (by simp))⟩
  have h1 : 1 ≤ words.length := List.length_pos_of_ne_nil hne
  exact congrArg Host.Outcome.next ((if_pos ⟨hp, h1, hw, hk⟩).trans (if_pos ⟨hp, h1, hw.le, .inr rfl⟩).symm)

/-- The addresses of `n` words from `a` that stand outside a panel's window. -/
def State.outside (s : State) (p a n : Nat) : List Nat := ((List.range n).map (fun i => a + 4 * i)).filter (fun x => !s.inAlias p x)

theorem regCmd_badCount {n hi : Nat} (h : n = 0 ∨ hi < n) (s : State) (p a : Nat) (k : State × Option Resp) :
    regCmd s p a n hi k = (s, some (rsp .badArg)) := if_pos h

/-- Words outside the window are counted, and the command is refused whole. -/
theorem regCmd_outside {s : State} {p a n hi : Nat} (h1 : 1 ≤ n) (hn : n ≤ hi) (ho : (s.outside p a n).length ≠ 0)
    (k : State × Option Resp) :
    regCmd s p a n hi k = (s.bumpN .PNL_ALIAS_FAULT_CNT_count p (s.outside p a n).length, some (rsp .denied)) :=
  (if_neg (by omega)).trans (if_pos fun e => ho (congrArg List.length e))

section
variable {s t : State} {c : Cmd} {r : Resp} (ht : s.Takes c)
include ht

theorem exec_regRead_answers {a n : Nat} (h : opRegRead c.pnl a n s = (t, some r)) :
    exec (.regRead c a n) s = .next (t.answer c 0x3E02 r) := ohi_answers ht h

/-- REG_WRITE serves the rings after its answer. -/
theorem exec_regWrite_answers {a : Nat} {ws : List Nat} (h : opRegWrite c.pnl a ws s = (t, some r)) :
    exec (.regWrite c a ws) s = .next (t.answer c 0x3E03 r).pump :=
  congrArg (fun x : State => Host.Outcome.next x.pump) (Host.Outcome.next.inj (ohi_answers ht h))

end

/-- Settles O24: `TEL_CFG` each way, a count out of range, and words outside the window. -/
theorem ohiRegisterCommands : Obligations.OhiRegisterCommands := by
  intro s c ht
  refine ⟨fun hp => ⟨?read, fun w => ?write⟩, fun a n h => exec_regRead_answers ht (regCmd_badCount h ..),
    fun a ws h => exec_regWrite_answers ht (regCmd_badCount h ..), ?outside⟩
  case read =>
    have inside : ∀ i : Nat, i < 1 → s.inAlias c.pnl (0x700004 + 4 * i) = true := fun i _ => hp ▸ s.inAlias_zero _
    rw [exec_regRead ht le_rfl (by decide) inside, hp]
    simp [State.regRead_telCfg]
  case write =>
    have inside : ∀ i : Nat, i < 1 → s.inAlias c.pnl (0x700004 + 4 * i) = true := fun i _ => hp ▸ s.inAlias_zero _
    rw [exec_regWrite ht (ws := [w]) le_rfl (by simp) inside, hp]
    simp [State.regWrite_telCfg]
  case outside =>
    intro a n ws out
    exact ⟨fun h1 hn ho => exec_regRead_answers ht (regCmd_outside h1 hn ho _),
      fun h1 hn ho => exec_regWrite_answers ht (regCmd_outside h1 hn ho _)⟩

end Sys2Proof.Machine
end

section
/-! SUPPORT. The host side beyond the rows that pass (R392 to R404): handovers refused, credits taken and returned, frames a port
discards, the ARP reply byte by byte, and the copies of a supervision frame. -/

namespace Sys2Proof.Machine

variable {s : State}

/-! Handover (R394, R395). -/

/-- A SEND or a FLOOD of a defined panel is a handover of the kind its row takes. -/
theorem exec_handover {p q : Nat} {m : List Byte} {c : Instr} (hp : p < 16) (hq : q < 8) (hi : (s.panelItem p).isSome = true)
    (hc : c = .send p q m ∧ (hoParse m).kind ≠ 2 ∨ c = .flood p q m ∧ (hoParse m).kind ≠ 1) :
    exec c s = .next (s.handoverIn p q m) := by
  rcases hc with ⟨rfl, hk⟩ | ⟨rfl, hk⟩
  · exact exec_send hp hq hi hk
  · exact exec_flood hp hq hi hk

section
variable {p q : Nat} {m : List Byte}

theorem State.handoverIn_bad (hb : hoBad (hoParse m) m = true) : s.handoverIn p q m = s.bump .PNL_HO_CNT_ho_err p := if_pos hb

variable (hb : hoBad (hoParse m) m = false)
include hb

theorem State.handoverIn_denied (hd : s.hoDenied p (hoParse m) = true) : s.handoverIn p q m = s.bump .DLV_EP_CNT_ep_denied 0 :=
  (if_neg (ne_true_of_eq_false hb)).trans (if_pos hd)

variable (hd : s.hoDenied p (hoParse m) = false)
include hd

theorem State.handoverIn_noRight (hr : s.hoNoRight p (hoParse m) = true) : s.handoverIn p q m = s.bump .PNL_HO_CNT_right_deny p :=
  (if_neg (ne_true_of_eq_false hb)).trans ((if_neg (ne_true_of_eq_false hd)).trans (if_pos hr))

theorem State.handoverIn_noCredit (hr : s.hoNoRight p (hoParse m) = false) (h3 : (hoParse m).prio ≠ 3) (hc : s.credit p q = 0) :
    s.handoverIn p q m = s.bump .PNL_THIMBLE_CNT_credit_drop p :=
  (if_neg (ne_true_of_eq_false hb)).trans ((if_neg (ne_true_of_eq_false hd)).trans
    ((if_neg (ne_true_of_eq_false hr)).trans (if_pos ⟨h3, hc⟩)))

end

@[simp] theorem State.credit_setCredit (s : State) (p q v : Nat) : (s.setCredit p q v).credit p q = v := tget_tput_same ..

/-- A message queued takes a credit of its class; the protection queue takes none. -/
theorem State.credit_queueMsg (s : State) (m : QMsg) : (s.queueMsg m).credit m.panel m.cls
    = if m.prio = 3 then s.credit m.panel m.cls else s.credit m.panel m.cls - 1 := by
  unfold State.queueMsg
  by_cases h3 : m.prio = 3
  · rw [if_pos h3, if_pos h3]
    split
    · rfl
    · rfl
  · rw [if_neg h3, if_neg h3]
    exact s.credit_setCredit ..

/-- A message that finds room changes no register. -/
theorem State.queueMsg_regs {m : QMsg} (h : m.prio = 3 → s.protCount m.panel < 64) : (s.queueMsg m).regs = s.regs := by
  unfold State.queueMsg
  by_cases h3 : m.prio = 3
  · rw [if_pos h3, if_neg (Nat.not_le.mpr (h h3))]
  · rw [if_neg h3]
    rfl

/-! The age of a queue (R395, R396). -/

/-- The oldest message of a queue, class 8 the protection queue. -/
def State.oldest (s : State) (p q : Nat) : Option QMsg :=
  s.host.queues.find? (fun x => x.panel == p && (if q = 8 then x.prio == 3 else x.prio != 3 && x.cls == q))

/-- It is the panel's, and of its class outside the protection queue. -/
theorem State.oldest_mine {p q : Nat} {m : QMsg} (h : s.oldest p q = some m) : m.panel = p ∧ (m.prio ≠ 3 → m.cls = q) := by
  have found := List.find?_some h
  simp only [Bool.and_eq_true, beq_iff_eq] at found
  obtain ⟨hp, hq⟩ := found
  refine ⟨hp, fun h3 => ?_⟩
  split at hq
  · exact absurd (beq_iff_eq.mp hq) h3
  · simpa [h3] using hq

theorem exec_qAgeDrop_oldest {p q : Nat} {m : QMsg} (h : s.oldest p q = some m) :
    exec (.qAgeDrop p q) s = .next (((s.reach (m.tickIn + s.queueAge m)).dequeue m).bump .PNL_HO_CNT_q_age_drop p) := by
  unfold State.oldest at h
  show execQAgeDrop p q s = _
  simp only [execQAgeDrop, h]

@[simp] theorem State.dequeue_tick (s : State) (m : QMsg) : (s.dequeue m).tick = s.tick := by
  unfold State.dequeue
  dsimp only
  split
  · rfl
  · rfl

theorem State.credit_returnCredit (s : State) (p q : Nat) : (s.returnCredit p q).credit p q = s.credit p q + 1 := by
  show (s.setCredit p q (s.credit p q + 1)).credit p q = _
  exact s.credit_setCredit ..

/-- A message of classes 0 to 2 that leaves its queue returns its credit. -/
theorem State.credit_dequeue {m : QMsg} (h : m.prio ≠ 3) :
    (s.dequeue m).credit m.panel m.cls = s.credit m.panel m.cls + 1 := by
  unfold State.dequeue
  exact (congrArg (fun t : State => t.credit m.panel m.cls) (if_neg h)).trans (State.credit_returnCredit ..)

theorem State.dequeue_flds (s : State) (m : QMsg) {p q : Nat} (hp : m.panel = p) (hq : m.prio ≠ 3 → m.cls = q) :
    FldsKept [(.PNL_CREDIT_ret_lo, 4 * p + q / 2), (.PNL_CREDIT_ret_hi, 4 * p + q / 2)] s (s.dequeue m) := by
  subst hp
  unfold State.dequeue
  dsimp only
  by_cases h : m.prio = 3
  · rw [if_pos h]; exact (FldsKept.refl _ s).congr rfl
  · rw [if_neg h, hq h]
    refine FldsKept.congr (t := State.setFld _ _ _ _) (FldsKept.setFld ((FldsKept.refl _ s).congr rfl) _ ?_) rfl
    split
    · exact List.mem_cons_self
    · exact List.mem_cons_of_mem _ List.mem_cons_self

/-! Frames from the hosts (R390 to R392). -/

theorem exec_hostFrameRx_down {port : Nat} (h : s.linkUp port = false) (f : List Byte) (ok : Bool) (tick : Nat) :
    exec (.hostFrameRx port f ok tick) s = .next s := congrArg Host.Outcome.next (if_pos (.inr h))

theorem exec_hostFrameRx_badFcs {port : Nat} (hp : port < 2) (hl : s.linkUp port = true) (f : List Byte) (tick : Nat) :
    exec (.hostFrameRx port f false tick) s = .next (({ s with tick := max s.tick (tick / 16) } : State).bump .HST_PORT_CNT_fcs_err port) :=
  congrArg Host.Outcome.next (if_neg (by simp [hl, hp]))

theorem State.frameIn_length {f : List Byte} (h : f.length < 60 ∨ 16444 < f.length) (s : State) (port tick : Nat) :
    s.frameIn port f tick = s.bump .HST_PORT_CNT_mac_drop port := if_pos h

/-- The ARP reply of a panel to a request (R392 step 5). -/
def State.arpFrame (s : State) (i : PanelItem) (h : EthHdr) : EgFrame :=
  { order := 3, panel := i.panel, ports := i.ports, cls := 8
    bytes := be 6 h.src ++ be 6 s.macAddr ++ be 2 0x8100 ++ be 2 (h.pcp * 8192 + i.mgmtVid) ++ be 2 0x0806
      ++ h.body.take 6 ++ be 2 2 ++ be 6 s.macAddr ++ be 4 i.ipv4 ++ slice h.body 8 10 }

theorem exec_arpRequest_frame {port vid : Nat} {f : List Byte} {i : PanelItem} (hi : s.mgmtPanel vid = some i) (hp : port < 2)
    (het : (ethParse f).etype = 0x0806) (hop : beAt (ethParse f).body 6 2 = 1) (hip : beAt (ethParse f).body 24 4 = i.ipv4)
    (hprp : s.prpOn = false) : exec (.arpRequest port vid f) s
      = .next { s with host := { s.host with egress := s.host.egress ++ [s.arpFrame i (ethParse f)] } } := by
  have replied : s.arpReply i (ethParse f) = s.egressFrame (s.arpFrame i (ethParse f)) := if_pos ⟨hop, hip⟩
  refine congrArg Host.Outcome.next ?_
  rw [hi]
  exact (if_pos ⟨hp, het⟩).trans (replied.trans (State.egressFrame_plain hprp _))

/-! PRP supervision and port links (R390, R403, R404). -/

/-- The copy of a frame that leaves on one port under PRP, with its trailer. -/
def EgFrame.onLan (f : EgFrame) (ports seq lan : Nat) (copy : Bool) : EgFrame :=
  { f with ports := ports, bytes := f.bytes ++ rct seq lan f.bytes, copy := copy }

/-- The supervision frame as it is queued. -/
def State.supervision (s : State) : EgFrame := { order := 3, panel := noPanel, ports := 3, cls := 8, bytes := s.supFrame }

/-- The state that a supervision frame sent at its time leaves. -/
def State.supSent (s : State) : State :=
  let t := max s.tick (s.host.supAt + msTicks s.pat.ports.prpLifeMs)
  { s with
    tick := t
    host := { s.host with
      prpSeq := (s.host.prpSeq + 1) % 65536
      egress := s.host.egress ++ [s.supervision.onLan 1 s.host.prpSeq 0xA false, s.supervision.onLan 2 s.host.prpSeq 0xB true]
      supSeq := (s.host.supSeq + 1) % 65536, supAt := t } }

theorem exec_prpSupervisionSend_off (h : s.prpOn = false) : exec .prpSupervisionSend s = .next s :=
  congrArg Host.Outcome.next (if_neg (by simp [h]))

theorem exec_prpSupervisionSend_on (h : s.prpOn = true) (hl : 0 < s.pat.ports.prpLifeMs) :
    exec .prpSupervisionSend s = .next s.supSent := by
  refine congrArg Host.Outcome.next ((if_pos ⟨h, hl⟩).trans ?_)
  have on : (s.reach (s.host.supAt + msTicks s.pat.ports.prpLifeMs)).prpOn = true := h
  simp only [State.egressFrame, if_pos on]
  rfl

/-- The link a port has after its change. -/
def State.linkAfter (s : State) (port : Nat) (up : Bool) : Bool :=
  up && s.fld .HST_PORT_STATUS_mode port != 0xF && !s.host.failed.contains port

theorem exec_hostLinkChange_eq {port : Nat} (hp : port < 2) (up : Bool) : exec (.hostLinkChange port up) s
    = .next (((s.setFlag .HST_PORT_STATUS_link_up port (s.linkAfter port up)).setFlag .HST_PORT_STATUS_fec_lock port
      (s.linkAfter port up)).setFlag .HST_PORT_STATUS_an_done port (s.linkAfter port up && s.pat.ports.an)) :=
  congrArg Host.Outcome.next (if_neg (Nat.not_le.mpr hp))

theorem b2n_beq_one (b : Bool) : (b2n b == 1) = b := by
  cases b
  · rfl
  · rfl

/-- Settles O43, row by row. -/
theorem hostMessagesAreCheckedAndQueued : Obligations.HostMessagesAreCheckedAndQueued := by
  refine ⟨?handover, ?age, ?frame, ?arp, fun _ _ _ => rfl, ?supervision, ?link, ?query⟩
  case handover =>
    intro s p q m c hp hq hi hc h
    rw [exec_handover hp hq hi hc]
    have next {t u : State} (e : t = u) : Host.Outcome.next (φ := Fault) (ρ := Refusal) t = .next u := congrArg _ e
    refine ⟨fun hb => next (State.handoverIn_bad hb), fun hb hd => next (State.handoverIn_denied hb hd),
      fun hb hd hr => next (State.handoverIn_noRight hb hd hr), fun hb hd hr h3 hc0 => next (State.handoverIn_noCredit hb hd hr h3 hc0),
      fun hb hd hr hl hc0 hprot => ⟨_, s.handed p q m, rfl, ?_⟩⟩
    rw [State.handoverIn_passes hb hd hr hl hc0]
    exact ⟨State.queueMsg_queues hprot, rfl, rfl, rfl, rfl, rfl, rfl, rfl, rfl, rfl, rfl, State.queueMsg_regs hprot,
      s.credit_queueMsg (s.handed p q m)⟩
  case age =>
    intro s p q m hm
    obtain ⟨hp, hq⟩ := State.oldest_mine hm
    refine ⟨_, exec_qAgeDrop_oldest hm, State.dequeue_tick .., State.dequeue_queues .., fun h3 => ?_, ?_, ?_⟩
    · have returned := State.credit_dequeue (s := s.reach (m.tickIn + s.queueAge m)) h3
      rwa [hp, hq h3] at returned
    · rw [State.fld_bump, if_pos ⟨rfl, rfl⟩, State.dequeue_flds _ m hp hq _ _ (by simp)]
      rfl
    · exact (((FldsKept.refl _ s).reach _).trans ((State.dequeue_flds _ m hp hq).mono fun _ => List.mem_cons_of_mem _)).bump
        List.mem_cons_self
  case frame =>
    exact fun s port tick f ok => ⟨fun hl => exec_hostFrameRx_down hl f ok tick, fun hp hl => exec_hostFrameRx_badFcs hp hl f tick,
      fun hp hl h => (exec_hostFrameRx hp hl f tick).trans (congrArg _ (State.frameIn_length h _ port tick))⟩
  case arp =>
    exact fun s port vid f i hi hp het hop hip hprp =>
      ⟨_, exec_arpRequest_frame hi hp het hop hip hprp, rfl, rfl, rfl, rfl⟩
  case supervision =>
    exact fun s => ⟨exec_prpSupervisionSend_off, fun h hl =>
      ⟨s.supSent, _, _, exec_prpSupervisionSend_on h hl, rfl, rfl, rfl, rfl, rfl, rfl, rfl, rfl, rfl⟩⟩
  case link =>
    intro s port up hp
    refine ⟨_, exec_hostLinkChange_eq hp up, ?_, ?_,
      (((FldsKept.refl _ s).setFlag _ (by simp)).setFlag _ (by simp)).setFlag _ (by simp)⟩
    · rw [State.linkUp, State.flag, State.fld_setFlag, if_neg (by simp), State.fld_setFlag, if_neg (by simp),
        State.fld_setFlag_same _ _ _ _ rfl, b2n_beq_one]
      rfl
    · rw [State.fld_setFlag, if_neg (by simp), State.fld_setFlag_same _ _ _ _ rfl, State.fld_setFlag, if_neg (by simp),
        State.fld_setFlag, if_neg (by simp), State.fld_setFlag_same _ _ _ _ rfl]
  case query =>
    intro s c part ht
    by_cases h : 1 < part
    · rw [if_pos h]
      exact ohi_answers ht (if_pos h)
    · rw [if_neg h]
      exact exec_pnlQuery ht (Nat.not_lt.mp h)

end Sys2Proof.Machine
end

section
/-! SUPPORT. Command contacts whole (R429 to R436): handing a group's message over takes no time, what sending it leaves of the groups,
the debounce of an input, and outputs with the fields that show them. -/

namespace Sys2Proof.Machine

/-! A message handed over takes no time. -/

theorem State.tick_startWaking (s : State) (r : Nat) : (s.startWaking r).tick = s.tick := by
  unfold State.startWaking
  dsimp only
  split
  · exact State.bump_tick ..
  · rfl

theorem State.tick_handoverWake {s t : State} {panel ch peer prio : Nat} {ackReq enc : Bool} {ep : Nat} {data : List Byte}
    {launch : Option Nat} (h : s.handoverWake panel ch peer prio ackReq enc ep data launch = some t) : t.tick = s.tick := by
  obtain ⟨u, hu, rfl⟩ := Option.map_eq_some_iff.mp h
  obtain ⟨d, rfl⟩ := State.handover_dlv hu
  split
  · unfold State.wakeFor
    split
    · exact State.tick_startWaking ..
    · rfl
  · rfl

theorem State.tick_enterSeen (s : State) (m origin oseq : Nat) : (s.enterSeen m origin oseq).tick = s.tick := by
  unfold State.enterSeen
  dsimp only
  split
  · rfl
  · split
    · rfl
    · exact State.log_tick ..

theorem State.tick_addCopy (s : State) (panel prio ch ttl origin oseq : Nat) (segs : List Byte) (enc : Bool) :
    (s.addCopy panel prio ch ttl origin oseq segs enc).tick = s.tick := by
  unfold State.addCopy
  split
  · rfl
  next pool t ht =>
    obtain ⟨d, hd⟩ := State.takeDesc_dlv ht
    subst hd
    rfl

theorem State.tick_sealField {s : State} {ch sender dst link ep seq frag : Nat} {data : List Byte} {x : List Byte × State}
    (h : s.sealField ch sender dst link ep seq frag data = some x) : x.2.tick = s.tick := by
  unfold State.sealField at h
  split at h
  · split at h
    · cases h
    · split at h
      · cases h
      · cases h
        rfl
  · cases h

theorem State.tick_originateOn (s : State) (m : QMsg) (oseq ttl ch : Nat) : (s.originateOn m oseq ttl ch).tick = s.tick := by
  have drawn : (s.enterSeen m.target (s.ownAddr ch) oseq).drawFree.2.tick = s.tick := State.tick_enterSeen ..
  unfold State.originateOn
  dsimp only
  split
  · split
    · exact drawn
    next field t ht => exact (State.tick_addCopy ..).trans ((State.tick_sealField ht).trans drawn)
  · exact (State.tick_addCopy ..).trans drawn

theorem State.tick_originate (s : State) (m : QMsg) : (s.originate m).tick = s.tick :=
  List.foldlRecOn (motive := fun t : State => t.tick = s.tick) _ _ rfl fun t ht _ _ => (State.tick_originateOn t ..).trans ht

theorem State.tick_giveMsg {s t : State} {m : QMsg} (h : s.giveMsg m = some t) : t.tick = s.tick := by
  unfold State.giveMsg at h
  split at h
  · split at h
    · cases h
    · cases h
      exact State.tick_originate ..
  · exact State.tick_handoverWake h

/-! Groups (R430). -/

/-- Of the command contacts `t` has changed no more than group `g` of `s`, and its sequence number not at all; no time has passed. -/
structure GroupSent (g : Nat) (s t : State) : Prop where
  seq : (t.group g).seq = (s.group g).seq
  others : ∀ j : Nat, j ≠ g → t.group j = s.group j
  rest : { t.cmd with groups := s.cmd.groups } = s.cmd
  tick : t.tick = s.tick

theorem GroupSent.refl (g : Nat) (s : State) : GroupSent g s s := ⟨rfl, fun _ _ => rfl, rfl, rfl⟩

theorem GroupSent.of_cmd {g : Nat} {s t u : State} (h : GroupSent g s t) (hc : u.cmd = t.cmd) (ht : u.tick = t.tick) :
    GroupSent g s u := by
  have same (j : Nat) : u.group j = t.group j := by rw [State.group, hc, State.group]
  exact ⟨(congrArg CmdGroup.seq (same g)).trans h.seq, fun j hj => (same j).trans (h.others j hj), hc ▸ h.rest, ht.trans h.tick⟩

theorem GroupSent.setGroup {g : Nat} {s t : State} (h : GroupSent g s t) {c : CmdGroup} (hc : c.seq = (t.group g).seq) :
    GroupSent g s (t.setGroup g c) :=
  ⟨by rw [State.group_setGroup_same, hc, h.seq], fun j hj => (tget_tput_ne hj ..).trans (h.others j hj), h.rest, h.tick⟩

/-- The tick and the contacts' state of a counter's state are its own. -/
theorem GroupSent.bump {g : Nat} {s t : State} (h : GroupSent g s t) (F : Fld) (i : Nat) : GroupSent g s (t.bump F i) := h.of_cmd rfl rfl

theorem GroupSent.outs {g : Nat} {s t : State} (h : GroupSent g s t) : t.cmd.outs = s.cmd.outs := by
  have e := congrArg CmdSt.outs h.rest
  exact e

theorem GroupSent.edges {g : Nat} {s t : State} (h : GroupSent g s t) : t.cmd.edges = s.cmd.edges := by
  have e := congrArg CmdSt.edges h.rest
  exact e

theorem GroupSent.giveGroup {g : Nat} {s t : State} (h : GroupSent g s t) : GroupSent g s (t.giveGroup g) := by
  unfold State.giveGroup
  split
  · exact h
  · dsimp only
    split
    · exact h.setGroup rfl
    next u hu =>
      obtain ⟨hc, -⟩ := Prod.mk.inj (State.contacts_giveMsg hu)
      exact (h.of_cmd hc (State.tick_giveMsg hu)).setGroup rfl

theorem GroupSent.replaceQueued {g : Nat} {s t : State} (h : GroupSent g s t) (flood : Bool) (data : List Byte) :
    GroupSent g s (t.replaceQueued g flood data) := by
  unfold State.replaceQueued
  split
  · exact h
  · dsimp only
    split
    · exact (h.bump .CMD_CNT_cmd_merge 0).of_cmd rfl rfl
    · exact (h.bump .CMD_CNT_cmd_merge 0).of_cmd rfl rfl

theorem State.sendGroup_sent (s : State) (g : Nat) : GroupSent g s (s.sendGroup g) := by
  unfold State.sendGroup
  split
  · exact GroupSent.refl g s
  · extract_lets c u
    have built : GroupSent g s u := (GroupSent.refl g s).setGroup rfl
    split
    · exact built.bump ..
    · split
      · exact built.replaceQueued ..
      · exact built.giveGroup

/-! Inputs (R429). -/

/-- The state of an accepted change before its group's message is sent: the edge done, the input by its level, the next number. -/
def State.inputAccepted (s : State) (i tk : Nat) (c : ContactItem) (on : Bool) : State :=
  let u : State := { s with cmd := { s.cmd with edges := tdel i s.cmd.edges, changed := tset i tk s.cmd.changed } }
  let v := u.setFld .CMD_IN_STATE_asserted 0 (setBit (u.fld .CMD_IN_STATE_asserted 0) i on)
  v.setGroup c.group { v.group c.group with seq := ((v.group c.group).seq + 1) % 65536 }

theorem State.acceptInput_eq {s : State} {i tk : Nat} {h : Bool} {c : ContactItem} (hc : s.contact i = some c)
    (hf : c.function = 1) (he : tfind i s.cmd.edges = some (h, tk)) (hx : xor h c.invert ≠ s.inputOn i) :
    s.acceptInput i = (s.inputAccepted i tk c (xor h c.invert)).sendGroup c.group := by
  unfold State.acceptInput
  rw [hc, he]
  exact if_neg (not_or.mpr ⟨not_not.mpr hf, hx⟩)

/-- Accepting a change takes no time. -/
theorem State.tick_acceptInput (s : State) (i : Nat) : (s.acceptInput i).tick = s.tick := by
  unfold State.acceptInput
  split
  · dsimp only
    split
    · rfl
    · exact (State.sendGroup_sent ..).tick
  · rfl

/-- What an accepted change leaves: no edge, the group's next number, the other groups as they were. -/
theorem State.acceptInput_groups {s : State} {i tk : Nat} {h : Bool} {c : ContactItem} (hc : s.contact i = some c)
    (hf : c.function = 1) (he : tfind i s.cmd.edges = some (h, tk)) (hx : xor h c.invert ≠ s.inputOn i) :
    tfind i (s.acceptInput i).cmd.edges = none ∧ ((s.acceptInput i).group c.group).seq = ((s.group c.group).seq + 1) % 65536 ∧
      ∀ g : Nat, g ≠ c.group → (s.acceptInput i).group g = s.group g := by
  rw [State.acceptInput_eq hc hf he hx]
  have sent := State.sendGroup_sent (s.inputAccepted i tk c (xor h c.invert)) c.group
  refine ⟨(congrArg (tfind i) sent.edges).trans (tfind_tdel_same ..), ?_, fun g hg => ?_⟩
  · rw [sent.seq, State.inputAccepted, State.group_setGroup_same]
    rfl
  · exact (sent.others g hg).trans (tget_tput_ne hg ..)

/-- The levels of the inputs with one written at its tick. -/
def State.pinSeen (s : State) (i tick : Nat) (h : Bool) : State :=
  ({ s with tick := max s.tick tick } : State).setFld .CMD_IN_STATE_pin 0 (setBit (s.fld .CMD_IN_STATE_pin 0) i h)

/-- An input's level means that it is on. -/
def State.levelOn (s : State) (i : Nat) (h : Bool) : Bool := xor h ((s.contact i).any (·.invert))

theorem State.inputOn_pinSeen (s : State) (i tick : Nat) (h : Bool) : (s.pinSeen i tick h).inputOn i = s.inputOn i :=
  congrArg (bit · i) (State.fld_setFld_ne _ _ (by simp))

/-- The edges awaited by the debounce. -/
def State.withEdges (s : State) (l : Tbl (Bool × Nat)) : State := { s with cmd := { s.cmd with edges := l } }

/-- An edge back to the accepted level ends the debounce. -/
theorem exec_contactInputEdge_reverts {s : State} {i : Nat} {h : Bool} (hi : i ≤ 15) (hin : s.isInput i = true)
    (he : s.levelOn i h = s.inputOn i) (tick : Nat) : exec (.contactInputEdge i h tick) s
      = .next ((s.pinSeen i tick h).withEdges (tdel i s.cmd.edges)) := by
  refine congrArg Host.Outcome.next ((if_neg (Nat.not_lt.mpr hi)).trans ((if_pos hin).trans (if_pos ?_)))
  exact he.trans (s.inputOn_pinSeen i tick h).symm

/-- An edge away from it starts the debounce; with none the change is accepted at once. -/
theorem exec_contactInputEdge_leaves {s : State} {i : Nat} {h : Bool} (hi : i ≤ 15) (hin : s.isInput i = true)
    (he : s.levelOn i h ≠ s.inputOn i) (tick : Nat) : exec (.contactInputEdge i h tick) s
      = .next (if s.fld .CMD_CT_CFG_debounce i = 0 then
          ((s.pinSeen i tick h).withEdges (tset i (h, tick) s.cmd.edges)).acceptInput i
        else (s.pinSeen i tick h).withEdges (tset i (h, tick) s.cmd.edges)) := by
  have leaves : ¬ s.levelOn i h = (s.pinSeen i tick h).inputOn i := fun e => he (e.trans (s.inputOn_pinSeen i tick h))
  have debounce : (s.pinSeen i tick h).fld .CMD_CT_CFG_debounce i = s.fld .CMD_CT_CFG_debounce i := State.fld_setFld_ne _ _ (by simp)
  rw [← debounce]
  exact congrArg Host.Outcome.next ((if_neg (Nat.not_lt.mpr hi)).trans ((if_pos hin).trans (if_neg leaves)))

/-- A contact that is no input has a level and nothing more. -/
theorem exec_contactInputEdge_other {s : State} {i : Nat} (hi : i ≤ 15) (hin : s.isInput i = false) (h : Bool) (tick : Nat) :
    exec (.contactInputEdge i h tick) s = .next (s.pinSeen i tick h) :=
  congrArg Host.Outcome.next ((if_neg (Nat.not_lt.mpr hi)).trans (if_neg (ne_true_of_eq_false hin)))

/-- An input edge takes the time of its tick. -/
theorem contactInputEdge_tick {s t : State} {i tick : Nat} {h : Bool} (hi : i ≤ 15) (ht : exec (.contactInputEdge i h tick) s = .next t) :
    t.tick = max s.tick tick := by
  cases hin : s.isInput i with
  | false => exact (Host.Outcome.next.inj (ht.symm.trans (exec_contactInputEdge_other hi hin h tick))) ▸ rfl
  | true =>
    by_cases he : s.levelOn i h = s.inputOn i
    · exact (Host.Outcome.next.inj (ht.symm.trans (exec_contactInputEdge_reverts hi hin he tick))) ▸ rfl
    · obtain rfl := Host.Outcome.next.inj (ht.symm.trans (exec_contactInputEdge_leaves hi hin he tick))
      split
      · exact State.tick_acceptInput ..
      · rfl

/-! Outputs (R428, R432 to R434). -/

/-- The fields that show the outputs. -/
abbrev outFlds : List (Fld × Nat) := [(.CMD_OUT_STATE_active, 0), (.CMD_OUT_STATE_forced, 0)]

theorem FldsKept.setOut {fs : List (Fld × Nat)} {s t : State} (h : FldsKept fs s t) (ha : (.CMD_OUT_STATE_active, 0) ∈ fs)
    (hf : (.CMD_OUT_STATE_forced, 0) ∈ fs) (i : Nat) (o : OutPin) : FldsKept fs s (t.setOut i o) :=
  ((h.congr rfl).setFld _ ha).setFld _ hf

theorem State.setOut_flds (s : State) (i : Nat) (o : OutPin) : FldsKept outFlds s (s.setOut i o) :=
  (FldsKept.refl _ s).setOut (by simp) (by simp) i o

/-- An output stored is driven at its forced level, or its own. -/
theorem State.bit_active_setOut (s : State) {i : Nat} (hi : i < 16) (o : OutPin) :
    bit ((s.setOut i o).fld .CMD_OUT_STATE_active 0) i = o.forced.getD o.active := by
  unfold State.setOut
  rw [State.fld_setFld_ne _ _ (by simp)]
  exact (State.bit_setFld_setBit _ (by exact hi) ..).trans (if_pos rfl)

theorem State.bit_forced_setOut (s : State) {i : Nat} (hi : i < 16) (o : OutPin) :
    bit ((s.setOut i o).fld .CMD_OUT_STATE_forced 0) i = o.forced.isSome := by
  unfold State.setOut
  exact (State.bit_setFld_setBit _ (by exact hi) ..).trans (if_pos rfl)

/-- A bit applied to an output that is not of mode PULSE sets it, and leaves what it is forced to. -/
theorem OutPin.apply_level {mode : Nat} (h : mode ≠ 1) (o : OutPin) (b : Bool) (tick : Nat) :
    o.apply mode b tick = { o with active := b, last := b, watched := false } := by
  unfold OutPin.apply
  split
  · exact absurd rfl h
  · rfl

/-- The state after the first message of a group with one output that the message names. -/
def State.commanded (s : State) (g : Nat) (m : List Byte) (o : ContactItem) : State :=
  let c : CmdGroup := { s.group g with rxSeq := some (beAt m 2 2), seen := true, rxAt := s.tick }
  let u := (s.setGroup g c).setOut o.contact { s.outPin o.contact with watched := false }
  u.setOut o.contact { u.outPin o.contact with active := bit (beAt m 6 2) o.bitpos, last := bit (beAt m 6 2) o.bitpos, watched := false }

theorem exec_commandMessage_first {s : State} {g : Nat} {m : List Byte} {o : ContactItem} (hg : g < 16) (hl : m.length = 8)
    (h0 : beAt m 0 1 = 0xC1) (h1 : beAt m 1 1 = 1) (hr : (s.group g).rxSeq = none) (ho : s.groupOutputs g = [o])
    (hv : bit (beAt m 4 2) o.bitpos = true) (hm : o.mode ≠ 1) : exec (.commandMessage g m) s = .next (s.commanded g m o) := by
  refine congrArg Host.Outcome.next ((if_pos hg).trans ?_)
  unfold State.applyCommand
  rw [if_neg (by simp [hl, h0, h1])]
  dsimp only
  rw [if_pos (.inl (by rw [hr]; rfl)), ho, List.filter_cons_of_pos (by exact hv), List.filter_nil]
  simp only [List.foldl_cons, List.foldl_nil, OutPin.apply_level hm]
  rfl

/-- What that message leaves of the output it names. -/
theorem State.commanded_spec (s : State) (g : Nat) (m : List Byte) {o : ContactItem} (hlt : o.contact < 16) :
    (s.commanded g m o).outPin o.contact
      = { s.outPin o.contact with active := bit (beAt m 6 2) o.bitpos, last := bit (beAt m 6 2) o.bitpos, watched := false } ∧
    ((s.commanded g m o).group g).rxSeq = some (beAt m 2 2) ∧
    bit ((s.commanded g m o).fld .CMD_OUT_STATE_active 0) o.contact
      = (s.outPin o.contact).forced.getD (bit (beAt m 6 2) o.bitpos) ∧ FldsKept outFlds s (s.commanded g m o) := by
  refine ⟨?_, congrArg CmdGroup.rxSeq (s.group_setGroup_same g _), ?_,
    ((FldsKept.refl _ s).congr rfl).trans ((State.setOut_flds _ _ _).trans (State.setOut_flds _ _ _))⟩
  · rw [State.commanded, State.outPin_setOut_same, State.outPin_setOut_same]
  · rw [State.commanded, State.bit_active_setOut _ hlt, State.outPin_setOut_same]

/-- A message behind the last one applied is counted (R432). -/
theorem exec_commandMessage_stale {s : State} {g q : Nat} {m : List Byte} (hg : g < 16) (hl : m.length = 8)
    (h0 : beAt m 0 1 = 0xC1) (h1 : beAt m 1 1 = 1) (hr : (s.group g).rxSeq = some q)
    (hq : 32768 ≤ (beAt m 2 2 + 65536 - q) % 65536) : exec (.commandMessage g m) s = .next (s.bump .CMD_CNT_cmd_stale 0) := by
  refine congrArg Host.Outcome.next ((if_pos hg).trans ?_)
  unfold State.applyCommand
  rw [if_neg (by simp [hl, h0, h1])]
  dsimp only
  rw [hr, Option.getD_some, Option.isNone_some, if_neg (by simp; omega), if_neg (by omega)]

theorem exec_commandMessage_bad {s : State} {g : Nat} {m : List Byte} (hg : g < 16)
    (h : m.length ≠ 8 ∨ beAt m 0 1 ≠ 0xC1 ∨ beAt m 1 1 ≠ 1) : exec (.commandMessage g m) s = .next (s.bump .CMD_CNT_cmd_bad 0) :=
  congrArg Host.Outcome.next ((if_pos hg).trans (if_pos h))

/-- The watchdog of a FOLLOW output releases it, counts and logs (R433). -/
theorem exec_cmdWatch_expires {s : State} {i : Nat} {c : ContactItem} (hc : s.contact i = some c) (hf : c.function = 2) (hm : c.mode = 0)
    (hw : c.watchMs ≠ 0) (ho : (s.outPin i).watched = false) (hg : (s.group c.group).seen = true) : exec (.cmdWatch i) s
      = .next (((((s.reach ((s.group c.group).rxAt + msTicks c.watchMs)).setOut i { s.outPin i with active := false, watched := true }).bump
          .CMD_CNT_watch_exp 0)).log 0x4101 (s.contactOwner i) i (outData c)) := by
  show execCmdWatch i s = _
  unfold execCmdWatch
  rw [hc]
  dsimp only
  rw [if_neg (by simp [hf, hm, hw, ho, hg])]
  rfl

theorem exec_pulseEnd_ends {s : State} {i : Nat} {c : ContactItem} (hc : s.contact i = some c) (hp : (s.outPin i).pulse = true) :
    exec (.pulseEnd i) s
      = .next ((s.reach ((s.outPin i).pulseAt + msTicks c.pulseMs)).setOut i { s.outPin i with active := false, pulse := false }) := by
  refine congrArg Host.Outcome.next ((if_pos hp).trans ?_)
  rw [hc]
  rfl

/-- The end of a forcing: the output is driven by its own level again, and the end is logged. -/
theorem State.endForce_eq {s : State} {i : Nat} (hf : (s.outPin i).forced ≠ none) : ∃ data : Nat, s.endForce i
    = (s.setOut i { s.outPin i with forced := none, forceEnd := 0 }).log 0x4102 (s.contactOwner i) i data :=
  ⟨_, if_neg (by simpa using hf)⟩

theorem State.endForce_spec {s : State} {i : Nat} (hi : i < 16) (hf : (s.outPin i).forced ≠ none) :
    (s.endForce i).tick = s.tick ∧ (s.endForce i).outPin i = { s.outPin i with forced := none, forceEnd := 0 } ∧
      bit ((s.endForce i).fld .CMD_OUT_STATE_forced 0) i = false ∧
      bit ((s.endForce i).fld .CMD_OUT_STATE_active 0) i = (s.outPin i).active ∧
      FldsKept (outFlds ++ logFlds) s (s.endForce i) := by
  obtain ⟨data, e⟩ := State.endForce_eq hf
  rw [e, State.log_tick, State.outPin_log, State.fld_log _ _ _ _ _ (by simp [logFlds]), State.fld_log _ _ _ _ _ (by simp [logFlds]),
    State.outPin_setOut_same, State.bit_forced_setOut _ hi, State.bit_active_setOut _ hi]
  exact ⟨rfl, rfl, rfl, rfl, ((s.setOut_flds i _).mono fun _ => List.mem_append_left _).log _ _ _ _⟩

/-! The contact commands (R436). -/

section
variable {c : Cmd} {s : State} {i : Nat} (ht : s.Takes c) (hi : i ≤ 15) (ho : c.pnl = 0 ∨ s.contactOwner i = c.pnl)
include ht hi ho

theorem exec_cmdForce_denied {lv ms : Nat} (hl : lv ≤ 1) (hm : 1 ≤ ms) (hs : ms ≤ 60000) (he : s.expertOk c.pnl = false) :
    exec (.cmdForce c i lv ms) s = .next (s.answer c 0x4102 (rsp .denied)) :=
  ohi_answers ht ((if_neg (by omega)).trans ((conCmd_passes hi ho _).trans (if_pos he)))

theorem exec_cmdForce_forces {lv ms : Nat} (hl : lv ≤ 1) (hm : 1 ≤ ms) (hs : ms ≤ 60000) (he : s.expertOk c.pnl = true)
    (hx : s.isOutput i = true) : exec (.cmdForce c i lv ms) s = .next
      ((s.setOut i { s.outPin i with forced := some (lv == 1), forceEnd := s.tick + msTicks ms }).answer c 0x4102 (rsp .ok)) :=
  ohi_answers ht ((if_neg (by omega)).trans ((conCmd_passes hi ho _).trans
    ((if_neg (by simp [he])).trans (if_neg (by simp [hx])))))

theorem exec_cmdRelease_unforced (hx : s.isOutput i = true) (hf : (s.outPin i).forced = none) :
    exec (.cmdRelease c i) s = .next (s.answer c 0x4103 (rsp .badState)) :=
  ohi_answers ht ((conCmd_passes hi ho _).trans ((if_neg (by simp [hx])).trans (if_pos (by simp [hf]))))

theorem exec_cmdRelease_ends (hx : s.isOutput i = true) (hf : (s.outPin i).forced ≠ none) :
    exec (.cmdRelease c i) s = .next ((s.endForce i).answer c 0x4103 (rsp .ok)) :=
  ohi_answers ht ((conCmd_passes hi ho _).trans ((if_neg (by simp [hx])).trans (if_neg (by simpa using hf))))

end

/-- Settles O49, row by row. -/
theorem contactsDebounceAndFollowCommands : Obligations.ContactsDebounceAndFollowCommands := by
  refine ⟨?edge, ?accepted, ?noEdge, ?refresh, ?message, ?output, ?commands⟩
  case edge =>
    intro s i tick h hi
    obtain ⟨t, ht, hpin⟩ := exec_contactInputEdge hi s tick h
    refine ⟨t, ht, hpin, contactInputEdge_tick hi ht, fun hin he => ?_, fun hin he hd => ?_⟩
    · obtain rfl := Host.Outcome.next.inj (ht.symm.trans (exec_contactInputEdge_reverts hi hin he tick))
      exact tfind_tdel_same ..
    · obtain rfl := Host.Outcome.next.inj (ht.symm.trans (exec_contactInputEdge_leaves hi hin he tick))
      rw [if_neg hd]
      exact ⟨tfind_tset_same .., (((FldsKept.refl _ s).congr rfl).setFld _ (by simp)).congr rfl⟩
  case accepted =>
    intro s i tk h c hi hc hf he hx
    obtain ⟨hedge, hseq, hothers⟩ := State.acceptInput_groups (s := s.reach (tk + 200 * s.fld .CMD_CT_CFG_debounce i)) hc hf he hx
    exact ⟨_, exec_contactChangeAccepted he,
      State.acceptInput_on (s := s.reach (tk + 200 * s.fld .CMD_CT_CFG_debounce i)) hi hc hf he hx, hedge, hseq, hothers⟩
  case noEdge =>
    intro s i he
    show execContactChangeAccepted i s = _
    rw [execContactChangeAccepted, he]
  case refresh =>
    intro s g i hi hb hr
    have sent := State.sendGroup_sent (s.reach ((s.group g).sentAt + msTicks i.refreshMs)) g
    obtain ⟨hat, -⟩ := State.sendGroup_spec (s.reach ((s.group g).sentAt + msTicks i.refreshMs)) g
    exact ⟨_, exec_commandRefresh hi hb hr, sent.seq, hat (Option.isSome_iff_exists.mpr ⟨i, hi⟩), sent.outs⟩
  case message =>
    intro s g m hg
    refine ⟨exec_commandMessage_bad hg, fun hl h0 h1 => ⟨fun q hr hq => exec_commandMessage_stale hg hl h0 h1 hr hq,
      fun o hr ho hv hm hlt => ⟨_, exec_commandMessage_first hg hl h0 h1 hr ho hv hm, ?_⟩⟩⟩
    obtain ⟨hpin, hseq, hactive, hflds⟩ := s.commanded_spec g m hlt
    rw [hpin]
    exact ⟨hseq, rfl, rfl, rfl, hactive, hflds⟩
  case output =>
    intro s i c hc hi hf
    refine ⟨fun hm hw ho hg => ?watch, fun hp => congrArg Host.Outcome.next (if_neg (by simp [hp])), fun hp => ?pulse,
      fun hn => congrArg Host.Outcome.next (if_pos (by simp [hn])), fun hn => ?force⟩
    case watch =>
      refine ⟨_, exec_cmdWatch_expires hc hf hm hw ho hg, State.log_tick .., ?_, ?_, FldsKept.log (FldsKept.bump ?_ (by simp)) _ _ _ _⟩
      · rw [State.outPin_log, State.outPin_bump, State.outPin_setOut_same]
      · rw [State.fld_log _ _ _ _ _ (by simp [logFlds]), State.fld_bump, if_pos ⟨rfl, rfl⟩, State.setOut_flds _ _ _ _ _ (by simp)]
        rfl
      · exact ((FldsKept.refl _ s).reach _).setOut (by simp) (by simp) i _
    case pulse =>
      exact ⟨_, exec_pulseEnd_ends hc hp, rfl, State.outPin_setOut_same ..,
        ((FldsKept.refl _ s).reach _).trans (State.setOut_flds _ _ _)⟩
    case force =>
      obtain ⟨htick, hpin, hforced, hactive, hflds⟩ := State.endForce_spec (s := s.reach (s.outPin i).forceEnd) hi hn
      exact ⟨_, congrArg Host.Outcome.next (if_neg (by simpa using hn)), htick, hpin, hforced, hactive, hflds⟩
  case commands =>
    intro s c i ht hi ho
    refine ⟨exec_cmdQuery hi ho ht, fun lv ms hl hm hs => ⟨exec_cmdForce_denied ht hi ho hl hm hs, fun he hx => ?force⟩,
      exec_cmdRelease_unforced ht hi ho, fun hx hf => ?release⟩
    case force =>
      exact ⟨_, exec_cmdForce_forces ht hi ho hl hm hs he hx, State.outPin_setOut_same .., State.bit_active_setOut _ (by omega) _,
        State.bit_forced_setOut _ (by omega) _, State.setOut_flds _ _ _⟩
    case release =>
      obtain ⟨-, hpin, -⟩ := State.endForce_spec (Nat.lt_succ_of_le hi) hf
      exact ⟨_, exec_cmdRelease_ends ht hi ho hx hf, hpin⟩

end Sys2Proof.Machine
end

section
/-! SUPPORT. The security commands whole (R460 to R479): what enrolment shows, the partition that runs, and key slots beside the one
a command names. -/

namespace Sys2Proof.Machine

theorem pnl0_refuses {s : State} {p : Nat} (h : p ≠ 0) (k : State × Option Resp) : pnl0 s p k = (s, some (rsp .denied)) := if_neg h

theorem State.regs_updSec (s : State) (f : SecSt → SecSt) : (s.updSec f).regs = s.regs := rfl

/-! Enrolment (R465, R466). -/

theorem State.showOwner_flds (s : State) : FldsKept [(.SEC_STATUS_owned, 0), (.SEC_STATUS_slot, 0)] s s.showOwner :=
  ((FldsKept.refl _ s).setFlag _ (by simp)).setFld _ (by simp)

/-- What enrolment shows of the owner slot in force. -/
theorem State.showOwner_shows {s : State} {i : Nat} (h : s.ownerSlot = some i) (hi : i < 4) :
    s.showOwner.fld .SEC_STATUS_owned 0 = 1 ∧ s.showOwner.fld .SEC_STATUS_slot 0 = i := by
  have owned : s.owned = true := by rw [State.owned, h]; rfl
  constructor
  · rw [State.showOwner, State.fld_setFld_ne _ _ (by simp), State.fld_setFlag_same _ _ _ _ rfl, owned]
    rfl
  · rw [State.showOwner, State.fld_setFld_same, h, Option.getD_some]
    exact Nat.mod_eq_of_lt hi

theorem State.freeOwner_lt {s : State} {lo i : Nat} (h : s.freeOwner lo = some i) : i < 4 := by
  have hi : i ∈ [0, 1, 2, 3] := List.mem_of_find?_eq_some h
  simp only [List.mem_cons, List.not_mem_nil, or_false] at hi
  omega

theorem opSecEnrol_denied {s : State} {p : Nat} (hp : p ≠ 0) : opSecEnrol p [] s = (s, some (rsp .denied)) := by
  rw [opSecEnrol, if_neg (by simp), pnl0_refuses hp]

section
variable {s : State} {p : Nat} (hp : p = 0) (hb : s.inBand 0 = false) (hm : memBe s.sec.stage 0 4 = 0x47575945)
  (hop : memBe s.sec.stage 4 1 = 1) (h5 : memBe s.sec.stage 5 3 = 0) (h9 : memBe s.sec.stage 1809 3 = 0)
  (hid : memBe s.sec.stage 8 8 = s.fuseId)
include hp hb hm hop h5 h9 hid

/-- An object that enrols the first owner, in a module that has one. -/
theorem opSecEnrol_owned (ho : s.owned = true) : opSecEnrol p [] s = (s, some (rsp .badState)) := by
  rw [opSecEnrol, if_neg (by simp), pnl0_passes hp, if_neg (by simp [hm, hop, h5, h9]), if_neg (not_not.mpr hid), if_pos hop,
    if_neg (by simp [hp, hb]), if_pos ho]
  rfl

/-- In a module without one. -/
theorem opSecEnrol_first {i : Nat} (ho : s.owned = false) (hf : s.freeOwner 0 = some i) :
    opSecEnrol p [] s = (s.blowOwner i (memSlice s.sec.stage 16 1793), some (rsp .ok)) := by
  rw [opSecEnrol, if_neg (by simp), pnl0_passes hp, if_neg (by simp [hm, hop, h5, h9]), if_neg (not_not.mpr hid), if_pos hop,
    if_neg (by simp [hp, hb]), if_neg (by simp [ho]), hf]

end

/-- What an owner enrolled leaves. -/
theorem State.blowOwner_spec {s : State} {i : Nat} (hl : s.sec.owners.length = 4) (ho : s.owned = false) (hf : s.freeOwner 0 = some i)
    (pk : List Byte) : (s.blowOwner i pk).ownerSlot = some i ∧ (s.blowOwner i pk).sec.ownerPk = pk ∧
      (s.blowOwner i pk).fld .SEC_STATUS_owned 0 = 1 ∧ (s.blowOwner i pk).fld .SEC_STATUS_slot 0 = i ∧
      FldsKept [(.SEC_STATUS_owned, 0), (.SEC_STATUS_slot, 0)] s (s.blowOwner i pk) := by
  have slot := State.ownerSlot_blowOwner hl ho hf pk
  obtain ⟨howned, hslot⟩ := State.showOwner_shows (s := s.updSec (fun x => { x with
    owners := x.owners.set i { digest := Config.shake256 pk, blown := true, valid := true }, ownerPk := pk })) slot (State.freeOwner_lt hf)
  exact ⟨slot, rfl, howned, hslot, ((FldsKept.refl _ s).congr (s.regs_updSec _)).trans (State.showOwner_flds _)⟩

/-! Firmware (R464). -/

theorem State.fwRun_ne_fwOther (s : State) : s.sec.fwRun ≠ s.fwOther := by
  unfold State.fwOther
  omega

/-- Storing the partition that is not running. -/
def State.setOther (s : State) (f : FwPart) (erased : Bool) : State :=
  s.updSec (fun x => { x with parts := tput {} s.fwOther f x.parts, fwErased := erased })

theorem State.setOther_spec (s : State) (f : FwPart) (erased : Bool) :
    tget {} s.fwOther (s.setOther f erased).sec.parts = f ∧
      tget {} s.sec.fwRun (s.setOther f erased).sec.parts = tget {} s.sec.fwRun s.sec.parts ∧ (s.setOther f erased).regs = s.regs :=
  ⟨tget_tput_same .., tget_tput_ne s.fwRun_ne_fwOther .., rfl⟩

theorem opSecFwWrite_writes {s : State} {p : Nat} {l : List Byte} (hp : p = 0) (h5 : 5 ≤ l.length) (hl : l.length ≤ 56)
    (ho : leAt l 0 4 + (l.length - 4) ≤ 2 ^ 26) : opSecFwWrite p l s = (s.setOther
      ⟨memStores (if s.sec.fwErased then (tget {} s.fwOther s.sec.parts).bytes else []) (leAt l 0 4) (l.drop 4), false⟩ true,
        some (rsp .ok)) := by
  refine (if_neg ?_).trans (pnl0_passes hp _)
  rw [List.length_drop]
  omega

theorem opSecFwCommit_marks {s : State} {p : Nat} (hp : p = 0) : opSecFwCommit p [] s = (s.setOther
      { tget {} s.fwOther s.sec.parts with valid := s.imageOk (tget {} s.fwOther s.sec.parts).bytes } false,
        some (rsp (if s.imageOk (tget {} s.fwOther s.sec.parts).bytes then .ok else .denied))) :=
  (if_neg (by simp)).trans (pnl0_passes hp _)

/-- A level only rises (R460, R467). -/
theorem opSecRollbackAdvance_fw {s : State} {p : Nat} (hp : p = 0) (h64 : memBe s.fwImage 16 4 ≤ 64) :
    opSecRollbackAdvance p [0] s = (if s.fld .SEC_ROLLBACK_fw_level 0 < memBe s.fwImage 16 4 then
      (s.setFld .SEC_ROLLBACK_fw_level 0 (memBe s.fwImage 16 4), some (rsp .ok)) else (s, some (rsp .badState))) := by
  have zero : leAt [0] 0 1 = 0 := by decide
  rw [opSecRollbackAdvance, zero, if_pos rfl, if_neg (by simp), pnl0_passes hp, if_neg (Nat.not_lt.mpr h64), if_pos rfl]
  by_cases h : s.fld .SEC_ROLLBACK_fw_level 0 < memBe s.fwImage 16 4
  · rw [if_pos h, if_neg (Nat.not_le.mpr h)]
  · rw [if_neg h, if_pos (Nat.not_lt.mp h)]
    rfl

/-! Attestation (R469). -/

/-- The report on a nonce, its signature and the certificate. -/
def State.reportBytes (s : State) (nonce : List Byte) : List Byte :=
  s.attestBody nonce ++ slice (Config.falconSign s.sec.secret (Config.shake256 (s.attestBody nonce))) 0 1280 ++ slice s.sec.cert 0 3100

/-- The state that holds them in the staging area. -/
def State.attested (s : State) (nonce : List Byte) : State :=
  s.updSec (fun x => { x with stage := memStores [] 0 (s.reportBytes nonce), stageLen := 4708, report := true })

theorem State.attested_spec (s : State) (nonce : List Byte) : (s.attested nonce).sec.report = true ∧
    (s.attested nonce).sec.stageLen = 4708 ∧ (s.attested nonce).regs = s.regs ∧
    (s.attested nonce).sec.stage = memStores [] 0 (s.reportBytes nonce) := by
  rw [State.attested, State.sec_updSec, State.regs_updSec]
  generalize memStores [] 0 (s.reportBytes nonce) = m
  exact ⟨rfl, rfl, rfl, rfl⟩

theorem opSecAttest_reports {l : List Byte} (hl : l.length = 32) (s : State) : opSecAttest l s = (s.attested l, some (rsp .ok)) :=
  if_neg (not_not.mpr hl)

/-! Keys (R471, R475, R479). -/

/-- The state with a panel's link key stored. -/
def State.setKey (s : State) (p k : Nat) (e : LinkKey) : State := s.updSec (fun x => { x with keys := tset (4 * p + k) e x.keys })

theorem State.linkKey_setKey_same (s : State) (p k : Nat) (e : LinkKey) : (s.setKey p k e).linkKey p k = some e := tfind_tset_same ..

/-- Panels and slots do not share a key. -/
theorem State.linkKey_setKey_ne (s : State) {p k q j : Nat} (hk : k ≤ 3) (hj : j ≤ 3) (h : (q, j) ≠ (p, k)) (e : LinkKey) :
    (s.setKey p k e).linkKey q j = s.linkKey q j := by
  refine tfind_tset_ne (fun same => h ?_) ..
  exact Prod.ext (by omega) (by omega)

theorem opSecKeySet_denied {s : State} {p : Nat} {l : List Byte} (hl : l.length = 33) (hk : leAt l 0 1 ≤ 3) (hr : s.right p 4 = false) :
    opSecKeySet p l s = (s, some (rsp .denied)) := (if_neg (by omega)).trans (if_pos (by simp [hr]))

theorem opSecKeySet_sets {s : State} {p : Nat} {l : List Byte} (hl : l.length = 33) (hk : leAt l 0 1 ≤ 3) (hr : s.right p 4 = true)
    (hu : s.slotInUse p (leAt l 0 1) = false) : opSecKeySet p l s = (s.setKey p (leAt l 0 1) ⟨l.drop 1, 0⟩, some (rsp .ok)) :=
  (if_neg (by omega)).trans ((if_neg (by simp [hr])).trans (if_neg (by simp [hu])))

theorem opSecKeyClear_inUse {s : State} {p : Nat} {l : List Byte} (hl : l.length = 1) (hk : leAt l 0 1 ≤ 3) (hr : s.right p 4 = true)
    (hu : s.slotInUse p (leAt l 0 1) = true) : opSecKeyClear p l s = (s, some (rsp .badState)) :=
  (if_neg (by omega)).trans ((if_neg (by simp [hr])).trans (if_pos hu))

theorem opSecKeyClear_clears {s : State} {p : Nat} {l : List Byte} (hl : l.length = 1) (hk : leAt l 0 1 ≤ 3) (hr : s.right p 4 = true)
    (hu : s.slotInUse p (leAt l 0 1) = false) : opSecKeyClear p l s
      = (s.updSec (fun x => { x with keys := tdel (4 * p + leAt l 0 1) x.keys }), some (rsp .ok)) :=
  (if_neg (by omega)).trans ((if_neg (by simp [hr])).trans (if_neg (by simp [hu])))

/-- The state with a channel's choice of key slot stored, 0 for none. -/
def State.selectTx (s : State) (ch n : Nat) : State := s.updSec (fun x => { x with txSel := tput 0 ch n x.txSel })

theorem State.txSlot_selectTx_none (s : State) (ch : Nat) : (s.selectTx ch 0).txSlot ch = none := by
  simp [State.txSlot, State.selectTx]

theorem State.txSlot_selectTx (s : State) (ch k : Nat) : (s.selectTx ch (k + 1)).txSlot ch = some k := by
  simp [State.txSlot, State.selectTx]

section
variable {s : State} {p : Nat} {l : List Byte} (hl : l.length = 2) (hc : leAt l 0 1 ≤ 191) (hm : s.mayName p (leAt l 0 1) = true)
include hl hc hm

theorem opSecKeyTx_none (hk : leAt l 1 1 = 0xFF) : opSecKeyTx p l s = (s.selectTx (leAt l 0 1) 0, some (rsp .ok)) :=
  (if_neg (by omega)).trans ((if_neg (by simp [hm])).trans (if_pos hk))

theorem opSecKeyTx_selects {o : Nat} (hk : leAt l 1 1 ≤ 3) (ho : s.owner (leAt l 0 1) = some o)
    (hs : (s.linkKey o (leAt l 1 1)).isSome = true) :
    opSecKeyTx p l s = (s.selectTx (leAt l 0 1) (leAt l 1 1 + 1), some (rsp .ok)) :=
  (if_neg (by omega)).trans ((if_neg (by simp [hm])).trans ((if_neg (by omega)).trans (if_neg (by simp [ho, hs]))))

end

theorem opSecOhiKey_denied {s : State} {p : Nat} {l : List Byte} (hl : l.length = 33) (hq : leAt l 0 1 ≤ 15) (hn : leAt l 0 1 ≠ p)
    (hp : p ≠ 0) : opSecOhiKey p l s = (s, some (rsp .denied)) := (if_neg (by omega)).trans (if_pos ⟨hn, .inl hp⟩)

/-- The state with a panel's OHI key stored and its sequence restarted. -/
def State.setOhiKey (s : State) (p : Nat) (key : List Byte) : State :=
  s.updSec (fun x => { x with ohiKeys := tset p key x.ohiKeys, ohiSeq := tput 0 p 0 x.ohiSeq })

theorem State.setOhiKey_spec (s : State) (p : Nat) (key : List Byte) :
    tfind p (s.setOhiKey p key).sec.ohiKeys = some key ∧ tget 0 p (s.setOhiKey p key).sec.ohiSeq = 0 := by
  rw [State.setOhiKey, State.sec_updSec]
  exact ⟨tfind_tset_same .., tget_tput_same (0 : Nat) p 0 _⟩

/-- A key of the panel's own restarts its sequence. -/
theorem opSecOhiKey_own {s : State} {p : Nat} {l : List Byte} (hl : l.length = 33) (hq : leAt l 0 1 ≤ 15) (hn : leAt l 0 1 = p) :
    opSecOhiKey p l s = (s.setOhiKey p (l.drop 1), some (rsp .ok)) := by
  subst hn
  exact (if_neg (by omega)).trans (if_neg (by simp))

/-- Settles O53, command by command. -/
theorem securityCommandsKeepImagesAndKeys : Obligations.SecurityCommandsKeepImagesAndKeys := by
  intro s c ht
  refine ⟨ohi_answers ht rfl, ?denied, ?stage, ?enrol, ?fwWrite, ?fwCommit, ?rollback, ?attest, ?read, ?keySet, ?keyClear, ?keyTx,
    ?ohiKey⟩
  case denied =>
    exact fun hp => ⟨ohi_answers ht (opSecEnrol_denied hp),
      ohi_answers ht ((if_neg (not_not.mpr rfl)).trans (pnl0_refuses hp _))⟩
  case stage =>
    intro off l hp h1 hl ho hr n x
    refine ohi_answers ht ((if_neg (by omega)).trans ((pnl0_passes hp _).trans ?_))
    rw [hr]
    rfl
  case enrol =>
    intro hp hb hlen hm hop h5 h9 hid
    exact ⟨fun ho => ohi_answers ht (opSecEnrol_owned hp hb hm hop h5 h9 hid ho), fun i ho hf =>
      ⟨_, ohi_answers ht (opSecEnrol_first hp hb hm hop h5 h9 hid ho hf), State.blowOwner_spec hlen ho hf _⟩⟩
  case fwWrite =>
    exact fun l hp h5 hl ho => ⟨_, ohi_answers ht (opSecFwWrite_writes hp h5 hl ho), s.setOther_spec _ true⟩
  case fwCommit =>
    intro hp
    obtain ⟨hother, hrun, hregs⟩ := s.setOther_spec
      { tget {} s.fwOther s.sec.parts with valid := s.imageOk (tget {} s.fwOther s.sec.parts).bytes } false
    exact ⟨_, ohi_answers ht (opSecFwCommit_marks hp), by rw [hother], by rw [hother], hrun, hregs⟩
  case rollback =>
    intro hp h64
    show Host.Outcome.next (ohi s c 0x0406 (opSecRollbackAdvance c.pnl [0] s)) = _
    rw [opSecRollbackAdvance_fw hp h64]
    split
    · exact ohi_answers ht rfl
    · exact ohi_answers ht rfl
  case attest =>
    exact fun l hl => ⟨s.attested l, ohi_answers ht (opSecAttest_reports hl s), s.attested_spec l⟩
  case read =>
    exact fun l hl h1 h24 hs => exec_secRead ht hl h1 h24 hs
  case keySet =>
    exact fun l hl hk => ⟨fun hr => ohi_answers ht (opSecKeySet_denied hl hk hr), fun hr hu =>
      ⟨_, ohi_answers ht (opSecKeySet_sets hl hk hr hu), rfl, s.linkKey_setKey_same .., fun p k hk' hne =>
        s.linkKey_setKey_ne hk hk' hne _⟩⟩
  case keyClear =>
    exact fun l hl hk hr => ⟨fun hu => ohi_answers ht (opSecKeyClear_inUse hl hk hr hu), fun hu =>
      ⟨_, ohi_answers ht (opSecKeyClear_clears hl hk hr hu), tfind_tdel_same .., rfl⟩⟩
  case keyTx =>
    exact fun l hl hc hm => ⟨fun hk => ⟨_, ohi_answers ht (opSecKeyTx_none hl hc hm hk), s.txSlot_selectTx_none _, rfl⟩,
      fun o hk ho hs => ⟨_, ohi_answers ht (opSecKeyTx_selects hl hc hm hk ho hs), s.txSlot_selectTx .., rfl⟩⟩
  case ohiKey =>
    intro l hl hq
    refine ⟨fun hn hp => ohi_answers ht (opSecOhiKey_denied hl hq hn hp), fun hn => ?_⟩
    obtain ⟨hkey, hseq⟩ := s.setOhiKey_spec c.pnl (l.drop 1)
    exact ⟨_, ohi_answers ht (opSecOhiKey_own hl hq hn), hkey, hseq, rfl⟩

end Sys2Proof.Machine
end

section
/-! SUPPORT. The tamper loop and debug access whole (R476 to R478). -/

namespace Sys2Proof.Machine

/-! The tamper loop (R478). -/

/-- The flags that a first opening of the loop sets. -/
def State.tamperShown (s : State) : State :=
  ((s.setFlag .SEC_STATUS_loop_open 0 true).setFlag .SEC_STATUS_tamper 0 true).setFlag .GLB_STATUS_tamper 0 true

abbrev tamperFlds : List (Fld × Nat) := [(.SEC_STATUS_loop_open, 0), (.SEC_STATUS_tamper, 0), (.GLB_STATUS_tamper, 0)]

theorem State.tamperShown_flds (s : State) : FldsKept tamperFlds s s.tamperShown :=
  (((FldsKept.refl _ s).setFlag _ (by simp)).setFlag _ (by simp)).setFlag _ (by simp)

theorem State.tamperShown_shows (s : State) {F : Fld} (h : (F, 0) ∈ tamperFlds) : s.tamperShown.fld F 0 = 1 := by
  simp only [List.mem_cons, List.not_mem_nil, or_false, Prod.mk.injEq, and_true] at h
  unfold State.tamperShown
  rcases h with rfl | rfl | rfl
  · rw [State.fld_setFlag, if_neg (by simp), State.fld_setFlag, if_neg (by simp), State.fld_setFlag_same _ _ _ _ rfl]
    rfl
  · rw [State.fld_setFlag, if_neg (by simp), State.fld_setFlag_same _ _ _ _ rfl]
    rfl
  · rw [State.fld_setFlag_same _ _ _ _ rfl]
    rfl

/-- The opening is logged, in KEEP at the return to RUN. -/
def State.tamperNoted (s : State) : State :=
  if s.rst.pwr = .keep then s.updSec (fun x => { x with tamperLog := true })
  else s.log 0x0402 noPanel noInst (s.fld .SEC_CFG_tamper_mode 0)

theorem State.tamperNoted_flds (s : State) : FldsKept logFlds s s.tamperNoted := by
  unfold State.tamperNoted
  split
  · exact (FldsKept.refl _ s).congr (s.regs_updSec _)
  · exact (s.log_kept _ _ _ _).flds

theorem exec_tamperOpen_first {s : State} (h : s.flag .SEC_STATUS_loop_open 0 = false) :
    exec .tamperOpen s = .next s.tamperShown.tamperNoted.tamperAct :=
  congrArg Host.Outcome.next (if_neg (ne_true_of_eq_false h))

/-- In mode 1 an opening clears the link and OHI keys and closes debug. -/
theorem State.tamperAct_clears {s : State} (h : s.fld .SEC_CFG_tamper_mode 0 = 1) :
    s.tamperAct = (s.clearKeys.updSec (fun x => { x with ohiKeys := [] })).closeDebug := by
  rw [State.tamperAct, h]
  rfl

theorem State.fld_scope_closeDebug (s : State) : s.closeDebug.fld .SEC_STATUS_scope 0 = 0 := by
  rw [State.closeDebug, State.fld_updSec, State.fld_setFld_same, Nat.zero_mod]

/-- What that response leaves. -/
theorem State.tamperAct_spec {s : State} (h : s.fld .SEC_CFG_tamper_mode 0 = 1) : s.tamperAct.sec.keys = [] ∧
    s.tamperAct.sec.ohiKeys = [] ∧ s.tamperAct.fld .SEC_STATUS_debug_open 0 = 0 ∧ s.tamperAct.fld .SEC_STATUS_scope 0 = 0 ∧
    FldsKept [(.SEC_STATUS_debug_open, 0), (.SEC_STATUS_scope, 0)] s s.tamperAct := by
  rw [State.tamperAct_clears h]
  exact ⟨rfl, rfl, State.fld_closeDebug _, State.fld_scope_closeDebug _,
    ((FldsKept.refl _ s).congr rfl).trans (State.closeDebug_flds _)⟩

/-- The flags an opening sets are left by its event and its response. -/
theorem State.tamperAct_flag {s : State} {F : Fld} (hF : (F, 0) ∈ tamperFlds) (hlog : (F, 0) ∉ logFlds)
    (hact : (F, 0) ∉ [(Fld.SEC_STATUS_debug_open, 0), (.SEC_STATUS_scope, 0)]) (hm : s.fld .SEC_CFG_tamper_mode 0 = 1) :
    s.tamperShown.tamperNoted.tamperAct.fld F 0 = 1 := by
  have mode : s.tamperShown.tamperNoted.fld .SEC_CFG_tamper_mode 0 = 1 := by
    rw [State.tamperNoted_flds _ _ _ (by simp [logFlds]), State.tamperShown_flds _ _ _ (by simp), hm]
  obtain ⟨-, -, -, -, kept⟩ := State.tamperAct_spec mode
  rw [kept _ _ hact, State.tamperNoted_flds _ _ _ hlog, s.tamperShown_shows hF]

/-- The clearing of the tamper flag, which PNL0 commands with the loop closed. -/
def State.tamperCleared (s : State) : State :=
  ((s.setFlag .SEC_STATUS_tamper 0 false).setFlag .GLB_STATUS_tamper 0 false).updSec (fun x => { x with tamperOff := false })

theorem State.tamperCleared_spec (s : State) :
    s.tamperCleared.fld .SEC_STATUS_tamper 0 = 0 ∧ s.tamperCleared.fld .GLB_STATUS_tamper 0 = 0 ∧
    s.tamperCleared.sec.tamperOff = false ∧ FldsKept [(.SEC_STATUS_tamper, 0), (.GLB_STATUS_tamper, 0)] s s.tamperCleared := by
  refine ⟨?_, ?_, rfl, (((FldsKept.refl _ s).setFlag _ (by simp)).setFlag _ (by simp)).congr (State.regs_updSec _ _)⟩
  · rw [State.tamperCleared, State.fld_updSec, State.fld_setFlag, if_neg (by simp), State.fld_setFlag_same _ _ _ _ rfl]
    rfl
  · rw [State.tamperCleared, State.fld_updSec, State.fld_setFlag_same _ _ _ _ rfl]
    rfl

section
variable {s : State} {p : Nat} (hp : p = 0)
include hp

theorem opSecTamperClear_open (h : s.flag .SEC_STATUS_loop_open 0 = true) : opSecTamperClear p [] s = (s, some (rsp .badState)) :=
  (if_neg (by simp)).trans ((pnl0_passes hp _).trans (if_pos h))

theorem opSecTamperClear_closed (h : s.flag .SEC_STATUS_loop_open 0 = false) :
    opSecTamperClear p [] s = (s.tamperCleared, some (rsp .ok)) :=
  (if_neg (by simp)).trans ((pnl0_passes hp _).trans (if_neg (ne_true_of_eq_false h)))

end

/-! Debug access (R476, R477). -/

theorem opSecDebugChallenge_denied {s : State} {p : Nat}
    (h : p ≠ 0 ∨ s.flag .SEC_STATUS_debug_lock 0 = true ∨ s.owned = false) : opSecDebugChallenge p [] s = (s, some (rsp .denied)) :=
  (if_neg (by simp)).trans (if_pos h)

/-- The challenge handed out, drawn afresh and remembered with its tick. -/
def State.challenge (s : State) : List Byte := be 24 (s.drawBelow (2 ^ 192)).1

theorem State.challenge_length (s : State) : s.challenge.length = 24 := length_be_bytes ..

theorem opSecDebugChallenge_asks {s : State} {p : Nat} (hp : p = 0) (hl : s.flag .SEC_STATUS_debug_lock 0 = false) (ho : s.owned = true) :
    opSecDebugChallenge p [] s
      = ((s.drawBelow (2 ^ 192)).2.updSec (fun x => { x with chal := some (s.challenge, s.tick) }), some ⟨.ok, s.challenge⟩) :=
  (if_neg (by simp)).trans (if_neg (by simp [hp, hl, ho]))

/-- The state with the challenge used up. -/
def State.chalUsed (s : State) : State := s.updSec (fun x => { x with chal := none })

/-- The keys cleared where the scope asks for it, before debug opens. -/
def State.scopeCleared (s : State) (scope : Nat) : State := if bit scope 2 then s.clearKeys else s

theorem State.scopeCleared_spec (s : State) (scope : Nat) : (s.scopeCleared scope).regs = s.regs ∧
    (s.scopeCleared scope).tick = s.tick ∧ (s.scopeCleared scope).sec.chal = s.sec.chal ∧
    (s.scopeCleared scope).sec.keys = if bit scope 2 then [] else s.sec.keys := by
  unfold State.scopeCleared
  cases bit scope 2
  · exact ⟨rfl, rfl, rfl, rfl⟩
  · exact ⟨rfl, rfl, rfl, rfl⟩

/-- What an attempt to open debug does: the challenge is used up either way. -/
theorem opSecDebugOpen_eq (s : State) : opSecDebugOpen 0 [] s = if s.debugGood then
    (((s.chalUsed.scopeCleared (memBe s.sec.stage 4 1)).openDebug (memBe s.sec.stage 4 1) (memBe s.sec.stage 8 4)).log
      0x0401 noPanel noInst (memBe s.sec.stage 4 1), some (rsp .ok))
    else (s.chalUsed.bump .SEC_CNT2_debug_deny 0, some (rsp .denied)) := by
  unfold opSecDebugOpen
  extract_lets m scope dur fresh form sig good u v w
  rw [if_neg (by simp), pnl0_passes rfl]
  have hgood : good = s.debugGood :=
    have order (a b c d e : Bool) : (a && b && c && d && e) = (a && d && e && b && c) := by ac_rfl
    order form fresh sig _ _
  rw [← hgood]
  clear_value good
  cases good
  · rfl
  · rfl

/-- The fields that debug access shows. -/
abbrev debugFlds : List (Fld × Nat) := [(.SEC_STATUS_debug_open, 0), (.SEC_STATUS_scope, 0), (.SEC_CNT2_debug_deny, 0)]

theorem State.openDebug_flds (s : State) (scope dur : Nat) :
    FldsKept [(.SEC_STATUS_debug_open, 0), (.SEC_STATUS_scope, 0)] s (s.openDebug scope dur) :=
  (((FldsKept.refl _ s).setFlag _ (by simp)).setFld _ (by simp)).congr (State.regs_updSec _ _)

theorem State.fld_scope_openDebug (s : State) {scope : Nat} (h : scope < 8) (dur : Nat) :
    (s.openDebug scope dur).fld .SEC_STATUS_scope 0 = scope := by
  rw [State.openDebug, State.fld_updSec, State.fld_setFld_same]
  exact Nat.mod_eq_of_lt h

theorem State.debugEnd_openDebug (s : State) (scope dur : Nat) : (s.openDebug scope dur).sec.debugEnd = s.tick + secTicks dur := by
  rw [State.openDebug, State.sec_updSec]

theorem State.keys_openDebug (s : State) (scope dur : Nat) : (s.openDebug scope dur).sec.keys = s.sec.keys := by
  rw [State.openDebug, State.sec_updSec, State.setFld_sec, State.setFlag_sec]

theorem State.tick_chalUsed (s : State) : s.chalUsed.tick = s.tick := rfl

/-- Debug opened with a scope, for its time. -/
theorem State.debugOpened_spec (s : State) {scope : Nat} (h : scope < 8) (dur : Nat) :
    let t := ((s.chalUsed.scopeCleared scope).openDebug scope dur).log 0x0401 noPanel noInst scope
    t.sec.chal = none ∧ t.fld .SEC_CNT2_debug_deny 0 = s.fld .SEC_CNT2_debug_deny 0 ∧ t.fld .SEC_STATUS_debug_open 0 = 1 ∧
      t.fld .SEC_STATUS_scope 0 = scope ∧ t.sec.debugEnd = s.tick + secTicks dur ∧
      t.sec.keys = (if bit scope 2 then [] else s.sec.keys) ∧ FldsKept (debugFlds ++ logFlds) s t := by
  intro t
  obtain ⟨hregs, htick, hchal, hkeys⟩ := s.chalUsed.scopeCleared_spec scope
  have start : FldsKept [(.SEC_STATUS_debug_open, 0), (.SEC_STATUS_scope, 0)] s (s.chalUsed.scopeCleared scope) :=
    ((FldsKept.refl _ s).congr (s.regs_updSec _)).congr hregs
  have opened := start.trans ((s.chalUsed.scopeCleared scope).openDebug_flds scope dur)
  refine ⟨?_, ?_, ?_, ?_, ?_, ?_, ?_⟩
  · rw [State.log_sec, State.chal_openDebug, hchal]
    rfl
  · rw [State.fld_log _ _ _ _ _ (by simp [logFlds]), opened _ _ (by simp)]
  · rw [State.fld_log _ _ _ _ _ (by simp [logFlds]), State.fld_openDebug]
  · rw [State.fld_log _ _ _ _ _ (by simp [logFlds]), State.fld_scope_openDebug _ h]
  · rw [State.log_sec, State.debugEnd_openDebug, htick, State.tick_chalUsed]
  · rw [State.log_sec, State.keys_openDebug, hkeys]
    rfl
  · exact (opened.mono (by simp)).log _ _ _ _

/-- Good attempts name a scope of three bits. -/
theorem State.debugGood_scope {s : State} (h : s.debugGood = true) : memBe s.sec.stage 4 1 < 8 := by
  simp only [State.debugGood, Bool.and_eq_true, decide_eq_true_eq] at h
  obtain ⟨⟨⟨⟨⟨⟨⟨⟨-, scope⟩, -⟩, -⟩, -⟩, -⟩, -⟩, -⟩, -⟩ := h
  exact scope

/-- What an attempt leaves. -/
theorem opSecDebugOpen_leaves (s : State) : ∃ t : State,
    opSecDebugOpen 0 [] s = (t, some (rsp (if s.debugGood then .ok else .denied))) ∧ t.sec.chal = none ∧
      t.fld .SEC_CNT2_debug_deny 0
        = (if s.debugGood then s.fld .SEC_CNT2_debug_deny 0 else min (s.fld .SEC_CNT2_debug_deny 0 + 1) 255) ∧
      t.fld .SEC_STATUS_debug_open 0 = (if s.debugGood then 1 else s.fld .SEC_STATUS_debug_open 0) ∧
      t.fld .SEC_STATUS_scope 0 = (if s.debugGood then memBe s.sec.stage 4 1 else s.fld .SEC_STATUS_scope 0) ∧
      t.sec.debugEnd = (if s.debugGood then s.tick + secTicks (memBe s.sec.stage 8 4) else s.sec.debugEnd) ∧
      t.sec.keys = (if s.debugGood && bit (memBe s.sec.stage 4 1) 2 then [] else s.sec.keys) ∧
      FldsKept (debugFlds ++ logFlds) s t := by
  rw [opSecDebugOpen_eq]
  cases hg : s.debugGood with
  | true => exact ⟨_, rfl, s.debugOpened_spec (State.debugGood_scope hg) _⟩
  | false =>
    refine ⟨_, rfl, rfl, ?_, ?_, ?_, rfl, rfl, ?_⟩
    · rw [State.fld_bump, if_pos ⟨rfl, rfl⟩]
      rfl
    · rw [State.fld_bump, if_neg (by simp)]
      rfl
    · rw [State.fld_bump, if_neg (by simp)]
      rfl
    · exact ((FldsKept.refl _ s).congr (s.regs_updSec _)).bump (by simp)

theorem exec_debugClose_open {s : State} (h : s.flag .SEC_STATUS_debug_open 0 = true) :
    exec .debugClose s = .next (s.reach s.sec.debugEnd).closeDebug := congrArg Host.Outcome.next (if_pos h)

/-- Settles O54: the loop opened and closed, debug closed, and the three commands. -/
theorem tamperAndDebugFollowTheirRules : Obligations.TamperAndDebugFollowTheirRules := by
  refine ⟨fun s => ⟨fun h => congrArg Host.Outcome.next (if_pos h), ?opens⟩, fun s => rfl,
    fun s => ⟨fun h => congrArg Host.Outcome.next (if_neg (ne_true_of_eq_false h)), ?close⟩, fun s c ht =>
      ⟨fun hp h => ohi_answers ht (opSecTamperClear_open hp h), fun hp h => ⟨_, ohi_answers ht (opSecTamperClear_closed hp h),
        s.tamperCleared_spec⟩, fun h => ohi_answers ht (opSecDebugChallenge_denied h), ?challenge, ?debug⟩⟩
  case opens =>
    intro h hm
    have mode : s.tamperShown.tamperNoted.fld .SEC_CFG_tamper_mode 0 = 1 := by
      rw [State.tamperNoted_flds _ _ _ (by simp [logFlds]), State.tamperShown_flds _ _ _ (by simp), hm]
    obtain ⟨hkeys, hohi, hopen, hscope, kept⟩ := State.tamperAct_spec mode
    refine ⟨_, exec_tamperOpen_first h, State.tamperAct_flag (by simp) (by simp [logFlds]) (by simp) hm,
      State.tamperAct_flag (by simp) (by simp [logFlds]) (by simp) hm,
      State.tamperAct_flag (by simp) (by simp [logFlds]) (by simp) hm, hkeys, hohi, hopen, hscope, ?_⟩
    exact (s.tamperShown_flds.mono (by simp)).trans ((s.tamperShown.tamperNoted_flds.mono fun _ => List.mem_append_right _).trans
      (kept.mono (by simp)))
  case close =>
    exact fun h => ⟨_, exec_debugClose_open h, State.fld_closeDebug _, State.fld_scope_closeDebug _, rfl,
      ((FldsKept.refl _ s).reach _).trans (State.closeDebug_flds _)⟩
  case challenge =>
    exact fun hp hl ho => ⟨_, s.challenge, ohi_answers ht (opSecDebugChallenge_asks hp hl ho), s.challenge_length, rfl, rfl⟩
  case debug =>
    intro hp m good
    obtain ⟨t, hop, left⟩ := opSecDebugOpen_leaves s
    exact ⟨t, ohi_answers ht ((congrArg (fun p => opSecDebugOpen p [] s) hp).trans hop), left⟩

end Sys2Proof.Machine
end

section
/-! SUPPORT. Events and snapshots whole (R532 to R536): the read position, the panel's settings, and a snapshot taken over another still
being written. -/

namespace Sys2Proof.Machine

/-- A panel's read position moved. -/
theorem opEvtRead_next {s : State} {p i : Nat} {e : Ev}
    (h : (s.evFrom (s.fld .EVT_PNL_RD_rd p)).find? (fun e => evFor p e.2) = some (i, e)) :
    opEvtRead p s = (s.setFld .EVT_PNL_RD_rd p ((i + 1) % 8192), some ⟨.ok, evBytes e⟩) := by
  rw [opEvtRead, h]

theorem opEvtRead_none {s : State} {p : Nat} (h : (s.evFrom (s.fld .EVT_PNL_RD_rd p)).find? (fun e => evFor p e.2) = none) :
    opEvtRead p s = (s.setFld .EVT_PNL_RD_rd p s.evHead, some ⟨.ok, []⟩) := by
  rw [opEvtRead, h]
  rfl

/-- A panel's least severity and interrupt enables stored. -/
def State.setEvtCfg (s : State) (p sev irq : Nat) : State :=
  ((s.setFld .EVT_PNL_CFG_sev_min p sev).setFlag .EVT_PNL_CFG_irq_ev p (bit irq 0)).setFlag .EVT_PNL_CFG_irq_rsp p (bit irq 1)

theorem opEvtCfg_sets {sev irq : Nat} (hs : sev ≤ 3) (hq : irq ≤ 3) (s : State) (p : Nat) :
    opEvtCfg p sev irq s = (s.setEvtCfg p sev irq, some (rsp .ok)) := if_neg (by omega)

theorem opEvtCfg_badArg {sev : Nat} (hs : 3 < sev) (irq : Nat) (s : State) (p : Nat) :
    opEvtCfg p sev irq s = (s, some (rsp .badArg)) := if_pos (.inl hs)

theorem State.setEvtCfg_spec (s : State) (p : Nat) {sev : Nat} (hs : sev ≤ 3) (irq : Nat) :
    (s.setEvtCfg p sev irq).fld .EVT_PNL_CFG_sev_min p = sev ∧ (s.setEvtCfg p sev irq).flag .EVT_PNL_CFG_irq_ev p = bit irq 0 ∧
      (s.setEvtCfg p sev irq).flag .EVT_PNL_CFG_irq_rsp p = bit irq 1 ∧
      FldsKept [(.EVT_PNL_CFG_sev_min, p), (.EVT_PNL_CFG_irq_ev, p), (.EVT_PNL_CFG_irq_rsp, p)] s (s.setEvtCfg p sev irq) := by
  refine ⟨?_, ?_, ?_, (((FldsKept.refl _ s).setFld _ (by simp)).setFlag _ (by simp)).setFlag _ (by simp)⟩
  · rw [State.setEvtCfg, State.fld_setFlag, if_neg (by simp), State.fld_setFlag, if_neg (by simp), State.fld_setFld_same]
    exact Nat.mod_eq_of_lt (Nat.lt_succ_of_le hs)
  · rw [State.flag, State.setEvtCfg, State.fld_setFlag, if_neg (by simp), State.fld_setFlag_same _ _ _ _ rfl, b2n_beq_one]
  · rw [State.flag, State.setEvtCfg, State.fld_setFlag_same _ _ _ _ rfl, b2n_beq_one]

theorem opTelSnap_asks {s : State} {p : Nat} (hp : p = 0) (h : s.mgmt.snapPend = false) :
    opTelSnap p s = ({ s with mgmt := { s.mgmt with snapPend := true } }, some (rsp .ok)) :=
  (if_neg (not_not.mpr hp)).trans (if_neg (ne_true_of_eq_false h))

theorem opTelSnap_busy {s : State} {p : Nat} (hp : p = 0) (h : s.mgmt.snapPend = true) : opTelSnap p s = (s, some (rsp .busy)) :=
  (if_neg (not_not.mpr hp)).trans (if_pos h)

/-! The snapshot (R534). -/

/-- The count of the snapshots dropped, before another is taken. -/
def State.snapDropped (s : State) : State := if s.mgmt.snapWr.isSome then s.bump .TEL_CNT_tel_drop 0 else s

theorem State.snapDropped_flds (s : State) : FldsKept [(.TEL_CNT_tel_drop, 0)] s s.snapDropped := by
  unfold State.snapDropped
  split
  · exact (FldsKept.refl _ s).bump (by simp)
  · exact FldsKept.refl _ s

theorem State.fld_snapDropped (s : State) : s.snapDropped.fld .TEL_CNT_tel_drop 0 = (if s.mgmt.snapWr.isSome then
    min (s.fld .TEL_CNT_tel_drop 0 + 1) (2 ^ Fld.width .TEL_CNT_tel_drop - 1) else s.fld .TEL_CNT_tel_drop 0) := by
  unfold State.snapDropped
  split
  · rw [State.fld_bump, if_pos ⟨rfl, rfl⟩]
  · rfl

theorem State.narrow_snapDropped (s : State) : s.snapDropped.narrow = s.narrow :=
  congrArg (bit · 14) (s.snapDropped_flds _ _ (by simp))

/-- The snapshot of the moment. -/
def State.snapNow (s : State) : Snap := ⟨s.mgmt.snapSeq, s.grid.hem, s.tick, s.tel⟩

/-- The state that a snapshot leaves where stacked memory takes it word by word. -/
def State.snapped (s : State) : State :=
  { s.snapDropped with mgmt := { s.snapDropped.mgmt with
    snapSeq := (s.mgmt.snapSeq + 1) % 2 ^ 32, snapPend := false, snapWr := some (s.snapNow, 4 * telWords) } }

theorem exec_telemetrySnapshot_due {s : State} (hd : s.snapDue = true) (hs : s.isSealed = true) (hr : s.grid.running = true)
    (hn : s.narrow = false) : exec .telemetrySnapshot s = .next s.snapped :=
  congrArg Host.Outcome.next ((if_neg (by simp [hd, hs, hr])).trans (if_neg (ne_true_of_eq_false (s.narrow_snapDropped.trans hn))))

theorem exec_telemetrySnapshot_notDue {s : State} (hd : s.snapDue = false) : exec .telemetrySnapshot s = .next s :=
  congrArg Host.Outcome.next (if_pos (.inr (.inr hd)))

/-- Settles O52, command by command, and the snapshot. -/
theorem eventsAndSnapshotsAreRead : Obligations.EventsAndSnapshotsAreRead := by
  refine ⟨fun s c ht => ⟨?next, ?none, fun sev irq hs => ohi_answers ht (opEvtCfg_badArg hs ..), ?cfg,
    fun hp => ohi_answers ht (if_pos hp), fun hp h => ohi_answers ht (opTelSnap_busy hp h),
    fun hp h => ohi_answers ht (opTelSnap_asks hp h), fun back w n x hp h1 hn hs hx hw => exec_telRead ht hp h1 hn hs hx hw⟩,
    fun s => ⟨exec_telemetrySnapshot_notDue, ?snapshot⟩⟩
  case next =>
    intro i e h
    refine ⟨_, ohi_answers ht (opEvtRead_next h), ?_, (FldsKept.refl _ s).setFld _ (by simp)⟩
    rw [State.fld_setFld_same]
    exact Nat.mod_mod _ 8192
  case none =>
    exact fun h => ⟨_, ohi_answers ht (opEvtRead_none h), (FldsKept.refl _ s).setFld _ (by simp)⟩
  case cfg =>
    exact fun sev irq hs hq => ⟨_, ohi_answers ht (opEvtCfg_sets hs hq ..), s.setEvtCfg_spec _ hs irq⟩
  case snapshot =>
    exact fun hd hs hr hn => ⟨s.snapped, s.snapNow, _, exec_telemetrySnapshot_due hd hs hr hn, rfl, rfl, rfl, rfl, rfl, rfl, rfl,
      s.fld_snapDropped, s.snapDropped_flds.congr rfl⟩

end Sys2Proof.Machine
end

section
/-! SUPPORT. The self-refresh of the memory through lanes lost and the last messages of GASP. -/

namespace Sys2Proof.Machine

/-- The self-refresh flag as a register table holds it. -/
def refreshOf (regs : Tbl Nat) : Nat := tget (Fld.HBM_STATUS_self_refresh.resetAt 0) (Fld.HBM_STATUS_self_refresh.key 0) regs

/-- Whether memory is in self-refresh, which what GASP stops after its engines may not change. -/
def State.refresh (s : State) : Nat := refreshOf s.regs

@[simp] theorem State.refresh_mk
    (pending regs tel tick free mgmt pat full grid chans ola dlv host drm tim hlk gau ser cmd bob hbm sec rst ldr) :
    (State.mk pending regs tel tick free mgmt pat full grid chans ola dlv host drm tim hlk gau ser cmd bob hbm sec rst ldr).refresh
      = refreshOf regs := rfl

@[simp] theorem State.refreshOf_regs (s : State) : refreshOf s.regs = s.refresh := rfl

@[simp] theorem State.refresh_ite (P : Prop) [Decidable P] (s t : State) :
    (if P then s else t).refresh = if P then s.refresh else t.refresh := apply_ite ..

@[simp] theorem State.refresh_foldl {α : Type} {f : State → α → State} (hf : ∀ s x, (f s x).refresh = s.refresh) (l : List α)
    (s : State) : (l.foldl f s).refresh = s.refresh :=
  List.foldlRecOn (motive := fun t : State => t.refresh = s.refresh) l f rfl fun t ht x _ => (hf t x).trans ht

@[simp] theorem refresh_forAll {f : Nat → State → State} (hf : ∀ i s, (f i s).refresh = s.refresh) (l : List Nat) (s : State) :
    (forAll l f s).refresh = s.refresh :=
  State.refresh_foldl (fun s i => hf i s) l s

/-! Registers, events, requests and answers: of the registers only the flag itself counts. -/

@[simp] theorem State.refresh_setFld (s : State) {F : Fld} (h : F ≠ .HBM_STATUS_self_refresh) (i v : Nat) :
    (s.setFld F i v).refresh = s.refresh := s.fld_setFld_ne v fun e => h e.1.symm

@[simp] theorem refreshOf_setFld (s : State) {F : Fld} (h : F ≠ .HBM_STATUS_self_refresh) (i v : Nat) :
    refreshOf (s.setFld F i v).regs = s.refresh := s.refresh_setFld h i v

@[simp] theorem State.refresh_setFlag (s : State) {F : Fld} (h : F ≠ .HBM_STATUS_self_refresh) (i : Nat) (b : Bool) :
    (s.setFlag F i b).refresh = s.refresh := s.refresh_setFld h ..

@[simp] theorem State.refresh_bumpN (s : State) {F : Fld} (h : F ≠ .HBM_STATUS_self_refresh) (i n : Nat) :
    (s.bumpN F i n).refresh = s.refresh := s.refresh_setFld h ..

@[simp] theorem State.refresh_bump (s : State) {F : Fld} (h : F ≠ .HBM_STATUS_self_refresh) (i : Nat) :
    (s.bump F i).refresh = s.refresh := s.refresh_bumpN h ..

@[simp] theorem State.refresh_log (s : State) (code panel inst data : Nat) : (s.log code panel inst data).refresh = s.refresh :=
  s.fld_log code panel inst data (F := .HBM_STATUS_self_refresh) (i := 0) (by decide)

@[simp] theorem State.refresh_updChan (s : State) (ch : Nat) (f : Chan → Chan) : (s.updChan ch f).refresh = s.refresh := rfl

@[simp] theorem State.refresh_setLane (s : State) (j : Nat) (l : Lane) : (s.setLane j l).refresh = s.refresh := rfl

@[simp] theorem State.refresh_updLane (s : State) (j : Nat) (f : Lane → Lane) : (s.updLane j f).refresh = s.refresh := rfl

@[simp] theorem State.refresh_requestState (s : State) (ch st cause : Nat) : (s.requestState ch st cause).refresh = s.refresh := by
  simp [State.requestState, State.request]

@[simp] theorem State.refresh_completeCmd (s : State) (c : Cmd) (opcode : Nat) (r : Resp) :
    (s.completeCmd c opcode r).refresh = s.refresh := by
  unfold State.completeCmd
  split <;> simp [State.answerOn, State.answerInBand, State.answerSpi, State.pushRsp, State.rspIndex, State.logRefuse]

/-! What the channels of a lost lane give up. -/

@[simp] theorem State.refresh_giveIf (s : State) (p : Option Pool) : (s.giveIf p).refresh = s.refresh := by
  unfold State.giveIf
  dsimp only
  split <;> rfl

@[simp] theorem State.refresh_unbuild (s : State) (f : Frame) : (s.unbuild f).refresh = s.refresh := by
  simp [State.unbuild]

@[simp] theorem State.refresh_unsendLi (s : State) (f : Frame) : (s.unsendLi f).refresh = s.refresh := by
  unfold State.unsendLi
  split <;> simp

@[simp] theorem State.refresh_cutRamp (s : State) (ch t : Nat) : (s.cutRamp ch t).refresh = s.refresh := by
  simp [State.cutRamp]

@[simp] theorem State.refresh_endExchange (s : State) (ch slot : Nat) : (s.endExchange ch slot).refresh = s.refresh := by
  simp [State.endExchange]

@[simp] theorem State.refresh_discardFrame (s : State) (f : Frame) : (s.discardFrame f).refresh = s.refresh := by
  simp [State.discardFrame, State.refundAir]

@[simp] theorem State.refresh_discardFrames (s : State) (ch : Nat) : (s.discardFrames ch).refresh = s.refresh := by
  simp [State.discardFrames]

@[simp] theorem State.refresh_olaEmpty (s : State) (x : Nat) : (s.olaEmpty x).refresh = s.refresh := by
  simp [State.olaEmpty, State.mapPairs, State.setPair]

@[simp] theorem State.refresh_updGauge (s : State) (ch : Nat) (f : GauCh → GauCh) : (s.updGauge ch f).refresh = s.refresh := rfl

@[simp] theorem State.refresh_switchNco (s : State) (ch who phase ftw amp : Nat) :
    (s.switchNco ch who phase ftw amp).refresh = s.refresh := by
  simp [State.switchNco]

@[simp] theorem State.refresh_gaugeIdle (s : State) (ch : Nat) : (s.gaugeIdle ch).refresh = s.refresh := by
  simp [State.gaugeIdle]

@[simp] theorem State.refresh_abandonCheck (s : State) (ch : Nat) : (s.abandonCheck ch).refresh = s.refresh := by
  simp [State.abandonCheck, State.sendCtl]

@[simp] theorem State.refresh_gaugeLaneLost (s : State) (ch : Nat) : (s.gaugeLaneLost ch).refresh = s.refresh := by
  simp [State.gaugeLaneLost]

/-! A lane that leaves its state. -/

@[simp] theorem State.refresh_setLaneState (s : State) (j st cause : Nat) : (s.setLaneState j st cause).refresh = s.refresh := by
  simp [State.setLaneState]

@[simp] theorem State.refresh_dropCtl (s : State) (j : Nat) : (s.dropCtl j).refresh = s.refresh := by
  refine (State.refresh_foldl (fun t m => ?_) _ _).trans (s.refresh_setLane j _)
  split <;> simp

@[simp] theorem State.refresh_olaDropHead (s : State) (j : Nat) : (s.olaDropHead j).refresh = s.refresh := by
  simp [State.olaDropHead]

@[simp] theorem State.refresh_keepTerms (s : State) (j : Nat) : (s.keepTerms j).refresh = s.refresh := rfl

@[simp] theorem State.refresh_laneLeave (s : State) (j st cause : Nat) : (s.laneLeave j st cause).refresh = s.refresh := by
  simp [State.laneLeave, State.laneLost, State.laneFallBack]

/-! GASP. -/

theorem State.refresh_gaspLinks (s : State) : s.gaspLinks.refresh = s.refresh := by
  simp [State.gaspLinks]

theorem State.refresh_gaspHosts (s : State) : s.gaspHosts.refresh = s.refresh := by
  unfold State.gaspHosts
  dsimp only
  split
  · rfl
  · split
    · rfl
    · exact State.refresh_foldl (by intro t i; rfl) _ s

theorem State.refresh_flashLog (s : State) (n : Nat) (ok : Bool) : (s.flashLog n ok).refresh = s.refresh := by
  unfold State.flashLog
  split <;> simp

theorem State.refresh_gaspEngines (s : State) : s.gaspEngines.refresh = 1 :=
  State.fld_setFlag_same _ .HBM_STATUS_self_refresh 0 true rfl

/-- Memory is in self-refresh from GASP entry on. -/
theorem State.refresh_enterGasp (s : State) (byKeep : Bool) : (s.enterGasp byKeep).fld .HBM_STATUS_self_refresh 0 = 1 := by
  show (s.enterGasp byKeep).refresh = 1
  unfold State.enterGasp
  rw [State.refresh_flashLog, State.refresh_gaspHosts, State.refresh_gaspLinks, State.refresh_gaspEngines]

/-- What GASP entry leaves in the power state and the registers that show it. -/
theorem State.enterGasp_rst (s : State) (byKeep : Bool) :
    (s.enterGasp byKeep).rst.pwr = .gasp ∧ (s.enterGasp byKeep).rst.byKeep = byKeep ∧
    (s.enterGasp byKeep).rst.gaspAt = s.tick ∧ (s.enterGasp byKeep).fld .PWR_STATUS_gasp 0 = 1 ∧
    (s.enterGasp byKeep).fld .HBM_STATUS_self_refresh 0 = 1 := by
  have entered := s.supply_enterGasp byKeep
  obtain ⟨hpwr, hrest⟩ := Prod.mk.inj entered
  obtain ⟨hkeep, hrest⟩ := Prod.mk.inj hrest
  obtain ⟨hat, hflag⟩ := Prod.mk.inj hrest
  exact ⟨hpwr, hkeep, hat, hflag, s.refresh_enterGasp byKeep⟩

end Sys2Proof.Machine
end

section
/-! SUPPORT. What a reset starts afresh: register fields it does not keep, the power state and the wake from KEEP. -/

namespace Sys2Proof.Machine

/-- A field that is not picked keeps the value it has. -/
theorem State.fld_takeFlds_unpicked (s old : State) {pick : Fld → Bool} {F : Fld} {i : Nat} (h : (fldOf (F.key i)).any pick = false) :
    (s.takeFlds old pick).fld F i = s.fld F i := by
  refine List.foldlRecOn (motive := fun t : State => t.fld F i = s.fld F i) _ _ rfl fun t ht e he => ?_
  have picked : (fldOf e.1).any pick = true := (List.mem_filter.mp he).2
  have apart : F.key i ≠ e.1 := by
    intro hk
    rw [hk, picked] at h
    exact absurd h (by decide)
  exact (tget_tset_ne apart _ _ _).trans ht

/-- A field that a reset does not keep starts from its reset value. -/
theorem State.fld_reborn_unkept (s : State) {keep : Fld → Bool} {F : Fld} {i : Nat} (h : (fldOf (F.key i)).any keep = false) :
    (s.reborn keep).fld F i = F.resetAt i := State.fld_takeFlds_unpicked _ s h

theorem State.reborn_pending (s : State) (keep : Fld → Bool) : (s.reborn keep).pending = s.pending := takeFlds_pending ..

theorem State.takeFlds_chans (s old : State) (pick : Fld → Bool) : (s.takeFlds old pick).chans = s.chans :=
  List.foldlRecOn (motive := fun t : State => t.chans = s.chans) _ _ rfl fun _ ht _ _ => ht

theorem State.reborn_chans (s : State) (keep : Fld → Bool) : (s.reborn keep).chans = [] := State.takeFlds_chans ..

theorem State.reborn_pwr (s : State) (keep : Fld → Bool) : (s.reborn keep).rst.pwr = .run := by
  rw [State.reborn, (State.takeFlds_rst_full ..).1]

theorem State.showRegion_rst (s : State) (r : Nat) : (s.showRegion r).rst = s.rst := rfl

theorem State.keepMemory_pwr (n old : State) : (n.keepMemory old).rst.pwr = n.rst.pwr := by
  unfold State.keepMemory
  refine List.foldlRecOn (motive := fun t : State => t.rst.pwr = n.rst.pwr) _ _ ?_ fun t ht r _ => ?_
  · rw [(State.takeFlds_rst_full ..).1]
    rfl
  · rw [State.showRegion_rst]
    exact ht

theorem State.asserted_pwr (s : State) (level : Nat) : (s.asserted level).rst.pwr = s.rst.pwr := by
  rw [State.asserted, State.setFld_rst]
  rfl

/-- A WARM reset that is no return from KEEP runs, and says so. -/
theorem State.warmReset_runs (s : State) : s.warmReset.rst.pwr = .run ∧ s.warmReset.fld .RST_CAUSE_from_keep 0 = 0 := by
  unfold State.warmReset
  extract_lets u n m k
  clear_value u
  have hn : n.rst.pwr = .run := by rw [show n = u.reborn fun F => fixedFld F || aonFld F from rfl, State.reborn_pwr]
  clear_value n
  have hm : m.rst.pwr = .run := by
    rw [show m = ((n.keepMemory u).keepTamper u).asserted lvWarm from rfl, State.asserted_pwr, State.keepTamper, State.updSec_rst,
      State.keepMemory_pwr, hn]
  clear_value m
  have hk : k.rst.pwr = .run := by
    show m.rst.pwr = .run
    exact hm
  refine ⟨?_, ?_⟩
  · rw [State.bump_rst, State.setFlag_rst]
    exact hk
  · rw [State.fld_bump, if_neg (by simp)]
    exact State.fld_setFlag_same k .RST_CAUSE_from_keep 0 false rfl

/-- A return from KEEP is recorded and counted. -/
theorem State.leaveKeep_flds (s : State) : s.leaveKeep.fld .RST_CAUSE_from_keep 0 = 1 ∧
    s.leaveKeep.fld .RST_CNT_warm_cnt 0 = min (s.fld .RST_CNT_warm_cnt 0 + 1) 255 := by
  unfold State.leaveKeep
  extract_lets ms u v w
  have shown : u.fld .RST_CNT_warm_cnt 0 = s.fld .RST_CNT_warm_cnt 0 :=
    (State.fld_setFld_ne _ _ (by simp)).trans (State.fld_setFld_ne _ _ (by simp))
  clear_value u
  have counted : w.fld .RST_CNT_warm_cnt 0 = s.fld .RST_CNT_warm_cnt 0 := (State.fld_congr (s := u) rfl _ _).trans shown
  clear_value w
  refine ⟨?_, ?_⟩
  · rw [State.fld_bump, if_neg (by simp)]
    exact State.fld_setFlag_same _ .RST_CAUSE_from_keep 0 true rfl
  · rw [State.fld_bump, if_pos ⟨rfl, rfl⟩, State.fld_setFlag, if_neg (by simp), State.asserted, State.fld_setFld_ne _ _ (by simp)]
    exact congrArg (fun n => min (n + 1) 255) counted

end Sys2Proof.Machine
end

section
/-! SUPPORT. Power whole (R490 to R502, R520): the rows of chapter 17 with what each leaves unchanged. -/

namespace Sys2Proof.Machine

/-! The input: lost, returned, GASP and KEEP. -/

theorem exec_inputLost_whole {s : State} (h : s.flag .PWR_STATUS_input_ok 0 = true) (dc : Bool) (bulk : Nat) : ∃ t : State,
    exec (.inputLost dc bulk) s = .next t ∧ t.fld .PWR_STATUS_input_ok 0 = 0 ∧ t.fld .PWR_STATUS_input_dc 0 = b2n dc ∧
      t.fld .PWR_STATUS_bulk 0 = bulk % 256 ∧ t.rst.lostAt = some s.tick ∧
      t.fld .PWR_CNT_loss 0 = (if s.mgmtUp then min (s.fld .PWR_CNT_loss 0 + 1) 255 else s.fld .PWR_CNT_loss 0) ∧
      FldsKept ([(.PWR_STATUS_input_ok, 0), (.PWR_STATUS_input_dc, 0), (.PWR_STATUS_bulk, 0), (.PWR_CNT_loss, 0)] ++ logFlds) s t := by
  refine ⟨_, congrArg Host.Outcome.next (if_neg (by simp [h])), ?_⟩
  extract_lets u v
  have kept : FldsKept ([(.PWR_STATUS_input_ok, 0), (.PWR_STATUS_input_dc, 0), (.PWR_STATUS_bulk, 0), (.PWR_CNT_loss, 0)] ++ logFlds) s v :=
    ((((FldsKept.refl _ s).setFlag (F := .PWR_STATUS_input_ok) (i := 0) false (by simp)).setFlag (F := .PWR_STATUS_input_dc) (i := 0) dc
      (by simp)).setFld (F := .PWR_STATUS_bulk) (i := 0) bulk (by simp)).congr rfl
  have ok : v.fld .PWR_STATUS_input_ok 0 = 0 := by
    show u.fld .PWR_STATUS_input_ok 0 = 0
    exact (State.fld_setFld_ne _ _ (by simp)).trans ((State.fld_setFlag ..).trans ((if_neg (by simp)).trans
      (State.fld_setFlag_same s .PWR_STATUS_input_ok 0 false rfl)))
  have isDc : v.fld .PWR_STATUS_input_dc 0 = b2n dc := by
    show u.fld .PWR_STATUS_input_dc 0 = b2n dc
    exact (State.fld_setFld_ne _ _ (by simp)).trans (State.fld_setFlag_same _ .PWR_STATUS_input_dc 0 dc rfl)
  have hbulk : v.fld .PWR_STATUS_bulk 0 = bulk % 256 := State.fld_setFld_same _ .PWR_STATUS_bulk 0 bulk
  have loss : v.fld .PWR_CNT_loss 0 = s.fld .PWR_CNT_loss 0 := by
    show u.fld .PWR_CNT_loss 0 = _
    exact (State.fld_setFld_ne _ _ (by simp)).trans ((State.fld_setFlag ..).trans ((if_neg (by simp)).trans
      ((State.fld_setFlag ..).trans (if_neg (by simp)))))
  have lost : v.rst.lostAt = some s.tick := rfl
  have up : v.mgmtUp = s.mgmtUp := rfl
  clear_value v
  rw [up]
  split
  · have apart {F : Fld} (hF : F ≠ .PWR_CNT_loss) (hl : (F, 0) ∉ logFlds) :
        ((v.bump .PWR_CNT_loss 0).note 0x0201 bulk).fld F 0 = v.fld F 0 := by
      rw [State.fld_note _ _ _ hl, State.fld_bump, if_neg (fun e => hF e.1)]
    refine ⟨(apart (by simp) (by simp [logFlds])).trans ok, (apart (by simp) (by simp [logFlds])).trans isDc,
      (apart (by simp) (by simp [logFlds])).trans hbulk, ?_, ?_, (kept.bump (by simp)).note _ _⟩
    · rw [State.note_rst, State.bump_rst, lost]
    · rw [State.fld_note _ _ _ (by simp [logFlds]), State.fld_bump, if_pos ⟨rfl, rfl⟩, loss]
      rfl
  · exact ⟨ok, isDc, hbulk, lost, loss, kept⟩

theorem exec_inputReturn_run {s : State} (h : s.flag .PWR_STATUS_input_ok 0 = false) (hr : s.rst.pwr = .run) (bulk : Nat) : ∃ t : State,
    exec (.inputReturn bulk) s = .next t ∧ t.fld .PWR_STATUS_input_ok 0 = 1 ∧ t.rst.lostAt = none ∧ t.rst.pwr = .run ∧
      FldsKept ([(.PWR_STATUS_input_ok, 0), (.PWR_STATUS_bulk, 0)] ++ logFlds) s t := by
  let u := (s.setFlag .PWR_STATUS_input_ok 0 true).setFld .PWR_STATUS_bulk 0 bulk
  have hu : u.fld .PWR_STATUS_input_ok 0 = 1 :=
    (State.fld_setFld_ne _ _ (by simp)).trans (State.fld_setFlag_same s .PWR_STATUS_input_ok 0 true rfl)
  have kept : FldsKept ([(.PWR_STATUS_input_ok, 0), (.PWR_STATUS_bulk, 0)] ++ logFlds) s u :=
    ((FldsKept.refl _ s).setFlag (F := .PWR_STATUS_input_ok) (i := 0) true (by simp)).setFld (F := .PWR_STATUS_bulk) (i := 0) bulk (by simp)
  have hpwr : u.rst.pwr = .run := hr
  have returned : exec (.inputReturn bulk) s
      = .next ((u.note 0x0202 ((u.tick - u.rst.lostAt.getD u.tick) / 200000)).updRst (fun r => { r with lostAt := none })) := by
    show execInputReturn bulk s = _
    rw [execInputReturn, if_neg (ne_true_of_eq_false h)]
    dsimp only
    rw [State.setFld_rst, State.setFlag_rst, hr]
  refine ⟨_, returned, (State.fld_note u _ _ (by simp [logFlds])).trans hu, rfl, ?_, (kept.note _ _).congr rfl⟩
  show (u.note _ _).rst.pwr = .run
  rw [State.note_rst, hpwr]

/-- The input returned in GASP that PWR_KEEP did not enter: a WARM reset. -/
theorem exec_inputReturn_gasp {s : State} (h : s.flag .PWR_STATUS_input_ok 0 = false) (hr : s.rst.pwr = .gasp) (hk : s.rst.byKeep = false)
    (bulk : Nat) : exec (.inputReturn bulk) s
      = .next ((s.setFlag .PWR_STATUS_input_ok 0 true).setFld .PWR_STATUS_bulk 0 bulk).warmReset := by
  show execInputReturn bulk s = _
  rw [execInputReturn, if_neg (ne_true_of_eq_false h)]
  dsimp only
  rw [State.setFld_rst, State.setFlag_rst, hr]
  dsimp only
  rw [if_neg (ne_true_of_eq_false hk)]

theorem exec_keepEntry_whole {s : State} (h : s.rst.pwr = .gasp) : ∃ t : State, exec .keepEntry s = .next t ∧ t.rst.pwr = .keep ∧
    t.full = none ∧ t.chans = [] ∧ t.tick = max s.tick (s.rst.gaspAt + msTicks 300) ∧ t.fld .PWR_STATUS_gasp 0 = 0 ∧
    t.pending = s.pending :=
  ⟨_, congrArg Host.Outcome.next (if_neg (not_not.mpr h)), rfl, State.reborn_full _ _, State.reborn_chans _ _, rfl,
    State.fld_reborn_unkept _ (by rw [fldOf_gasp]; rfl), State.reborn_pending _ _⟩

/-- A rise of BLANK0 in KEEP with the input present: the return from KEEP. -/
theorem exec_blank0KeepWake_present {s : State} (hk : s.rst.pwr = .keep) (ho : s.rst.off = false)
    (hi : s.flag .PWR_STATUS_input_ok 0 = true) (tick : Nat) :
    exec (.blank0KeepWake tick) s = .next ({ s with tick := max s.tick tick } : State).leaveKeep :=
  congrArg Host.Outcome.next ((if_neg (by simp [hk, ho])).trans (if_pos hi))

/-- A rise of BLANK0 in KEEP with the input absent is recorded. -/
theorem exec_blank0KeepWake_absent {s : State} (hk : s.rst.pwr = .keep) (ho : s.rst.off = false)
    (hi : s.flag .PWR_STATUS_input_ok 0 = false) (tick : Nat) : ∃ (t : State) (ms : Nat),
    exec (.blank0KeepWake tick) s = .next t ∧ t.rst.blankRing = (ms :: s.rst.blankRing).take 16 ∧ t.regs = s.regs := by
  let u : State := { s with tick := max s.tick tick }
  have absent : u.flag .PWR_STATUS_input_ok 0 = false := hi
  have recorded : u.keepEdge 0 true = { u with rst := { u.rst with blankRing := (u.aonMs :: u.rst.blankRing).take 16 } } :=
    if_pos (by simp [absent])
  have ran : exec (.blank0KeepWake tick) s = .next (u.keepEdge 0 true) :=
    congrArg Host.Outcome.next ((if_neg (by simp [hk, ho])).trans (if_neg (ne_true_of_eq_false hi)))
  exact ⟨_, u.aonMs, ran.trans (congrArg Host.Outcome.next recorded), rfl, rfl⟩

theorem fldOf_sources : fldOf (Fld.RST_CAUSE_sources.key 0) = some .RST_CAUSE_sources := by decide

theorem exec_aonStoresExhausted_whole {s : State} (hk : s.rst.pwr = .keep) (hi : s.flag .PWR_STATUS_input_ok 0 = false) : ∃ t : State,
    exec .aonStoresExhausted s = .next t ∧ t.rst.off = true ∧ t.fld .RST_CAUSE_sources 0 = 1 ∧ t.full = none := by
  have fresh : s.coldReset.fld .RST_CAUSE_sources 0 = 0 := by
    rw [State.coldReset, State.asserted, State.fld_setFld_ne _ _ (by simp)]
    exact State.fld_reborn_unkept s (by rw [fldOf_sources]; rfl)
  refine ⟨_, congrArg Host.Outcome.next (if_neg (by simp [hk, hi])), rfl, ?_, s.reborn_full fixedFld⟩
  show (s.coldReset.markSource 0).fld .RST_CAUSE_sources 0 = 1
  rw [State.markSource, State.fld_setFld_same, fresh]
  decide

/-! The reference clock, the crystal and the baseplate. -/

/-- Fields kept but some and those of an event, with more of the former. -/
theorem FldsKept.mono_log {fs gs : List (Fld × Nat)} {s t : State} (h : FldsKept (fs ++ logFlds) s t) (hs : ∀ x ∈ fs, x ∈ gs) :
    FldsKept (gs ++ logFlds) s t :=
  h.mono fun _ hx => List.mem_append.mpr ((List.mem_append.mp hx).imp_left (hs _))

/-- A switch to another source slews and is counted. -/
theorem State.refSwitch_other {s : State} {sel : Nat} (h : s.fld .PWR_CLK_STATUS_ref_sel 0 ≠ sel) :
    (s.refSwitch sel).fld .PWR_CLK_STATUS_slewing 0 = 1 ∧
      (s.refSwitch sel).fld .PWR_CNT_ref_switch 0 = min (s.fld .PWR_CNT_ref_switch 0 + 1) 255 := by
  unfold State.refSwitch
  rw [if_neg h]
  dsimp only
  refine ⟨?_, ?_⟩
  · rw [State.fld_note _ _ _ (by simp [logFlds]), State.fld_bump, if_neg (by simp)]
    exact State.fld_setFlag_same _ .PWR_CLK_STATUS_slewing 0 true rfl
  · rw [State.fld_note _ _ _ (by simp [logFlds]), State.fld_bump, if_pos ⟨rfl, rfl⟩, State.fld_setFlag, if_neg (by simp),
      State.fld_setFld_ne _ _ (by simp)]
    rfl

theorem exec_refclkValid_whole {s : State} (h : s.mgmtUp = true) (m25 : Bool) (ofs : Nat) : ∃ t : State,
    exec (.refclkValid m25 ofs) s = .next t ∧ t.fld .PWR_CLK_STATUS_refclk_valid 0 = 1 ∧
      t.fld .PWR_CLK_STATUS_ref_sel 0 = (if m25 then 2 else 1) ∧ t.fld .PWR_CLK_STATUS_ref_ofs 0 = ofs % 65536 ∧
      (s.fld .PWR_CLK_STATUS_ref_sel 0 ≠ (if m25 then 2 else 1) → t.fld .PWR_CLK_STATUS_slewing 0 = 1 ∧
        t.fld .PWR_CNT_ref_switch 0 = min (s.fld .PWR_CNT_ref_switch 0 + 1) 255) ∧
      FldsKept ([(.PWR_CLK_STATUS_refclk_valid, 0), (.PWR_CLK_STATUS_ref_sel, 0), (.PWR_CLK_STATUS_ref_ofs, 0),
        (.PWR_CLK_STATUS_slewing, 0), (.PWR_CNT_ref_switch, 0)] ++ logFlds) s t := by
  refine ⟨_, congrArg Host.Outcome.next (if_neg (by simp [h])), ?_⟩
  extract_lets u
  have small : (if m25 then 2 else 1) < 4 := by cases m25 <;> decide
  obtain ⟨hsel, hkept⟩ := u.refSwitch_flds small
  have valid : u.fld .PWR_CLK_STATUS_refclk_valid 0 = 1 :=
    (State.fld_setFld_ne _ _ (by simp)).trans (State.fld_setFlag_same s .PWR_CLK_STATUS_refclk_valid 0 true rfl)
  have hofs : u.fld .PWR_CLK_STATUS_ref_ofs 0 = ofs % 65536 := State.fld_setFld_same _ .PWR_CLK_STATUS_ref_ofs 0 ofs
  have kept : FldsKept [(.PWR_CLK_STATUS_refclk_valid, 0), (.PWR_CLK_STATUS_ref_ofs, 0)] s u :=
    ((FldsKept.refl _ s).setFlag (F := .PWR_CLK_STATUS_refclk_valid) (i := 0) true (by simp)).setFld (F := .PWR_CLK_STATUS_ref_ofs)
      (i := 0) ofs (by simp)
  clear_value u
  refine ⟨(hkept _ _ (by simp [logFlds])).trans valid, hsel, (hkept _ _ (by simp [logFlds])).trans hofs, fun hd => ?_,
    (kept.mono (by simp)).trans (hkept.mono_log (by simp))⟩
  rw [← kept .PWR_CLK_STATUS_ref_sel 0 (by simp)] at hd
  rw [← kept .PWR_CNT_ref_switch 0 (by simp)]
  exact State.refSwitch_other hd

theorem exec_clkRefLost_whole {s : State} (h : s.mgmtUp = true) (hv : s.flag .PWR_CLK_STATUS_refclk_valid 0 = true) : ∃ t : State,
    exec .clkRefLost s = .next t ∧ t.fld .PWR_CLK_STATUS_refclk_valid 0 = 0 ∧ t.fld .PWR_CLK_STATUS_ref_sel 0 = 0 ∧
      t.fld .PWR_CNT_ref_lost 0 = min (s.fld .PWR_CNT_ref_lost 0 + 1) 255 ∧
      FldsKept ([(.PWR_CLK_STATUS_refclk_valid, 0), (.PWR_CLK_STATUS_ref_sel, 0), (.PWR_CLK_STATUS_slewing, 0),
        (.PWR_CNT_ref_switch, 0), (.PWR_CNT_ref_lost, 0)] ++ logFlds) s t := by
  refine ⟨_, congrArg Host.Outcome.next (if_neg (by simp [h, hv])), ?_⟩
  extract_lets u
  obtain ⟨hsel, hkept⟩ := u.refSwitch_flds (sel := 0) (by decide)
  have invalid : u.fld .PWR_CLK_STATUS_refclk_valid 0 = 0 := by
    refine (State.fld_note _ _ _ (by simp [logFlds])).trans ?_
    rw [State.fld_bump, if_neg (by simp)]
    exact State.fld_setFlag_same s .PWR_CLK_STATUS_refclk_valid 0 false rfl
  have counted : u.fld .PWR_CNT_ref_lost 0 = min (s.fld .PWR_CNT_ref_lost 0 + 1) 255 := by
    refine (State.fld_note _ _ _ (by simp [logFlds])).trans ?_
    rw [State.fld_bump, if_pos ⟨rfl, rfl⟩, State.fld_setFlag, if_neg (by simp)]
    rfl
  have kept : FldsKept ([(.PWR_CLK_STATUS_refclk_valid, 0), (.PWR_CNT_ref_lost, 0)] ++ logFlds) s u :=
    (((FldsKept.refl _ s).setFlag (F := .PWR_CLK_STATUS_refclk_valid) (i := 0) false (by simp)).bump (F := .PWR_CNT_ref_lost) (i := 0)
      (by simp)).note _ _
  clear_value u
  refine ⟨(hkept _ _ (by simp [logFlds])).trans invalid, hsel, (hkept _ _ (by simp [logFlds])).trans counted,
    (kept.mono_log (by simp)).trans (hkept.mono_log (by simp))⟩

/-- The baseplate written and marked valid leaves every other field. -/
theorem State.fld_measured (s : State) (temp : Nat) {F : Fld} (hb : F ≠ .PWR_THERMAL_baseplate) (hv : F ≠ .PWR_THERMAL_t_valid) :
    ((s.setFld .PWR_THERMAL_baseplate 0 temp).setFlag .PWR_THERMAL_t_valid 0 true).fld F 0 = s.fld F 0 := by
  rw [State.fld_setFlag, if_neg (fun e => hv e.1), State.fld_setFld_ne _ _ (fun e => hb e.1)]

theorem State.baseplate_measured (s : State) {temp : Nat} (ht : temp < 256) :
    ((s.setFld .PWR_THERMAL_baseplate 0 temp).setFlag .PWR_THERMAL_t_valid 0 true).fld .PWR_THERMAL_baseplate 0 = temp := by
  rw [State.fld_setFlag, if_neg (by simp), State.fld_setFld_same]
  exact Nat.mod_eq_of_lt ht

/-- A baseplate at 85 °C or more that was not hot: hot, and counted. -/
theorem State.heatTemp_rises {s : State} {temp : Nat} (ht : temp < 256) (h85 : 85 ≤ signed 8 temp)
    (hh : s.flag .PWR_THERMAL_hot 0 = false) : (s.heatTemp temp).fld .PWR_THERMAL_baseplate 0 = temp ∧
      (s.heatTemp temp).fld .PWR_THERMAL_hot_cnt 0 = min (s.fld .PWR_THERMAL_hot_cnt 0 + 1) 255 ∧
      (s.heatTemp temp).rst = s.rst ∧
      FldsKept ([(.PWR_THERMAL_hot, 0), (.PWR_THERMAL_baseplate, 0), (.PWR_THERMAL_t_valid, 0), (.PWR_THERMAL_hot_cnt, 0)] ++ logFlds) s
        (s.heatTemp temp) := by
  unfold State.heatTemp
  extract_lets t u
  have measured : u.fld .PWR_THERMAL_baseplate 0 = temp := s.baseplate_measured ht
  have cool : u.flag .PWR_THERMAL_hot 0 = false := (congrArg (· == 1) (s.fld_measured temp (by simp) (by simp))).trans hh
  have count : u.fld .PWR_THERMAL_hot_cnt 0 = s.fld .PWR_THERMAL_hot_cnt 0 := s.fld_measured temp (by simp) (by simp)
  have kept : FldsKept ([(.PWR_THERMAL_hot, 0), (.PWR_THERMAL_baseplate, 0), (.PWR_THERMAL_t_valid, 0), (.PWR_THERMAL_hot_cnt, 0)]
      ++ logFlds) s u :=
    ((FldsKept.refl _ s).setFld (F := .PWR_THERMAL_baseplate) (i := 0) temp (by simp)).setFlag (F := .PWR_THERMAL_t_valid) (i := 0) true
      (by simp)
  have hrst : u.rst = s.rst := rfl
  clear_value u
  rw [if_pos ⟨h85, cool⟩]
  refine ⟨?_, ?_, ?_, ((kept.setFlag true (by simp)).bump (by simp)).note _ _⟩
  · rw [State.fld_note _ _ _ (by simp [logFlds]), State.fld_bump, if_neg (by simp), State.fld_setFlag, if_neg (by simp), measured]
  · rw [State.fld_note _ _ _ (by simp [logFlds]), State.fld_bump, if_pos ⟨rfl, rfl⟩, State.fld_setFlag, if_neg (by simp), count]
    rfl
  · rw [State.note_rst, State.bump_rst, State.setFlag_rst, hrst]

/-- A hot baseplate below 80 °C is hot no more. -/
theorem State.heatTemp_falls {s : State} {temp : Nat} (ht : temp < 256) (h80 : signed 8 temp < 80)
    (hh : s.flag .PWR_THERMAL_hot 0 = true) : (s.heatTemp temp).fld .PWR_THERMAL_hot 0 = 0 ∧
      (s.heatTemp temp).fld .PWR_THERMAL_baseplate 0 = temp ∧
      FldsKept ([(.PWR_THERMAL_hot, 0), (.PWR_THERMAL_baseplate, 0), (.PWR_THERMAL_t_valid, 0)] ++ logFlds) s (s.heatTemp temp) := by
  unfold State.heatTemp
  extract_lets t u
  have measured : u.fld .PWR_THERMAL_baseplate 0 = temp := s.baseplate_measured ht
  have hot : u.flag .PWR_THERMAL_hot 0 = true := (congrArg (· == 1) (s.fld_measured temp (by simp) (by simp))).trans hh
  have kept : FldsKept ([(.PWR_THERMAL_hot, 0), (.PWR_THERMAL_baseplate, 0), (.PWR_THERMAL_t_valid, 0)] ++ logFlds) s u :=
    ((FldsKept.refl _ s).setFld (F := .PWR_THERMAL_baseplate) (i := 0) temp (by simp)).setFlag (F := .PWR_THERMAL_t_valid) (i := 0) true
      (by simp)
  clear_value u
  rw [if_neg (by simp [hot]), if_pos ⟨h80, hot⟩]
  refine ⟨?_, ?_, (kept.setFlag false (by simp)).note _ _⟩
  · rw [State.fld_note _ _ _ (by simp [logFlds])]
    exact State.fld_setFlag_same u .PWR_THERMAL_hot 0 false rfl
  · rw [State.fld_note _ _ _ (by simp [logFlds]), State.fld_setFlag, if_neg (by simp), measured]

/-- A temperature below 100 °C: the baseplate is measured, and a brown-out by heat ends below 90 °C. -/
theorem exec_pwrHot_below {s : State} {temp : Nat} (hm : s.mgmtUp = true) (h100 : signed 8 temp < 100) :
    exec (.pwrHot temp) s = .next (if signed 8 temp < 90 then (s.heatTemp temp).updRst (fun r => { r with heat := false })
      else s.heatTemp temp) := by
  refine congrArg Host.Outcome.next ((if_neg fun h => absurd h.1 (not_le.mpr h100)).trans ?_)
  rw [if_pos hm]

end Sys2Proof.Machine
end

section
/-! SUPPORT. O57: power follows the supply. -/

namespace Sys2Proof.Machine

/-- PWR_KEEP while a channel is LIVE. -/
theorem exec_pwrKeep_live {c : Cmd} {s : State} {ch : Nat} (ht : s.Takes c) (hp : c.pnl = 0) (hc : ch < 192)
    (hl : s.effState ch = chLive) : exec (.pwrKeep c []) s = .next (s.answer c 0x0202 (rsp .badState)) := by
  have live : (List.range 192).any (fun ch => s.effState ch == chLive) = true :=
    List.any_eq_true.mpr ⟨ch, List.mem_range.mpr hc, beq_iff_eq.mpr hl⟩
  refine ohi_answers ht ?_
  rw [opPwrKeep, if_neg (by simp), if_neg (not_not.mpr hp), if_pos (.inr (.inr live))]
  rfl

/-- Settles O57: each row as the operation it is; GASP entry leaves memory in self-refresh because nothing it stops afterwards writes
that flag, and a reset leaves at its reset value each field it does not keep. -/
theorem powerStatesFollowTheSupply : Obligations.PowerStatesFollowTheSupply := by
  refine ⟨?commands, ?lost, ?returned, ?gasp, ?keep, ?wake, ?exhausted, fun _ _ => rfl, ?valid, ?refLost, ?slewed, ?crystal, ?heat⟩
  case commands =>
    intro s c ht
    refine ⟨?_, fun ch hp hc hl => exec_pwrKeep_live ht hp hc hl, fun hp hr hi hl => ?_⟩
    · by_cases hp : c.pnl = 0
      · rw [if_pos hp]
        exact exec_pwrQuery ht hp
      · rw [if_neg hp]
        exact ohi_answers ht (if_pos hp)
    · exact ⟨_, exec_pwrKeep ht hp hr hi hl, s.enterGasp_rst true⟩
  case lost =>
    exact fun s dc bulk => ⟨fun h => congrArg Host.Outcome.next (if_pos h), fun h => exec_inputLost_whole h dc bulk⟩
  case returned =>
    intro s bulk h
    refine ⟨fun hr => exec_inputReturn_run h hr bulk, fun hr hk => ⟨_, exec_inputReturn_gasp h hr hk bulk, ?_⟩⟩
    exact ⟨(State.inReset_warmReset _).1, State.warmReset_runs _⟩
  case gasp =>
    refine fun s => ⟨fun h => ?_, fun t0 hl hr hm => ⟨_, exec_gaspEntry hl hr hm, State.enterGasp_rst _ false⟩⟩
    show execGaspEntry s = _
    rw [execGaspEntry, h]
  case keep =>
    exact fun s => ⟨fun h => congrArg Host.Outcome.next (if_pos h), exec_keepEntry_whole⟩
  case wake =>
    intro s tick
    refine ⟨fun h => congrArg Host.Outcome.next (if_pos (.inl h)), fun hk ho hi => ⟨_, exec_blank0KeepWake_present hk ho hi tick, ?_⟩,
      fun hk ho hi => exec_blank0KeepWake_absent hk ho hi tick⟩
    exact ⟨(State.leaveKeep_rst _).1, (State.leaveKeep_rst _).2, State.leaveKeep_flds _⟩
  case exhausted => exact fun s => exec_aonStoresExhausted_whole
  case valid =>
    exact fun s m25 ofs => ⟨fun h => congrArg Host.Outcome.next (if_pos h), fun h => exec_refclkValid_whole h m25 ofs⟩
  case refLost => exact fun s => exec_clkRefLost_whole
  case slewed =>
    exact fun s => ⟨fun h => congrArg Host.Outcome.next (if_neg (by simp [State.flag, h])),
      fun h => congrArg Host.Outcome.next (if_pos (by simp [State.flag, h]))⟩
  case crystal =>
    intro s
    have stopped : FldsKept ([(.PWR_TOD_HI_tod_valid, 0)] ++ logFlds) s (s.setFlag .PWR_TOD_HI_tod_valid 0 false) :=
      (FldsKept.refl _ s).setFlag false (by simp)
    obtain ⟨t, ht, hv⟩ := exec_pwrXtal s
    obtain rfl : (s.setFlag .PWR_TOD_HI_tod_valid 0 false).note 0x0204 0 = t := by injection ht
    exact ⟨_, rfl, hv, stopped.note _ _⟩
  case heat =>
    intro s temp ht hm hheat
    refine ⟨fun h85 h100 hh => ⟨_, exec_pwrHot_below hm h100, ?_⟩, fun h80 hh => ⟨_, exec_pwrHot_below hm (by omega), ?_⟩⟩
    · obtain ⟨hbase, hcnt, hrst, hkept⟩ := State.heatTemp_rises ht h85 hh
      have hot := State.heatTemp_hot h85 hh
      split
      · exact ⟨hot, hbase, rfl, hcnt, hkept.congr rfl⟩
      · exact ⟨hot, hbase, (congrArg RstSt.heat hrst).trans hheat, hcnt, hkept⟩
    · obtain ⟨hcool, hbase, hkept⟩ := State.heatTemp_falls ht h80 hh
      rw [if_pos (by omega)]
      exact ⟨hcool, hbase, hkept.congr rfl⟩

end Sys2Proof.Machine
end
